-- ==== Sys2Proof/Word.lean ====
section
/-!
DEFINITION. Word.lean: the byte, and the records that commands carry as operands: where a request comes from, the frames
that arrive, and what the module's inputs read (00 R5, R7).
-/

namespace Sys2Proof

/-- A byte of a frame, payload or key. -/
abbrev Byte := BitVec 8

/-- Where a mailbox envelope comes from (13 R371, R373). -/
inductive Source where
  /-- A fabric source address (mailboxes 0 to 5). -/
  | fabric (addr : Nat)
  /-- An IPv4 address and UDP port on SVC (mailbox 6). -/
  | udp (ip port : Nat)
  /-- The two-wire host (mailbox 7). -/
  | tw
  deriving DecidableEq, Repr

/-- A CAN frame as sent or received (17 R493). -/
structure CanFrame where
  /-- ID. -/
  id : Nat
  /-- IDE. -/
  ide : Bool
  /-- FDF. -/
  fdf : Bool
  /-- BRS. -/
  brs : Bool
  /-- ESI. -/
  esi : Bool
  /-- RTR. -/
  rtr : Bool
  /-- DLC. -/
  dlc : Nat
  /-- Data bytes. -/
  data : List Byte
  deriving DecidableEq, Repr

/-- One adjacency in an advertisement (15 R445). -/
structure LsaAdj where
  /-- Neighbour address. -/
  node : Nat
  /-- Port 1 to 3. -/
  port : Nat
  /-- STUB. -/
  stub : Bool
  /-- Link delay in ns. -/
  delay : Nat
  deriving DecidableEq, Repr

/-- A link-state advertisement (15 R445). -/
structure Lsa where
  /-- ORIGIN. -/
  origin : Nat
  /-- L_FLAGS: bit 0 PROVISIONAL, 1 BORDER, 2 DORMANT. -/
  flags : Nat
  /-- SERIAL. -/
  serial : Nat
  /-- LSA_SEQ. -/
  seq : Nat
  /-- Adjacencies. -/
  adj : List LsaAdj
  /-- String address and its claim code. -/
  str : Option (Nat × Nat)
  /-- Segment summaries: segment, hops. -/
  seg : List (Nat × Nat)
  deriving DecidableEq, Repr

/-- A frame as a fabric port receives it (15 R432 to R435). -/
structure FabFrame where
  /-- The FCS is right. -/
  fcsOk : Bool
  /-- It carries a VLAN tag. -/
  tagged : Bool
  /-- Its destination is the group address or the port's own MAC address. -/
  addressed : Bool
  /-- EtherType. -/
  ethertype : Nat
  /-- Fabric header, payload and padding. -/
  body : List Byte
  /-- Time from its ingress capture to its egress capture, in ns, when it is passed on. -/
  residence : Nat
  deriving DecidableEq, Repr

/-- A request as it arrives at a tap (02 R44). -/
structure TapReq where
  /-- Ring, 0 or 1. -/
  ring : Nat
  /-- Position of the tap, 1 to 16. -/
  pos : Nat
  /-- The ADDR byte as received. -/
  addr : Nat
  /-- The CRC as received. -/
  crc : Nat
  /-- Payload. -/
  payload : List Byte
  /-- The CMD byte as received where it is no request code of 02 R51: an unknown code, or from 0x80 on a response on its way to
  the module. The row's own code where none is given. -/
  code : Option Nat := none
  deriving DecidableEq, Repr

/-- What an enumeration learns of one tap (02 R52, R53). -/
structure TapObs where
  /-- Serial. -/
  serial : Nat
  /-- Hardware revision. -/
  hwRev : Nat
  /-- Firmware version. -/
  fwVer : Nat
  /-- Interface level. -/
  level : Nat
  /-- Chemistry code. -/
  chem : Nat
  /-- OV clamp min, OV clamp max, UV clamp min, UV clamp max. -/
  clamps : List Nat
  /-- Turnaround in ns. -/
  tta : Nat
  /-- Lead resistances in milliohm. -/
  leads : List Nat
  /-- Mean round trip of the ECHO probes from the low end, in ns. -/
  rtUp : Option Nat
  /-- The same from the high end. -/
  rtDn : Option Nat
  deriving DecidableEq, Repr

/-- What an enumeration finds on a ring (02 R52, R566). -/
structure RingObs where
  /-- Mean delay of the NOP frames round the loop in ns; none when they did not return. -/
  loop : Option Nat
  /-- HOP of the NOP that was sent with HOP 62, as it returned. -/
  back : Nat
  /-- The taps that answer from the low end, nearest first. -/
  low : List TapObs
  /-- The taps that answer from the high end of an open loop, nearest first. -/
  high : List TapObs
  deriving DecidableEq, Repr

/-- What a boot finds (12 R351). -/
structure BootObs where
  /-- SS1 to SS8 as the safety processor's channel reads them, SS1 in bit 0. -/
  seals : Nat
  /-- Safety set number as Dome's channel reads it. -/
  dome : Nat
  /-- Both channels' checks of the selected set's CRC pass. -/
  crcOk : Bool
  /-- The RTC's TAI second; none when the RTC is not valid. -/
  rtc : Option Nat
  /-- What enumeration finds on rings A and B. -/
  rings : List RingObs
  /-- Self-test results of the control-law engines 0 to 3. -/
  engines : List Bool
  /-- Contexts whose store words show a double error. -/
  lost : List Nat
  deriving DecidableEq, Repr

end Sys2Proof
end

