-- ==== Sys2Proof/Syntax.lean ====
section
/-!
DEFINITION. Syntax.lean: the commands of the block, one constructor for each row of the opcode table. The first operand of every
command is the instant at which it happens, in ns from the module's delivery (notes/assumptions/1.md); the mailbox rows name the mailbox whose
request they serve; the event rows carry what is observed.
-/

namespace Sys2Proof

/-- A command of the module. -/
inductive Instr where
  /-- CLOCK_FAULT (R12): The supervisor or the safety processor has measured a local-oscillator deviation above 0.5 % for 1 ms; gates go off and the module enters Tripped. -/
  | clockFault (t ppm held : Nat)
  /-- CROSSING_TIMEOUT (R15): A handshake crossing has not completed 10 µs after the receiver woke; the sender discards the word and records the two islands. -/
  | crossingTimeout (t src dst waited : Nat)
  /-- ISLAND_SLEEP (R361): An island has become quiet; the supervisor chooses the deepest allowed sleep state and schedules its wake. -/
  | islandSleep (t k : Nat) (next : Option Nat) (busy : Bool) (rail : Option Nat)
  /-- ISLAND_WAKE (R361): The scheduled wake time of a sleeping island is reached and the island is woken before its next known event. -/
  | islandWake (t k : Nat)
  /-- TRIGGER_FIRE (R482): A periodic or one-shot cadence trigger reaches its time and drives a timing strobe to its island. -/
  | triggerFire (t n : Nat)
  /-- SWEEP_MARK (R54): The sweep-mark trigger launches a MARK on the ring ports so that every reached tap samples at the scheduled time. -/
  | sweepMark (t : Nat) (shunt2 hall2 : Option Int)
  /-- MARK_RECEIVED (R59): A tap receives a MARK, waits its delay, samples its 16 cells and increments its mark counter, ignoring marks within 200 µs of a sample. -/
  | markReceived (t i : Nat) (rev : Bool) (volts temps : List (Option Int)) (loopLow : Bool) (grid : List (List Int))
  /-- TAP_SLOT_SEND (R60): In slot mode a tap's slot time arrives and it sends its sweep data frame towards the high end. -/
  | tapSlotSend (t i : Nat) (quiet : Bool)
  /-- SWEEP_DATA_RECEIVE (R62): The module receives a tap's sweep data frame and keeps it or discards it for CRC, mark-count, DELAY_UNSET or CAL_FAULT. -/
  | sweepDataReceive (t r : Nat) (high : Bool) (f : List Byte)
  /-- COMMAND_WINDOW (R58): Sweep collection has ended and the command window opens for leases, impedance reads, probes, firmware blocks and diagnostics. -/
  | commandWindow (t r : Nat)
  /-- ENUMERATION (R52): The module enumerates a ring: loop delay, tap count, IDENTIFY, ECHO probes, delays, thresholds, collection mode and mark count. -/
  | enumeration (t r : Nat) (o : RingObs) (lost : List Nat)
  /-- DELAY_TABLE_REFRESH (R55): The delay refresh interval expires and changed tap delays are written with SET_DELAY from the continuous ECHO probes. -/
  | delayTableRefresh (t r : Nat) (rts : List (Option Nat × Option Nat))
  /-- RING_BREAK (R68): A MARK or request has not returned within L plus RETURN_TIMEOUT_EXTRA, so a break is declared on the ring. -/
  | ringBreak (t r waited : Nat) (isMark : Bool)
  /-- COLLECT_POLL_TIMEOUT (R70): A COLLECT poll has timed out after 30 µs plus twice the one-way delay and that end stops polling outward. -/
  | collectPollTimeout (t r : Nat) (high : Bool) (h waited : Nat)
  /-- SWEEP_STRETCHED (R73): A collection has not ended 60 µs before the next mark launch, so that mark is skipped. -/
  | sweepStretched (t r : Nat)
  /-- SPLIT_RESTORE_TEST (R74): Once per second a NOP is sent round a split ring and clean returns are counted. -/
  | splitRestoreTest (t r : Nat) (clean : Bool)
  /-- RETURN_TO_THROUGH (R74): After the re-measurement second, slot collection is set and the ring returns to through mode at the next second's first mark. -/
  | returnToThrough (t r loop : Nat) (rts : List (Option Nat × Option Nat))
  /-- FLT_TEST_DUE (R67): FLT_TEST_INTERVAL expires and a tap's FLT switch is tested, or the test is postponed while the loop is open. -/
  | fltTestDue (t r : Nat) (dip : Option Nat)
  /-- TAP_STATUS_POLL (R80): The periodic READ_STATUS poll gathers port CRC error counts and judges them in blocks of 1,000 frames. -/
  | tapStatusPoll (t i : Nat)
  /-- CELL_COMPARATOR_TRIP (R65): A tap's OV or UV comparator has been past its threshold for 2 ms; it latches and the tap opens its fault-loop switch. -/
  | cellComparatorTrip (t i c : Nat) (ov : Bool) (v : Int) (held : Nat)
  /-- CLK_LOCK_LOST (R42): A tap loses clock lock on the line and sets CLK_LOCK_LOST until read. -/
  | clkLockLost (t i : Nat)
  /-- TAP_SLEEP (R75): A tap sees no line activity for 5 ms and sleeps with its comparators active. -/
  | tapSleep (t i quiet : Nat)
  /-- SLOW_SWEEP (R357): A Dormant slow-sweep mark is due; the ring is prepared, swept, checked, the contexts updated, the container loop run and wake events judged. -/
  | slowSweep (t : Nat) (rts : List (List (Option Nat × Option Nat))) (frames : List (Nat × Bool × List Byte)) (tc : List (Option Int)) (shunt2 hall2 : Option Int)
  /-- SWEEP_PERIOD_CHANGE (R57): A new sweep period takes effect at the first mark of the next second, with balancing stopped and BAL_MODE resent. -/
  | sweepPeriodChange (t : Nat)
  /-- NOP (R48): A tap handles a NOP by hop-count rules and forwards it with no response. -/
  | nop (t : Nat) (q : TapReq)
  /-- TAP_IDENTIFY (R51): A tap reports serial, revisions, chemistry, threshold clamps and turnaround. -/
  | tapIdentify (t : Nat) (q : TapReq)
  /-- ECHO (R51): A tap sends an empty response back exactly t_ta after the request's SYN reference. -/
  | echo (t : Nat) (q : TapReq)
  /-- SET_DELAY (R51): A tap stores D_UP and D_DN, effective from its next mark. -/
  | setDelay (t : Nat) (q : TapReq)
  /-- SET_THRESH (R64): A tap rounds OV down and UV up to 5 mV, clamps them and applies them to all 16 comparators. -/
  | setThresh (t : Nat) (q : TapReq)
  /-- SET_MARK_COUNT (R51): A tap loads its mark counter. -/
  | setMarkCount (t : Nat) (q : TapReq)
  /-- READ_STATUS (R51): A tap reports its status word, port CRC errors, trip masks, loop current and supply. -/
  | readStatus (t : Nat) (q : TapReq) (loopMa : Nat) (supply : Option Int) (quiet : Bool)
  /-- CLEAR_TRIP (R65): A tap clears each latched trip whose cell is back inside its threshold by 20 mV, keeping latches on open leads. -/
  | clearTrip (t : Nat) (q : TapReq) (volts : List (Option Int))
  /-- FLT_TEST (R51): A tap opens its FLT switch for 10 µs starting 50 µs after receipt. -/
  | fltTest (t : Nat) (q : TapReq) (dip : Option Nat)
  /-- TAP_RESET (R51): A tap restarts its firmware, clearing delays and mark counter, while thresholds, comparators and FLT switch keep working. -/
  | tapReset (t : Nat) (q : TapReq) (leads : List Nat) (testFail calFail : Bool)
  /-- PT_PROBE (R76): Taps forward the probe and only a pass-through module answers with an empty response. -/
  | ptProbe (t : Nat) (q : TapReq) (rt : Option Nat)
  /-- SET_COLLECT (R51): A tap selects slot or poll collection mode. -/
  | setCollect (t : Nat) (q : TapReq)
  /-- COLLECT (R61): A tap answers with the sweep data of its last mark. -/
  | collect (t : Nat) (q : TapReq) (quiet : Bool)
  /-- RING_MAP (R81): Returns per ring the mode, tap count, break location, thresholds and per-position data. -/
  | ringMap (t m : Nat)
  /-- RING_RESTORE (R74): Lifts the SPLIT_LIMIT hold and waives the clean-second count so the ring returns to through mode. -/
  | ringRestore (t m : Nat)
  /-- RE_ENUMERATE (R52): Enumerates both rings. -/
  | reEnumerate (t m : Nat) (a b : RingObs)
  /-- FLT_TEST_NOW (R67): Tests every tap's FLT switch once. -/
  | fltTestNow (t m : Nat) (dips : List (List (Option Nat)))
  /-- CLEAR_TRIPS (R81): Broadcasts CLEAR_TRIP and returns the remaining trip masks. -/
  | clearTrips (t m : Nat) (volts : List (List (Option Int)))
  /-- READ_SWEEP (R81): Returns the latest sweep data for a cell range. -/
  | readSweep (t m : Nat)
  /-- BAL_RENEW (R89): The BAL_RENEW interval expires; the scheduler chooses leases and BAL_LEASE frames are sent to each reached tap. -/
  | balRenew (t : Nat)
  /-- BAL_LEASE (R88): A tap replaces the lease set of its two slots, renewing, reversing, moving or ending each, with a result per slot. -/
  | balLease (t : Nat) (q : TapReq) (temp : Int)
  /-- BAL_STOP (R87): A tap ends the masked leases and their current within 200 µs. -/
  | balStop (t : Nat) (q : TapReq)
  /-- BAL_MODE (R87): A tap sets gated or compensated mode and the predicted mark interval and ends every lease. -/
  | balMode (t : Nat) (q : TapReq)
  /-- BAL_LEASE_EXPIRY (R86): A slot's lease ends without renewal and the tap stops its current. -/
  | balLeaseExpiry (t i k : Nat)
  /-- BAL_CONVERTER_OVERTEMP (R85): A tap's converter temperature exceeds 105 °C and both slots' current ends within 200 µs. -/
  | balConverterOvertemp (t i : Nat) (temp : Int)
  /-- BAL_GATED_SUSPEND (R90): In gated mode a tap suspends balance current 40 µs before its predicted sample instant. -/
  | balGatedSuspend (t i : Nat)
  /-- BAL_RESUME (R90): Balance current resumes 10 µs after sampling, or 160 µs after the predicted instant if no MARK came. -/
  | balResume (t i : Nat)
  /-- BAL_STATUS (R104): Returns per tap the slot leases, results, remaining times and converter temperature. -/
  | balStatus (t m : Nat)
  /-- BAL_TOTALS (R104): Returns charge moved per cell in each direction for a cell range. -/
  | balTotals (t m : Nat)
  /-- BAL_FORCE (R104): Sets one cell's lease for a duration, renewed by the module. -/
  | balForce (t m : Nat)
  /-- BAL_FORCE_END (R104): A BAL_FORCE duration expires and normal scheduling resumes for that cell. -/
  | balForceEnd (t c : Nat)
  /-- BAL_RELEASE (R104): Ends every forced lease. -/
  | balRelease (t m : Nat)
  /-- EST_UPDATE_PERIOD (R127): An estimation update period starts; pending inputs are applied and each context with a new sweep is updated and its limit derived. -/
  | estUpdatePeriod (t : Nat) (errs : List Nat)
  /-- CTX_SAVE (R131): CTX_SAVE expires and all contexts with covariances and anchors are written to NVM. -/
  | ctxSave (t : Nat)
  /-- CTX_READ (R129): Returns up to 8 whole contexts, or PENDING while reads are deferred. -/
  | ctxRead (t m : Nat)
  /-- CTX_SUMMARY (R135): Returns the string's SOC, capacity and plating summary, fallback count, period and load. -/
  | ctxSummary (t m : Nat)
  /-- CTX_REINIT (R132): Re-initialises a cell range from open-circuit voltage if the string has rested. -/
  | ctxReinit (t m : Nat)
  /-- CTX_CELLS (R133): Answers TAP_REPLACED with KEPT or NEW for a position's 16 contexts. -/
  | ctxCells (t m : Nat)
  /-- CAP_SET (R135): Sets capacity and its sigma for a cell range and restarts anchoring. -/
  | capSet (t m : Nat)
  /-- CHEM_READ (R135): Reads bytes of a stored chemistry set. -/
  | chemRead (t m : Nat)
  /-- CHEM_WRITE (R122): Writes bytes into the staging copy of a chemistry set. -/
  | chemWrite (t m : Nat)
  /-- CTX_CLEAR_FLAGS (R135): Clears the masked W1C flags of a cell range. -/
  | ctxClearFlags (t m : Nat)
  /-- IMP_LEAD_START (R142): A due impedance window's excitation lead starts, ramping the multisine from zero over 2 ms. -/
  | impLeadStart (t : Nat)
  /-- IMP_WINDOW_START (R138): An impedance window starts on a sweep mark and taps and I6 begin demodulation grids. -/
  | impWindowStart (t : Nat)
  /-- IMP_WINDOW_END (R142): The window length expires; integration ends and the excitation fades over 2 ms. -/
  | impWindowEnd (t : Nat) (xs : List Int)
  /-- IMP_SETUP (R147): A tap stores the tone set and channel mask for later windows. -/
  | impSetup (t : Nat) (q : TapReq)
  /-- IMP_WINDOW (R147): A tap arms a window at a given mark count or aborts an armed or running window. -/
  | impWindow (t : Nat) (q : TapReq)
  /-- IMP_READ (R148): A tap returns the results of a window. -/
  | impRead (t : Nat) (q : TapReq)
  /-- TAP_IMP_LINE_LOSS (R149): A tap sees no line activity for more than 2 µs during a window and aborts its demodulation. -/
  | tapImpLineLoss (t i quiet : Nat)
  /-- IMP_STATUS (R161): Returns the impedance state, window, abort counts and block flag. -/
  | impStatus (t m : Nat)
  /-- IMP_RESULTS (R161): Returns a tone's results for a cell range. -/
  | impResults (t m : Nat)
  /-- IMP_SPECTRUM_NOW (R161): Makes a spectrum window due at once. -/
  | impSpectrumNow (t m : Nat)
  /-- PHASE_CURRENT_CYCLE (R177): Every 20 µs role P runs the phase-current loops and min-select and forms the reference with the excitation. -/
  | phaseCurrentCycle (t : Nat) (shunt hall : Option Int) (lanes : List (List Byte)) (vStr vLnk : Option Int)
  /-- STRING_LOOP_CYCLE (R244): Every 100 µs role S runs the ramp limiter, power conversion, link loops and thermal-capacity model. -/
  | stringLoopCycle (t : Nat) (vStr vLnk : Option Int)
  /-- ROLE_C_SWEEP (R173): On sweep delivery role C runs the cell-voltage, plating and temperature derating loops. -/
  | roleCSweep (t : Nat)
  /-- CONTAINER_LOOP (R338): Once per second role C chooses COOL, HEAT or IDLE and sets HTR, PMP and VLV. -/
  | containerLoop (t : Nat) (tc : List (Option Int))
  /-- ROLE_DEADLINE (R182): At a role's output deadline outputs are taken, missed samples counted and the shadow takes over at the third miss. -/
  | roleDeadline (t x : Nat) (late : List Nat) (shadowLate differ : Bool)
  /-- ENGINE_SELF_TEST_DONE (R185): An engine's self-test completes; a pass makes it shadow at the next boundary, a fail keeps it out of service. -/
  | engineSelfTestDone (t e : Nat) (pass : Bool)
  /-- ROLE_ROTATION (R187): At each 600 s boundary the shadow takes the next active role unless skipped. -/
  | roleRotation (t : Nat)
  /-- FOLLOWING_ERROR (R190): The reference-to-current error exceeds FE_LIMIT for FE_TIME; gates off and Hold, Tripped at the third in 10 minutes. -/
  | followingError (t : Nat)
  /-- SENSOR_DISAGREE (R192): CS-SHUNT and CS-HALL differ beyond the band for 5 ms and the failed sensor is identified. -/
  | sensorDisagree (t : Nat) (shunt hall : Int) (sum : Option Int) (held : Nat)
  /-- SENSOR_FROZEN (R193): A sensor code stays within 1 LSB for 64 cycles while duty changes, so it counts as failed. -/
  | sensorFrozen (t x spread cycles duty : Nat) (fault : Bool)
  /-- CURRENT_FEEDBACK_LOST (R195): Neither sensor recovers within 5 s of both failing; contactors open and the module enters Tripped. -/
  | currentFeedbackLost (t : Nat)
  /-- SENSOR_RECOVER (R195): A failed sensor has passed the freeze test for 1 s and agrees with the other. -/
  | sensorRecover (t x passed : Nat) (agrees : Bool)
  /-- CTRL_STATUS (R198): Returns the reference, winner, candidates, loop counts, sensor state and θ. -/
  | ctrlStatus (t m : Nat)
  /-- CTRL_ENGINES (R198): Returns each control engine's role, self-test and counts and the next rotation time. -/
  | ctrlEngines (t m : Nat)
  /-- CTRL_ENGINE_RETURN (R185): Self-tests an engine held out and returns it as shadow. -/
  | ctrlEngineReturn (t m : Nat) (pass : Bool)
  /-- CTRL_ROTATE_NOW (R198): Performs the next rotation step at once subject to the skip rules. -/
  | ctrlRotateNow (t m : Nat)
  /-- SENSOR_RESTORE (R196): Returns a failed current sensor to service after 10 s of agreement. -/
  | sensorRestore (t m : Nat)
  /-- WIN_TOTALS (R198): Returns the time each winner code has won since boot. -/
  | winTotals (t m : Nat)
  /-- VALLEY_REACHED (R206): A phase's compensated current reaches its valley reference; the next on-time is computed and a cycle start requested. -/
  | valleyReached (t n : Nat) (bits : List Bool) (age : Nat)
  /-- LIMIT_HIT (R216): A phase's current estimate reaches PHASE_I_MAX during on-time and the on-time ends at once. -/
  | limitHit (t n : Nat) (bits : List Bool) (age : Nat)
  /-- CYCLE_GROUP_BOUNDARY (R209): A cycle group ends; the pointer advances, trims integrate and added or dropped phases take effect. -/
  | cycleGroupBoundary (t : Nat)
  /-- INTERLEAVE_LIMIT (R209): A phase trim has been held at its bound for 100 ms. -/
  | interleaveLimit (t n : Nat)
  /-- BURST_ENTRY (R212): The applied reference has stayed below 4 % of I_RATED for 20 ms and the converter enters burst. -/
  | burstEntry (t : Nat)
  /-- BURST_FRAME (R213): A 2 ms burst frame starts; the accumulator decides a charge or discharge packet or a sleep frame. -/
  | burstFrame (t : Nat)
  /-- SOFT_START (R218): Switching starts from gates off with the applied current limited to a linear rise over SS_TIME. -/
  | softStart (t : Nat) (vStr vLnk : Int)
  /-- SOFT_START_RETRY (R220): The 100 ms retry wait ends and soft start is retried, or the fourth failure enters Tripped. -/
  | softStartRetry (t : Nat) (vStr vLnk : Int)
  /-- SIDEBAND_FRAME (R223): Every 10 µs a sideband frame with claim, dead time, flags and time is sent on each lane. -/
  | sidebandFrame (t : Nat)
  /-- GATE_STATUS_FRAME (R225): The module receives a gate driver status frame and checks its flags. -/
  | gateStatusFrame (t n : Nat) (b : List Byte)
  /-- LANE_TRAIN (R226): A lane trains with comma sequences until three valid status frames echo a sent SEQ. -/
  | laneTrain (t n : Nat)
  /-- LANE_DOWN (R226): No valid inbound byte or status frame within its timeout; an active lane's loss turns the gates off. -/
  | laneDown (t n quiet noStatus : Nat) (b : List Byte)
  /-- LANE_TIMEOUT_OFF (R228): A gate driver receives no valid gate byte for 2 µs on its accepted port and holds both switches off. -/
  | laneTimeoutOff (t n quiet : Nat)
  /-- DRIVER_DESAT (R228): A gate driver detects desaturation, turns the switch off and latches the flag until CLEAR. -/
  | driverDesat (t n : Nat) (hs : Bool)
  /-- MOD_STATUS (R232): Returns the modulator state and per-phase timing, currents and limit hits. -/
  | modStatus (t m : Nat)
  /-- LANE_STATUS (R232): Returns per lane the link state, errors and last status frame. -/
  | laneStatus (t m : Nat)
  /-- DT_TABLE_READ (R232): Returns the dead-time entries in force and staged. -/
  | dtTableRead (t m : Nat)
  /-- DT_TABLE_WRITE (R229): Stages 32 dead-time entries. -/
  | dtTableWrite (t m : Nat)
  /-- LANE_RETRAIN (R226): Retrains every fitted lane. -/
  | laneRetrain (t m : Nat)
  /-- SP_SET (R237): Accepts a current, power or link-voltage set-point, immediate or timed. -/
  | spSet (t m : Nat)
  /-- SETPOINT_APPLY (R240): A queued set-point's apply time is reached and it becomes the target at that string-loop cycle. -/
  | setpointApply (t : Nat)
  /-- DISPATCH_WATCHDOG (R248): SP_WATCHDOG passes with no accepted SP_SET and SP_FALLBACK becomes the target. -/
  | dispatchWatchdog (t : Nat)
  /-- SP_CANCEL (R243): Removes queued entries by apply time or all. -/
  | spCancel (t m : Nat)
  /-- SP_QUEUE_READ (R253): Returns each queued set-point entry. -/
  | spQueueRead (t m : Nat)
  /-- DISPATCH_STATUS (R251): Returns the dispatch status payload. -/
  | dispatchStatus (t m : Nat)
  /-- SP_SILENT (R255): Dome sees no valid SP_DEMAND wave for 300 µs and demands. -/
  | spSilent (t held : Nat)
  /-- DOME_FAULT (R255): The safety processor sees no Dome alive edge for 2 ms. -/
  | domeFault (t held : Nat)
  /-- DOME_DEMAND (R255): The safety processor acts on Dome's demand line as on its own demand. -/
  | domeDemand (t : Nat)
  /-- SWEEP_CHECK (R263): The safety processor checks a delivered sweep for SF1, SF2 and SF4, classifies loop trips and sets SAFETY_CEIL. -/
  | sweepCheck (t : Nat)
  /-- FLT_LOOP_OPEN (R66): Dome sees fault-loop current below 2 mA for 40 µs and demands for SF1 or SF2. -/
  | fltLoopOpen (t loop ma held : Nat)
  /-- FLT_SHORT (R262): Fault-loop current above 6 mA lasts 100 ms and Dome demands. -/
  | fltShort (t loop ma held : Nat)
  /-- OC_FAST_TRIP (R264): A Dome comparator sees current at or above SAFE_OC_FAST for 10 µs (SF3). -/
  | ocFastTrip (t sensor : Nat) (i : Int) (held : Nat)
  /-- OC_SLOW_TRIP (R261): The 100 µs mean current stays at or above SAFE_OC_SLOW for SAFE_OC_TIME (SF3). -/
  | ocSlowTrip (t : Nat)
  /-- SF4_T_ABSENT (R261): A fitted cell's temperature has been absent for SAFE_T_ABSENT_TIME (SF4). -/
  | sf4TAbsent (t c : Nat)
  /-- SI_CHANNEL_DEMAND (R276): An SI channel has been in its demand state for 1 ms and its safety function acts. -/
  | siChannelDemand (t i : Nat) (b : Bool) (held : Nat)
  /-- SI_CHANNEL_RELEASE (R276): An SI channel has been out of its demand state for 10 ms. -/
  | siChannelRelease (t i : Nat) (b : Bool) (held : Nat)
  /-- SI_DISCREPANCY (R279): A discrepancy between channels lasts beyond SI_DISC_TIME and latches a fault. -/
  | siDiscrepancy (t i : Nat)
  /-- TP_PULSE (R277): TP1 or TP2 switches off for 200 µs and the pulse checks run. -/
  | tpPulse (t tp : Nat) (low : List Bool)
  /-- TRIP_IN_OPEN (R266): TRIP-IN reads open for 1 ms and SF5 demands. -/
  | tripInOpen (t ma held : Nat)
  /-- SF8_DELAY_END (R268): SF8_DELAY expires and the safe state follows. -/
  | sf8DelayEnd (t : Nat)
  /-- SF9_STALE (R269): A fitted cell's newest valid sample exceeds the staleness limit and SF9 trips. -/
  | sf9Stale (t : Nat)
  /-- SAFE_STATE_OPEN (R259): Current falls below 2 % of I_RATED or 50 ms pass and the safety processor de-energises K1, K3 and K4. -/
  | safeStateOpen (t : Nat)
  /-- K2_ORDER_GAP (R315): K_ORDER_GAP after the first openings, K2 is de-energised. -/
  | k2OrderGap (t : Nat)
  /-- DOME_OPEN (R259): 48 ms to 50 ms after its demand Dome opens its low-side switches regardless of current. -/
  | domeOpen (t : Nat)
  /-- PLANT_STOP (R266): A matched valid PLANT_STOP from a safety master causes an SF5 demand. -/
  | plantStop (t plane : Nat) (b : List Byte)
  /-- PLANT_STOP_RELEASE (R266): The same master releases its PLANT_STOP demand. -/
  | plantStopRelease (t plane : Nat) (b : List Byte)
  /-- SAFETY_KEEPALIVE (R284): A matched keepalive restarts the safety message watchdog. -/
  | safetyKeepalive (t plane : Nat) (b : List Byte)
  /-- TRIP_NOTICE (R286): A valid TRIP_NOTICE from the partner puts the module in Tripped; others ignore it. -/
  | tripNotice (t plane : Nat) (b : List Byte)
  /-- SAFE_MSG_ORPHAN (R283): A valid copy has no partner copy after 2 ms and is discarded. -/
  | safeMsgOrphan (t src seq : Nat)
  /-- SAFE_LINK_LOST (R284): The safety message watchdog expires and SF5 demands. -/
  | safeLinkLost (t : Nat)
  /-- SINGLE_PLANE (R285): A plane declared failed for 1 s lets single valid copies be accepted with half the watchdog. -/
  | singlePlane (t p : Nat)
  /-- SEAL_CHANGED (R288): A boot-read seal switch changes after boot; Connect is refused until next boot. -/
  | sealChanged (t n : Nat) (on : Bool)
  /-- SAFE_STATUS (R297): Returns per SF and SI channel state, seals, set and watchdog. -/
  | safeStatus (t m : Nat)
  /-- SAFE_RESET (R271): Leaves Tripped for Watch when every cause, fault and acknowledgement condition is met, treating TRIP-IN last. -/
  | safeReset (t m : Nat)
  /-- TRIP_IN_RECHECK (R320): 20 ms after closing TRIP-OUT during reset, TRIP-IN is read and the reset completes or is refused. -/
  | tripInRecheck (t : Nat)
  /-- SAFE_SET_READ (R297): Returns a safety set's parameters, CRC and confirmation. -/
  | safeSetRead (t m : Nat)
  /-- SAFE_SET_CONFIRM (R292): Marks a safety set confirmed when the carried CRC equals the stored one. -/
  | safeSetConfirm (t m : Nat)
  /-- SAFE_COUNTERS (R297): Returns trip and message counters. -/
  | safeCounters (t m : Nat)
  /-- LOCAL_ACK_EXPIRY (R272): A local acknowledgement expires 10 minutes after its release. -/
  | localAckExpiry (t : Nat)
  /-- KF_EDGE (R302): A contactor auxiliary input changes and is time-stamped and checked against the command. -/
  | kfEdge (t n : Nat) (level : Bool) (vStr vLnk : Int)
  /-- K_DROPOUT (R303): An energised and confirmed contactor's feedback opens for 5 ms. -/
  | kDropout (t n held : Nat)
  /-- K_FAIL_CLOSE (R303): A contactor's feedback does not close within KF_CLOSE_TIME and Connect aborts. -/
  | kFailClose (t n : Nat)
  /-- K_WELDED (R303): A contactor's feedback does not open within KF_OPEN_TIME, or reads closed though never energised. -/
  | kWelded (t n held : Nat)
  /-- K_PULLIN_END (R300): K_PULLIN expires and the coil output changes to hold-duty chopping. -/
  | kPullinEnd (t n : Nat)
  /-- OUTPUT_OVERCURRENT (R301): An output stays at its 6 A limit for 1 ms and both switches open. -/
  | outputOvercurrent (t n ma held : Nat)
  /-- COIL_OPEN (R301): A hold current below 50 mA for 100 ms. -/
  | coilOpen (t n ma held : Nat)
  /-- COIL_SUPPLY_LOW (R301): PWR-COIL below 18 V for 10 ms turns the gates off. -/
  | coilSupplyLow (t mv held : Nat)
  /-- OUTPUT_TEST_PULSE (R305): A test slot opens and one switch of one output receives an off- or on-pulse. -/
  | outputTestPulse (t n : Nat)
  /-- OUTPUT_SWITCH_FAULT (R306): A de-energised output's node reads closed with its switch commanded open. -/
  | outputSwitchFault (t n hsMv lsMv : Nat)
  /-- PRECHARGE_HALF_TAU (R311): At 0.5 τ the fraction closed is judged against 25 % and 5 %. -/
  | prechargeHalfTau (t : Nat) (vLnk : Int)
  /-- PRECHARGE_THREE_TAU (R311): At 3 τ the fraction closed must reach 90 % before K1 closes. -/
  | prechargeThreeTau (t : Nat) (vLnk : Int)
  /-- PRE_ENERGY_TICK (R313): Every 1 ms with K3 closed the resistor energy model is advanced. -/
  | preEnergyTick (t : Nat) (vStr vLnk : Int)
  /-- K3_OVERLAP_END (R310): K3_OVERLAP after KF1 closed, K3 is de-energised. -/
  | k3OverlapEnd (t : Nat)
  /-- ORDERLY_GATES_OFF (R316): During orderly opening the current falls below 2 % or 10 s pass, and the gates turn off before the contactors open. -/
  | orderlyGatesOff (t : Nat)
  /-- OUT_STATUS (R322): Returns per output the command, readbacks, tests and counts, and the trip loop. -/
  | outStatus (t m : Nat)
  /-- CONNECT (R309): Checks the guards and runs the Connect sequence, PENDING until it ends. -/
  | connect (t m : Nat) (vStr vLnk : Int)
  /-- DISCONNECT (R316): Starts the orderly opening. -/
  | disconnect (t m : Nat)
  /-- PRE_HISTORY (R322): Returns the energy model and the last precharge attempts. -/
  | preHistory (t m : Nat)
  /-- PRE_MODEL_RESET (R322): Sets the precharge energy model to 0. -/
  | preModelReset (t m : Nat)
  /-- THERMAL_SAMPLE (R326): The supervisor samples all nine module sensors and adapts the rate. -/
  | thermalSample (t : Nat) (ts : List (Option Int))
  /-- NVM_FORBID_LIFT (R328): The board temperature has been in range for 10 s; the forbid lifts and waiting writes run. -/
  | nvmForbidLift (t : Nat)
  /-- THERMAL_SHUTDOWN (R330): A sensor reaches Dome's 110 °C comparator; lanes drop, Dome demands and the claim is released. -/
  | thermalShutdown (t mask held : Nat)
  /-- THERMAL_RESET_HOLD (R330): 20 ms after the shutdown decision Dome opens its low-side switches and holds all engines in reset. -/
  | thermalResetHold (t : Nat)
  /-- THERMAL_RELEASE (R334): All sensors below 95 °C for 30 s and Dome releases the reset; the module boots. -/
  | thermalRelease (t below : Nat)
  /-- THERMAL_AUTO_RECONNECT (R336): After a thermal restart the module issues CONNECT to Hold once the guards pass. -/
  | thermalAutoReconnect (t : Nat) (vStr vLnk : Int)
  /-- LOOP_FALLBACK (R341): 300 s after a coolant fault the fallback outputs apply. -/
  | loopFallback (t : Nat)
  /-- LOOP_WATCHDOG (R342): Role C has written no update for 3 s and the output hardware applies the fallback. -/
  | loopWatchdog (t : Nat)
  /-- VLV_OPEN (R343): Valve loop current below 3.6 mA for 1 s while commanded. -/
  | vlvOpen (t ua held : Nat)
  /-- THERM_STATUS (R346): Returns module and coolant temperatures, loop state, outputs and flags. -/
  | thermStatus (t m : Nat)
  /-- THERM_MANUAL (R346): Sets HTR, PMP and VLV directly for a duration. -/
  | thermManual (t m : Nat)
  /-- THERM_MANUAL_END (R346): The manual duration expires and the loop resumes. -/
  | thermManualEnd (t : Nat)
  /-- THERM_AUTO (R346): Ends manual outputs and resumes the loop. -/
  | thermAuto (t m : Nat)
  /-- BOOT (R351): Power-up runs rail start-up, Dome's safety set load, image loading, enumeration and lane training and ends in Watch or Tripped. -/
  | boot (t : Nat) (o : BootObs)
  /-- SHELF_WAKE (R352): PWR-AUX above 16 V, or HVS-STR at 150 V after a power-fail Shelf, for 100 ms wakes the module. -/
  | shelfWake (t aux str heldAux heldStr : Nat)
  /-- BOOT_FAIL (R352): A wake fails its boot and is retried after 10 s. -/
  | bootFail (t : Nat)
  /-- WAKE_AT_REACHED (R355): A registered WAKE_AT time arrives and a Dormant module enters Watch. -/
  | wakeAtReached (t : Nat)
  /-- DORMANT_AUTO (R356): The quiet conditions have held for DORMANT_QUIET and the module drops to Dormant. -/
  | dormantAuto (t : Nat)
  /-- PWR_AUX_LOSS (R358): PWR-AUX stays below 15 V for 2 ms; the supply changes to harvest and Connect, Run or Hold open in order. -/
  | pwrAuxLoss (t mv held str : Nat)
  /-- PWR_AUX_RETURN (R358): PWR-AUX stays above 16 V for 100 ms and the module returns to it. -/
  | pwrAuxReturn (t mv held : Nat)
  /-- CISTERN_SEQUENCE (R359): PWR-AUX and harvest are both lost and Cistern carries gates off, flush, save, record and entry to Shelf. -/
  | cisternSequence (t str : Nat) (ts8 : Option Int)
  /-- MODE_STATUS (R370): Returns the mode, power source and per-island sleep state. -/
  | modeStatus (t m : Nat)
  /-- ENTER_SERVICE (R370): Enters Service. -/
  | enterService (t m : Nat)
  /-- LEAVE_SERVICE (R370): Leaves Service for Watch or Tripped. -/
  | leaveService (t m : Nat)
  /-- RUN (R370): Enters Run from Hold with a soft start. -/
  | run (t m : Nat)
  /-- HOLD (R370): Ramps the request to 0 A, turns the gates off and enters Hold. -/
  | hold (t m : Nat)
  /-- ENTER_DORMANT (R370): Enters Dormant, isolated profile. -/
  | enterDormant (t m : Nat)
  /-- WAKE (R370): Wakes a Dormant module into Watch. -/
  | wake (t m : Nat)
  /-- WAKE_AT (R370): Registers or cancels a wake timer. -/
  | wakeAt (t m : Nat)
  /-- ENTER_SHELF (R353): Flushes, saves and removes all rails but the always-on domain within 2 s. -/
  | enterShelf (t m : Nat)
  /-- REQUEST (R377): A request envelope starts a command on an empty or holding mailbox, or is busy or a repeat. -/
  | request (t : Nat) (src : Source) (dst : Nat) (env : List Byte)
  /-- READ (R379): A read envelope returns PENDING, the held response or MAILBOX_EMPTY. -/
  | read (t : Nat) (src : Source) (dst : Nat) (env : List Byte)
  /-- ACK (R380): An ACK with the held SEQUENCE empties the mailbox. -/
  | ack (t : Nat) (src : Source) (dst : Nat) (env : List Byte)
  /-- COMMAND_DONE (R379): A command completes and its response is formed and sent once on mailboxes 0 to 6. -/
  | commandDone (t m : Nat)
  /-- MBX_IDLE_RELEASE (R373): A dynamic mailbox has been empty for MBX_IDLE_RELEASE and its binding ends. -/
  | mbxIdleRelease (t m : Nat)
  /-- STAGE_TIMEOUT (R389): 600 s without a STAGE from the owner discards the staged set. -/
  | stageTimeout (t f : Nat)
  /-- SPIRE_RESTART (R383): A Spire lockstep mismatch resets both cores; pending requests end with EXEC_FAULT. -/
  | spireRestart (t : Nat)
  /-- GET_STATUS (R386): Returns the function status block. -/
  | getStatus (t m : Nat)
  /-- STOP (R390): Brings a function to its stopped state. -/
  | stop (t m : Nat)
  /-- STAGE (R389): Stages parameter values after checking IDs and ranges. -/
  | stage (t m : Nat)
  /-- RESTART (R391): Validates the staged set and restarts the function with it. -/
  | restart (t m : Nat)
  /-- READ_PARAM (R388): Returns parameter values in force or staged. -/
  | readParam (t m : Nat)
  /-- DISCARD_STAGED (R389): Discards the staged set. -/
  | discardStaged (t m : Nat)
  /-- IDENTIFY (R400): Returns the module identity payload. -/
  | identify (t m : Nat)
  /-- GET_CHALLENGE (R397): Returns an 8-byte challenge for the mailbox. -/
  | getChallenge (t m : Nat)
  /-- MBX_STATUS (R399): Returns per-mailbox binding and state. -/
  | mbxStatus (t m : Nat)
  /-- MBX_RELEASE (R399): Ends a dynamic binding and empties the mailbox. -/
  | mbxRelease (t m : Nat)
  /-- COMMIT (R392): Applies a staged set to a running function when nothing needs a stop. -/
  | commit (t m : Nat)
  /-- KEY_SET (R398): Sets, replaces or removes a role key. -/
  | keySet (t m : Nat)
  /-- OWNER_LOCK (R399): Sets or clears the owner lock on installs. -/
  | ownerLock (t m : Nat)
  /-- HEARTBEAT_SEND (R406): Every 5 ms a heartbeat is sent on PAIR and both planes. -/
  | heartbeatSend (t : Nat)
  /-- HEARTBEAT (R408): A partner heartbeat is received and its RELINQUISH and STOPPED flags evaluated. -/
  | heartbeat (t path src : Nat) (ident : Bool) (mism : List Nat) (b : List Byte)
  /-- HEARTBEAT_TIMEOUT (R408): A heartbeat path is silent for 30 ms; one path raises PAIR_DEGRADED, both mean the partner failed. -/
  | heartbeatTimeout (t : Nat)
  /-- CHECKPOINT_PUSH (R419): Every 1 s the active sends a checkpoint as 114 blocks. -/
  | checkpointPush (t : Nat)
  /-- CHECKPOINT_BLOCK (R407): The standby collects a checkpoint block and switches buffers when a checkpoint completes. -/
  | checkpointBlock (t : Nat) (b : List Byte)
  /-- SWAP_PREPARE (R424): The standby receives PREPARE, wakes to Watch, trains lanes and answers READY. -/
  | swapPrepare (t : Nat) (b : List Byte)
  /-- SWAP_READY (R424): The active receives READY, ramps to 0 A, turns gates off and sends HAND naming mark N. -/
  | swapReady (t : Nat) (b : List Byte)
  /-- SWAP_HAND (R424): The standby receives HAND, claims role 8 and serves the rings from mark N + 1. -/
  | swapHand (t : Nat) (b : List Byte)
  /-- SWAP_TAKEN (R424): The former active receives TAKEN and enters Dormant, pair-standby. -/
  | swapTaken (t : Nat) (b : List Byte)
  /-- SWAP_ABORT (R424): An ABORT ends the swap with the old active in charge. -/
  | swapAbort (t : Nat) (b : List Byte)
  /-- SWAP_STEP_TIMEOUT (R407): A swap step is not answered in time; ABORT is sent and SWAP_FAILED recorded. -/
  | swapStepTimeout (t : Nat)
  /-- CLAIM_ROUND (R412): Every 1 ms Dome arbitrates claim codes bitwise, the winner drives the output field and the follower slot is set. -/
  | claimRound (t other : Nat) (lowAt2 freeAt25 : Bool) (field : Nat) (follower : Bool)
  /-- HOLD_FOLLOW_EXPIRY (R416): 2 s without a round with a role-8 or role-15 winner and the standby opens its outputs. -/
  | holdFollowExpiry (t : Nat)
  /-- PAIR_STARTUP (R418): After 100 rounds the booted module becomes standby or claims role 8. -/
  | pairStartup (t : Nat)
  /-- PAIR_START_FAULT (R418): A module lost every round for 2 s without becoming standby. -/
  | pairStartFault (t : Nat)
  /-- STANDBY_SELF_TEST (R421): Every 60 s the standby tests engines, checkpoint, switches and probing. -/
  | standbySelfTest (t : Nat) (ctrl est : List Bool) (readback : Bool)
  /-- PAIR_OVERRIDE_END (R425): The override duration ends and role 15 is released. -/
  | pairOverrideEnd (t : Nat)
  /-- HEALTH_REPORT (R427): Every 10 s the health report is published. -/
  | healthReport (t : Nat) (sfp : List (List Nat))
  /-- PAIR_STATUS (R429): Returns pair claim, heartbeat, checkpoint and follow state. -/
  | pairStatus (t m : Nat)
  /-- PAIR_SWAP (R424): Starts the planned hand-over. -/
  | pairSwap (t m : Nat)
  /-- PAIR_OVERRIDE (R425): Claims role 15 for a duration, or ends it. -/
  | pairOverride (t m : Nat)
  /-- PAIR_CKPT_NOW (R429): Pushes a checkpoint at once. -/
  | pairCkptNow (t m : Nat)
  /-- HEALTH_READ (R429): Returns the latest health report. -/
  | healthRead (t m : Nat)
  /-- HELLO_SEND (R442): Every 100 ms each enabled port sends a hello. -/
  | helloSend (t p k : Nat)
  /-- HELLO (R443): A received hello updates adjacency, link delay and neighbour checks. -/
  | hello (t p k : Nat) (h : List Byte)
  /-- HELLO_DEAD (R443): HELLO_DEAD periods pass without a hello and the adjacency drops. -/
  | helloDead (t p k : Nat)
  /-- PCS_SYNC_LOSS (R443): A port loses 1000BASE-X synchronisation and its adjacency drops. -/
  | pcsSyncLoss (t p k : Nat)
  /-- LSA_SEND (R445): A link-state advertisement is flooded every 1 s or after a change. -/
  | lsaSend (t p : Nat)
  /-- LSA (R445): A received advertisement is accepted if newer and flooded onward. -/
  | lsa (t p k : Nat) (a : Lsa)
  /-- LSA_AGE_OUT (R445): An advertisement not refreshed for 3.5 s is removed. -/
  | lsaAgeOut (t p origin : Nat)
  /-- ROUTE_COMPUTE (R446): Tower recomputes routes after a database change and moves flows. -/
  | routeCompute (t p : Nat)
  /-- FABRIC_FRAME_RECEIVE (R437): A fabric frame is checked, delivered or forwarded with HOPS_LEFT and TRACE updated. -/
  | fabricFrameReceive (t p k : Nat) (f : FabFrame)
  /-- PLANE_FAILED (R450): A plane has had no adjacency or no route to a safety master for 100 ms. -/
  | planeFailed (t p : Nat)
  /-- PLANE_UP (R450): The plane conditions have held the other way for 100 ms. -/
  | planeUp (t p : Nat)
  /-- FLOW_RETURN (R455): 1 s after a route returns, a moved flow returns to its preferred plane. -/
  | flowReturn (t addr cls : Nat)
  /-- FAB_STATUS (R462): Returns node, plane and per-port state and counters. -/
  | fabStatus (t m : Nat)
  /-- FAB_ROUTES (R462): Returns routes for a destination range. -/
  | fabRoutes (t m : Nat)
  /-- FAB_LSDB (R462): Returns a node's held advertisement. -/
  | fabLsdb (t m : Nat)
  /-- FAB_FLOWS (R462): Returns the 64 flow entries. -/
  | fabFlows (t m : Nat)
  /-- FAB_CLEAR_COUNTERS (R462): Clears the plane's counters. -/
  | fabClearCounters (t m : Nat)
  /-- ANNOUNCE (R469): A PTP Announce feeds the best master selection. -/
  | announce (t d num gm : Nat) (data : List Nat) (utc : Int)
  /-- SYNC (R471): A PTP Sync gives an offset that drives the servo of the selected domain. -/
  | sync (t d num seq : Nat) (origin rx corr : Int) (twoStep : Bool) (trace : Nat)
  /-- FOLLOW_UP (R469): A Follow_Up completes a two-step Sync. -/
  | followUp (t d num seq : Nat) (origin corr : Int)
  /-- DELAY_REQ (R469): A Delay_Req is answered as grandmaster or time-stamped on transmit. -/
  | delayReq (t d num seq : Nat) (own : Bool) (src : Nat) (corr : Int)
  /-- DELAY_RESP (R471): A Delay_Resp updates the mean path delay. -/
  | delayResp (t d num seq : Nat) (rx corr : Int) (trace : Nat)
  /-- DOMAIN_LOSS (R472): A domain delivers no Sync or Delay_Resp for 1 s and selection or holdover follows. -/
  | domainLoss (t d : Nat)
  /-- DOMAIN_DEGRADED_END (R475): The 8 s guard after ROUTE_CHANGED ends. -/
  | domainDegradedEnd (t d : Nat)
  /-- TIME_PREF_RETURN (R472): TIME_PREF has been usable for 60 s and is selected again. -/
  | timePrefReturn (t : Nat)
  /-- PPS_EDGE (R476): A PPS rising edge is stamped, corrected and steers the servo when it is the source. -/
  | ppsEdge (t n : Nat)
  /-- PPS_INVALID (R476): 1.5 s without a PPS edge makes the input invalid. -/
  | ppsInvalid (t n : Nat)
  /-- PPS_OUT (R477): At every whole second PPS-OUT goes high for 100 ms unless gated. -/
  | ppsOut (t : Nat)
  /-- TIME_STATUS (R486): Returns the counter, state, source and per-domain data. -/
  | timeStatus (t m : Nat)
  /-- TIME_EDGES (R486): Returns buffered edge stamps. -/
  | timeEdges (t m : Nat)
  /-- TIME_RESYNC (R478): Steps the counter to the selected source. -/
  | timeResync (t m : Nat)
  /-- TIME_SET (R478): Steps the counter to a given time while no source is usable. -/
  | timeSet (t m : Nat)
  /-- CAN_FRAME_RECEIVE (R494): A CAN frame matching the filters is stored in the receive FIFO, or dropped when all entries are owned. -/
  | canFrameReceive (t c : Nat) (f : CanFrame)
  /-- CAN_TX_ATTEMPT (R490): Before each attempt the controller takes the express entry or the FIFO head and sends it. -/
  | canTxAttempt (t c : Nat)
  /-- CAN_TX_END (R491): A transmission attempt completes, loses arbitration or errors, settling any pending cancel. -/
  | canTxEnd (t c outcome : Nat)
  /-- BUS_OFF (R492): The controller enters bus-off and its queue freezes. -/
  | busOff (t c : Nat)
  /-- BUS_OFF_RECOVERED (R492): 128 sequences of 11 recessive bits complete recovery and transmission resumes. -/
  | busOffRecovered (t c : Nat)
  /-- FR_MAP_SEND (R497): A forerunner map frame falls due and is sent by the role-8 module. -/
  | frMapSend (t k : Nat) (vStr : Option Int)
  /-- FR_SETPOINT_FRAME (R498): A forerunner set-point frame with a new counter acts as an immediate SP_SET. -/
  | frSetpointFrame (t : Nat) (d : List Byte)
  /-- FR_COMMAND_FRAME (R498): A forerunner command frame with a new counter acts as its mailbox command. -/
  | frCommandFrame (t : Nat) (d : List Byte) (vStr vLnk : Int)
  /-- CAN_STATUS (R513): Returns the CAN bus state, counters, sample points and occupancy. -/
  | canStatus (t m : Nat)
  /-- CAN_TX (R490): Queues a frame in the FIFO or express slot and returns its handle. -/
  | canTx (t m : Nat)
  /-- CAN_TX_CANCEL (R491): Cancels a queued entry or waits for its attempt. -/
  | canTxCancel (t m : Nat)
  /-- CAN_TX_QUERY (R513): Returns a transmit entry's state. -/
  | canTxQuery (t m : Nat)
  /-- CAN_RX_READ (R495): Returns the oldest unreleased received entries. -/
  | canRxRead (t m : Nat)
  /-- CAN_RX_RELEASE (R495): Releases received entries up to a sequence. -/
  | canRxRelease (t m : Nat)
  /-- CAN_RECOVER (R492): Starts bus-off recovery. -/
  | canRecover (t m : Nat)
  /-- TW_ADDRESS_MATCH (R504): TW-SVC recognises its address, acknowledges and wakes the module, stretching SCL. -/
  | twAddressMatch (t addr : Nat) (read : Option Nat)
  /-- TW_WINDOW_WRITE (R501): A write transfer sets the window pointer and writes bytes to locations without behaviour of their own. -/
  | twWindowWrite (t : Nat) (b : List Byte)
  /-- TW_DOORBELL_REQUEST (R503): A REQUEST written to DOORBELL submits the request buffer to mailbox 7. -/
  | twDoorbellRequest (t : Nat)
  /-- TW_DOORBELL_READ (R503): A READ written to DOORBELL copies the response into the response buffer. -/
  | twDoorbellRead (t : Nat)
  /-- TW_DOORBELL_ACK (R503): An ACK written to DOORBELL acknowledges the held response. -/
  | twDoorbellAck (t : Nat)
  /-- TW_TRANSFER_ABORT (R505): A START or STOP where an acknowledge or bit was due aborts the transfer. -/
  | twTransferAbort (t : Nat)
  /-- TW_LATE (R504): A byte cannot be served within 2 ms; SCL is released and the byte refused. -/
  | twLate (t : Nat) (reading : Bool)
  /-- TW_ATTENTION (R506): The module acts as controller and writes an attention message when the bus is free. -/
  | twAttention (t outcome : Nat)
  /-- TW_ATTN_RETRY (R507): TW_ATTN_RETRY expires after a refused byte and the message is tried again. -/
  | twAttnRetry (t outcome : Nat)
  /-- TW_BUS_CLEAR (R509): SDA is low before a transfer and up to 9 SCL pulses clear the bus, repeated every 1 s while stuck. -/
  | twBusClear (t : Nat) (high : Option Nat)
  /-- TW_ACC_XFER (R508): Performs one write and read transfer on the accessory bus. -/
  | twAccXfer (t m : Nat) (nack : Option Nat) (stretch : Nat) (rd : List Byte)
  /-- TW_ACC_STATUS (R513): Returns accessory bus fault counts. -/
  | twAccStatus (t m : Nat)
  /-- TW_SVC_STATUS (R513): Returns TW-SVC address, attention state and counts. -/
  | twSvcStatus (t m : Nat)
  /-- REC_FLUSH_PERIOD (R518): REC_FLUSH_PERIOD expires and a flush starts. -/
  | recFlushPeriod (t : Nat)
  /-- RECORD_FLUSH (R518): A flush writes buffered records to NVM in pages of 64, priority pages first. -/
  | recordFlush (t : Nat)
  /-- NVM_PAGE_COMMIT (R332): An NVM page write completes with its commit marker. -/
  | nvmPageCommit (t : Nat) (retired : Bool)
  /-- CURSOR_EXPIRY (R522): A cursor unused for 600 s is released. -/
  | cursorExpiry (t c : Nat)
  /-- REC_CLEAR_BLOCK (R524): A block of a clear is erased or marked and committed, and the next block follows. -/
  | recClearBlock (t : Nat) (retired : Bool)
  /-- REC_STATUS (R528): Returns recorder buffer, store and cursor state. -/
  | recStatus (t m : Nat)
  /-- REC_SEEK (R522): Claims a cursor and positions it. -/
  | recSeek (t m : Nat)
  /-- REC_READ (R523): Returns up to 16 records from a cursor and advances it. -/
  | recRead (t m : Nat)
  /-- REC_RELEASE (R522): Releases a held cursor. -/
  | recRelease (t m : Nat)
  /-- REC_FLUSH (R518): Starts a flush. -/
  | recFlush (t m : Nat)
  /-- REC_CLEAR (R524): Clears records up to a bound and makes a CLEAR record. -/
  | recClear (t m : Nat)
  /-- REC_CODES (R515): Returns event code descriptions. -/
  | recCodes (t m : Nat)
  /-- IMG_STATUS (R547): Returns image slot and install states. -/
  | imgStatus (t m : Nat)
  /-- IMG_OPEN (R534): Erases a staging slot and makes the caller its owner. -/
  | imgOpen (t m : Nat)
  /-- IMG_BLOCK (R534): Writes an image block at an offset. -/
  | imgBlock (t m : Nat)
  /-- IMG_CHECK (R535): Verifies signature, digest, header and compatibility of a slot. -/
  | imgCheck (t m : Nat) (partner : Option Nat)
  /-- IMG_INSTALL (R536): Installs a checked image engine by engine through the resident loader. -/
  | imgInstall (t m : Nat) (partner : Option Nat)
  /-- IMG_ABORT (R547): Erases a staging slot. -/
  | imgAbort (t m : Nat)
  /-- TAP_INSTALL (R544): Sends a checked TAP image to taps and swaps them one at a time. -/
  | tapInstall (t m : Nat)
  /-- INSTALL_STEP_DONE (R536): The loader has copied and verified an engine's image; the engine restarts and the boot pointer is committed. -/
  | installStepDone (t : Nat) (ok pass : Bool)
  /-- INSTALL_RESUME (R539): A paused install's condition has cleared for 1 s and it resumes. -/
  | installResume (t clear : Nat)
  /-- INSTALL_PAUSE_TIMEOUT (R539): 600 s in PAUSED ends the install with REFUSED_GUARD. -/
  | installPauseTimeout (t : Nat)
  /-- IMG_OWNER_TIMEOUT (R534): 3,600 s without a block ends the slot's ownership. -/
  | imgOwnerTimeout (t id : Nat)
  /-- FW_OPEN (R544): A tap erases its inactive bank for a new image. -/
  | fwOpen (t : Nat) (q : TapReq)
  /-- FW_BLOCK (R544): A tap writes a 128-byte firmware block. -/
  | fwBlock (t : Nat) (q : TapReq)
  /-- FW_CHECK (R544): A tap reports completeness, digest and missing blocks. -/
  | fwCheck (t : Nat) (q : TapReq)
  /-- FW_SWAP (R544): A tap restarts from the other bank. -/
  | fwSwap (t : Nat) (q : TapReq) (ver : Nat) (leads : List Nat) (testFail calFail : Bool)
  /-- TAP_SWAP_TIMEOUT (R545): A swapped tap does not return within 100 ms, or with the wrong version; the old bank is selected and TAP_FW_FAIL raised. -/
  | tapSwapTimeout (t : Nat) (ver : Option Nat)
  /-- CISTERN_MEASURE (R554): Every 24 h Cistern's capacitance is measured and CISTERN_J reported. -/
  | cisternMeasure (t full present cellMv : Nat)
  /-- IMP_WINDOW_SUSPEND (R95): A tap suspends balance current on the window's masked cells and their neighbours from 40 µs before an impedance window starts, in either balance mode. -/
  | impWindowSuspend (t i : Nat)
  /-- MATCHED_COPY_RETURN (R285): One second after Tower declares the failed plane up again, the module returns from single-copy acceptance to the matched-copy rule. -/
  | matchedCopyReturn (t : Nat)
  /-- OUTPUT_PULSE_END (R305): An output test pulse ends when the readback confirms the switch level, or at its 300 µs (off) or 100 µs (on) deadline, with OUTPUT_TEST_FAIL if unconfirmed. -/
  | outputPulseEnd (t n mv ma : Nat)
  /-- WAKE_COMPARATOR_ARM (R353): After a commanded Shelf, the wake comparator is armed once PWR-AUX has been below 16 V for at least 1 s. -/
  | wakeComparatorArm (t mv held : Nat)
  /-- TAP_WAKE (R75): A sleeping tap wakes on line activity and relocks its clock within 50 µs before the slow sweep's mark. -/
  | tapWake (t i : Nat)
  /-- ST_FLT_HOLD_END (R558): 60 s after the last record of severity 4 or higher, ST-FLT opens unless the module is in Tripped. -/
  | stFltHoldEnd (t : Nat)
  /-- SUPERVISOR_WATCHDOG (R558): The supervisor's watchdog goes unserved and ST-OK opens. -/
  | supervisorWatchdog (t : Nat) (served : Bool)
  deriving DecidableEq, Repr

/-- The instant of a command. -/
def Instr.instant : Instr → Nat
  | .clockFault t _ _ => t
  | .crossingTimeout t _ _ _ => t
  | .islandSleep t _ _ _ _ => t
  | .islandWake t _ => t
  | .triggerFire t _ => t
  | .sweepMark t _ _ => t
  | .markReceived t _ _ _ _ _ _ => t
  | .tapSlotSend t _ _ => t
  | .sweepDataReceive t _ _ _ => t
  | .commandWindow t _ => t
  | .enumeration t _ _ _ => t
  | .delayTableRefresh t _ _ => t
  | .ringBreak t _ _ _ => t
  | .collectPollTimeout t _ _ _ _ => t
  | .sweepStretched t _ => t
  | .splitRestoreTest t _ _ => t
  | .returnToThrough t _ _ _ => t
  | .fltTestDue t _ _ => t
  | .tapStatusPoll t _ => t
  | .cellComparatorTrip t _ _ _ _ _ => t
  | .clkLockLost t _ => t
  | .tapSleep t _ _ => t
  | .slowSweep t _ _ _ _ _ => t
  | .sweepPeriodChange t => t
  | .nop t _ => t
  | .tapIdentify t _ => t
  | .echo t _ => t
  | .setDelay t _ => t
  | .setThresh t _ => t
  | .setMarkCount t _ => t
  | .readStatus t _ _ _ _ => t
  | .clearTrip t _ _ => t
  | .fltTest t _ _ => t
  | .tapReset t _ _ _ _ => t
  | .ptProbe t _ _ => t
  | .setCollect t _ => t
  | .collect t _ _ => t
  | .ringMap t _ => t
  | .ringRestore t _ => t
  | .reEnumerate t _ _ _ => t
  | .fltTestNow t _ _ => t
  | .clearTrips t _ _ => t
  | .readSweep t _ => t
  | .balRenew t => t
  | .balLease t _ _ => t
  | .balStop t _ => t
  | .balMode t _ => t
  | .balLeaseExpiry t _ _ => t
  | .balConverterOvertemp t _ _ => t
  | .balGatedSuspend t _ => t
  | .balResume t _ => t
  | .balStatus t _ => t
  | .balTotals t _ => t
  | .balForce t _ => t
  | .balForceEnd t _ => t
  | .balRelease t _ => t
  | .estUpdatePeriod t _ => t
  | .ctxSave t => t
  | .ctxRead t _ => t
  | .ctxSummary t _ => t
  | .ctxReinit t _ => t
  | .ctxCells t _ => t
  | .capSet t _ => t
  | .chemRead t _ => t
  | .chemWrite t _ => t
  | .ctxClearFlags t _ => t
  | .impLeadStart t => t
  | .impWindowStart t => t
  | .impWindowEnd t _ => t
  | .impSetup t _ => t
  | .impWindow t _ => t
  | .impRead t _ => t
  | .tapImpLineLoss t _ _ => t
  | .impStatus t _ => t
  | .impResults t _ => t
  | .impSpectrumNow t _ => t
  | .phaseCurrentCycle t _ _ _ _ _ => t
  | .stringLoopCycle t _ _ => t
  | .roleCSweep t => t
  | .containerLoop t _ => t
  | .roleDeadline t _ _ _ _ => t
  | .engineSelfTestDone t _ _ => t
  | .roleRotation t => t
  | .followingError t => t
  | .sensorDisagree t _ _ _ _ => t
  | .sensorFrozen t _ _ _ _ _ => t
  | .currentFeedbackLost t => t
  | .sensorRecover t _ _ _ => t
  | .ctrlStatus t _ => t
  | .ctrlEngines t _ => t
  | .ctrlEngineReturn t _ _ => t
  | .ctrlRotateNow t _ => t
  | .sensorRestore t _ => t
  | .winTotals t _ => t
  | .valleyReached t _ _ _ => t
  | .limitHit t _ _ _ => t
  | .cycleGroupBoundary t => t
  | .interleaveLimit t _ => t
  | .burstEntry t => t
  | .burstFrame t => t
  | .softStart t _ _ => t
  | .softStartRetry t _ _ => t
  | .sidebandFrame t => t
  | .gateStatusFrame t _ _ => t
  | .laneTrain t _ => t
  | .laneDown t _ _ _ _ => t
  | .laneTimeoutOff t _ _ => t
  | .driverDesat t _ _ => t
  | .modStatus t _ => t
  | .laneStatus t _ => t
  | .dtTableRead t _ => t
  | .dtTableWrite t _ => t
  | .laneRetrain t _ => t
  | .spSet t _ => t
  | .setpointApply t => t
  | .dispatchWatchdog t => t
  | .spCancel t _ => t
  | .spQueueRead t _ => t
  | .dispatchStatus t _ => t
  | .spSilent t _ => t
  | .domeFault t _ => t
  | .domeDemand t => t
  | .sweepCheck t => t
  | .fltLoopOpen t _ _ _ => t
  | .fltShort t _ _ _ => t
  | .ocFastTrip t _ _ _ => t
  | .ocSlowTrip t => t
  | .sf4TAbsent t _ => t
  | .siChannelDemand t _ _ _ => t
  | .siChannelRelease t _ _ _ => t
  | .siDiscrepancy t _ => t
  | .tpPulse t _ _ => t
  | .tripInOpen t _ _ => t
  | .sf8DelayEnd t => t
  | .sf9Stale t => t
  | .safeStateOpen t => t
  | .k2OrderGap t => t
  | .domeOpen t => t
  | .plantStop t _ _ => t
  | .plantStopRelease t _ _ => t
  | .safetyKeepalive t _ _ => t
  | .tripNotice t _ _ => t
  | .safeMsgOrphan t _ _ => t
  | .safeLinkLost t => t
  | .singlePlane t _ => t
  | .sealChanged t _ _ => t
  | .safeStatus t _ => t
  | .safeReset t _ => t
  | .tripInRecheck t => t
  | .safeSetRead t _ => t
  | .safeSetConfirm t _ => t
  | .safeCounters t _ => t
  | .localAckExpiry t => t
  | .kfEdge t _ _ _ _ => t
  | .kDropout t _ _ => t
  | .kFailClose t _ => t
  | .kWelded t _ _ => t
  | .kPullinEnd t _ => t
  | .outputOvercurrent t _ _ _ => t
  | .coilOpen t _ _ _ => t
  | .coilSupplyLow t _ _ => t
  | .outputTestPulse t _ => t
  | .outputSwitchFault t _ _ _ => t
  | .prechargeHalfTau t _ => t
  | .prechargeThreeTau t _ => t
  | .preEnergyTick t _ _ => t
  | .k3OverlapEnd t => t
  | .orderlyGatesOff t => t
  | .outStatus t _ => t
  | .connect t _ _ _ => t
  | .disconnect t _ => t
  | .preHistory t _ => t
  | .preModelReset t _ => t
  | .thermalSample t _ => t
  | .nvmForbidLift t => t
  | .thermalShutdown t _ _ => t
  | .thermalResetHold t => t
  | .thermalRelease t _ => t
  | .thermalAutoReconnect t _ _ => t
  | .loopFallback t => t
  | .loopWatchdog t => t
  | .vlvOpen t _ _ => t
  | .thermStatus t _ => t
  | .thermManual t _ => t
  | .thermManualEnd t => t
  | .thermAuto t _ => t
  | .boot t _ => t
  | .shelfWake t _ _ _ _ => t
  | .bootFail t => t
  | .wakeAtReached t => t
  | .dormantAuto t => t
  | .pwrAuxLoss t _ _ _ => t
  | .pwrAuxReturn t _ _ => t
  | .cisternSequence t _ _ => t
  | .modeStatus t _ => t
  | .enterService t _ => t
  | .leaveService t _ => t
  | .run t _ => t
  | .hold t _ => t
  | .enterDormant t _ => t
  | .wake t _ => t
  | .wakeAt t _ => t
  | .enterShelf t _ => t
  | .request t _ _ _ => t
  | .read t _ _ _ => t
  | .ack t _ _ _ => t
  | .commandDone t _ => t
  | .mbxIdleRelease t _ => t
  | .stageTimeout t _ => t
  | .spireRestart t => t
  | .getStatus t _ => t
  | .stop t _ => t
  | .stage t _ => t
  | .restart t _ => t
  | .readParam t _ => t
  | .discardStaged t _ => t
  | .identify t _ => t
  | .getChallenge t _ => t
  | .mbxStatus t _ => t
  | .mbxRelease t _ => t
  | .commit t _ => t
  | .keySet t _ => t
  | .ownerLock t _ => t
  | .heartbeatSend t => t
  | .heartbeat t _ _ _ _ _ => t
  | .heartbeatTimeout t => t
  | .checkpointPush t => t
  | .checkpointBlock t _ => t
  | .swapPrepare t _ => t
  | .swapReady t _ => t
  | .swapHand t _ => t
  | .swapTaken t _ => t
  | .swapAbort t _ => t
  | .swapStepTimeout t => t
  | .claimRound t _ _ _ _ _ => t
  | .holdFollowExpiry t => t
  | .pairStartup t => t
  | .pairStartFault t => t
  | .standbySelfTest t _ _ _ => t
  | .pairOverrideEnd t => t
  | .healthReport t _ => t
  | .pairStatus t _ => t
  | .pairSwap t _ => t
  | .pairOverride t _ => t
  | .pairCkptNow t _ => t
  | .healthRead t _ => t
  | .helloSend t _ _ => t
  | .hello t _ _ _ => t
  | .helloDead t _ _ => t
  | .pcsSyncLoss t _ _ => t
  | .lsaSend t _ => t
  | .lsa t _ _ _ => t
  | .lsaAgeOut t _ _ => t
  | .routeCompute t _ => t
  | .fabricFrameReceive t _ _ _ => t
  | .planeFailed t _ => t
  | .planeUp t _ => t
  | .flowReturn t _ _ => t
  | .fabStatus t _ => t
  | .fabRoutes t _ => t
  | .fabLsdb t _ => t
  | .fabFlows t _ => t
  | .fabClearCounters t _ => t
  | .announce t _ _ _ _ _ => t
  | .sync t _ _ _ _ _ _ _ _ => t
  | .followUp t _ _ _ _ _ => t
  | .delayReq t _ _ _ _ _ _ => t
  | .delayResp t _ _ _ _ _ _ => t
  | .domainLoss t _ => t
  | .domainDegradedEnd t _ => t
  | .timePrefReturn t => t
  | .ppsEdge t _ => t
  | .ppsInvalid t _ => t
  | .ppsOut t => t
  | .timeStatus t _ => t
  | .timeEdges t _ => t
  | .timeResync t _ => t
  | .timeSet t _ => t
  | .canFrameReceive t _ _ => t
  | .canTxAttempt t _ => t
  | .canTxEnd t _ _ => t
  | .busOff t _ => t
  | .busOffRecovered t _ => t
  | .frMapSend t _ _ => t
  | .frSetpointFrame t _ => t
  | .frCommandFrame t _ _ _ => t
  | .canStatus t _ => t
  | .canTx t _ => t
  | .canTxCancel t _ => t
  | .canTxQuery t _ => t
  | .canRxRead t _ => t
  | .canRxRelease t _ => t
  | .canRecover t _ => t
  | .twAddressMatch t _ _ => t
  | .twWindowWrite t _ => t
  | .twDoorbellRequest t => t
  | .twDoorbellRead t => t
  | .twDoorbellAck t => t
  | .twTransferAbort t => t
  | .twLate t _ => t
  | .twAttention t _ => t
  | .twAttnRetry t _ => t
  | .twBusClear t _ => t
  | .twAccXfer t _ _ _ _ => t
  | .twAccStatus t _ => t
  | .twSvcStatus t _ => t
  | .recFlushPeriod t => t
  | .recordFlush t => t
  | .nvmPageCommit t _ => t
  | .cursorExpiry t _ => t
  | .recClearBlock t _ => t
  | .recStatus t _ => t
  | .recSeek t _ => t
  | .recRead t _ => t
  | .recRelease t _ => t
  | .recFlush t _ => t
  | .recClear t _ => t
  | .recCodes t _ => t
  | .imgStatus t _ => t
  | .imgOpen t _ => t
  | .imgBlock t _ => t
  | .imgCheck t _ _ => t
  | .imgInstall t _ _ => t
  | .imgAbort t _ => t
  | .tapInstall t _ => t
  | .installStepDone t _ _ => t
  | .installResume t _ => t
  | .installPauseTimeout t => t
  | .imgOwnerTimeout t _ => t
  | .fwOpen t _ => t
  | .fwBlock t _ => t
  | .fwCheck t _ => t
  | .fwSwap t _ _ _ _ _ => t
  | .tapSwapTimeout t _ => t
  | .cisternMeasure t _ _ _ => t
  | .impWindowSuspend t _ => t
  | .matchedCopyReturn t => t
  | .outputPulseEnd t _ _ _ => t
  | .wakeComparatorArm t _ _ => t
  | .tapWake t _ => t
  | .stFltHoldEnd t => t
  | .supervisorWatchdog t _ => t

end Sys2Proof
end

