-- ==== Sys2Proof/Decode.lean ====
section
/-!
DEFINITION. Decode.lean: the command that a word of the opcode table spells. No row of the table gives bits: commands come as
envelopes, frames and events, and their meanings read those.
-/

namespace Sys2Proof

/-- The command that a word spells: none, for no row has bits. -/
def decodeTableWord (nbits w : Nat) : Option Instr := match nbits, w with
  | _, _ => none

end Sys2Proof
end

