-- ==== Sys2Proof/Config.lean ====
section
/-!
DEFINITION. Config.lean: the values the spec leaves open, as constants without a body: nothing can be proved of them but
what holds for every value (notes/assumptions/6.md, 9.md, 10.md, 11.md, 44.md).
-/

namespace Sys2Proof

/-- Byte `i` of the `n`-th random draw: challenges of GET_CHALLENGE (13 R397). -/
opaque Config.randomByte (n i : Nat) : Byte

/-- Byte `i` of a payload or frame area whose fields the spec names without giving their places: by the area's name and
the fields' values. -/
opaque Config.openByte (area : String) (vals : List (List Int)) (i : Nat) : Byte

/-- Field `i` read from an area whose fields the spec names without giving their places. -/
opaque Config.openField (area : String) (bytes : List Byte) (i : Nat) : Int

/-- Byte `i` of a record's DATA for a code whose layout the spec does not give (18 R514, R515). -/
opaque Config.recordByte (code : Nat) (vals : List Int) (i : Nat) : Byte

/-- Whether a signature verifies with Renern's public key 0 or 1, which the spec does not print (19 R531). -/
opaque Config.signatureOk (key : Nat) (digest sig : List Byte) : Bool

/-- A result the spec names and does not state for these operands: by the quantity's name (notes/assumptions/9.md). -/
opaque Config.openValue (what : String) (vals : List Int) : Int

/-- MAC address of a fabric port, of the module's block of 8 addresses (15 R433; notes/assumptions/44.md). -/
opaque Config.portMac (plane port : Nat) : Nat

end Sys2Proof
end

