-- ==== Sys2Proof/Machine/Bytes.lean ====
section
/-!
DEFINITION. Machine/Bytes.lean: byte order, two's complement fields, saturation, and the checks and digests that frames
carry: CRC-16/CCITT, CRC-32, SHA-256 and HMAC-SHA-256 (00 R5, R7, R9; 02 R45; 09 R289; 13 R396).
-/

namespace Sys2Proof.Machine

open Sys2Proof

/-- The byte at an offset, zero beyond the end. -/
def byteAt (l : List Byte) (i : Nat) : Nat := (l.getD i 0).toNat

/-- Little-endian number of `n` bytes from an offset (00 R5). -/
def leAt (l : List Byte) (i : Nat) : Nat → Nat
  | 0 => 0
  | n + 1 => byteAt l i + 256 * leAt l (i + 1) n

/-- `n` little-endian bytes of a number. -/
def leBytes : Nat → Nat → List Byte
  | 0, _ => []
  | n + 1, v => BitVec.ofNat 8 v :: leBytes n (v / 256)

/-- A number of `b` bits read as two's complement. -/
def signedOf (b v : Nat) : Int := if 2 * (v % 2 ^ b) < 2 ^ b then ((v % 2 ^ b : Nat) : Int) else ((v % 2 ^ b : Nat) : Int) - 2 ^ b

/-- The two's complement code of `b` bits of an integer. -/
def unsignedOf (b : Nat) (v : Int) : Nat := (v % 2 ^ b).toNat

/-- A value limited to an interval. -/
def clampTo (lo hi v : Int) : Int := if v < lo then lo else if hi < v then hi else v

/-- Signed 16-bit field with saturation that never yields the no-value code (00 R9). -/
def satS16 (v : Int) : Int := clampTo (-32767) 32767 v

/-- Signed 16-bit field or its no-value code (00 R7). -/
def codeS16 (v : Option Int) : Nat := (v.map (fun x => unsignedOf 16 (satS16 x))).getD 0x8000

/-- Cell voltage field: saturated at 0xFFFE, no value 0xFFFF (00 R7, R9). -/
def codeCell (v : Option Int) : Nat := (v.map (fun x => (clampTo 0 0xFFFE x).toNat)).getD 0xFFFF

/-- Integer quotient rounded to nearest, halves away from zero. -/
def roundDiv (a b : Int) : Int := if 0 ≤ a then (2 * a + b) / (2 * b) else -((2 * (-a) + b) / (2 * b))

/-- One bit of a number. -/
def bitOf (v k : Nat) : Bool := v / 2 ^ k % 2 == 1

/-- A flag as a bit. -/
def bit (b : Bool) (k : Nat) : Nat := if b then 2 ^ k else 0

/-- The number whose bit k is the k-th flag. -/
def maskOf : List Bool → Nat
  | [] => 0
  | b :: bs => (if b then 1 else 0) + 2 * maskOf bs

/-- One shift of a CRC register of 16 bits, most significant bit first. -/
def crc16Shift (c : Nat) : Nat := if c < 0x8000 then 2 * c else Nat.xor (2 * c % 0x10000) 0x1021

/-- CRC-16/CCITT, initial value 0xFFFF (02 R45). -/
def crc16 (l : List Byte) : Nat :=
  l.foldl (fun c b => (List.range 8).foldl (fun c _ => crc16Shift c) (Nat.xor c (b.toNat * 256))) 0xFFFF

/-- One shift of the reflected CRC-32 register. -/
def crc32Shift (c : Nat) : Nat := if c % 2 = 0 then c / 2 else Nat.xor (c / 2) 0xEDB88320

/-- CRC-32, IEEE 802.3, reflected, initial value and final XOR all ones (09 R289). -/
def crc32 (l : List Byte) : Nat :=
  Nat.xor (l.foldl (fun c b => (List.range 8).foldl (fun c _ => crc32Shift c) (Nat.xor c b.toNat)) 0xFFFFFFFF) 0xFFFFFFFF

/-! ## SHA-256 and HMAC

The spec names the digest (13 R396, 19 R531) and prints none of its constants; they follow from the primes, so the model
computes them.  Words are numbers below 2^32. -/

/-- The bits of the greatest root below `b` bits: the largest `r` made of them with `r ^ e` at most `x`. -/
def rootBits (e x : Nat) : Nat → Nat → Nat
  | 0, r => r
  | b + 1, r => rootBits e x b (if (r + 2 ^ b) ^ e ≤ x then r + 2 ^ b else r)

/-- The first 32 bits of the fraction of the `e`-th root of `p`, for roots below 32. -/
def rootFraction (e p : Nat) : Nat := rootBits e (p * 2 ^ (32 * e)) 37 0 % 2 ^ 32

/-- The primes up to 311, which are 64. -/
def digestPrimes : List Nat :=
  (List.range 312).filter fun n => 2 ≤ n && (List.range 18).all fun d => d < 2 || n ≤ d || n % d ≠ 0

/-- XOR of a word's rotations to the right by these counts. -/
def mixTurns (x : Nat) (turns : List Nat) : Nat :=
  turns.foldl (fun acc n => Nat.xor acc (x / 2 ^ n + x % 2 ^ n * 2 ^ (32 - n))) 0

/-- A block of 64 bytes as 16 big-endian words, lengthened to 64 by the schedule's recurrence. -/
def scheduleOf (block : List Byte) : List Nat :=
  (List.range 48).foldl (fun w t =>
      let x := w.getD (t + 1) 0
      let y := w.getD (t + 14) 0
      w ++ [(w.getD t 0 + Nat.xor (mixTurns x [7, 18]) (x / 2 ^ 3) + w.getD (t + 9) 0
        + Nat.xor (mixTurns y [17, 19]) (y / 2 ^ 10)) % 2 ^ 32])
    ((List.range 16).map fun i => leAt ((block.drop (4 * i)).take 4).reverse 0 4)

/-- One round as a recurrence over the two word sequences of the compression, newest pair first: a round reads the last
four of each and puts one pair in front. -/
def digestRound (seq : List (Nat × Nat)) (kw : Nat) : List (Nat × Nat) :=
  let up := fun i => (seq.getD i (0, 0)).1
  let dn := fun i => (seq.getD i (0, 0)).2
  let choice := Nat.xor (dn 2) (Nat.land (dn 0) (Nat.xor (dn 1) (dn 2)))
  let most := Nat.lor (Nat.land (up 0) (up 1)) (Nat.land (up 2) (Nat.lor (up 0) (up 1)))
  let t := dn 3 + mixTurns (dn 0) [6, 11, 25] + choice + kw
  ((t + mixTurns (up 0) [2, 13, 22] + most) % 2 ^ 32, (up 3 + t) % 2 ^ 32) :: seq.take 3

/-- The four pairs after one more block. -/
def digestBlock (keys : List Nat) (seq : List (Nat × Nat)) (block : List Byte) : List (Nat × Nat) :=
  let out := (List.zipWith (· + ·) keys (scheduleOf block)).foldl digestRound seq
  List.zipWith (fun p q => ((p.1 + q.1) % 2 ^ 32, (p.2 + q.2) % 2 ^ 32)) seq out

/-- The message with 0x80, zeros and its length in bits, as whole blocks of 64 bytes. -/
def digestBlocks (l : List Byte) : List (List Byte) :=
  let whole := l ++ 0x80 :: List.replicate ((119 - l.length % 64) % 64) 0 ++ (leBytes 8 (8 * l.length)).reverse
  (List.range (whole.length / 64)).map fun i => (whole.drop (64 * i)).take 64

/-- SHA-256. -/
def sha256 (l : List Byte) : List Byte :=
  let first := (digestPrimes.take 8).map (rootFraction 2)
  let seq := (digestBlocks l).foldl (digestBlock (digestPrimes.map (rootFraction 3)))
    (List.zip (first.take 4) (first.drop 4))
  ((seq.map Prod.fst) ++ (seq.map Prod.snd)).flatMap fun v => (leBytes 4 v).reverse

/-- A key brought to the block length of 64 bytes. -/
def hmacKey (k : List Byte) : List Byte :=
  let k' := if 64 < k.length then sha256 k else k
  k' ++ List.replicate (64 - k'.length) 0

/-- HMAC-SHA-256 (13 R396). -/
def hmacSha256 (key msg : List Byte) : List Byte :=
  let k := hmacKey key
  sha256 (k.map (· ^^^ 0x5c) ++ sha256 (k.map (· ^^^ 0x36) ++ msg))

end Sys2Proof.Machine
end

