-- ==== Sys2Proof/Machine/State.lean ====
section
/-!
DEFINITION. Machine/State.lean: everything the spec gives the module, as plain data, with the queue of waiting commands;
the reasons a step can stop; and the state after reset. Each field's docstring gives its width, the chapter and rule that
names it, and its reset value (DC n: no value in the spec, the model's choice of notes/assumptions/n.md).
-/

namespace Sys2Proof.Machine

open Sys2Proof

/-! ## Names and small records shared by every chapter -/

/-- The eight operating modes (12 R347). -/
inductive Mode where
  | shelf | dormant | watch | connect | run | hold | service | tripped
  deriving DecidableEq, Repr

/-- The roles of an authorisation block, ranked (13 R395). -/
inductive Role where
  | none | operator | engineer | owner
  deriving DecidableEq, Repr

/-- The status codes of a response (13 R381). -/
inductive Status where
  | done | pending | wrongMode | badArgument | notAuthorised | mailboxBusy | refusedGuard
  | unknownCommand | functionRunning | tooLate | sealPosition | incompatible | execFault
  deriving DecidableEq, Repr

/-- The state byte of a function status block (13 R386). -/
inductive FnState where
  | running | stopping | stopped | restarting | notPresent
  deriving DecidableEq, Repr

/-- A mailbox is empty, pending or holding (13 R377). -/
inductive MbxPhase where
  | empty | pending | holding
  deriving DecidableEq, Repr

/-- Where the module takes its housekeeping power (12 R358, R359, R370). -/
inductive Power where
  | absent | auxiliary | harvest | cistern
  deriving DecidableEq, Repr

/-- The sleep states of an island (12 R360). -/
inductive Sleep where
  | awake | idle | doze | nap | off
  deriving DecidableEq, Repr

/-- A payload: the bytes of a layout the spec gives, or the listed values where it names them and
gives no byte layout (their bytes are `Config.openLayout`). -/
inductive Payload where
  | bytes (l : List Byte)
  | fields (l : List (String × List Int))
  deriving DecidableEq, Repr

/-- What a command answers, before the header is formed (13 R376). -/
structure Reply where
  /-- Status of R381. -/
  status : Status
  /-- CAUSE, 0 when the status carries none. -/
  cause : Nat := 0
  /-- FUNCTION, 0xFF when CAUSE is 0. -/
  fn : Nat := 0xFF
  /-- DETAIL. -/
  detail : Nat := 0
  /-- LEGAL_MODES, with WRONG_MODE only. -/
  legal : Nat := 0
  /-- Payload of the response. -/
  payload : Payload := .bytes []
  deriving DecidableEq, Repr

/-- A formed response (13 R376): the mode in force when it was formed is part of it. -/
structure Response where
  /-- What the command answered. -/
  reply : Reply
  /-- MODE at forming. -/
  mode : Mode
  /-- SEQUENCE echoed. -/
  seq : Nat
  /-- READ_COUNT. -/
  readCount : Nat
  /-- It answers a request addressed to the string address (15 R441). -/
  str : Bool := false
  /-- It answers REC_READ, and so travels as payload type 0x08 in TC4 (18 R523, 15 R436). -/
  records : Bool := false
  deriving DecidableEq, Repr

/-- A request as taken from its envelope (13 R375, R396). -/
structure Request where
  /-- COMMAND. -/
  command : Nat
  /-- SEQUENCE. -/
  seq : Nat
  /-- FLAGS byte. -/
  flags : Nat
  /-- The reserved byte 7 of the header. -/
  pad : Nat
  /-- LENGTH as stated. -/
  length : Nat
  /-- Payload bytes. -/
  payload : List Byte
  /-- Authorisation block bytes, empty without AUTH. -/
  auth : List Byte
  /-- Its frame was addressed to the string address (15 R441). -/
  str : Bool := false
  deriving DecidableEq, Repr

/-- What leaves the module during a step: the last step's emissions only, in order. -/
inductive Emission where
  /-- The envelope of a response on a mailbox's path (13 R372, R376, R379). -/
  | response (mb : Nat) (dst : Source) (bytes : List Byte)
  /-- A response as an IPv4 UDP datagram on SVC: the address it is handed to on the link, source address and port, destination address
  and port, and the envelope (13 R371, R401). -/
  | datagram (hop fromIp fromPort toIp toPort : Nat) (bytes : List Byte)
  /-- Ring frames sent by the module: ring, launched from the low end, instant of the launch, how many alike in a row, and the
  bytes from ADDR to CRC; the SYN symbol stands before them (02 R44 to R51). -/
  | ring (ring : Nat) (low : Bool) (launch times : Nat) (bytes : List Byte)
  /-- A MARK symbol: ring, from the low end, and its instant; from the module, or passed on by a pass-through node (02 R41, R54,
  R76). -/
  | mark (ring : Nat) (low : Bool) (launch : Nat)
  /-- IDLE on both ends of a ring for a time in ns, sent to wake its taps (02 R42, R75). -/
  | ringIdle (ring ns : Nat)
  /-- Bytes a tap puts on its ring port: ring, position, true towards the high end (02 R46 to R51). -/
  | tapFrame (ring pos : Nat) (up : Bool) (bytes : List Byte)
  /-- A timing strobe to an island (01 R19, 16 R482). -/
  | strobe (island : Nat) (trigger : Nat)
  /-- A fabric frame, sent or passed on: plane 0 A 1 B, port 1 to 3, and its bytes from the destination address to the FCS (15 R432,
  R433, R435, R437). -/
  | fabric (plane port : Nat) (bytes : List Byte)
  /-- A frame on PAIR, from the destination address to the FCS (14 R407). -/
  | pair (bytes : List Byte)
  /-- A CLAIM code driven by this module in a round, and the output field it drives if it wins (14 R412). -/
  | claim (code field : Nat)
  /-- A CAN frame that CAN1 (1) or CAN2 (2) has sent (17 R488). -/
  | can (port : Nat) (f : CanFrame)
  /-- Bytes that TW-SVC returns in a read transfer (17 R501, R504). -/
  | window (bytes : List Byte)
  /-- Bytes written as controller on a two-wire bus (17 R506, R508). -/
  | twoWire (bus addr : Nat) (bytes : List Byte)
  /-- Gate bytes on a lane: the instant of slot 0 in 250 ps since delivery, then slot and byte; every gate slot between and after
  them repeats the STATE in force (07 R222). -/
  | gate (lane : Nat) (from4 : Nat) (bytes : List (Nat × Nat))
  /-- The data bytes of a sideband frame on a gate lane (07 R223). -/
  | sideband (lane : Nat) (bytes : List Byte)
  /-- K28.5 in every slot of a gate lane, so many times (07 R226). -/
  | comma (lane times : Nat)
  /-- A PTP message (16 R469). -/
  | ptp (domain : Nat) (kind : String) (fields : List (String × List Int))
  /-- A pulse or level change on a named pin, with its length in ns. -/
  | pulse (pin : String) (ns : Nat)
  deriving DecidableEq, Repr

/-! ## Core: mode, power, keys (12, 13) -/

/-- A stored role key (13 R398). -/
structure Key where
  /-- The 32 bytes; none where the role has no key. -/
  key : Option (List Byte) := none
  /-- KEY_GEN. -/
  gen : Nat := 0
  deriving DecidableEq, Repr

/-- Mode machine, supply and identity state. -/
structure Core where
  /-- Mode in force. [w 3 bits] [12 R347] [reset Shelf, as delivered, DC 2] -/
  mode : Mode := .shelf
  /-- Previous mode. [w 3 bits] [12 R370] [reset Shelf, DC 2] -/
  prevMode : Mode := .shelf
  /-- Instant of the last mode change. [w ns] [12 R370] [reset 0, DC 3] -/
  modeSince : Nat := 0
  /-- Event code or 0 of the last transition cause. [w 16 bits] [12 R370] [reset 0, DC 3] -/
  lastCause : Nat := 0
  /-- Power source. [w 2 bits] [12 R358, R370] [reset absent, DC 2] -/
  power : Power := .absent
  /-- PWR-AUX is present and not counted as lost. [w 1] [12 R358] [reset false, DC 2] -/
  auxOk : Bool := false
  /-- AUX_LOST raised while on harvest. [w 1] [12 R358] [reset false, DC 3] -/
  auxLost : Bool := false
  /-- Dormant profile in use: true pair-standby, false isolated. [w 1] [12 R354] [reset isolated, DC 3] -/
  pairStandbyProfile : Bool := false
  /-- The present Shelf was entered under R359. [w 1] [12 R352] [reset false, DC 3] -/
  shelfPowerFail : Bool := false
  /-- The Shelf wake comparator is armed. [w 1] [12 R353] [reset armed, DC 3] -/
  wakeArmed : Bool := true
  /-- BOOT_FAIL count of the always-on domain. [w 16] [12 R352] [reset 0, DC 3] -/
  bootFails : Nat := 0
  /-- A boot is under way since a wake (it has not ended). [w 1] [12 R351] [reset false, DC 3] -/
  booting : Bool := false
  /-- Instant from which a failed boot may be retried. [w ns] [12 R352] [reset 0, DC 3] -/
  bootRetryAt : Nat := 0
  /-- Tripped stored in NVM with its causes. [w 1] [12 R351] [reset false, DC 3] -/
  nvmTripped : Bool := false
  /-- Registered WAKE_AT time, 64-bit timestamp. [w 64] [12 R370] [reset none, DC 3] -/
  wakeAt : Option Nat := none
  /-- Instant since which the quiet conditions of R356 have held (request, lease, set-point, transfer). [w ns] [12 R356] [reset 0, DC 3] -/
  quietSince : Nat := 0
  /-- Cistern usable energy in J as last measured. [w 16] [20 R554] [reset 60, 00 R2] -/
  cisternJ : Nat := 60
  /-- Cistern's present usable energy in J. [w 16] [20 R554] [reset 60: charged as delivered, DC 3] -/
  cisternNow : Nat := 60
  /-- CISTERN_LOW raised. [w 1] [20 R554] [reset false, DC 3] -/
  cisternLow : Bool := false
  /-- CISTERN_WORN raised. [w 1] [20 R554] [reset false, DC 3] -/
  cisternWorn : Bool := false
  /-- BACKUP_LOW raised. [w 1] [20 R555] [reset false, DC 3] -/
  backupLow : Bool := false
  /-- Backup cell voltage in mV as last measured. [w 16] [20 R555] [reset 3000, DC 3] -/
  backupMv : Nat := 3000
  /-- Operating seconds counted at the last power removal. [w 32] [13 R400] [reset 0, DC 3] -/
  opSeconds : Nat := 0
  /-- Instant the present power-on began. [w ns] [13 R400] [reset 0, DC 3] -/
  bootAt : Nat := 0
  /-- BOOT_TIME timestamp. [w 64] [13 R400] [reset 0, DC 3] -/
  bootStamp : Nat := 0
  /-- POWER_CYCLES. [w 24] [13 R400, 18 R514] [reset 0, DC 3] -/
  powerCycles : Nat := 0
  /-- OWNER_LOCK. [w 1] [13 R399, R400] [reset clear, DC 3] -/
  ownerLock : Bool := false
  /-- Operator key. [w 256+8] [13 R398] [reset none: no key at delivery] -/
  keyOperator : Key := {}
  /-- Engineer key. [w 256+8] [13 R398] [reset none: no key at delivery] -/
  keyEngineer : Key := {}
  /-- Owner key. [w 256+8] [13 R398] [reset none: no owner key at delivery] -/
  keyOwner : Key := {}
  /-- Module serial. [w 64] [13 R400] [reset 1, DC 4] -/
  serial : Nat := 1
  /-- PART_NUMBER as ASCII bytes: DX-S512-MC. [w 128] [13 R400, 20 R565] [reset DX-S512-MC, DC 4] -/
  part : List Byte := [0x44, 0x58, 0x2D, 0x53, 0x35, 0x31, 0x32, 0x2D, 0x4D, 0x43]
  /-- HW_LEVEL. [w 8] [13 R400] [reset 1, DC 4] -/
  hwLevel : Nat := 1
  /-- The eight seal switches SS1 to SS8 as read at boot, bit n-1 = SSn. [w 8] [09 R287, R288] [reset 0, DC 5] -/
  seals : BitVec 8 := 0
  /-- CLOCK_FAULT raised. [w 1] [01 R12] [reset false, DC 3] -/
  clockFault : Bool := false
  /-- Spire is running (false only inside a Spire restart). [w 1] [13 R383] [reset true, DC 3] -/
  spireUp : Bool := true
  /-- ST-OK contact closed. [w 1] [20 R558] [reset open, DC 3] -/
  stOk : Bool := false
  /-- ST-FLT contact closed. [w 1] [20 R558] [reset open, DC 3] -/
  stFlt : Bool := false
  /-- Instant of the last record of severity 4 or higher. [w ns] [20 R558] [reset none, DC 3] -/
  lastFaultRec : Option Nat := none
  /-- Counter of the random values drawn so far; the model's own field. [w model] [model, free value] [reset 0, DC 6] -/
  draws : Nat := 0
  deriving DecidableEq, Repr

/-- One clock island (01 R11, 12 R360). -/
structure Island where
  /-- Sleep state. [w 3] [12 R360] [reset off, DC 2] -/
  sleep : Sleep := .off
  /-- Next known event. [w ns] [12 R361, R362] [reset none, DC 3] -/
  nextEvent : Option Nat := none
  /-- Scheduled wake start. [w ns] [12 R361] [reset none, DC 3] -/
  wakeAt : Option Nat := none
  /-- WAKE_LATE count. [w 16] [12 R365] [reset 0, DC 3] -/
  wakeLate : Nat := 0
  /-- Held at Idle after WAKE_LATE until the next mode change. [w 1] [12 R365] [reset false, DC 3] -/
  heldIdle : Bool := false
  /-- Supply rail in mV, 800 to 1800 in steps of 10. [w 11] [01 R17, 20 R556] [reset the nominal value of R556, DC 3] -/
  rail : Nat := 1000
  /-- Flush markers delivered by crossings of this island. [w 16] [01 R18] [reset 0, DC 3] -/
  flushes : Nat := 0
  deriving DecidableEq, Repr

/-- The islands and their crossings. -/
structure Islands where
  /-- I0 to I10. [w 11 entries] [01 R11] [reset each as Island, its rail at R556's nominal value, DC 3] -/
  isl : List Island := [900, 1000, 950, 950, 900, 1050, 1000, 950, 950, 1200, 850].map (fun mv => { rail := mv })
  /-- CROSSING_TIMEOUT discards, by (source, destination). [w list] [01 R15] [reset empty, DC 3] -/
  timeouts : List (Nat × Nat) := []
  deriving DecidableEq, Repr

/-! ## Mailboxes and functions (13) -/

/-- One mailbox (13 R371 to R399). -/
structure Mailbox where
  /-- Binding: the source and the number of this binding (each binding distinct). [w source] [13 R373, 18 R522] [reset none, 13 R373] -/
  bound : Option (Source × Nat) := none
  /-- Empty, pending or holding. [w 2] [13 R377] [reset empty, DC 3] -/
  phase : MbxPhase := .empty
  /-- The pending or held request. [w request] [13 R378] [reset none, DC 3] -/
  req : Option Request := none
  /-- The role of the block accepted with the pending request. [w 2] [13 R395] [reset none, DC 3] -/
  role : Role := .none
  /-- The command has ended with this answer, not yet formed. [w reply] [13 R379] [reset none, DC 3] -/
  result : Option Reply := none
  /-- The command runs and has not ended. [w 1] [13 R382] [reset false, DC 3] -/
  started : Bool := false
  /-- Held response. [w response] [13 R379] [reset none, DC 3] -/
  held : Option Response := none
  /-- Instant the held response was formed. [w ns] [13 R399] [reset 0, DC 3] -/
  heldSince : Nat := 0
  /-- Instant since which the mailbox is empty. [w ns] [13 R373] [reset 0, DC 3] -/
  emptySince : Nat := 0
  /-- Challenge and its instant of issue. [w 64] [13 R397] [reset none, DC 3] -/
  challenge : Option (List Byte × Nat) := none
  /-- Instants of the NOT_AUTHORISED responses of the last 60 s. [w list] [13 R397] [reset empty, DC 3] -/
  naTimes : List Nat := []
  /-- NOT_AUTHORISED count. [w 32] [13 R399] [reset 0, DC 3] -/
  naCount : Nat := 0
  /-- End of the lockout. [w ns] [13 R397] [reset 0, DC 3] -/
  lockedUntil : Nat := 0
  /-- Discarded envelopes. [w 32] [13 R372] [reset 0, DC 3] -/
  discarded : Nat := 0
  deriving DecidableEq, Repr

/-- One function's common state (13 R386, R389). -/
structure Func where
  /-- STATE. [w 8] [13 R386] [reset running, DC 3] -/
  state : FnState := .running
  /-- STAGE_OWNER. [w 8] [13 R386] [reset none, 13 R389] -/
  owner : Option Nat := none
  /-- Binding number under which the owner staged. [w model] [13 R389] [reset 0, DC 3] -/
  ownerBinding : Nat := 0
  /-- Staged set, ID and value, rising by ID. [w list] [13 R389] [reset empty: lost at power-down, 13 R389] -/
  staged : List (Nat × Int) := []
  /-- Instant of the owner's last STAGE. [w ns] [13 R389] [reset 0, DC 3] -/
  stagedAt : Nat := 0
  /-- LAST_COMMIT. [w 8] [13 R386] [reset DONE, DC 3] -/
  lastCommit : Status := .done
  /-- LAST_CAUSE. [w 16] [13 R386] [reset 0, DC 3] -/
  lastCause : Nat := 0
  /-- Mailbox of the common operation in progress. [w 3] [13 R394] [reset none, DC 3] -/
  busy : Option Nat := none
  deriving DecidableEq, Repr

/-- Mailbox interface state. -/
structure Mailboxes where
  /-- Mailboxes 0 to 7. [w 8 entries] [13 R371] [reset each as Mailbox] -/
  mbx : List Mailbox := List.replicate 8 {}
  /-- Functions 0x00 to 0x14. [w 21 entries] [13 R384] [reset each as Func] -/
  fns : List Func := List.replicate 21 {}
  /-- Values in force that differ from their defaults, rising by ID. [w list] [13 R387, R393] [reset empty: defaults in force] -/
  params : List (Nat × Int) := []
  /-- A write of the values in force to NVM waits for the end of a write-forbid. [w 1] [13 R393, 11 R329] [reset false, DC 3] -/
  paramWriteWaits : Bool := false
  /-- NVM copy of those values, which a boot takes into force. [w list] [13 R393] [reset empty: defaults in force] -/
  nvm : List (Nat × Int) := []
  /-- Number of the next binding. [w model] [18 R522] [reset 1, DC 3] -/
  nextBinding : Nat := 1
  /-- Path of mailbox 6 in effect: SVC_IP, SVC_NETMASK, SVC_GATEWAY as IPv4 numbers, and SVC_UDP_PORT. [w 4 numbers]
  [13 R371, R401] [reset 192.168.77.10, 255.255.255.0, 0.0.0.0, 48410] -/
  svcPath : List Nat := [0xC0A84D0A, 0xFFFFFF00, 0, 48410]
  /-- The envelope being handled was addressed to the string address. [w 1] [15 R441] [reset false, DC 3] -/
  viaStr : Bool := false
  deriving DecidableEq, Repr

/-! ## Event recorder (18) -/

/-- One event record (18 R514), its CRC computed where it is read. -/
structure EventRec where
  /-- SEQ. -/
  seq : Nat
  /-- TIME, a 64-bit timestamp. -/
  time : Nat
  /-- OPERATING_S. -/
  ops : Nat
  /-- POWER_CYCLES. -/
  cycles : Nat
  /-- SEVERITY 0 to 6. -/
  sev : Nat
  /-- CODE. -/
  code : Nat
  /-- MODE. -/
  mode : Mode
  /-- R_FLAGS. -/
  flags : BitVec 8
  /-- DATA as values; bytes by CODE. -/
  data : List Int
  deriving DecidableEq, Repr

/-- A cursor (18 R522). -/
structure Cursor where
  /-- Binding number that holds it. [w model] [18 R522] [reset none: lost at power-down] -/
  owner : Option Nat := none
  /-- Mailbox of that binding. [w 3] [18 R522] [reset 0, DC 3] -/
  mb : Nat := 0
  /-- Position, a SEQ. [w 32] [18 R522] [reset 0, DC 3] -/
  pos : Nat := 0
  /-- Minimum severity. [w 8] [18 R522] [reset 0, DC 3] -/
  minSev : Nat := 0
  /-- Instant of the last REC_SEEK or REC_READ. [w ns] [18 R522] [reset 0, DC 3] -/
  usedAt : Nat := 0
  /-- The next REC_READ sets GAP (R525). [w 1] [18 R525] [reset false, DC 3] -/
  gap : Bool := false
  deriving DecidableEq, Repr

/-- A clear in progress (18 R524). -/
structure ClearJob where
  /-- Last SEQ to clear. -/
  bound : Nat
  /-- First SEQ cleared so far, none while nothing is cleared. -/
  first : Option Nat
  /-- Last SEQ cleared so far. -/
  last : Nat
  /-- Records cleared so far. -/
  count : Nat
  /-- Mailbox, ROLE and KEY_GEN of the request. -/
  mb : Nat
  /-- ROLE. -/
  role : Nat
  /-- KEY_GEN. -/
  gen : Nat
  /-- SEQ range of the request as accepted, its first number. -/
  lo : Nat
  deriving DecidableEq, Repr

/-- Well, the event recorder. -/
structure Well where
  /-- Next SEQ. [w 32] [18 R516] [reset 0, DC 7] -/
  nextSeq : Nat := 0
  /-- RAM record buffer, in SEQ order, at most 4,096. [w 4096 x 64 bytes] [18 R518] [reset empty, DC 7] -/
  buf : List EventRec := []
  /-- NVM store, in SEQ order, at most 2,097,152. [w 2,097,152 x 64 bytes] [18 R520] [reset empty, DC 7] -/
  store : List EventRec := []
  /-- Reserved area of CLEAR records, at most 64. [w 64 x 64 bytes] [18 R520, R524] [reset empty, DC 7] -/
  clears : List EventRec := []
  /-- A flush runs. [w 1] [18 R518] [reset false, DC 3] -/
  flushing : Bool := false
  /-- SEQ of records of severity 4 or higher whose page comes next. [w list] [18 R518] [reset empty, DC 3] -/
  urgent : List Nat := []
  /-- Page being written: the SEQ numbers it holds. [w 64 numbers] [18 R518, 11 R332] [reset none, DC 3] -/
  page : Option (List Nat) := none
  /-- Last flush start. [w ns] [18 R528] [reset 0, DC 3] -/
  lastFlush : Nat := 0
  /-- Sequence numbers dropped since the last NVM_DROP record: lowest, highest, count. [w 96] [18 R519] [reset none, DC 3] -/
  drops : Option (Nat × Nat × Nat) := none
  /-- NVM_DROP count. [w 32] [11 R329, 18 R528] [reset 0, DC 3] -/
  nvmDrop : Nat := 0
  /-- Spare blocks left. [w 8] [18 R520] [reset 64, 18 R520] -/
  spare : Nat := 64
  /-- Block erases since delivery; blocks are reused in ring order, so the most worn block has their 2,048th part, rounded up.
  [w 64] [18 R521, R528] [reset 0, DC 7] -/
  erases : Nat := 0
  /-- Cursors 0 to 3. [w 4 entries] [18 R522] [reset each as Cursor] -/
  cursors : List Cursor := List.replicate 4 {}
  /-- Records lost with the buffer at the last power failure, of the always-on domain. [w 16] [11 R329, R335] [reset 0, DC 3] -/
  lostRecords : Nat := 0
  /-- The clear in progress. [w job] [18 R524] [reset none, DC 3] -/
  clear : Option ClearJob := none
  deriving DecidableEq, Repr

/-! ## Taps and rings (02, 03, 05, 19) -/

/-- One balance converter slot of a tap (03 R83 to R88). -/
structure Slot where
  /-- Channel of the running lease. [w 4+1] [03 R83] [reset none, DC 3] -/
  chan : Option Nat := none
  /-- Direction: false discharge, true charge. [w 1] [03 R83] [reset discharge, DC 3] -/
  charge : Bool := false
  /-- Start of the lease. [w ns] [03 R100] [reset 0, DC 3] -/
  since : Nat := 0
  /-- End of the lease. [w ns] [03 R86] [reset 0, DC 3] -/
  ends : Nat := 0
  /-- Current flows from this instant (a reversal pauses it 1 ms). [w ns] [03 R88] [reset 0, DC 3] -/
  flowsAt : Nat := 0
  /-- Current suspended before a sample (gated mode). [w 1] [03 R90] [reset false, DC 3] -/
  gated : Bool := false
  /-- Current suspended around an impedance window. [w 1] [03 R95] [reset false, DC 3] -/
  impOff : Bool := false
  /-- Last result code of BAL_LEASE. [w 8] [03 R88] [reset 0x07, DC 3] -/
  result : Nat := 7
  deriving DecidableEq, Repr

/-- The impedance side of a tap (05 R144 to R149). -/
structure TapImp where
  /-- Tone set of the last IMP_SETUP. [w 4 x 8] [05 R147] [reset none, DC 3] -/
  tones : List Nat := []
  /-- Channel mask. [w 16] [05 R147] [reset 0, DC 3] -/
  mask : Nat := 0
  /-- Samples per sweep period. [w 16] [05 R147] [reset 0, DC 3] -/
  samples : Nat := 0
  /-- Armed or running window: ID, start mark count, length in marks. [w 8+8+16] [05 R147] [reset none, DC 3] -/
  window : Option (Nat × Nat × Nat) := none
  /-- The window runs since this instant. [w ns] [05 R144] [reset none, DC 3] -/
  since : Option Nat := none
  /-- It started on a mark at the down-port: its tap is served from the high end. [w 1] [05 R149] [reset false, DC 3] -/
  revStart : Bool := false
  /-- Channels of the mask whose sense leads have been intact at every mark of the window. [w 16] [05 R148] [reset 0, DC 3] -/
  valid : Nat := 0
  /-- Last window integrated, kept until the next one ends: ID, result code, valid mask, samples integrated, tones. [w 8+8+16+32+4 x 8] [05 R148, R149] [reset none, DC 3] -/
  done : Option (Nat × Nat × Nat × Nat × List Nat) := none
  /-- Phasors of that window in nanovolt: per tone, per channel, in-phase and quadrature part. [w 4 x 16 x 2 x 32] [05 R145, R148] [reset empty, DC 3] -/
  phasors : List (List (Int × Int)) := []
  /-- ID of a window that was aborted while it was still armed. [w 8] [05 R147, R148] [reset none, DC 3] -/
  dropped : Option Nat := none
  /-- Instant the last window ended. [w ns] [03 R95] [reset none, DC 3] -/
  endedAt : Option Nat := none
  deriving DecidableEq, Repr

/-- The firmware side of a tap (19 R544). -/
structure TapFw where
  /-- Image length being received; none when no image is open. [w 32] [19 R544] [reset none, DC 3] -/
  openLen : Option Nat := none
  /-- Digest announced at FW_OPEN. [w bytes] [19 R544] [reset empty, DC 3] -/
  digest : List Byte := []
  /-- Blocks received, by index. [w list] [19 R544] [reset empty, DC 3] -/
  blocks : List (Nat × List Byte) := []
  /-- The inactive bank holds a complete image whose digest matched. [w 1] [19 R544] [reset false, DC 3] -/
  staged : Bool := false
  /-- Active bank. [w 1] [19 R544] [reset 0, DC 3] -/
  bank : Nat := 0
  /-- Version of the fallback image in the bank not active. [w 16] [19 R544, R545] [reset none, DC 3] -/
  otherVer : Option Nat := none
  deriving DecidableEq, Repr

/-- One DX-T16 tap at a ring position, as far as the module uses it (02 R51 to R65). -/
structure Tap where
  /-- A tap stands at this position. [w 1] [02 R39] [reset false, DC 8] -/
  fitted : Bool := false
  /-- Serial. [w 64] [02 R51] [reset 0, DC 8] -/
  serial : Nat := 0
  /-- Hardware revision. [w 8] [02 R51] [reset 0, DC 8] -/
  hwRev : Nat := 0
  /-- Firmware version. [w 16] [02 R51] [reset 0, DC 8] -/
  fwVer : Nat := 0
  /-- Interface level. [w 8] [02 R51] [reset 0, DC 8] -/
  level : Nat := 0
  /-- Chemistry code. [w 8] [02 R51] [reset 0, DC 8] -/
  chem : Nat := 0
  /-- OV clamp minimum. [w 16] [02 R51, R64] [reset 0, DC 8] -/
  ovMin : Nat := 0
  /-- OV clamp maximum. [w 16] [02 R51, R64] [reset 0, DC 8] -/
  ovMax : Nat := 0
  /-- UV clamp minimum. [w 16] [02 R51, R64] [reset 0, DC 8] -/
  uvMin : Nat := 0
  /-- UV clamp maximum. [w 16] [02 R51, R64] [reset 0, DC 8] -/
  uvMax : Nat := 0
  /-- Calibrated turnaround in ns. [w 16] [02 R51] [reset 0, DC 8] -/
  tta : Nat := 0
  /-- Lead resistance per channel in milliohm (03 R92). [w 16 x 16] [03 R92, 20 R560] [reset 0, DC 8] -/
  leadMohm : List Nat := List.replicate 16 0
  /-- D_UP in 20 ns counts. [w 16] [02 R51] [reset 0, DC 8] -/
  dUp : Nat := 0
  /-- D_DN. [w 16] [02 R51] [reset 0, DC 8] -/
  dDn : Nat := 0
  /-- DELAY_UNSET. [w 1] [02 R61] [reset 1, 02 R61] -/
  delayUnset : Bool := true
  /-- Applied OV threshold. [w 16] [02 R64] [reset the OV clamp max, set when the tap is first met] -/
  ov : Nat := 0
  /-- Applied UV threshold. [w 16] [02 R64] [reset the UV clamp min, set when the tap is first met] -/
  uv : Nat := 0
  /-- THRESH_CLAMPED. [w 1] [02 R61] [reset 0, 02 R61] -/
  clamped : Bool := false
  /-- Mark counter. [w 8] [02 R51, R59] [reset 0, 02 R51] -/
  marks : Nat := 0
  /-- Collection mode: false slot, true poll. [w 1] [02 R51] [reset slot, 02 R51] -/
  poll : Bool := false
  /-- Cell voltages of the last mark. [w 16 x 16] [02 R61] [reset none, DC 3] -/
  volts : List (Option Int) := List.replicate 16 none
  /-- Cell state nibbles of the last mark. [w 16 x 4] [02 R61] [reset 0, 02 R61] -/
  nibbles : List Nat := List.replicate 16 0
  /-- Temperatures. [w 8 x 16] [02 R61] [reset none, DC 3] -/
  temps : List (Option Int) := List.replicate 8 none
  /-- Instant of the last sample. [w ns] [02 R59] [reset none, DC 3] -/
  sampledAt : Option Nat := none
  /-- REV_MARK. [w 1] [02 R61] [reset 0, 02 R61] -/
  revMark : Bool := false
  /-- Latched OV trips. [w 16] [02 R65] [reset 0, DC 3] -/
  ovTrip : BitVec 16 := 0
  /-- Latched UV trips. [w 16] [02 R65] [reset 0, DC 3] -/
  uvTrip : BitVec 16 := 0
  /-- End of a running FLT_TEST pulse. [w ns] [02 R51, R65] [reset none, DC 3] -/
  fltTest : Option (Nat × Nat) := none
  /-- CLK_LOCK_LOST. [w 1] [02 R61] [reset 0, 02 R61] -/
  clkLost : Bool := false
  /-- SELF_TEST_FAIL. [w 1] [02 R61] [reset 0, 02 R61] -/
  selfTestFail : Bool := false
  /-- CAL_FAULT. [w 1] [02 R61] [reset 0, 02 R61] -/
  calFault : Bool := false
  /-- UPLINK_LOST. [w 1] [02 R61] [reset 0, 02 R61] -/
  uplinkLost : Bool := false
  /-- LOOP_LOW. [w 1] [02 R61] [reset 0, 02 R61] -/
  loopLow : Bool := false
  /-- FLT loop current in 0.1 mA as last measured. [w 8] [02 R51] [reset 0, DC 3] -/
  loopMa : Nat := 0
  /-- Tap supply, cell-voltage format. [w 16] [02 R51] [reset none, DC 3] -/
  supply : Option Int := none
  /-- CRC errors at the up-port. [w 16] [02 R46, R51] [reset 0, DC 3] -/
  crcUp : Nat := 0
  /-- CRC errors at the down-port. [w 16] [02 R46, R51] [reset 0, DC 3] -/
  crcDn : Nat := 0
  /-- Asleep. [w 1] [02 R75] [reset false, DC 3] -/
  asleep : Bool := false
  /-- Last request passed on: towards the low end, with RB, and when. [w 1+1+ns] [02 R49] [reset none, DC 3] -/
  passed : Option (Bool × Bool × Nat) := none
  /-- Balance slots 0 and 1. [w 2 slots] [03 R83] [reset each as Slot] -/
  slots : List Slot := [{}, {}]
  /-- Measurement mode: false gated, true compensated; none before BAL_MODE since reset. [w 1+1] [03 R87, R88] [reset none, 03 R88] -/
  balMode : Option Bool := none
  /-- Predicted mark interval in microseconds. [w 32] [03 R87] [reset 0, DC 3] -/
  balPeriod : Nat := 0
  /-- Converter temperature. [w 16] [03 R85] [reset none, DC 3] -/
  convTemp : Option Int := none
  /-- Impedance side. [w record] [05 R147] [reset as TapImp] -/
  imp : TapImp := {}
  /-- Firmware side. [w record] [19 R544] [reset as TapFw] -/
  fw : TapFw := {}
  deriving DecidableEq, Repr

/-- What the module knows of one ring position (02 R55, R56, R77, R81). -/
structure RingPos where
  /-- Serial in the ring map. [w 64] [02 R56] [reset none: never enumerated] -/
  serial : Option Nat := none
  /-- Firmware version. [w 16] [02 R81] [reset 0, DC 3] -/
  fwVer : Nat := 0
  /-- Chemistry code. [w 8] [04 R120] [reset 0, DC 3] -/
  chem : Nat := 0
  /-- OV clamps min, max. [w 16+16] [02 R81] [reset 0, DC 3] -/
  ovClamp : Nat × Nat := (0, 0)
  /-- UV clamps min, max. [w 16+16] [02 R81] [reset 0, DC 3] -/
  uvClamp : Nat × Nat := (0, 0)
  /-- Applied thresholds as answered. [w 16+16] [09 R263] [reset none, DC 3] -/
  applied : Option (Nat × Nat) := none
  /-- out_UP in ns. [w 16] [02 R53] [reset none, DC 3] -/
  outUp : Option Nat := none
  /-- out_DN in ns. [w 16] [02 R53] [reset none, DC 3] -/
  outDn : Option Nat := none
  /-- D_UP sent. [w 16] [02 R54] [reset 100, 02 R55] -/
  dUp : Nat := 100
  /-- D_DN sent. [w 16] [02 R54] [reset 100, 02 R55] -/
  dDn : Nat := 100
  /-- TAP_REPLACED flag. [w 1] [02 R56] [reset false, DC 3] -/
  replaced : Bool := false
  /-- UNREACHABLE. [w 1] [02 R71] [reset false, DC 3] -/
  unreachable : Bool := false
  /-- This sweep's data has been delivered in a slot or by a poll. [w 1] [02 R62, R70] [reset false, DC 3] -/
  got : Bool := false
  /-- It sampled on the re-sent mark. [w 1] [02 R63] [reset false, DC 3] -/
  late : Bool := false
  /-- The tap must be set up again (R62). [w 1] [02 R62] [reset false, DC 3] -/
  resetup : Bool := false
  /-- Its mark counter must be reloaded (R62). [w 1] [02 R62] [reset false, DC 3] -/
  recount : Bool := false
  /-- Expected mark count. [w 8] [02 R62] [reset 0, DC 3] -/
  expect : Nat := 0
  /-- CRC counts last read, up-port and down-port. [w 16+16] [02 R80] [reset 0, DC 3] -/
  crc : Nat × Nat := (0, 0)
  /-- Frames received at the up-port since READ_STATUS was last sent, as the sequencer counts them. [w 32] [02 R80] [reset 0, DC 3] -/
  frUp : Nat := 0
  /-- The same of the down-port. [w 32] [02 R80] [reset 0, DC 3] -/
  frDn : Nat := 0
  /-- Instant of the last READ_STATUS. [w ns] [02 R80] [reset 0, DC 3] -/
  statusAt : Nat := 0
  /-- Identified since the boot or the takeover, so that its clamps are known. [w 1] [02 R567] [reset false, DC 3] -/
  known : Bool := false
  /-- Frames and errors of the running block, up-port. [w 16+16] [02 R80] [reset 0, DC 3] -/
  blkUp : Nat × Nat := (0, 0)
  /-- Frames and errors of the running block, down-port. [w 16+16] [02 R80] [reset 0, DC 3] -/
  blkDn : Nat × Nat := (0, 0)
  /-- The last completed block of a port lay beyond CRC_WARN: up, down. [w 1+1] [02 R80] [reset false, DC 3] -/
  overUp : Bool := false
  /-- The same of the down-port. [w 1] [02 R80] [reset false, DC 3] -/
  overDn : Bool := false
  /-- Instant of the last FLT test. [w ns] [02 R67] [reset 0, DC 3] -/
  fltTestAt : Nat := 0
  /-- Lease set last sent: slot 0 and 1 as channel and direction. [w 2 x (8+8)] [03 R89] [reset none requested] -/
  sent : List (Option (Nat × Bool)) := [none, none]
  /-- Leases that run, as the responses tell: per slot channel, direction and end. [w 2 x (8+8+ns)] [03 R100] [reset none, DC 3] -/
  run : List (Option (Nat × Bool × Nat)) := [none, none]
  /-- Instant up to which their charge has been counted. [w ns] [03 R100] [reset 0, DC 3] -/
  countedAt : Nat := 0
  /-- BAL_LEASE is to be sent in the next command window. [w 1] [03 R87, R89] [reset false, DC 3] -/
  leaseDue : Bool := false
  /-- The last BAL_LEASE result was good. [w 1] [03 R89] [reset false, DC 3] -/
  lastOk : Bool := false
  deriving DecidableEq, Repr

/-- One ring as the module runs it. -/
structure Ring where
  /-- Enumerated and swept. [w 1] [02 R52] [reset false, DC 3] -/
  up : Bool := false
  /-- Split mode. [w 1] [02 R72] [reset through, DC 3] -/
  split : Bool := false
  /-- Tap count last enumerated. [w 5] [02 R50] [reset none: never enumerated] -/
  n : Option Nat := none
  /-- Loop delay L in ns. [w 16] [02 R52] [reset none, DC 3] -/
  loop : Option Nat := none
  /-- Positions 1 to 16. [w 16 entries] [02 R81] [reset each as RingPos] -/
  pos : List RingPos := List.replicate 16 {}
  /-- RING_TOO_LONG. [w 1] [02 R50] [reset false, DC 3] -/
  tooLong : Bool := false
  /-- TAP_COUNT_MISMATCH. [w 1] [02 R56] [reset false, DC 3] -/
  mismatch : Bool := false
  /-- Break location: k, and the first position covered from the high end. [w 5+5] [02 R71] [reset none, DC 3] -/
  brk : Option (Nat × Nat) := none
  /-- A break has been declared and not yet located. [w 1] [02 R68] [reset false, DC 3] -/
  locating : Bool := false
  /-- Located in this collection: split mode entry in the command window. [w 1] [02 R72] [reset false, DC 3] -/
  enterSplit : Bool := false
  /-- Collection in progress: mark time in ns of module time. [w ns] [02 R58] [reset none, DC 3] -/
  mark : Option Nat := none
  /-- Next position polled from the low end; none when that end has stopped. [w 5] [02 R70] [reset none, DC 3] -/
  pollLow : Option Nat := none
  /-- Next hop polled from the high end. [w 5] [02 R70] [reset none, DC 3] -/
  pollHigh : Option Nat := none
  /-- Instants from which the low and the high end poll in this collection. [w 2 x ns] [02 R70] [reset 0, DC 3] -/
  pollsFrom : Nat × Nat := (0, 0)
  /-- Instant the last collection ended. [w ns] [02 R58, R73] [reset 0, DC 3] -/
  endedAt : Nat := 0
  /-- Instant of the last ECHO probe of the running measurement, and the number of the next one. [w ns+6] [02 R55] [reset 0, DC 3] -/
  probed : Nat × Nat := (0, 0)
  /-- SET_COLLECT (slot) has gone out in the last windows of the re-measurement. [w 1] [02 R74] [reset false, DC 3] -/
  slotSent : Bool := false
  /-- Highest position that answered from the low end, and highest hop from the high end, in this collection. [w 5+5] [02 R71] [reset 0, DC 3] -/
  ansLow : Nat := 0
  /-- Highest hop that answered from the high end. [w 5] [02 R71] [reset 0, DC 3] -/
  ansHigh : Nat := 0
  /-- Lateness of samples of a re-sent mark, in 0.1 us. [w 16] [02 R63, R69] [reset 0, DC 3] -/
  lateness : Nat := 0
  /-- Consecutive clean seconds. [w 10] [02 R74] [reset 0, DC 3] -/
  clean : Nat := 0
  /-- TAI second of the last round-trip test. [w 32] [02 R74] [reset none, DC 3] -/
  tested : Option Nat := none
  /-- Instants of splits of the last 10 minutes. [w list] [02 R74] [reset empty, DC 3] -/
  splits : List Nat := []
  /-- Held in split mode until RING_RESTORE. [w 1] [02 R74] [reset false, DC 3] -/
  hold : Bool := false
  /-- RING_RESTORE waives the clean seconds. [w 1] [02 R74] [reset false, DC 3] -/
  waive : Bool := false
  /-- Re-measurement runs: TAI second in which it runs. [w 32] [02 R74] [reset none, DC 3] -/
  remeasure : Option Nat := none
  /-- SWEEP_STRETCHED. [w 1] [02 R73] [reset false, DC 3] -/
  stretched : Bool := false
  /-- RING_MARGIN raised on this ring. [w 1] [02 R80] [reset false, DC 3] -/
  margin : Bool := false
  /-- Next position to test with FLT_TEST. [w 5] [02 R67] [reset 1, DC 3] -/
  fltNext : Nat := 1
  /-- FLT_TEST_FAIL per position. [w 16] [02 R67] [reset 0, DC 3] -/
  fltFail : BitVec 16 := 0
  /-- The fault loop has been closed since this instant. [w ns] [02 R67] [reset 0, DC 3] -/
  loopClosedAt : Nat := 0
  /-- Pass-through and link delay to the other module in ns, as PT_PROBE measured it. [w 16] [02 R77] [reset none, DC 3] -/
  passDelay : Option Nat := none
  /-- The same of this module, as the other one measured it. [w 16] [02 R77, 14 R419] [reset none, DC 3] -/
  ownPass : Option Nat := none
  /-- Instant of the last delay-table refresh. [w ns] [02 R55] [reset 0, DC 3] -/
  refreshedAt : Nat := 0
  deriving DecidableEq, Repr

/-- One cell of the latest sweep (02 R61, R63). -/
structure SweepCell where
  /-- Voltage. [w 16] [02 R61] [reset none, DC 3] -/
  v : Option Int := none
  /-- Cell state nibble. [w 4] [02 R61] [reset 0, 02 R61] -/
  nib : Nat := 0
  /-- LATE. [w 1] [02 R63] [reset false, DC 3] -/
  late : Bool := false
  /-- Lateness in 0.1 us. [w 16] [02 R63] [reset 0, DC 3] -/
  lateness : Nat := 0
  deriving DecidableEq, Repr

/-- The rings together. -/
structure Rings where
  /-- Rings A and B. [w 2 rings] [02 R37] [reset each as Ring] -/
  ring : List Ring := [{}, {}]
  /-- The 32 tap positions, ring x 16 + position - 1. [w 32 taps] [02 R38] [reset each as Tap] -/
  tap : List Tap := List.replicate 32 {}
  /-- Cells of the sweep being collected. [w 512 cells] [02 R61] [reset each as SweepCell] -/
  build : List SweepCell := List.replicate 512 {}
  /-- Temperatures of the sweep being collected. [w 256 x 16] [02 R61] [reset none, DC 3] -/
  buildT : List (Option Int) := List.replicate 256 none
  /-- Cells of the latest assembled sweep. [w 512 cells] [02 R81] [reset each as SweepCell] -/
  cells : List SweepCell := List.replicate 512 {}
  /-- Temperatures of the latest assembled sweep. [w 256 x 16] [02 R61] [reset none, DC 3] -/
  temps : List (Option Int) := List.replicate 256 none
  /-- Mark instant of each cell's last voltage value. [w 512 x ns] [06 R173] [reset none, DC 3] -/
  lastV : List (Option Nat) := List.replicate 512 none
  /-- Tap status words of the latest sweep. [w 32 x 16] [02 R61] [reset 0, DC 3] -/
  status : List Nat := List.replicate 32 0
  /-- Mark time of the latest assembled sweep, module ns, and its 64-bit stamp. [w 64] [01 R25] [reset none, DC 3] -/
  mark : Option (Nat × Nat) := none
  /-- Number of assembled sweeps. [w 32] [01 R25] [reset 0, DC 3] -/
  count : Nat := 0
  /-- Effective OV and UV thresholds. [w 16+16] [02 R567] [reset none: no tap identified] -/
  eff : Option (Nat × Nat) := none
  /-- The effective thresholds break a rule of R197 (R567). [w 1] [02 R567] [reset false, DC 3] -/
  effBad : Bool := false
  /-- Sweep period in force on the rings, microseconds. [w 32] [02 R57] [reset 1000, 02 R79] -/
  period : Nat := 1000
  /-- Period that takes effect at the first mark of the next second, and the instant of that second. [w 32+ns] [02 R57] [reset none, DC 3] -/
  nextPeriod : Option (Nat × Nat) := none
  /-- FLT_TEST_NOW in progress: mailbox, the dips seen, the taps still to test. [w record] [02 R67, R81] [reset none, DC 3] -/
  fltNow : Option (Nat × List (List (Option Nat)) × List Nat) := none
  /-- CLEAR_TRIPS in progress: mailbox, what each tap's comparators see, the rings still to send it on. [w record] [02 R58, R81] [reset none, DC 3] -/
  clearNow : Option (Nat × List (List (Option Int)) × List Nat) := none
  /-- SET_THRESH must be sent to every tap of ring A, B. [w 2] [02 R58, R567] [reset false, DC 3] -/
  threshDue : List Bool := [false, false]
  /-- BAL_MODE must be sent to every tap of ring A, B. [w 2] [03 R96] [reset false, DC 3] -/
  balModeDue : List Bool := [false, false]
  /-- A broadcast BAL_STOP must go out on ring A, B in the next command window. [w 2] [03 R101] [reset false, DC 3] -/
  balStopDue : List Bool := [false, false]
  /-- Mailbox of the STOP of balancing that waits for that broadcast. [w 3] [03 R101, 13 R390] [reset none, DC 3] -/
  balStopMb : Option Nat := none
  /-- Rings that the RESTART in progress still has to enumerate. [w 2] [02 R52, 13 R385] [reset none, DC 3] -/
  enumDue : List Bool := [false, false]
  /-- Mark time of the sweep being collected, module ns. [w ns] [01 R25] [reset none, DC 3] -/
  sweepT : Option Nat := none
  /-- Charge counter and string current at that mark. [w 64+16] [04 R109] [reset 0, DC 3] -/
  sweepI : Int × Int := (0, 0)
  /-- Collection has ended and the command window is open, per ring. [w 2] [02 R58] [reset false, DC 3] -/
  window : List Bool := [false, false]
  /-- Full-rate sweeps start no earlier: the next whole second after a wake from Dormant. [w ns] [12 R368] [reset 0, DC 3] -/
  resumeAt : Nat := 0
  /-- Instant of the last BAL_RENEW. [w ns] [03 R89] [reset none, DC 3] -/
  renewAt : Option Nat := none
  /-- Forced leases: cell, direction, end. [w list] [03 R104] [reset empty, DC 3] -/
  forced : List (Nat × Bool × Nat) := []
  deriving DecidableEq, Repr

/-! ## Estimation (04) and impedance (05)

Working values of the filters are held as integers in units of 2^-80 of the SI unit ("Q80"); the spec gives the coded
fields of a context and no internal format (DESIGN CHOICE, notes/assumptions/20). -/

/-- A Z slot (04 R106, 05 R152, R153). -/
structure ZSlot where
  /-- Tone index, 0xFF empty. [w 8] [04 R106] [reset 0xFF, DC 3] -/
  tone : Nat := 0xFF
  /-- Slot flags. [w 8] [05 R153] [reset 0, 05 R153] -/
  flags : BitVec 8 := 0
  /-- Real part, microohm. [w 16] [04 R106] [reset 0, DC 3] -/
  re : Int := 0
  /-- Imaginary part, microohm. [w 16] [04 R106] [reset 0, DC 3] -/
  im : Int := 0
  /-- Phase in 0.001 degree. [w 32] [05 R161] [reset 0, DC 3] -/
  phase : Int := 0
  /-- Window start mark, low 48 bits. [w 48] [04 R106] [reset 0, DC 3] -/
  mark : Nat := 0
  deriving DecidableEq, Repr

/-- One cell context (04 R106) with its working store. -/
structure Ctx where
  /-- FLAGS. [w 16] [04 R106] [reset 0x4200: LIM_FALLBACK and T_INT_SENSOR, 04 R106] -/
  flags : BitVec 16 := 0x4200
  /-- Instant of EST_MARK and its low 48 bits. [w ns+48] [04 R106] [reset none, DC 3] -/
  est : Option (Nat × Nat) := none
  /-- V_LAST. [w 16] [04 R106] [reset none, DC 3] -/
  vLast : Option Int := none
  /-- T_NEAR. [w 16] [04 R106] [reset none, DC 3] -/
  tNear : Option Int := none
  /-- T_INDEX. [w 8] [04 R106] [reset 0xFF, DC 3] -/
  tIndex : Nat := 0xFF
  /-- SAMPLE_STATE. [w 8] [04 R106] [reset 0, DC 3] -/
  sample : Nat := 0
  /-- SOC working value. [w Q80, coded Q31] [04 R106] [reset 0, DC 3] -/
  soc : Int := 0
  /-- VFAST working value in volt. [w Q80] [04 R106] [reset 0, DC 3] -/
  vfast : Int := 0
  /-- VSLOW working value in volt. [w Q80] [04 R106] [reset 0, DC 3] -/
  vslow : Int := 0
  /-- HYST working value. [w Q80] [04 R106] [reset 0, DC 3] -/
  hyst : Int := 0
  /-- RS working value in ohm. [w Q80] [04 R106] [reset 0, DC 3] -/
  rs : Int := 0
  /-- Covariance of SOC, VFAST, VSLOW, HYST, RS, row-major. [w 25 x Q80] [04 R113] [reset 0, DC 3] -/
  cov : List Int := List.replicate 25 0
  /-- CAPACITY working value in ampere-hour. [w Q80, coded 0.001 Ah] [04 R106] [reset 0, DC 3] -/
  cap : Int := 0
  /-- CAP_SIGMA working value in ampere-hour. [w Q80, coded 0.01 Ah] [04 R106] [reset 0, DC 3] -/
  capSigma : Int := 0
  /-- RFAST in ohm. [w Q80] [04 R106] [reset 0, DC 3] -/
  rfast : Int := 0
  /-- TFAST in ms. [w 16] [04 R106] [reset 0, DC 3] -/
  tfast : Int := 0
  /-- RSLOW in ohm. [w Q80] [04 R106] [reset 0, DC 3] -/
  rslow : Int := 0
  /-- TSLOW in 0.1 s. [w 16] [04 R106] [reset 0, DC 3] -/
  tslow : Int := 0
  /-- T_INT working value in 0.01 degree. [w Q80] [04 R106] [reset none, DC 3] -/
  tInt : Option Int := none
  /-- Instant and stamp of T_INT_CORR. [w ns+48] [04 R106] [reset none, DC 3] -/
  tCorr : Option (Nat × Nat) := none
  /-- I_CHG_LIM. [w 16] [04 R106] [reset none, DC 3] -/
  lim : Option Int := none
  /-- UPDATE_COUNT. [w 16] [04 R106] [reset 0, DC 3] -/
  updates : Nat := 0
  /-- INNOV, 10 microvolt. [w 16] [04 R106] [reset 0, DC 3] -/
  innov : Int := 0
  /-- GATE_REJECTS. [w 16] [04 R106] [reset 0, DC 3] -/
  rejects : Nat := 0
  /-- Z slots. [w 4 slots] [04 R106] [reset each as ZSlot] -/
  z : List ZSlot := List.replicate 4 {}
  /-- BAL_STATE. [w 8] [04 R106] [reset 0, DC 3] -/
  bal : Nat := 0
  /-- CHEM_SET. [w 8] [04 R106] [reset 0, 04 R134] -/
  chem : Nat := 0
  /-- Charge moved out by balancing, microampere-seconds (coded 0.001 Ah). [w 32] [03 R100, 04 R106] [reset 0, DC 3] -/
  balDis : Nat := 0
  /-- The W1C flags that their causes set at an instant, with that instant. [w ns+16] [00 R6] [reset 0, DC 3] -/
  raised : Nat × BitVec 16 := (0, 0)
  /-- Charge moved in by balancing. [w 32] [03 R100, 04 R106] [reset 0, DC 3] -/
  balChg : Nat := 0
  /-- String counter (LSB x ns), balance totals and mark instant that the last update used. [w 64+32+32+ns] [04 R109, R110, R127] [reset none, DC 3] -/
  used : Option (Int × Nat × Nat × Nat) := none
  /-- Number of the sweep last used. [w 32] [04 R127] [reset 0, DC 3] -/
  sweep : Nat := 0
  /-- Previous capacity anchor: SOC, its sigma (Q80), cell charge in LSB x ns. [w Q80+Q80+64] [04 R116] [reset none, DC 3] -/
  anchor : Option (Int × Int × Int) := none
  /-- Cell charge since the context began, in LSB x ns. [w 64] [04 R110, R116] [reset 0, DC 3] -/
  charge : Int := 0
  /-- The context holds an initialised state. [w 1] [04 R131] [reset false: never saved] -/
  inited : Bool := false
  /-- That re-initialisation needs the string current at rest (R131). [w 1] [04 R131] [reset false, DC 3] -/
  reinitRest : Bool := false
  /-- SOC is to be set from the open-circuit voltage at the next valid sample after this sweep number. [w 1+32] [04 R131 to R133] [reset none, DC 3] -/
  reinit : Option Nat := none
  deriving DecidableEq, Repr

/-- Phasors of one window waiting beside the context store (05 R150, R151). -/
structure Staging where
  /-- Instant and 48-bit stamp of T0. -/
  t0 : Nat × Nat
  /-- Tones. -/
  tones : List Nat
  /-- Current phasor per tone, 1 microampere. -/
  cur : List (Int × Int)
  /-- Voltage phasors in nanovolt: per tone, per cell index, none where the tap or channel gives none. -/
  volt : List (List (Option (Int × Int)))
  /-- DISTURBED under R153. -/
  disturbed : Bool
  deriving DecidableEq, Repr

/-- Estimation array. -/
structure Est where
  /-- Contexts 0 to 511. [w 512 x 128 bytes] [04 R105] [reset each as Ctx] -/
  ctx : List Ctx := List.replicate 512 {}
  /-- Instant of the last flush of I5's crossings: values of the contexts from before it are absent at I6. [w ns] [01 R18] [reset none] -/
  flushAt : Option Nat := none
  /-- Contexts as last saved to NVM, with the RTC instant. [w 512 contexts] [04 R131] [reset none: never saved] -/
  saved : Option (List Ctx × Nat) := none
  /-- The four stored chemistry sets. [w 4 x 1024 bytes] [04 R120] [reset all zero, 04 R120] -/
  chem : List (List Byte) := List.replicate 4 (List.replicate 1024 0)
  /-- Staging copies of the sets. [w 4 x 1024 bytes] [04 R122] [reset none, DC 3] -/
  chemStaged : List (Option (List Byte)) := [none, none, none, none]
  /-- CHEM_MISMATCH. [w 1] [04 R120] [reset true: blank sets, 04 R120] -/
  mismatch : Bool := true
  /-- Charge counter in string-current LSB x ns, that is 1/32,000 microampere-second. [w 64] [04 R109] [reset 0, DC 3] -/
  counter : Int := 0
  /-- Instant up to which the counter has been integrated. [w ns] [04 R109] [reset 0, DC 3] -/
  counterAt : Nat := 0
  /-- Counter and string current at the latest sweep's mark. [w 64+16] [04 R109] [reset 0, DC 3] -/
  atMark : Int × Int := (0, 0)
  /-- Instant of the last update period's start. [w ns] [04 R127] [reset none, DC 3] -/
  lastAt : Option Nat := none
  /-- Update period in ms. [w 6] [04 R127] [reset 10, 04 R134] -/
  period : Nat := 10
  /-- Estimation load in 0.01 percent over the last 100 ms. [w 16] [04 R568] [reset 0, DC 3] -/
  load : Nat := 0
  /-- Cycles of the work scheduled in the last 100 ms, by instant. [w list] [04 R568] [reset empty, DC 3] -/
  work : List (Nat × Nat) := []
  /-- Cycles due in the running update period. [w 32] [04 R568] [reset 0, DC 3] -/
  busy : Nat := 0
  /-- Cycles of the reads answered since it began. [w 32] [04 R568, 01 R36] [reset 0, DC 3] -/
  reads : Nat := 0
  /-- Engines in service. [w 3] [04 R568] [reset 4, 01 R22] -/
  engines : Nat := 4
  /-- CTX_READ requests deferred: mailbox, in order of arrival. [w list] [04 R129] [reset empty, DC 3] -/
  deferred : List Nat := []
  /-- Instant since which the string current has been at most REST_CURRENT. [w ns] [04 R135] [reset none, DC 3] -/
  restSince : Option Nat := none
  /-- Phasors waiting for the arithmetic. [w record] [05 R151] [reset none, DC 3] -/
  staging : Option Staging := none
  deriving DecidableEq, Repr

/-- State of the impedance function (05 R161). -/
inductive ImpState where
  | idle | lead | integrating | reading
  deriving DecidableEq, Repr

/-- Impedance during dispatch. -/
structure Imp where
  /-- State. [w 2] [05 R161] [reset idle, DC 3] -/
  st : ImpState := .idle
  /-- Window ID. [w 8] [05 R147] [reset 0, DC 3] -/
  wid : Nat := 0
  /-- Spectrum window (else temperature window). [w 1] [05 R138] [reset false, DC 3] -/
  spectrum : Bool := false
  /-- Tones of the window, ascending. [w 4 x 8] [05 R138] [reset empty, DC 3] -/
  tones : List Nat := []
  /-- T0: instant and stamp. [w ns+64] [05 R138] [reset 0, DC 3] -/
  t0 : Nat × Nat := (0, 0)
  /-- W in sweep periods. [w 32] [05 R139] [reset 0, DC 3] -/
  len : Nat := 0
  /-- Sweep period when the window started. [w 32] [05 R141] [reset 0, DC 3] -/
  period : Nat := 0
  /-- Excitation peak A, string-current LSB. [w 16] [05 R142] [reset 0, DC 3] -/
  amp : Int := 0
  /-- Start of the lead. [w ns] [05 R142] [reset 0, DC 3] -/
  leadAt : Nat := 0
  /-- Start of the fade to zero: instant and amplitude then. [w ns+16] [05 R142] [reset none, DC 3] -/
  fade : Option (Nat × Int) := none
  /-- Taps armed with result 0, bit ring x 16 + position - 1. [w 32] [05 R147] [reset 0, DC 3] -/
  armed : List Nat := []
  /-- Taps to which IMP_WINDOW with length 0 is still to be sent. [w 32] [05 R159] [reset empty, DC 3] -/
  stopTaps : List Nat := []
  /-- Taps still to be read. [w 32] [05 R150] [reset empty, DC 3] -/
  toRead : List Nat := []
  /-- Instant the previous temperature window started. [w ns] [05 R138] [reset none, DC 3] -/
  lastTemp : Option Nat := none
  /-- Instant the previous spectrum window fell due. [w ns] [05 R138] [reset 0, DC 3] -/
  lastSpec : Nat := 0
  /-- IMP_SPECTRUM_NOW is due. [w 1] [05 R138] [reset false, DC 3] -/
  specNow : Bool := false
  /-- IMP_SPECTRUM_BLOCKED. [w 1] [05 R140] [reset false, DC 3] -/
  blocked : Bool := false
  /-- Abort counts by cause, codes 0x0400 to 0x0409. [w 10 x 32] [05 R161] [reset 0, DC 3] -/
  aborts : List Nat := List.replicate 10 0
  /-- IMP_OVERRUN count. [w 32] [05 R151] [reset 0, DC 3] -/
  overruns : Nat := 0
  /-- Current phasors of the window that ended. [w 4 x 64] [05 R146] [reset empty, DC 3] -/
  cur : List (Int × Int) := []
  /-- The window's mean drift exceeded IMP_DRIFT_LIM. [w 1] [05 R153] [reset false, DC 3] -/
  disturbed : Bool := false
  /-- Voltage phasors collected so far: per tone, per cell. [w 4 x 512 x 64] [05 R150] [reset empty, DC 3] -/
  got : List (List (Option (Int × Int))) := []
  /-- IMP_SETUP of the coming window has gone out on ring A, B. [w 2] [05 R147] [reset false, DC 3] -/
  setupSent : List Bool := [false, false]
  /-- Last result per tone: tone, T0 stamp, current phasor. [w list] [05 R161] [reset empty, DC 3] -/
  last : List (Nat × Nat × Int × Int) := []
  /-- A gate-off has occurred since the lead began. [w 1] [05 R141] [reset false, DC 3] -/
  gateOff : Bool := false
  /-- A takeover has occurred since the lead began. [w 1] [05 R141] [reset false, DC 3] -/
  takeover : Bool := false
  deriving DecidableEq, Repr

/-! ## Control-law engines (06) -/

/-- What an engine does (06 R162, R185, R198). -/
inductive EngRole where
  | p | s | c | w | selfTest | out
  deriving DecidableEq, Repr

/-- One control-law engine. -/
structure Engine where
  /-- Role or state. [w 3] [06 R162] [reset out of service: unpowered, DC 2] -/
  role : EngRole := .out
  /-- Last self-test result. [w 2] [06 R198] [reset none, DC 3] -/
  test : Option Bool := none
  /-- Passed its self-test; becomes shadow at the next rotation boundary. [w 1] [06 R185] [reset false, DC 3] -/
  ready : Bool := false
  /-- Held out until CTRL_ENGINE_RETURN. [w 1] [06 R185] [reset false, DC 3] -/
  heldOut : Bool := false
  /-- Instants of removals of the last 24 h. [w list] [06 R185, R198] [reset empty, DC 3] -/
  removals : List Nat := []
  /-- Mismatch count. [w 32] [06 R198] [reset 0, DC 3] -/
  mismatches : Nat := 0
  /-- Consecutive missed samples of roles P, S, C as this engine computes them. [w 3 x 2] [06 R182, R184] [reset 0, DC 3] -/
  missRun : List Nat := [0, 0, 0]
  deriving DecidableEq, Repr

/-- One loop of R172: 0 phase current, 1 ramp limiter, 2 link regulation, 3 current correction, 4 link lower, 5 link
upper, 6 thermal capacity, 7 highest cell, 8 lowest cell, 9 plating, 10 derating, 11 container. -/
structure LoopRec where
  /-- MISSED. [w 1] [06 R181] [reset false, DC 3] -/
  missed : Bool := false
  /-- MISSED count. [w 32] [06 R181] [reset 0, DC 3] -/
  missedN : Nat := 0
  /-- SAT count. [w 32] [06 R168] [reset 0, DC 3] -/
  sat : Nat := 0
  /-- ACC_OVF count. [w 32] [06 R167] [reset 0, DC 3] -/
  ovf : Nat := 0
  /-- Integrator, Q31. [w 40] [06 R179] [reset 0, DC 3] -/
  integ : Int := 0
  /-- The loop won in the last phase-current cycle. [w 1] [06 R179] [reset false, DC 3] -/
  won : Bool := false
  deriving DecidableEq, Repr

/-- What role P gives the modulator of one phase (06 R181, R182). -/
structure PhaseOut where
  /-- Valley reference. -/
  valley : Int := 0
  /-- A swap is due. -/
  swap : Bool := false
  /-- Fires in the rotation. -/
  active : Bool := false
  /-- To be added. -/
  adding : Bool := false
  /-- To be dropped. -/
  dropping : Bool := false
  deriving DecidableEq, Repr

/-- Outputs of role P (06 R181). -/
structure OutputsP where
  /-- Applied reference. -/
  applied : Int := 0
  /-- Reference with excitation. -/
  reference : Int := 0
  /-- Winner code. -/
  win : Nat := 0xFF
  /-- c0 and d0. -/
  ceil : Int × Int := (0, 0)
  /-- Active count. -/
  na : Nat := 0
  /-- The phases. -/
  ph : List PhaseOut := []
  deriving DecidableEq, Repr

/-- Outputs of role S (06 R181). -/
structure OutputsS where
  /-- Request. -/
  request : Int := 0
  /-- Trim. -/
  trim : Int := 0
  /-- LINK_VMIN candidate. -/
  linkMin : Option Int := none
  /-- LINK_VMAX candidate. -/
  linkMax : Option Int := none
  /-- THERM_CAP candidate. -/
  therm : Option Int := none
  deriving DecidableEq, Repr

/-- Outputs of role C at a sweep (06 R181). -/
structure OutputsC where
  /-- CELL_VMAX candidate. -/
  cellMax : Option Int := none
  /-- CELL_VMIN candidate. -/
  cellMin : Option Int := none
  /-- PLATING candidate. -/
  plating : Option Int := none
  /-- Cell that sets it. -/
  platingCell : Option Nat := none
  /-- TEMP_DERATE_CHG candidate. -/
  derChg : Option Int := none
  /-- TEMP_DERATE_DIS candidate. -/
  derDis : Option Int := none
  deriving DecidableEq, Repr

/-- The control-law engine array. -/
structure Ctrl where
  /-- Engines 0 to 3. [w 4 engines] [06 R162] [reset each as Engine] -/
  eng : List Engine := List.replicate 4 {}
  /-- The loops. [w 12 loops] [06 R172] [reset each as LoopRec] -/
  loops : List LoopRec := List.replicate 12 {}
  /-- SHADOW_ABSENT. [w 1] [06 R182] [reset false, DC 3] -/
  shadowAbsent : Bool := false
  /-- CTRL_CAPACITY. [w 1] [06 R165] [reset false, DC 3] -/
  capacity : Bool := false
  /-- Role the shadow takes at the next boundary: 0 P, 1 S, 2 C. [w 2] [06 R187] [reset P, 06 R187] -/
  nextRole : Nat := 0
  /-- Instant of the last difference the shadow showed. [w ns] [06 R188] [reset none, DC 3] -/
  lastDiff : Option Nat := none
  /-- Consecutive differing samples of roles P, S, C. [w 3 x 2] [06 R186] [reset 0, DC 3] -/
  diffRun : List Nat := [0, 0, 0]
  /-- A mismatch is being resolved: role concerned and the former active engine, once the shadow has passed. [w 2+3] [06 R186] [reset none, DC 3] -/
  resolving : Option (Nat × Option Nat) := none
  /-- Applied reference. [w 16] [06 R177] [reset 0, DC 3] -/
  applied : Int := 0
  /-- Request. [w 16] [06 R177] [reset 0, DC 3] -/
  request : Int := 0
  /-- Reference with excitation. [w 16] [06 R177] [reset 0, DC 3] -/
  reference : Int := 0
  /-- Winner code. [w 8] [06 R176] [reset 0xFF NONE, 06 R176] -/
  win : Nat := 0xFF
  /-- c0 and d0 of the last cycle. [w 16+16] [06 R177] [reset 0, DC 3] -/
  ceil : Int × Int := (0, 0)
  /-- PLATING candidate. [w 16] [06 R176] [reset absent, DC 3] -/
  plating : Option Int := none
  /-- Cell that sets it. [w 16] [04 R135] [reset none, DC 3] -/
  platingCell : Option Nat := none
  /-- CELL_VMAX candidate. [w 16] [06 R176] [reset absent, DC 3] -/
  cellMax : Option Int := none
  /-- CELL_VMIN candidate. [w 16] [06 R176] [reset absent, DC 3] -/
  cellMin : Option Int := none
  /-- TEMP_DERATE_CHG candidate. [w 16] [06 R176] [reset absent, DC 3] -/
  derChg : Option Int := none
  /-- TEMP_DERATE_DIS candidate. [w 16] [06 R176] [reset absent, DC 3] -/
  derDis : Option Int := none
  /-- LINK_VMIN candidate. [w 16] [06 R176] [reset absent, DC 3] -/
  linkMin : Option Int := none
  /-- LINK_VMAX candidate. [w 16] [06 R176] [reset absent, DC 3] -/
  linkMax : Option Int := none
  /-- THERM_CAP candidate. [w 16] [06 R176] [reset absent, DC 3] -/
  therm : Option Int := none
  /-- Thermal state theta, a Q31 accumulator. [w 40] [06 R175] [reset 1.0, 06 R175] -/
  theta : Int := 2147483648
  /-- Trim of the string-current correction. [w 16] [06 R172] [reset 0, DC 3] -/
  trim : Int := 0
  /-- Time each winner code 0x00 to 0x0B has won, and NONE, ns. [w 13 x 64] [06 R178] [reset 0, DC 3] -/
  wins : List Nat := List.replicate 13 0
  /-- Instant of the last phase-current cycle. [w ns] [06 R178] [reset 0, DC 3] -/
  cycleAt : Nat := 0
  /-- CS-SHUNT of the last cycle; none when absent. [w 16] [06 R192] [reset none, DC 3] -/
  shunt : Option Int := none
  /-- CS-HALL of the last cycle. [w 16] [06 R192] [reset none, DC 3] -/
  hall : Option Int := none
  /-- CS-SHUNT failed. [w 1] [06 R194] [reset in service, DC 3] -/
  shuntFail : Bool := false
  /-- CS-HALL failed. [w 1] [06 R194] [reset in service, DC 3] -/
  hallFail : Bool := false
  /-- Instant both failed. [w ns] [06 R195] [reset none, DC 3] -/
  bothAt : Option Nat := none
  /-- Instant since which the two sensors have agreed. [w ns] [06 R196] [reset none, DC 3] -/
  agreeSince : Option Nat := none
  /-- Filtered reference and measured string current, 2^-16 of the LSB. [w 32+32] [06 R190] [reset 0, DC 3] -/
  feFilt : Int × Int := (0, 0)
  /-- Reference and measured current of the last 200 cycles, for the 4 ms of burst, newest first. [w 200 x 32] [06 R190] [reset empty, DC 3] -/
  feCycles : List (Int × Int) := []
  /-- Instant since which the error has exceeded FE_LIMIT. [w ns] [06 R190] [reset none, DC 3] -/
  feSince : Option Nat := none
  /-- Role P's outputs of the sample before. [w 5 values and 8 phases] [06 R181] [reset 0, DC 3] -/
  keptP : OutputsP := {}
  /-- Role S's outputs of the sample before. [w 5 x 16] [06 R181] [reset absent, DC 3] -/
  keptS : OutputsS := {}
  /-- Role C's outputs of the sweep before. [w 6 x 16] [06 R181] [reset absent, DC 3] -/
  keptC : OutputsC := {}
  /-- Instants of FOLLOWING_ERROR of the last 10 minutes. [w list] [06 R191] [reset empty, DC 3] -/
  feTimes : List Nat := []
  /-- Stored products of the integral gains and the sample periods for loops 4, 5, 7, 8, 2, 3, in 2^-40 units. [w 6 x 64] [06 R170] [reset from the defaults at boot, DC 21] -/
  kits : List Int := [0, 0, 0, 0, 0, 0]
  deriving DecidableEq, Repr

/-! ## Converter modulator (07) -/

/-- State of the modulator (07 R232). -/
inductive ModState where
  | off | softStart | retryWait | continuous | burst
  deriving DecidableEq, Repr

/-- One phase. -/
structure Phase where
  /-- Fires in the rotation. [w 1] [07 R207] [reset false, DC 3] -/
  active : Bool := false
  /-- Starts at the next group boundary. [w 1] [07 R211] [reset false, DC 3] -/
  adding : Bool := false
  /-- Ends at its valley. [w 1] [07 R211] [reset false, DC 3] -/
  dropping : Bool := false
  /-- On-time, 250 ps steps. [w 16] [07 R203] [reset 0, DC 3] -/
  tOn : Nat := 0
  /-- Frequency in Hz. [w 17] [07 R204] [reset 0, DC 3] -/
  freq : Nat := 0
  /-- Trim, Q15. [w 16] [07 R209] [reset 0, DC 3] -/
  trim : Int := 0
  /-- Instant since which the trim is at a bound. [w ns] [07 R209] [reset none, DC 3] -/
  boundSince : Option Nat := none
  /-- INTERLEAVE_LIMIT raised. [w 1] [07 R209] [reset false, DC 3] -/
  limited : Bool := false
  /-- Valley reference, phase-current LSB. [w 16] [07 R206] [reset 0, DC 3] -/
  valley : Int := 0
  /-- Mean current of the last phase-current cycle; none when the stream is not valid. [w 16] [07 R224] [reset none, DC 3] -/
  mean : Option Int := none
  /-- Integrator of the phase-current loop, Q31. [w 40] [06 R172] [reset 0, DC 3] -/
  integ : Int := 0
  /-- Limit hits. [w 32] [07 R232] [reset 0, DC 3] -/
  hits : Nat := 0
  /-- Run of consecutive hits. [w 4] [07 R216] [reset 0, DC 3] -/
  run : Nat := 0
  /-- The present cycle has made a limit hit. [w 1] [07 R216] [reset false, DC 3] -/
  hit : Bool := false
  /-- The control switch is HS. [w 1] [07 R200] [reset true, DC 3] -/
  ctrlHs : Bool := true
  /-- A direction swap is due at the next valley. [w 1] [07 R215] [reset false, DC 3] -/
  swap : Bool := false
  /-- A cycle start is requested and waits. [w 1] [07 R208] [reset false, DC 3] -/
  waiting : Bool := false
  /-- Instant of the last cycle start. [w ns] [07 R208] [reset 0, DC 3] -/
  startAt : Nat := 0
  /-- End of the present on-time in 250 ps since delivery; 0 before a cycle. [w 64] [07 R204, R216] [reset 0, DC 3] -/
  onEnd : Nat := 0
  /-- Has started a cycle in this cycle group. [w 1] [07 R207] [reset false, DC 3] -/
  started : Bool := false
  /-- Cycles of the packet begun. [w 5] [07 R213] [reset 0, DC 3] -/
  cycles : Nat := 0
  deriving DecidableEq, Repr

/-- One gate lane with what the module knows of its driver. -/
structure Lane where
  /-- The lane is up. [w 1] [07 R226] [reset down, DC 3] -/
  up : Bool := false
  /-- Consecutive valid training frames. [w 2] [07 R226] [reset 0, DC 3] -/
  good : Nat := 0
  /-- Training. [w 1] [07 R226] [reset false, DC 3] -/
  training : Bool := false
  /-- Inbound errors. [w 16] [07 R232] [reset 0, DC 3] -/
  errors : Nat := 0
  /-- SEQ of the next sideband frame. [w 16] [07 R223] [reset 0, DC 3] -/
  seq : Nat := 0
  /-- The next sideband frame carries CLEAR. [w 1] [07 R223] [reset false, DC 3] -/
  clear : Bool := false
  /-- STATE edges of the gate stream, oldest first: instant in 250 ps since delivery and STATE; the last ones sent and those of
  the cycle under way. [w list] [07 R222] [reset none: both off] -/
  edges : List (Nat × Nat) := []
  /-- Sideband frames sent, up to 65,536. [w 17] [07 R226] [reset 0, DC 3] -/
  sentN : Nat := 0
  /-- Instant, claim code and FLAGS of the last sideband frame. [w ns+32+16] [07 R228] [reset none, DC 3] -/
  sideband : Option (Nat × Nat × Nat) := none
  /-- The optical transmitter is switched off. [w 1] [01 R33] [reset false, DC 3] -/
  txOff : Bool := false
  /-- Last status frame, 16 bytes. [w 128] [07 R225] [reset none, DC 3] -/
  last : Option (List Byte) := none
  /-- The gate driver holds both switches off by its timeout. [w 1] [07 R228] [reset false, DC 3] -/
  drvTimeout : Bool := false
  /-- The gate driver's latched DESAT_HS, DESAT_LS. [w 2] [07 R228] [reset false, DC 3] -/
  drvDesat : Bool × Bool := (false, false)
  /-- Instant of the last desaturation. [w ns] [07 R228] [reset 0, DC 3] -/
  drvDesatAt : Nat := 0
  deriving DecidableEq, Repr

/-- Converter modulator. -/
structure Conv where
  /-- State. [w 3] [07 R232] [reset off, DC 3] -/
  st : ModState := .off
  /-- Active phase count. [w 4] [07 R210] [reset 0, DC 3] -/
  na : Nat := 0
  /-- Instant of the last change of n_a. [w ns] [07 R210] [reset 0, DC 3] -/
  naAt : Nat := 0
  /-- Phases the reference is divided among: the active ones since the last group boundary or start. [w 4] [07 R211] [reset 0, DC 3] -/
  shares : Nat := 0
  /-- Pointer: phase number 0 to 7. [w 3] [07 R209] [reset 0, DC 3] -/
  ptr : Nat := 0
  /-- Burst accumulator in string-current LSB x ns. [w 64] [07 R213] [reset 0, DC 3] -/
  acc : Int := 0
  /-- Packet of this frame: 0 none, 1 charge, -1 discharge. [w 2] [07 R213] [reset 0, DC 3] -/
  packet : Int := 0
  /-- Number of the 2 ms frame since the epoch that has begun. [w 40] [07 R213] [reset 0, DC 3] -/
  frame : Int := 0
  /-- Phases of the packet. [w 2] [07 R213] [reset 0, DC 3] -/
  packetN : Nat := 0
  /-- A request of at least 4 percent ends burst at the end of the packet or the next frame. [w 1] [07 R214] [reset false, DC 3] -/
  burstExit : Bool := false
  /-- Instant since which the applied reference has been below 4 percent. [w ns] [07 R212] [reset none, DC 3] -/
  lowSince : Option Nat := none
  /-- First gate byte of the soft start that turns a switch on. [w ns] [07 R218] [reset none, DC 3] -/
  ssAt : Option Nat := none
  /-- Pre-start HVS-STR and HVS-LNK. [w 16+16] [07 R219] [reset 0, DC 3] -/
  pre : Int × Int := (0, 0)
  /-- HVS-STR and HVS-LNK of the last phase-current cycle; none when absent. [w 16+16] [07 R203] [reset none, DC 3] -/
  vNow : Option Int × Option Int := (none, none)
  /-- Failed soft-start attempts. [w 3] [07 R220] [reset 0, DC 3] -/
  fails : Nat := 0
  /-- End of the retry wait. [w ns] [07 R220] [reset 0, DC 3] -/
  retryAt : Nat := 0
  /-- Last gate-off cause, event code. [w 16] [07 R232] [reset 0, DC 3] -/
  offCause : Nat := 0
  /-- SLEW_MARGIN_LOW. [w 1] [07 R202] [reset false, DC 3] -/
  slewLow : Bool := false
  /-- Phases GL1 to GL8. [w 8 phases] [07 R207] [reset each as Phase] -/
  ph : List Phase := List.replicate 8 {}
  /-- Gate lanes GL1 to GL8. [w 8 lanes] [07 R222] [reset each as Lane] -/
  lane : List Lane := List.replicate 8 {}
  /-- Dead-time table in force. [w 32 x 16] [07 R229] [reset 0, 07 R229] -/
  dt : List Int := List.replicate 32 0
  /-- Staged dead-time table. [w 32 x 16] [07 R229] [reset none, DC 3] -/
  dtStaged : Option (List Int) := none
  deriving DecidableEq, Repr

/-! ## Set-points and dispatch (08) -/

/-- A set-point, queued or in force (08 R237, R242). -/
structure SetPoint where
  /-- KIND 0 to 2. -/
  kind : Nat
  /-- VALUE. -/
  value : Int
  /-- RATE with RATE_OVERRIDE. -/
  rate : Option Nat
  /-- APPLY_TIME, 0 if immediate. -/
  apply : Nat
  /-- Source: mailbox 0 to 7, 8 the forerunner map, 9 the module itself. -/
  src : Nat
  /-- Applied under the late grace. -/
  late : Bool
  deriving DecidableEq, Repr

/-- Set-points and dispatch. -/
structure Disp where
  /-- Dispatch target in force. [w set-point] [08 R234] [reset 0 A, immediate, DC 3] -/
  target : SetPoint := ⟨0, 0, none, 0, 9, false⟩
  /-- Link target in force. [w set-point] [08 R234] [reset none: no link set-point yet] -/
  link : Option SetPoint := none
  /-- Immediate set-points accepted and not yet taken by a string-loop cycle. [w list] [08 R240] [reset empty, DC 3] -/
  imm : List SetPoint := []
  /-- Queue, by apply time. [w 16 entries] [08 R242] [reset empty, DC 3] -/
  queue : List SetPoint := []
  /-- r_p in 0.01 of the string-current LSB. [w 32] [08 R244] [reset 0, DC 3] -/
  rp : Int := 0
  /-- Target as current after R236. [w 16] [08 R251] [reset 0, DC 3] -/
  targetI : Int := 0
  /-- v_s in 0.1 of the voltage LSB; none when regulation does not run. [w 32] [08 R246] [reset none, DC 3] -/
  vs : Option Int := none
  /-- WATCHDOG. [w 1] [08 R251] [reset 0, 08 R251] -/
  watchdog : Bool := false
  /-- Instant the watchdog interval began. [w ns] [08 R248] [reset 0, DC 3] -/
  watchAt : Nat := 0
  /-- POWER_NO_VOLTAGE. [w 1] [08 R251] [reset 0, 08 R251] -/
  noVolt : Bool := false
  /-- LAST_REJECT. [w 8] [08 R251] [reset 0x00 none, 08 R251] -/
  lastReject : Status := .done
  /-- HVS-STR averaged over the previous 100 us; none when absent. [w 16] [08 R236] [reset none, DC 3] -/
  vStr : Option Int := none
  /-- HVS-LNK averaged over 100 us. [w 16] [08 R246] [reset none, DC 3] -/
  vLnk : Option Int := none
  /-- An orderly ramp to 0 A runs: 1 HOLD, 2 DISCONNECT or another opening, 3 a planned hand-over. [w 2] [10 R316, 12 R370, 14 R424] [reset 0, DC 3] -/
  ending : Nat := 0
  /-- Mailbox of the HOLD in progress. [w 3] [12 R370] [reset none, DC 3] -/
  holdMb : Option Nat := none
  /-- Instant the ramp to 0 A began. [w ns] [10 R316] [reset 0, DC 3] -/
  endAt : Nat := 0
  deriving DecidableEq, Repr

/-! ## Safety (09) -/

/-- One stored safety set (09 R289, R292, R296). -/
structure SafetySet where
  /-- The values 0x0801 to 0x080F. [w 15 x 32] [09 R289, R296] [reset the defaults of R296] -/
  vals : List Int := [37500, 25000, 8000, 6400, 100, 6500, 10, 1008, 100, 0, 0, 5, 0, 64, 80]
  /-- Stored CRC-32; none stands for the CRC that matches the values as delivered. [w 32] [09 R289] [reset matching CRC, 09 R289] -/
  crcBad : Bool := false
  /-- Confirmed. [w 1] [09 R292] [reset false, 09 R289] -/
  confirmed : Bool := false
  deriving DecidableEq, Repr

/-- One channel of a dual-channel input (09 R275 to R278). -/
structure SiChannel where
  /-- Level read, true high. [w 1] [09 R275] [reset high, DC 3] -/
  high : Bool := true
  /-- Demands (R276). [w 1] [09 R276] [reset false, DC 3] -/
  demand : Bool := false
  /-- WIRING_FAULT latched. [w 1] [09 R278] [reset false, DC 3] -/
  wiring : Bool := false
  /-- Consecutive own pulses through which the channel stayed high. [w 2] [09 R278] [reset 0, DC 3] -/
  stuck : Nat := 0
  /-- WIRING_FAULT count. [w 32] [09 R297] [reset 0, DC 3] -/
  wiringCount : Nat := 0
  /-- Result of the last pulse check: none before the first. [w 2] [09 R297] [reset none, DC 3] -/
  pulseOk : Option Bool := none
  deriving DecidableEq, Repr

/-- One dual-channel input. -/
structure SiInput where
  /-- Channel a. [w channel] [09 R275] [reset as SiChannel] -/
  a : SiChannel := {}
  /-- Channel b. [w channel] [09 R275] [reset as SiChannel] -/
  b : SiChannel := {}
  /-- Start of the discrepancy that runs. [w ns] [09 R279] [reset none, DC 3] -/
  discSince : Option Nat := none
  /-- Discrepancy fault latched. [w 1] [09 R279] [reset false, DC 3] -/
  disc : Bool := false
  /-- Both channels have demanded since the fault (R280). [w 1] [09 R280] [reset false, DC 3] -/
  bothDemanded : Bool := false
  deriving DecidableEq, Repr

/-- One safety function SF1 to SF9. -/
structure SfRec where
  /-- Latched in the safety processor. [w 1] [09 R271] [reset false, DC 3] -/
  latchedSp : Bool := false
  /-- Latched in Dome. [w 1] [09 R271] [reset false, DC 3] -/
  latchedDome : Bool := false
  /-- The trigger was Dome's own (R273). [w 1] [09 R273] [reset false, DC 3] -/
  byDome : Bool := false
  /-- Instants of the trips of the last 24 h. [w list] [09 R273, R297] [reset empty, DC 3] -/
  trips24h : List Nat := []
  /-- Trips since boot. [w 32] [09 R297] [reset 0, DC 3] -/
  tripsBoot : Nat := 0
  deriving DecidableEq, Repr

/-- A safety message copy waiting for its partner (09 R283). -/
structure SafeCopy where
  /-- Plane it came on: 0 A, 1 B. -/
  plane : Nat
  /-- Sender. -/
  src : Nat
  /-- SEQ. -/
  seq : Nat
  /-- The whole message. -/
  bytes : List Byte
  /-- Arrival. -/
  at_ : Nat
  deriving DecidableEq, Repr

/-- Safety functions: both channels. -/
structure Safety where
  /-- The 16 stored sets. [w 16 sets] [09 R289] [reset each as SafetySet] -/
  sets : List SafetySet := List.replicate 16 {}
  /-- Set number selected at boot. [w 4] [09 R287] [reset 0, DC 5] -/
  selected : Nat := 0
  /-- Values in force in both channels, loaded at power-up or RESTART (R257). [w 15 x 32] [09 R257] [reset the defaults of R296] -/
  force : List Int := [37500, 25000, 8000, 6400, 100, 6500, 10, 1008, 100, 0, 0, 5, 0, 64, 80]
  /-- Dome's load has completed (R257). [w 1] [09 R257] [reset false: outputs held off until the load] -/
  loaded : Bool := false
  /-- SF1 to SF9. [w 9 entries] [09 R261] [reset each as SfRec] -/
  sf : List SfRec := List.replicate 9 {}
  /-- Event codes of the latched trip causes, oldest first. [w list] [09 R271] [reset empty, DC 3] -/
  latched : List Nat := []
  /-- Event codes of the trip causes and demands present now. [w list] [09 R271] [reset empty, DC 3] -/
  present : List Nat := []
  /-- Instant of the demand that opened the safe state now running, none when no safe state runs. [w ns] [09 R259] [reset none, DC 3] -/
  demandAt : Option Nat := none
  /-- The safety processor has de-energised K1, K3 and K4 for that demand. [w 1] [09 R259, 10 R315] [reset false, DC 3] -/
  spOpened : Bool := false
  /-- Instant of that de-energising. [w ns] [10 R315] [reset 0, DC 3] -/
  spOpenedAt : Nat := 0
  /-- Dome holds a demand (DOME_DEMAND high). [w 1] [09 R255] [reset false, DC 3] -/
  domeDemand : Bool := false
  /-- The safety processor holds a demand (SP_DEMAND wave stopped). [w 1] [09 R255] [reset false, DC 3] -/
  spDemand : Bool := false
  /-- Instant of Dome's demand that opens K1 to K4; none without one, and where the cause lies inside the module while the partner
  follows. [w ns] [09 R259, R260] [reset none, DC 3] -/
  domeOpenAt : Option Nat := none
  /-- Gate-inhibit line asserted. [w 1] [01 R31, R32] [reset asserted: outputs held off until the load] -/
  gateInhibit : Bool := true
  /-- Lane enables of GL1 to GL8 allowed by Dome. [w 1] [01 R31] [reset off until the load] -/
  laneEnable : Bool := false
  /-- SAFETY_CEIL, charge, string-current LSB. [w 16] [09 R270] [reset 0, DC 3] -/
  ceilChg : Int := 0
  /-- SAFETY_CEIL, discharge magnitude. [w 16] [09 R270] [reset 0, DC 3] -/
  ceilDis : Int := 0
  /-- THRESH_MISMATCH raised. [w 1] [09 R263] [reset false, DC 3] -/
  threshMismatch : Bool := false
  /-- A fitted cell is at or above SAFE_CELL_OV less 20 mV. [w 1] [09 R270] [reset false, DC 3] -/
  nearOv : Bool := false
  /-- A fitted cell is at or below SAFE_CELL_UV plus 20 mV. [w 1] [09 R270] [reset false, DC 3] -/
  nearUv : Bool := false
  /-- SEAL_CHANGED since boot. [w 1] [09 R288] [reset false, DC 3] -/
  sealChanged : Bool := false
  /-- Present positions of SS1 to SS8. [w 8] [09 R287] [reset 0, DC 5] -/
  sealsNow : BitVec 8 := 0
  /-- SI1 to SI4. [w 4 inputs] [09 R275] [reset each as SiInput] -/
  si : List SiInput := List.replicate 4 {}
  /-- SF6 blocks Connect (R267). [w 1] [09 R267] [reset false, DC 3] -/
  sf6Block : Bool := false
  /-- Start of a running SF8_DELAY and the current magnitude at its start. [w ns+16] [09 R268] [reset none, DC 3] -/
  sf8 : Option (Nat × Int) := none
  /-- The acknowledgement input has demanded on both channels since every cause cleared. [w 1] [09 R272] [reset false, DC 3] -/
  ackDemanded : Bool := false
  /-- Instant of the valid local acknowledgement's release. [w ns] [09 R272] [reset none, DC 3] -/
  ackAt : Option Nat := none
  /-- TRIP-OUT held closed by the safety processor. [w 1] [10 R319] [reset open: the channel holds it open until the load, DC 3] -/
  tripOutSp : Bool := false
  /-- TRIP-OUT held closed by Dome. [w 1] [10 R319] [reset open, DC 3] -/
  tripOutDome : Bool := false
  /-- TRIP-IN reads open. [w 1] [10 R319] [reset false, DC 3] -/
  tripInOpen : Bool := false
  /-- SAFE_RESET waits the 20 ms of R320: instant TRIP-OUT closed, mailbox. [w ns+3] [10 R320] [reset none, DC 3] -/
  recheck : Option (Nat × Nat) := none
  /-- Masters whose PLANT_STOP holds a demand. [w list of 16] [09 R266] [reset empty, DC 3] -/
  plantStop : List Nat := []
  /-- Last accepted SEQ and TIME per sender. [w list] [09 R282] [reset empty: none after boot, 09 R282] -/
  refs : List (Nat × Nat × Nat) := []
  /-- Copies waiting for their partners. [w list] [09 R283] [reset empty, DC 3] -/
  copies : List SafeCopy := []
  /-- Instant of the last accepted message from a master, or of the watchdog's start. [w ns] [09 R284] [reset 0, DC 3] -/
  watchAt : Nat := 0
  /-- Single copies are accepted; the plane out of service (0 A, 1 B). [w 2] [09 R285] [reset none, DC 3] -/
  singlePlane : Option Nat := none
  /-- SAFE_MSG_STALE count. [w 32] [09 R282] [reset 0, DC 3] -/
  stale : Nat := 0
  /-- SAFE_MSG_MISMATCH count. [w 32] [09 R283] [reset 0, DC 3] -/
  mismatch : Nat := 0
  /-- SAFE_MSG_ORPHAN count. [w 32] [09 R283] [reset 0, DC 3] -/
  orphan : Nat := 0
  /-- SEQ of the next safety message sent. [w 32] [09 R281] [reset 0, DC 3] -/
  txSeq : Nat := 0
  /-- Newest valid sample's mark time per cell, in ns of module time; the fitted test uses the ring map. [w 512 entries] [09 R269] [reset none, DC 3] -/
  newest : List (Option Nat) := List.replicate 512 none
  /-- Per cell, instant since which its SF4 temperature has been absent. [w 512 entries] [09 R261] [reset none, DC 3] -/
  tAbsent : List (Option Nat) := List.replicate 512 none
  /-- FLT-A, FLT-B loops read open by Dome. [w 2] [02 R66] [reset closed, DC 3] -/
  fltOpen : List Bool := [false, false]
  /-- Instant a loop opened that the next sweep classifies (R262). [w ns] [09 R262] [reset none, DC 3] -/
  classify : Option Nat := none
  /-- String current read by the safety processor, the larger magnitude of the sensors in service. [w 16] [09 R264] [reset 0, DC 3] -/
  iNow : Int := 0
  /-- The magnitudes of the last five 20 µs cycles, newest first, for the mean over 100 µs. [w 5 x 16] [09 R261, R264] [reset empty, DC 3] -/
  iWin : List Int := []
  /-- Since when that mean has been at or above SAFE_OC_SLOW. [w ns] [09 R261] [reset none, DC 3] -/
  ocSince : Option Nat := none
  deriving DecidableEq, Repr

/-! ## Contactor outputs and precharge (10) -/

/-- A running output test pulse (10 R305). -/
structure OutPulse where
  /-- The high-side switch is under test, else the low-side one. -/
  high : Bool
  /-- An off-pulse (energised output), else an on-pulse. -/
  off : Bool
  /-- Start. -/
  since : Nat
  deriving DecidableEq, Repr

/-- One coil output K1 to K4 with its contactor's auxiliary input. -/
structure CoilOut where
  /-- Requested by the output stage. [w 1] [09 R256] [reset false, DC 3] -/
  request : Bool := false
  /-- High-side switch closed. [w 1] [10 R299] [reset open, DC 3] -/
  hs : Bool := false
  /-- Low-side switch closed. [w 1] [10 R299] [reset open, DC 3] -/
  ls : Bool := false
  /-- Instant of the last energising. [w ns] [10 R300, R303] [reset 0, DC 3] -/
  onAt : Nat := 0
  /-- Instant of the last de-energising. [w ns] [10 R303] [reset 0, DC 3] -/
  offAt : Nat := 0
  /-- Pull-in runs. [w 1] [10 R300] [reset false, DC 3] -/
  pullIn : Bool := false
  /-- Energised since boot. [w 1] [10 R303] [reset false, DC 3] -/
  ever : Bool := false
  /-- Closing confirmed by KF. [w 1] [10 R303] [reset false, DC 3] -/
  confirmed : Bool := false
  /-- KFn reads closed, after polarity. [w 1] [10 R302] [reset open, DC 3] -/
  kf : Bool := false
  /-- Time stamp of the last KF edge. [w 64] [10 R302] [reset 0, DC 3] -/
  kfStamp : Nat := 0
  /-- K_WELDED present. [w 1] [10 R303] [reset false, DC 3] -/
  welded : Bool := false
  /-- OUTPUT_OVERCURRENT present. [w 1] [10 R301] [reset false, DC 3] -/
  overcurrent : Bool := false
  /-- COIL_OPEN present. [w 1] [10 R301] [reset false, DC 3] -/
  coilOpen : Bool := false
  /-- OUTPUT_SWITCH_FAULT of the high-side switch. [w 1] [10 R306] [reset false, DC 3] -/
  faultHs : Bool := false
  /-- OUTPUT_SWITCH_FAULT of the low-side switch. [w 1] [10 R306] [reset false, DC 3] -/
  faultLs : Bool := false
  /-- Consecutive failures of the high-side switch, off-pulse and on-pulse. [w 2+2] [10 R306] [reset 0, DC 3] -/
  failHsOff : Nat := 0
  /-- Consecutive on-pulse failures of the high-side switch. [w 2] [10 R306] [reset 0, DC 3] -/
  failHsOn : Nat := 0
  /-- Consecutive off-pulse failures of the low-side switch. [w 2] [10 R306] [reset 0, DC 3] -/
  failLsOff : Nat := 0
  /-- Consecutive on-pulse failures of the low-side switch. [w 2] [10 R306] [reset 0, DC 3] -/
  failLsOn : Nat := 0
  /-- Output tests of both switches that failed since boot. [w 16] [14 R427] [reset 0, DC 3] -/
  testFails : Nat := 0
  /-- Last test result of the high-side switch. [w 2] [10 R322] [reset none, DC 3] -/
  lastHs : Option Bool := none
  /-- Last test result of the low-side switch. [w 2] [10 R322] [reset none, DC 3] -/
  lastLs : Option Bool := none
  /-- The pulse that runs. [w pulse] [10 R305] [reset none, DC 3] -/
  pulse : Option OutPulse := none
  /-- Coil current in mA as last measured. [w 13] [10 R322] [reset 0, DC 3] -/
  coilMa : Nat := 0
  /-- Closings. [w 32] [10 R317] [reset 0, DC 3] -/
  closings : Nat := 0
  /-- Openings under load. [w 32] [10 R317] [reset 0, DC 3] -/
  loadOpens : Nat := 0
  /-- K_WEAR raised. [w 1] [10 R317] [reset false, DC 3] -/
  wear : Bool := false
  deriving DecidableEq, Repr

/-- The steps of a Connect (10 R310). -/
inductive ConnStep where
  | k4First | k2 | k3 | precharge | k1 | overlap | k3Opening | k4Last
  deriving DecidableEq, Repr

/-- A Connect in progress. -/
structure ConnJob where
  /-- Target mode: true Run, false Hold. -/
  toRun : Bool
  /-- Mailbox of the request; none for the module's own Connect of R336. -/
  mb : Option Nat
  /-- Step. -/
  step : ConnStep
  /-- The coil of this step is energised (its pull-in may have waited). -/
  active : Bool
  /-- Instant the coil or timer of this step began. -/
  since : Nat
  /-- Precharge origin. -/
  origin : Nat
  /-- HVS-LNK at the origin. -/
  v0 : Int
  /-- HVS-STR at the origin. -/
  vs : Int
  /-- Steps 3 and 4 are left out. -/
  skip : Bool
  /-- The first checkpoint has passed. -/
  half : Bool
  /-- g at 0.5 tau in 0.1 percent. -/
  gHalf : Option Int
  /-- g at 3 tau in 0.1 percent. -/
  gThree : Option Int
  deriving DecidableEq, Repr

/-- One precharge attempt in PRE_HISTORY (10 R322). -/
structure PreAttempt where
  /-- Origin time stamp. -/
  origin : Nat
  /-- V0. -/
  v0 : Int
  /-- Vs. -/
  vs : Int
  /-- g at 0.5 tau in 0.1 percent, none if not reached. -/
  gHalf : Option Int
  /-- g at 3 tau in 0.1 percent, none if not reached. -/
  gThree : Option Int
  /-- Energy E at its end, in microjoules. -/
  energy : Nat
  /-- Event code of the failure, 0 for none. -/
  result : Nat
  deriving DecidableEq, Repr

/-- An orderly opening in progress (10 R316). -/
structure OpeningJob where
  /-- Start. -/
  since : Nat
  /-- Gates are off (step 2 has begun). -/
  gatesOff : Bool
  /-- Instant of gates off. -/
  gatesAt : Nat
  /-- Mailbox of the DISCONNECT. -/
  mb : Option Nat
  /-- Cause that Watch is entered with, 0 for DISCONNECT. -/
  cause : Nat
  deriving DecidableEq, Repr

/-- Contactor outputs. -/
structure Contactors where
  /-- K1 to K4. [w 4 outputs] [10 R299] [reset each as CoilOut] -/
  k : List CoilOut := List.replicate 4 {}
  /-- COIL_SUPPLY_LOW present. [w 1] [10 R301] [reset false, DC 3] -/
  supplyLow : Bool := false
  /-- Connect in progress. [w job] [10 R310] [reset none, DC 3] -/
  conn : Option ConnJob := none
  /-- Orderly opening in progress. [w job] [10 R316] [reset none, DC 3] -/
  opening : Option OpeningJob := none
  /-- Energy model E in microjoules at `eAt`. [w 64] [10 R313] [reset 0, DC 3] -/
  energy : Nat := 0
  /-- Instant at which `energy` stood. [w ns] [10 R313] [reset 0, DC 3] -/
  eAt : Nat := 0
  /-- E as last written to NVM. [w 64] [10 R313] [reset 0, DC 3] -/
  eNvm : Nat := 0
  /-- Instant at which that value stood. [w ns] [10 R313] [reset 0, DC 3] -/
  eNvmAt : Nat := 0
  /-- Instants at which precharge attempts began, of the last 3,600 s. [w list] [10 R309] [reset empty, DC 3] -/
  attempts : List Nat := []
  /-- The attempt under way: K3 energised by a Connect. [w entry] [10 R314, R322] [reset none, DC 3] -/
  attempt : Option PreAttempt := none
  /-- End of the last attempt. [w ns] [10 R313] [reset none, DC 3] -/
  lastEnd : Option Nat := none
  /-- The last 8 attempts. [w 8 entries] [10 R322] [reset empty, DC 3] -/
  history : List PreAttempt := []
  /-- HVS-STR as last read, voltage format. [w 16] [10 R311] [reset 0, DC 3] -/
  vStr : Int := 0
  /-- HVS-LNK as last read. [w 16] [10 R311] [reset 0, DC 3] -/
  vLnk : Int := 0
  /-- TP1, TP2 held high. [w 2] [09 R277] [reset off: unpowered] -/
  tp : List Bool := [false, false]
  deriving DecidableEq, Repr

/-! ## Thermal unit (11) -/

/-- The state of the container loop (11 R338). -/
inductive LoopState where
  | cool | heat | idle
  deriving DecidableEq, Repr

/-- One coolant input TC1 to TC4 (11 R340, R341). -/
structure Coolant where
  /-- Last reading, 0.01 degC. [w 16] [11 R338] [reset none, DC 3] -/
  val : Option Int := none
  /-- Instant of the last valid reading. [w ns] [11 R340] [reset none, DC 3] -/
  validAt : Option Nat := none
  /-- The readings of the last 600 s, newest first, with their instants. [w list of ns+16] [11 R340] [reset empty, DC 3] -/
  hist : List (Nat × Int) := []
  /-- Stale or frozen, so not used. [w 1] [11 R341] [reset false, DC 3] -/
  bad : Bool := false
  /-- Frozen, with the reading at detection. [w 16] [11 R341] [reset none, DC 3] -/
  frozenAt : Option Int := none
  /-- Since when a bad input reads validly again. [w ns] [11 R341] [reset none, DC 3] -/
  goodSince : Option Nat := none
  deriving DecidableEq, Repr

/-- Thermal state. -/
structure Thermal where
  /-- TS1 to TS9, none when out of service. [w 9 x 16] [11 R325] [reset none, DC 3] -/
  ts : List (Option Int) := List.replicate 9 none
  /-- TS_FAULT per sensor. [w 9] [11 R325] [reset false, DC 3] -/
  tsFault : List Bool := List.replicate 9 false
  /-- Sampling rate in Hz: 1, 20 or 200. [w 8] [11 R326] [reset 1, DC 3] -/
  rate : Nat := 1
  /-- Instant since which the distance has been 3 degC or more. [w ns] [11 R326] [reset none, DC 3] -/
  wideSince : Option Nat := none
  /-- Instant since which it has been more than 10 degC. [w ns] [11 R326] [reset none, DC 3] -/
  farSince : Option Nat := none
  /-- MODULE_HOT. [w 1] [11 R346] [reset 0, 11 R346] -/
  hot : Bool := false
  /-- NVM_WRITE_FORBID. [w 1] [11 R346] [reset 0, 11 R346] -/
  forbid : Bool := false
  /-- Instant since which the board temperature has been in the lifting range. [w ns] [11 R328] [reset none, DC 3] -/
  forbidOk : Option Nat := none
  /-- TC1 to TC4. [w 4 inputs] [11 R338] [reset each as Coolant] -/
  tc : List Coolant := List.replicate 4 {}
  /-- T_hi, highest cell temperature. [w 16] [11 R338] [reset none, DC 3] -/
  tHi : Option Int := none
  /-- T_lo. [w 16] [11 R338] [reset none, DC 3] -/
  tLo : Option Int := none
  /-- Loop state. [w 2] [11 R338] [reset IDLE, DC 3] -/
  loop : LoopState := .idle
  /-- Integrator of the PMP law, Q15 with 15 further bits. [w 40] [11 R338] [reset 0, DC 3] -/
  intPmp : Int := 0
  /-- Integrator of the VLV law. [w 40] [11 R338] [reset 0, DC 3] -/
  intVlv : Int := 0
  /-- HTR energised. [w 1] [11 R339] [reset off: Shelf, 11 R342] -/
  htr : Bool := false
  /-- Instant of HTR's last change. [w ns] [11 R339] [reset none, DC 3] -/
  htrAt : Option Nat := none
  /-- PMP, Q15. [w 16] [11 R338] [reset 0: Shelf, 11 R342] -/
  pmp : Int := 0
  /-- VLV, Q15. [w 16] [11 R338] [reset 0: Shelf, 11 R342] -/
  vlv : Int := 0
  /-- PMP, VLV and HTR of the second before, against a missed sample. [w 16+16+1] [06 R181] [reset 0, DC 3] -/
  kept : Int × Int × Bool := (0, 0, false)
  /-- PMP, VLV and HTR of the last 600 s, newest first, with their instants. [w list of ns+33] [11 R340] [reset empty, DC 3] -/
  cmdHist : List (Nat × Int × Int × Bool) := []
  /-- The cell temperatures are stale as an input of the loop. [w 1] [11 R340, R341] [reset false, DC 3] -/
  cellsBad : Bool := false
  /-- Since when they have had values again. [w ns] [11 R341] [reset none, DC 3] -/
  cellsGoodSince : Option Nat := none
  /-- The output hardware holds the fallback outputs until role C next writes. [w 1] [06 R199, 11 R342] [reset false, DC 3] -/
  stoodStill : Bool := false
  /-- COOLANT_SENSOR_FAULT. [w 1] [11 R346] [reset 0, 11 R346] -/
  coolFault : Bool := false
  /-- Instant COOLANT_SENSOR_FAULT arose. [w ns] [11 R341] [reset 0, DC 3] -/
  coolFaultAt : Nat := 0
  /-- LOOP_FALLBACK. [w 1] [11 R346] [reset 0, 11 R346] -/
  fallback : Bool := false
  /-- LOOP_WATCHDOG. [w 1] [11 R346] [reset 0, 11 R346] -/
  watchdog : Bool := false
  /-- VLV_OPEN. [w 1] [11 R346] [reset 0, 11 R346] -/
  vlvOpen : Bool := false
  /-- RESTARTED_HOT. [w 1] [11 R346] [reset 0, 11 R346] -/
  restartedHot : Bool := false
  /-- THERM_MANUAL's end. [w ns] [11 R346] [reset none: MANUAL 0, 11 R346] -/
  manualEnd : Option Nat := none
  /-- PMP of THERM_MANUAL, Q15. [w 16] [11 R346] [reset 0, DC 3] -/
  manualPmp : Int := 0
  /-- VLV of THERM_MANUAL, Q15. [w 16] [11 R346] [reset 0, DC 3] -/
  manualVlv : Int := 0
  /-- Manual HTR requested. [w 1] [11 R346] [reset false, DC 3] -/
  manualHtr : Bool := false
  /-- Last update by role C. [w ns] [11 R342] [reset 0, DC 3] -/
  lastUpdate : Nat := 0
  /-- Dome's thermal shutdown is latched: its instant and the sensor mask. [w ns+9] [11 R330] [reset none, DC 3] -/
  shutdown : Option (Nat × BitVec 9) := none
  /-- Dome holds the sixteen engines in reset. [w 1] [11 R330] [reset false, DC 3] -/
  held : Bool := false
  /-- Instant since which every sensor in service has been below 95 degC. [w ns] [11 R334] [reset none, DC 3] -/
  coolSince : Option Nat := none
  /-- The module was in Run or Hold at the shutdown. [w 1] [11 R336] [reset false, DC 3] -/
  wasConnected : Bool := false
  /-- THERM_AUTO_RECONNECT is due. [w 1] [11 R336] [reset false, DC 3] -/
  reconnect : Bool := false
  /-- Instants of thermal shutdowns of the last 24 h. [w list] [11 R336] [reset empty, DC 3] -/
  shutdowns : List Nat := []
  /-- Shutdown count. [w 32] [11 R346] [reset 0, DC 3] -/
  shutdownCount : Nat := 0
  deriving DecidableEq, Repr

/-! ## Pair (14) -/

/-- What the last valid claim round showed (14 R412, R413, R429). -/
structure Round where
  /-- The winning code. -/
  code : Nat
  /-- Output field, K1 to K4 energised as bits 0 to 3. -/
  field : Nat
  /-- FOLLOWER slot driven low. -/
  follower : Bool
  deriving DecidableEq, Repr

/-- The partner as its heartbeats show it (14 R406). -/
structure Partner where
  /-- HB_FLAGS. [w 8] [14 R406] [reset 0, DC 3] -/
  flags : Nat := 0
  /-- CLAIM. [w 32] [14 R406] [reset 0, 14 R409] -/
  claim : Nat := 0
  /-- MODE code. [w 8] [14 R406] [reset 0, DC 3] -/
  mode : Nat := 0
  /-- POSITION. [w 8] [14 R406] [reset 0, DC 3] -/
  position : Nat := 0
  /-- CKPT_SEQ. [w 32] [14 R406] [reset 0, DC 3] -/
  ckpt : Nat := 0
  /-- PARAM_CRC. [w 32] [14 R406] [reset 0, DC 3] -/
  paramCrc : Nat := 0
  /-- Instant of the last heartbeat on PAIR. [w ns] [14 R408] [reset none, DC 3] -/
  hbPair : Option Nat := none
  /-- Instant of the last heartbeat on the fabric, either plane. [w ns] [14 R406, R408] [reset none, DC 3] -/
  hbFab : Option Nat := none
  /-- Its address as learnt over PAIR. [w 16] [14 R428] [reset 0, DC 3] -/
  addr : Nat := 0
  /-- Instant since which SELFTEST_OK has been shown. [w ns] [14 R424] [reset none, DC 3] -/
  testedAt : Option Nat := none
  deriving DecidableEq, Repr

/-- A planned hand-over in progress (14 R407, R424). -/
structure Swap where
  /-- This module began it as the active. -/
  active : Bool
  /-- SWAP_ID. -/
  id : Nat
  /-- EPOCH the standby will claim. -/
  epoch : Nat
  /-- Step last sent: 1 PREPARE, 2 READY, 3 HAND, 4 TAKEN. -/
  step : Nat
  /-- Instant it was first sent, or the ramp of step 2 began. -/
  since : Nat
  /-- The active ramps to 0 A before HAND. -/
  ramping : Bool
  /-- MARK_N. -/
  mark : Nat
  /-- CKPT_SEQ pushed for the swap. -/
  ckpt : Nat
  /-- Mailbox of the PAIR_SWAP. -/
  mb : Option Nat
  /-- Dispatch target at the start, for a swap that fails. -/
  target : SetPoint
  deriving DecidableEq, Repr

/-- The steps of a takeover (14 R422). -/
inductive Takeover where
  | claiming | reheaded
  deriving DecidableEq, Repr

/-- Pair and redundancy state. -/
structure Pair where
  /-- ROLE claimed: 0, 2, 8 or 15. [w 4] [14 R409, R410] [reset 0, 14 R409] -/
  role : Nat := 0
  /-- EPOCH of this module's claim, kept in NVM. [w 12] [14 R409, R418] [reset 0, 14 R409] -/
  epoch : Nat := 0
  /-- Highest epoch seen in a valid round or checkpoint. [w 12] [14 R411] [reset 0, DC 3] -/
  highest : Nat := 0
  /-- Instant since which epoch 0x001 has been seen in valid rounds. [w ns] [14 R411] [reset none, DC 3] -/
  renumberSince : Option Nat := none
  /-- Epoch 0x001 has gone out in a checkpoint and is claimed next. [w 1] [14 R411] [reset false, DC 3] -/
  renumber : Bool := false
  /-- Token held. [w 1] [14 R414] [reset false, DC 3] -/
  token : Bool := false
  /-- Standby of a pair. [w 1] [14 R403] [reset false, DC 3] -/
  standby : Bool := false
  /-- Last valid claim round. [w record] [14 R412] [reset none, DC 3] -/
  last : Option Round := none
  /-- Output field of the valid round before the last. [w 4] [14 R416] [reset 0, DC 3] -/
  prevField : Nat := 0
  /-- Followed state per coil. [w 4] [14 R416] [reset de-energised, DC 3] -/
  follow : List Bool := List.replicate 4 false
  /-- Instant of the last valid round with a role-8 or role-15 winner. [w ns] [14 R416] [reset none, DC 3] -/
  holderAt : Option Nat := none
  /-- Instant of the last valid round a role-8 code won. [w ns] [14 R425] [reset none, DC 3] -/
  role8At : Option Nat := none
  /-- Rounds listened to since the boot ended in Watch; none when the start-up choice is made. [w 8] [14 R418] [reset none, DC 3] -/
  listening : Option Nat := none
  /-- A role-8 code has been seen while listening. [w 1] [14 R418] [reset false, DC 3] -/
  heard8 : Bool := false
  /-- Instant since which every round has been lost. [w ns] [14 R418] [reset none, DC 3] -/
  losingSince : Option Nat := none
  /-- The partner. [w record] [14 R406] [reset as Partner] -/
  partner : Partner := {}
  /-- HB_SEQ of the next heartbeat. [w 16] [14 R406] [reset 0, DC 3] -/
  hbSeq : Nat := 0
  /-- Instant of the last heartbeat sent. [w ns] [14 R406] [reset none, DC 3] -/
  hbAt : Option Nat := none
  /-- RELINQUISH is sent. [w 1] [14 R406, R415] [reset false, DC 3] -/
  relinquish : Bool := false
  /-- Dome takes no part in rounds (R415, 11 R330). [w 1] [14 R415] [reset false, DC 3] -/
  outOfRounds : Bool := false
  /-- SWAP_READY. [w 1] [14 R406] [reset false, DC 3] -/
  swapReady : Bool := false
  /-- PAIR_DEGRADED. [w 1] [14 R408] [reset false, DC 3] -/
  degraded : Bool := false
  /-- PARTNER_FAILED. [w 1] [14 R408] [reset false, DC 3] -/
  failed : Bool := false
  /-- PARTNER_LOST. [w 1] [14 R408] [reset false, DC 3] -/
  lost : Bool := false
  /-- PARTNER_STOPPED. [w 1] [14 R408] [reset false, DC 3] -/
  stopped : Bool := false
  /-- PAIR_INCOMPATIBLE. [w 1] [14 R403] [reset false, DC 3] -/
  incompatible : Bool := false
  /-- PAIR_POSITION_CLASH. [w 1] [14 R405] [reset false, DC 3] -/
  clash : Bool := false
  /-- PAIR_PARAM_MISMATCH: the functions that differ, 0xFF for the safety set. [w list] [14 R420] [reset empty, DC 3] -/
  mismatch : List Nat := []
  /-- CLAIM_LINE_FAULT. [w 1] [14 R413] [reset false, DC 3] -/
  lineFault : Bool := false
  /-- PAIR_START_FAULT. [w 1] [14 R418] [reset false, DC 3] -/
  startFault : Bool := false
  /-- TAKEOVER_BLOCKED. [w 1] [14 R426] [reset false, DC 3] -/
  blocked : Bool := false
  /-- EPOCH_EXHAUSTED. [w 1] [14 R411] [reset false, DC 3] -/
  exhausted : Bool := false
  /-- STANDBY_UNFIT. [w 1] [14 R421] [reset false, DC 3] -/
  unfit : Bool := false
  /-- Self-test items that passed, engines 0, checkpoint 1, readback 2, probe 3. [w 16] [14 R421, R427] [reset 0, DC 3] -/
  testItems : Nat := 0
  /-- Instant of the last standby self-test. [w ns] [14 R421] [reset none, DC 3] -/
  selfTestAt : Option Nat := none
  /-- SELFTEST_OK. [w 1] [14 R406] [reset false, DC 3] -/
  testOk : Bool := false
  /-- CKPT_STALE. [w 1] [14 R422] [reset false, DC 3] -/
  stale : Bool := false
  /-- TAKEOVER_NO_CKPT. [w 1] [14 R423] [reset false, DC 3] -/
  noCkpt : Bool := false
  /-- CKPT_SEQ last sent. [w 32] [14 R419] [reset 0, DC 3] -/
  ckptSeq : Nat := 0
  /-- Instant of the last push. [w ns] [14 R419] [reset none, DC 3] -/
  ckptAt : Option Nat := none
  /-- Last complete checkpoint held: CKPT_SEQ, instant completed, bytes. [w 116,244 bytes] [14 R419] [reset none, DC 3] -/
  held : Option (Nat × Nat × List Byte) := none
  /-- Partial checkpoint in the inactive buffer: CKPT_SEQ and bytes so far. [w 116,244 bytes] [14 R407] [reset none, DC 3] -/
  partialCkpt : Option (Nat × List Byte) := none
  /-- Takeover under way. [w 2] [14 R422] [reset none, DC 3] -/
  takeover : Option Takeover := none
  /-- Mode the takeover ends in. [w 3] [14 R422] [reset Hold, DC 3] -/
  takeMode : Mode := .hold
  /-- Swap in progress. [w record] [14 R424] [reset none, DC 3] -/
  swap : Option Swap := none
  /-- SWAP_ID last chosen. [w 16] [14 R407] [reset 0, DC 3] -/
  swapId : Nat := 0
  /-- End of the override. [w ns] [14 R425] [reset none, DC 3] -/
  override : Option Nat := none
  /-- Instant of the last PT_PROBE passed on and answered. [w ns] [14 R421] [reset none, DC 3] -/
  probedAt : Option Nat := none
  /-- Latest health report. [w 128 bytes] [14 R427] [reset none, DC 3] -/
  health : Option (List Byte) := none
  /-- Instant of that report. [w ns] [14 R427] [reset none, DC 3] -/
  healthAt : Option Nat := none
  /-- Role rotations since boot. [w 16] [14 R427] [reset 0, DC 3] -/
  rotations : Nat := 0
  deriving DecidableEq, Repr

/-! ## Fabric (15) -/

/-- A computed route (15 R446). -/
structure Route where
  /-- Destination. -/
  dest : Nat
  /-- Port of the first hop. -/
  port : Nat
  /-- Neighbour at the first hop. -/
  via : Nat
  /-- Hops. -/
  hops : Nat
  /-- Sum of link delays. -/
  delay : Nat
  /-- The nodes on the way, the first neighbour first, the destination last. -/
  path : List Nat
  deriving DecidableEq, Repr

/-- One fabric port (15 R432 to R444). -/
structure Port where
  /-- 1000BASE-X synchronised. [w 1] [15 R443] [reset false, DC 3] -/
  link : Bool := false
  /-- Adjacent. [w 1] [15 R443] [reset false, DC 3] -/
  adj : Bool := false
  /-- The port is withdrawn and sends only idle. [w 1] [15 R458] [reset false, DC 3] -/
  quiet : Bool := false
  /-- Neighbour: address and serial of the last hello. [w 16+64] [15 R442] [reset none, DC 3] -/
  nbr : Option (Nat × Nat) := none
  /-- The neighbour is a stub host. [w 1] [15 R442] [reset false, DC 3] -/
  stub : Bool := false
  /-- The neighbour is DORMANT. [w 1] [15 R442] [reset false, DC 3] -/
  dormant : Bool := false
  /-- Consecutive hellos with HEARD equal to this node. [w 2] [15 R443] [reset 0, DC 3] -/
  good : Nat := 0
  /-- Instant of the last hello. [w ns] [15 R443] [reset none, DC 3] -/
  helloAt : Option Nat := none
  /-- Nodes heard, with the instant last heard. [w list] [15 R434] [reset empty, DC 3] -/
  heard : List (Nat × Nat) := []
  /-- MULTI_NEIGHBOUR. [w 1] [15 R434] [reset false, DC 3] -/
  multi : Bool := false
  /-- HELLO_SEQ of the next hello. [w 16] [15 R442] [reset 0, DC 3] -/
  txSeq : Nat := 0
  /-- Hellos sent: sequence and time, newest first, as far as an exchange may need them. [w list] [15 R444] [reset empty, DC 3] -/
  sent : List (Nat × Nat) := []
  /-- Hellos received: sequence and time, newest first. [w list] [15 R444] [reset empty, DC 3] -/
  rcvd : List (Nat × Nat) := []
  /-- The exchange that waits for its return: d - c in 2^-32 s. [w 64] [15 R444] [reset none, DC 3] -/
  halfOut : Option Int := none
  /-- Link delays of the last 16 exchanges in ns. [w list of 16] [15 R444] [reset empty, DC 3] -/
  delays : List Int := []
  /-- FOREIGN_FRAME count. [w 32] [15 R433] [reset 0, DC 3] -/
  foreign : Nat := 0
  /-- Tagged frames discarded. [w 32] [15 R432] [reset 0, DC 3] -/
  tagged : Nat := 0
  /-- Frames discarded for FCS or length. [w 32] [15 R432] [reset 0, DC 3] -/
  crcErrors : Nat := 0
  /-- BAD_HEADER per class. [w 5 x 32] [15 R435, R462] [reset 0, DC 3] -/
  badHeader : List Nat := [0, 0, 0, 0, 0]
  /-- Drops per class. [w 5 x 32] [15 R462] [reset 0, DC 3] -/
  drops : List Nat := [0, 0, 0, 0, 0]
  /-- Octets queued per class. [w 5 x 32] [15 R462] [reset 0, DC 3] -/
  queue : List Nat := [0, 0, 0, 0, 0]
  /-- HOP_EXPIRED count. [w 32] [15 R437] [reset 0, DC 3] -/
  hopExpired : Nat := 0
  /-- TC0_OVER count. [w 32] [15 R454] [reset 0, DC 3] -/
  tc0Over : Nat := 0
  /-- TC0_DROP count. [w 32] [15 R454] [reset 0, DC 3] -/
  tc0Drop : Nat := 0
  /-- TC0 shaper credit: octets and the instant they stood. [w 768 bytes] [15 R453] [reset full, DC 3] -/
  credit : Nat × Nat := (768, 0)
  /-- SFP diagnostics: temperature, TX power, RX power, bias, flags. [w 8 bytes] [14 R427, 15 R432] [reset 0: not present, DC 3] -/
  sfp : List Nat := [0, 0, 0, 0, 0]
  deriving DecidableEq, Repr

/-- One fabric plane with its Tower engine. -/
structure Plane where
  /-- Ports 1 to 3. [w 3 ports] [15 R431] [reset each as Port] -/
  port : List Port := [{}, {}, {}]
  /-- Link-state database: advertisement and instant received. [w list] [15 R445] [reset empty, DC 3] -/
  lsdb : List (Lsa × Nat) := []
  /-- LSA_SEQ of the last own advertisement. [w 32] [15 R445] [reset 0, DC 3] -/
  lsaSeq : Nat := 0
  /-- Instant of the last own flood. [w ns] [15 R445] [reset none, DC 3] -/
  floodAt : Option Nat := none
  /-- A change waits to be flooded. [w 1] [15 R445] [reset false, DC 3] -/
  changed : Bool := false
  /-- Routes in force. [w list] [15 R446] [reset empty, DC 3] -/
  routes : List Route := []
  /-- Pinned time route: links as pairs of nodes, port of the first hop. [w list] [15 R451] [reset none, DC 3] -/
  pinned : Option (List (Nat × Nat) × Nat) := none
  /-- Grandmaster node of the pinned route. [w 16] [15 R451] [reset 0, DC 3] -/
  gmNode : Nat := 0
  /-- TRACE of the last Sync and of the last Delay_Resp. [w 16+16] [15 R451] [reset none, DC 3] -/
  traces : Option Nat × Option Nat := (none, none)
  /-- ROUTE_ASYMMETRIC. [w 1] [15 R451] [reset false, DC 3] -/
  asym : Bool := false
  /-- Instant since which the failing condition (true) or the other (false) has held. [w 1+ns] [15 R450] [reset failing at 0, DC 3] -/
  cond : Bool × Nat := (true, 0)
  /-- Declared failed. [w 1] [15 R450] [reset false, DC 3] -/
  failed : Bool := false
  /-- Instant of the last declaration. [w ns] [09 R285, 15 R450] [reset 0, DC 3] -/
  declaredAt : Nat := 0
  deriving DecidableEq, Repr

/-- One flow entry (15 R456). -/
structure Flow where
  /-- Remote address. -/
  addr : Nat
  /-- Class. -/
  cls : Nat
  /-- Transmit FLOW_SEQ of the next frame. -/
  tx : Nat
  /-- Receive FLOW_SEQ last seen. -/
  rx : Option Nat
  /-- Plane in use: 0 A, 1 B. -/
  plane : Nat
  /-- Frames. -/
  frames : Nat
  /-- Gaps. -/
  gaps : Nat
  /-- Duplicates. -/
  dups : Nat
  /-- FLOW_SEQ of the last 64 copies delivered. -/
  recent : List Nat
  /-- Instant of the last frame. -/
  usedAt : Nat
  /-- Instant since which the preferred plane has a route again, while moved. -/
  backSince : Option Nat
  deriving DecidableEq, Repr

/-- The fabric as this module runs it. -/
structure Fabric where
  /-- Planes A and B. [w 2 planes] [15 R431] [reset each as Plane] -/
  plane : List Plane := [{}, {}]
  /-- Node address in use. [w 16] [15 R438, R439] [reset 0x0000 unassigned, 15 R438] -/
  node : Nat := 0
  /-- It is provisional. [w 1] [15 R439] [reset false, DC 3] -/
  provisional : Bool := false
  /-- A changed NODE_ADDR waits for the COMMIT's response. [w 16] [15 R439] [reset none, DC 3] -/
  nextNode : Option Nat := none
  /-- DUPLICATE_ADDRESS. [w 1] [15 R440] [reset false, DC 3] -/
  duplicate : Bool := false
  /-- The string address has been withdrawn as a duplicate. [w 1] [15 R440] [reset false, DC 3] -/
  strWithdrawn : Bool := false
  /-- Flow entries. [w 64 entries] [15 R456] [reset empty, DC 3] -/
  flows : List Flow := []
  /-- FLOW_TABLE_FULL count. [w 32] [15 R456] [reset 0, DC 3] -/
  full : Nat := 0
  deriving DecidableEq, Repr

/-! ## Time unit (16) -/

/-- Time states (16 R466). -/
inductive TimeState where
  | free | locking | locked | holdover
  deriving DecidableEq, Repr

/-- One PTP domain, A or B (16 R471 to R475). -/
structure Domain where
  /-- Grandmaster identity. [w 64] [16 R469, R486] [reset 0, DC 3] -/
  gm : Nat := 0
  /-- Announced data set of the best master: priority1, clockClass, accuracy, variance, priority2, steps removed. [w list] [16 R469] [reset empty, DC 3] -/
  best : List Nat := []
  /-- Instant of its last Announce. [w ns] [16 R469] [reset none, DC 3] -/
  announceAt : Option Nat := none
  /-- currentUtcOffset. [w 16] [16 R469] [reset 0, DC 3] -/
  utc : Int := 0
  /-- A two-step Sync waiting for its Follow_Up: sequence, receive stamp, correction in ns, TRACE. [w record] [16 R469] [reset none, DC 3] -/
  sync : Option (Nat × Int × Int × Nat) := none
  /-- Origin and receive stamps of the last complete Sync, correction applied, in 2^-32 s. [w 64+64] [16 R471] [reset none, DC 3] -/
  t12 : Option (Int × Int) := none
  /-- Instant of the last Sync. [w ns] [16 R472] [reset none, DC 3] -/
  syncAt : Option Nat := none
  /-- Sequence and transmit stamp of the last Delay_Req. [w 16+64] [16 R471] [reset none, DC 3] -/
  req : Option (Nat × Int) := none
  /-- Instant of the last Delay_Resp. [w ns] [16 R472] [reset none, DC 3] -/
  respAt : Option Nat := none
  /-- Path delays of the last 16 exchanges in 2^-32 s. [w list of 16] [16 R471] [reset empty, DC 3] -/
  paths : List Int := []
  /-- Last offset in ns: DOMAIN_OFFSET. [w 64] [16 R471] [reset none, DC 3] -/
  offset : Option Int := none
  /-- DEGRADED until this instant. [w ns] [16 R475] [reset none, DC 3] -/
  degraded : Option Nat := none
  /-- Instant since which the domain has been usable; none when it is not. [w ns] [16 R472] [reset none, DC 3] -/
  usableSince : Option Nat := none
  /-- Last refused offset in ns. [w 64] [16 R486] [reset none, DC 3] -/
  refused : Option Int := none
  /-- The last offset lay beyond TIME_JUMP_LIM (R474). [w 1] [16 R474] [reset false, DC 3] -/
  jumped : Bool := false
  deriving DecidableEq, Repr

/-- One PPS input (16 R476). -/
structure Pps where
  /-- Valid. [w 1] [16 R476] [reset false, DC 3] -/
  valid : Bool := false
  /-- Consecutive good edges. [w 3] [16 R476] [reset 0, DC 3] -/
  good : Nat := 0
  /-- Instant of the last edge. [w ns] [16 R476] [reset none, DC 3] -/
  at_ : Option Nat := none
  /-- Last offset in ns. [w 64] [16 R476] [reset none, DC 3] -/
  offset : Option Int := none
  deriving DecidableEq, Repr

/-- One buffered edge (16 R481). -/
structure Edge where
  /-- Sequence number by which TIME_EDGES names it. -/
  seq : Nat
  /-- Source ID. -/
  src : Nat
  /-- Edge byte: 0 falling, 1 rising, bit 7 after a loss. -/
  edge : Nat
  /-- 64-bit timestamp. -/
  stamp : Nat
  deriving DecidableEq, Repr

/-- One cadence trigger (16 R482). -/
structure Trigger where
  /-- Set. [w 1] [16 R482] [reset false, DC 3] -/
  on : Bool := false
  /-- Period in ns, 0 for one-shot. [w 42] [16 R482] [reset 0, DC 3] -/
  period : Nat := 0
  /-- Phase in ns. [w 42] [16 R482] [reset 0, DC 3] -/
  phase : Nat := 0
  /-- One-shot time, low 48 bits of a timestamp. [w 48] [16 R482] [reset 0, DC 3] -/
  time : Nat := 0
  /-- Island strobed. [w 4] [16 R482] [reset 0, DC 3] -/
  island : Nat := 0
  /-- LATE_TRIGGER flagged. [w 1] [16 R483] [reset false, DC 3] -/
  late : Bool := false
  /-- Firings. [w 32] [16 R482] [reset 0, DC 3] -/
  fired : Nat := 0
  deriving DecidableEq, Repr

/-- Time unit. -/
structure TimeUnit where
  /-- Counter less the model's instant, in 2^-32 s: the counter is `now` x 2^32 / 10^9 + this. [w 64] [16 R463, 00 R10] [reset 0, DC 3] -/
  off : Int := 0
  /-- State. [w 2] [16 R466] [reset FREE, 16 R466] -/
  st : TimeState := .free
  /-- Source in use: 0 domain A, 1 domain B, 2 PPS-A, 3 PPS-B, 4 oscillator. [w 3] [16 R466] [reset 4, 16 R466] -/
  src : Nat := 4
  /-- Domains A and B. [w 2 domains] [16 R469] [reset each as Domain] -/
  dom : List Domain := [{}, {}]
  /-- PPS-A and PPS-B. [w 2 inputs] [16 R476] [reset each as Pps] -/
  pps : List Pps := [{}, {}]
  /-- Magnitude of the last offset applied, ns. [w 32] [16 R466] [reset none, DC 3] -/
  lastOff : Option Nat := none
  /-- Instant since which the offset has been at most 100 ns. [w ns] [16 R466] [reset none, DC 3] -/
  smallSince : Option Nat := none
  /-- Ever LOCKED since boot. [w 1] [16 R466] [reset false, DC 3] -/
  everLocked : Bool := false
  /-- Entry to HOLDOVER. [w ns] [16 R466] [reset none, DC 3] -/
  holdAt : Option Nat := none
  /-- TIME_UNTRACEABLE. [w 1] [16 R467] [reset false, DC 3] -/
  untraceable : Bool := false
  /-- Addend trim of the servo in 2^-32 s per second. [w 32] [16 R463, R471] [reset 0, DC 3] -/
  trim : Int := 0
  /-- Instant at which `off` stood under that trim. [w ns] [16 R463] [reset 0, DC 3] -/
  trimAt : Nat := 0
  /-- Integrator of the servo, 2^-32 s per second. [w 64] [16 R471] [reset 0, DC 3] -/
  integ : Int := 0
  /-- Edge buffer. [w 512 x 12 bytes] [16 R481] [reset empty, DC 3] -/
  edges : List Edge := []
  /-- Sequence of the next edge. [w 32] [16 R486] [reset 0, DC 3] -/
  edgeSeq : Nat := 0
  /-- EDGE_LOST per source 0x00 to 0x12. [w 19 x 32] [16 R481] [reset 0, DC 3] -/
  lost : List Nat := List.replicate 19 0
  /-- Stamp of the last edge captured per source. [w 19 x 64] [16 R480] [reset none, DC 3] -/
  lastEdge : List (Option Nat) := List.replicate 19 none
  /-- A loss has occurred and the next stored stamp of the source carries bit 7. [w 19] [16 R481] [reset false, DC 3] -/
  lostMark : List Bool := List.replicate 19 false
  /-- Triggers. [w 32 triggers] [16 R482] [reset each as Trigger] -/
  trig : List Trigger := List.replicate 32 {}
  /-- Periodic triggers restart at this instant after a step. [w ns] [16 R479] [reset none, DC 3] -/
  restartAt : Option Nat := none
  /-- PPS-OUT runs. [w 1] [16 R477] [reset held low: Shelf, 16 R477] -/
  ppsOut : Bool := false
  /-- The servos, PTP and PPS alignment run (R487). [w 1] [16 R487] [reset true, DC 3] -/
  servo : Bool := true
  /-- PTP_UNSUPPORTED count. [w 32] [16 R469] [reset 0, DC 3] -/
  unsupported : Nat := 0
  deriving DecidableEq, Repr

/-! ## CAN and two-wire ports (17) -/

/-- A transmit entry: handle and frame. -/
structure CanTxEntry where
  /-- Handle. -/
  handle : Nat
  /-- Frame. -/
  frame : CanFrame
  deriving DecidableEq, Repr

/-- A receive entry (17 R493, R495). -/
structure CanRxEntry where
  /-- SEQ. -/
  seq : Nat
  /-- OVERRUN_BEFORE. -/
  overrun : Bool
  /-- TIME. -/
  time : Nat
  /-- Frame. -/
  frame : CanFrame
  deriving DecidableEq, Repr

/-- Bus state of a CAN controller (17 R513). -/
inductive CanBus where
  | active | passive | off | recovering
  deriving DecidableEq, Repr

/-- One CAN controller. -/
structure Can where
  /-- Bus state. [w 2] [17 R492, R513] [reset error-active, DC 3] -/
  bus : CanBus := .active
  /-- Start of a bus-off recovery. [w ns] [17 R492] [reset 0, DC 3] -/
  recoverAt : Nat := 0
  /-- Off the bus: STOP of the function. [w 1] [17 R510] [reset false, DC 3] -/
  offline : Bool := false
  /-- Transmit error counter. [w 9] [17 R488, R513] [reset 0, DC 3] -/
  tec : Nat := 0
  /-- Receive error counter. [w 8] [17 R488, R513] [reset 0, DC 3] -/
  rec_ : Nat := 0
  /-- Transmit FIFO, head first. [w 32 entries] [17 R490] [reset empty, DC 3] -/
  tx : List CanTxEntry := []
  /-- Express slot. [w 1 entry] [17 R490] [reset empty, DC 3] -/
  express : Option CanTxEntry := none
  /-- The attempt on the bus: handle and true for the express entry. [w 16+1] [17 R491] [reset none, DC 3] -/
  onBus : Option (Nat × Bool) := none
  /-- A cancel waits for the attempt's end: mailbox. [w 3] [17 R491] [reset none, DC 3] -/
  cancel : Option Nat := none
  /-- Handles settled: handle, end-of-frame time for a sent one, none for a cancelled one, newest first. [w list] [17 R513] [reset empty, DC 3] -/
  settled : List (Nat × Option Nat) := []
  /-- Next handle, never 0. [w 16] [17 R493] [reset 1, DC 3] -/
  next : Nat := 1
  /-- Receive FIFO, oldest first. [w 64 entries] [17 R495] [reset empty, DC 3] -/
  rx : List CanRxEntry := []
  /-- Next stored-frame sequence. [w 16] [17 R493] [reset 0, DC 3] -/
  seq : Nat := 0
  /-- RX_OVERRUN. [w 32] [17 R496] [reset 0, DC 3] -/
  overrun : Nat := 0
  /-- The next frame stored carries OVERRUN_BEFORE. [w 1] [17 R496] [reset false, DC 3] -/
  gapped : Bool := false
  /-- Map frames sent. [w 32] [17 R513] [reset 0, DC 3] -/
  mapTx : Nat := 0
  /-- Map frames acted on. [w 32] [17 R513] [reset 0, DC 3] -/
  mapRx : Nat := 0
  /-- Map frames ignored for a repeated counter. [w 32] [17 R498, R513] [reset 0, DC 3] -/
  mapIgnored : Nat := 0
  /-- Counter of the last B + 0x10 frame. [w 8] [17 R498] [reset none, DC 3] -/
  ctr10 : Option Nat := none
  /-- Counter of the last B + 0x11 frame. [w 8] [17 R498] [reset none, DC 3] -/
  ctr11 : Option Nat := none
  /-- Status of the last map command. [w 8] [17 R497, R498] [reset DONE, DC 3] -/
  mapStatus : Status := .done
  /-- Command of the last map command frame. [w 16] [17 R498] [reset 0, DC 3] -/
  mapCmd : Nat := 0
  /-- Next page of B + 0x04. [w 8] [17 R497] [reset 0, DC 3] -/
  page : Nat := 0
  /-- Instants at which map frames B to B + 0x04 last went out. [w 5 x ns] [17 R497] [reset none, DC 3] -/
  mapAt : List (Option Nat) := List.replicate 5 none
  deriving DecidableEq, Repr

/-- TW-SVC (17 R500 to R507). -/
structure TwSvc where
  /-- Window pointer. [w 8] [17 R501] [reset 0, DC 3] -/
  ptr : Nat := 0
  /-- PAGE. [w 8] [17 R502] [reset 0, DC 3] -/
  page : Nat := 0
  /-- BUF. [w 8] [17 R502] [reset 0, DC 3] -/
  buf : Nat := 0
  /-- REQ_LEN. [w 16] [17 R502] [reset 0, DC 3] -/
  reqLen : Nat := 0
  /-- RSP_LEN. [w 16] [17 R502] [reset 0, DC 3] -/
  rspLen : Nat := 0
  /-- DOORBELL_STATUS. [w 8] [17 R502] [reset 0, DC 3] -/
  bell : Nat := 0
  /-- RSP_READY. [w 1] [17 R502] [reset 0, 17 R502] -/
  ready : Bool := false
  /-- Request buffer. [w 1,344 bytes: 7 pages] [17 R502] [reset 0, DC 3] -/
  req : List Byte := List.replicate 1344 0
  /-- Response buffer. [w 1,344 bytes: 7 pages] [17 R502] [reset 0, DC 3] -/
  rsp : List Byte := List.replicate 1344 0
  /-- A transfer is in progress after an address match. [w 1] [17 R504] [reset false, DC 3] -/
  selected : Bool := false
  /-- The next data byte of the write transfer is the window pointer. [w 1] [17 R501] [reset false, DC 3] -/
  ptrNext : Bool := false
  /-- The next written byte is not acknowledged (TW_LATE). [w 1] [17 R504] [reset false, DC 3] -/
  refuse : Bool := false
  /-- TW_LATE count. [w 32] [17 R504] [reset 0, DC 3] -/
  late : Nat := 0
  /-- TW_RO_WRITE count. [w 32] [17 R501] [reset 0, DC 3] -/
  roWrite : Nat := 0
  /-- Attention causes waiting: bit 0 response, 1 mode, 2 Tripped. [w 3] [17 R506] [reset 0, 17 R502] -/
  attn : Nat := 0
  /-- Instant of the next attempt after a refused byte. [w ns] [17 R507] [reset none, DC 3] -/
  attnAt : Option Nat := none
  /-- Attention retries. [w 32] [17 R513] [reset 0, DC 3] -/
  retries : Nat := 0
  /-- Address served; a changed TW_SVC_ADDR applies after the READ of its response. [w 7] [17 R510] [reset 0x3C, 17 R512] -/
  addr : Nat := 0x3C
  deriving DecidableEq, Repr

/-- TW-ACC (17 R508, R509). -/
structure TwAcc where
  /-- BUS_STUCK. [w 1] [17 R509] [reset false, DC 3] -/
  stuck : Bool := false
  /-- A bus clear is due before any transfer. [w 1] [17 R509] [reset true: start-up, 17 R509] -/
  clearDue : Bool := true
  /-- Instant of the last clear. [w ns] [17 R509] [reset 0, DC 3] -/
  clearAt : Nat := 0
  /-- Clear count. [w 32] [17 R513] [reset 0, DC 3] -/
  clears : Nat := 0
  /-- NACK count. [w 32] [17 R513] [reset 0, DC 3] -/
  nacks : Nat := 0
  /-- Timeout count. [w 32] [17 R513] [reset 0, DC 3] -/
  timeouts : Nat := 0
  deriving DecidableEq, Repr

/-- The field buses. -/
structure Buses where
  /-- CAN1 and CAN2. [w 2 controllers] [17 R488] [reset each as Can] -/
  can : List Can := [{}, {}]
  /-- TW-SVC. [w record] [17 R500] [reset as TwSvc] -/
  svc : TwSvc := {}
  /-- TW-ACC. [w record] [17 R508] [reset as TwAcc] -/
  acc : TwAcc := {}
  deriving DecidableEq, Repr

/-! ## Update (19) -/

/-- State of a staging slot (19 R547). -/
inductive SlotState where
  | empty | writing | complete | checked
  deriving DecidableEq, Repr

/-- One image ID: the running image's header and the staging slot (19 R529 to R536). -/
structure ImgSlot where
  /-- Running image header, 256 bytes. [w 256 bytes] [19 R530, 13 R400] [reset zeros, DC 3] -/
  running : List Byte := List.replicate 256 0
  /-- Slot state. [w 2] [19 R547] [reset empty, DC 3] -/
  st : SlotState := .empty
  /-- Total length named by IMG_OPEN. [w 32] [19 R534] [reset 0, DC 3] -/
  len : Nat := 0
  /-- Blocks written: offset and bytes, rising. [w list] [19 R534] [reset empty, DC 3] -/
  blocks : List (Nat × List Byte) := []
  /-- Owner: binding number and mailbox. [w model+3] [19 R534] [reset none, DC 3] -/
  owner : Option (Nat × Nat) := none
  /-- Instant of the owner's last block or open. [w ns] [19 R534] [reset 0, DC 3] -/
  usedAt : Nat := 0
  /-- Install marker set. [w 1] [19 R536] [reset false, DC 3] -/
  marker : Bool := false
  /-- Highest SEC_VERSION installed. [w 8] [19 R532] [reset 0, DC 3] -/
  sec : Nat := 0
  deriving DecidableEq, Repr

/-- An install in progress (19 R536 to R545). -/
structure Install where
  /-- Image ID. -/
  id : Nat
  /-- Mailbox of the request, none once it has been ended. -/
  mb : Option Nat
  /-- Step now running or next, from 1. -/
  step : Nat
  /-- Steps in all. -/
  steps : Nat
  /-- Engines still to load, the present one first (TAP: ring x 16 + position - 1). -/
  todo : List Nat
  /-- A step is in progress. -/
  busy : Bool
  /-- Copies that failed in this step. -/
  failed : Nat
  /-- PAUSED: cause and instant. -/
  paused : Option (Nat × Nat)
  /-- Instant the running step (a tap swap) began. -/
  since : Nat
  /-- A trip or STOP pauses the install before its next step. -/
  hold : Bool
  /-- Functions the install has halted and starts again. -/
  halted : List Nat
  /-- CTRL: instant from which the shadow has run on the new image. -/
  shadowAt : Option Nat
  /-- TAP: 0 FW_OPEN, 1 blocks, 2 FW_CHECK, 3 missing blocks, 4 swap due, 5 a swapped tap is awaited, 6 its valid data is awaited. -/
  phase : Nat
  /-- TAP: next block number per ring. -/
  next : List Nat
  /-- TAP: missing blocks, as tap and block number. -/
  resend : List (Nat × Nat)
  /-- TAP: taps whose FW_CHECK is still to be sent. -/
  unchecked : List Nat
  /-- TAP: instant since which the swapped tap has returned valid sweep data. -/
  goodSince : Option Nat
  deriving DecidableEq, Repr

/-- Update state. -/
structure Update where
  /-- Image IDs 0x01 to 0x09. [w 9 slots] [19 R529] [reset each as ImgSlot] -/
  img : List ImgSlot := List.replicate 9 {}
  /-- The install in progress. [w record] [19 R538] [reset none, DC 3] -/
  job : Option Install := none
  /-- Engines held in reset by IMG_VERIFY_FAIL: image ID and engine. [w list] [19 R536] [reset empty, DC 3] -/
  heldReset : List (Nat × Nat) := []
  /-- TAP_FW_FAIL raised. [w 1] [19 R545] [reset false, DC 3] -/
  tapFail : Bool := false
  /-- Outcome of the last install that ended: status and cause. [w 8+16] [19 R546, R547] [reset none, DC 3] -/
  last : Option (Status × Nat) := none
  deriving DecidableEq, Repr

/-! ## The whole state -/

/-- The module. -/
structure State where
  /-- Commands that wait, first in, first out. -/
  pending : List Instr := []
  /-- Instant of the last command, in ns since the model began; the model's own clock. [w ns] [model, DC 1] [reset 0, DC 1] -/
  now : Nat := 0
  /-- What left the module in the last step. [w list] [model, DC 1] [reset empty, DC 1] -/
  out : List Emission := []
  /-- Mode machine, supply, keys, identity (12, 13, 20). -/
  core : Core := {}
  /-- Clock islands (01, 12). -/
  isl : Islands := {}
  /-- Mailboxes and functions (13). -/
  mbx : Mailboxes := {}
  /-- Event recorder (18). -/
  well : Well := {}
  /-- Rings and taps (02, 03). -/
  rings : Rings := {}
  /-- Estimation array (04). -/
  est : Est := {}
  /-- Impedance (05). -/
  imp : Imp := {}
  /-- Control-law engines (06). -/
  ctrl : Ctrl := {}
  /-- Converter modulator (07). -/
  conv : Conv := {}
  /-- Set-points and dispatch (08). -/
  disp : Disp := {}
  /-- Safety functions (09). -/
  saf : Safety := {}
  /-- Contactor outputs (10). -/
  con : Contactors := {}
  /-- Thermal unit (11). -/
  thm : Thermal := {}
  /-- Pair (14). -/
  pair : Pair := {}
  /-- Fabric (15). -/
  fab : Fabric := {}
  /-- Time unit (16). -/
  tim : TimeUnit := {}
  /-- CAN and two-wire ports (17). -/
  bus : Buses := {}
  /-- Update (19). -/
  upd : Update := {}
  deriving DecidableEq, Repr

/-- Why a step faults. -/
inductive Fault where
  /-- Raised by no command: the spec gives every command of the table an effect, and a command whose conditions do not
  hold changes nothing. It stands here so that the type has a value. Safe. -/
  | none
  deriving DecidableEq, Repr

/-- Why a step is refused. -/
inductive Refusal where
  /-- Raised by an arm of `exec` whose command has no meaning yet; no arm is left so. Safe. -/
  | notModelled (mnemonic : String)
  deriving DecidableEq, Repr

/-- The module right after reset: in Shelf as delivered, unpowered, with no parameter changed from its default (12 R347,
notes/assumptions/2.md and 3.md). -/
def State.reset : State := {}

end Sys2Proof.Machine
end

