-- ==== Sys2Proof/Machine/Codes.lean ====
section
/-!
DEFINITION. Machine/Codes.lean: the event and cause codes of 18 R515 under their names, and the table that REC_CODES reads.
-/

namespace Sys2Proof.Machine

/-- MODE_CHANGE (18 R515). -/
def Ev.modeChange : Nat := 0x0001

/-- COMMAND_DONE (18 R515). -/
def Ev.commandDone : Nat := 0x0002

/-- CROSSING_TIMEOUT (18 R515). -/
def Ev.crossingTimeout : Nat := 0x0003

/-- CROSSING_FLUSH (18 R515). -/
def Ev.crossingFlush : Nat := 0x0004

/-- CLOCK_FAULT (18 R515). -/
def Ev.clockFault : Nat := 0x0005

/-- WAKE_LATE (18 R515). -/
def Ev.wakeLate : Nat := 0x0006

/-- AUX_LOST (18 R515). -/
def Ev.auxLost : Nat := 0x0007

/-- BOOT_FAIL (18 R515). -/
def Ev.bootFail : Nat := 0x0008

/-- BACKUP_LOW (18 R515). -/
def Ev.backupLow : Nat := 0x0009

/-- CISTERN_LOW (18 R515). -/
def Ev.cisternLow : Nat := 0x000A

/-- CISTERN_WORN (18 R515). -/
def Ev.cisternWorn : Nat := 0x000B

/-- MAILBOX_BOUND (18 R515). -/
def Ev.mailboxBound : Nat := 0x000C

/-- LENGTH (18 R515). -/
def Ev.length : Nat := 0x000D

/-- RESERVED (18 R515). -/
def Ev.reserved : Nat := 0x000E

/-- MAILBOX_EMPTY (18 R515). -/
def Ev.mailboxEmpty : Nat := 0x000F

/-- STAGE_OWNED (18 R515). -/
def Ev.stageOwned : Nat := 0x0010

/-- FUNCTION_STOPPED (18 R515). -/
def Ev.functionStopped : Nat := 0x0011

/-- FUNCTION_BUSY (18 R515). -/
def Ev.functionBusy : Nat := 0x0012

/-- SPIRE_RESTART (18 R515). -/
def Ev.spireRestart : Nat := 0x0013

/-- AUTH_CHALLENGE (18 R515). -/
def Ev.authChallenge : Nat := 0x0014

/-- AUTH_KEY (18 R515). -/
def Ev.authKey : Nat := 0x0015

/-- AUTH_MAC (18 R515). -/
def Ev.authMac : Nat := 0x0016

/-- AUTH_ROLE (18 R515). -/
def Ev.authRole : Nat := 0x0017

/-- AUTH_LOCKOUT (18 R515). -/
def Ev.authLockout : Nat := 0x0018

/-- KEY_SET (18 R515). -/
def Ev.keySet : Nat := 0x0019

/-- PARAM_RANGE (18 R515). -/
def Ev.paramRange : Nat := 0x001A

/-- PARAM_RULE (18 R515). -/
def Ev.paramRule : Nat := 0x001B

/-- STOP_NEEDED (18 R515). -/
def Ev.stopNeeded : Nat := 0x001C

/-- PARAM_COMMIT (18 R515). -/
def Ev.paramCommit : Nat := 0x001D

/-- OWNER_LOCK (18 R515). -/
def Ev.ownerLock : Nat := 0x001E

/-- ARG_VALUE (18 R515). -/
def Ev.argValue : Nat := 0x001F

/-- RING_TOO_LONG (18 R515). -/
def Ev.ringTooLong : Nat := 0x0100

/-- TAP_COUNT_MISMATCH (18 R515). -/
def Ev.tapCountMismatch : Nat := 0x0101

/-- TAP_REPLACED (18 R515). -/
def Ev.tapReplaced : Nat := 0x0102

/-- TAP_SILENT (18 R515). -/
def Ev.tapSilent : Nat := 0x0103

/-- TAP_REJECT (18 R515). -/
def Ev.tapReject : Nat := 0x0104

/-- CLK_LOCK_LOST (18 R515). -/
def Ev.clkLockLost : Nat := 0x0105

/-- RING_BREAK (18 R515). -/
def Ev.ringBreak : Nat := 0x0106

/-- UNREACHABLE (18 R515). -/
def Ev.unreachable : Nat := 0x0107

/-- SWEEP_STRETCHED (18 R515). -/
def Ev.sweepStretched : Nat := 0x0108

/-- RING_RESTORED (18 R515). -/
def Ev.ringRestored : Nat := 0x0109

/-- FLT_TEST_FAIL (18 R515). -/
def Ev.fltTestFail : Nat := 0x010A

/-- RING_MARGIN (18 R515). -/
def Ev.ringMargin : Nat := 0x010B

/-- THRESH_CLAMPED (18 R515). -/
def Ev.threshClamped : Nat := 0x010C

/-- LEAD_HIGH (18 R515). -/
def Ev.leadHigh : Nat := 0x010D

/-- DELAY_UNSET (18 R515). -/
def Ev.delayUnset : Nat := 0x010E

/-- BAL_REFUSED (18 R515). -/
def Ev.balRefused : Nat := 0x0200

/-- BAL_FORCED (18 R515). -/
def Ev.balForced : Nat := 0x0201

/-- BAL_RELEASED (18 R515). -/
def Ev.balReleased : Nat := 0x0202

/-- CTX_LOST (18 R515). -/
def Ev.ctxLost : Nat := 0x0300

/-- CHEM_MISMATCH (18 R515). -/
def Ev.chemMismatch : Nat := 0x0301

/-- DIVERGED (18 R515). -/
def Ev.diverged : Nat := 0x0302

/-- CAP_CLAMPED (18 R515). -/
def Ev.capClamped : Nat := 0x0303

/-- SOC_REINIT (18 R515). -/
def Ev.socReinit : Nat := 0x0304

/-- LIM_FALLBACK (18 R515). -/
def Ev.limFallback : Nat := 0x0305

/-- MODE (18 R515). -/
def Ev.impMode : Nat := 0x0400

/-- CONVERTER (18 R515). -/
def Ev.impConverter : Nat := 0x0401

/-- SHEDDING (18 R515). -/
def Ev.impShedding : Nat := 0x0402

/-- SHUNT (18 R515). -/
def Ev.impShunt : Nat := 0x0403

/-- SWEEP (18 R515). -/
def Ev.impSweep : Nat := 0x0404

/-- RING (18 R515). -/
def Ev.impRing : Nat := 0x0405

/-- CEILING (18 R515). -/
def Ev.impCeiling : Nat := 0x0406

/-- GATES (18 R515). -/
def Ev.impGates : Nat := 0x0407

/-- STOPPED (18 R515). -/
def Ev.impStopped : Nat := 0x0408

/-- TAKEOVER (18 R515). -/
def Ev.impTakeover : Nat := 0x0409

/-- IMP_OVERRUN (18 R515). -/
def Ev.impOverrun : Nat := 0x040A

/-- IMP_SPECTRUM_BLOCKED (18 R515). -/
def Ev.impSpectrumBlocked : Nat := 0x040B

/-- CTRL_CAPACITY (18 R515). -/
def Ev.ctrlCapacity : Nat := 0x0500

/-- MISSED (18 R515). -/
def Ev.missed : Nat := 0x0501

/-- SHADOW_ABSENT (18 R515). -/
def Ev.shadowAbsent : Nat := 0x0502

/-- CTRL_DEADLINE (18 R515). -/
def Ev.ctrlDeadline : Nat := 0x0503

/-- SHADOW_MISMATCH (18 R515). -/
def Ev.shadowMismatch : Nat := 0x0504

/-- CTRL_MISMATCH_UNRESOLVED (18 R515). -/
def Ev.ctrlMismatchUnresolved : Nat := 0x0505

/-- FOLLOWING_ERROR (18 R515). -/
def Ev.followingError : Nat := 0x0506

/-- SHUNT_FAIL (18 R515). -/
def Ev.shuntFail : Nat := 0x0507

/-- HALL_FAIL (18 R515). -/
def Ev.hallFail : Nat := 0x0508

/-- CURRENT_FEEDBACK_LOST (18 R515). -/
def Ev.currentFeedbackLost : Nat := 0x0509

/-- ENGINE_REMOVED (18 R515). -/
def Ev.engineRemoved : Nat := 0x050A

/-- ROTATION (18 R515). -/
def Ev.rotation : Nat := 0x050B

/-- SLEW_MARGIN_LOW (18 R515). -/
def Ev.slewMarginLow : Nat := 0x0600

/-- VOLTAGE_RATIO (18 R515). -/
def Ev.voltageRatio : Nat := 0x0601

/-- INTERLEAVE_LIMIT (18 R515). -/
def Ev.interleaveLimit : Nat := 0x0602

/-- CBC_SUSTAINED (18 R515). -/
def Ev.cbcSustained : Nat := 0x0603

/-- SOFT_START_FAIL (18 R515). -/
def Ev.softStartFail : Nat := 0x0604

/-- CONVERTER_SHORT (18 R515). -/
def Ev.converterShort : Nat := 0x0605

/-- LANE_DOWN (18 R515). -/
def Ev.laneDown : Nat := 0x0606

/-- GATE_DRIVER_FAULT (18 R515). -/
def Ev.gateDriverFault : Nat := 0x0607

/-- LATE_APPLIED (18 R515). -/
def Ev.lateApplied : Nat := 0x0700

/-- DISPATCH_WATCHDOG (18 R515). -/
def Ev.dispatchWatchdog : Nat := 0x0701

/-- DISPATCH_RESET (18 R515). -/
def Ev.dispatchReset : Nat := 0x0702

/-- POWER_NO_VOLTAGE (18 R515). -/
def Ev.powerNoVoltage : Nat := 0x0703

/-- CHG_BLOCKED (18 R515). -/
def Ev.chgBlocked : Nat := 0x0704

/-- DIS_BLOCKED (18 R515). -/
def Ev.disBlocked : Nat := 0x0705

/-- SAFE_RESET (18 R515). -/
def Ev.safeReset : Nat := 0x0800

/-- SF1 (18 R515). -/
def Ev.sf1 : Nat := 0x0801

/-- SF2 (18 R515). -/
def Ev.sf2 : Nat := 0x0802

/-- SF3 (18 R515). -/
def Ev.sf3 : Nat := 0x0803

/-- SF4 (18 R515). -/
def Ev.sf4 : Nat := 0x0804

/-- SF5 (18 R515). -/
def Ev.sf5 : Nat := 0x0805

/-- SF6 (18 R515). -/
def Ev.sf6 : Nat := 0x0806

/-- SF7 (18 R515). -/
def Ev.sf7 : Nat := 0x0807

/-- SF8 (18 R515). -/
def Ev.sf8 : Nat := 0x0808

/-- SF9 (18 R515). -/
def Ev.sf9 : Nat := 0x0809

/-- SP_SILENT (18 R515). -/
def Ev.spSilent : Nat := 0x080A

/-- DOME_FAULT (18 R515). -/
def Ev.domeFault : Nat := 0x080B

/-- FLT_LOOP (18 R515). -/
def Ev.fltLoop : Nat := 0x080C

/-- FLT_SHORT (18 R515). -/
def Ev.fltShort : Nat := 0x080D

/-- THRESH_MISMATCH (18 R515). -/
def Ev.threshMismatch : Nat := 0x080E

/-- SAFE_LINK_LOST (18 R515). -/
def Ev.safeLinkLost : Nat := 0x080F

/-- SF6_BLOCK (18 R515). -/
def Ev.sf6Block : Nat := 0x0810

/-- SI1_DISCREPANCY (18 R515). -/
def Ev.si1Discrepancy : Nat := 0x0811

/-- SI2_DISCREPANCY (18 R515). -/
def Ev.si2Discrepancy : Nat := 0x0812

/-- SI3_DISCREPANCY (18 R515). -/
def Ev.si3Discrepancy : Nat := 0x0813

/-- SI4_DISCREPANCY (18 R515). -/
def Ev.si4Discrepancy : Nat := 0x0814

/-- WIRING_FAULT (18 R515). -/
def Ev.wiringFault : Nat := 0x0815

/-- SAFE_MSG_STALE (18 R515). -/
def Ev.safeMsgStale : Nat := 0x0816

/-- SAFE_MSG_MISMATCH (18 R515). -/
def Ev.safeMsgMismatch : Nat := 0x0817

/-- SAFE_MSG_ORPHAN (18 R515). -/
def Ev.safeMsgOrphan : Nat := 0x0818

/-- SAFE_MASTER_RESTART (18 R515). -/
def Ev.safeMasterRestart : Nat := 0x0819

/-- SEAL_CHANGED (18 R515). -/
def Ev.sealChanged : Nat := 0x081A

/-- SEAL_READ_MISMATCH (18 R515). -/
def Ev.sealReadMismatch : Nat := 0x081B

/-- SAFE_SET_CRC (18 R515). -/
def Ev.safeSetCrc : Nat := 0x081C

/-- SAFE_OC_INCONSISTENT (18 R515). -/
def Ev.safeOcInconsistent : Nat := 0x081D

/-- SET_UNCONFIRMED (18 R515). -/
def Ev.setUnconfirmed : Nat := 0x081E

/-- SWEEP_TOO_LONG (18 R515). -/
def Ev.sweepTooLong : Nat := 0x081F

/-- SS5 (18 R515). -/
def Ev.ss5 : Nat := 0x0820

/-- SS6 (18 R515). -/
def Ev.ss6 : Nat := 0x0821

/-- TRIP_IN_OPEN (18 R515). -/
def Ev.tripInOpen : Nat := 0x0822

/-- PLANT_STOP (18 R515). -/
def Ev.plantStop : Nat := 0x0823

/-- SINGLE_PLANE (18 R515). -/
def Ev.singlePlane : Nat := 0x0824

/-- OUTPUT_OVERCURRENT (18 R515). -/
def Ev.outputOvercurrent : Nat := 0x0900

/-- COIL_OPEN (18 R515). -/
def Ev.coilOpen : Nat := 0x0901

/-- COIL_SUPPLY_LOW (18 R515). -/
def Ev.coilSupplyLow : Nat := 0x0902

/-- K_FAIL_CLOSE (18 R515). -/
def Ev.kFailClose : Nat := 0x0903

/-- K_WELDED (18 R515). -/
def Ev.kWelded : Nat := 0x0904

/-- K_DROPOUT (18 R515). -/
def Ev.kDropout : Nat := 0x0905

/-- OUTPUT_TEST_FAIL (18 R515). -/
def Ev.outputTestFail : Nat := 0x0906

/-- OUTPUT_SWITCH_FAULT (18 R515). -/
def Ev.outputSwitchFault : Nat := 0x0907

/-- PRECHARGE_SLOW (18 R515). -/
def Ev.prechargeSlow : Nat := 0x0908

/-- PRECHARGE_SHORT (18 R515). -/
def Ev.prechargeShort : Nat := 0x0909

/-- PRECHARGE_ENERGY (18 R515). -/
def Ev.prechargeEnergy : Nat := 0x090A

/-- PRE_ATTEMPTS (18 R515). -/
def Ev.preAttempts : Nat := 0x090B

/-- PRE_VSTR_LOW (18 R515). -/
def Ev.preVstrLow : Nat := 0x090C

/-- OPEN_UNDER_LOAD (18 R515). -/
def Ev.openUnderLoad : Nat := 0x090D

/-- K_WEAR (18 R515). -/
def Ev.kWear : Nat := 0x090E

/-- PRE_MODEL_RESET (18 R515). -/
def Ev.preModelReset : Nat := 0x090F

/-- MODULE_HOT (18 R515). -/
def Ev.moduleHot : Nat := 0x0A00

/-- NVM_WRITE_FORBID (18 R515). -/
def Ev.nvmWriteForbid : Nat := 0x0A01

/-- NVM_TEMP (18 R515). -/
def Ev.nvmTemp : Nat := 0x0A02

/-- TS_FAULT (18 R515). -/
def Ev.tsFault : Nat := 0x0A03

/-- THERMAL_SHUTDOWN (18 R515). -/
def Ev.thermalShutdown : Nat := 0x0A04

/-- COOLANT_SENSOR_FAULT (18 R515). -/
def Ev.coolantSensorFault : Nat := 0x0A05

/-- LOOP_FALLBACK (18 R515). -/
def Ev.loopFallback : Nat := 0x0A06

/-- LOOP_WATCHDOG (18 R515). -/
def Ev.loopWatchdog : Nat := 0x0A07

/-- VLV_OPEN (18 R515). -/
def Ev.vlvOpen : Nat := 0x0A08

/-- PAIR_INCOMPATIBLE (18 R515). -/
def Ev.pairIncompatible : Nat := 0x0B00

/-- PAIR_POSITION_CLASH (18 R515). -/
def Ev.pairPositionClash : Nat := 0x0B01

/-- PARTNER_FAILED (18 R515). -/
def Ev.partnerFailed : Nat := 0x0B02

/-- PAIR_DEGRADED (18 R515). -/
def Ev.pairDegraded : Nat := 0x0B03

/-- PARTNER_STOPPED (18 R515). -/
def Ev.partnerStopped : Nat := 0x0B04

/-- PARTNER_LOST (18 R515). -/
def Ev.partnerLost : Nat := 0x0B05

/-- EPOCH_EXHAUSTED (18 R515). -/
def Ev.epochExhausted : Nat := 0x0B06

/-- CLAIM_LINE_FAULT (18 R515). -/
def Ev.claimLineFault : Nat := 0x0B07

/-- PAIR_START_FAULT (18 R515). -/
def Ev.pairStartFault : Nat := 0x0B08

/-- CKPT_STALE (18 R515). -/
def Ev.ckptStale : Nat := 0x0B09

/-- STANDBY_UNFIT (18 R515). -/
def Ev.standbyUnfit : Nat := 0x0B0A

/-- PAIR_PARAM_MISMATCH (18 R515). -/
def Ev.pairParamMismatch : Nat := 0x0B0B

/-- SWAP_FAILED (18 R515). -/
def Ev.swapFailed : Nat := 0x0B0C

/-- TAKEOVER_BLOCKED (18 R515). -/
def Ev.takeoverBlocked : Nat := 0x0B0D

/-- TAKEOVER_DONE (18 R515). -/
def Ev.takeoverDone : Nat := 0x0B0E

/-- TAKEOVER_NO_CKPT (18 R515). -/
def Ev.takeoverNoCkpt : Nat := 0x0B0F

/-- TRIP_NOTICE (18 R515). -/
def Ev.tripNotice : Nat := 0x0B10

/-- FOREIGN_FRAME (18 R515). -/
def Ev.foreignFrame : Nat := 0x0C00

/-- MULTI_NEIGHBOUR (18 R515). -/
def Ev.multiNeighbour : Nat := 0x0C01

/-- BAD_HEADER (18 R515). -/
def Ev.badHeader : Nat := 0x0C02

/-- HOP_EXPIRED (18 R515). -/
def Ev.hopExpired : Nat := 0x0C03

/-- DUPLICATE_ADDRESS (18 R515). -/
def Ev.duplicateAddress : Nat := 0x0C04

/-- TC0_OVER (18 R515). -/
def Ev.tc0Over : Nat := 0x0C05

/-- TC0_DROP (18 R515). -/
def Ev.tc0Drop : Nat := 0x0C06

/-- FLOW_TABLE_FULL (18 R515). -/
def Ev.flowTableFull : Nat := 0x0C07

/-- PLANE_FAILED (18 R515). -/
def Ev.planeFailed : Nat := 0x0C08

/-- ROUTE_CHANGED (18 R515). -/
def Ev.routeChanged : Nat := 0x0C09

/-- ROUTE_ASYMMETRIC (18 R515). -/
def Ev.routeAsymmetric : Nat := 0x0C0A

/-- TIME_UNTRACEABLE (18 R515). -/
def Ev.timeUntraceable : Nat := 0x0E00

/-- PTP_UNSUPPORTED (18 R515). -/
def Ev.ptpUnsupported : Nat := 0x0E01

/-- TIME_JUMP_REFUSED (18 R515). -/
def Ev.timeJumpRefused : Nat := 0x0E02

/-- EDGE_LOST (18 R515). -/
def Ev.edgeLost : Nat := 0x0E03

/-- LATE_TRIGGER (18 R515). -/
def Ev.lateTrigger : Nat := 0x0E04

/-- TIME_STEP (18 R515). -/
def Ev.timeStep : Nat := 0x0E05

/-- DOMAIN_DEGRADED (18 R515). -/
def Ev.domainDegraded : Nat := 0x0E06

/-- TIME_STATE (18 R515). -/
def Ev.timeState : Nat := 0x0E07

/-- TX_FULL (18 R515). -/
def Ev.txFull : Nat := 0x0F00

/-- EXPRESS_BUSY (18 R515). -/
def Ev.expressBusy : Nat := 0x0F01

/-- RX_OVERRUN (18 R515). -/
def Ev.rxOverrun : Nat := 0x0F02

/-- TRIPLE_IGNORED (18 R515). -/
def Ev.tripleIgnored : Nat := 0x0F03

/-- FR_MAP (18 R515). -/
def Ev.frMap : Nat := 0x0F04

/-- BUS_OFF (18 R515). -/
def Ev.busOff : Nat := 0x0F05

/-- BUS_STUCK (18 R515). -/
def Ev.busStuck : Nat := 0x1100

/-- TW_NACK (18 R515). -/
def Ev.twNack : Nat := 0x1101

/-- TW_TIMEOUT (18 R515). -/
def Ev.twTimeout : Nat := 0x1102

/-- TW_LATE (18 R515). -/
def Ev.twLate : Nat := 0x1200

/-- TW_RO_WRITE (18 R515). -/
def Ev.twRoWrite : Nat := 0x1201

/-- BOOT (18 R515). -/
def Ev.boot : Nat := 0x1300

/-- CLEAR (18 R515). -/
def Ev.clear : Nat := 0x1301

/-- POWER_FAIL (18 R515). -/
def Ev.powerFail : Nat := 0x1302

/-- POWER_FAIL_UNFLUSHED (18 R515). -/
def Ev.powerFailUnflushed : Nat := 0x1303

/-- NVM_DROP (18 R515). -/
def Ev.nvmDrop : Nat := 0x1304

/-- REC_WRAP (18 R515). -/
def Ev.recWrap : Nat := 0x1305

/-- REC_SPARE_LOW (18 R515). -/
def Ev.recSpareLow : Nat := 0x1306

/-- CURSOR_OWNED (18 R515). -/
def Ev.cursorOwned : Nat := 0x1307

/-- CLEAR_DISABLED (18 R515). -/
def Ev.clearDisabled : Nat := 0x1308

/-- CURSOR_FREE (18 R515). -/
def Ev.cursorFree : Nat := 0x1309

/-- IMG_OWNED (18 R515). -/
def Ev.imgOwned : Nat := 0x1400

/-- BLOCK_CONFLICT (18 R515). -/
def Ev.blockConflict : Nat := 0x1401

/-- IMG_SIGNATURE (18 R515). -/
def Ev.imgSignature : Nat := 0x1402

/-- IMG_DIGEST (18 R515). -/
def Ev.imgDigest : Nat := 0x1403

/-- IMG_HEADER (18 R515). -/
def Ev.imgHeader : Nat := 0x1404

/-- IMG_VERIFY_FAIL (18 R515). -/
def Ev.imgVerifyFail : Nat := 0x1405

/-- TAP_FW_FAIL (18 R515). -/
def Ev.tapFwFail : Nat := 0x1406

/-- CURRENT (18 R515). -/
def Ev.current : Nat := 0x1407

/-- SUPPLY (18 R515). -/
def Ev.supply : Nat := 0x1408

/-- CONTACTORS (18 R515). -/
def Ev.contactors : Nat := 0x1409

/-- PAIR_ROLE (18 R515). -/
def Ev.pairRole : Nat := 0x140A

/-- OTHER_PLANE (18 R515). -/
def Ev.otherPlane : Nat := 0x140B

/-- ENGINES (18 R515). -/
def Ev.engines : Nat := 0x140C

/-- INSTALL_BUSY (18 R515). -/
def Ev.installBusy : Nat := 0x140D

/-- IMG_INSTALLED (18 R515). -/
def Ev.imgInstalled : Nat := 0x140E

/-- IMG_COMPAT (18 R515). -/
def Ev.imgCompat : Nat := 0x140F


/-- The codes of functions 0x00 to 0x14 with their names, in order (18 R515); planes and CAN ports share indices. -/
def codeTable0 : List (Nat × String) :=
  [(0x0001, "MODE_CHANGE"),
   (0x0002, "COMMAND_DONE"),
   (0x0003, "CROSSING_TIMEOUT"),
   (0x0004, "CROSSING_FLUSH"),
   (0x0005, "CLOCK_FAULT"),
   (0x0006, "WAKE_LATE"),
   (0x0007, "AUX_LOST"),
   (0x0008, "BOOT_FAIL"),
   (0x0009, "BACKUP_LOW"),
   (0x000A, "CISTERN_LOW"),
   (0x000B, "CISTERN_WORN"),
   (0x000C, "MAILBOX_BOUND"),
   (0x000D, "LENGTH"),
   (0x000E, "RESERVED"),
   (0x000F, "MAILBOX_EMPTY"),
   (0x0010, "STAGE_OWNED"),
   (0x0011, "FUNCTION_STOPPED"),
   (0x0012, "FUNCTION_BUSY"),
   (0x0013, "SPIRE_RESTART"),
   (0x0014, "AUTH_CHALLENGE"),
   (0x0015, "AUTH_KEY"),
   (0x0016, "AUTH_MAC"),
   (0x0017, "AUTH_ROLE"),
   (0x0018, "AUTH_LOCKOUT"),
   (0x0019, "KEY_SET"),
   (0x001A, "PARAM_RANGE"),
   (0x001B, "PARAM_RULE"),
   (0x001C, "STOP_NEEDED"),
   (0x001D, "PARAM_COMMIT"),
   (0x001E, "OWNER_LOCK"),
   (0x001F, "ARG_VALUE"),
   (0x0100, "RING_TOO_LONG"),
   (0x0101, "TAP_COUNT_MISMATCH"),
   (0x0102, "TAP_REPLACED"),
   (0x0103, "TAP_SILENT"),
   (0x0104, "TAP_REJECT"),
   (0x0105, "CLK_LOCK_LOST"),
   (0x0106, "RING_BREAK"),
   (0x0107, "UNREACHABLE"),
   (0x0108, "SWEEP_STRETCHED")]

def codeTable1 : List (Nat × String) :=
  [(0x0109, "RING_RESTORED"),
   (0x010A, "FLT_TEST_FAIL"),
   (0x010B, "RING_MARGIN"),
   (0x010C, "THRESH_CLAMPED"),
   (0x010D, "LEAD_HIGH"),
   (0x010E, "DELAY_UNSET"),
   (0x0200, "BAL_REFUSED"),
   (0x0201, "BAL_FORCED"),
   (0x0202, "BAL_RELEASED"),
   (0x0300, "CTX_LOST"),
   (0x0301, "CHEM_MISMATCH"),
   (0x0302, "DIVERGED"),
   (0x0303, "CAP_CLAMPED"),
   (0x0304, "SOC_REINIT"),
   (0x0305, "LIM_FALLBACK"),
   (0x0400, "MODE"),
   (0x0401, "CONVERTER"),
   (0x0402, "SHEDDING"),
   (0x0403, "SHUNT"),
   (0x0404, "SWEEP"),
   (0x0405, "RING"),
   (0x0406, "CEILING"),
   (0x0407, "GATES"),
   (0x0408, "STOPPED"),
   (0x0409, "TAKEOVER"),
   (0x040A, "IMP_OVERRUN"),
   (0x040B, "IMP_SPECTRUM_BLOCKED"),
   (0x0500, "CTRL_CAPACITY"),
   (0x0501, "MISSED"),
   (0x0502, "SHADOW_ABSENT"),
   (0x0503, "CTRL_DEADLINE"),
   (0x0504, "SHADOW_MISMATCH"),
   (0x0505, "CTRL_MISMATCH_UNRESOLVED"),
   (0x0506, "FOLLOWING_ERROR"),
   (0x0507, "SHUNT_FAIL"),
   (0x0508, "HALL_FAIL"),
   (0x0509, "CURRENT_FEEDBACK_LOST"),
   (0x050A, "ENGINE_REMOVED"),
   (0x050B, "ROTATION"),
   (0x0600, "SLEW_MARGIN_LOW")]

def codeTable2 : List (Nat × String) :=
  [(0x0601, "VOLTAGE_RATIO"),
   (0x0602, "INTERLEAVE_LIMIT"),
   (0x0603, "CBC_SUSTAINED"),
   (0x0604, "SOFT_START_FAIL"),
   (0x0605, "CONVERTER_SHORT"),
   (0x0606, "LANE_DOWN"),
   (0x0607, "GATE_DRIVER_FAULT"),
   (0x0700, "LATE_APPLIED"),
   (0x0701, "DISPATCH_WATCHDOG"),
   (0x0702, "DISPATCH_RESET"),
   (0x0703, "POWER_NO_VOLTAGE"),
   (0x0704, "CHG_BLOCKED"),
   (0x0705, "DIS_BLOCKED"),
   (0x0800, "SAFE_RESET"),
   (0x0801, "SF1"),
   (0x0802, "SF2"),
   (0x0803, "SF3"),
   (0x0804, "SF4"),
   (0x0805, "SF5"),
   (0x0806, "SF6"),
   (0x0807, "SF7"),
   (0x0808, "SF8"),
   (0x0809, "SF9"),
   (0x080A, "SP_SILENT"),
   (0x080B, "DOME_FAULT"),
   (0x080C, "FLT_LOOP"),
   (0x080D, "FLT_SHORT"),
   (0x080E, "THRESH_MISMATCH"),
   (0x080F, "SAFE_LINK_LOST"),
   (0x0810, "SF6_BLOCK"),
   (0x0811, "SI1_DISCREPANCY"),
   (0x0812, "SI2_DISCREPANCY"),
   (0x0813, "SI3_DISCREPANCY"),
   (0x0814, "SI4_DISCREPANCY"),
   (0x0815, "WIRING_FAULT"),
   (0x0816, "SAFE_MSG_STALE"),
   (0x0817, "SAFE_MSG_MISMATCH"),
   (0x0818, "SAFE_MSG_ORPHAN"),
   (0x0819, "SAFE_MASTER_RESTART"),
   (0x081A, "SEAL_CHANGED")]

def codeTable3 : List (Nat × String) :=
  [(0x081B, "SEAL_READ_MISMATCH"),
   (0x081C, "SAFE_SET_CRC"),
   (0x081D, "SAFE_OC_INCONSISTENT"),
   (0x081E, "SET_UNCONFIRMED"),
   (0x081F, "SWEEP_TOO_LONG"),
   (0x0820, "SS5"),
   (0x0821, "SS6"),
   (0x0822, "TRIP_IN_OPEN"),
   (0x0823, "PLANT_STOP"),
   (0x0824, "SINGLE_PLANE"),
   (0x0900, "OUTPUT_OVERCURRENT"),
   (0x0901, "COIL_OPEN"),
   (0x0902, "COIL_SUPPLY_LOW"),
   (0x0903, "K_FAIL_CLOSE"),
   (0x0904, "K_WELDED"),
   (0x0905, "K_DROPOUT"),
   (0x0906, "OUTPUT_TEST_FAIL"),
   (0x0907, "OUTPUT_SWITCH_FAULT"),
   (0x0908, "PRECHARGE_SLOW"),
   (0x0909, "PRECHARGE_SHORT"),
   (0x090A, "PRECHARGE_ENERGY"),
   (0x090B, "PRE_ATTEMPTS"),
   (0x090C, "PRE_VSTR_LOW"),
   (0x090D, "OPEN_UNDER_LOAD"),
   (0x090E, "K_WEAR"),
   (0x090F, "PRE_MODEL_RESET"),
   (0x0A00, "MODULE_HOT"),
   (0x0A01, "NVM_WRITE_FORBID"),
   (0x0A02, "NVM_TEMP"),
   (0x0A03, "TS_FAULT"),
   (0x0A04, "THERMAL_SHUTDOWN"),
   (0x0A05, "COOLANT_SENSOR_FAULT"),
   (0x0A06, "LOOP_FALLBACK"),
   (0x0A07, "LOOP_WATCHDOG"),
   (0x0A08, "VLV_OPEN"),
   (0x0B00, "PAIR_INCOMPATIBLE"),
   (0x0B01, "PAIR_POSITION_CLASH"),
   (0x0B02, "PARTNER_FAILED"),
   (0x0B03, "PAIR_DEGRADED"),
   (0x0B04, "PARTNER_STOPPED")]

def codeTable4 : List (Nat × String) :=
  [(0x0B05, "PARTNER_LOST"),
   (0x0B06, "EPOCH_EXHAUSTED"),
   (0x0B07, "CLAIM_LINE_FAULT"),
   (0x0B08, "PAIR_START_FAULT"),
   (0x0B09, "CKPT_STALE"),
   (0x0B0A, "STANDBY_UNFIT"),
   (0x0B0B, "PAIR_PARAM_MISMATCH"),
   (0x0B0C, "SWAP_FAILED"),
   (0x0B0D, "TAKEOVER_BLOCKED"),
   (0x0B0E, "TAKEOVER_DONE"),
   (0x0B0F, "TAKEOVER_NO_CKPT"),
   (0x0B10, "TRIP_NOTICE"),
   (0x0C00, "FOREIGN_FRAME"),
   (0x0C01, "MULTI_NEIGHBOUR"),
   (0x0C02, "BAD_HEADER"),
   (0x0C03, "HOP_EXPIRED"),
   (0x0C04, "DUPLICATE_ADDRESS"),
   (0x0C05, "TC0_OVER"),
   (0x0C06, "TC0_DROP"),
   (0x0C07, "FLOW_TABLE_FULL"),
   (0x0C08, "PLANE_FAILED"),
   (0x0C09, "ROUTE_CHANGED"),
   (0x0C0A, "ROUTE_ASYMMETRIC"),
   (0x0D00, "FOREIGN_FRAME"),
   (0x0D01, "MULTI_NEIGHBOUR"),
   (0x0D02, "BAD_HEADER"),
   (0x0D03, "HOP_EXPIRED"),
   (0x0D04, "DUPLICATE_ADDRESS"),
   (0x0D05, "TC0_OVER"),
   (0x0D06, "TC0_DROP"),
   (0x0D07, "FLOW_TABLE_FULL"),
   (0x0D08, "PLANE_FAILED"),
   (0x0D09, "ROUTE_CHANGED"),
   (0x0D0A, "ROUTE_ASYMMETRIC"),
   (0x0E00, "TIME_UNTRACEABLE"),
   (0x0E01, "PTP_UNSUPPORTED"),
   (0x0E02, "TIME_JUMP_REFUSED"),
   (0x0E03, "EDGE_LOST"),
   (0x0E04, "LATE_TRIGGER"),
   (0x0E05, "TIME_STEP")]

def codeTable5 : List (Nat × String) :=
  [(0x0E06, "DOMAIN_DEGRADED"),
   (0x0E07, "TIME_STATE"),
   (0x0F00, "TX_FULL"),
   (0x0F01, "EXPRESS_BUSY"),
   (0x0F02, "RX_OVERRUN"),
   (0x0F03, "TRIPLE_IGNORED"),
   (0x0F04, "FR_MAP"),
   (0x0F05, "BUS_OFF"),
   (0x1000, "TX_FULL"),
   (0x1001, "EXPRESS_BUSY"),
   (0x1002, "RX_OVERRUN"),
   (0x1003, "TRIPLE_IGNORED"),
   (0x1004, "FR_MAP"),
   (0x1005, "BUS_OFF"),
   (0x1100, "BUS_STUCK"),
   (0x1101, "TW_NACK"),
   (0x1102, "TW_TIMEOUT"),
   (0x1200, "TW_LATE"),
   (0x1201, "TW_RO_WRITE"),
   (0x1300, "BOOT"),
   (0x1301, "CLEAR"),
   (0x1302, "POWER_FAIL"),
   (0x1303, "POWER_FAIL_UNFLUSHED"),
   (0x1304, "NVM_DROP"),
   (0x1305, "REC_WRAP"),
   (0x1306, "REC_SPARE_LOW"),
   (0x1307, "CURSOR_OWNED"),
   (0x1308, "CLEAR_DISABLED"),
   (0x1309, "CURSOR_FREE"),
   (0x1400, "IMG_OWNED"),
   (0x1401, "BLOCK_CONFLICT"),
   (0x1402, "IMG_SIGNATURE"),
   (0x1403, "IMG_DIGEST"),
   (0x1404, "IMG_HEADER"),
   (0x1405, "IMG_VERIFY_FAIL"),
   (0x1406, "TAP_FW_FAIL"),
   (0x1407, "CURRENT"),
   (0x1408, "SUPPLY"),
   (0x1409, "CONTACTORS"),
   (0x140A, "PAIR_ROLE")]

def codeTable6 : List (Nat × String) :=
  [(0x140B, "OTHER_PLANE"),
   (0x140C, "ENGINES"),
   (0x140D, "INSTALL_BUSY"),
   (0x140E, "IMG_INSTALLED"),
   (0x140F, "IMG_COMPAT")]

/-- The whole code table (18 R515). -/
def codeTable : List (Nat × String) :=
  codeTable0 ++ codeTable1 ++ codeTable2 ++ codeTable3 ++ codeTable4 ++ codeTable5 ++ codeTable6

end Sys2Proof.Machine
end

