-- ==== Sys2Proof/Machine/Params.lean ====
section
/-!
DEFINITION. Machine/Params.lean: the parameter tables of the chapters (13 R387 to R393) as one list of rows, with the
range check of each row and the value in force.
-/

namespace Sys2Proof.Machine

/-- How a value beyond its interval is judged (the Range column of the parameter tables). -/
inductive ParamRule where
  /-- Every value of the interval. -/
  | plain
  /-- The value divides this number exactly. -/
  | divides (n : Nat)
  /-- Zero, or at least this number. -/
  | zeroOr (lo : Int)
  /-- A gain of 06 R170: bits 31:20 zero, mantissa at most 32,767. -/
  | gain
  /-- Four tone indices, each 0 to 23 or 0xFF (05 R137). -/
  | tones
  /-- ACK_CONFIG: bits 14:9 zero (09 R296). -/
  | ackConfig
  /-- 0x0000, or a configured fabric address of 15 R438. -/
  | address
  /-- First octet 1 to 223, not 127 (13 R401). -/
  | ip
  /-- A contiguous mask from /8 to /30 (13 R401). -/
  | netmask
  /-- 0.0.0.0, or as `ip` (13 R401). -/
  | gateway
  deriving DecidableEq, Repr

/-- One row of a parameter table. -/
structure ParamRow where
  /-- Parameter ID (13 R387). -/
  id : Nat
  /-- Least value. -/
  lo : Int
  /-- Greatest value. -/
  hi : Int
  /-- Default. -/
  dflt : Int
  /-- Stop needed. -/
  stop : Bool
  /-- The four bytes are read as a signed number. -/
  signed : Bool
  /-- Judgement beyond the interval. -/
  rule : ParamRule
  deriving DecidableEq, Repr

/-- DORMANT_SWEEP. -/
def Prm.dormantSweep : Nat := 0x0020

/-- DORMANT_AUTO. -/
def Prm.dormantAuto : Nat := 0x0021

/-- DORMANT_QUIET. -/
def Prm.dormantQuiet : Nat := 0x0022

/-- DORMANT_BAL_WAKE. -/
def Prm.dormantBalWake : Nat := 0x0023

/-- WAKE_CAN_ID. -/
def Prm.wakeCanId : Nat := 0x0024

/-- MBX_FIXED_0. -/
def Prm.mbxFixed0 : Nat := 0x0030

/-- MBX_FIXED_1. -/
def Prm.mbxFixed1 : Nat := 0x0031

/-- MBX_FIXED_2. -/
def Prm.mbxFixed2 : Nat := 0x0032

/-- MBX_FIXED_3. -/
def Prm.mbxFixed3 : Nat := 0x0033

/-- MBX_FIXED_4. -/
def Prm.mbxFixed4 : Nat := 0x0034

/-- MBX_FIXED_5. -/
def Prm.mbxFixed5 : Nat := 0x0035

/-- MBX_IDLE_RELEASE. -/
def Prm.mbxIdleRelease : Nat := 0x0036

/-- SVC_UDP_PORT. -/
def Prm.svcUdpPort : Nat := 0x0037

/-- SVC_IP. -/
def Prm.svcIp : Nat := 0x0038

/-- SVC_NETMASK. -/
def Prm.svcNetmask : Nat := 0x0039

/-- SVC_GATEWAY. -/
def Prm.svcGateway : Nat := 0x003A

/-- NODE_ADDR. -/
def Prm.nodeAddr : Nat := 0x0040

/-- STRING_ADDR. -/
def Prm.stringAddr : Nat := 0x0041

/-- FABRIC_ETHERTYPE. -/
def Prm.fabricEthertype : Nat := 0x0042

/-- FABRIC_PREF. -/
def Prm.fabricPref : Nat := 0x0043

/-- SWEEP_PERIOD. -/
def Prm.sweepPeriod : Nat := 0x0100

/-- TAPS_A. -/
def Prm.tapsA : Nat := 0x0101

/-- TAPS_B. -/
def Prm.tapsB : Nat := 0x0102

/-- RETURN_TIMEOUT_EXTRA. -/
def Prm.returnTimeoutExtra : Nat := 0x0103

/-- OV_THRESHOLD. -/
def Prm.ovThreshold : Nat := 0x0104

/-- UV_THRESHOLD. -/
def Prm.uvThreshold : Nat := 0x0105

/-- SPLIT_RESTORE_CLEAN. -/
def Prm.splitRestoreClean : Nat := 0x0106

/-- SPLIT_LIMIT. -/
def Prm.splitLimit : Nat := 0x0107

/-- FLT_TEST_INTERVAL. -/
def Prm.fltTestInterval : Nat := 0x0108

/-- DELAY_REMEASURE. -/
def Prm.delayRemeasure : Nat := 0x0109

/-- CRC_WARN. -/
def Prm.crcWarn : Nat := 0x010A

/-- BAL_ENABLE. -/
def Prm.balEnable : Nat := 0x0200

/-- BAL_MODE_SEL. -/
def Prm.balModeSel : Nat := 0x0201

/-- BAL_DEADBAND. -/
def Prm.balDeadband : Nat := 0x0202

/-- BAL_LEASE_TIME. -/
def Prm.balLeaseTime : Nat := 0x0203

/-- BAL_RENEW. -/
def Prm.balRenew : Nat := 0x0204

/-- BAL_MAX_PER_TAP. -/
def Prm.balMaxPerTap : Nat := 0x0205

/-- BAL_MIN_CELL_V. -/
def Prm.balMinCellV : Nat := 0x0206

/-- BAL_MAX_CELL_V. -/
def Prm.balMaxCellV : Nat := 0x0207

/-- BLOCK_DRAIN_SHARE. -/
def Prm.blockDrainShare : Nat := 0x0208

/-- BAL_REST_ONLY. -/
def Prm.balRestOnly : Nat := 0x0209

/-- CHEM_ACTIVE. -/
def Prm.chemActive : Nat := 0x0300

/-- EST_PERIOD_MIN. -/
def Prm.estPeriodMin : Nat := 0x0301

/-- V_SIGMA. -/
def Prm.vSigma : Nat := 0x0302

/-- V_SIGMA_COMP. -/
def Prm.vSigmaComp : Nat := 0x0303

/-- SOC_DRIFT. -/
def Prm.socDrift : Nat := 0x0304

/-- GATE_SIGMA. -/
def Prm.gateSigma : Nat := 0x0305

/-- GATE_COUNT. -/
def Prm.gateCount : Nat := 0x0306

/-- LIMIT_SOC_SIGMAS. -/
def Prm.limitSocSigmas : Nat := 0x0307

/-- SENSOR_T_MARGIN. -/
def Prm.sensorTMargin : Nat := 0x0308

/-- T_INT_HOLD. -/
def Prm.tIntHold : Nat := 0x0309

/-- CAP_MIN_SPAN. -/
def Prm.capMinSpan : Nat := 0x030A

/-- CAP_ANCHOR_SIGMA. -/
def Prm.capAnchorSigma : Nat := 0x030B

/-- REST_FOR_OCV. -/
def Prm.restForOcv : Nat := 0x030C

/-- REST_CURRENT. -/
def Prm.restCurrent : Nat := 0x030D

/-- CTX_SAVE. -/
def Prm.ctxSave : Nat := 0x030E

/-- IMP_ENABLE. -/
def Prm.impEnable : Nat := 0x0400

/-- IMP_AMPL. -/
def Prm.impAmpl : Nat := 0x0401

/-- IMP_TEMP_INTERVAL. -/
def Prm.impTempInterval : Nat := 0x0402

/-- IMP_SPECTRUM_SET. -/
def Prm.impSpectrumSet : Nat := 0x0403

/-- IMP_SPECTRUM_INTERVAL. -/
def Prm.impSpectrumInterval : Nat := 0x0404

/-- IMP_DRIFT_LIM. -/
def Prm.impDriftLim : Nat := 0x0405

/-- IMP_T_PLAUS. -/
def Prm.impTPlaus : Nat := 0x0406

/-- IMP_LEAD_PERIODS. -/
def Prm.impLeadPeriods : Nat := 0x0407

/-- I_RATED. -/
def Prm.iRated : Nat := 0x0500

/-- FE_LIMIT. -/
def Prm.feLimit : Nat := 0x0501

/-- FE_TIME. -/
def Prm.feTime : Nat := 0x0502

/-- CELL_V_CHG_MAX. -/
def Prm.cellVChgMax : Nat := 0x0503

/-- CELL_V_DIS_MIN. -/
def Prm.cellVDisMin : Nat := 0x0504

/-- CELLV_KP. -/
def Prm.cellvKp : Nat := 0x0505

/-- CELLV_KI. -/
def Prm.cellvKi : Nat := 0x0506

/-- IDC_KP. -/
def Prm.idcKp : Nat := 0x0507

/-- IDC_KI. -/
def Prm.idcKi : Nat := 0x0508

/-- VLINK_KP. -/
def Prm.vlinkKp : Nat := 0x0509

/-- VLINK_KI. -/
def Prm.vlinkKi : Nat := 0x050A

/-- VLINK_MIN. -/
def Prm.vlinkMin : Nat := 0x050B

/-- VLINK_MAX. -/
def Prm.vlinkMax : Nat := 0x050C

/-- DERATE_BAND. -/
def Prm.derateBand : Nat := 0x050D

/-- PS_OVERLOAD. -/
def Prm.psOverload : Nat := 0x050E

/-- PS_TAU. -/
def Prm.psTau : Nat := 0x050F

/-- PHASE_MASK. -/
def Prm.phaseMask : Nat := 0x0600

/-- HB_SIDE. -/
def Prm.hbSide : Nat := 0x0601

/-- F_SW. -/
def Prm.fSw : Nat := 0x0602

/-- DEAD_TIME. -/
def Prm.deadTime : Nat := 0x0603

/-- L_PHASE. -/
def Prm.lPhase : Nat := 0x0604

/-- LINK_CAP. -/
def Prm.linkCap : Nat := 0x0605

/-- PHASE_I_MAX. -/
def Prm.phaseIMax : Nat := 0x0606

/-- SHED_ADD. -/
def Prm.shedAdd : Nat := 0x0607

/-- SHED_DROP. -/
def Prm.shedDrop : Nat := 0x0608

/-- BURST_ENABLE. -/
def Prm.burstEnable : Nat := 0x0609

/-- SS_TIME. -/
def Prm.ssTime : Nat := 0x060A

/-- DT_STEP. -/
def Prm.dtStep : Nat := 0x060B

/-- LANE_RET_DELAY. -/
def Prm.laneRetDelay : Nat := 0x060C

/-- SP_RAMP. -/
def Prm.spRamp : Nat := 0x0700

/-- VLINK_SLEW. -/
def Prm.vlinkSlew : Nat := 0x0701

/-- SP_LEAD_MIN. -/
def Prm.spLeadMin : Nat := 0x0702

/-- SP_LATE_GRACE. -/
def Prm.spLateGrace : Nat := 0x0703

/-- SP_HORIZON. -/
def Prm.spHorizon : Nat := 0x0704

/-- SP_WATCHDOG. -/
def Prm.spWatchdog : Nat := 0x0705

/-- SP_FALLBACK. -/
def Prm.spFallback : Nat := 0x0706

/-- SP_SOURCES. -/
def Prm.spSources : Nat := 0x0707

/-- HOLD_ACTION. -/
def Prm.holdAction : Nat := 0x0708

/-- VSTR_MIN_CONV. -/
def Prm.vstrMinConv : Nat := 0x0709

/-- SAFE_EDIT_SET. -/
def Prm.safeEditSet : Nat := 0x0800

/-- SAFE_CELL_OV. -/
def Prm.safeCellOv : Nat := 0x0801

/-- SAFE_CELL_UV. -/
def Prm.safeCellUv : Nat := 0x0802

/-- SAFE_OC_FAST. -/
def Prm.safeOcFast : Nat := 0x0803

/-- SAFE_OC_SLOW. -/
def Prm.safeOcSlow : Nat := 0x0804

/-- SAFE_OC_TIME. -/
def Prm.safeOcTime : Nat := 0x0805

/-- SAFE_CELL_T_MAX. -/
def Prm.safeCellTMax : Nat := 0x0806

/-- SAFE_T_ABSENT_TIME. -/
def Prm.safeTAbsentTime : Nat := 0x0807

/-- SI_CONFIG. -/
def Prm.siConfig : Nat := 0x0808

/-- SI_DISC_TIME. -/
def Prm.siDiscTime : Nat := 0x0809

/-- SF8_DELAY. -/
def Prm.sf8Delay : Nat := 0x080A

/-- SAFE_MSG_WATCHDOG. -/
def Prm.safeMsgWatchdog : Nat := 0x080B

/-- SAFE_MSG_AGE. -/
def Prm.safeMsgAge : Nat := 0x080C

/-- SAFE_MASTERS. -/
def Prm.safeMasters : Nat := 0x080D

/-- ACK_CONFIG. -/
def Prm.ackConfig : Nat := 0x080E

/-- TRIP_OUT_MASK. -/
def Prm.tripOutMask : Nat := 0x080F

/-- PRE_RES. -/
def Prm.preRes : Nat := 0x0900

/-- PRE_CAP. -/
def Prm.preCap : Nat := 0x0901

/-- PRE_E_MAX. -/
def Prm.preEMax : Nat := 0x0902

/-- PRE_TAU_RES. -/
def Prm.preTauRes : Nat := 0x0903

/-- PRE_RETRY_WAIT. -/
def Prm.preRetryWait : Nat := 0x0904

/-- PRE_VSTR_MIN. -/
def Prm.preVstrMin : Nat := 0x0905

/-- K3_OVERLAP. -/
def Prm.k3Overlap : Nat := 0x0906

/-- K4_ORDER. -/
def Prm.k4Order : Nat := 0x0907

/-- KF_POLARITY. -/
def Prm.kfPolarity : Nat := 0x0908

/-- KF_CLOSE_TIME. -/
def Prm.kfCloseTime : Nat := 0x0909

/-- KF_OPEN_TIME. -/
def Prm.kfOpenTime : Nat := 0x090A

/-- K_PULLIN. -/
def Prm.kPullin : Nat := 0x090B

/-- K_HOLD_DUTY. -/
def Prm.kHoldDuty : Nat := 0x090C

/-- K_ORDER_GAP. -/
def Prm.kOrderGap : Nat := 0x090D

/-- K_LIFE_WARN. -/
def Prm.kLifeWarn : Nat := 0x090E

/-- TEMP_WARN. -/
def Prm.tempWarn : Nat := 0x0A00

/-- CHG_T_MIN. -/
def Prm.chgTMin : Nat := 0x0A01

/-- CHG_T_MAX. -/
def Prm.chgTMax : Nat := 0x0A02

/-- DIS_T_MIN. -/
def Prm.disTMin : Nat := 0x0A03

/-- DIS_T_MAX. -/
def Prm.disTMax : Nat := 0x0A04

/-- COOL_TARGET. -/
def Prm.coolTarget : Nat := 0x0A05

/-- HEAT_ON. -/
def Prm.heatOn : Nat := 0x0A06

/-- HEAT_HYST. -/
def Prm.heatHyst : Nat := 0x0A07

/-- HEAT_SUPPLY_MAX. -/
def Prm.heatSupplyMax : Nat := 0x0A08

/-- LOOP_KP. -/
def Prm.loopKp : Nat := 0x0A09

/-- LOOP_KI. -/
def Prm.loopKi : Nat := 0x0A0A

/-- PMP_MIN. -/
def Prm.pmpMin : Nat := 0x0A0B

/-- PMP_FORMAT. -/
def Prm.pmpFormat : Nat := 0x0A0C

/-- VLV_FALLBACK. -/
def Prm.vlvFallback : Nat := 0x0A0D

/-- HTR_MIN_CYCLE. -/
def Prm.htrMinCycle : Nat := 0x0A0E

/-- THERM_AUTO_RECONNECT. -/
def Prm.thermAutoReconnect : Nat := 0x0A0F

/-- PAIR_POSITION. -/
def Prm.pairPosition : Nat := 0x0B00

/-- PARTNER_ADDR. -/
def Prm.partnerAddr : Nat := 0x0B01

/-- PAIR_PREFERRED. -/
def Prm.pairPreferred : Nat := 0x0B02

/-- CKPT_STALE_AGE. -/
def Prm.ckptStaleAge : Nat := 0x0B03

/-- HEALTH_DEST. -/
def Prm.healthDest : Nat := 0x0B04

/-- SWAP_RAMP. -/
def Prm.swapRamp : Nat := 0x0B05

/-- PORT_ENABLE. -/
def Prm.portEnable : Nat := 0x0C00

/-- HELLO_DEAD. -/
def Prm.helloDead : Nat := 0x0C01

/-- DOMAIN_A_NUM. -/
def Prm.domainANum : Nat := 0x0E00

/-- DOMAIN_B_NUM. -/
def Prm.domainBNum : Nat := 0x0E01

/-- TIME_PREF. -/
def Prm.timePref : Nat := 0x0E02

/-- TIME_JUMP_LIM. -/
def Prm.timeJumpLim : Nat := 0x0E03

/-- TIME_SLEW_MAX. -/
def Prm.timeSlewMax : Nat := 0x0E04

/-- TIME_GM_ENABLE. -/
def Prm.timeGmEnable : Nat := 0x0E05

/-- PTP_PRIORITY1. -/
def Prm.ptpPriority1 : Nat := 0x0E06

/-- PTP_PRIORITY2. -/
def Prm.ptpPriority2 : Nat := 0x0E07

/-- PPS_MODE. -/
def Prm.ppsMode : Nat := 0x0E08

/-- PPS_A_DELAY. -/
def Prm.ppsADelay : Nat := 0x0E09

/-- PPS_B_DELAY. -/
def Prm.ppsBDelay : Nat := 0x0E0A

/-- PPS_OUT_GATE. -/
def Prm.ppsOutGate : Nat := 0x0E0B

/-- TIME_TRACE_LIM. -/
def Prm.timeTraceLim : Nat := 0x0E0C

/-- CAN_NBR. -/
def Prm.canNbr : Nat := 0x0F00

/-- CAN_NSP. -/
def Prm.canNsp : Nat := 0x0F01

/-- CAN_SJW. -/
def Prm.canSjw : Nat := 0x0F02

/-- CAN_FD. -/
def Prm.canFd : Nat := 0x0F03

/-- CAN_DBR. -/
def Prm.canDbr : Nat := 0x0F04

/-- CAN_DSP. -/
def Prm.canDsp : Nat := 0x0F05

/-- CAN_TRIPLE. -/
def Prm.canTriple : Nat := 0x0F06

/-- CAN_AUTO_RECOVER. -/
def Prm.canAutoRecover : Nat := 0x0F07

/-- CAN_FILT_ID_0. -/
def Prm.canFiltId0 : Nat := 0x0F08

/-- CAN_FILT_ID_1. -/
def Prm.canFiltId1 : Nat := 0x0F09

/-- CAN_FILT_ID_2. -/
def Prm.canFiltId2 : Nat := 0x0F0A

/-- CAN_FILT_ID_3. -/
def Prm.canFiltId3 : Nat := 0x0F0B

/-- CAN_FILT_MASK_0. -/
def Prm.canFiltMask0 : Nat := 0x0F0C

/-- CAN_FILT_MASK_1. -/
def Prm.canFiltMask1 : Nat := 0x0F0D

/-- CAN_FILT_MASK_2. -/
def Prm.canFiltMask2 : Nat := 0x0F0E

/-- CAN_FILT_MASK_3. -/
def Prm.canFiltMask3 : Nat := 0x0F0F

/-- FR_BASE_ID. -/
def Prm.frBaseId : Nat := 0x0F20

/-- FR_CMD_ENABLE. -/
def Prm.frCmdEnable : Nat := 0x0F21

/-- TW_ACC_SPEED. -/
def Prm.twAccSpeed : Nat := 0x1100

/-- TW_ACC_STRETCH_MAX. -/
def Prm.twAccStretchMax : Nat := 0x1101

/-- TW_SVC_ADDR. -/
def Prm.twSvcAddr : Nat := 0x1200

/-- TW_ATTN_ADDR. -/
def Prm.twAttnAddr : Nat := 0x1201

/-- TW_ATTN_RETRY. -/
def Prm.twAttnRetry : Nat := 0x1202

/-- TW_ATTN_SPEED. -/
def Prm.twAttnSpeed : Nat := 0x1203

/-- REC_FLUSH_PERIOD. -/
def Prm.recFlushPeriod : Nat := 0x1300

/-- REC_MIN_SEVERITY. -/
def Prm.recMinSeverity : Nat := 0x1301

/-- REC_READ_ROLE. -/
def Prm.recReadRole : Nat := 0x1302

/-- REC_CLEAR_MODE. -/
def Prm.recClearMode : Nat := 0x1303

/-- Parameters of function 0x00 (12_modes_and_wake). -/
def paramTable00 : List ParamRow :=
  [⟨0x0020, 1, 3600, 60, false, false, .divides 3600⟩,
   ⟨0x0021, 0, 1, 0, false, false, .plain⟩,
   ⟨0x0022, 10, 86400, 600, false, false, .plain⟩,
   ⟨0x0023, 0, 1, 1, false, false, .plain⟩,
   ⟨0x0024, 0, 2047, 2032, false, false, .plain⟩,
   ⟨0x0030, 0, 65534, 0, false, false, .plain⟩,
   ⟨0x0031, 0, 65534, 0, false, false, .plain⟩,
   ⟨0x0032, 0, 65534, 0, false, false, .plain⟩,
   ⟨0x0033, 0, 65534, 0, false, false, .plain⟩,
   ⟨0x0034, 0, 65534, 0, false, false, .plain⟩,
   ⟨0x0035, 0, 65534, 0, false, false, .plain⟩,
   ⟨0x0036, 10, 86400, 600, false, false, .plain⟩,
   ⟨0x0037, 1024, 65535, 48410, false, false, .plain⟩,
   ⟨0x0038, 0, 4294967295, 172861632, false, false, .ip⟩,
   ⟨0x0039, 0, 4294967295, 16777215, false, false, .netmask⟩,
   ⟨0x003A, 0, 4294967295, 0, false, false, .gateway⟩,
   ⟨0x0040, 0, 65535, 0, false, false, .address⟩,
   ⟨0x0041, 0, 65535, 0, false, false, .address⟩,
   ⟨0x0042, 1536, 65535, 34997, false, false, .plain⟩,
   ⟨0x0043, 0, 1, 0, false, false, .plain⟩]

/-- Parameters of function 0x01 (02_cell_ring). -/
def paramTable01 : List ParamRow :=
  [⟨0x0100, 500, 1000000, 1000, false, false, .divides 1000000⟩,
   ⟨0x0101, 0, 16, 0, true, false, .plain⟩,
   ⟨0x0102, 0, 16, 0, true, false, .plain⟩,
   ⟨0x0103, 5, 100, 20, false, false, .plain⟩,
   ⟨0x0104, 0, 65534, 0, false, false, .plain⟩,
   ⟨0x0105, 0, 65534, 0, false, false, .plain⟩,
   ⟨0x0106, 1, 600, 10, false, false, .plain⟩,
   ⟨0x0107, 1, 10, 3, false, false, .plain⟩,
   ⟨0x0108, 10, 3600, 60, false, false, .plain⟩,
   ⟨0x0109, 1, 10, 10, false, false, .plain⟩,
   ⟨0x010A, 1, 100, 10, false, false, .plain⟩]

/-- Parameters of function 0x02 (03_balancing). -/
def paramTable02 : List ParamRow :=
  [⟨0x0200, 0, 1, 1, false, false, .plain⟩,
   ⟨0x0201, 0, 1, 0, true, false, .plain⟩,
   ⟨0x0202, 33, 3277, 164, false, false, .plain⟩,
   ⟨0x0203, 50, 500, 300, false, false, .plain⟩,
   ⟨0x0204, 20, 250, 100, false, false, .plain⟩,
   ⟨0x0205, 1, 2, 2, false, false, .plain⟩,
   ⟨0x0206, 0, 50000, 28000, false, false, .plain⟩,
   ⟨0x0207, 0, 50000, 36000, false, false, .plain⟩,
   ⟨0x0208, 0, 32767, 16384, false, false, .plain⟩,
   ⟨0x0209, 0, 1, 0, false, false, .plain⟩]

/-- Parameters of function 0x03 (04_estimation). -/
def paramTable03 : List ParamRow :=
  [⟨0x0300, 0, 3, 0, true, false, .plain⟩,
   ⟨0x0301, 10, 40, 10, false, false, .plain⟩,
   ⟨0x0302, 20, 1000, 80, false, false, .plain⟩,
   ⟨0x0303, 20, 2000, 350, false, false, .plain⟩,
   ⟨0x0304, 0, 3277, 33, false, false, .plain⟩,
   ⟨0x0305, 3, 10, 6, false, false, .plain⟩,
   ⟨0x0306, 3, 100, 10, false, false, .plain⟩,
   ⟨0x0307, 0, 4, 2, false, false, .plain⟩,
   ⟨0x0308, 0, 2000, 500, false, false, .plain⟩,
   ⟨0x0309, 1, 600, 60, false, false, .plain⟩,
   ⟨0x030A, 3277, 26214, 6554, false, false, .plain⟩,
   ⟨0x030B, 33, 655, 328, false, false, .plain⟩,
   ⟨0x030C, 60, 86400, 1800, false, false, .plain⟩,
   ⟨0x030D, 0, 320, 32, false, true, .plain⟩,
   ⟨0x030E, 10, 3600, 60, false, false, .plain⟩]

/-- Parameters of function 0x04 (05_impedance). -/
def paramTable04 : List ParamRow :=
  [⟨0x0400, 0, 1, 1, false, false, .plain⟩,
   ⟨0x0401, 164, 1638, 655, false, false, .plain⟩,
   ⟨0x0402, 1, 60, 2, false, false, .plain⟩,
   ⟨0x0403, 0, 4294967295, 4278978307, true, false, .tones⟩,
   ⟨0x0404, 60, 86400, 600, false, false, .plain⟩,
   ⟨0x0405, 328, 6554, 1638, false, false, .plain⟩,
   ⟨0x0406, 100, 2000, 800, false, false, .plain⟩,
   ⟨0x0407, 1, 10, 2, false, false, .plain⟩]

/-- Parameters of function 0x05 (06_control_engines). -/
def paramTable05 : List ParamRow :=
  [⟨0x0500, 1024, 32000, 5120, true, true, .plain⟩,
   ⟨0x0501, 328, 6554, 1638, false, false, .plain⟩,
   ⟨0x0502, 5, 200, 20, false, false, .plain⟩,
   ⟨0x0503, 20000, 45000, 36500, false, false, .plain⟩,
   ⟨0x0504, 15000, 35000, 27000, false, false, .plain⟩,
   ⟨0x0505, 0, 4294967295, 81920, false, false, .gain⟩,
   ⟨0x0506, 0, 4294967295, 282624, false, false, .gain⟩,
   ⟨0x0507, 0, 4294967295, 16384, false, false, .gain⟩,
   ⟨0x0508, 0, 4294967295, 549888, false, false, .gain⟩,
   ⟨0x0509, 0, 4294967295, 416256, false, false, .gain⟩,
   ⟨0x050A, 0, 4294967295, 621824, false, false, .gain⟩,
   ⟨0x050B, 0, 32000, 16000, false, true, .plain⟩,
   ⟨0x050C, 0, 32000, 24000, false, true, .plain⟩,
   ⟨0x050D, 100, 2000, 500, false, false, .plain⟩,
   ⟨0x050E, 1000, 1500, 1100, false, false, .plain⟩,
   ⟨0x050F, 10, 3600, 300, false, false, .plain⟩]

/-- Parameters of function 0x06 (07_converter). -/
def paramTable06 : List ParamRow :=
  [⟨0x0600, 1, 255, 15, true, false, .plain⟩,
   ⟨0x0601, 0, 1, 0, true, false, .plain⟩,
   ⟨0x0602, 20000, 100000, 40000, true, false, .plain⟩,
   ⟨0x0603, 200, 8000, 1200, true, false, .plain⟩,
   ⟨0x0604, 500, 10000, 2500, true, false, .plain⟩,
   ⟨0x0605, 20, 5000, 200, true, false, .plain⟩,
   ⟨0x0606, 640, 32767, 12800, false, false, .plain⟩,
   ⟨0x0607, 16384, 32767, 26214, false, false, .plain⟩,
   ⟨0x0608, 8192, 29491, 19661, false, false, .plain⟩,
   ⟨0x0609, 0, 1, 1, false, false, .plain⟩,
   ⟨0x060A, 5, 45, 40, false, false, .plain⟩,
   ⟨0x060B, 64, 2048, 256, true, false, .plain⟩,
   ⟨0x060C, 100, 800, 300, true, false, .plain⟩]

/-- Parameters of function 0x07 (08_setpoints). -/
def paramTable07 : List ParamRow :=
  [⟨0x0700, 1, 10240, 200, false, false, .plain⟩,
   ⟨0x0701, 1, 200, 50, false, false, .plain⟩,
   ⟨0x0702, 100, 10000, 300, false, false, .plain⟩,
   ⟨0x0703, 0, 9900, 0, false, false, .plain⟩,
   ⟨0x0704, 1, 3600, 600, false, false, .plain⟩,
   ⟨0x0705, 0, 600000, 0, false, false, .zeroOr 100⟩,
   ⟨0x0706, (-32767), 32767, 0, false, true, .plain⟩,
   ⟨0x0707, 0, 511, 63, true, false, .plain⟩,
   ⟨0x0708, 0, 1, 0, false, false, .plain⟩,
   ⟨0x0709, 0, 16000, 1600, false, true, .plain⟩]

/-- Parameters of function 0x08 (09_safety_functions). -/
def paramTable08 : List ParamRow :=
  [⟨0x0800, 0, 15, 0, true, false, .plain⟩,
   ⟨0x0801, 20000, 50000, 37500, true, false, .plain⟩,
   ⟨0x0802, 10000, 40000, 25000, true, false, .plain⟩,
   ⟨0x0803, 3200, 32000, 8000, true, true, .plain⟩,
   ⟨0x0804, 1600, 32000, 6400, true, true, .plain⟩,
   ⟨0x0805, 1, 1000, 100, true, false, .plain⟩,
   ⟨0x0806, 3000, 9000, 6500, true, true, .plain⟩,
   ⟨0x0807, 1, 600, 10, true, false, .plain⟩,
   ⟨0x0808, 0, 1023, 1008, true, false, .plain⟩,
   ⟨0x0809, 10, 1000, 100, true, false, .plain⟩,
   ⟨0x080A, 0, 60, 0, true, false, .plain⟩,
   ⟨0x080B, 0, 1000, 0, true, false, .zeroOr 20⟩,
   ⟨0x080C, 2, 50, 5, true, false, .plain⟩,
   ⟨0x080D, 0, 4294967295, 0, true, false, .plain⟩,
   ⟨0x080E, 0, 33279, 64, true, false, .ackConfig⟩,
   ⟨0x080F, 0, 511, 80, true, false, .plain⟩]

/-- Parameters of function 0x09 (10_contactors_precharge). -/
def paramTable09 : List ParamRow :=
  [⟨0x0900, 10, 10000, 1000, true, false, .plain⟩,
   ⟨0x0901, 20, 10000, 200, true, false, .plain⟩,
   ⟨0x0902, 100, 50000, 3000, true, false, .plain⟩,
   ⟨0x0903, 10, 3600, 600, true, false, .plain⟩,
   ⟨0x0904, 1, 600, 10, false, false, .plain⟩,
   ⟨0x0905, 1600, 32000, 3200, false, true, .plain⟩,
   ⟨0x0906, 5, 200, 20, false, false, .plain⟩,
   ⟨0x0907, 0, 2, 0, true, false, .plain⟩,
   ⟨0x0908, 0, 15, 0, true, false, .plain⟩,
   ⟨0x0909, 10, 500, 100, false, false, .plain⟩,
   ⟨0x090A, 10, 500, 50, false, false, .plain⟩,
   ⟨0x090B, 20, 1000, 150, false, false, .plain⟩,
   ⟨0x090C, 6554, 32767, 16384, false, false, .plain⟩,
   ⟨0x090D, 0, 20, 10, false, false, .plain⟩,
   ⟨0x090E, 1000, 1000000, 50000, false, false, .plain⟩]

/-- Parameters of function 0x0A (11_thermal). -/
def paramTable0A : List ParamRow :=
  [⟨0x0A00, 6000, 9400, 9000, false, true, .plain⟩,
   ⟨0x0A01, (-2000), 2000, 0, false, true, .plain⟩,
   ⟨0x0A02, 3000, 6000, 5500, false, true, .plain⟩,
   ⟨0x0A03, (-3000), 0, (-2000), false, true, .plain⟩,
   ⟨0x0A04, 4000, 7000, 6000, false, true, .plain⟩,
   ⟨0x0A05, 1500, 4000, 2500, false, true, .plain⟩,
   ⟨0x0A06, 0, 2500, 1000, false, true, .plain⟩,
   ⟨0x0A07, 100, 1000, 300, false, false, .plain⟩,
   ⟨0x0A08, 2000, 6000, 4000, false, true, .plain⟩,
   ⟨0x0A09, 0, 4294967295, 353894, false, false, .gain⟩,
   ⟨0x0A0A, 0, 4294967295, 86508, false, false, .gain⟩,
   ⟨0x0A0B, 0, 16384, 6554, false, false, .plain⟩,
   ⟨0x0A0C, 0, 1, 0, true, false, .plain⟩,
   ⟨0x0A0D, 0, 32767, 32767, false, false, .plain⟩,
   ⟨0x0A0E, 30, 600, 60, false, false, .plain⟩,
   ⟨0x0A0F, 0, 1, 0, false, false, .plain⟩]

/-- Parameters of function 0x0B (14_pair_redundancy). -/
def paramTable0B : List ParamRow :=
  [⟨0x0B00, 0, 1, 0, true, false, .plain⟩,
   ⟨0x0B01, 0, 65534, 0, true, false, .plain⟩,
   ⟨0x0B02, 0, 1, 0, false, false, .plain⟩,
   ⟨0x0B03, 2, 60, 5, false, false, .plain⟩,
   ⟨0x0B04, 0, 65535, 0, false, false, .plain⟩,
   ⟨0x0B05, 1, 10240, 2000, false, false, .plain⟩]

/-- Parameters of function 0x0C (15_fabric). -/
def paramTable0C : List ParamRow :=
  [⟨0x0C00, 0, 7, 7, true, false, .plain⟩,
   ⟨0x0C01, 3, 10, 3, false, false, .plain⟩]

/-- Parameters of function 0x0D (15_fabric). -/
def paramTable0D : List ParamRow :=
  [⟨0x0D00, 0, 7, 7, true, false, .plain⟩,
   ⟨0x0D01, 3, 10, 3, false, false, .plain⟩]

/-- Parameters of function 0x0E (16_time). -/
def paramTable0E : List ParamRow :=
  [⟨0x0E00, 0, 127, 20, true, false, .plain⟩,
   ⟨0x0E01, 0, 127, 21, true, false, .plain⟩,
   ⟨0x0E02, 0, 1, 0, false, false, .plain⟩,
   ⟨0x0E03, 10, 1000000, 1000, false, false, .plain⟩,
   ⟨0x0E04, 100, 10000, 10000, false, false, .plain⟩,
   ⟨0x0E05, 0, 1, 0, true, false, .plain⟩,
   ⟨0x0E06, 0, 255, 128, true, false, .plain⟩,
   ⟨0x0E07, 0, 255, 128, true, false, .plain⟩,
   ⟨0x0E08, 0, 1, 1, false, false, .plain⟩,
   ⟨0x0E09, 0, 10000, 0, false, false, .plain⟩,
   ⟨0x0E0A, 0, 10000, 0, false, false, .plain⟩,
   ⟨0x0E0B, 0, 1, 1, false, false, .plain⟩,
   ⟨0x0E0C, 100, 1000000, 1000, false, false, .plain⟩]

/-- Parameters of function 0x0F (17_field_buses). -/
def paramTable0F : List ParamRow :=
  [⟨0x0F00, 10000, 1000000, 250000, true, false, .plain⟩,
   ⟨0x0F01, 500, 900, 875, true, false, .plain⟩,
   ⟨0x0F02, 1, 16, 2, true, false, .plain⟩,
   ⟨0x0F03, 0, 1, 0, true, false, .plain⟩,
   ⟨0x0F04, 500000, 5000000, 2000000, true, false, .plain⟩,
   ⟨0x0F05, 600, 850, 750, true, false, .plain⟩,
   ⟨0x0F06, 0, 1, 0, true, false, .plain⟩,
   ⟨0x0F07, 0, 1, 1, false, false, .plain⟩,
   ⟨0x0F08, 0, 4294967295, 0, false, false, .plain⟩,
   ⟨0x0F09, 0, 4294967295, 0, false, false, .plain⟩,
   ⟨0x0F0A, 0, 4294967295, 0, false, false, .plain⟩,
   ⟨0x0F0B, 0, 4294967295, 0, false, false, .plain⟩,
   ⟨0x0F0C, 0, 4294967295, 0, false, false, .plain⟩,
   ⟨0x0F0D, 0, 4294967295, 0, false, false, .plain⟩,
   ⟨0x0F0E, 0, 4294967295, 0, false, false, .plain⟩,
   ⟨0x0F0F, 0, 4294967295, 0, false, false, .plain⟩,
   ⟨0x0F20, 0, 2016, 384, true, false, .plain⟩,
   ⟨0x0F21, 0, 1, 0, false, false, .plain⟩]

/-- Parameters of function 0x10 (17_field_buses). -/
def paramTable10 : List ParamRow :=
  [⟨0x1000, 10000, 1000000, 250000, true, false, .plain⟩,
   ⟨0x1001, 500, 900, 875, true, false, .plain⟩,
   ⟨0x1002, 1, 16, 2, true, false, .plain⟩,
   ⟨0x1003, 0, 1, 0, true, false, .plain⟩,
   ⟨0x1004, 500000, 5000000, 2000000, true, false, .plain⟩,
   ⟨0x1005, 600, 850, 750, true, false, .plain⟩,
   ⟨0x1006, 0, 1, 0, true, false, .plain⟩,
   ⟨0x1007, 0, 1, 1, false, false, .plain⟩,
   ⟨0x1008, 0, 4294967295, 0, false, false, .plain⟩,
   ⟨0x1009, 0, 4294967295, 0, false, false, .plain⟩,
   ⟨0x100A, 0, 4294967295, 0, false, false, .plain⟩,
   ⟨0x100B, 0, 4294967295, 0, false, false, .plain⟩,
   ⟨0x100C, 0, 4294967295, 0, false, false, .plain⟩,
   ⟨0x100D, 0, 4294967295, 0, false, false, .plain⟩,
   ⟨0x100E, 0, 4294967295, 0, false, false, .plain⟩,
   ⟨0x100F, 0, 4294967295, 0, false, false, .plain⟩]

/-- Parameters of function 0x11 (17_field_buses). -/
def paramTable11 : List ParamRow :=
  [⟨0x1100, 0, 2, 1, true, false, .plain⟩,
   ⟨0x1101, 1, 100, 10, false, false, .plain⟩]

/-- Parameters of function 0x12 (17_field_buses). -/
def paramTable12 : List ParamRow :=
  [⟨0x1200, 8, 119, 60, false, false, .plain⟩,
   ⟨0x1201, 0, 119, 0, false, false, .zeroOr 8⟩,
   ⟨0x1202, 10, 1000, 100, false, false, .plain⟩,
   ⟨0x1203, 0, 2, 1, false, false, .plain⟩]

/-- Parameters of function 0x13 (18_recorder). -/
def paramTable13 : List ParamRow :=
  [⟨0x1300, 1, 60, 10, false, false, .plain⟩,
   ⟨0x1301, 0, 2, 1, false, false, .plain⟩,
   ⟨0x1302, 0, 2, 0, false, false, .plain⟩,
   ⟨0x1303, 0, 1, 1, true, false, .plain⟩]

/-- Every parameter of the module. -/
def paramTable : List ParamRow :=
  paramTable00 ++ paramTable01 ++ paramTable02 ++ paramTable03 ++ paramTable04 ++ paramTable05 ++ paramTable06 ++ paramTable07 ++ paramTable08 ++ paramTable09 ++ paramTable0A ++ paramTable0B ++ paramTable0C ++ paramTable0D ++ paramTable0E ++ paramTable0F ++ paramTable10 ++ paramTable11 ++ paramTable12 ++ paramTable13

/-- The row of a parameter ID. -/
def paramRow? (id : Nat) : Option ParamRow := paramTable.find? (fun r => r.id == id)

/-- The default of a parameter ID, 0 where there is none. -/
def paramDefault (id : Nat) : Int := ((paramRow? id).map (·.dflt)).getD 0

/-- Octets of an IPv4 value, octet 0 in the low byte (13 R401). -/
def octet (v : Int) (k : Nat) : Nat := (v.toNat / 256 ^ k) % 256

/-- The IPv4 number with the first octet as its most significant byte. -/
def ipNumber (v : Int) : Nat := octet v 0 * 2 ^ 24 + octet v 1 * 2 ^ 16 + octet v 2 * 2 ^ 8 + octet v 3

/-- First octet from 1 to 223, other than 127. -/
def ipUnicast (v : Int) : Bool := 1 ≤ octet v 0 && octet v 0 ≤ 223 && octet v 0 != 127

/-- A configured fabric address: not unassigned, not broadcast, not provisional (15 R438). -/
def addrConfigurable (a : Nat) : Bool := a != 0 && a != 0xFFFF && !(0x0300 ≤ a && a ≤ 0x03FF)

/-- Contiguous masks /8 to /30 as numbers. -/
def netmasks : List Nat := (List.range 23).map (fun k => 2 ^ 32 - 2 ^ (24 - k))

/-- A value is inside the range that its row states (13 R389). -/
def ParamRow.accepts (r : ParamRow) (v : Int) : Bool :=
  r.lo ≤ v && v ≤ r.hi &&
    match r.rule with
    | .plain => true
    | .divides n => v != 0 && (n : Int) % v == 0
    | .zeroOr lo => v == 0 || lo ≤ v
    | .gain => v.toNat / 2 ^ 20 == 0 && v.toNat % 2 ^ 16 ≤ 32767
    | .tones => (List.range 4).all (fun k => octet v k < 24 || octet v k == 255)
    | .ackConfig => (v.toNat / 2 ^ 9) % 2 ^ 6 == 0
    | .address => v == 0 || addrConfigurable v.toNat
    | .ip => ipUnicast v
    | .netmask => netmasks.contains (ipNumber v)
    | .gateway => v == 0 || ipUnicast v

/-- Put a value under an ID into a list that rises by ID; a value equal to `none` leaves the ID out. -/
def assocSet (l : List (Nat × Int)) (id : Nat) (v : Option Int) : List (Nat × Int) :=
  match l with
  | [] => match v with
    | some x => [(id, x)]
    | none => []
  | (k, w) :: rest =>
    if k < id then (k, w) :: assocSet rest id v
    else
      let tail := if k == id then rest else (k, w) :: rest
      match v with
      | some x => (id, x) :: tail
      | none => tail

/-- The value stored under an ID. -/
def assocGet (l : List (Nat × Int)) (id : Nat) : Option Int :=
  (l.find? (fun p => p.1 == id)).map (·.2)

end Sys2Proof.Machine
end

