-- ==== Sys2Proof/Machine/Commands.lean ====
section
/-!
DEFINITION. Machine/Commands.lean: the tables of specific commands of the chapters: code, legal modes and role.
-/

namespace Sys2Proof.Machine

/-- The role column of a command table. -/
inductive CmdRole where
  /-- A fixed role. -/
  | fixed (r : Role)
  /-- The role that REC_READ_ROLE names (18 R528). -/
  | recRead
  /-- None for the caller's own mailbox, owner for another (13 R399). -/
  | ownMailbox
  /-- Owner, but for the cases of 13 R398. -/
  | keySet
  deriving DecidableEq, Repr

/-- One row of a command table: legal modes as bits, bit n for mode n. -/
structure CmdRow where
  /-- COMMAND. -/
  code : Nat
  /-- Legal modes. -/
  modes : Nat
  /-- Role. -/
  role : CmdRole
  deriving DecidableEq, Repr

/-- IDENTIFY (13_mailbox). -/
def Cmd.identify : Nat := 0x0010

/-- GET_CHALLENGE (13_mailbox). -/
def Cmd.getChallenge : Nat := 0x0011

/-- MBX_STATUS (13_mailbox). -/
def Cmd.mbxStatus : Nat := 0x0012

/-- MBX_RELEASE (13_mailbox). -/
def Cmd.mbxRelease : Nat := 0x0013

/-- COMMIT (13_mailbox). -/
def Cmd.commit : Nat := 0x0014

/-- KEY_SET (13_mailbox). -/
def Cmd.keySet : Nat := 0x0015

/-- OWNER_LOCK (13_mailbox). -/
def Cmd.ownerLock : Nat := 0x0016

/-- MODE_STATUS (12_modes_and_wake). -/
def Cmd.modeStatus : Nat := 0x0020

/-- ENTER_SERVICE (12_modes_and_wake). -/
def Cmd.enterService : Nat := 0x0021

/-- LEAVE_SERVICE (12_modes_and_wake). -/
def Cmd.leaveService : Nat := 0x0022

/-- RUN (12_modes_and_wake). -/
def Cmd.run : Nat := 0x0023

/-- HOLD (12_modes_and_wake). -/
def Cmd.hold : Nat := 0x0024

/-- ENTER_DORMANT (12_modes_and_wake). -/
def Cmd.enterDormant : Nat := 0x0025

/-- WAKE (12_modes_and_wake). -/
def Cmd.wake : Nat := 0x0026

/-- WAKE_AT (12_modes_and_wake). -/
def Cmd.wakeAt : Nat := 0x0027

/-- ENTER_SHELF (12_modes_and_wake). -/
def Cmd.enterShelf : Nat := 0x0028

/-- RING_MAP (02_cell_ring). -/
def Cmd.ringMap : Nat := 0x0110

/-- RING_RESTORE (02_cell_ring). -/
def Cmd.ringRestore : Nat := 0x0111

/-- RE_ENUMERATE (02_cell_ring). -/
def Cmd.reEnumerate : Nat := 0x0112

/-- FLT_TEST_NOW (02_cell_ring). -/
def Cmd.fltTestNow : Nat := 0x0113

/-- CLEAR_TRIPS (02_cell_ring). -/
def Cmd.clearTrips : Nat := 0x0114

/-- READ_SWEEP (02_cell_ring). -/
def Cmd.readSweep : Nat := 0x0115

/-- BAL_STATUS (03_balancing). -/
def Cmd.balStatus : Nat := 0x0210

/-- BAL_TOTALS (03_balancing). -/
def Cmd.balTotals : Nat := 0x0211

/-- BAL_FORCE (03_balancing). -/
def Cmd.balForce : Nat := 0x0212

/-- BAL_RELEASE (03_balancing). -/
def Cmd.balRelease : Nat := 0x0213

/-- CTX_READ (04_estimation). -/
def Cmd.ctxRead : Nat := 0x0310

/-- CTX_SUMMARY (04_estimation). -/
def Cmd.ctxSummary : Nat := 0x0311

/-- CTX_REINIT (04_estimation). -/
def Cmd.ctxReinit : Nat := 0x0312

/-- CTX_CELLS (04_estimation). -/
def Cmd.ctxCells : Nat := 0x0313

/-- CAP_SET (04_estimation). -/
def Cmd.capSet : Nat := 0x0314

/-- CHEM_READ (04_estimation). -/
def Cmd.chemRead : Nat := 0x0315

/-- CHEM_WRITE (04_estimation). -/
def Cmd.chemWrite : Nat := 0x0316

/-- CTX_CLEAR_FLAGS (04_estimation). -/
def Cmd.ctxClearFlags : Nat := 0x0317

/-- IMP_STATUS (05_impedance). -/
def Cmd.impStatus : Nat := 0x0410

/-- IMP_RESULTS (05_impedance). -/
def Cmd.impResults : Nat := 0x0411

/-- IMP_SPECTRUM_NOW (05_impedance). -/
def Cmd.impSpectrumNow : Nat := 0x0412

/-- CTRL_STATUS (06_control_engines). -/
def Cmd.ctrlStatus : Nat := 0x0510

/-- CTRL_ENGINES (06_control_engines). -/
def Cmd.ctrlEngines : Nat := 0x0511

/-- CTRL_ENGINE_RETURN (06_control_engines). -/
def Cmd.ctrlEngineReturn : Nat := 0x0512

/-- CTRL_ROTATE_NOW (06_control_engines). -/
def Cmd.ctrlRotateNow : Nat := 0x0513

/-- SENSOR_RESTORE (06_control_engines). -/
def Cmd.sensorRestore : Nat := 0x0514

/-- WIN_TOTALS (06_control_engines). -/
def Cmd.winTotals : Nat := 0x0515

/-- MOD_STATUS (07_converter). -/
def Cmd.modStatus : Nat := 0x0610

/-- LANE_STATUS (07_converter). -/
def Cmd.laneStatus : Nat := 0x0611

/-- DT_TABLE_READ (07_converter). -/
def Cmd.dtTableRead : Nat := 0x0612

/-- DT_TABLE_WRITE (07_converter). -/
def Cmd.dtTableWrite : Nat := 0x0613

/-- LANE_RETRAIN (07_converter). -/
def Cmd.laneRetrain : Nat := 0x0614

/-- SP_SET (08_setpoints). -/
def Cmd.spSet : Nat := 0x0710

/-- SP_CANCEL (08_setpoints). -/
def Cmd.spCancel : Nat := 0x0711

/-- SP_QUEUE_READ (08_setpoints). -/
def Cmd.spQueueRead : Nat := 0x0712

/-- DISPATCH_STATUS (08_setpoints). -/
def Cmd.dispatchStatus : Nat := 0x0713

/-- SAFE_STATUS (09_safety_functions). -/
def Cmd.safeStatus : Nat := 0x0810

/-- SAFE_RESET (09_safety_functions). -/
def Cmd.safeReset : Nat := 0x0811

/-- SAFE_SET_READ (09_safety_functions). -/
def Cmd.safeSetRead : Nat := 0x0812

/-- SAFE_SET_CONFIRM (09_safety_functions). -/
def Cmd.safeSetConfirm : Nat := 0x0813

/-- SAFE_COUNTERS (09_safety_functions). -/
def Cmd.safeCounters : Nat := 0x0814

/-- OUT_STATUS (10_contactors_precharge). -/
def Cmd.outStatus : Nat := 0x0910

/-- CONNECT (10_contactors_precharge). -/
def Cmd.connect : Nat := 0x0911

/-- DISCONNECT (10_contactors_precharge). -/
def Cmd.disconnect : Nat := 0x0912

/-- PRE_HISTORY (10_contactors_precharge). -/
def Cmd.preHistory : Nat := 0x0913

/-- PRE_MODEL_RESET (10_contactors_precharge). -/
def Cmd.preModelReset : Nat := 0x0914

/-- THERM_STATUS (11_thermal). -/
def Cmd.thermStatus : Nat := 0x0A10

/-- THERM_MANUAL (11_thermal). -/
def Cmd.thermManual : Nat := 0x0A11

/-- THERM_AUTO (11_thermal). -/
def Cmd.thermAuto : Nat := 0x0A12

/-- PAIR_STATUS (14_pair_redundancy). -/
def Cmd.pairStatus : Nat := 0x0B10

/-- PAIR_SWAP (14_pair_redundancy). -/
def Cmd.pairSwap : Nat := 0x0B11

/-- PAIR_OVERRIDE (14_pair_redundancy). -/
def Cmd.pairOverride : Nat := 0x0B12

/-- PAIR_CKPT_NOW (14_pair_redundancy). -/
def Cmd.pairCkptNow : Nat := 0x0B13

/-- HEALTH_READ (14_pair_redundancy). -/
def Cmd.healthRead : Nat := 0x0B14

/-- FAB_STATUS (15_fabric). -/
def Cmd.fabStatus : Nat := 0x0C10

/-- FAB_ROUTES (15_fabric). -/
def Cmd.fabRoutes : Nat := 0x0C11

/-- FAB_LSDB (15_fabric). -/
def Cmd.fabLsdb : Nat := 0x0C12

/-- FAB_FLOWS (15_fabric). -/
def Cmd.fabFlows : Nat := 0x0C13

/-- FAB_CLEAR_COUNTERS (15_fabric). -/
def Cmd.fabClearCounters : Nat := 0x0C14

/-- TIME_STATUS (16_time). -/
def Cmd.timeStatus : Nat := 0x0E10

/-- TIME_EDGES (16_time). -/
def Cmd.timeEdges : Nat := 0x0E11

/-- TIME_RESYNC (16_time). -/
def Cmd.timeResync : Nat := 0x0E12

/-- TIME_SET (16_time). -/
def Cmd.timeSet : Nat := 0x0E13

/-- CAN_STATUS (17_field_buses). -/
def Cmd.canStatus : Nat := 0x0F10

/-- CAN_TX (17_field_buses). -/
def Cmd.canTx : Nat := 0x0F11

/-- CAN_TX_CANCEL (17_field_buses). -/
def Cmd.canTxCancel : Nat := 0x0F12

/-- CAN_TX_QUERY (17_field_buses). -/
def Cmd.canTxQuery : Nat := 0x0F13

/-- CAN_RX_READ (17_field_buses). -/
def Cmd.canRxRead : Nat := 0x0F14

/-- CAN_RX_RELEASE (17_field_buses). -/
def Cmd.canRxRelease : Nat := 0x0F15

/-- CAN_RECOVER (17_field_buses). -/
def Cmd.canRecover : Nat := 0x0F16

/-- TW_ACC_XFER (17_field_buses). -/
def Cmd.twAccXfer : Nat := 0x1110

/-- TW_ACC_STATUS (17_field_buses). -/
def Cmd.twAccStatus : Nat := 0x1111

/-- TW_SVC_STATUS (17_field_buses). -/
def Cmd.twSvcStatus : Nat := 0x1210

/-- REC_STATUS (18_recorder). -/
def Cmd.recStatus : Nat := 0x1310

/-- REC_SEEK (18_recorder). -/
def Cmd.recSeek : Nat := 0x1311

/-- REC_READ (18_recorder). -/
def Cmd.recRead : Nat := 0x1312

/-- REC_RELEASE (18_recorder). -/
def Cmd.recRelease : Nat := 0x1313

/-- REC_FLUSH (18_recorder). -/
def Cmd.recFlush : Nat := 0x1314

/-- REC_CLEAR (18_recorder). -/
def Cmd.recClear : Nat := 0x1315

/-- REC_CODES (18_recorder). -/
def Cmd.recCodes : Nat := 0x1316

/-- IMG_STATUS (19_update). -/
def Cmd.imgStatus : Nat := 0x1410

/-- IMG_OPEN (19_update). -/
def Cmd.imgOpen : Nat := 0x1411

/-- IMG_BLOCK (19_update). -/
def Cmd.imgBlock : Nat := 0x1412

/-- IMG_CHECK (19_update). -/
def Cmd.imgCheck : Nat := 0x1413

/-- IMG_INSTALL (19_update). -/
def Cmd.imgInstall : Nat := 0x1414

/-- IMG_ABORT (19_update). -/
def Cmd.imgAbort : Nat := 0x1415

/-- TAP_INSTALL (19_update). -/
def Cmd.tapInstall : Nat := 0x1416

/-- Commands of function 0x00. -/
def cmdTable00 : List CmdRow :=
  [⟨0x0010, 0xFE, .fixed .none⟩,
   ⟨0x0011, 0xFE, .fixed .none⟩,
   ⟨0x0012, 0xFE, .fixed .none⟩,
   ⟨0x0013, 0xFE, .ownMailbox⟩,
   ⟨0x0014, 0xFE, .fixed .engineer⟩,
   ⟨0x0015, 0x44, .keySet⟩,
   ⟨0x0016, 0x74, .fixed .owner⟩,
   ⟨0x0020, 0xFE, .fixed .none⟩,
   ⟨0x0021, 0x84, .fixed .engineer⟩,
   ⟨0x0022, 0x40, .fixed .engineer⟩,
   ⟨0x0023, 0x20, .fixed .operator⟩,
   ⟨0x0024, 0x10, .fixed .operator⟩,
   ⟨0x0025, 0x04, .fixed .operator⟩,
   ⟨0x0026, 0x02, .fixed .operator⟩,
   ⟨0x0027, 0x06, .fixed .operator⟩,
   ⟨0x0028, 0x44, .fixed .owner⟩]

/-- Commands of function 0x01. -/
def cmdTable01 : List CmdRow :=
  [⟨0x0110, 0xFE, .fixed .none⟩,
   ⟨0x0111, 0x74, .fixed .operator⟩,
   ⟨0x0112, 0x44, .fixed .engineer⟩,
   ⟨0x0113, 0x44, .fixed .engineer⟩,
   ⟨0x0114, 0xC4, .fixed .operator⟩,
   ⟨0x0115, 0xFE, .fixed .none⟩]

/-- Commands of function 0x02. -/
def cmdTable02 : List CmdRow :=
  [⟨0x0210, 0xFE, .fixed .none⟩,
   ⟨0x0211, 0xFE, .fixed .none⟩,
   ⟨0x0212, 0x04, .fixed .engineer⟩,
   ⟨0x0213, 0x3C, .fixed .operator⟩]

/-- Commands of function 0x03. -/
def cmdTable03 : List CmdRow :=
  [⟨0x0310, 0xFE, .fixed .none⟩,
   ⟨0x0311, 0xFE, .fixed .none⟩,
   ⟨0x0312, 0x44, .fixed .engineer⟩,
   ⟨0x0313, 0x44, .fixed .engineer⟩,
   ⟨0x0314, 0x44, .fixed .engineer⟩,
   ⟨0x0315, 0xFE, .fixed .none⟩,
   ⟨0x0316, 0x40, .fixed .engineer⟩,
   ⟨0x0317, 0xFE, .fixed .operator⟩]

/-- Commands of function 0x04. -/
def cmdTable04 : List CmdRow :=
  [⟨0x0410, 0xFE, .fixed .none⟩,
   ⟨0x0411, 0xFE, .fixed .none⟩,
   ⟨0x0412, 0x30, .fixed .operator⟩]

/-- Commands of function 0x05. -/
def cmdTable05 : List CmdRow :=
  [⟨0x0510, 0xFE, .fixed .none⟩,
   ⟨0x0511, 0xFE, .fixed .none⟩,
   ⟨0x0512, 0x64, .fixed .engineer⟩,
   ⟨0x0513, 0x34, .fixed .engineer⟩,
   ⟨0x0514, 0x64, .fixed .engineer⟩,
   ⟨0x0515, 0xFE, .fixed .none⟩]

/-- Commands of function 0x06. -/
def cmdTable06 : List CmdRow :=
  [⟨0x0610, 0xFE, .fixed .none⟩,
   ⟨0x0611, 0xFE, .fixed .none⟩,
   ⟨0x0612, 0xFE, .fixed .none⟩,
   ⟨0x0613, 0x40, .fixed .engineer⟩,
   ⟨0x0614, 0x64, .fixed .engineer⟩]

/-- Commands of function 0x07. -/
def cmdTable07 : List CmdRow :=
  [⟨0x0710, 0x3C, .fixed .operator⟩,
   ⟨0x0711, 0x3C, .fixed .operator⟩,
   ⟨0x0712, 0xFE, .fixed .none⟩,
   ⟨0x0713, 0xFE, .fixed .none⟩]

/-- Commands of function 0x08. -/
def cmdTable08 : List CmdRow :=
  [⟨0x0810, 0xFE, .fixed .none⟩,
   ⟨0x0811, 0x80, .fixed .operator⟩,
   ⟨0x0812, 0xFE, .fixed .none⟩,
   ⟨0x0813, 0x40, .fixed .engineer⟩,
   ⟨0x0814, 0xFE, .fixed .none⟩]

/-- Commands of function 0x09. -/
def cmdTable09 : List CmdRow :=
  [⟨0x0910, 0xFE, .fixed .none⟩,
   ⟨0x0911, 0x04, .fixed .operator⟩,
   ⟨0x0912, 0x30, .fixed .operator⟩,
   ⟨0x0913, 0xFE, .fixed .none⟩,
   ⟨0x0914, 0x40, .fixed .owner⟩]

/-- Commands of function 0x0A. -/
def cmdTable0A : List CmdRow :=
  [⟨0x0A10, 0xFE, .fixed .none⟩,
   ⟨0x0A11, 0x40, .fixed .engineer⟩,
   ⟨0x0A12, 0xFC, .fixed .engineer⟩]

/-- Commands of function 0x0B. -/
def cmdTable0B : List CmdRow :=
  [⟨0x0B10, 0xFE, .fixed .none⟩,
   ⟨0x0B11, 0x32, .fixed .engineer⟩,
   ⟨0x0B12, 0x44, .fixed .owner⟩,
   ⟨0x0B13, 0x30, .fixed .operator⟩,
   ⟨0x0B14, 0xFE, .fixed .none⟩]

/-- Commands of function 0x0C. -/
def cmdTable0C : List CmdRow :=
  [⟨0x0C10, 0xFE, .fixed .none⟩,
   ⟨0x0C11, 0xFE, .fixed .none⟩,
   ⟨0x0C12, 0xFE, .fixed .none⟩,
   ⟨0x0C13, 0xFE, .fixed .none⟩,
   ⟨0x0C14, 0xFE, .fixed .operator⟩]

/-- Commands of function 0x0D. -/
def cmdTable0D : List CmdRow :=
  [⟨0x0D10, 0xFE, .fixed .none⟩,
   ⟨0x0D11, 0xFE, .fixed .none⟩,
   ⟨0x0D12, 0xFE, .fixed .none⟩,
   ⟨0x0D13, 0xFE, .fixed .none⟩,
   ⟨0x0D14, 0xFE, .fixed .operator⟩]

/-- Commands of function 0x0E. -/
def cmdTable0E : List CmdRow :=
  [⟨0x0E10, 0xFE, .fixed .none⟩,
   ⟨0x0E11, 0xFE, .fixed .none⟩,
   ⟨0x0E12, 0xC6, .fixed .engineer⟩,
   ⟨0x0E13, 0x44, .fixed .engineer⟩]

/-- Commands of function 0x0F. -/
def cmdTable0F : List CmdRow :=
  [⟨0x0F10, 0xFE, .fixed .none⟩,
   ⟨0x0F11, 0xFC, .fixed .operator⟩,
   ⟨0x0F12, 0xFC, .fixed .operator⟩,
   ⟨0x0F13, 0xFE, .fixed .none⟩,
   ⟨0x0F14, 0xFE, .fixed .none⟩,
   ⟨0x0F15, 0xFE, .fixed .none⟩,
   ⟨0x0F16, 0xFC, .fixed .operator⟩]

/-- Commands of function 0x10. -/
def cmdTable10 : List CmdRow :=
  [⟨0x1010, 0xFE, .fixed .none⟩,
   ⟨0x1011, 0xFC, .fixed .operator⟩,
   ⟨0x1012, 0xFC, .fixed .operator⟩,
   ⟨0x1013, 0xFE, .fixed .none⟩,
   ⟨0x1014, 0xFE, .fixed .none⟩,
   ⟨0x1015, 0xFE, .fixed .none⟩,
   ⟨0x1016, 0xFC, .fixed .operator⟩]

/-- Commands of function 0x11. -/
def cmdTable11 : List CmdRow :=
  [⟨0x1110, 0xFC, .fixed .engineer⟩,
   ⟨0x1111, 0xFE, .fixed .none⟩]

/-- Commands of function 0x12. -/
def cmdTable12 : List CmdRow :=
  [⟨0x1210, 0xFE, .fixed .none⟩]

/-- Commands of function 0x13. -/
def cmdTable13 : List CmdRow :=
  [⟨0x1310, 0xFE, .fixed .none⟩,
   ⟨0x1311, 0xFE, .recRead⟩,
   ⟨0x1312, 0xFE, .recRead⟩,
   ⟨0x1313, 0xFE, .fixed .none⟩,
   ⟨0x1314, 0xFE, .fixed .operator⟩,
   ⟨0x1315, 0x44, .fixed .owner⟩,
   ⟨0x1316, 0xFE, .fixed .none⟩]

/-- Commands of function 0x14. -/
def cmdTable14 : List CmdRow :=
  [⟨0x1410, 0xFE, .fixed .none⟩,
   ⟨0x1411, 0xF6, .fixed .engineer⟩,
   ⟨0x1412, 0xF6, .fixed .engineer⟩,
   ⟨0x1413, 0xF6, .fixed .engineer⟩,
   ⟨0x1414, 0xF6, .fixed .engineer⟩,
   ⟨0x1415, 0xF6, .fixed .engineer⟩,
   ⟨0x1416, 0xF4, .fixed .engineer⟩]

/-- Every specific command of the module. -/
def cmdTable : List CmdRow :=
  cmdTable00 ++ cmdTable01 ++ cmdTable02 ++ cmdTable03 ++ cmdTable04 ++ cmdTable05 ++ cmdTable06 ++ cmdTable07 ++ cmdTable08 ++ cmdTable09 ++ cmdTable0A ++ cmdTable0B ++ cmdTable0C ++ cmdTable0D ++ cmdTable0E ++ cmdTable0F ++ cmdTable10 ++ cmdTable11 ++ cmdTable12 ++ cmdTable13 ++ cmdTable14

end Sys2Proof.Machine
end

