-- ==== Sys2Proof/Machine/Ops.lean ====
section
/-!
DEFINITION. Machine/Ops.lean: the operations every family shares: the frame of a command, time, parameters in force, the
event recorder's intake, mailbox answers, and the fields of rings, functions and coils (00, 13, 16, 18).
-/

namespace Sys2Proof.Machine

open Sys2Proof

/-! ## The frame of a command -/

/-- A command at instant `t`: time does not run backwards, the last step's emissions are gone, the queue is as it stands
(DESIGN CHOICE, notes/assumptions/1.md). -/
def timed (t : Nat) (f : State → State) (s : State) : Host.Outcome State Fault Refusal :=
  .next { f { s with now := max s.now t, out := [] } with pending := s.pending, now := max s.now t }

/-- Put one thing on the way out. -/
def emit (e : Emission) (s : State) : State := { s with out := s.out ++ [e] }

/-- Apply a function when a condition holds. -/
def onlyIf (c : Bool) (f : State → State) (s : State) : State := if c then f s else s

/-- Apply the operations of a list in order. -/
def eachDo {α : Type} (l : List α) (f : α → State → State) (s : State) : State := l.foldl (fun s a => f a s) s

/-- Microseconds in ns. -/
def us (n : Nat) : Nat := n * 1000

/-- Milliseconds in ns. -/
def ms (n : Nat) : Nat := n * 1000000

/-- Seconds in ns. -/
def sec (n : Nat) : Nat := n * 1000000000

/-- A start has been held for a time. -/
def heldFor (s : State) (start d : Nat) : Bool := start + d ≤ s.now

/-- The same of a start that may be absent. -/
def heldOpt (s : State) (start : Option Nat) (d : Nat) : Bool := (start.map (fun a => decide (a + d ≤ s.now))).getD false

/-- A time has passed since an instant, or there is no such instant. -/
def dueAfter (s : State) (a : Option Nat) (d : Nat) : Bool := (a.map (fun x => decide (x + d ≤ s.now))).getD true

/-- The instants of a list that lie within a time of now. -/
def within (s : State) (d : Nat) (l : List Nat) : List Nat := l.filter (fun a => s.now < a + d)

/-! ## Time stamps (00 R10, 16 R463, R464) -/

/-- The counter at an instant, in 2^-32 s: the model's instant scaled, the offset, and the servo's trim since it was set. -/
def counterAt (s : State) (t : Nat) : Int :=
  ((t * 2 ^ 32 / 1000000000 : Nat) : Int) + s.tim.off + s.tim.trim * ((t : Int) - s.tim.trimAt) / 1000000000

/-- The 64-bit timestamp of an instant, truncated (00 R10). -/
def stampAt (s : State) (t : Nat) : Nat := (counterAt s t).toNat % 2 ^ 64

/-- The present 64-bit timestamp. -/
def stampNow (s : State) : Nat := stampAt s s.now

/-- Low 48 bits of a timestamp (16 R464). -/
def low48 (x : Nat) : Nat := x % 2 ^ 48

/-- The signed 48-bit difference a - b in 2^-32 s (16 R464). -/
def diff48 (a b : Nat) : Int := signedOf 48 ((a % 2 ^ 48 + 2 ^ 48 - b % 2 ^ 48) % 2 ^ 48)

/-- The model's instant, in ns, at which the counter reaches a value: the inverse of `counterAt`, rounded up. -/
def instantOf (s : State) (c : Int) : Nat :=
  let d := (c - counterAt s s.now) * 1000000000
  (s.now + (if 0 ≤ d then (d + 4294967295) / 4294967296 else d / 4294967296)).toNat

/-- The least multiple, in ns, of a period from the TAI second, as an instant at or after now (16 R482). -/
def nextGrid (s : State) (period : Nat) : Nat :=
  if period = 0 then s.now
  else
    let cns := counterAt s s.now * 1000000000 / 4294967296
    let r := (cns % (period : Int)).toNat
    if r = 0 then s.now else s.now + (period - r)

/-! ## Modes and parameters -/

/-- Mode code (12 R347). -/
def Mode.code : Mode → Nat
  | .shelf => 0 | .dormant => 1 | .watch => 2 | .connect => 3 | .run => 4 | .hold => 5 | .service => 6 | .tripped => 7

/-- The mode of a code. -/
def modeOfCode (c : Nat) : Mode :=
  [Mode.shelf, .dormant, .watch, .connect, .run, .hold, .service, .tripped].getD c .hold

/-- The mode in force is one of a list. -/
def inMode (s : State) (l : List Mode) : Bool := l.contains s.core.mode

/-- The value in force of a parameter: safety parameters as both channels hold them (09 R257), SAFE_EDIT_SET the selected
set while nothing else is in force (09 R296), every other as committed or its default (13 R387, R393). -/
def prm (s : State) (id : Nat) : Int :=
  if 0x0801 ≤ id ∧ id ≤ 0x080F then s.saf.force.getD (id - 0x0801) 0
  else if id = 0x0800 then (assocGet s.mbx.params id).getD s.saf.selected
  else (assocGet s.mbx.params id).getD (paramDefault id)

/-- The same as a natural number. -/
def prmN (s : State) (id : Nat) : Nat := (prm s id).toNat

/-- SS7 as read at boot: pair mode (09 R287, 14 R403). -/
def pairMode (s : State) : Bool := s.core.seals.getLsbD 6

/-- SS8 as read at boot: forerunner CAN map. -/
def mapMode (s : State) : Bool := s.core.seals.getLsbD 7

/-- I_RATED in string-current LSB. -/
def iRated (s : State) : Int := prm s Prm.iRated

/-! ## Functions -/

/-- The common state of a function. -/
def fnOf (s : State) (f : Nat) : Func := s.mbx.fns.getD f {}

/-- A function is stopped. -/
def stopped (s : State) (f : Nat) : Bool := (fnOf s f).state == .stopped

/-- A function runs. -/
def running (s : State) (f : Nat) : Bool := (fnOf s f).state == .running

/-- Change a function's common state. -/
def setFn (f : Nat) (g : Func → Func) (s : State) : State := { s with mbx.fns := s.mbx.fns.modify f g }

/-! ## Recorder intake (11 R329, 18 R514 to R519) -/

/-- R_FLAGS of a record made now (18 R514). -/
def recordFlags (s : State) : BitVec 8 :=
  BitVec.ofNat 8 (bit s.tim.untraceable 0 + bit (s.tim.st == .free) 1 + bit s.pair.standby 2)

/-- OPERATING_S now (13 R400). -/
def operatingS (s : State) : Nat := s.core.opSeconds + (s.now - s.core.bootAt) / 1000000000

/-- A record made now at a time stamp. -/
def makeRecord (s : State) (code sev time : Nat) (data : List Int) : EventRec :=
  { seq := s.well.nextSeq, time := time, ops := operatingS s, cycles := s.core.powerCycles, sev := sev, code := code,
    mode := s.core.mode, flags := recordFlags s, data := data }

/-- Note a sequence number as dropped (18 R519). -/
def noteDrop (seq : Nat) (w : Well) : Well :=
  { w with
    drops := some (match w.drops with
      | none => (seq, seq, 1)
      | some (lo, hi, n) => (min lo seq, max hi seq, n + 1)),
    nvmDrop := w.nvmDrop + 1 }

/-- The record of the lowest severity, oldest first, not above a severity (11 R329). -/
def overwritten (sev : Nat) (buf : List EventRec) : Option EventRec :=
  (buf.foldl (fun b r => match b with
    | none => some r
    | some c => if r.sev < c.sev then some r else b) none).filter (fun r => r.sev ≤ sev)

/-- Put a record into the RAM buffer of 4,096 under the overwrite rule (11 R329). -/
def bufferRecord (r : EventRec) (w : Well) : Well :=
  let w := { w with nextSeq := (w.nextSeq + 1) % 2 ^ 32 }
  if w.buf.length < 4096 then { w with buf := w.buf ++ [r] }
  else match overwritten r.sev w.buf with
    | some o => noteDrop o.seq { w with buf := w.buf.filter (fun x => x.seq ≠ o.seq) ++ [r] }
    | none => noteDrop r.seq w

/-- Make a record without starting a flush. -/
def pushRecord (code sev : Nat) (data : List Int) (s : State) : State :=
  if (sev : Int) < prm s Prm.recMinSeverity then s
  else { s with well := bufferRecord (makeRecord s code sev (stampNow s) data) s.well }

/-- A flush may run: NVM may be written and the recorder function runs; an install that reloads the recorder engine has
halted it (11 R329, 18 R518, 19 R542). -/
def flushAllowed (s : State) : Bool := !s.thm.forbid && !s.thm.held && running s 0x13

/-- The supervisor engine is being reloaded (19 R542). -/
def supReloading (s : State) : Bool :=
  (s.upd.job.map (fun j => decide (j.id = 1) && j.busy && j.todo.head? == some 0)).getD false

/-- Start a flush; the NVM_DROP record of the drops so far is made first (18 R518, R519). -/
def startFlush (s : State) : State :=
  if flushAllowed s && !s.well.flushing then
    let s := match s.well.drops with
      | none => s
      | some (lo, hi, n) => pushRecord Ev.nvmDrop 3 [lo, hi, n] { s with well.drops := none }
    { s with well.flushing := true, well.lastFlush := s.now }
  else s

/-- Make a record at a time stamp: buffer it; severity 4 or higher closes ST-FLT and asks for its own page; 2,048 buffered
records start a flush (18 R514 to R518, 20 R558). -/
def recordAt (time code sev : Nat) (data : List Int) (s : State) : State :=
  if (sev : Int) < prm s Prm.recMinSeverity then s
  else
    let seq := s.well.nextSeq
    let s := { s with well := bufferRecord (makeRecord s code sev time data) s.well }
    let s := if 4 ≤ sev then
        { s with well.urgent := s.well.urgent ++ [seq], core.stFlt := true, core.lastFaultRec := some s.now }
      else s
    if 4 ≤ sev || 2048 ≤ s.well.buf.length then startFlush s else s

/-- Make a record now. -/
def record (code sev : Nat) (data : List Int) (s : State) : State := recordAt (stampNow s) code sev data s

/-! ## Layouts -/

/-- The bytes of a payload; a layout the spec leaves open is a free value of the stated length. -/
def openBytes (area : String) (vals : List (List Int)) (n : Nat) : List Byte :=
  (List.range n).map (Config.openByte area vals)

/-- Exactly `n` bytes: cut or padded with zeros. -/
def fixLen (n : Nat) (l : List Byte) : List Byte := l.take n ++ List.replicate (n - l.length) 0

/-- Little-endian code of a signed field of `n` bytes. -/
def leInt (n : Nat) (v : Int) : List Byte := leBytes n (unsignedOf (8 * n) v)

/-- A flag as an integer. -/
def flag (b : Bool) : Int := if b then 1 else 0

/-- An optional value as an integer list: presence, then the value. -/
def optInts (o : Option Int) : List Int := match o with
  | some v => [1, v]
  | none => [0, 0]

/-- The same of a natural number. -/
def optNat (o : Option Nat) : List Int := optInts (o.map (fun (n : Nat) => (n : Int)))

/-! ## Claim (14 R403, R409, R414) -/

/-- The module's node claims role 8: single mode, or the active of a pair (14 R403, R410). -/
def claimsActive (s : State) : Bool := !pairMode s || s.pair.role == 8

/-- The module holds the token: always in single mode (14 R403, R414). -/
def holdsToken (s : State) : Bool := !pairMode s || s.pair.token

/-- The claim code (14 R409; single mode role 8, epoch 0, 14 R403). -/
def claimCode (s : State) : Nat :=
  if pairMode s then s.pair.role * 2 ^ 28 + s.pair.epoch * 2 ^ 16 + s.fab.node else 8 * 2 ^ 28 + s.fab.node

/-! ## Fabric: ports, routes, flows (15 R438 to R456) -/

/-- A plane: 0 A, 1 B. -/
def planeOf (s : State) (p : Nat) : Plane := s.fab.plane.getD p {}

/-- Change a plane. -/
def setPlane (p : Nat) (g : Plane → Plane) (s : State) : State := { s with fab.plane := s.fab.plane.modify p g }

/-- Port k of a plane, k from 1. -/
def portOf (s : State) (p k : Nat) : Port := (planeOf s p).port.getD (k - 1) {}

/-- Change a port. -/
def setPort (p k : Nat) (g : Port → Port) (s : State) : State :=
  setPlane p (fun x => { x with port := x.port.modify (k - 1) g }) s

/-- Periodic triggers stand still after a step of the counter until their restart (16 R479). -/
def cadenceHeld (s : State) : Bool := (s.tim.restartAt.map (fun a => decide (s.now < a))).getD false

/-- A port of the table is fitted: planes A and B, ports 1 to 3 (15 R431). -/
def isPort (p k : Nat) : Bool := p < 2 && 1 ≤ k && k ≤ 3

/-- A port carries frames: enabled, not withdrawn, its plane's function running and its engine powered (15 R458, R461). -/
def portOn (s : State) (p k : Nat) : Bool :=
  isPort p k && bitOf (prmN s (Prm.portEnable + 256 * p)) (k - 1) && !(portOf s p k).quiet && running s (0x0C + p) &&
    s.core.mode != .shelf && !s.thm.held

/-- Provisional address of a serial: 0x0300 plus the low byte of its CRC-16 (15 R439). -/
def provisionalOf (serial : Nat) : Nat := 0x0300 + crc16 (leBytes 8 serial) % 256

/-- The module advertises its string address: it claims role 8, the address is set and not withdrawn (15 R440, R441). -/
def advertises (s : State) : Bool := claimsActive s && prmN s Prm.stringAddr ≠ 0 && !s.fab.strWithdrawn

/-- Link ID: CRC-16 over the two node addresses, the lower first (15 R437). -/
def linkId (a b : Nat) : Nat := crc16 (leBytes 2 (min a b) ++ leBytes 2 (max a b))

/-- Averaged link delay of a port in ns (15 R444). -/
def portDelay (x : Port) : Nat := if x.delays.isEmpty then 0 else (x.delays.sum / (x.delays.length : Int)).toNat

/-- Node that advertises a string address with the highest claim code (15 R441). -/
def stringHolder (s : State) (p a : Nat) : Option Nat :=
  let own := if advertises s && prmN s Prm.stringAddr = a then [(claimCode s, s.fab.node)] else []
  let others := (planeOf s p).lsdb.filterMap (fun e => match e.1.str with
    | some (x, c) => if x = a then some (c, e.1.origin) else none
    | none => none)
  ((own ++ others).foldl (fun b c => match b with
    | none => some c
    | some d => if d.1 < c.1 then some c else some d) none).map (·.2)

/-- Segment of an address (15 R438). -/
def segmentOf (a : Nat) : Nat := a / 1024

/-- Distance in hops from a node of this segment to another segment, as that border node advertises it (15 R448). -/
def summaryOf (s : State) (p node seg : Nat) : Option Nat :=
  (((planeOf s p).lsdb.find? (fun e => e.1.origin = node)).bind (fun e => e.1.seg.find? (fun x => x.1 = seg))).map (·.2)

/-- Route to a node of this segment or to a neighbour. -/
def nodeRoute (s : State) (p a : Nat) : Option Route := (planeOf s p).routes.find? (fun r => r.dest = a)

/-- The neighbours of other segments that reach a segment, with their distance: the neighbour's own segment in one hop,
others as it advertises them plus one. -/
def ownReach (s : State) (p seg : Nat) : List (Nat × Route) :=
  (planeOf s p).routes.filterMap (fun r =>
    if r.hops ≠ 1 || segmentOf r.dest = segmentOf s.fab.node then none
    else if segmentOf r.dest = seg then some (1, r)
    else (summaryOf s p r.dest seg).map (fun d => (d + 1, r)))

/-- Border nodes of this segment that reach a segment, with distance plus the hops to them. -/
def borderReach (s : State) (p seg : Nat) : List (Nat × Route) :=
  (planeOf s p).routes.filterMap (fun r =>
    if segmentOf r.dest ≠ segmentOf s.fab.node then none
    else (summaryOf s p r.dest seg).map (fun d => (d + r.hops, r)))

/-- Fewest hops, then lowest delay, then lowest first neighbour (15 R446). -/
def betterReach (a b : Nat × Route) : Bool :=
  a.1 < b.1 || (a.1 == b.1 && (a.2.delay < b.2.delay || (a.2.delay == b.2.delay && a.2.via < b.2.via)))

/-- The route to an address: a node, a string address by its holder, or another segment by a border node; at most 16 hops
(15 R441, R446, R448). -/
def routeTo (s : State) (p a : Nat) : Option Route :=
  let a := (stringHolder s p a).getD a
  match nodeRoute s p a with
  | some r => some r
  | none =>
    if segmentOf a = segmentOf s.fab.node then none
    else
      let l := (ownReach s p (segmentOf a) ++ borderReach s p (segmentOf a)).filter (fun x => x.1 ≤ 16)
      (l.foldl (fun b c => match b with
        | none => some c
        | some d => if betterReach c d then some c else some d) none).map (·.2)

/-- Addresses in SAFE_MASTERS that are set. -/
def masters (s : State) : List Nat :=
  [prmN s Prm.safeMasters % 65536, prmN s Prm.safeMasters / 65536].filter (· ≠ 0)

/-- The partner's node address: PARTNER_ADDR, or as learnt over PAIR (14 R428). -/
def partnerNode (s : State) : Nat := if prmN s Prm.partnerAddr ≠ 0 then prmN s Prm.partnerAddr else s.pair.partner.addr

/-- A flow that is never reclaimed (15 R456): TC0 and TC1, the partner's, a safety master's, a bound mailbox's. -/
def flowPinned (s : State) (a c : Nat) : Bool :=
  c ≤ 1 || (pairMode s && a = partnerNode s && a ≠ 0) || (masters s).contains a ||
  s.mbx.mbx.any (fun b => (b.bound.map (·.1)) == some (Source.fabric a))

/-- Plane a new flow of TC3 or TC4 uses: FABRIC_PREF, the other where that has no route (15 R455). -/
def flowPlane (s : State) (a : Nat) : Nat :=
  let q := prmN s Prm.fabricPref
  if (routeTo s q a).isSome then q else 1 - q

/-- The flow that is reclaimed: the TC3 or TC4 flow idle longest, for at least 10 s (15 R456). -/
def idleFlow (s : State) : Option Flow :=
  (s.fab.flows.filter (fun f => !flowPinned s f.addr f.cls && 3 ≤ f.cls && f.usedAt + sec 10 ≤ s.now)).foldl
    (fun b f => match b with
      | none => some f
      | some g => if f.usedAt < g.usedAt then some f else some g) none

/-- Use the flow of an address and class, created by its first frame; false when no entry can be had: FLOW_TABLE_FULL counts
and the frame is discarded (15 R456). -/
def useFlow (a c : Nat) (g : Flow → Flow) (s : State) : Bool × State :=
  let touch (f : Flow) : Flow := { g f with frames := f.frames + 1, usedAt := s.now }
  let fresh : Flow := touch ⟨a, c, 0, none, if c < 3 then 0 else flowPlane s a, 0, 0, 0, [], s.now, none⟩
  if s.fab.flows.any (fun f => f.addr = a && f.cls = c) then
    (true, { s with fab.flows := s.fab.flows.map (fun f => if f.addr = a && f.cls = c then touch f else f) })
  else if s.fab.flows.length < 64 then (true, { s with fab.flows := s.fab.flows ++ [fresh] })
  else match idleFlow s with
    | some o => (true, { s with fab.flows := s.fab.flows.filter (fun f => f.addr ≠ o.addr || f.cls ≠ o.cls) ++ [fresh] })
    | none => (false, { s with fab.full := s.fab.full + 1 })

/-- A frame is sent in a flow with the FLOW_SEQ that it is given; the flow's counts on (15 R435, R456). -/
def sendInFlow (a c : Nat) (f : Nat → State → State) (s : State) : State :=
  let seq := ((s.fab.flows.find? (fun x => x.addr = a && x.cls = c)).map (·.tx)).getD 0
  let r := useFlow a c (fun x => { x with tx := (x.tx + 1) % 65536 }) s
  if r.1 then f seq r.2 else r.2

/-- The group address of every fabric frame, 03-52-4E-00-00-00 (15 R433). -/
def groupMac : List Byte := [0x03, 0x52, 0x4E, 0, 0, 0]

/-- A frame as a port sends it: group address, the port's own address and EtherType, each high byte first, header and payload, zeros
up to 64 bytes, and the FCS, low byte first (15 R432, R433, R435; the IEEE 802.3 orders PRESUMED, notes/assumptions/44.md). -/
def etherFrame (s : State) (p k : Nat) (body : List Byte) : List Byte :=
  let b := groupMac ++ (leBytes 6 (Config.portMac p k)).reverse ++ (leBytes 2 (prmN s Prm.fabricEthertype)).reverse ++ body ++
    List.replicate (46 - body.length) 0
  b ++ leBytes 4 (crc32 b)

/-- Send a pair message on PAIR, in a frame of the module's first address (14 R407). -/
def sendOnPair (b : List Byte) (s : State) : State := emit (.pair (etherFrame s 0 1 b)) s

/-- The 16 bytes of a fabric header at its source, TRACE 0 (15 R435, R441): `str` where the string address is its SRC. -/
def fabricHead (s : State) (p type cls : Nat) (dual str : Bool) (hops dest seq len : Nat) : List Byte :=
  let named := dest ≠ 0xFFFF && (stringHolder s p dest).isSome
  leBytes 1 1 ++ leBytes 1 (cls + bit dual 3 + 16 * p + bit named 5) ++ leBytes 1 hops ++ leBytes 1 type ++ leBytes 2 dest ++
    leBytes 2 (if str then prmN s Prm.stringAddr else s.fab.node) ++ leBytes 2 seq ++ leBytes 2 len ++ leBytes 4 0

/-- The TC0 shaper of a port, 50 Mbit/s with a 768-byte burst and a queue of 4 KiB: false when the frame is dropped (15 R454). -/
def shapeTc0 (p k len : Nat) (s : State) : Bool × State :=
  let x := portOf s p k
  let earned := (s.now - x.credit.2) / 160
  let q := x.queue.getD 0 0
  let credit := min 768 (x.credit.1 + (earned - q))
  let q := q - earned
  if q = 0 ∧ len ≤ credit then
    (true, setPort p k (fun x => { x with credit := (credit - len, s.now), queue := x.queue.set 0 0 }) s)
  else if q + len ≤ 4096 then
    (true, setPort p k (fun x => { x with credit := (credit, s.now), queue := x.queue.set 0 (q + len), tc0Over := x.tc0Over + 1 }) s)
  else
    (false, setPort p k (fun x => { x with credit := (credit, s.now), queue := x.queue.set 0 q, tc0Over := x.tc0Over + 1,
                                           tc0Drop := x.tc0Drop + 1, drops := x.drops.modify 0 (· + 1) }) s)

/-- Put a frame with this header and payload on a port in its class. -/
def onPort (p k cls : Nat) (body : List Byte) (s : State) : State :=
  if !portOn s p k then s
  else
    let f := etherFrame s p k body
    if cls = 0 then
      let r := shapeTc0 p k f.length s
      if r.1 then emit (.fabric p k f) r.2 else r.2
    else emit (.fabric p k f) s

/-- Put a frame of this module on a plane: every adjacent port for a broadcast, the route's port otherwise (15 R446, R447). -/
def placeOnPlane (p type cls : Nat) (dual str : Bool) (dest : Nat) (b : List Byte) (seq : Nat) (s : State) : State :=
  let body := fabricHead s p type cls dual str 16 dest seq b.length ++ b
  if dest = 0xFFFF then eachDo [1, 2, 3] (fun k s => if (portOf s p k).adj then onPort p k cls body s else s) s
  else match routeTo s p dest with
    | some r => onPort p r.port cls body s
    | none => s

/-- Send a frame on a plane. -/
def sendOnPlane (p type cls dest : Nat) (b : List Byte) : State → State :=
  sendInFlow dest cls (placeOnPlane p type cls false false dest b)

/-- Send a DUAL frame: one copy on each plane under one FLOW_SEQ (15 R455). -/
def sendDual (type cls dest : Nat) (b : List Byte) : State → State :=
  sendInFlow dest cls (fun seq s => placeOnPlane 1 type cls true false dest b seq (placeOnPlane 0 type cls true false dest b seq s))

/-- Send a frame of TC3 or TC4 on the plane its flow uses (15 R455). -/
def sendFlow (type cls : Nat) (str : Bool) (dest : Nat) (b : List Byte) : State → State :=
  sendInFlow dest cls (fun seq s =>
    placeOnPlane (((s.fab.flows.find? (fun f => f.addr = dest && f.cls = cls)).map (·.plane)).getD 0) type cls false str dest b seq s)

/-- A frame addressed to this node: its address, broadcast, or the string address while it advertises it (15 R435, R441). -/
def forThisNode (s : State) (dst : Nat) : Bool :=
  dst = s.fab.node || dst = 0xFFFF || (advertises s && dst = prmN s Prm.stringAddr)

/-- Hello payload, 40 bytes (15 R442). -/
def helloBytes (s : State) (p k : Nat) (withdraw : Bool) : List Byte :=
  let x := portOf s p k
  let rx := x.rcvd.head?
  let tx := x.sent.head?
  leBytes 2 s.fab.node ++ leBytes 1 (k + 128 * p) ++
  leBytes 1 (bit s.fab.provisional 0 + bit withdraw 2 + bit (s.core.mode == .dormant) 3) ++ leBytes 8 s.core.serial ++
  leBytes 2 x.txSeq ++ leBytes 2 ((x.nbr.map (·.1)).getD 0) ++
  leBytes 8 ((rx.map (·.2)).getD 0) ++ leBytes 2 ((rx.map (·.1)).getD 0) ++
  leBytes 8 ((tx.map (·.2)).getD 0) ++ leBytes 2 ((tx.map (·.1)).getD 0) ++ leBytes 4 0

/-- Send a hello on a port: HOPS_LEFT 1, in the flow of TC1 broadcasts (15 R435, R442; the flow DEDUCED,
notes/assumptions/44.md). -/
def sendHello (p k : Nat) (withdraw : Bool) (s : State) : State :=
  if !portOn s p k then s
  else
    let b := helloBytes s p k withdraw
    let s := sendInFlow 0xFFFF 1 (fun seq s => onPort p k 1 (fabricHead s p 1 1 false false 1 0xFFFF seq b.length ++ b) s) s
    setPort p k (fun x => { x with txSeq := (x.txSeq + 1) % 65536, sent := ((x.txSeq, stampNow s) :: x.sent).take 16 }) s

/-- The six ports. -/
def allPorts : List (Nat × Nat) := [(0, 1), (0, 2), (0, 3), (1, 1), (1, 2), (1, 3)]

/-- The next flood of both planes carries a change (15 R445). -/
def markChanged (s : State) : State := setPlane 1 (fun x => { x with changed := true }) (setPlane 0 (fun x => { x with changed := true }) s)

/-- Take another node address: WITHDRAW hellos under the old one, then hellos under the new one (15 R439). -/
def changeNode (a : Nat) (s : State) : State :=
  let a := if a = 0 then provisionalOf s.core.serial else a
  let s := eachDo allPorts (fun q s => sendHello q.1 q.2 true s) s
  let s := { s with fab.node := a, fab.provisional := a / 256 = 3, fab.nextNode := none }
  markChanged (eachDo allPorts (fun q s => sendHello q.1 q.2 false s) s)

/-! ## Mailbox answers (13 R376 to R381) -/

/-- Status code (13 R381). -/
def Status.code : Status → Nat
  | .done => 0 | .pending => 1 | .wrongMode => 2 | .badArgument => 3 | .notAuthorised => 4 | .mailboxBusy => 5
  | .refusedGuard => 6 | .unknownCommand => 7 | .functionRunning => 8 | .tooLate => 9 | .sealPosition => 10
  | .incompatible => 11 | .execFault => 12

/-- An answer with a payload and DONE. -/
def doneWith (p : Payload) : Reply := { status := .done, payload := p }

/-- DONE with nothing. -/
def doneReply : Reply := { status := .done }

/-- An answer with a cause; FUNCTION is the cause's own function (13 R376, 18 R515). -/
def causeReply (st : Status) (cause : Nat) (detail : Nat := 0) : Reply :=
  { status := st, cause := cause, fn := if cause = 0 then 0xFF else cause / 256, detail := detail }

/-- REFUSED_GUARD with a cause. -/
def guardReply (cause : Nat) : Reply := causeReply .refusedGuard cause

/-- BAD_ARGUMENT with cause ARG_VALUE: FUNCTION is the command's, DETAIL the offset (13 R376). -/
def argReply (command off : Nat) : Reply :=
  { status := .badArgument, cause := Ev.argValue, fn := command / 256, detail := min off 255 }

/-- BAD_ARGUMENT with cause LENGTH. -/
def lengthReply : Reply := causeReply .badArgument Ev.length

/-- An answer that names a parameter (13 R376). -/
def paramReply (st : Status) (cause id : Nat) : Reply := { status := st, cause := cause, fn := id / 256, detail := id % 256 }

/-- One mailbox. -/
def mbxOf (s : State) (m : Nat) : Mailbox := s.mbx.mbx.getD m {}

/-- Change one mailbox. -/
def setMbx (m : Nat) (g : Mailbox → Mailbox) (s : State) : State := { s with mbx.mbx := s.mbx.mbx.modify m g }

/-- Attention causes on TW-SVC wait for delivery (17 R506). -/
def attention (causes : Nat) (s : State) : State :=
  if prmN s Prm.twAttnAddr = 0 then s else { s with bus.svc.attn := Nat.lor s.bus.svc.attn causes }

/-- The bytes of a response (13 R376); a payload whose layout the spec leaves open has an open length of at most 1,152. -/
def responseBytes (r : Response) : List Byte :=
  let p : List Byte := match r.reply.payload with
    | .bytes l => l
    | .fields l => openBytes "response payload" (l.map (·.2)) ((Config.openValue "response length" (l.flatMap (·.2))).toNat % 1153)
  leBytes 1 r.reply.status.code ++ leBytes 1 r.mode.code ++ leBytes 2 r.seq ++ leBytes 2 p.length ++ leBytes 1 r.readCount ++
    leBytes 1 r.reply.legal ++ leBytes 2 r.reply.cause ++ leBytes 1 r.reply.fn ++ leBytes 1 r.reply.detail ++ p

/-- The envelope of a response (13 R372). -/
def responseEnvelope (m : Nat) (r : Response) : List Byte := leBytes 1 0x81 ++ leBytes 1 m ++ responseBytes r

/-- SVC_IP, SVC_NETMASK, SVC_GATEWAY and SVC_UDP_PORT in force, as numbers (13 R401). -/
def svcPathOf (s : State) : List Nat :=
  [ipNumber (prm s Prm.svcIp), ipNumber (prm s Prm.svcNetmask), ipNumber (prm s Prm.svcGateway), prmN s Prm.svcUdpPort]

/-- Send an envelope on SVC to the address and port it came from; one outside the subnet goes by the gateway, where there is one
(13 R371, R401). -/
def sendDatagram (ip port : Nat) (b : List Byte) (s : State) : State :=
  let p (k : Nat) : Nat := s.mbx.svcPath.getD k 0
  let near := Nat.land ip (p 1) == Nat.land (p 0) (p 1)
  emit (.datagram (if near || p 2 = 0 then ip else p 2) (p 0) (p 3) ip port b) s

/-- Deliver a response on its path; on the fabric it travels in its flow of TC3, one of REC_READ in TC4, from the string address where the request went to
that (13 R376; 15 R436, R441, R455, R456; 18 R523). -/
def deliver (m : Nat) (src : Source) (r : Response) (s : State) : State := match src with
  | .fabric a => sendFlow (if r.records then 8 else 3) (if r.records then 4 else 3) r.str a (responseEnvelope m r) s
  | .udp ip port => sendDatagram ip port (responseEnvelope m r) s
  | .tw => emit (.response m src (responseEnvelope m r)) s

/-- Form the response to the pending request and hold it; mailboxes 0 to 6 send it once, mailbox 7 calls for attention
(13 R376, R379; 17 R506). -/
def formResponse (m : Nat) (r : Reply) (s : State) : State :=
  let b := mbxOf s m
  let resp : Response :=
    { reply := r, mode := s.core.mode, seq := (b.req.map (·.seq)).getD 0, readCount := if m < 7 then 1 else 0,
      str := (b.req.map (·.str)).getD false, records := (b.req.map (·.command)) == some Cmd.recRead }
  let s := setMbx m (fun b => { b with phase := .holding, held := some resp, heldSince := s.now, result := none, started := false }) s
  if m < 7 then
    match b.bound with
    | some (src, _) => deliver m src resp s
    | none => s
  else attention 1 { s with bus.svc.ready := true }

/-- Count a NOT_AUTHORISED response; five within 60 s lock GET_CHALLENGE for 60 s, which is recorded (13 R397). -/
def countRefused (m : Nat) (s : State) : State :=
  let times := (mbxOf s m).naTimes.filter (fun a => s.now < a + sec 60) ++ [s.now]
  let s := setMbx m (fun b => { b with naCount := b.naCount + 1, naTimes := times }) s
  if 5 ≤ times.length then
    record Ev.authLockout 6 [m] (setMbx m (fun b => { b with lockedUntil := s.now + sec 60, naTimes := [] }) s)
  else s

/-- Answer a request at once: the response is formed now (13 R382). -/
def answerNow (m : Nat) (r : Reply) (s : State) : State :=
  let s := if r.status == .notAuthorised then countRefused m s else s
  formResponse m r s

/-- End a command: its result waits for COMMAND_DONE to form the response (13 R379). -/
def finish (m : Nat) (r : Reply) (s : State) : State := setMbx m (fun b => { b with result := some r, started := true }) s

/-- End the command that a job answers for: only while the mailbox still holds that request, started and without a result
(13 R348, R383). The answer of a refusal is formed at once. Number 8 stands for the forerunner map, whose status byte follows
its last command (17 R498). -/
def finishJob (m : Option Nat) (cmd : Nat) (r : Reply) (s : State) : State := match m with
  | none => s
  | some 8 =>
    { s with bus.can := s.bus.can.modify 0 (fun (c : Can) => if c.mapCmd = cmd then { c with mapStatus := r.status } else c) }
  | some m =>
    let b := mbxOf s m
    if b.phase == .pending && b.started && b.result.isNone && (b.req.map (·.command)) == some cmd then
      if r.status == .done || r.status == .execFault then finish m r s else answerNow m r s
    else s

/-- The command has started and has not ended (13 R382). -/
def startCommand (m : Nat) (s : State) : State := setMbx m (fun b => { b with started := true }) s

/-- The pending request of a mailbox that carries a command and has not been served yet. -/
def requestOf (s : State) (m cmd : Nat) : Option Request :=
  let b := mbxOf s m
  if b.phase == .pending && !b.started && b.result.isNone then b.req.filter (fun r => r.command = cmd) else none

/-- What a handler answers: an end, or a command that goes on. -/
inductive Answer where
  /-- It ends with this reply. -/
  | ends (r : Reply)
  /-- It has begun and ends later. -/
  | goesOn
  deriving DecidableEq, Repr

/-- Give an answer to a mailbox: refusals are formed at once, DONE and EXEC_FAULT wait for COMMAND_DONE. -/
def giveAnswer (m : Nat) (a : Answer) (s : State) : State := match a with
  | .goesOn => s
  | .ends r => if r.status == .done || r.status == .execFault then finish m r s else answerNow m r s

/-- Serve a host command: the pending request of the mailbox, if it carries this command, meets its handler, which checks
function state, payload and guards and acts (13 R382 steps 6 to 8). A mailbox with no such request is left as it is. -/
def serve (m cmd : Nat) (h : Request → State → Answer × State) (s : State) : State :=
  match requestOf s m cmd with
  | none => s
  | some r => let p := h r (startCommand m s); giveAnswer m p.1 p.2

/-- A handler that demands a payload length first (13 R382). -/
def withLength (n : Nat) (h : List Byte → State → Answer × State) (r : Request) (s : State) : Answer × State :=
  if r.payload.length = n then h r.payload s else (.ends lengthReply, s)

/-- Refuse and change nothing. -/
def refuse (r : Reply) (s : State) : Answer × State := (.ends r, s)

/-- End with a reply after a change. -/
def answerWith (r : Reply) (s : State) : Answer × State := (.ends r, s)

/-- DONE after a change. -/
def ok (s : State) : Answer × State := (.ends doneReply, s)

/-- DONE with a payload, nothing changed. -/
def okWith (p : Payload) (s : State) : Answer × State := (.ends (doneWith p), s)

/-- A status command of a function: no payload in, a payload out. -/
def statusHandler (p : State → Payload) : Request → State → Answer × State :=
  withLength 0 (fun _ s => okWith (p s) s)

/-! ## Measured current -/

/-- The current that two readings of CS-SHUNT and CS-HALL give: the shunt's while it is in service, else the Hall sensor's, none when
both have failed (06 R194). -/
def currentOf (s : State) (shunt hall : Option Int) : Option Int :=
  if !s.ctrl.shuntFail && shunt.isSome then shunt
  else if !s.ctrl.hallFail then hall else none

/-- The string current: CS-SHUNT while it is in service, else CS-HALL, none when both have failed (06 R194). -/
def stringCurrent (s : State) : Option Int := currentOf s s.ctrl.shunt s.ctrl.hall

/-- Both current sensors have failed (06 R195). -/
def bothFailed (s : State) : Bool := s.ctrl.shuntFail && s.ctrl.hallFail

/-- A magnitude above 2 % of I_RATED. -/
def aboveTwo (s : State) (i : Int) : Bool := iRated s < 50 * i.natAbs

/-- The string current's magnitude is above 2 % of I_RATED. -/
def currentAbove (s : State) : Bool := ((stringCurrent s).map (aboveTwo s)).getD false

/-! ## Coils, rings, lists -/

/-- Coil output Kn, n from 0. -/
def coil (s : State) (n : Nat) : CoilOut := s.con.k.getD n {}

/-- Change a coil output. -/
def setCoil (n : Nat) (g : CoilOut → CoilOut) (s : State) : State := { s with con.k := s.con.k.modify n g }

/-- The coil is driven: both switches closed, or one open for a test off-pulse (10 R299, R305). -/
def driven (c : CoilOut) : Bool := (c.hs && c.ls) || ((c.hs || c.ls) && (c.pulse.map (·.off)).getD false)

/-- An output is de-energised when both switches are open; with one of them closed its coil may freewheel. An on-pulse creates no
coil current (10 R299, R305). -/
def energised (c : CoilOut) : Bool := (c.hs || c.ls) && !((c.pulse.map (fun p => !p.off)).getD false)

/-- Some contactor is closed or an output energised. -/
def contactorsClosed (s : State) : Bool := s.con.k.any (fun c => energised c || c.kf)

/-- Any of K1 to K4 is energised. -/
def anyEnergised (s : State) : Bool := s.con.k.any energised

/-- A ring. -/
def ringOf (s : State) (r : Nat) : Ring := s.rings.ring.getD r {}

/-- Change a ring. -/
def setRing (r : Nat) (g : Ring → Ring) (s : State) : State := { s with rings.ring := s.rings.ring.modify r g }

/-- A tap, ring x 16 + position - 1. -/
def tapOf (s : State) (i : Nat) : Tap := s.rings.tap.getD i {}

/-- Change a tap. -/
def setTap (i : Nat) (g : Tap → Tap) (s : State) : State := { s with rings.tap := s.rings.tap.modify i g }

/-- What the module knows of a position, p from 1. -/
def posOf (s : State) (r p : Nat) : RingPos := (ringOf s r).pos.getD (p - 1) {}

/-- Change what the module knows of a position. -/
def setPos (r p : Nat) (g : RingPos → RingPos) (s : State) : State :=
  setRing r (fun x => { x with pos := x.pos.modify (p - 1) g }) s

/-- Number of taps last enumerated on a ring. -/
def tapCount (s : State) (r : Nat) : Nat := (ringOf s r).n.getD 0

/-- A cell is fitted: its position stands in the ring map (04 R105, 09 R263). -/
def cellFitted (s : State) (c : Nat) : Bool := c % 256 / 16 + 1 ≤ tapCount s (c / 256)

/-- The fitted cells, by index ring x 256 + (position - 1) x 16 + channel. -/
def fittedCells (s : State) : List Nat := (List.range 512).filter (cellFitted s)

/-- Island k. -/
def islandOf (s : State) (k : Nat) : Island := s.isl.isl.getD k {}

/-- Change island k. -/
def setIsland (k : Nat) (g : Island → Island) (s : State) : State := { s with isl.isl := s.isl.isl.modify k g }

/-- The values that crossed into or out of an island are absent at their consumers: the sweep (I4), the contexts' limits and
temperatures (I5), the candidates and the averages of role S (I6), SAFETY_CEIL (I7) (01 R18; 06 R176). The other islands hand on
no value that is used again. -/
def valuesAbsent (k : Nat) (s : State) : State :=
  if k = 4 then { s with rings.cells := List.replicate 512 {}, rings.temps := List.replicate 256 none, rings.mark := none }
  else if k = 5 then { s with est.flushAt := some s.now }
  else if k = 6 then
    { s with ctrl.plating := none, ctrl.platingCell := none, ctrl.cellMax := none, ctrl.cellMin := none, ctrl.derChg := none,
             ctrl.derDis := none, ctrl.linkMin := none, ctrl.linkMax := none, ctrl.therm := none, disp.vStr := none,
             disp.vLnk := none, saf.ceilChg := 0, saf.ceilDis := 0 }
  else if k = 7 then { s with saf.ceilChg := 0, saf.ceilDis := 0 }
  else s

/-- The CROSSING_FLUSH markers of an island's crossings reach their consumers (01 R18). -/
def flushMarkers (k : Nat) (s : State) : State :=
  setIsland k (fun i => { i with flushes := i.flushes + 1 }) (valuesAbsent k s)

/-- Flush an island's crossings, with its record. -/
def flushCrossings (k : Nat) (s : State) : State := record Ev.crossingFlush 3 [k] (flushMarkers k s)

/-- The partner follows: its FOLLOWER slot was driven in the last valid round (14 R415). -/
def partnerFollows (s : State) : Bool :=
  pairMode s && ((s.pair.last.map (·.follower)).getD false)

end Sys2Proof.Machine
end

