-- ==== Sys2Proof/Machine/Transitions.lean ====
section
/-!
DEFINITION. Machine/Transitions.lean: what several families do alike: gates off, mode changes, trips and the safe state,
opening a coil output, aborting an impedance window, sending ring and fabric messages (05 R141, 07 R217 to R227, 09 R259 to
R272, 10 R299 to R317, 12 R348 to R351).
-/

namespace Sys2Proof.Machine

open Sys2Proof

/-! ## Impedance and dispatch -/

/-- Amplitude of the excitation at an instant: rising over the first 2 ms of the lead, falling over 2 ms after the end or
an abort (05 R142). -/
def excAmp (s : State) : Int :=
  match s.imp.fade with
  | some (t0, a) => if s.now < t0 + ms 2 then a * ((t0 + ms 2 - s.now : Nat) : Int) / (ms 2 : Nat) else 0
  | none => match s.imp.st with
    | .lead | .integrating =>
      if s.now < s.imp.leadAt + ms 2 then s.imp.amp * ((s.now - s.imp.leadAt : Nat) : Int) / (ms 2 : Nat) else s.imp.amp
    | _ => 0

/-- The running lead or window is aborted with its cause; the excitation falls to zero over 2 ms (05 R141, R142). -/
def impAbort (cause : Nat) (s : State) : State :=
  if s.imp.st == .lead || s.imp.st == .integrating then
    record cause 1 [s.imp.wid]
      { s with imp.fade := some (s.now, excAmp s), imp.st := .idle, imp.stopTaps := s.imp.armed,
               imp.armed := [], imp.toRead := [],
               imp.aborts := s.imp.aborts.modify (cause % 256) (· + 1) }
  else s

/-- Exit from Run and STOP of dispatch: r_p and the target to 0 A, the queue cleared with its release; an accepted link target stays
(08 R234, R249). -/
def clearDispatch (s : State) : State :=
  { s with disp.rp := 0, disp.target := ⟨0, 0, none, 0, 9, false⟩,
           disp.imm := s.disp.imm.filter (·.kind == 2), disp.queue := [], disp.targetI := 0,
           tim.trig := s.tim.trig.modify 8 (fun g => { g with on := false }) }

/-- DISPATCH_RESET (08 R249). -/
def dispatchReset (s : State) : State := record Ev.dispatchReset 1 [] (clearDispatch s)

/-! ## Gate lanes (07 R210, R222, R227) -/

/-- Lanes fitted: set bits of PHASE_MASK, as indices 0 to 7. -/
def fittedLanes (s : State) : List Nat := (List.range 8).filter (bitOf (prmN s Prm.phaseMask))

/-- A gate lane. -/
def laneOf (s : State) (n : Nat) : Lane := s.conv.lane.getD n {}

/-- Change a gate lane. -/
def setLane (n : Nat) (g : Lane → Lane) (s : State) : State := { s with conv.lane := s.conv.lane.modify n g }

/-- A phase. -/
def phaseOf (s : State) (n : Nat) : Phase := s.conv.ph.getD n {}

/-- Change a phase. -/
def setPhase (n : Nat) (g : Phase → Phase) (s : State) : State := { s with conv.ph := s.conv.ph.modify n g }

/-- Usable phases: fitted, with the lane up (07 R210). -/
def usablePhases (s : State) : List Nat := (fittedLanes s).filter (fun n => (laneOf s n).up)

/-- Active phases in firing order. -/
def activePhases (s : State) : List Nat := (List.range 8).filter (fun n => (phaseOf s n).active)

/-- STATE that a list of edges leaves in force at an instant of 250 ps. -/
def stateAt (l : List (Nat × Nat)) (t4 : Nat) : Nat := ((l.filter (fun e => decide (e.1 ≤ t4))).getLast?.map (·.2)).getD 0

/-- The gate byte of an edge, in slots from an instant: slot, and STATE with OFFSET (07 R222). -/
def gateByte (from4 : Nat) (e : Nat × Nat) : Nat × Nat := ((e.1 - from4) / 64, 64 * e.2 + (e.1 - from4) % 64)

/-- Send edges on a lane from now on, in place of those planned and not yet sent (07 R222). A lane whose transmitter is off
sends nothing. -/
def sendEdges (n : Nat) (l : List (Nat × Nat)) (s : State) : State :=
  let t4 := 4 * s.now
  let sent := ((laneOf s n).edges.filter (fun e => decide (e.1 < t4))).reverse.take 6
  let s := setLane n (fun x => { x with edges := sent.reverse ++ l }) s
  if (laneOf s n).txOff then s else emit (.gate (n + 1) t4 (l.map (gateByte t4))) s

/-- STATE 0b00 with OFFSET 0 from now on. -/
def darkLane (n : Nat) (s : State) : State := sendEdges n [(4 * s.now, 0)] s

/-- STATE 0b00 in every gate slot of every fitted lane (01 R31, R33; 07 R227). -/
def darkLanes (s : State) : State := eachDo (fittedLanes s) darkLane s

/-- The lanes may carry switch-on states: the lane enable is high, the gate-inhibit line released, and the token held
(01 R31, 07 R227, 14 R414). -/
def lanesLive (s : State) : Bool := s.saf.laneEnable && !s.saf.gateInhibit && holdsToken s

/-- Dome drops the enables of GL1 to GL8 (01 R32, R33; 09 R254). -/
def dropEnable (s : State) : State := darkLanes { s with saf.laneEnable := false }

/-- The safety processor asserts the gate-inhibit line (01 R31, R32). -/
def inhibitGates (s : State) : State := darkLanes { s with saf.gateInhibit := true }

/-- Neither channel has a demand and both run on a loaded set (09 R256, R257, R298). -/
def channelsPermit (s : State) : Bool := !s.saf.spDemand && !s.saf.domeDemand && s.saf.loaded && running s 8

/-- Both channels release their gate means as far as they permit: the gate-inhibit line by the demands, the enables also by the
token (01 R31; 09 R256, R257; 14 R414). -/
def releaseGates (s : State) : State :=
  { s with saf.gateInhibit := !channelsPermit s, saf.laneEnable := channelsPermit s && holdsToken s }

/-! ## Gates off -/

/-- A phase whose switches are held off. A phase that is to be added again keeps that (07 R211). -/
def phaseOff (p : Phase) : Phase :=
  { p with active := false, dropping := false, swap := false, waiting := false, run := 0, hit := false, integ := 0,
           boundSince := none, mean := none, started := false, cycles := 0, onEnd := 0, valley := 0 }

/-- The converter switches, or waits to retry. -/
def switching (s : State) : Bool := match s.conv.st with
  | .off | .retryWait => false
  | _ => true

/-- The gates turn off with a cause: every phase holds both switches off, the winner is NONE, the applied value and r_p are
0 A, link regulation ends, a lead or window is aborted, a retry is cancelled (06 R176, R183; 07 R217, R220; 05 R141). -/
def gatesOff (cause : Nat) (s : State) : State :=
  let was := s.conv.st != .off
  let s := { s with
    conv.st := .off, conv.na := 0, conv.packet := 0, conv.burstExit := false, conv.lowSince := none,
    conv.ph := s.conv.ph.map (fun p => { phaseOff p with adding := false }), conv.ssAt := none, conv.offCause := if was then cause else s.conv.offCause,
    ctrl.win := 0xFF, ctrl.applied := 0, ctrl.reference := 0, ctrl.request := 0, ctrl.trim := 0,
    disp.rp := 0, disp.vs := none, imp.gateOff := s.imp.gateOff || was }
  impAbort Ev.impGates (darkLanes s)

/-! ## Coil outputs -/

/-- A contactor count has reached K_LIFE_WARN: K_WEAR (10 R317). -/
def judgeWear (n : Nat) (s : State) : State :=
  let c := coil s n
  if !c.wear && (prmN s Prm.kLifeWarn ≤ c.closings || prmN s Prm.kLifeWarn ≤ c.loadOpens) then
    record Ev.kWear 3 [n + 1] (setCoil n (fun c => { c with wear := true }) s)
  else s

/-- A precharge attempt ends when K3 is de-energised: it enters the history, the model is written to NVM (10 R313, R322). -/
def endAttempt (s : State) : State := match s.con.attempt with
  | none => s
  | some a => { s with
      con.attempt := none, con.history := ({ a with energy := s.con.energy } :: s.con.history).take 8,
      con.lastEnd := some s.now, con.eNvm := if s.thm.forbid then s.con.eNvm else s.con.energy,
      con.eNvmAt := if s.thm.forbid then s.con.eNvmAt else s.con.eAt }

/-- A driven coil loses its drive under load: recorded and counted (10 R315, R317). -/
def openedUnderLoad (n : Nat) (s : State) : State :=
  judgeWear n (record Ev.openUnderLoad 4 [n + 1, (stringCurrent s).getD 0]
    (setCoil n (fun c => { c with loadOpens := c.loadOpens + 1 }) s))

/-- Switches of an output open: the high side where `high`, the low side where `low`; a pulse in progress ends with both open
(10 R308). With both open the output is de-energised; with one still closed its coil freewheels (10 R299). -/
def openSwitches (high low : Bool) (n : Nat) (s : State) : State :=
  let c := coil s n
  let hs := c.hs && !high && c.pulse.isNone
  let ls := c.ls && !low && c.pulse.isNone
  let off := !hs && !ls
  let s := setCoil n (fun c => { c with hs := hs, ls := ls, pullIn := false, pulse := none,
                                        offAt := if energised c && off then s.now else c.offAt }) s
  let s := if n = 2 && off then endAttempt s else s
  if driven c && c.confirmed && currentAbove s then openedUnderLoad n s else s

/-- De-energise an output: the safety processor opens its high-side switch and withdraws the request, on which Dome opens its
low-side switch (09 R259; 10 R299, R308, R315, R317). -/
def openCoil (n : Nat) (s : State) : State := openSwitches true true n (setCoil n (fun c => { c with request := false }) s)

/-- Dome alone opens its low-side switches of K1 to K4: no request is withdrawn, no high-side switch moves (09 R254, R259). -/
def domeOpens (s : State) : State := eachDo (List.range 4) (openSwitches false true) s

/-- End a test pulse and discard its result: an off-pulse closes its switch again, an on-pulse opens it (10 R308). -/
def discardPulse (c : CoilOut) : CoilOut := match c.pulse with
  | none => c
  | some p =>
    if p.high then { c with hs := p.off, pulse := none } else { c with ls := p.off, pulse := none }

/-- Energise an output: both switches closed, pull-in begins; a running on-pulse is discarded (10 R300, R308). -/
def energiseCoil (n : Nat) (s : State) : State :=
  setCoil n (fun c => { c with request := true, hs := true, ls := true, pulse := none, onAt := s.now, pullIn := true,
                               ever := true, confirmed := false }) s

/-! ## Modes -/

/-- ST-OK: closed in modes 1 to 6 (20 R558). -/
def stOkIn (m : Mode) : Bool := match m with
  | .shelf | .tripped => false
  | _ => true

/-- The pair state through a mode change: an override ends (14 R425); a standby that trips follows no longer and claims role 0
(14 R410); a paired module that comes to Watch without being active listens for the choice of R418. -/
def pairIn (old m : Mode) (p : Pair) (paired : Bool) : Pair :=
  let p := if p.override.isSome then { p with override := none, role := 0 } else p
  let p := if m == .tripped && p.standby then { p with standby := false, role := 0, follow := List.replicate 4 false } else p
  if paired && m == .watch && p.role ≠ 8 && p.takeover.isNone && p.swap.isNone && (old == .tripped || old == .service || old == .dormant) then
    { p with listening := some 0, heard8 := false, losingSince := none }
  else p

/-- The ports of a plane carry traffic again. -/
def portsAwake (p : Plane) : Plane := { p with port := p.port.map (fun (y : Port) => { y with quiet := false, good := 0 }) }

/-- Change mode (12 R348, R349): recorded; impedance windows end outside Run and Hold (05 R141); leaving Run resets dispatch
(08 R249); a mode change ends a retry wait and an override (07 R220, 14 R425); Watch clears the attempt count (07 R220);
leaving Dormant opens the fabric ports, and full-rate sweeps of an isolated module start at the next whole second (12 R368);
Connect discards test pulses (10 R308); Tripped sends BAL_STOP (03 R101); TW-SVC calls for attention (17 R506). -/
def setMode (m : Mode) (cause : Nat) (s : State) : State :=
  if s.core.mode == m then s
  else
    let old := s.core.mode
    let s := if old == .run then dispatchReset s else s
    let s := if m == .run || m == .hold then s else impAbort Ev.impMode s
    let s := { s with
      core.mode := m, core.prevMode := old, core.modeSince := s.now, core.lastCause := cause, core.quietSince := s.now,
      core.nvmTripped := (m == .tripped) || (m == .shelf && s.core.nvmTripped),
      core.stOk := stOkIn m, core.stFlt := s.core.stFlt || m == .tripped,
      isl.isl := s.isl.isl.map (fun i => { i with heldIdle := false }),
      conv.st := if s.conv.st == .retryWait then .off else s.conv.st,
      conv.fails := if m == .watch then 0 else s.conv.fails,
      con.k := if m == .connect then s.con.k.map discardPulse else s.con.k,
      pair := pairIn old m s.pair (pairMode s),
      fab.plane := if old == .dormant then s.fab.plane.map portsAwake else s.fab.plane,
      rings.resumeAt := if old == .dormant && !s.core.pairStandbyProfile && s.pair.takeover.isNone then nextGrid s (sec 1)
        else s.rings.resumeAt,
      rings.balStopDue := if m == .tripped then [true, true] else s.rings.balStopDue }
    attention (2 + if m == .tripped then 4 else 0) (record Ev.modeChange 1 [old.code, m.code, cause] s)

/-- A gate-off cause that ends in Hold: recorded as FAULT, gates off, Run becomes Hold (12 R349, 18 R517). -/
def faultToHold (cause : Nat) (data : List Int) (s : State) : State :=
  let s := gatesOff cause (record cause 4 data s)
  if s.core.mode == .run then setMode .hold cause s else s

/-! ## Ring, fabric and pair messages -/

/-- A safety message of this module (09 R281). -/
def safetyMessage (s : State) (type dst : Nat) (body : List Byte) : List Byte :=
  let single := (planeOf s 0).failed != (planeOf s 1).failed
  let head := leBytes 1 1 ++ leBytes 1 type ++ leBytes 2 s.fab.node ++ leBytes 2 dst ++ leBytes 2 body.length ++
    leBytes 4 s.saf.txSeq ++ leBytes 8 (stampNow s) ++ leBytes 1 (bit single 0) ++ leBytes 3 0 ++ body
  head ++ leBytes 4 (crc32 head)

/-- Bit mask of the latched safety functions, SF1 in bit 0. -/
def sfMask (s : State) : Nat := maskOf (s.saf.sf.map (fun f => f.latchedSp || f.latchedDome))

/-- TRIP_NOTICE to the broadcast address on both planes and over PAIR (09 R286, 14 R407). -/
def sendTripNotice (cause : Nat) (s : State) : State :=
  let msg := safetyMessage s 4 0xFFFF (leBytes 2 (sfMask s) ++ leBytes 2 cause ++ leBytes 8 (stampNow s))
  let s := sendDual 4 0 0xFFFF msg s
  let s := if pairMode s then sendOnPair (leBytes 1 3 ++ leBytes 3 0 ++ msg) s else s
  { s with saf.txSeq := (s.saf.txSeq + 1) % 2 ^ 32 }

/-! ## Pair messages (14 R406, R407, R424) -/

/-- Send a pair message on PAIR and, where the partner's address is known, in a class on both planes. -/
def sendPair (cls : Nat) (b : List Byte) (s : State) : State :=
  let s := sendOnPair b s
  if partnerNode s = 0 then s
  else sendOnPlane 1 5 cls (partnerNode s) b (sendOnPlane 0 5 cls (partnerNode s) b s)

/-- A swap step, 32 bytes (14 R407). -/
def swapBytes (s : State) (step id epoch cause mark ckpt : Nat) : List Byte :=
  leBytes 1 4 ++ leBytes 1 step ++ leBytes 2 id ++ leBytes 2 epoch ++ leBytes 2 cause ++ leBytes 8 mark ++
  leBytes 8 (stampNow s) ++ leBytes 4 ckpt ++ leBytes 4 0

/-- Send the step a swap stands at; 5 is ABORT with its cause. -/
def sendSwap (step cause : Nat) (w : Swap) : State → State := fun s =>
  sendPair 0 (swapBytes s step w.id w.epoch cause (if step = 3 || step = 4 then w.mark else 0)
    (if step = 1 || step = 3 then w.ckpt else 0)) s

/-- The gates are off and the current low: HAND names the mark after the next one (14 R424). -/
def sendHand (s : State) : State := match s.pair.swap with
  | none => s
  | some w =>
    let n := nextGrid s (us s.rings.period) + us s.rings.period
    let w := { w with step := 3, since := s.now, ramping := false, mark := stampAt s n }
    sendSwap 3 0 w { s with pair.swap := some w }

/-! ## Trips (09 R259 to R271) -/

/-- Causes that lie inside the module (09 R260). -/
def insideCause (code : Nat) : Bool :=
  [Ev.sf9, Ev.spSilent, Ev.domeFault, Ev.clockFault, Ev.thermalShutdown].contains code

/-- Safety function of a trip code, none for a trip that is no SF of R261; SP_SILENT is SF9 by Dome. -/
def sfOfCode (code : Nat) : Option Nat :=
  if 0x0801 ≤ code ∧ code ≤ 0x0809 then some (code - 0x0800)
  else if code = Ev.spSilent then some 9
  else if code = Ev.plantStop || code = Ev.tripInOpen || code = Ev.safeLinkLost then some 5
  else none

/-- Latch a trip code. -/
def latchCode (code : Nat) (s : State) : State :=
  if s.saf.latched.contains code then s else { s with saf.latched := s.saf.latched ++ [code] }

/-- Note a cause as present, so that SAFE_RESET waits for it to clear (09 R271). -/
def notePresent (code : Nat) (s : State) : State :=
  if s.saf.present.contains code then s else { s with saf.present := s.saf.present ++ [code] }

/-- The cause has cleared. -/
def clearPresent (code : Nat) (s : State) : State := { s with saf.present := s.saf.present.filter (· ≠ code) }

/-- Latch a safety function in both channels and count the trip (09 R271, R273, R297). -/
def latchSf (n : Nat) (dome : Bool) (s : State) : State :=
  { s with saf.sf := s.saf.sf.modify (n - 1) (fun f => { f with
      latchedSp := true, latchedDome := true, byDome := f.byDome || dome,
      trips24h := f.trips24h.filter (fun a => s.now < a + sec 86400) ++ [s.now], tripsBoot := f.tripsBoot + 1 }) }

/-- End a Connect, an orderly opening and a HOLD in progress with EXEC_FAULT and a cause (10 R310, 12 R368). -/
def endJobs (cause : Nat) (s : State) : State :=
  let r := causeReply .execFault cause
  let s := match s.con.conn with
    | some j => finishJob j.mb Cmd.connect r { s with con.conn := none, con.attempt := s.con.attempt.map (fun (a : PreAttempt) => { a with result := cause }) }
    | none => s
  let s := match s.con.opening with
    | some j => finishJob j.mb Cmd.disconnect r { s with con.opening := none }
    | none => s
  let s := finishJob s.disp.holdMb Cmd.hold r s
  { s with disp.holdMb := none, disp.ending := 0 }

/-- The channels that find a trip cause by themselves (09 R261). -/
inductive Finder where
  /-- The safety processor. -/
  | sp
  /-- Dome. -/
  | dome
  /-- Both, each through its own receiver. -/
  | both
  deriving DecidableEq, Repr

/-- The safety processor finds it. -/
def Finder.bySp (f : Finder) : Bool := f != .dome

/-- Dome finds it. -/
def Finder.byDome (f : Finder) : Bool := f != .sp

/-- Open TRIP-OUT for a safety function named in TRIP_OUT_MASK: each channel that finds the cause opens its contact (09 R266,
10 R319). -/
def openTripOut (f : Finder) (sf : Option Nat) (code : Nat) (s : State) : State := match sf with
  | some n =>
    if bitOf (prmN s Prm.tripOutMask) (n - 1) && code ≠ Ev.tripInOpen then
      { s with saf.tripOutSp := s.saf.tripOutSp && !f.bySp, saf.tripOutDome := s.saf.tripOutDome && !f.byDome }
    else s
  | none => s

/-- What a demand of either channel does at the outputs: on-pulses end, and a standby opens its outputs at once (10 R308, 14 R416). -/
def demandOutputs (s : State) : State :=
  let s := if s.pair.standby then { eachDo (List.range 4) openCoil s with pair.follow := List.replicate 4 false } else s
  { s with con.k := s.con.k.map (fun c => if (c.pulse.map (·.off)) == some false then discardPulse c else c) }

/-- The safety processor demands: its SP_DEMAND wave stops, gate-inhibit is asserted, SAFETY_CEIL is 0 A in both directions; with
`opens` the instant from which it opens the contactors is noted once (01 R31, R32; 09 R255, R259, R270). -/
def spDemands (opens : Bool) (s : State) : State :=
  let s := { demandOutputs s with saf.spDemand := true, saf.ceilChg := 0, saf.ceilDis := 0, saf.sf8 := none }
  inhibitGates (if opens && s.saf.demandAt.isNone then { s with saf.demandAt := some s.now, saf.spOpened := false } else s)

/-- Dome demands: DOME_DEMAND rises and the lane enables drop; with `opens` its own 48 ms to 50 ms run from the first such demand
(01 R31 to R33; 09 R255, R259). -/
def domeDemands (opens : Bool) (s : State) : State :=
  let s := { demandOutputs s with saf.domeDemand := true, saf.sf8 := none }
  dropEnable (if opens && s.saf.domeOpenAt.isNone then { s with saf.domeOpenAt := some s.now } else s)

/-- The channels that find a cause demand (09 R255): the other one follows over its direct line, by SP_SILENT or DOME_DEMAND. -/
def demandBy (f : Finder) (opens : Bool) (s : State) : State :=
  onlyIf f.byDome (domeDemands opens) (onlyIf f.bySp (spDemands opens) s)

/-- The module drops its claim so that the partner takes over (09 R260, 14 R415). -/
def dropClaim (s : State) : State :=
  { s with pair.outOfRounds := true, pair.relinquish := true, pair.role := 0, pair.holderAt := some s.now }

/-- What a trip does but its record (09 R259, R260, R271, R286): latched in both channels, gates off, the finding channels demand,
TRIP-OUT and TRIP_NOTICE follow, and Tripped. In pair mode with the partner following, a cause inside the module opens no
contactor: the claim is dropped instead, and a standby, which holds no token, sends no TRIP_NOTICE (19 R543). In Shelf nothing
acts. -/
def tripCore (code : Nat) (f : Finder) (s : State) : State :=
  if s.core.mode == .shelf then s
  else
    let inside := insideCause code && (partnerFollows s || s.pair.standby)
    let s := latchCode code s
    let s := match sfOfCode code with
      | some n => latchSf n f.byDome s
      | none => s
    let s := demandBy f (!inside) (endJobs code (gatesOff code s))
    let s := openTripOut f (sfOfCode code) code s
    let s := if inside && s.pair.standby then s else sendTripNotice code s
    let s := if inside then dropClaim s else s
    let s := { s with saf.ackAt := none, saf.ackDemanded := false, saf.recheck := none,
                      upd.job := s.upd.job.map (fun j => if code = Ev.spSilent && j.id = 7 then j else { j with hold := true }) }
    setMode .tripped code s

/-- The class of a trip's record: TRIP when it enters Tripped or is THERMAL_SHUTDOWN (18 R517). -/
def tripClass (s : State) (code : Nat) : Nat := if s.core.mode == .tripped && code ≠ Ev.thermalShutdown then 3 else 5

/-- A trip with its record. -/
def trip (code : Nat) (f : Finder) (data : List Int) (s : State) : State :=
  if s.core.mode == .shelf then s else tripCore code f (record code (tripClass s code) data s)

/-- A trip whose cause stays present until something clears it. -/
def tripHeld (code : Nat) (f : Finder) (data : List Int) (s : State) : State := trip code f data (notePresent code s)

/-! ## Time-stamped edges (16 R480, R481) -/

/-- An edge less than 40 ns from the last one of its source is captured with that one (16 R480). -/
def edgeMerged (s : State) (src stamp : Nat) : Bool :=
  ((s.tim.lastEdge.getD src none).map (fun a => decide (((stamp : Int) - a).natAbs * 1000000000 < 40 * 2 ^ 32))).getD false

/-- A stamped edge enters the buffer of 512, or is lost and counted for its source (16 R480, R481). -/
def captureEdge (src : Nat) (rising : Bool) (stamp : Nat) (s : State) : State :=
  if edgeMerged s src stamp then s
  else if s.tim.edges.length < 512 then
    let e : Edge := ⟨s.tim.edgeSeq, src, bit rising 0 + bit (s.tim.lostMark.getD src false) 7, stamp⟩
    { s with tim.edges := s.tim.edges ++ [e], tim.edgeSeq := (s.tim.edgeSeq + 1) % 2 ^ 32,
             tim.lostMark := s.tim.lostMark.set src false, tim.lastEdge := s.tim.lastEdge.set src (some stamp) }
  else { s with tim.lastEdge := s.tim.lastEdge.set src (some stamp), tim.lost := s.tim.lost.modify src (· + 1), tim.lostMark := s.tim.lostMark.set src true }

/-- A record whose TIME is a captured edge, or whose stamp was lost (18 R514). -/
def recordEdge (src stamp code sev : Nat) (data : List Int) (s : State) : State :=
  let n := s.well.nextSeq
  let lost := s.tim.lostMark.getD src false
  let s := recordAt (if lost then stampNow s else stamp) code sev data s
  { s with well.buf := s.well.buf.map (fun r =>
      if r.seq = n then { r with flags := r.flags ||| (if lost then 0x10 else 0x08) } else r) }

/-- A trip whose record carries the time of an edge. -/
def tripEdge (src stamp code : Nat) (f : Finder) (data : List Int) (s : State) : State :=
  if s.core.mode == .shelf then s
  else tripCore code f (recordEdge src stamp code (tripClass s code) data (notePresent code s))

/-! ## One-shot triggers (16 R482, R483) -/

/-- Register a one-shot trigger: one whose time is already reached fires at once and is flagged to its owner (16 R483). -/
def registerOneShot (n island time : Nat) (s : State) : State :=
  let late : Bool := diff48 time (stampNow s) ≤ 0
  let s := { s with tim.trig := s.tim.trig.modify n (fun g => { g with on := !late, period := 0, phase := 0, time := low48 time,
                                                                       island := island, late := late }) }
  if late then emit (.strobe island n) (record Ev.lateTrigger 3 [n] s) else s

/-- Set a periodic trigger. -/
def setPeriodic (n island period phase : Nat) (s : State) : State :=
  { s with tim.trig := s.tim.trig.modify n (fun g => { g with on := 0 < period, period := period, phase := phase, island := island,
                                                              late := false }) }

end Sys2Proof.Machine
end

