-- ==== Sys2Proof/Machine/Operands.lean ====
section
/-!
DEFINITION. Machine/Operands.lean: the values that commands work on: fixed-point numbers, gains, chemistry-set fields, the
sweep's temperatures, per-unit conversions (04 R105 to R126, 05 R136, 06 R166 to R171). Fixed-point formats and rounding
inside them are a DESIGN CHOICE (notes/assumptions/20.md).
-/

namespace Sys2Proof.Machine

open Sys2Proof

/-! ## Fixed point in units of 2^-80 -/

/-- One, in Q80. -/
def q80 : Int := 2 ^ 80

/-- A rational as Q80, rounded down. -/
def qOf (n d : Int) : Int := n * q80 / d

/-- Product of two Q80 values. -/
def qmul (a b : Int) : Int := a * b / q80

/-- Quotient of two Q80 values; the callers divide by positive values. -/
def qdiv (a b : Int) : Int := a * q80 / b

/-- Integer square root by `k` base-4 digits. -/
def isqrtDigits : Nat → Nat → Nat
  | 0, _ => 0
  | k + 1, n => let r := 2 * isqrtDigits k (n / 4); if (r + 1) * (r + 1) ≤ n then r + 1 else r

/-- Integer square root of values below 2^512. -/
def isqrt (n : Nat) : Nat := isqrtDigits 256 n

/-- Square root in Q80, 0 for a negative value. -/
def qsqrt (a : Int) : Int := (isqrt ((a * q80).toNat) : Nat)

/-- Sum of the first terms of a power series whose next term is the last one times `x/k`. -/
def expSeries (x : Int) : Nat → Nat → Int → Int
  | 0, _, term => term
  | n + 1, k, term => term + expSeries x n (k + 1) (qmul term x / (k : Int))

/-- Repeated squaring. -/
def qsquares : Nat → Int → Int
  | 0, a => a
  | n + 1, a => qsquares n (qmul a a)

/-- e^(-x) for x ≥ 0 in Q80: the series at x/2^16, squared sixteen times; 0 above 64. -/
def qexpNeg (x : Int) : Int :=
  if x ≤ 0 then q80 else if 64 * q80 < x then 0 else qsquares 16 (expSeries (-(x / 65536)) 14 1 q80)

/-- 2 pi in Q80. -/
def twoPi : Int := 7595904947272677161575987

/-- Terms of the cosine and sine series: `term`, with the next factor -x^2/((k+1)(k+2)). -/
def trigSeries (x2 : Int) : Nat → Nat → Int → Int
  | 0, _, term => term
  | n + 1, k, term => term + trigSeries x2 n (k + 2) (-(qmul term x2) / (((k + 1) * (k + 2) : Nat) : Int))

/-- Cosine of an angle given in turns, Q80. -/
def cosTurn (u : Int) : Int :=
  let f := u % q80
  let f := if 2 * f ≤ q80 then f else q80 - f
  let neg := q80 < 4 * f
  let g := if neg then q80 / 2 - f else f
  let x := qmul twoPi g
  let c := trigSeries (qmul x x) 24 0 q80
  if neg then -c else c

/-- Arc tangent series of z with |z| at most 1/8 or so: z - z^3/3 + …. -/
def atanSeries (z2 : Int) : Nat → Nat → Int → Int
  | 0, _, _ => 0
  | n + 1, k, p => p / (k : Int) + atanSeries z2 n (k + 2) (-(qmul p z2))

/-- Arc tangent of y/x for 0 ≤ y ≤ x, x > 0, in radians: two halvings of the angle, then the series. -/
def atanUnit (y x : Int) : Int :=
  let z := qdiv y x
  let h (z : Int) : Int := qdiv z (q80 + qsqrt (q80 + qmul z z))
  let z := h (h z)
  4 * atanSeries (qmul z z) 40 1 z

/-- atan2 in radians, Q80, 0 at the origin. -/
def qatan2 (y x : Int) : Int :=
  let ay : Int := y.natAbs
  let ax : Int := x.natAbs
  if ax = 0 ∧ ay = 0 then 0
  else
    let a := if ay ≤ ax then atanUnit ay ax else twoPi / 4 - atanUnit ax ay
    let a := if x < 0 then twoPi / 2 - a else a
    if y < 0 then -a else a

/-- Radians in Q80 as 0.001 degree, rounded to nearest. -/
def milliDegrees (a : Int) : Int := roundDiv (a * 360000) twoPi

/-! ## Loop arithmetic (06 R166 to R170) -/

/-- A 40-bit accumulator result, saturated at ±256.0 (R167). -/
def sat40 (a : Int) : Int := clampTo (-549755813888) 549755813887 a

/-- A store of an accumulator to 16 bits (R168). -/
def store16 (a : Int) : Int := satS16 ((a + 32768) / 65536)

/-- A store saturates. -/
def storeSaturates (a : Int) : Bool := 32767 < (a + 32768) / 65536 || (a + 32768) / 65536 < -32767

/-- A gain parameter times a Q15 value, as a Q31 accumulator (R166, R170). -/
def gainTimes (gain : Nat) (x : Int) : Int := 2 * ((gain % 32768 : Nat) : Int) * x * 2 ^ (gain / 65536 % 16)

/-- The product of an integral gain per second and a sample period, in 2^-40 units: formed at RESTART (R170,
notes/assumptions/21.md). -/
def kitsOf (gain : Nat) (periodNs : Nat) : Int :=
  ((gain % 32768 * 2 ^ (gain / 65536 % 16) * periodNs : Nat) : Int) * 2 ^ 25 / 1000000000

/-- An integral step kits × e, as a Q31 addition. -/
def kitsTimes (k e : Int) : Int := k * e / 2 ^ 24

/-! ## Tones (05 R136) -/

/-- Tone frequencies in 0.1 Hz. -/
def toneTable : List Nat := [1, 2, 5, 10, 20, 30, 50, 100, 200, 300, 500, 800, 1000, 1500, 2000, 2500, 3000, 4000, 5000, 6000,
  8000, 10000, 15000, 20000]

/-- Frequency of a tone index in 0.1 Hz. -/
def toneFreq (i : Nat) : Nat := toneTable.getD i 0

/-! ## Demodulation (05 R144, R145)

A window's samples x_j stand on a grid of 40,000 per second from T0 on.  The fit's unknowns are the constant, the slope, and for
every tone the two parts of its phasor; the linear term is taken about the middle of the window, which changes no phasor. -/

/-- Phase of a tone at sample `j`, in turns. -/
def tonePhase (tone j : Nat) : Int := qOf ((toneFreq tone * j % 400000 : Nat) : Int) 400000

/-- Values of the fitted functions at sample `j` of `n`: 1, the time from the middle in half windows, and per tone the factors of
I and of Q in Re{X e^(j 2 pi f t)}. -/
def fitRow (tones : List Nat) (n j : Nat) : List Int :=
  [q80, qOf (2 * (j : Int) + 1 - n) n] ++ tones.flatMap (fun a =>
    let u := tonePhase a j
    [cosTurn u, -cosTurn (u - q80 / 4)])

/-- The normal equations of the fit, each with its right side last. -/
def fitSums (tones : List Nat) (xs : List Int) : List (List Int) :=
  let m := 2 + 2 * tones.length
  xs.zipIdx.foldl (fun g a =>
      let row := fitRow tones xs.length a.2
      List.zipWith (fun sums v => List.zipWith (· + ·) sums (row.map (qmul v) ++ [v * a.1])) g row)
    (List.replicate m (List.replicate (m + 1) 0))

/-- Solve equations by elimination from the first unknown on; an equation without its unknown gives 0. -/
def solveSums : Nat → List (List Int) → List Int
  | 0, _ => []
  | _, [] => []
  | k + 1, r :: rs =>
    let p := r.headD 0
    if p = 0 then 0 :: solveSums k (rs.map List.tail)
    else
      let rest := solveSums k (rs.map (fun q => List.zipWith (fun a b => b - a * q.headD 0 / p) r.tail q.tail))
      qdiv (r.getLastD 0 - (List.zipWith qmul r.tail rest).foldl (· + ·) 0) p :: rest

/-- The phasors that a least-squares fit of the samples gives, I and Q per tone in the samples' unit (05 R145). -/
def fitTones (tones : List Nat) (xs : List Int) : List (Int × Int) :=
  let sol := solveSums (2 + 2 * tones.length) (fitSums tones xs)
  (List.range tones.length).map (fun k => (roundDiv (sol.getD (2 + 2 * k) 0) q80, roundDiv (sol.getD (3 + 2 * k) 0) q80))

/-! ## Chemistry sets (04 R120 to R122, 05 R155) -/

/-- Bytes of stored set `n`. -/
def chemBytes (s : State) (n : Nat) : List Byte := s.est.chem.getD n []

/-- Number of the active set. -/
def chemActive (s : State) : Nat := prmN s Prm.chemActive

/-- Bytes of the active set. -/
def activeSet (s : State) : List Byte := chemBytes s (chemActive s)

/-- A set passes its CRC (R120, R122). -/
def chemUsable (b : List Byte) : Bool := b.length == 1024 && crc32 (b.take 1020) == leAt b 1020 4

/-- The active set is usable. -/
def activeUsable (s : State) : Bool := chemUsable (activeSet s)

/-- Two-byte field, unsigned. -/
def u16 (b : List Byte) (o : Nat) : Nat := leAt b o 2

/-- Two-byte field, signed. -/
def s16 (b : List Byte) (o : Nat) : Int := signedOf 16 (leAt b o 2)

/-- T_TONE of a set. -/
def tTone (b : List Byte) : Nat := byteAt b 896

/-- Position on the state-of-charge axis: integer part and fraction in Q80 (R121). -/
def socPos (soc : Int) : Nat × Int :=
  let u := 63 * soc
  if 63 * q80 ≤ u then (62, q80) else ((u / q80).toNat, u % q80)

/-- OCV or HYST table at offset `o` whose LSB is 1/`d` volt: value in Q80 volts and slope per unit SoC (R121). -/
def socTable (b : List Byte) (o : Nat) (d soc : Int) : Int × Int :=
  let p := socPos soc
  let t0 : Int := u16 b (o + 2 * p.1)
  let t1 : Int := u16 b (o + 2 * p.1 + 2)
  ((t0 * q80 + (t1 - t0) * p.2) / d, 63 * (t1 - t0) * q80 / d)

/-- OCV in volts and its slope. -/
def ocvAt (b : List Byte) (soc : Int) : Int × Int := socTable b 28 10000 soc

/-- Half-width H in volts and its slope. -/
def hystAt (b : List Byte) (soc : Int) : Int × Int := socTable b 156 100000 soc

/-- Field `f` of row `r` of the RC table: 0 temperature, 1 RS, 2 RFAST, 3 TFAST, 4 RSLOW, 5 TSLOW. -/
def rcField (b : List Byte) (r f : Nat) : Int := if f = 0 then s16 b (284 + 12 * r) else u16 b (284 + 12 * r + 2 * f)

/-- The row below a temperature (Q80 of 0.01 degree) in the RC table. -/
def rcRow (b : List Byte) (t : Int) : Nat → Nat
  | 0 => 0
  | r + 1 => if rcField b (r + 1) 0 * q80 ≤ t then r + 1 else rcRow b t r

/-- RC table field at a temperature: linear, clamped to the end rows, in Q80 of the field's unit (R108). -/
def rcAt (b : List Byte) (f : Nat) (t : Int) : Int :=
  let r := rcRow b t 6
  let t0 := rcField b r 0 * q80
  let t1 := rcField b (r + 1) 0 * q80
  let y0 := rcField b r f
  let y1 := rcField b (r + 1) f
  if t ≤ t0 ∨ t1 ≤ t0 then y0 * q80
  else if t1 ≤ t then y1 * q80
  else y0 * q80 + (y1 - y0) * ((t - t0) * q80 / (t1 - t0))

/-- Entry of the plating table. -/
def platingEntry (b : List Byte) (row col : Nat) : Int := u16 b (380 + 32 * row + 2 * col)

/-- Index and remainder of a column temperature (Q80 of 0.01 degree): column = (t + 20 °C)/5 °C (R121). -/
def platingCol (t : Int) : Nat × Int :=
  let x := t + 2000 * q80
  if 7500 * q80 ≤ x then (14, 500 * q80) else ((x / (500 * q80)).toNat, x % (500 * q80))

/-- One row of the plating table at a column position, times 500 * 2^80. -/
def platingRow (b : List Byte) (row : Nat) (p : Nat × Int) : Int :=
  platingEntry b row p.1 * (500 * q80 - p.2) + platingEntry b row (p.1 + 1) * p.2

/-- PLATING(SoC, T): bilinear, rounded down; 0 A below -20 °C; a SoC above 1.0 is the last row (R121, 05 R157). -/
def platingAt (b : List Byte) (soc t : Int) : Int :=
  if t < -2000 * q80 then 0
  else
    let p := platingCol t
    let y := 15 * soc
    let (r, f) := if 15 * q80 ≤ y then (14, q80) else ((y / q80).toNat, y % q80)
    (platingRow b r p * (q80 - f) + platingRow b (r + 1) p * f) / (500 * q80 * q80)

/-- Smallest value of the plating table over all 16 rows at a column temperature, rounded down (R124). -/
def platingMin (b : List Byte) (t : Int) : Int :=
  if t < -2000 * q80 then 0
  else
    let p := platingCol t
    (((List.range 16).map (fun r => platingRow b r p)).foldl min (platingRow b 0 p)) / (500 * q80)

/-! ## The latest sweep -/

/-- Age of the latest sweep's mark in ns, none before the first sweep (01 R25). -/
def sweepAge (s : State) : Option Nat := s.rings.mark.map (fun m => s.now - m.1)

/-- The newest sweep's mark is at most a time old. -/
def sweepFresh (s : State) (d : Nat) : Bool := ((sweepAge s).map (fun a => decide (a ≤ d))).getD false

/-- Temperature input `k` of tap `i` in a list of sweep temperatures. -/
def tapTemp (temps : List (Option Int)) (i k : Nat) : Option Int := (temps.getD (8 * i + k) none)

/-- The lower of two optional values, the valid one if only one is. -/
def lowerOf (a b : Option Int) : Option Int := match a, b with
  | some x, some y => some (min x y)
  | some x, none => some x
  | none, y => y

/-- T_NEAR of a cell by the rule of R112, and whether it is a substitute. -/
def tNearOf (temps : List (Option Int)) (c : Nat) : Option Int × Bool :=
  let i := c / 16
  let k := c % 16 / 2
  match tapTemp temps i k with
  | some v => (some v, false)
  | none =>
    let below := if k = 0 then none else tapTemp temps i (k - 1)
    let above := if k = 7 then none else tapTemp temps i (k + 1)
    match lowerOf below above with
    | some v => (some v, true)
    | none => (none, false)

/-- One cell of the latest sweep; a cell that is not fitted has no value (02 R39). -/
def cellOf (s : State) (c : Nat) : SweepCell := if cellFitted s c then s.rings.cells.getD c {} else {}

/-- BAL bits of a cell nibble (02 R61). -/
def balBits (nib : Nat) : Nat := nib % 4

/-- COMP bit of a cell nibble (02 R61). -/
def compBit (nib : Nat) : Bool := bitOf nib 3

/-- One context. -/
def ctxOf (s : State) (c : Nat) : Ctx := s.est.ctx.getD c {}

/-- Change one context. -/
def setCtx (c : Nat) (g : Ctx → Ctx) (s : State) : State := { s with est.ctx := s.est.ctx.modify c g }

/-- The values that a context sends to I6 come from after the last flush of I5's crossings (01 R18). -/
def ctxArrived (s : State) (c : Nat) : Bool := match s.est.flushAt, (ctxOf s c).est with
  | some a, some e => decide (a < e.1)
  | some _, none => false
  | none, _ => true

/-- T_INT of a context as coded (0.01 degree, rounded to nearest). -/
def tIntCoded (x : Ctx) : Option Int := x.tInt.map (fun v => roundDiv v q80)

/-- A balance total, kept in microampere-seconds, as coded: 0.001 Ah, to nearest (04 R106). -/
def codedTotal (n : Nat) : Nat := (n + 1800000) / 3600000

/-- Each cell's temperature for the windows: the higher of T_NEAR of the latest sweep and T_INT (06 R174, 11 R337). -/
def windowTemp (s : State) (c : Nat) : Option Int :=
  match (tNearOf s.rings.temps c).1 with
  | none => none
  | some n => match tIntCoded (ctxOf s c), ctxArrived s c with
    | some i, true => some (max n i)
    | _, _ => some n

end Sys2Proof.Machine
end

