-- ==== Sys2Proof/Machine/Flags.lean ====
section
/-!
DEFINITION. Machine/Flags.lean: the flags and status words that commands return or set: dispatch flags, sensor state,
context flags, conditions of an impedance window (04 R106, 05 R141, 06 R194, 07 R210, 08 R251).
-/

namespace Sys2Proof.Machine

open Sys2Proof

/-! ## Engine conditions -/

/-- An engine. -/
def engOf (s : State) (e : Nat) : Engine := s.ctrl.eng.getD e {}

/-- Change an engine. -/
def setEng (e : Nat) (g : Engine → Engine) (s : State) : State := { s with ctrl.eng := s.ctrl.eng.modify e g }

/-- Role of a number: 0 P, 1 S, 2 C (06 R162). -/
def roleOfNum (x : Nat) : EngRole := [EngRole.p, .s, .c].getD x .w

/-- The engine that holds a role. -/
def holderOf (s : State) (r : EngRole) : Option Nat := (List.range 4).find? (fun e => (engOf s e).role == r)

/-- Three healthy engines hold roles P, S and C (06 R165). -/
def threeHold (s : State) : Bool := (holderOf s .p).isSome && (holderOf s .s).isSome && (holderOf s .c).isSome

/-- SENSOR_CAP (06 R176, R194). -/
def sensorCap (s : State) : Int :=
  if bothFailed s then 0 else if s.ctrl.shuntFail || s.ctrl.hallFail then iRated s / 2 else 0x7FFF

/-- Link-voltage regulation is selected: Hold with HOLD_ACTION 1 (08 R246). -/
def regulating (s : State) : Bool := s.core.mode == .hold && prm s Prm.holdAction == 1

/-- A ring that should hold taps is not swept: it enumerates (02 R52). -/
def enumerating (s : State) : Bool :=
  (0 < prmN s Prm.tapsA && !(ringOf s 0).up) || (0 < prmN s Prm.tapsB && !(ringOf s 1).up)

/-! ## Impedance window conditions (05 R141) -/

/-- The first condition of R141 that fails, as its abort cause; the phase-count and ceiling conditions are judged where they
arise. `lead` is true once a lead has begun. -/
def impFailing (s : State) (lead : Bool) : Option Nat :=
  if !inMode s [.run, .hold] then some Ev.impMode
  else if s.conv.st != .continuous then some Ev.impConverter
  else if s.ctrl.shuntFail then some Ev.impShunt
  else if s.rings.period < 1000 || (lead && s.rings.period != s.imp.period) then some Ev.impSweep
  else if !running s 1 || enumerating s then some Ev.impRing
  else if lead && s.imp.gateOff then some Ev.impGates
  else if prm s Prm.impEnable != 1 || !running s 4 then some Ev.impStopped
  else if (lead && s.imp.takeover) || s.pair.takeover.isSome then some Ev.impTakeover
  else none

/-! ## Dispatch flags (08 R251) -/

/-- r_p rounded to the string-current LSB. -/
def rampedLsb (s : State) : Int := roundDiv s.disp.rp 100

/-- FLAGS of DISPATCH_STATUS. -/
def dispatchFlags (s : State) : Nat :=
  bit (s.ctrl.derChg == some 0) 15 + bit (s.ctrl.derDis == some 0) 14 + bit (s.ctrl.applied != rampedLsb s) 13 +
  bit (rampedLsb s != s.disp.targetI) 12 + bit s.disp.target.late 11 + bit s.disp.watchdog 10 + bit s.disp.noVolt 9 +
  bit (match s.disp.vs, s.disp.link with
    | some v, some l => v != 10 * l.value
    | _, _ => false) 8 +
  bit (s.conv.st == .softStart) 7 + bit (stopped s 7) 6 + bit (sensorCap s < 0x7FFF) 5

/-! ## Context flags (04 R106) -/

/-- Set or clear one bit of a context's FLAGS. -/
def ctxFlag (k : Nat) (b : Bool) (f : BitVec 16) : BitVec 16 :=
  if b then f ||| BitVec.ofNat 16 (2 ^ k) else f &&& ~~~ BitVec.ofNat 16 (2 ^ k)

end Sys2Proof.Machine
end

