-- ==== Sys2Proof/Machine/Converter.lean ====
section
/-!
DEFINITION. Machine/Converter.lean: the converter modulator and the gate lanes (07 R200 to R233).
-/

namespace Sys2Proof.Machine

open Sys2Proof

/-! ## Timing of one cycle (R203, R204) -/

/-- The modulator's HVS-STR: of the last phase-current cycle. Where that is absent the spec states no value for the modulator: it
is an open value (DESIGN CHOICE, notes/assumptions/48.md). -/
def strVolt (s : State) : Int := s.conv.vNow.1.getD (Config.openValue "HVS-STR absent" [s.now])

/-- The modulator's HVS-LNK, likewise. -/
def linkVolt (s : State) : Int := s.conv.vNow.2.getD (Config.openValue "HVS-LNK absent" [s.now])

/-- The higher port voltage, HVS-LNK or HVS-STR by HB_SIDE (R200). -/
def vHi (s : State) : Int := if prm s Prm.hbSide = 0 then linkVolt s else strVolt s

/-- The lower port voltage (R200). -/
def vLo (s : State) : Int := if prm s Prm.hbSide = 0 then strVolt s else linkVolt s

/-- f_target in Hz: F_SW, in burst the lesser of F_SW and 40 kHz (R203). -/
def fTarget (s : State) : Nat := if s.conv.st == .burst then min (prmN s Prm.fSw) 40000 else prmN s Prm.fSw

/-- Dead-time correction at a mean current, times DT_STEP, in 250 ps units: linear between entries, entry 31 above (R229). -/
def dtTimes (s : State) (i : Int) : Int :=
  let st : Int := max (prm s Prm.dtStep) 1
  let a : Int := i.natAbs
  let k := (a / st).toNat
  if 31 ≤ k then s.conv.dt.getD 31 0 * st
  else s.conv.dt.getD k 0 * (st - a % st) + s.conv.dt.getD (k + 1) 0 * (a % st)

/-- Duty as numerator over `hi`: d with HS as control switch, 1 - d with LS (R203). -/
def dutyNum (lo hi : Int) (hs : Bool) : Int := if hs then lo else hi - lo

/-- t_on in 250 ps steps at frequency `f`: (t_ideal + t_dt)(1 + trim), halves away from zero (R203). -/
def tOnSteps (s : State) (lo hi : Int) (hs : Bool) (trim i : Int) (f : Nat) : Int :=
  let st : Int := max (prm s Prm.dtStep) 1
  let num := (dutyNum lo hi hs * 4000000000 * st + dtTimes s i * hi * (f : Int)) * (32768 + trim)
  roundDiv num (hi * (f : Int) * st * 32768)

/-- The limits of R204 at frequency `f` for an on-time: on at least 200 ns, complementary conduction at least 200 ns, control
switch off at least 300 ns. -/
def cycleFits (s : State) (ton : Int) (f : Nat) : Bool :=
  let period : Int := (4000000000 / f : Nat)
  800 ≤ ton && 800 ≤ period - ton - 2 * prm s Prm.deadTime && 1200 ≤ period - ton

/-- Bisection for the highest frequency from `lo` (which fits) below `hi` (which does not). -/
def bisectFreq (ok : Nat → Bool) : Nat → Nat → Nat → Nat
  | 0, lo, _ => lo
  | n + 1, lo, hi =>
    let m := (lo + hi) / 2
    if ok m then bisectFreq ok n m hi else bisectFreq ok n lo m

/-- Frequency and on-time of the next cycle, none when R204 cannot be met at 20 kHz. A phase with no valid mean current counts as
carrying 0 A in the dead-time table (R203; DESIGN CHOICE, notes/assumptions/48.md). -/
def nextCycle (s : State) (p : Phase) : Option (Nat × Nat) :=
  let hi := vHi s
  let lo := vLo s
  if hi ≤ 0 then none
  else
    let ton := tOnSteps s lo hi p.ctrlHs p.trim (p.mean.getD 0)
    let ok (f : Nat) : Bool := cycleFits s (ton f) f
    let top := fTarget s
    let f := if ok top then some top else if ok 20000 then some (bisectFreq ok 17 20000 top) else none
    f.map (fun f => (f, (ton f).toNat))

/-- STATE that turns on the control switch, or the complementary one (R200, R222). -/
def switchState (p : Phase) (control : Bool) : Nat := if p.ctrlHs == control then 2 else 1

/-- Instant, in 250 ps, at which the control switch may turn on: at once when it conducts already (R215), else one dead time after
the switches went off, which for a complementary switch that still conducts is now (R222; DEDUCED, notes/assumptions/48.md). -/
def controlOn (s : State) (n : Nat) (p : Phase) : Nat :=
  let t4 := 4 * s.now
  let l := (laneOf s n).edges
  let dt := prmN s Prm.deadTime
  match l.getLast? with
  | none => t4
  | some e =>
    if stateAt l t4 = switchState p true then t4
    else if stateAt l t4 = 0 then max t4 (min e.1 t4 + dt)
    else t4 + dt

/-- The edges of one cycle: a complementary switch that conducts goes off, the control switch turns on, off after t_on, and the
complementary switch turns on a dead time later (R222). -/
def cycleEdges (s : State) (n : Nat) (p : Phase) (ton : Nat) : List (Nat × Nat) :=
  let on := controlOn s n p
  (if on = 4 * s.now then [] else [(4 * s.now, 0)]) ++
    [(on, switchState p true), (on + ton, 0), (on + ton + prmN s Prm.deadTime, switchState p false)]

/-! ## The fast current estimate (R205) -/

/-- Weights of a sinc3 decimator by 8: three running sums of eight bits, 22 bits and 512 in all. -/
def sincWeights : List Int := [1, 3, 6, 10, 15, 21, 28, 36, 42, 46, 48, 48, 46, 42, 36, 28, 21, 15, 10, 6, 3, 1]

/-- A fast sample in phase-current LSB from the 22 bits of the stream up to it: 640 A × (2 d - 1) (R205, R224). -/
def fastSample (bits : List Bool) : Int :=
  80 * (2 * (List.zipWith (fun w b => if b then w else 0) sincWeights bits).foldl (· + ·) 0 - 512)

/-- Current in phase-current LSB times 100 × L_PHASE, `age` steps of 250 ps after a fast sample: the sample, the injected term
s × τ_c, and the extrapolation along s, the slope of the complementary interval (R205; in the on-time too, DEDUCED,
notes/assumptions/48.md). -/
def estimate (s : State) (p : Phase) (bits : List Bool) (age : Nat) : Int :=
  let volt := if p.ctrlHs then -vLo s else vHi s - vLo s
  fastSample bits * 100 * prm s Prm.lPhase + volt * (4 * (525 + prm s Prm.laneRetDelay) + age)

/-- A phase-current level on the scale of `estimate`. -/
def level (s : State) (i : Int) : Int := i * 100 * prm s Prm.lPhase

/-! ## Soft start (R218 to R221) -/

/-- The fewest phases whose share of a current stays within SHED_ADD, at most `top` (R210, R213). -/
def fewestPhases (s : State) (i : Int) (top : Nat) : Nat :=
  let cnt : Int := (fittedLanes s).length
  let ok (n : Nat) : Bool := (i.natAbs : Int) * 32768 * cnt ≤ prm s Prm.shedAdd * iRated s * (n : Int)
  (((List.range (top + 1)).drop 1).find? ok).getD top

/-- Hold both switches of a phase off. -/
def endPhase (n : Nat) (s : State) : State := darkLane n (setPhase n phaseOff s)

/-- Let the given phases start at once, each as soon as R208 grants it, and hold every other off. -/
def startPhases (l : List Nat) (s : State) : State :=
  let s := eachDo (activePhases s ++ (List.range 8).filter (fun n => (phaseOf s n).dropping)) endPhase s
  eachDo l (fun n => setPhase n (fun p => { p with active := true, waiting := true }))
    { s with conv.shares := l.length, conv.ph := s.conv.ph.map (fun p => { p with adding := false }) }

/-- After a takeover or a hand-over the new head starts only after its first sweep, with its claim code in ACCEPTED of every
usable lane (R230, 14 R422). -/
def headReady (s : State) : Bool := match s.pair.takeover with
  | none => true
  | some .claiming => false
  | some .reheaded =>
    s.rings.mark.isSome && (usablePhases s).all (fun n => ((laneOf s n).last.map (fun b => leAt b 4 4 == claimCode s)).getD false)

/-- Switching may start: no opening or hand-over under way, a mode that switches, functions 5 and 6 running, three engines,
current feedback, and lanes that may carry switch-on states (R218, R227; 06 R165, R194; 14 R422). -/
def mayStart (s : State) : Bool :=
  headReady s && s.disp.ending = 0 && s.con.opening.isNone && s.pair.swap.isNone &&
  (s.core.mode == .run || regulating s) && running s 5 && running s 6 && threeHold s && !bothFailed s &&
  lanesLive s && 0 < (usablePhases s).length

/-- Begin a soft start with the pre-start voltages; its time runs from the first gate byte that turns a switch on (R218, R219). -/
def beginSoftStart (vs vl : Int) (s : State) : State :=
  let s := { s with pair.takeover := none, conv.st := .softStart, conv.ssAt := none, conv.pre := (vs, vl), conv.na := 1, conv.naAt := s.now,
                    conv.burstExit := false, conv.lowSince := none, ctrl.trim := 0,
                    ctrl.loops := s.ctrl.loops.modify 3 (fun l => { l with integ := 0 }) }
  startPhases ((usablePhases s).take 1) s

/-- A soft start fails (R219, R220): SOFT_START_FAIL with its cause and gates off, then a retry after 100 ms, or Tripped at the
fourth failure. -/
def softStartFail (cause : Int) (s : State) : State :=
  let n := s.conv.fails + 1
  let s := record Ev.softStartFail 4 [cause, n] { s with conv.fails := n }
  if 4 ≤ n then trip Ev.converterShort .sp [cause] s
  else { gatesOff Ev.softStartFail s with conv.st := .retryWait, conv.retryAt := s.now + ms 100 }

/-- SOFT_START (R218): switching starts from gates off. -/
def execSoftStart (t : Nat) (vStr vLnk : Int) (s : State) : Host.Outcome State Fault Refusal :=
  timed t (fun s => if s.conv.st == .off && mayStart s then beginSoftStart vStr vLnk s else s) s

/-- SOFT_START_RETRY (R220): the 100 ms wait ends and soft start is tried again. -/
def execSoftStartRetry (t : Nat) (vStr vLnk : Int) (s : State) : Host.Outcome State Fault Refusal :=
  timed t (fun s =>
    if s.conv.st == .retryWait && s.conv.retryAt ≤ s.now && mayStart s then beginSoftStart vStr vLnk s else s) s

/-! ## Cycles (R206 to R216) -/

/-- The compensated estimate has reached the valley reference (R206). -/
def atValley (s : State) (p : Phase) (est : Int) : Bool :=
  if p.ctrlHs then est ≤ level s p.valley else level s p.valley ≤ est

/-- The phase's intervals are long enough for its next cycle to start now: 200 ns of the complementary switch since it turned on,
and 300 ns of the control switch's off-interval, which lasts a dead time longer (R204, R208). -/
def offTimePassed (s : State) (p : Phase) : Bool :=
  let dt := prmN s Prm.deadTime
  p.onEnd = 0 || (p.onEnd + dt + 800 ≤ 4 * s.now && p.onEnd + 1200 ≤ 4 * s.now + dt)

/-- The interleave rule of R208: half a spacing has passed since the last cycle start of any phase, and the phase's own
minimum off-interval since its on-time ended. -/
def startGranted (s : State) (n : Nat) : Bool :=
  let last := (s.conv.ph.map (·.startAt)).foldl max 0
  let gap := 500000000 / (max (fTarget s) 1 * max (activePhases s).length 1)
  (last = 0 || last + gap ≤ s.now) && offTimePassed s (phaseOf s n)

/-- A phase that waits for its start and stands nearer the pointer in firing order starts first (R208). -/
def nearerWaits (s : State) (n : Nat) : Bool :=
  (activePhases s).any (fun m => (phaseOf s m).waiting && offTimePassed s (phaseOf s m) &&
    decide ((m + 8 - s.conv.ptr) % 8 < (n + 8 - s.conv.ptr) % 8))

/-- A cycle starts with the on-time computed at the valley. -/
def startCycle (n : Nat) (s : State) : State :=
  let p := phaseOf s n
  match nextCycle s p with
  | none => faultToHold Ev.voltageRatio [n + 1] s
  | some (f, ton) =>
    if startGranted s n && !nearerWaits s n then
      let on := controlOn s n p
      let s := sendEdges n (cycleEdges s n p ton) (setPhase n (fun p => { p with
        tOn := ton, freq := f, startAt := s.now, onEnd := on + ton, waiting := false, started := true, cycles := p.cycles + 1,
        hit := false, run := if p.hit then p.run else 0 }) s)
      if s.conv.st == .softStart && s.conv.ssAt.isNone then { s with conv.ssAt := some (on / 4) } else s
    else setPhase n (fun p => { p with tOn := ton, freq := f, waiting := true }) s

/-! ## Burst packets (R212 to R214) -/

/-- |applied reference| is below 4 % of I_RATED (R212). -/
def belowBurst (s : State) : Bool := 25 * (s.ctrl.applied.natAbs : Int) < iRated s

/-- Leave burst for continuous operation at once, with no soft start (R214). -/
def leaveBurst (s : State) : State :=
  let n := fewestPhases s s.ctrl.applied (usablePhases s).length
  startPhases ((usablePhases s).take n)
    { s with conv.st := .continuous, conv.na := n, conv.naAt := s.now, conv.packet := 0, conv.packetN := 0, conv.burstExit := false,
             conv.lowSince := none }

/-- A packet ends: every phase holds both switches off until the next frame, or burst ends where a request asked for it
(R213, R214). -/
def endPacket (s : State) : State :=
  if s.conv.burstExit then leaveBurst s
  else startPhases [] { s with conv.packet := 0, conv.packetN := 0, conv.na := 0 }

/-- A phase has made the 16 cycles of its packet: it holds both switches off, and the packet ends with its last phase (R213). -/
def packetPhaseEnds (n : Nat) (s : State) : State :=
  let s := endPhase n s
  if (activePhases s).isEmpty then endPacket s else s

/-! ## Valleys and limit hits (R206, R211, R215 to R217) -/

/-- VALLEY_REACHED (R206): 22 bits of the phase's return stream up to its last fast sample, and the sample's age in 250 ps: the
compensated estimate is at the valley. A dropped phase ends here; a due swap takes place without a break (R211, R215). -/
def execValleyReached (t : Nat) (n : Nat) (bits : List Bool) (age : Nat) (s : State) : Host.Outcome State Fault Refusal :=
  timed t (fun s =>
    let p := phaseOf s n
    if !switching s || !(p.active || p.dropping) || !(p.waiting || atValley s p (estimate s p bits age)) then s
    else if s.conv.st == .burst && s.conv.packet = 0 then s
    else if p.dropping then endPhase n s
    else if s.conv.st == .burst && 16 ≤ p.cycles then packetPhaseEnds n s
    else startCycle n (setPhase n (fun p => { p with ctrlHs := p.ctrlHs != p.swap, swap := false }) s)) s

/-- The control switch of a phase conducts: its on-time has begun and has not ended. -/
def inOnTime (s : State) (p : Phase) : Bool := p.onEnd ≤ 4 * s.now + p.tOn && 4 * s.now < p.onEnd

/-- LIMIT_HIT (R216, R217, R230): the estimate reaches PHASE_I_MAX in the on-time, which ends at once; the complementary switch
follows after the dead time. The hit of a packet's sixteenth cycle ends the packet. Eight in a row are CBC_SUSTAINED, in soft
start a failure of it (R219). -/
def execLimitHit (t : Nat) (n : Nat) (bits : List Bool) (age : Nat) (s : State) : Host.Outcome State Fault Refusal :=
  timed t (fun s =>
    let p := phaseOf s n
    if !switching s || !(p.active || p.dropping) || p.hit || !inOnTime s p ||
        ((estimate s p bits age).natAbs : Int) < level s (prm s Prm.phaseIMax) then s
    else
      let s := sendEdges n [(4 * s.now, 0), (4 * s.now + prmN s Prm.deadTime, switchState p false)]
        (setPhase n (fun p => { p with hits := (p.hits + 1) % 2 ^ 32, run := p.run + 1, hit := true, onEnd := 4 * s.now }) s)
      if 8 ≤ p.run + 1 then
        if s.conv.st == .softStart then softStartFail 1 s else faultToHold Ev.cbcSustained [n + 1] s
      else if s.conv.st == .burst && p.cycles = 16 then endPacket s
      else s) s

/-! ## Cycle groups (R207, R209, R211) -/

/-- The next active phase after the pointer in firing order (R209). -/
def nextPointer (l : List Nat) (p : Nat) : Nat := (l.find? (fun n => p < n)).getD (l.headD p)

/-- The trim of a phase integrates once per group; the spec states its aim and its bounds, not its gain (R209,
notes/assumptions/9.md). -/
def stepTrim (s : State) (n : Nat) (p : Phase) : Phase :=
  if !p.active then p
  else
    let tr := clampTo (-3277) 3277 (Config.openValue "phase trim" [n, p.trim, p.freq, p.startAt, s.conv.na, s.now])
    { p with trim := tr,
             boundSince := if tr = 3277 ∨ tr = -3277 then some (p.boundSince.getD s.now) else none,
             limited := p.limited && (tr = 3277 || tr = -3277) }

/-- Every active phase has started a cycle since the last boundary (R207). -/
def groupDone (s : State) : Bool := !(activePhases s).isEmpty && (activePhases s).all (fun n => (phaseOf s n).started)

/-- A phase at the boundary: its trim integrates; an added phase starts, once its drop has ended (R209, R211). -/
def boundaryPhase (s : State) (n : Nat) : Phase :=
  let p := stepTrim s n { phaseOf s n with started := false }
  if p.adding && !p.dropping then { p with active := true, adding := false, waiting := true } else p

/-- CYCLE_GROUP_BOUNDARY (R209, R211): the pointer advances, trims integrate, added phases start, and the reference is divided
among the phases now active. -/
def execCycleGroupBoundary (t : Nat) (s : State) : Host.Outcome State Fault Refusal :=
  timed t (fun s =>
    if !switching s || !groupDone s then s
    else
      let ptr := nextPointer (activePhases s) s.conv.ptr
      let s := { s with conv.ptr := ptr, conv.ph := (List.range 8).map (boundaryPhase s) }
      if s.conv.st == .burst then s else { s with conv.shares := (activePhases s).length }) s

/-- INTERLEAVE_LIMIT (R209): a trim has been at a bound for 100 ms. -/
def execInterleaveLimit (t : Nat) (n : Nat) (s : State) : Host.Outcome State Fault Refusal :=
  timed t (fun s =>
    let p := phaseOf s n
    if p.active && !p.limited && heldOpt s p.boundSince (ms 100) then
      record Ev.interleaveLimit 3 [n + 1] (setPhase n (fun p => { p with limited := true }) s)
    else s) s

/-! ## Burst frames (R212 to R214) -/

/-- Number of the 2 ms frame that holds now, counted from the epoch, and the ns that have passed in it (R213). -/
def burstGrid (s : State) : Int × Int :=
  let ns := counterAt s s.now * 1000000000 / 4294967296
  (ns / 2000000, ns % 2000000)

/-- BURST_ENTRY (R212): below 4 % for 20 ms with BURST_ENABLE set; an impedance window aborts (05 R141). -/
def execBurstEntry (t : Nat) (s : State) : Host.Outcome State Fault Refusal :=
  timed t (fun s =>
    if s.conv.st == .continuous && prm s Prm.burstEnable == 1 && belowBurst s && heldOpt s s.conv.lowSince (ms 20) then
      impAbort Ev.impConverter (startPhases []
        { s with conv.st := .burst, conv.acc := 0, conv.packet := 0, conv.packetN := 0, conv.na := 0, conv.burstExit := false,
                 conv.lowSince := none, conv.frame := (burstGrid s).1 })
    else s) s

/-- q_p in string-current LSB x ns: 5 % of I_RATED over 2 ms (R213). -/
def packetCharge (s : State) : Int := iRated s * 100000

/-- I_B in string-current LSB (R213). -/
def burstLevel (s : State) : Int := iRated s * 2 * (fTarget s : Nat) / 320000

/-- The usable phases in firing order from the pointer (R213). -/
def fromPointer (s : State) : List Nat :=
  let l := usablePhases s
  l.filter (s.conv.ptr ≤ ·) ++ l.filter (· < s.conv.ptr)

/-- Run one packet in a direction (R213). -/
def runPacket (dir acc : Int) (s : State) : State :=
  let n := min 3 (fewestPhases s (burstLevel s) (min 3 (usablePhases s).length))
  startPhases ((fromPointer s).take n)
    { s with conv.acc := acc - dir * packetCharge s, conv.packet := dir, conv.packetN := n, conv.na := n }

/-- BURST_FRAME (R213, R214): a multiple of 2 ms from the second, within 1 µs (DESIGN CHOICE, notes/assumptions/48.md), and once
in every frame; no run of hits is held across frames (R230). -/
def execBurstFrame (t : Nat) (s : State) : Host.Outcome State Fault Refusal :=
  timed t (fun s =>
    let g := burstGrid s
    if s.conv.st != .burst || g.1 = s.conv.frame || 1000 < g.2 then s
    else if s.conv.burstExit || !belowBurst s then leaveBurst s
    else
      let s := { s with conv.frame := g.1, conv.ph := s.conv.ph.map (fun p => { p with run := 0 }) }
      let q := packetCharge s
      let acc := clampTo (-q) q (s.conv.acc + s.ctrl.applied * 2000000)
      if q ≤ 2 * acc then runPacket 1 acc s
      else if 2 * acc ≤ -q then runPacket (-1) acc s
      else startPhases [] { s with conv.acc := acc, conv.packet := 0, conv.packetN := 0, conv.na := 0 }) s

/-- A request of at least 4 % in burst ends it at the end of the packet or the next frame (R214). -/
def burstCycle (s : State) : State :=
  if s.conv.st == .burst then { s with conv.burstExit := s.conv.burstExit || !belowBurst s } else s

/-! ## Phase shedding (R210, R211) -/

/-- |string current| is below 5 % of rated current (05 R141). -/
def belowFive (s : State) : Bool := ((stringCurrent s).map (fun i => decide (20 * (i.natAbs : Int) < iRated s))).getD true

/-- Change n_a: additions wait for the group boundary, a drop ends at its valley; the lowest free phase is added, one that still
drops last, and the highest dropped (DESIGN CHOICE, notes/assumptions/22.md). -/
def changeCount (n : Nat) (s : State) : State :=
  let act := (List.range 8).filter (fun k => (phaseOf s k).active || (phaseOf s k).adding)
  let s :=
    if act.length < n then
      let free := (usablePhases s).filter (fun k => !act.contains k)
      let free := free.filter (fun k => !(phaseOf s k).dropping) ++ free.filter (fun k => (phaseOf s k).dropping)
      eachDo (free.take (n - act.length)) (fun k => setPhase k (fun p => { p with adding := true })) s
    else
      eachDo (act.reverse.take (act.length - n)) (fun k => setPhase k (fun p =>
        if p.active then { p with active := false, dropping := true } else { p with adding := false })) s
  let s := { s with conv.na := n, conv.naAt := s.now }
  if belowFive s then impAbort Ev.impShedding s else s

/-- Role P's decision on the active count (R210). -/
def shedDecision (s : State) : State :=
  let use := (usablePhases s).length
  let cnt : Int := (fittedLanes s).length
  let ref : Int := (s.ctrl.applied.natAbs : Int) * 32768 * cnt
  let na := s.conv.na
  if !(s.conv.st == .continuous || s.conv.st == .softStart) || use = 0 then s
  else if prm s Prm.shedAdd * iRated s * (na : Int) < ref && na < use then
    changeCount (max (na + 1) (fewestPhases s s.ctrl.applied use)) s
  else if 1 < na && (ref < prm s Prm.shedDrop * iRated s * ((na : Int) - 1) || use < na) && s.conv.naAt + ms 1 ≤ s.now then
    changeCount (na - 1) s
  else s

/-! ## Gate lanes (R222 to R228) -/

/-- The sideband's FLAGS word (R223). -/
def sidebandFlags (s : State) (l : Lane) : Nat :=
  bit (s.saf.laneEnable && !s.saf.gateInhibit) 0 + bit (s.conv.st == .burst && s.conv.packet = 0) 1 +
  bit (s.conv.st == .softStart) 2 + bit l.clear 3

/-- Data bytes of a sideband frame, between K27.7 and K29.7 (R223). -/
def sidebandBytes (s : State) (n : Nat) : List Byte :=
  let l := laneOf s n
  let b := leBytes 1 1 ++ leBytes 1 (n + 1) ++ leBytes 2 l.seq ++ leBytes 4 (claimCode s) ++ leInt 2 (prm s Prm.deadTime) ++
    leBytes 2 (sidebandFlags s l) ++ leBytes 6 (stampNow s) ++ leBytes 2 0
  b ++ leBytes 2 (crc16 b)

/-- The gate driver has this frame: CLEAR resets its latched desaturation once the cause has ended, which the driver's own
switch-off brings about within 2 µs (R228; DEDUCED, notes/assumptions/48.md). -/
def driverHears (t : Nat) (claim flags : Nat) (l : Lane) : Lane :=
  let cleared := bitOf flags 3 && l.drvDesatAt + us 2 ≤ t
  { l with sideband := some (t, claim, flags), drvDesat := if cleared then (false, false) else l.drvDesat }

/-- Send one lane's sideband frame. -/
def sendSideband (n : Nat) (s : State) : State :=
  let l := laneOf s n
  if l.txOff then s
  else
    setLane n (fun l => { driverHears s.now (claimCode s) (sidebandFlags s l) l with
        seq := (l.seq + 1) % 65536, sentN := min (l.sentN + 1) 65536, clear := false })
      (emit (.sideband (n + 1) (sidebandBytes s n)) s)

/-- SIDEBAND_FRAME (R223): every 10 µs on every fitted lane. -/
def execSidebandFrame (t : Nat) (s : State) : Host.Outcome State Fault Refusal :=
  timed t (fun s => eachDo (fittedLanes s) sendSideband s) s

/-- A status frame is well formed: SYNC and CRC (R225). -/
def statusValid (b : List Byte) : Bool :=
  b.length == 16 && byteAt b 0 == 0xE1 && byteAt b 1 == 0x5A && crc16 ((b.drop 2).take 12) == leAt b 14 2

/-- READY set and ECHO a SEQ already sent (R226). -/
def statusEchoes (l : Lane) (b : List Byte) : Bool :=
  bitOf (byteAt b 2) 0 && (l.seq + 65535 - leAt b 8 2) % 65536 < l.sentN

/-- A DESAT, UVLO or OVERTEMP flag (R225, R226). -/
def statusFaults (b : List Byte) : Bool := bitOf (byteAt b 2) 7 || bitOf (byteAt b 2) 6 || bitOf (byteAt b 2) 5 || bitOf (byteAt b 2) 1

/-- GATE_STATUS_FRAME (R225, R226): a training lane comes up at its third good frame in a row; a fault flag of an active phase
turns the gates off. -/
def execGateStatusFrame (t : Nat) (n : Nat) (b : List Byte) (s : State) : Host.Outcome State Fault Refusal :=
  timed t (fun s =>
    let l := laneOf s n
    if !statusValid b then setLane n (fun l => { l with errors := min (l.errors + 1) 65535, good := 0 }) s
    else
      let s := setLane n (fun l => { l with last := some b, drvTimeout := false }) s
      let s := if !l.training then s
        else if !statusEchoes l b then setLane n (fun l => { l with good := 0 }) s
        else if l.good + 1 < 3 then setLane n (fun l => { l with good := l.good + 1 }) s
        else setLane n (fun l => { l with good := 3, training := false, up := true }) s
      if l.up && statusFaults b && (phaseOf s n).active && switching s then
        faultToHold Ev.gateDriverFault [n + 1, byteAt b 2] s
      else s) s

/-- Begin training a lane: 64 K28.5 in every slot; CLEAR goes out with the next sideband frame (R226, DESIGN CHOICE
notes/assumptions/22.md). -/
def trainLane (n : Nat) (s : State) : State :=
  emit (.comma (n + 1) 64)
    (setLane n (fun l => { l with training := true, good := 0, up := false, clear := true, txOff := false }) s)

/-- LANE_TRAIN (R226): a fitted lane that is down trains. -/
def execLaneTrain (t : Nat) (n : Nat) (s : State) : Host.Outcome State Fault Refusal :=
  timed t (fun s => if (fittedLanes s).contains n && !(laneOf s n).up then trainLane n s else s) s

/-- The byte counters of inbound bytes follow one another, bits 7:2 rising by 1 and wrapping at 64 (R224). -/
def countersFollow : List Byte → Bool
  | a :: b :: l => (a.toNat / 4 + 1) % 64 == b.toNat / 4 && countersFollow (b :: l)
  | _ => true

/-- LANE_DOWN (R226): no valid byte for 2 µs, inbound bytes whose counter does not follow, or no valid status frame for 20 µs. -/
def execLaneDown (t : Nat) (n quiet noStatus : Nat) (b : List Byte) (s : State) : Host.Outcome State Fault Refusal :=
  timed t (fun s =>
    if !(laneOf s n).up || !(us 2 ≤ quiet || us 20 ≤ noStatus || !countersFollow b) then s
    else
      let act := (phaseOf s n).active && switching s
      let s := setLane n (fun l => { l with up := false, good := 0 }) s
      if act then faultToHold Ev.laneDown [n + 1] s else record Ev.laneDown 4 [n + 1] s) s

/-! ## The gate driver at the far end (R228)

A driver that meets R228, as this module's lane reaches it; the other module's port shows only in ACCEPTED of its status frames. -/

/-- LANE_TIMEOUT_OFF (R228; 01 R33): the driver has had no valid gate byte for 2 µs and holds both switches off. While the lanes
may not carry switch-on states this is the case in which the encoder sent no off symbols: the transmitter is switched off until
the lane trains again (DESIGN CHOICE, notes/assumptions/48.md). -/
def execLaneTimeoutOff (t : Nat) (n quiet : Nat) (s : State) : Host.Outcome State Fault Refusal :=
  timed t (fun s =>
    if us 2 ≤ quiet then setLane n (fun l => { l with drvTimeout := true, txOff := l.txOff || !lanesLive s }) s else s) s

/-- DRIVER_DESAT (R228): the driver turns the switch off and latches until a sideband frame with CLEAR. -/
def execDriverDesat (t : Nat) (n : Nat) (hs : Bool) (s : State) : Host.Outcome State Fault Refusal :=
  timed t (fun s => setLane n (fun l => { l with drvDesat := (l.drvDesat.1 || hs, l.drvDesat.2 || !hs), drvDesatAt := s.now }) s) s

/-- Claim code of the other module that the driver accepts, 0 if none or this module (R225). -/
def otherClaim (s : State) (l : Lane) : Nat :=
  let c := (l.last.map (fun b => leAt b 4 4)).getD 0
  if c = claimCode s then 0 else c

/-- The driver obeys this lane: its last sideband frame is at most 20 µs old, with ENABLE and a claim role of 8 or 15, no other
accepted port has a higher claim, and neither a timeout nor a desaturation holds the switches off (R228). -/
def driverObeys (s : State) (l : Lane) : Bool :=
  !l.drvTimeout && l.drvDesat == (false, false) && match l.sideband with
    | some (a, c, f) =>
      s.now ≤ a + us 20 && bitOf f 0 && (c / 2 ^ 28 == 8 || c / 2 ^ 28 == 15) && decide (otherClaim s l ≤ c)
    | none => false

/-- Instant at which a switch last went off in a list of edges, 0 if it never conducted. -/
def offSince (st : Nat) (l : List (Nat × Nat)) : Nat :=
  (l.foldl (fun (a : Nat × Nat) e => (e.2, if a.1 = st && e.2 ≠ st then e.1 else a.2)) (0, 0)).2

/-- The driver places one edge: an on-interval of at least 200 ns, a dead time before a switch turns on, an off-interval of at
least 300 ns; STATE 0b11 is both off (R222, R228). -/
def placeEdge (dt : Nat) (l : List (Nat × Nat)) (e : Nat × Nat) : List (Nat × Nat) :=
  let st := if e.2 < 3 then e.2 else 0
  match l.getLast? with
  | none => if st = 0 then [] else [(e.1, st)]
  | some p =>
    if st = p.2 then l
    else if st = 0 then l ++ [(max e.1 (p.1 + 800), 0)]
    else if p.2 = 0 then l ++ [(max e.1 (max (p.1 + dt) (offSince st l + 1200)), st)]
    else l ++ [(max e.1 (p.1 + 800), 0), (max e.1 (p.1 + 800) + dt, st)]

/-- The edges as the driver places them, before its fixed latency. -/
def driverEdges (s : State) (l : Lane) : List (Nat × Nat) := l.edges.foldl (placeEdge (prmN s Prm.deadTime)) []

/-- The driver's switches now: 0 both off, 1 LS on, 2 HS on (R228). -/
def driverState (s : State) (n : Nat) : Nat :=
  let l := laneOf s n
  if driverObeys s l then stateAt (driverEdges s l) (4 * s.now) else 0

/-! ## Commands (R232) -/

/-- Code of the modulator's state. -/
def ModState.code : ModState → Nat
  | .off => 0 | .softStart => 1 | .retryWait => 2 | .continuous => 3 | .burst => 4

/-- MOD_STATUS fields. -/
def modStatus (s : State) : Payload :=
  .fields ([("state", [(s.conv.st.code : Int), s.conv.fails]), ("n_a", [(s.conv.na : Int)]), ("pointer", [(s.conv.ptr + 1 : Nat)]),
    ("acc", [s.conv.acc]), ("SLEW_MARGIN_LOW", [flag s.conv.slewLow]), ("last gate-off cause", [s.conv.offCause])] ++
    s.conv.ph.map (fun p => ("phase", [(p.tOn : Int), p.freq, p.trim, codeS16 (some p.valley), codeS16 p.mean, p.hits])))

/-- MOD_STATUS. -/
def execModStatus (t : Nat) (m : Nat) (s : State) : Host.Outcome State Fault Refusal :=
  timed t (serve m Cmd.modStatus (statusHandler modStatus)) s

/-- LANE_STATUS fields. -/
def laneStatus (s : State) : Payload :=
  .fields (s.conv.lane.map (fun l => ("lane", [flag l.up, flag l.training, (l.errors : Int)] ++
    ((l.last.getD []).map (fun b => (b.toNat : Int))))))

/-- LANE_STATUS. -/
def execLaneStatus (t : Nat) (m : Nat) (s : State) : Host.Outcome State Fault Refusal :=
  timed t (serve m Cmd.laneStatus (statusHandler laneStatus)) s

/-- DT_TABLE_READ: 32 entries in force, then 32 staged (the entries in force where none are staged). -/
def execDtTableRead (t : Nat) (m : Nat) (s : State) : Host.Outcome State Fault Refusal :=
  timed t (serve m Cmd.dtTableRead (statusHandler (fun s =>
    .bytes (s.conv.dt.flatMap (leInt 2) ++ (s.conv.dtStaged.getD s.conv.dt).flatMap (leInt 2))))) s

/-- DT_TABLE_WRITE's handler (R229): every entry within ±DEAD_TIME. -/
def dtWriteHandler (r : Request) : State → Answer × State :=
  withLength 64 (fun p s =>
    let es := (List.range 32).map (fun k => signedOf 16 (leAt p (2 * k) 2))
    match (List.range 32).find? (fun k => prm s Prm.deadTime < (((es.getD k 0).natAbs : Nat) : Int)) with
    | some k => refuse (argReply r.command (2 * k)) s
    | none => ok { s with conv.dtStaged := some es }) r

/-- DT_TABLE_WRITE. -/
def execDtTableWrite (t : Nat) (m : Nat) (s : State) : Host.Outcome State Fault Refusal :=
  timed t (serve m Cmd.dtTableWrite dtWriteHandler) s

/-- LANE_RETRAIN: every fitted lane trains; refused while the converter switches. -/
def execLaneRetrain (t : Nat) (m : Nat) (s : State) : Host.Outcome State Fault Refusal :=
  timed t (serve m Cmd.laneRetrain (withLength 0 (fun _ s =>
    if switching s then refuse (guardReply Ev.impConverter) s else ok (eachDo (fittedLanes s) trainLane s)))) s

end Sys2Proof.Machine
end

