-- ==== Sys2Proof/Machine/MailboxOps.lean ====
section
/-!
DEFINITION. Machine/MailboxOps.lean: the mailboxes (13): envelopes, bindings, the checks of R382, reading and
acknowledging, staging, keys, and the core status commands.
-/

namespace Sys2Proof.Machine

open Sys2Proof

/-! ## Bindings (R373) -/

/-- Fabric address that MBX_FIXED binds a mailbox to, 0 for none. -/
def fixedAddr (s : State) (m : Nat) : Nat := if m < 6 then prmN s (Prm.mbxFixed0 + m) else 0

/-- The source a mailbox is bound to. -/
def boundSource (s : State) (m : Nat) : Option Source :=
  if fixedAddr s m ≠ 0 then some (.fabric (fixedAddr s m)) else (mbxOf s m).bound.map (·.1)

/-- The number of a mailbox's present binding. -/
def bindingOf (s : State) (m : Nat) : Option Nat := (mbxOf s m).bound.map (·.2)

/-- A source's path serves a mailbox number (R371, R372). -/
def pathServes (src : Source) (m : Nat) : Bool := match src with
  | .fabric _ => m < 6
  | .udp _ _ => m = 6
  | .tw => m = 7

/-- The mailbox on which an envelope whose number does not match its path is counted: its own number, else the path's
lowest (DESIGN CHOICE, notes/assumptions/12.md). -/
def countedOn (src : Source) (m : Nat) : Nat := if m < 8 then m else match src with
  | .fabric _ => 0
  | .udp _ _ => 6
  | .tw => 7

/-- The mailbox is served in the mode in force (R371, 12 R354), and Spire runs (R383). -/
def mbxServed (s : State) (m : Nat) : Bool :=
  s.core.spireUp && !s.core.booting && !s.thm.held &&
    match s.core.mode with
    | .shelf => false
    | .dormant => if s.core.pairStandbyProfile then m ≠ 6 else m = 7
    | _ => true

/-- Discard a function's staged set and its ownership (R389). -/
def dropStaged (f : Func) : Func := { f with staged := [], owner := none }

/-- End a mailbox's binding: the mailbox empties, staged sets and image slots it owns are released, its cursors fall free
(R373, R389, R402; 18 R522; 19 R534). -/
def endBinding (m : Nat) (s : State) : State :=
  let b := mbxOf s m
  match b.bound with
  | none => s
  | some (_, n) =>
    let s := setMbx m (fun b => { b with bound := none, phase := .empty, req := none, held := none, result := none,
                                         started := false, emptySince := s.now, challenge := none }) s
    { s with
      mbx.fns := s.mbx.fns.map (fun f => if f.owner = some m && f.ownerBinding = n then dropStaged f else f),
      well.cursors := s.well.cursors.map (fun c => if c.owner = some n then {} else c),
      upd.img := s.upd.img.map (fun i => if i.owner = some (n, m) then { i with owner := none } else i) }

/-- Bind a mailbox to a source under a new number, unless it is bound to it already; where MBX_FIXED has come to name another
source, the old binding ends once nothing is pending (R373, R401; 18 R522). -/
def bindTo (src : Source) (m : Nat) (s : State) : State :=
  let b := mbxOf s m
  if (b.bound.map (·.1)) == some src || (b.bound.isSome && b.phase == .pending) then s
  else
    let s := endBinding m s
    { setMbx m (fun b => { b with bound := some (src, s.mbx.nextBinding) }) s with mbx.nextBinding := s.mbx.nextBinding + 1 }

/-! ## Envelopes (R372, R375) -/

/-- The request in an envelope body. -/
def parseRequest (body : List Byte) : Request :=
  let len := leAt body 4 2
  { command := leAt body 0 2, seq := leAt body 2 2, length := len, flags := byteAt body 6, pad := byteAt body 7,
    payload := (body.drop 8).take len, auth := (body.drop (8 + len)).take 44 }

/-- Step 1 of R382: LENGTH, reserved fields and the presence of the block. -/
def checkForm (body : List Byte) (r : Request) : Option Reply :=
  let want := 8 + r.length + if r.flags % 2 = 1 then 44 else 0
  if 1152 < r.length || body.length ≠ want then some lengthReply
  else if 1 < r.flags || r.pad ≠ 0 || (r.flags = 1 && leAt r.auth 2 2 ≠ 0) then some (causeReply .badArgument Ev.reserved)
  else none

/-- Operation of a command code. -/
def opOf (cmd : Nat) : Nat := cmd % 256

/-- The specific command's row. -/
def cmdRow? (cmd : Nat) : Option CmdRow := cmdTable.find? (fun r => r.code = cmd)

/-- Step 2 of R382 (R384). -/
def knownCommand (cmd : Nat) : Bool :=
  cmd / 256 ≤ 0x14 && (opOf cmd ≤ 5 || (cmdRow? cmd).isSome)

/-! ## Authorisation (R395 to R398) -/

/-- Rank of a role. -/
def Role.rank : Role → Nat
  | .none => 0 | .operator => 1 | .engineer => 2 | .owner => 3

/-- Key of a ROLE byte. -/
def keyOf (s : State) (role : Nat) : Key :=
  if role = 1 then s.core.keyOperator else if role = 2 then s.core.keyEngineer else if role = 3 then s.core.keyOwner else {}

/-- Role of a ROLE byte. -/
def roleOfByte (b : Nat) : Role := if b = 1 then .operator else if b = 2 then .engineer else if b = 3 then .owner else .none

/-- Role that a command needs on a mailbox. -/
def neededRole (s : State) (m : Nat) (r : Request) : Role :=
  match opOf r.command with
  | 0 | 4 => .none
  | 1 | 2 | 3 | 5 => .engineer
  | _ => match (cmdRow? r.command).map CmdRow.role with
    | some (.fixed x) => x
    | some .recRead => [Role.none, .operator, .engineer].getD (prmN s Prm.recReadRole) .none
    | some .ownMailbox => if byteAt r.payload 0 = m then .none else .owner
    | some .keySet =>
      if s.core.keyOwner.key.isNone && byteAt r.payload 0 = 3 && m = 7 && r.flags = 0 then .none else .owner
    | none => .none

/-- The first eight bytes of a request. -/
def headerBytes (r : Request) : List Byte :=
  leBytes 2 r.command ++ leBytes 2 r.seq ++ leBytes 2 r.length ++ leBytes 1 r.flags ++ leBytes 1 r.pad

/-- The MAC a block must carry (R396). -/
def macOf (key : List Byte) (m : Nat) (r : Request) : List Byte :=
  hmacSha256 key ((r.auth.drop 4).take 8 ++ leBytes 1 m ++ headerBytes r ++ r.payload)

/-- Step 3 of R382 for a request with a block: the first failing test of R397. -/
def checkBlock (s : State) (m : Nat) (r : Request) : Option Nat :=
  let b := mbxOf s m
  let role := byteAt r.auth 0
  let k := keyOf s role
  match b.challenge, k.key with
  | none, _ => some Ev.authChallenge
  | some (c, at_), key =>
    if c ≠ (r.auth.drop 4).take 8 || at_ + sec 60 < s.now then some Ev.authChallenge
    else match key with
      | none => some Ev.authKey
      | some kb =>
        if k.gen ≠ byteAt r.auth 1 then some Ev.authKey
        else if macOf kb m r ≠ (r.auth.drop 12).take 32 then some Ev.authMac
        else if (roleOfByte role).rank < (neededRole s m r).rank then some Ev.authRole
        else none

/-- Step 3 of R382. -/
def checkAuth (s : State) (m : Nat) (r : Request) : Option Nat :=
  if r.flags = 1 then checkBlock s m r
  else if neededRole s m r == .none then none else some Ev.authRole

/-! ## Modes and seals (R366, R381, R382) -/

/-- Modes in which STOP and RESTART of a function are legal, as bits (12 R366). -/
def stopModes (f : Nat) : Nat :=
  [0x00, 0xC6, 0xF6, 0xF6, 0xF6, 0xE6, 0xE6, 0xF6, 0x40, 0xC6, 0xF6, 0xC4, 0xF6, 0xF6, 0xF6, 0xF6, 0xF6, 0xF6, 0xF6,
   0x44, 0xF6].getD f 0

/-- A plane is in service: not declared failed, and its function runs (12 R366). -/
def planeInService (s : State) (p : Nat) : Bool := !(planeOf s p).failed && running s (0x0C + p)

/-- Legal modes of a request as bits. -/
def legalModes (s : State) (cmd : Nat) : Nat :=
  let f := cmd / 256
  match opOf cmd with
  | 0 | 4 => 0xFE
  | 2 | 5 => if f = 8 ∧ opOf cmd = 2 then 0x40 else 0xFE
  | 1 | 3 => if (f = 0x0C ∧ !planeInService s 1) ∨ (f = 0x0D ∧ !planeInService s 0) then 0 else stopModes f
  | _ => ((cmdRow? cmd).map (·.modes)).getD 0

/-- Step 4 of R382. -/
def checkMode (s : State) (cmd : Nat) : Option Reply :=
  if bitOf (legalModes s cmd) s.core.mode.code then none else some { status := .wrongMode, legal := legalModes s cmd }

/-- Step 5 of R382 for STAGE and RESTART of the safety function (09 R290). -/
def checkSeal (s : State) (cmd : Nat) : Option Reply :=
  if (cmd = 0x0802 || cmd = 0x0803) && !s.saf.sealsNow.getLsbD 4 then some (causeReply .sealPosition Ev.ss5) else none

/-- Steps 1 to 5 of R382. -/
def checkRequest (s : State) (m : Nat) (body : List Byte) (r : Request) : Option Reply :=
  match checkForm body r with
  | some x => some x
  | none =>
    if !knownCommand r.command then some { status := .unknownCommand }
    else match checkAuth s m r with
      | some c => some (causeReply .notAuthorised c)
      | none => match checkMode s r.command with
        | some x => some x
        | none => checkSeal s r.command

/-! ## Requests, reads, acknowledgements (R377 to R380) -/

/-- A response delivered once and not held. -/
def sendOnce (m : Nat) (src : Source) (seq : Nat) (r : Reply) (s : State) : State :=
  if m < 7 then deliver m src { reply := r, mode := s.core.mode, seq := seq, readCount := 1, str := s.mbx.viaStr } s else s

/-- Count a discarded envelope (R372). -/
def discardEnvelope (m : Nat) (s : State) : State := setMbx m (fun b => { b with discarded := b.discarded + 1 }) s

/-- A READ of a mailbox (R379): the response to deliver, READ_COUNT counted. -/
def readMailbox (m : Nat) (s : State) : Response × State :=
  let b := mbxOf s m
  match b.phase, b.held with
  | .pending, _ =>
    ({ reply := { status := .pending }, mode := s.core.mode, seq := (b.req.map (·.seq)).getD 0, readCount := 1,
       str := (b.req.map (·.str)).getD false }, s)
  | .holding, some h =>
    let h := { h with readCount := min 255 (h.readCount + 1) }
    (h, setMbx m (fun b => { b with held := some h }) s)
  | _, _ => ({ reply := causeReply .badArgument Ev.mailboxEmpty, mode := s.core.mode, seq := 0, readCount := 1, str := s.mbx.viaStr }, s)

/-- READ with its delivery on the path. -/
def readAndSend (m : Nat) (src : Source) (s : State) : State :=
  let p := readMailbox m s
  deliver m src p.1 p.2

/-- The request equals the one the mailbox holds or serves (R378). -/
def isRepeat (b : Mailbox) (r : Request) : Bool :=
  b.phase != .empty && (b.req.map (fun q => (q.command, q.seq, q.length, q.payload, q.auth))) ==
    some (r.command, r.seq, r.length, r.payload, r.auth)

/-- A request takes an empty or holding mailbox: it becomes pending, its challenge is consumed, and steps 1 to 5 of R382
are judged (R377, R382, R397). -/
def takeRequest (m : Nat) (body : List Byte) (s : State) : State :=
  let r := { parseRequest body with str := s.mbx.viaStr }
  let verdict := checkRequest s m body r
  let role := if r.flags = 1 && verdict.isNone then roleOfByte (byteAt r.auth 0) else .none
  let s := setMbx m (fun b => { b with phase := .pending, req := some r, role := role, held := none, result := none,
                                       started := false,
                                       challenge := if r.flags % 2 = 1 && r.auth.length = 44 then none else b.challenge }) s
  match verdict with
  | some x =>
    answerNow m x (if r.command = Cmd.spSet then { s with disp.lastReject := x.status } else s)
  | none => s

/-- A REQUEST body on a mailbox from a bound source (R377, R378). True in the first part when the mailbox is busy. -/
def requestOn (m : Nat) (body : List Byte) (s : State) : Bool × State :=
  let b := mbxOf s m
  if b.phase == .pending then (true, s) else (false, takeRequest m body s)

/-- A request that carries a block consumes the mailbox's challenge, whatever its status (R397). -/
def consumeChallenge (m : Nat) (r : Request) (s : State) : State :=
  if r.flags % 2 = 1 && r.auth.length = 44 then setMbx m (fun b => { b with challenge := none }) s else s

/-- A REQUEST to a pending mailbox: MAILBOX_BUSY, delivered once (R377; 08 R251). -/
def busyRequest (m : Nat) (src : Source) (r : Request) (s : State) : State :=
  let s := if r.command = Cmd.spSet then { s with disp.lastReject := .mailboxBusy } else s
  sendOnce m src r.seq { status := .mailboxBusy } (consumeChallenge m r s)

/-- A REQUEST from a foreign source (R373): answered and not passed on. -/
def foreignRequest (m : Nat) (src : Source) (body : List Byte) (s : State) : State :=
  let r := parseRequest body
  let ans := match checkForm body r with
    | some x => x
    | none => if !knownCommand r.command then { status := .unknownCommand } else causeReply .notAuthorised Ev.mailboxBound
  let s := consumeChallenge m r s
  let s := if r.command = Cmd.spSet then { s with disp.lastReject := ans.status } else s
  sendOnce m src r.seq ans (if ans.status == .notAuthorised then countRefused m s else s)

/-- Meaning of a REQUEST body on a mailbox (R372 to R378, R382). -/
def handleRequest (m : Nat) (src : Source) (body : List Byte) (s : State) : State :=
  let s := { s with core.quietSince := s.now }
  match boundSource s m with
  | some b =>
    if b ≠ src then foreignRequest m src body s
    else
      let s := bindTo src m s
      let r := parseRequest body
      if isRepeat (mbxOf s m) r then readAndSend m src s
      else
        let p := requestOn m body s
        if p.1 then busyRequest m src r s else p.2
  | none => (requestOn m body (bindTo src m s)).2

/-- An envelope reaches this module: over the fabric, in a frame addressed to it (15 R435, R441). -/
def reaches (s : State) (src : Source) (dst : Nat) : Bool := match src with
  | .fabric _ => forThisNode s dst
  | _ => true

/-- The string address as the DST of an envelope (15 R441). -/
def viaString (s : State) (src : Source) (dst : Nat) : Bool := match src with
  | .fabric _ => dst ≠ s.fab.node && dst ≠ 0xFFFF
  | _ => false

/-- Envelope handling common to the three operations: the frame is addressed to this module (`dst` its DST on the fabric), the path
must match and the mailbox be served (R371, R372; 15 R441). -/
def withEnvelope (op : Nat) (src : Source) (dst : Nat) (env : List Byte) (f : Nat → List Byte → State → State) (s : State) : State :=
  let m := byteAt env 1
  let s := { s with mbx.viaStr := viaString s src dst }
  if !reaches s src dst then s
  else if !mbxServed s (countedOn src m) then s
  else if !pathServes src m || env.length < 2 || byteAt env 0 ≠ op then discardEnvelope (countedOn src m) s
  else f m (env.drop 2) s

/-- REQUEST (R377): an envelope arrives; another OP than 0x01 counts as unknown here. -/
def execRequest (t : Nat) (src : Source) (dst : Nat) (env : List Byte) (s : State) : Host.Outcome State Fault Refusal :=
  timed t (withEnvelope 1 src dst env (fun m body => handleRequest m src body)) s

/-- READ (R379): no body; from a foreign source NOT_AUTHORISED with cause MAILBOX_BOUND (R373). -/
def execRead (t : Nat) (src : Source) (dst : Nat) (env : List Byte) (s : State) : Host.Outcome State Fault Refusal :=
  timed t (withEnvelope 2 src dst env (fun m _ s =>
    if (boundSource s m).isSome && boundSource s m ≠ some src then
      sendOnce m src 0 (causeReply .notAuthorised Ev.mailboxBound) (countRefused m s)
    else readAndSend m src s)) s

/-- An ACK with a SEQUENCE (R380). -/
def ackMailbox (m seq : Nat) (s : State) : State :=
  let b := mbxOf s m
  if b.phase == .holding && (b.held.map (·.seq)) == some seq then
    setMbx m (fun b => { b with phase := .empty, held := none, req := none, emptySince := s.now }) s
  else s

/-- ACK (R380): no response. -/
def execAck (t : Nat) (src : Source) (dst : Nat) (env : List Byte) (s : State) : Host.Outcome State Fault Refusal :=
  timed t (withEnvelope 3 src dst env (fun m body s =>
    if boundSource s m ≠ some src then s else ackMailbox m (leAt body 0 2) s)) s

/-- What follows the response: a released own mailbox and a changed path of mailbox 6 take effect (13 R399, R401); a changed node address takes effect once
the COMMIT and every fabric request that was pending have been answered (15 R439, R459). -/
def afterResponse (m : Nat) (r : Request) (s : State) : State :=
  let s := if r.command = Cmd.mbxRelease && byteAt r.payload 0 = m then endBinding m s else s
  let s := if r.command = Cmd.commit then { s with mbx.svcPath := svcPathOf s } else s
  let waits (i : Nat) : Bool := (mbxOf s i).phase == .pending && (i < 6 || ((mbxOf s i).req.map (·.command)) == some Cmd.commit)
  match s.fab.nextNode with
  | some a => if (List.range 8).any waits then s else changeNode a s
  | none => s

/-- Class of a COMMAND_DONE record: a refused command is a WARNING, the others INFO (18 R517). -/
def doneClass (r : Reply) : Nat := if r.status == .done then 1 else 3

/-- COMMAND_DONE (R379): the ended command's response is formed with the mode now in force, and recorded. -/
def execCommandDone (t : Nat) (m : Nat) (s : State) : Host.Outcome State Fault Refusal :=
  timed t (fun s =>
    let b := mbxOf s m
    match b.phase, b.result, b.req with
    | .pending, some r, some q =>
      if s.core.spireUp then
        afterResponse m q (formResponse m r (record Ev.commandDone (doneClass r) [m, q.command, r.status.code] s))
      else s
    | _, _, _ => s) s

/-- MBX_IDLE_RELEASE (R373): a dynamic mailbox has been empty, with no request pending, for MBX_IDLE_RELEASE. -/
def execMbxIdleRelease (t : Nat) (m : Nat) (s : State) : Host.Outcome State Fault Refusal :=
  timed t (fun s =>
    let b := mbxOf s m
    if m < 7 && fixedAddr s m = 0 && b.phase == .empty && b.bound.isSome &&
        heldFor s b.emptySince (sec (prmN s Prm.mbxIdleRelease)) then endBinding m s else s) s

/-- STAGE_TIMEOUT (R389): 600 s with no STAGE from the owner. -/
def execStageTimeout (t : Nat) (f : Nat) (s : State) : Host.Outcome State Fault Refusal :=
  timed t (fun s =>
    if (fnOf s f).owner.isSome && heldFor s (fnOf s f).stagedAt (sec 600) then setFn f dropStaged s else s) s

/-- SPIRE_RESTART (R383): both cores restart: pending requests end with EXEC_FAULT and cause SPIRE_RESTART, staged sets are
lost (R389), bindings, held responses and cursors stay; I1's crossings are flushed (01 R18). -/
def execSpireRestart (t : Nat) (s : State) : Host.Outcome State Fault Refusal :=
  timed t (fun s =>
    let s := record Ev.spireRestart 4 [] s
    let s := { s with mbx.fns := s.mbx.fns.map dropStaged, upd.job := s.upd.job.map (fun (j : Install) => { j with mb := none }) }
    let s := flushCrossings 1 s
    eachDo (List.range 8) (fun m s =>
      if (mbxOf s m).phase == .pending then formResponse m (causeReply .execFault Ev.spireRestart) s else s) s) s

/-! ## Common operations without a function's own part (R385 to R389) -/

/-- Serve a common operation: the mailbox's pending request is operation `op` of some function. -/
def serveCommon (m op : Nat) (h : Nat → Request → State → Answer × State) (s : State) : State :=
  match (mbxOf s m).req with
  | none => s
  | some r => if opOf r.command = op then serve m r.command (h (r.command / 256)) s else s

/-- State byte of a function status block (R386). -/
def FnState.code : FnState → Nat
  | .running => 0 | .stopping => 1 | .stopped => 2 | .restarting => 3 | .notPresent => 4

/-- The function status block (R386). -/
def statusBlock (f : Func) : List Byte :=
  leBytes 1 f.state.code ++ leBytes 1 (f.owner.getD 0xFF) ++ leBytes 2 f.staged.length ++ leBytes 1 f.lastCommit.code ++
    [0] ++ leBytes 2 f.lastCause

/-- GET_STATUS (R386). -/
def execGetStatus (t : Nat) (m : Nat) (s : State) : Host.Outcome State Fault Refusal :=
  timed t (serveCommon m 0 (fun f => statusHandler (fun s => .bytes (statusBlock (fnOf s f))))) s

/-- The four bytes of a value as the row reads them. -/
def valueOf (id raw : Nat) : Int := match paramRow? id with
  | some row => if row.signed then signedOf 32 raw else raw
  | none => raw

/-- A value is in range for its parameter (R389). -/
def inRange (id : Nat) (v : Int) : Bool := match paramRow? id with
  | some row => row.accepts v
  | none => false

/-- Entries of a STAGE payload: ID and raw value. -/
def stageEntries (p : List Byte) : List (Nat × Nat) :=
  (List.range (byteAt p 0)).map (fun i => (leAt p (1 + 6 * i) 2, leAt p (3 + 6 * i) 4))

/-- Ownership guard of a function's staged set (R389). -/
def ownedByOther (s : State) (f m : Nat) : Bool := match (fnOf s f).owner with
  | some o => o ≠ m
  | none => false

/-- Guards shared by STAGE, DISCARD_STAGED, STOP, RESTART and COMMIT: one at a time (R394), then ownership (R389). -/
def commonGuard (s : State) (f m : Nat) (owns : Bool) : Option Reply :=
  if (fnOf s f).busy.isSome then some (guardReply Ev.functionBusy)
  else if owns && ownedByOther s f m then some (guardReply Ev.stageOwned)
  else none

/-- STAGE's handler (R389; 09 R290: the safety function must be stopped for a safety parameter). -/
def stageHandler (m f : Nat) (r : Request) (s : State) : Answer × State :=
  let n := byteAt r.payload 0
  let entries := stageEntries r.payload
  if f = 8 && !stopped s 8 then refuse { status := .functionRunning, fn := 0xFF } s
  else if r.payload.length < 1 || r.payload.length ≠ 1 + 6 * n then refuse lengthReply s
  else if n = 0 || 64 < n then refuse (argReply r.command 0) s
  else match entries.find? (fun e => e.1 / 256 ≠ f || !inRange e.1 (valueOf e.1 e.2)) with
    | some e => refuse (paramReply .badArgument Ev.paramRange e.1) s
    | none => match commonGuard s f m true with
      | some g => refuse g s
      | none =>
        let set := entries.foldl (fun l e => assocSet l e.1 (valueOf e.1 e.2)) (fnOf s f).staged
        answerWith (doneWith (.bytes (leBytes 1 n)))
          (setFn f (fun x => { x with staged := set, owner := some m, ownerBinding := (bindingOf s m).getD 0, stagedAt := s.now }) s)

/-- STAGE (R389). -/
def execStage (t : Nat) (m : Nat) (s : State) : Host.Outcome State Fault Refusal :=
  timed t (serveCommon m 2 (stageHandler m)) s

/-- Value of a parameter as READ_PARAM gives it from the bank in force (R388; 09 R296: safety parameters from the set that
SAFE_EDIT_SET names). -/
def readValue (s : State) (id : Nat) : Int :=
  if 0x0801 ≤ id ∧ id ≤ 0x080F then (s.saf.sets.getD (prmN s Prm.safeEditSet) {}).vals.getD (id - 0x0801) 0 else prm s id

/-- One READ_PARAM entry (R388). -/
def readEntry (s : State) (f bank id : Nat) : List Byte :=
  match (if id / 256 = f then paramRow? id else none) with
  | none => leBytes 2 id ++ leBytes 1 Status.badArgument.code ++ [0] ++ leBytes 4 0
  | some row =>
    let st := assocGet (fnOf s f).staged id
    let v := if bank = 1 then st.getD (readValue s id) else readValue s id
    leBytes 2 id ++ leBytes 1 Status.done.code ++ leBytes 1 (bit st.isSome 0 + bit row.stop 1) ++ leInt 4 v

/-- READ_PARAM's handler. -/
def readParamHandler (f : Nat) (r : Request) (s : State) : Answer × State :=
  let bank := byteAt r.payload 0
  let n := byteAt r.payload 1
  if r.payload.length < 2 || r.payload.length ≠ 2 + 2 * n then refuse lengthReply s
  else if 1 < bank then refuse (argReply r.command 0) s
  else if n = 0 || 64 < n then refuse (argReply r.command 1) s
  else okWith (.bytes (leBytes 1 bank ++ leBytes 1 n ++
    (List.range n).flatMap (fun i => readEntry s f bank (leAt r.payload (2 + 2 * i) 2)))) s

/-- READ_PARAM (R388). -/
def execReadParam (t : Nat) (m : Nat) (s : State) : Host.Outcome State Fault Refusal :=
  timed t (serveCommon m 4 readParamHandler) s

/-- DISCARD_STAGED's handler (R389). -/
def discardHandler (m f : Nat) : Request → State → Answer × State :=
  withLength 0 (fun _ s => match commonGuard s f m true with
    | some g => refuse g s
    | none => ok (setFn f dropStaged s))

/-- DISCARD_STAGED (R389). -/
def execDiscardStaged (t : Nat) (m : Nat) (s : State) : Host.Outcome State Fault Refusal :=
  timed t (serveCommon m 5 (discardHandler m)) s

/-! ## Core commands (R397 to R400) -/

/-- PAIR_ROLE of IDENTIFY and the health report (R400, 14 R427). -/
def pairRoleCode (s : State) : Nat := if !pairMode s then 0 else if s.pair.standby then 2 else 1

/-- VERSION of an image header as one number, for comparing. -/
def versionKey (h : List Byte) : Nat := byteAt h 12 * 2 ^ 24 + byteAt h 13 * 2 ^ 16 + leAt h 14 2

/-- Bytes of a staging slot in offset order. -/
def slotBytes (i : ImgSlot) : List Byte := i.blocks.flatMap (·.2)

/-- Image state of IDENTIFY (R400): 2 loader recovery, 1 staged newer, 0 running. -/
def imageState (i : ImgSlot) : Nat :=
  if i.marker then 2
  else if (i.st == .complete || i.st == .checked) && versionKey i.running < versionKey (slotBytes i) then 1 else 0

/-- The identity payload, 96 bytes (R400). -/
def identityBytes (s : State) : List Byte :=
  fixLen 16 s.core.part ++ leBytes 8 s.core.serial ++ leBytes 1 s.core.hwLevel ++ leBytes 1 (pairRoleCode s) ++
  leBytes 2 s.fab.node ++ leBytes 2 (prmN s Prm.stringAddr) ++ leBytes 2 0 ++
  (s.upd.img.take 8).flatMap (fun i => (i.running.drop 12).take 5 ++ leBytes 1 (imageState i)) ++
  leBytes 4 (operatingS s) ++ leBytes 3 s.core.powerCycles ++ leBytes 1 (if s.core.ownerLock then 1 else 0) ++
  leBytes 8 s.core.bootStamp

/-- IDENTIFY (R400). -/
def execIdentify (t : Nat) (m : Nat) (s : State) : Host.Outcome State Fault Refusal :=
  timed t (serve m Cmd.identify (statusHandler (fun s => .bytes (identityBytes s)))) s

/-- GET_CHALLENGE (R397): an 8-byte random challenge; refused during the lockout. -/
def execGetChallenge (t : Nat) (m : Nat) (s : State) : Host.Outcome State Fault Refusal :=
  timed t (serve m Cmd.getChallenge (withLength 0 (fun _ s =>
    if s.now < (mbxOf s m).lockedUntil then refuse (guardReply Ev.authLockout) s
    else
      let c := (List.range 8).map (Config.randomByte s.core.draws)
      answerWith (doneWith (.bytes c))
        (setMbx m (fun b => { b with challenge := some (c, s.now) }) { s with core.draws := s.core.draws + 1 })))) s

/-- A source as numbers: kind and address. -/
def sourceInts (b : Option Source) : List Int := match b with
  | none => [0]
  | some (.fabric a) => [1, a]
  | some (.udp ip port) => [2, ip, port]
  | some .tw => [3]

/-- Code of a mailbox phase. -/
def MbxPhase.code : MbxPhase → Nat
  | .empty => 0 | .pending => 1 | .holding => 2

/-- MBX_STATUS: the fields of one mailbox (R399). -/
def mbxFields (s : State) (m : Nat) : String × List Int :=
  let b := mbxOf s m
  ("mailbox", sourceInts (boundSource s m) ++ [flag (fixedAddr s m ≠ 0), b.phase.code, (b.req.map (·.seq)).getD 0,
    (b.req.map (·.command)).getD 0, (b.held.map (·.readCount)).getD 0, if b.held.isSome then ((s.now - b.heldSince : Nat) : Int) else 0,
    b.naCount, ((b.lockedUntil - s.now : Nat) : Int), b.discarded])

/-- MBX_STATUS (R399). -/
def execMbxStatus (t : Nat) (m : Nat) (s : State) : Host.Outcome State Fault Refusal :=
  timed t (serve m Cmd.mbxStatus (statusHandler (fun s => .fields ((List.range 8).map (mbxFields s))))) s

/-- MBX_RELEASE (R399): ends a dynamic binding and empties the mailbox; the caller's own ends after its response. -/
def execMbxRelease (t : Nat) (m : Nat) (s : State) : Host.Outcome State Fault Refusal :=
  timed t (serve m Cmd.mbxRelease (fun r => withLength 1 (fun p s =>
    let x := byteAt p 0
    if 7 ≤ x || fixedAddr s x ≠ 0 then refuse (argReply r.command 0) s
    else ok (if x = m then s else endBinding x s)) r)) s

/-- Bytes XORed pairwise. -/
def xorBytes (a b : List Byte) : List Byte := a.zipWith (· ^^^ ·) b

/-- The new key of a KEY_SET (R398): plain while no owner key is stored, else masked with the present owner key over the
challenge and the ROLE byte. -/
def newKey (s : State) (r : Request) : List Byte :=
  let k := (r.payload.drop 1).take 32
  match s.core.keyOwner.key with
  | none => k
  | some ok => xorBytes k (hmacSha256 ok ((r.auth.drop 4).take 8 ++ leBytes 1 (byteAt r.payload 0)))

/-- Store a key and count its generation. -/
def storeKey (role : Nat) (k : Option (List Byte)) (s : State) : State :=
  let put (x : Key) : Key := { key := k, gen := (x.gen + 1) % 256 }
  if role = 1 then { s with core.keyOperator := put s.core.keyOperator }
  else if role = 2 then { s with core.keyEngineer := put s.core.keyEngineer }
  else { s with core.keyOwner := put s.core.keyOwner }

/-- KEY_SET's handler (R398): an all-zero key removes an operator or engineer key; the owner key is only replaced; NVM is
written before the answer (11 R329). -/
def keySetHandler (r : Request) (s : State) : Answer × State :=
  if r.payload.length ≠ 33 then refuse lengthReply s
  else
    let role := byteAt r.payload 0
    let k := newKey s r
    let zero := k.all (· == 0)
    if role = 0 || 3 < role then refuse (argReply r.command 0) s
    else if zero && role = 3 then refuse (argReply r.command 1) s
    else if s.thm.forbid then refuse (guardReply Ev.nvmTemp) s
    else ok (record Ev.keySet 6 [role] (storeKey role (if zero then none else some k) s))

/-- KEY_SET (R398). -/
def execKeySet (t : Nat) (m : Nat) (s : State) : Host.Outcome State Fault Refusal :=
  timed t (serve m Cmd.keySet keySetHandler) s

/-- OWNER_LOCK (R399): 1 set, 0 clear; kept in NVM. -/
def execOwnerLock (t : Nat) (m : Nat) (s : State) : Host.Outcome State Fault Refusal :=
  timed t (serve m Cmd.ownerLock (fun r => withLength 1 (fun p s =>
    if 1 < byteAt p 0 then refuse (argReply r.command 0) s
    else if s.thm.forbid then refuse (guardReply Ev.nvmTemp) s
    else ok { s with core.ownerLock := byteAt p 0 = 1 }) r)) s

end Sys2Proof.Machine
end

