-- ==== Sys2Proof/Machine/Tap.lean ====
section
/-!
DEFINITION. Machine/Tap.lean: the DX-T16 tap: how it treats a request, the commands of the ring chapter, its sample, its slot,
its comparators, its clock and its sleep (02 R42 to R67, R75, R76; 03 R85, R90 to R93).
-/

namespace Sys2Proof.Machine

open Sys2Proof

/-! ## Frames (02 R44 to R49) -/

/-- Index of a tap: ring x 16 + position - 1. -/
def tapIndex (r p : Nat) : Nat := 16 * r + (p - 1)

/-- Ring and position of a tap index. -/
def tapPlace (i : Nat) : Nat × Nat := (i / 16, i % 16 + 1)

/-- Taps that stand on a ring. -/
def tapsOn (s : State) (r : Nat) : Nat := ((s.rings.tap.drop (16 * r)).take 16).countP (·.fitted)

/-- A ring frame's bytes from ADDR to CRC; the SYN symbol stands before them (02 R44, R45). -/
def frameBytes (addr cmd : Nat) (payload : List Byte) : List Byte :=
  let b := [BitVec.ofNat 8 addr, BitVec.ofNat 8 cmd, BitVec.ofNat 8 payload.length] ++ payload
  b ++ leBytes 2 (crc16 b)

/-- The same with a CRC given. -/
def frameWith (addr cmd crc : Nat) (payload : List Byte) : List Byte :=
  [BitVec.ofNat 8 addr, BitVec.ofNat 8 cmd, BitVec.ofNat 8 payload.length] ++ payload ++ leBytes 2 crc

/-- CRC over a frame's ADDR to payload. -/
def frameCrc (addr cmd : Nat) (payload : List Byte) : Nat :=
  crc16 ([BitVec.ofNat 8 addr, BitVec.ofNat 8 cmd, BitVec.ofNat 8 payload.length] ++ payload)

/-- DIR: the request travels towards the low end. -/
def reqRev (q : TapReq) : Bool := bitOf q.addr 6

/-- RB. -/
def reqRb (q : TapReq) : Bool := bitOf q.addr 7

/-- HOP. -/
def reqHop (q : TapReq) : Nat := q.addr % 64

/-- What a tap does with a request that reaches it whole. -/
inductive TapAnswer where
  /-- Unknown, of the wrong length or with a field outside its values: CMD 0xFF (02 R51). -/
  | reject
  /-- It acts and sends no response. -/
  | silent (s : State)
  /-- It acts and responds. -/
  | reply (s : State) (bytes : List Byte)

/-- A tap puts a frame on a port. -/
def tapSend (q : TapReq) (up : Bool) (bytes : List Byte) : State → State := emit (.tapFrame q.ring q.pos up bytes)

/-- A CRC error counted at the port that received the frame (02 R46). -/
def countCrc (rev : Bool) (p : Tap) : Tap :=
  if rev then { p with crcDn := (p.crcDn + 1) % 65536 } else { p with crcUp := (p.crcUp + 1) % 65536 }

/-- The request as it travels on: hop 63 and 0 unchanged, 2 to 62 one less, 1 as 0 unless RB; a changed hop count brings a new
CRC, inverted when the received one was wrong (02 R46, R48). The tap notes what it passed on: after a request with RB it forwards
the other way for 100 us (02 R49). -/
def forwardRequest (cmd : Nat) (good : Bool) (q : TapReq) (s : State) : State :=
  let a := if reqHop q = 0 || reqHop q = 63 then q.addr else q.addr - 1
  let c := frameCrc a cmd q.payload
  if reqHop q = 1 && reqRb q then s
  else tapSend q (!reqRev q) (frameWith a cmd (if a = q.addr then q.crc else if good then c else 65535 - c) q.payload)
    (setTap (tapIndex q.ring q.pos) (fun (p : Tap) => { p with passed := some (reqRev q, reqRb q && reqHop q ≠ 63, s.now) }) s)

/-- A tap forwards a frame that travels towards the high end, one in the direction of the last request it passed on, and one
against it within 100 us of a request with RB (02 R48, R49; what it does with any other is a DESIGN CHOICE,
notes/assumptions/48.md). -/
def forwardsBack (s : State) (q : TapReq) (p : Tap) : Bool := match p.passed with
  | none => !reqRev q
  | some (rev, rb, a) => !reqRev q || rev || (rb && s.now ≤ a + us 100)

/-- A response at a tap on its way to the module: a wrong CRC is counted at the port, the frame goes on unchanged
(02 R46, R48, R49). -/
def passResponse (cmd : Nat) (q : TapReq) (s : State) : State :=
  let i := tapIndex q.ring q.pos
  let s := if q.crc = frameCrc q.addr cmd q.payload then s else setTap i (countCrc (reqRev q)) s
  if forwardsBack s q (tapOf s i) then tapSend q (!reqRev q) (frameWith q.addr cmd q.crc q.payload) s else s

/-- Taps of a ring as the hop counts see them: the count last enumerated, before one the taps that stand there (02 R50, R566). -/
def ringLength (s : State) (r : Nat) : Nat := (ringOf s r).n.getD (tapsOn s r)

/-- ADDR of a response: the direction it travels in, and the position counted from the end that addressed it (02 R44, R49). The
pass-through node of a standby, which the spec gives no position, answers 0 from the low end and n + 1 from the high end
(DESIGN CHOICE, notes/assumptions/48.md). -/
def responseAddr (s : State) (q : TapReq) : Nat :=
  (if (if reqRb q && reqHop q ≠ 63 then !reqRev q else reqRev q) then 64 else 0) +
    (if reqRev q then ringLength s q.ring + 1 - q.pos else q.pos)

/-- Frames count at the receiving ports of the positions `lo` to `hi` that they pass: up-ports towards the high end (02 R80). -/
def countPorts (r : Nat) (up : Bool) (lo hi k : Nat) : State → State :=
  setRing r (fun (x : Ring) => { x with pos := x.pos.mapIdx (fun j (y : RingPos) =>
    if lo ≤ j + 1 && j + 1 ≤ hi then (if up then { y with frUp := y.frUp + k } else { y with frDn := y.frDn + k }) else y) })

/-- A response of position `p` travels to the module through the ports beyond it (02 R49, R80). -/
def countResponse (r p : Nat) (up : Bool) (s : State) : State :=
  if up then countPorts r true (p + 1) (ringLength s r) 1 s else countPorts r false 1 (p - 1) 1 s

/-- Send a response in the travel direction, or back towards the sender with RB (02 R49); it counts at the ports it passes, sweep
data where the module receives it (02 R80). -/
def respond (q : TapReq) (cmd : Nat) (bytes : List Byte) (s : State) : State :=
  let up := if reqRb q && reqHop q ≠ 63 then reqRev q else !reqRev q
  let s := tapSend q up (frameBytes (responseAddr s q) cmd bytes) s
  if cmd = 0x90 then s else countResponse q.ring q.pos up s

/-- A tap is fitted and awake. -/
def tapAwake (s : State) (i : Nat) : Bool := (tapOf s i).fitted && !(tapOf s i).asleep

/-- This module's ring ports form a pass-through node: it is the standby of a pair. They are hard-wired and need its supply only
(02 R76). -/
def passesThrough (s : State) : Bool := pairMode s && s.pair.standby && s.core.power != .absent

/-- The request codes of 02 R51. -/
def tapCodes : List Nat := List.range 12 ++ [0x10, 0x20, 0x21, 0x22, 0x30, 0x31, 0x32, 0x40, 0x41, 0x42, 0x43]

/-- Treat a whole request at a tap (02 R46, R48, R49, R51): a wrong CRC is counted at the port, the frame goes on and nothing else
happens; otherwise the addressed tap acts, forwards and responds; a rejected request is answered with CMD 0xFF and recorded. -/
def meetRequest (cmd : Nat) (q : TapReq) (h : Nat → List Byte → State → TapAnswer) (s : State) : State :=
  let i := tapIndex q.ring q.pos
  if q.crc ≠ frameCrc q.addr cmd q.payload then forwardRequest cmd false q (setTap i (countCrc (reqRev q)) s)
  else
    let s := forwardRequest cmd true q s
    if reqHop q = 1 || reqHop q = 63 then match h i q.payload s with
      | .reject => record Ev.tapReject 3 [q.ring, q.pos, cmd] (respond q 0xFF [] s)
      | .silent s => s
      | .reply s b => respond q (cmd + 128) b s
    else s

/-- A frame arrives at a ring node: position 0 is the pass-through node of a standby, which forwards every frame as it is; at a
tap an unknown code is rejected and a response passes on (02 R48, R51, R76). -/
def atTap (cmd : Nat) (q : TapReq) (h : Nat → List Byte → State → TapAnswer) (s : State) : State :=
  if q.pos = 0 then
    if q.ring ≤ 1 && passesThrough s then tapSend q (!reqRev q) (frameWith q.addr (q.code.getD cmd) q.crc q.payload) s else s
  else if 16 < q.pos || 1 < q.ring || !tapAwake s (tapIndex q.ring q.pos) then s
  else match q.code with
    | none => meetRequest cmd q h s
    | some c =>
      if 0x80 ≤ c then passResponse c q s
      else if tapCodes.contains c then s
      else meetRequest c q (fun _ _ _ => .reject) s

/-- A handler that demands a payload length (02 R51). -/
def withPayload (n : Nat) (h : Nat → List Byte → State → TapAnswer) (i : Nat) (p : List Byte) (s : State) : TapAnswer :=
  if p.length = n then h i p s else .reject

/-! ## What a tap reports (02 R61) -/

/-- The tap holds its FLT switch open: a latched trip or a running FLT_TEST pulse (02 R65). -/
def fltHeld (s : State) (p : Tap) : Bool :=
  p.ovTrip != 0 || p.uvTrip != 0 || (p.fltTest.map (fun a => decide (a.1 ≤ s.now) && decide (s.now < a.2))).getD false

/-- A lease runs in a slot. -/
def leaseRuns (s : State) (x : Slot) : Bool := x.chan.isSome && s.now < x.ends

/-- Balance current flows in a slot. A suspended slot counts as off at once: the spec says below 10 mA from 20 us on (03 R90), and
nothing of the 20 us before (DESIGN CHOICE, notes/assumptions/48.md). -/
def slotFlows (s : State) (x : Slot) : Bool := leaseRuns s x && !x.gated && !x.impOff && x.flowsAt ≤ s.now

/-- Tap status word (02 R61). -/
def statusWord (s : State) (p : Tap) : Nat :=
  bit p.revMark 15 + bit (p.slots.any (leaseRuns s)) 14 + bit (p.ovTrip != 0) 13 + bit (p.uvTrip != 0) 12 +
  bit (fltHeld s p) 11 + bit p.loopLow 10 + bit p.clkLost 9 + bit p.selfTestFail 8 + bit p.clamped 7 + bit p.fw.staged 6 +
  bit (p.sampledAt.isSome && p.temps.any (·.isNone)) 5 + bit (p.sampledAt.isSome && p.volts.any (·.isNone)) 4 + bit p.calFault 3 + bit p.delayUnset 2 + bit p.uplinkLost 1

/-- A cell voltage code, saturated, 0xFFFF for none (00 R7, R9). -/
def voltBytes (v : Option Int) : List Byte := leBytes 2 (codeCell v)

/-- A temperature code, saturated, 0x8000 for none (00 R7, R9). -/
def tempBytes (v : Option Int) : List Byte := leBytes 2 (codeS16 v)

/-- The 59 payload bytes of the sweep data frame (02 R61). -/
def sweepPayload (s : State) (p : Tap) : List Byte :=
  leBytes 1 p.marks ++ leBytes 2 (statusWord s p) ++ fixLen 32 (p.volts.flatMap voltBytes) ++
  (List.range 8).map (fun k => BitVec.ofNat 8 (p.nibbles.getD (2 * k) 0 + 16 * p.nibbles.getD (2 * k + 1) 0)) ++
  fixLen 16 (p.temps.flatMap tempBytes)

/-! ## Balance current in the tap (03 R85, R90 to R93) -/

/-- End every lease of a tap. -/
def endLeases (p : Tap) : Tap :=
  { p with slots := p.slots.map (fun (x : Slot) => { x with chan := none, gated := false, impOff := false }) }

/-- The lease on a channel of a tap. -/
def slotOn (s : State) (p : Tap) (c : Nat) : Option Slot := p.slots.find? (fun x => leaseRuns s x && x.chan == some c)

/-- A channel's sample: corrected by 3 A through its lead while balance current flows (03 R91, R92), with its cell state nibble
(02 R61, 03 R93). -/
def sampleCell (s : State) (p : Tap) (c : Nat) (v : Option Int) : Option Int × Nat :=
  let trip := bit (p.ovTrip.getLsbD c || p.uvTrip.getLsbD c) 2
  match slotOn s p c with
  | none => (v, trip)
  | some x =>
    if slotFlows s x then
      let drop : Int := 30 * (p.leadMohm.getD c 0 : Nat)
      (v.map (fun a => clampTo 0 65534 (if x.charge then a - drop else a + drop)), trip + 8 + (if x.charge then 2 else 1))
    else (v, trip + 3)

/-! ## Rows of the tap commands (02 R51) -/

/-- NOP: no action, no response. -/
def execNop (t : Nat) (q : TapReq) (s : State) : Host.Outcome State Fault Refusal :=
  timed t (atTap 0x00 q (withPayload 0 (fun _ _ s => .silent s))) s

/-- The 23 bytes of IDENTIFY. -/
def identifyBytes (p : Tap) : List Byte :=
  leBytes 8 p.serial ++ leBytes 1 p.hwRev ++ leBytes 2 p.fwVer ++ leBytes 1 p.level ++ leBytes 1 p.chem ++ leBytes 2 p.ovMin ++
  leBytes 2 p.ovMax ++ leBytes 2 p.uvMin ++ leBytes 2 p.uvMax ++ leBytes 2 p.tta

/-- ECHO: an empty response. -/
def execEcho (t : Nat) (q : TapReq) (s : State) : Host.Outcome State Fault Refusal :=
  timed t (atTap 0x02 q (withPayload 0 (fun _ _ s => .reply s []))) s

/-- SET_DELAY: the delays are stored for the next mark. -/
def execSetDelay (t : Nat) (q : TapReq) (s : State) : Host.Outcome State Fault Refusal :=
  timed t (atTap 0x03 q (withPayload 4 (fun i b s =>
    .reply (setTap i (fun (p : Tap) => { p with dUp := leAt b 0 2, dDn := leAt b 2 2, delayUnset := false }) s) b))) s

/-- SET_THRESH: OV rounds down and UV up to 5 mV, then both are clamped (02 R51, R64). -/
def applyThresh (ov uv : Nat) (p : Tap) : Tap :=
  let o := ov / 50 * 50
  let u := (uv + 49) / 50 * 50
  let o2 := max p.ovMin (min o p.ovMax)
  let u2 := max p.uvMin (min u p.uvMax)
  { p with ov := o2, uv := u2, clamped := o2 != o || u2 != u }

/-- SET_THRESH: the applied values are reported; a clamped value is recorded. -/
def execSetThresh (t : Nat) (q : TapReq) (s : State) : Host.Outcome State Fault Refusal :=
  timed t (atTap 0x04 q (withPayload 4 (fun i b s =>
    let s := setTap i (applyThresh (leAt b 0 2) (leAt b 2 2)) s
    let p := tapOf s i
    let s := setPos q.ring q.pos (fun (x : RingPos) => { x with applied := some (p.ov, p.uv) }) s
    let s := if p.clamped then record Ev.threshClamped 3 [q.ring, q.pos, p.ov, p.uv] s else s
    .reply s (leBytes 2 p.ov ++ leBytes 2 p.uv)))) s

/-- SET_MARK_COUNT. -/
def execSetMarkCount (t : Nat) (q : TapReq) (s : State) : Host.Outcome State Fault Refusal :=
  timed t (atTap 0x05 q (withPayload 1 (fun i b s =>
    .reply (setTap i (fun (p : Tap) => { p with marks := leAt b 0 1 }) s) b))) s

/-- READ_STATUS: `loopMa` the FLT loop current in 0.1 mA, `supply` the tap supply, `quiet` no up-port activity for 2 us since the
last mark. Reading reports and clears CLK_LOCK_LOST (02 R42). -/
def execReadStatus (t : Nat) (q : TapReq) (loopMa : Nat) (supply : Option Int) (quiet : Bool) (s : State) :
    Host.Outcome State Fault Refusal :=
  timed t (atTap 0x06 q (withPayload 0 (fun i _ s =>
    let s := setTap i (fun (p : Tap) =>
      { p with loopMa := min loopMa 255, loopLow := loopMa < 30, supply := supply, uplinkLost := quiet }) s
    let p := tapOf s i
    let b := leBytes 2 (statusWord s p) ++ leBytes 2 p.crcUp ++ leBytes 2 p.crcDn ++ leBytes 2 p.ovTrip.toNat ++
      leBytes 2 p.uvTrip.toNat ++ leBytes 1 p.loopMa ++ voltBytes p.supply
    let s := if p.clkLost then record Ev.clkLockLost 3 [q.ring, q.pos] s else s
    .reply (setTap i (fun (p : Tap) => { p with clkLost := false }) s) b))) s

/-- Clear the latches whose cells are back inside by 20 mV; an open lead keeps its latch (02 R51, R65). -/
def clearTrips (volts : List (Option Int)) (p : Tap) : Tap :=
  let keep (up : Bool) (m : BitVec 16) : BitVec 16 :=
    BitVec.ofNat 16 (maskOf ((List.range 16).map (fun c => m.getLsbD c && (match volts.getD c none with
      | none => true
      | some v => if up then decide ((p.ov : Int) - 200 < v) else decide (v < (p.uv : Int) + 200)))))
  { p with ovTrip := keep true p.ovTrip, uvTrip := keep false p.uvTrip }

/-- CLEAR_TRIP: `volts` the cell voltages the comparators see. -/
def execClearTrip (t : Nat) (q : TapReq) (volts : List (Option Int)) (s : State) : Host.Outcome State Fault Refusal :=
  timed t (atTap 0x07 q (withPayload 0 (fun i _ s =>
    let s := setTap i (clearTrips volts) s
    .reply s (leBytes 2 (tapOf s i).ovTrip.toNat ++ leBytes 2 (tapOf s i).uvTrip.toNat)))) s

/-- The dip of a test, whose start the time unit stamps: 8 us to 12 us passes, else FLT_TEST_FAIL (02 R67; 16 R480). -/
def judgeDip (r p : Nat) (dip : Option Nat) (s : State) : State :=
  let pass := (dip.map (fun d => decide (us 8 ≤ d) && decide (d ≤ us 12))).getD false
  let s := setPos r p (fun (x : RingPos) => { x with fltTestAt := s.now }) s
  let s := if dip.isSome then captureEdge 0x12 false (stampAt s (s.now + us 50)) s else s
  let s := setRing r (fun (x : Ring) =>
    { x with fltFail := if pass then x.fltFail &&& ~~~ BitVec.ofNat 16 (2 ^ (p - 1)) else x.fltFail ||| BitVec.ofNat 16 (2 ^ (p - 1)) }) s
  if pass then s else record Ev.fltTestFail 3 [r, p] s

/-- The fault loop of a ring is open. -/
def loopOpen (s : State) (r : Nat) : Bool := s.saf.fltOpen.getD r false

/-- FLT_TEST: the switch opens for 10 us, 50 us after receipt (02 R51). `dip` is the length of the dip seen, in ns; it is judged
only while the loop was closed (02 R67). -/
def execFltTest (t : Nat) (q : TapReq) (dip : Option Nat) (s : State) : Host.Outcome State Fault Refusal :=
  timed t (atTap 0x08 q (withPayload 0 (fun i _ s =>
    let s := setTap i (fun (p : Tap) => { p with fltTest := some (s.now + us 50, s.now + us 60) }) s
    .silent (if loopOpen s q.ring then s else judgeDip q.ring q.pos dip s)))) s

/-- A tap's window ends with a result code: 0 complete, 1 line lost, 2 down-port mark, 3 aborted. A window that was only armed
leaves the results of the last one integrated (05 R148, R149). -/
def endWindow (now code : Nat) (p : Tap) : Tap := match p.imp.window, p.imp.since with
  | none, _ => p
  | some (id, _, _), none => { p with imp.window := none, imp.dropped := some id }
  | some (id, _, len), some a => { p with
      imp.window := none, imp.since := none, imp.endedAt := some now, imp.dropped := none,
      imp.done := some (id, code, if code = 0 then p.imp.valid else 0,
        if code = 0 then len * p.imp.samples else (now - a) / 25000, p.imp.tones),
      imp.phasors := if code = 0 then p.imp.phasors else [] }

/-- A restart of a tap's firmware: thresholds, comparators and the FLT switch keep working; delays, mark counter, collection mode,
measurement mode and leases go; a window aborts with result 3; the leads are measured, the self-test and the check of the
calibration data run again (02 R51, R61, 03 R85, R92, 05 R149). -/
def resetTap (now : Nat) (leads : List Nat) (testFail calFail : Bool) (p : Tap) : Tap :=
  let p := endWindow now 3 (endLeases p)
  { p with delayUnset := true, dUp := 0, dDn := 0, marks := 0, poll := false, balMode := none, passed := none, leadMohm := leads,
           selfTestFail := testFail, calFault := calFail }

/-- RESET: `leads` the lead resistances measured after it, `testFail` and `calFail` what the self-test and the check of the
calibration data find. -/
def execTapReset (t : Nat) (q : TapReq) (leads : List Nat) (testFail calFail : Bool) (s : State) :
    Host.Outcome State Fault Refusal :=
  timed t (atTap 0x09 q (withPayload 0 (fun i _ s => .silent (setTap i (resetTap s.now leads testFail calFail) s)))) s

/-- PT_PROBE: taps forward it; the pass-through node of a standby (position 0 here) answers with LEN 0; the active stores the
one-way delay of the round trip `rt` that it measured (02 R51, R76, R77; 14 R421). -/
def execPtProbe (t : Nat) (q : TapReq) (rt : Option Nat) (s : State) : Host.Outcome State Fault Refusal :=
  timed t (fun s =>
    if q.pos ≠ 0 || q.code.isSome then atTap 0x0A q (withPayload 0 (fun _ _ s => .silent s)) s
    else if !pairMode s then s
    else if s.pair.standby then
      if passesThrough s && q.crc = frameCrc q.addr 0x0A q.payload && q.payload.isEmpty then
        respond q 0x8A [] { s with pair.probedAt := some s.now }
      else atTap 0x0A q (fun _ _ s => .silent s) s
    else match rt with
      | some d => setRing q.ring (fun (x : Ring) => { x with passDelay := some (d / 2) }) s
      | none => s) s

/-- SET_COLLECT: 0 slot, 1 poll. -/
def execSetCollect (t : Nat) (q : TapReq) (s : State) : Host.Outcome State Fault Refusal :=
  timed t (atTap 0x0B q (withPayload 1 (fun i b s =>
    if leAt b 0 1 ≤ 1 then .reply (setTap i (fun (p : Tap) => { p with poll := leAt b 0 1 == 1 }) s) b else .reject))) s

/-- COLLECT: the data of the last mark; `quiet` no up-port activity for 2 us since it (02 R61). -/
def execCollect (t : Nat) (q : TapReq) (quiet : Bool) (s : State) : Host.Outcome State Fault Refusal :=
  timed t (atTap 0x10 q (withPayload 0 (fun i _ s =>
    let s := setTap i (fun (p : Tap) => { p with uplinkLost := quiet }) s
    .reply s (sweepPayload s (tapOf s i))))) s

/-! ## The tap's own events -/

/-- A tap's impedance window at the sample of a mark: an armed window starts at the mark whose count it names, a sample on a mark
of the other port aborts a running one with result 2, and at its end mark it is complete: every channel's samples `grid` of the
window are fitted. Leads that read open leave the valid mask (05 R144, R145, R147 to R149). -/
def windowAtMark (at_ : Nat) (rev : Bool) (grid : List (List Int)) (p : Tap) : Tap :=
  let intact := maskOf (p.volts.map (·.isSome))
  match p.imp.window, p.imp.since with
  | some (_, start, _), none =>
    if p.marks = start then { p with imp.since := some at_, imp.revStart := rev, imp.valid := Nat.land p.imp.mask intact } else p
  | some (_, _, len), some a =>
    let p := { p with imp.valid := Nat.land p.imp.valid intact }
    if rev != p.imp.revStart then endWindow at_ 2 p
    else if a + len * p.imp.samples * 25000 ≤ at_ + us 1 then
      let fit := (List.range 16).map (fun c =>
        if bitOf p.imp.valid c then fitTones p.imp.tones ((grid.getD c []).take (len * p.imp.samples)) else [])
      endWindow at_ 0 { p with imp.phasors := (List.range p.imp.tones.length).map (fun k => fit.map (fun l => l.getD k (0, 0))) }
    else p
  | none, _ => p

/-- MARK_RECEIVED at tap `i`: `rev` at the down-port, `volts` and `temps` what its stages and inputs read, `loopLow` its loop
current reads below 3 mA, `grid` the samples of each channel's continuous converter in nanovolt when a window ends at this mark.
It is ignored within 200 us of a sample (02 R59); otherwise the tap samples after the wait of the port it came by, and the counter
steps (02 R54, R59, R61; 03 R91 to R93; 05 R144). From 32 on `i` names the pass-through node of ring A or B, which sends the MARK
on (02 R76). -/
def execMarkReceived (t i : Nat) (rev : Bool) (volts temps : List (Option Int)) (loopLow : Bool) (grid : List (List Int)) (s : State) :
    Host.Outcome State Fault Refusal :=
  timed t (fun s =>
    let p := tapOf s i
    if 32 ≤ i then if i < 34 && passesThrough s then emit (.mark (i - 32) (!rev) s.now) s else s
    else if !tapAwake s i || (p.sampledAt.map (fun a => decide (s.now < a + us 200))).getD false then s
    else
      let at_ := s.now + 20 * (if rev then p.dDn else p.dUp)
      let cells := (List.range 16).map (fun c => sampleCell { s with now := at_ } p c (volts.getD c none))
      setTap i (fun (p : Tap) =>
        windowAtMark at_ rev grid { p with
          marks := (p.marks + 1) % 256, volts := cells.map (·.1), nibbles := cells.map (·.2),
          temps := (List.range 8).map (fun k => temps.getD k none), sampledAt := some at_, revMark := rev, loopLow := loopLow,
          uplinkLost := false }) s) s

/-- TAP_SLOT_SEND of tap `i`: in slot mode, at 8 us + 23 us x (p - 1) after its sample, towards the high end; a tap that did not
sample on this mark at its up-port sends nothing (02 R60). -/
def execTapSlotSend (t i : Nat) (quiet : Bool) (s : State) : Host.Outcome State Fault Refusal :=
  timed t (fun s =>
    let p := tapOf s i
    let pl := tapPlace i
    match p.sampledAt with
    | none => s
    | some a =>
      let due := a + us 8 + us 23 * (pl.2 - 1)
      if tapAwake s i && !p.poll && !p.revMark && due ≤ s.now && s.now < due + us 23 then
        let s := setTap i (fun (p : Tap) => { p with uplinkLost := quiet }) s
        emit (.tapFrame pl.1 pl.2 true (frameBytes pl.2 0x90 (sweepPayload s (tapOf s i)))) s
      else s) s

/-- CELL_COMPARATOR_TRIP of channel `c` of tap `i`: the cell voltage `v` has been at or beyond the OV or UV threshold for `held`
ns. After 2 ms the comparator latches, the FLT switch opens and both slots' current ends (02 R64, R65; 03 R85). -/
def execCellComparatorTrip (t i c : Nat) (ov : Bool) (v : Int) (held : Nat) (s : State) : Host.Outcome State Fault Refusal :=
  timed t (fun s =>
    let p := tapOf s i
    let beyond := if ov then decide ((p.ov : Int) ≤ v) else decide (v ≤ (p.uv : Int))
    if p.fitted && beyond && ms 2 ≤ held then
      setTap i (fun (p : Tap) =>
        if ov then { endLeases p with ovTrip := p.ovTrip ||| BitVec.ofNat 16 (2 ^ c) }
        else { endLeases p with uvTrip := p.uvTrip ||| BitVec.ofNat 16 (2 ^ c) }) s
    else s) s

/-- CLK_LOCK_LOST: the status bit stands until the module reads it (02 R42). -/
def execClkLockLost (t i : Nat) (s : State) : Host.Outcome State Fault Refusal :=
  timed t (fun s => if tapAwake s i then setTap i (fun (p : Tap) => { p with clkLost := true }) s else s) s

/-- TAP_SLEEP: no line activity for `quiet` ns; after 5 ms the tap sleeps, its comparators and FLT switch stay active (02 R75). -/
def execTapSleep (t i quiet : Nat) (s : State) : Host.Outcome State Fault Refusal :=
  timed t (fun s =>
    if tapAwake s i && ms 5 ≤ quiet then setTap i (fun (p : Tap) => { p with asleep := true }) s else s) s

/-- TAP_WAKE: line activity wakes the tap (02 R42, R75). -/
def execTapWake (t i : Nat) (s : State) : Host.Outcome State Fault Refusal :=
  timed t (fun s => if (tapOf s i).fitted then setTap i (fun (p : Tap) => { p with asleep := false }) s else s) s

/-! ## The module's side of a request -/

/-- The end that reaches a position: true the low end, none when neither does. In through mode the low end reaches every tap
(02 R37, R71, R72). -/
def endOf (s : State) (r p : Nat) : Option Bool :=
  let x := ringOf s r
  if tapCount s r < p || p = 0 then none
  else match x.brk with
    | none => some true
    | some (k, h) => if p ≤ k then some true else if h ≤ p then some false else none

/-- Positions of a ring that an end reaches. -/
def reached (s : State) (r : Nat) : List Nat :=
  ((List.range (tapCount s r)).map (· + 1)).filter (fun p => (endOf s r p).isSome)

/-- Hop count of a position from an end. -/
def hopFrom (s : State) (r p : Nat) (low : Bool) : Nat := if low then p else tapCount s r + 1 - p

/-- A ring is served as two half-chains, or its break is not located yet: requests carry RB, so that the answer comes back to the
end that sent them (02 R49, R72; DEDUCED, notes/assumptions/48.md). -/
def needsRb (s : State) (r : Nat) : Bool := (ringOf s r).split || (ringOf s r).locating || (ringOf s r).brk.isSome

/-- ADDR of a request (02 R44). -/
def requestAddr (rb low : Bool) (hop : Nat) : Nat := bit rb 7 + bit (!low) 6 + hop

/-- How many taps' ports a request passes: up to its target with RB, else up to the break or the far end (02 R48, R80). -/
def passesTo (s : State) (r hop : Nat) (low rb : Bool) : Nat :=
  let n := ringLength s r
  if rb then min hop n
  else match (ringOf s r).brk with
    | some (k, h) => if low then k else n + 1 - h
    | none => n

/-- Launch `times` alike ring frames at an instant; they count at the ports that they pass (02 R44, R80). -/
def ringSend (r : Nat) (low rb : Bool) (launch times hop cmd : Nat) (p : List Byte) (s : State) : State :=
  let n := ringLength s r
  let k := passesTo s r hop low rb
  let s := if low then countPorts r true 1 k times s else countPorts r false (n + 1 - k) n times s
  emit (.ring r low launch times (frameBytes (requestAddr rb low hop) cmd p)) s

/-- Send a request to one tap from the end that reaches it. -/
def sendTap (r p cmd : Nat) (payload : List Byte) (s : State) : State := match endOf s r p with
  | some low => ringSend r low (needsRb s r || cmd = 0x10 || cmd = 0x32) s.now 1 (hopFrom s r p low) cmd payload s
  | none => s

/-- Broadcast a request on a ring: from the low end, and in split mode from the high end too. -/
def sendAll (r cmd : Nat) (payload : List Byte) (s : State) : State :=
  let s := ringSend r true false s.now 1 63 cmd payload s
  if (ringOf s r).split then ringSend r false false s.now 1 63 cmd payload s else s

/-- ECHO probes to a position from an end, always with RB (02 R51). -/
def sendProbes (r p : Nat) (low : Bool) (times : Nat) (s : State) : State :=
  ringSend r low true s.now times (hopFrom s r p low) 0x02 [] s

/-- The module may send on a ring: the ring function runs, the ring is up, and in pair mode the token is held
(02 R82, 14 R414). -/
def ringServed (s : State) (r : Nat) : Bool := running s 1 && (ringOf s r).up && holdsToken s && !s.thm.held

/-- The largest of optional delays. -/
def largest (l : List (Option Nat)) : Nat := (l.map (·.getD 0)).foldl max 0

/-- d_UP or d_DN of a ring (02 R53). -/
def farthest (s : State) (r : Nat) (low : Bool) : Nat :=
  largest (((ringOf s r).pos.take (tapCount s r)).map (if low then (·.outUp) else (·.outDn)))

/-- How long before its mark time a ring's mark is launched, in ns: 2 us and the delay to the farthest tap, from the earlier end
in split mode (02 R54, R72). -/
def markLead (s : State) (r : Nat) : Nat :=
  us 2 + (if (ringOf s r).split then max (farthest s r true) (farthest s r false) else farthest s r true)

/-- Mark time of the next sweep: on the grid of the sweep period, with its launch still to come (02 R54, R57). -/
def nextMark (s : State) : Nat :=
  let lead := max (markLead s 0) (markLead s 1)
  nextGrid { s with now := max (s.now + lead) s.rings.resumeAt } (us s.rings.period)

/-- The command window of a ring is open: its collection has ended, and the next mark launch is more than 50 us away
(02 R58). -/
def windowOpen (s : State) (r : Nat) : Bool :=
  s.rings.window.getD r false && decide (s.now + us 50 + markLead s r ≤ nextMark s)

end Sys2Proof.Machine
end

