-- ==== Sys2Proof/Machine/TapFirmware.lean ====
section
/-!
DEFINITION. Machine/TapFirmware.lean: what every install shares (its refusals, pause and end) and the firmware of the taps: the
tap's commands FW_OPEN to FW_SWAP and IDENTIFY, and the frames an install sends in the command windows
(02 R51; 19 R531 to R546).
-/

namespace Sys2Proof.Machine

open Sys2Proof

/-! ## Images -/

/-- A staging slot or running image, ID from 1. -/
def imgOf (s : State) (id : Nat) : ImgSlot := s.upd.img.getD (id - 1) {}

/-- Change one image's record. -/
def setImg (id : Nat) (g : ImgSlot → ImgSlot) (s : State) : State := { s with upd.img := s.upd.img.modify (id - 1) g }

/-- Header of the staged image. -/
def stagedHeader (s : State) (id : Nat) : List Byte := (slotBytes (imgOf s id)).take 256

/-- Body of the staged image. -/
def stagedBody (s : State) (id : Nat) : List Byte := (slotBytes (imgOf s id)).drop 256

/-- Any of K1 to K4 is energised or held in hold-follow (19 R529). -/
def coilsHeld (s : State) : Bool := anyEnergised s || s.pair.follow.any id

/-- First refusal of an install that applies, in the order of the table (19 R537). -/
def installRefusal (id : Nat) (s : State) : Option Reply :=
  let guard (b : Bool) (cause : Nat) : Option Reply := if b then some (guardReply cause) else none
  let other : Nat := if id = 5 then 1 else 0
  (if id = 7 && !s.saf.sealsNow.getLsbD 5 then some (causeReply .sealPosition Ev.ss6) else none) <|>
  guard s.core.ownerLock Ev.ownerLock <|>
  guard (claimsActive s && currentAbove s) Ev.current <|>
  guard (10 * s.core.cisternNow < 9 * s.core.cisternJ || !s.core.auxOk) Ev.supply <|>
  guard ((id = 2 || id = 7 || id = 9) && !pairMode s && coilsHeld s) Ev.contactors <|>
  guard (pairMode s && coilsHeld s && (((id = 2 || id = 7) && !s.pair.standby) || (id = 9 && s.pair.standby))) Ev.pairRole <|>
  guard ((id = 5 || id = 6) && (planeOf s other).failed) Ev.otherPlane <|>
  guard ((id = 4 && s.ctrl.shadowAbsent) || (id = 3 && s.est.engines < 4)) Ev.engines <|>
  guard s.thm.forbid Ev.nvmTemp

/-- The install in progress ends with a reply (19 R538, R546, R547). -/
def endInstall (r : Reply) (s : State) : State := match s.upd.job with
  | none => s
  | some j =>
    finishJob j.mb (if j.id = 9 then Cmd.tapInstall else Cmd.imgInstall) r { s with upd.job := none, upd.last := some (r.status, r.cause) }

/-- Change the install in progress. -/
def setJob (g : Install → Install) (s : State) : State := { s with upd.job := s.upd.job.map g }

/-- STOP of the update function or a trip pauses the install; the trip of a SAFE install itself does not (19 R543, R546). -/
def haltCause (j : Install) (s : State) : Option Nat :=
  if !running s 0x14 then some Ev.functionStopped
  else if j.hold && s.core.mode == .tripped then some s.core.lastCause
  else none

/-- Why the install may not take its next step (19 R537, R539, R546). -/
def installBlock (j : Install) (s : State) : Option Nat := haltCause j s <|> (installRefusal j.id s).map (·.cause)

/-- Pause between steps (19 R539). -/
def pauseJob (cause : Nat) (s : State) : State := setJob (fun j => { j with paused := some (cause, s.now), busy := false }) s

/-- A step has ended: a STOP of the update function that waited for it is answered, and the install pauses (19 R546). -/
def stepEnded (s : State) : State :=
  if (fnOf s 0x14).state == .stopping && !((s.upd.job.map (·.busy)).getD false) then
    pauseJob Ev.functionStopped (finishJob (fnOf s 0x14).busy 0x1401 doneReply (setFn 0x14 (fun f => { f with state := .stopped, busy := none }) s))
  else s

/-- The image group runs the new image: its header is the running one and SEC_VERSION is recorded; an engine image's old slot
becomes the next staging slot (19 R532, R536). -/
def installed (id : Nat) (s : State) : State :=
  let h := stagedHeader s id
  record Ev.imgInstalled 6 [id] (setImg id (fun (i : ImgSlot) =>
    let i := { i with running := h, sec := max i.sec (byteAt h 17), marker := false }
    if id = 9 then i else { i with st := .empty, blocks := [], len := 0, owner := none }) s)

/-! ## The tap's side (02 R51, 19 R544) -/

/-- Blocks of 128 bytes of an image of a length. -/
def blockCount (len : Nat) : Nat := (len + 127) / 128

/-- A tap's image so far, in block order. -/
def tapImage (f : TapFw) : List Byte :=
  let n := f.openLen.getD 0
  ((List.range (blockCount n)).flatMap (fun b => ((f.blocks.find? (fun x => x.1 = b)).map (·.2)).getD [])).take n

/-- Blocks a tap misses. -/
def missingBlocks (f : TapFw) : List Nat :=
  (List.range (blockCount (f.openLen.getD 0))).filter (fun b => !f.blocks.any (fun x => x.1 = b))

/-- Result of FW_CHECK: 0 complete with the right digest, 1 blocks missing, 2 wrong digest. A tap with no open image has none
complete (DESIGN CHOICE, notes/assumptions/27.md). -/
def fwResult (f : TapFw) : Nat :=
  if f.openLen.isNone || !(missingBlocks f).isEmpty then 1 else if sha256 (tapImage f) = f.digest then 0 else 2

/-- Bitmap of the missing blocks, bit b % 8 of byte b / 8 (DESIGN CHOICE, notes/assumptions/27.md). -/
def missingBitmap (f : TapFw) : List Byte :=
  let miss := missingBlocks f
  (List.range ((blockCount (f.openLen.getD 0) + 7) / 8)).map (fun k =>
    BitVec.ofNat 8 (maskOf ((List.range 8).map (fun b => miss.contains (8 * k + b)))))

/-- FW_OPEN: length and digest; the inactive bank is erased. A length above the largest TAP image is outside its values. -/
def execFwOpen (t : Nat) (q : TapReq) (s : State) : Host.Outcome State Fault Refusal :=
  timed t (atTap 0x40 q (withPayload 36 (fun i b s =>
    if leAt b 0 4 = 0 || 98304 < leAt b 0 4 then .reject
    else .reply (setTap i (fun (p : Tap) =>
      { p with fw := { p.fw with openLen := some (leAt b 0 4), digest := b.drop 4, blocks := [], staged := false, otherVer := none } })
        s) []))) s

/-- FW_BLOCK: a block number and 128 bytes; a tap with no open image takes none. It sends no response (DESIGN CHOICE,
notes/assumptions/27.md). -/
def execFwBlock (t : Nat) (q : TapReq) (s : State) : Host.Outcome State Fault Refusal :=
  timed t (atTap 0x41 q (withPayload 130 (fun i b s =>
    let f := (tapOf s i).fw
    match f.openLen with
    | none => .silent s
    | some n =>
      if blockCount n ≤ leAt b 0 2 then .reject
      else .silent (setTap i (fun (p : Tap) =>
        { p with fw := { p.fw with blocks := p.fw.blocks.filter (fun x => x.1 ≠ leAt b 0 2) ++ [(leAt b 0 2, b.drop 2)] } }) s)))) s

/-- The module takes a tap's answer to FW_CHECK: missing blocks are re-sent by position, a wrong digest stops the install
(19 R544; notes/assumptions/27.md). -/
def tookCheck (i : Nat) (s : State) : State := match s.upd.job with
  | none => s
  | some j =>
    let f := (tapOf s i).fw
    if j.id ≠ 9 || j.phase ≠ 2 || !j.unchecked.contains i then s
    else if fwResult f = 2 then
      endInstall (causeReply .execFault Ev.tapFwFail) (record Ev.tapFwFail 3 [i / 16, i % 16 + 1] { s with upd.tapFail := true })
    else setJob (fun j => { j with unchecked := j.unchecked.filter (· ≠ i),
                                   resend := j.resend ++ (missingBlocks f).map (fun b => (i, b)) }) s

/-- FW_CHECK: result and bitmap of missing blocks; a complete image with the right digest is staged. -/
def execFwCheck (t : Nat) (q : TapReq) (s : State) : Host.Outcome State Fault Refusal :=
  timed t (atTap 0x42 q (withPayload 0 (fun i _ s =>
    let f := (tapOf s i).fw
    let b := leBytes 1 (fwResult f) ++ missingBitmap f
    let s := setTap i (fun (p : Tap) => { p with fw := { p.fw with staged := fwResult f = 0 } }) s
    .reply (tookCheck i s) b))) s

/-- The tap restarts from its other bank: the staged image, which reports firmware version `ver`, or the fallback of an earlier
swap; without either it stays. -/
def swapBank (now ver : Nat) (leads : List Nat) (testFail calFail : Bool) (p : Tap) : Tap :=
  let restart (v : Nat) : Tap :=
    { resetTap now leads testFail calFail p with fwVer := v, fw := { p.fw with
        bank := 1 - p.fw.bank, otherVer := some p.fwVer, staged := false, openLen := none, blocks := [], digest := [] } }
  if p.fw.staged then restart ver else match p.fw.otherVer with
    | some v => restart v
    | none => p

/-- FW_SWAP: `ver` the version the staged image reports, `leads` the lead resistances measured after the restart, `testFail` and
`calFail` what the self-test and the check of the calibration data find (02 R61, 19 R545). -/
def execFwSwap (t : Nat) (q : TapReq) (ver : Nat) (leads : List Nat) (testFail calFail : Bool) (s : State) :
    Host.Outcome State Fault Refusal :=
  timed t (atTap 0x43 q (withPayload 0 (fun i _ s => .silent (setTap i (swapBank s.now ver leads testFail calFail) s)))) s

/-- The firmware version a tap reports for an image: major and minor of its VERSION (DESIGN CHOICE, notes/assumptions/27.md). -/
def expectedVer (h : List Byte) : Nat := 256 * byteAt h 12 + byteAt h 13

/-- The module takes an IDENTIFY answer: the ring map's version; a swapped tap that answers with the new version is set up again
(19 R545). -/
def tookIdentity (i : Nat) (s : State) : State :=
  let p := tapOf s i
  let x := tapPlace i
  let s := setPos x.1 x.2 (fun (y : RingPos) => if y.serial.isSome then { y with fwVer := p.fwVer } else y) s
  match s.upd.job with
  | none => s
  | some j =>
    if j.id = 9 && j.phase = 5 && j.todo.head? == some i && p.fwVer = expectedVer (stagedHeader s 9) then
      setJob (fun j => { j with phase := 6, goodSince := none }) (setPos x.1 x.2 (fun (y : RingPos) => { y with resetup := true }) s)
    else s

/-- IDENTIFY. -/
def execTapIdentify (t : Nat) (q : TapReq) (s : State) : Host.Outcome State Fault Refusal :=
  timed t (atTap 0x01 q (withPayload 0 (fun i _ s => .reply (tookIdentity i s) (identifyBytes (tapOf s i))))) s

/-! ## The module's frames (19 R544, R545) -/

/-- The taps of a ring that the install still holds. -/
def targetsOn (j : Install) (r : Nat) : List Nat := j.todo.filter (fun i => i / 16 = r)

/-- Every ring with targets has had the image's last block. -/
def blocksSent (s : State) (j : Install) : Bool :=
  [0, 1].all (fun r => (targetsOn j r).isEmpty || blockCount (stagedBody s 9).length < j.next.getD r 0)

/-- The taps of a list that neither end reaches. -/
def unreachedOf (s : State) (l : List Nat) : List Nat :=
  l.filter (fun i => let x := tapPlace i; (endOf s x.1 x.2).isNone)

/-- A ring's next transfer frame: FW_OPEN to each target, then one broadcast block a window. -/
def transferFrame (r : Nat) (j : Install) (s : State) : State :=
  let body := stagedBody s 9
  let k := j.next.getD r 0
  let n := blockCount body.length
  if (targetsOn j r).isEmpty || n < k then s
  else
    let s := setJob (fun j => { j with next := j.next.set r (k + 1), phase := 1 }) s
    if k = 0 then
      eachDo (targetsOn j r) (fun i s => sendTap r (tapPlace i).2 0x40 (leBytes 4 body.length ++ (stagedHeader s 9).drop 40 |>.take 36) s) s
    else sendAll r 0x41 (leBytes 2 (k - 1) ++ fixLen 128 ((body.drop (128 * (k - 1))).take 128)) s

/-- After the blocks, FW_CHECK to one tap a window, then its missing blocks by position; taps that no end reaches take no
further part. -/
def checkFrame (r : Nat) (j : Install) (s : State) : State :=
  let gone := unreachedOf s (j.unchecked ++ j.resend.map (·.1))
  let j := { j with todo := j.todo.filter (fun i => !gone.contains i), unchecked := j.unchecked.filter (fun i => !gone.contains i),
                    resend := j.resend.filter (fun x => !gone.contains x.1) }
  let s := { s with upd.job := some j }
  if j.phase = 2 then
    match j.unchecked.find? (fun i => i / 16 = r) with
    | some i => sendTap r (tapPlace i).2 0x42 [] s
    | none => if j.unchecked.isEmpty then setJob (fun j => { j with phase := if j.resend.isEmpty then 4 else 3 }) s else s
  else match j.resend.find? (fun x => x.1 / 16 = r) with
    | some (i, b) =>
      sendTap r (tapPlace i).2 0x41 (leBytes 2 b ++ fixLen 128 (((stagedBody s 9).drop (128 * b)).take 128))
        (setJob (fun j => { j with resend := j.resend.filter (· ≠ (i, b)), unchecked := j.unchecked.filter (· ≠ i) ++ [i] }) s)
    | none => if j.resend.isEmpty then setJob (fun j => { j with phase := 2 }) s else s

/-- The next swap: the refusals are tested first; a tap that no end reaches is left out; after the last one the install ends. -/
def swapFrame (r : Nat) (j : Install) (s : State) : State := match j.todo with
  | [] => endInstall doneReply (installed 9 s)
  | i :: rest =>
    let x := tapPlace i
    if (endOf s x.1 x.2).isNone then setJob (fun j => { j with todo := rest }) s
    else if x.1 ≠ r then s
    else match installBlock j s with
      | some c => pauseJob c s
      | none => sendTap r x.2 0x43 [] (setJob (fun j => { j with phase := 5, since := s.now, step := j.step + 1, busy := true }) s)

/-- The swapped tap: IDENTIFY until it answers; then its valid sweep data for 1 s. -/
def settleFrame (r : Nat) (j : Install) (s : State) : State := match j.todo with
  | [] => s
  | i :: rest =>
    let x := tapPlace i
    if x.1 ≠ r then s
    else if j.phase = 5 then sendTap r x.2 0x01 [] s
    else
      let y := posOf s x.1 x.2
      if y.resetup || !y.got then setJob (fun j => { j with goodSince := none }) s
      else
        let since := j.goodSince.getD s.now
        if since + sec 1 ≤ s.now then
          stepEnded (setJob (fun j => { j with todo := rest, phase := 4, busy := false, goodSince := none }) s)
        else setJob (fun j => { j with goodSince := some since }) s

/-- Frames of a TAP install in a command window of ring `r`. -/
def fwFrames (r : Nat) (s : State) : State := match s.upd.job with
  | none => s
  | some j =>
    if j.id ≠ 9 || j.paused.isSome then s
    else if j.phase ≤ 3 && (haltCause j s).isSome then pauseJob ((haltCause j s).getD 0) s
    else if j.phase ≤ 1 then
      if blocksSent s j then setJob (fun j => { j with phase := 2, unchecked := j.todo }) s else transferFrame r j s
    else if j.phase ≤ 3 then checkFrame r j s
    else if j.phase = 4 then swapFrame r j s
    else settleFrame r j s

/-- TAP_SWAP_TIMEOUT: the swapped tap has not returned within 100 ms (`ver` none), or answers with another version: FW_SWAP by
position selects the old bank, TAP_FW_FAIL is raised and the install stops (19 R545). -/
def execTapSwapTimeout (t : Nat) (ver : Option Nat) (s : State) : Host.Outcome State Fault Refusal :=
  timed t (fun s => match s.upd.job with
    | none => s
    | some j =>
      let bad := match ver with
        | none => decide (j.since + ms 100 ≤ s.now)
        | some v => v ≠ expectedVer (stagedHeader s 9)
      match j.todo with
      | [] => s
      | i :: _ =>
        let x := tapPlace i
        if j.id = 9 && j.phase = 5 && bad then
          stepEnded <| endInstall (causeReply .execFault Ev.tapFwFail)
            (sendTap x.1 x.2 0x43 [] (record Ev.tapFwFail 3 [x.1, x.2] { s with upd.tapFail := true }))
        else s) s

end Sys2Proof.Machine
end

