-- ==== Sys2Proof/Machine/Control.lean ====
section
/-!
DEFINITION. Machine/Control.lean: the control-law engines: the loops, the min-select, engine roles, following error and the
current sensors (06 R162 to R199; 04 R124 to R126; 05 R142, R143).
-/

namespace Sys2Proof.Machine

open Sys2Proof

/-! ## Loops (R172 to R175, R179) -/

/-- Change a loop's record. -/
def setLoop (k : Nat) (g : LoopRec → LoopRec) (s : State) : State := { s with ctrl.loops := s.ctrl.loops.modify k g }

/-- A loop's record. -/
def loopOf (s : State) (k : Nat) : LoopRec := s.ctrl.loops.getD k {}

/-- Applied magnitude of a direction (R179). -/
def appliedMag (s : State) (chg : Bool) : Int := max (if chg then s.ctrl.applied else -s.ctrl.applied) 0

/-- Add to a loop's SAT and ACC_OVF counts: each accumulator result of a sample beyond 40 bits, the last of them stored
(R167, R168). -/
def countStore (k : Nat) (results : List Int) (s : State) : State :=
  setLoop k (fun l => { l with
    ovf := (l.ovf + (results.filter (fun a => decide (sat40 a ≠ a))).length) % 2 ^ 32,
    sat := if storeSaturates (sat40 (results.getLastD 0)) then (l.sat + 1) % 2 ^ 32 else l.sat }) s

/-- Store an accumulator result of a loop to 16 bits, with its counts. -/
def storeResult (k : Nat) (a : Int) (s : State) : State × Int := (countStore k [a] s, store16 (sat40 a))

/-- One sample of a tracked loop (R179): the new integrator and the output. -/
def trackedLoop (s : State) (k gain : Nat) (kits e : Int) (chg : Bool) : Int × Int :=
  let p := sat40 (gainTimes gain e)
  let l := loopOf s k
  let i := if l.won then clampTo 0 (0x7FFF * 65536) (l.integ + kitsTimes kits e) else appliedMag s chg * 65536
  (i, max 0 (store16 (sat40 (p + i))))

/-- Run a tracked loop: its record and its output. -/
def runLoop (k gain : Nat) (kits e : Int) (chg : Bool) (s : State) : State × Int :=
  let o := trackedLoop s k gain kits e chg
  let p := gainTimes gain e
  let s := countStore k [p, sat40 p + o.1] s
  (setLoop k (fun l => { l with integ := o.1 }) s, o.2)

/-- A cell-voltage error in 100 µV as Q15 of 1.024 V (R171). -/
def cellErr (e : Int) : Int := satS16 (roundDiv (16 * e) 5)

/-- Highest or lowest voltage over fitted cells, a COMP sample counting 2.7 mV outward (R173). -/
def cellExtreme (s : State) (hi : Bool) : Option Int :=
  ((fittedCells s).filterMap (fun c =>
    let x := cellOf s c
    x.v.map (fun v => if compBit x.nib then (if hi then v + 27 else v - 27) else v))).foldl (fun b v => match b with
      | none => some v
      | some w => some (if hi then max v w else min v w)) none

/-- The cell-voltage loops may use the newest sweep (R173): it is at most 100 ms old and no fitted cell has been without a
voltage for more than 100 ms. -/
def cellsUsable (s : State) : Bool :=
  sweepFresh s (ms 100) && (fittedCells s).all (fun c => match s.rings.lastV.getD c none with
    | some a => s.now ≤ a + ms 100
    | none => false)

/-- Both cell-voltage loops (R173); with no cell fitted, 0 A (DESIGN CHOICE, notes/assumptions/48.md). -/
def cellLoops (s : State) : State :=
  let kp := prmN s Prm.cellvKp
  match cellsUsable s, cellExtreme s true, cellExtreme s false with
  | true, some h, some l =>
    let (s, a) := runLoop 7 kp (s.ctrl.kits.getD 2 0) (cellErr (prm s Prm.cellVChgMax - h)) true s
    let (s, b) := runLoop 8 kp (s.ctrl.kits.getD 3 0) (cellErr (l - prm s Prm.cellVDisMin)) false s
    { s with ctrl.cellMax := some a, ctrl.cellMin := some b }
  | _, _, _ => { s with ctrl.cellMax := some 0, ctrl.cellMin := some 0 }

/-- Smallest distance of a fitted cell's temperature inside a window, none when a temperature is absent (R174). -/
def windowDistance (s : State) (lo hi : Int) : Option Int :=
  (fittedCells s).foldl (fun b c => match b, windowTemp s c with
    | some d, some t => some (min d (max 0 (min (t - lo) (hi - t))))
    | _, _ => none) (some 65535)

/-- A temperature distance of 0.01 °C in the loops' 7.8125 m°C, to nearest (R171). -/
def distanceLsb (d : Int) : Int := roundDiv (32 * d) 25

/-- The derating ceiling of a window as an accumulator (R174); with no cell fitted it is 0 A, and the quotient is rounded down
before its store (DESIGN CHOICE, notes/assumptions/48.md). -/
def derateCeiling (s : State) (lo hi : Int) : Int :=
  match windowDistance s lo hi with
  | some d =>
    if (fittedCells s).isEmpty then 0
    else min (0x7FFF * 65536) (0x7FFF * 65536 * distanceLsb d / max (distanceLsb (prm s Prm.derateBand)) 1)
  | none => 0

/-- Temperature derating, with CHG_BLOCKED and DIS_BLOCKED recorded when they arise (R174; 08 R247). -/
def derating (s : State) : State :=
  let (s, c) := storeResult 10 (derateCeiling s (prm s Prm.chgTMin) (prm s Prm.chgTMax)) s
  let (s, d) := storeResult 10 (derateCeiling s (prm s Prm.disTMin) (prm s Prm.disTMax)) s
  let s := if c = 0 ∧ s.ctrl.derChg ≠ some 0 then record Ev.chgBlocked 3 [] s else s
  let s := if d = 0 ∧ s.ctrl.derDis ≠ some 0 then record Ev.disBlocked 3 [] s else s
  { s with ctrl.derChg := some c, ctrl.derDis := some d }

/-- The tap of a cell is flagged TAP_REPLACED. -/
def cellReplaced (s : State) (c : Nat) : Bool := (posOf s (c / 256) (c % 256 / 16 + 1)).replaced

/-- Sensor-only limit of a cell (04 R124, R125). -/
def sensorLimit (s : State) (set : List Byte) (usable : Bool) (c : Nat) : Int :=
  match (tNearOf s.rings.temps c).1 with
  | some t =>
    if usable && sweepFresh s (ms 100) && !cellReplaced s c then platingMin set ((t - prm s Prm.sensorTMargin) * q80) else 0
  | none => 0

/-- A cell's context is fresh: its age is 100 ms or less (04 R123, R124). -/
def ctxFresh (s : State) (c : Nat) : Bool := ((ctxOf s c).est.map (fun e => decide (s.now ≤ e.1 + ms 100))).getD false

/-- A cell contributes the limit of its context: it is fresh, and its tap is not flagged TAP_REPLACED (04 R124, R133). -/
def limitFresh (s : State) (c : Nat) : Bool := ctxFresh s c && ctxArrived s c && !cellReplaced s c

/-- A cell's contribution to the plating candidate: its limit less 3 A while a charge lease is active (04 R124 to R126). A cell
without a sample in the sweep counts as having no lease (DESIGN CHOICE, notes/assumptions/48.md). -/
def platingOf (s : State) (set : List Byte) (usable : Bool) (c : Nat) : Int :=
  let l := if limitFresh s c then (ctxOf s c).lim.getD 0 else sensorLimit s set usable c
  l - (if balBits (cellOf s c).nib = 2 ∨ balBits (cellOf s c).nib = 3 then 96 else 0)

/-- Note which limit applied, LIM_FALLBACK (04 R124). -/
def noteFallback (c : Nat) (s : State) : State :=
  let fb := !limitFresh s c
  let x := ctxOf s c
  if fb == x.flags.getLsbD 14 then s
  else
    let s := setCtx c (fun x => { x with flags := ctxFlag 14 fb x.flags }) s
    if fb then record Ev.limFallback 3 [c] s else s

/-- The string plating candidate and the cell that sets it (04 R126). -/
def plating (s : State) : State :=
  let set := activeSet s
  let usable := chemUsable set
  let best := (fittedCells s).foldl (fun b c =>
    let v := platingOf s set usable c
    match b with
    | none => some (v, c)
    | some (w, d) => if v < w then some (v, c) else some (w, d)) (none : Option (Int × Nat))
  eachDo (fittedCells s) noteFallback
    { s with ctrl.plating := best.map (fun b => max 0 b.1), ctrl.platingCell := best.map (·.2) }

/-- Keep role C's outputs of the sweep before, against a missed sample (R181). -/
def keepC (s : State) : State :=
  { s with ctrl.keptC := ⟨s.ctrl.cellMax, s.ctrl.cellMin, s.ctrl.plating, s.ctrl.platingCell, s.ctrl.derChg, s.ctrl.derDis⟩ }

/-- ROLE_C_SWEEP (R173): on sweep delivery the cell-voltage, derating and plating loops run. -/
def execRoleCSweep (t : Nat) (s : State) : Host.Outcome State Fault Refusal :=
  timed t (fun s =>
    if (holderOf s .c).isSome && running s 5 then plating (derating (cellLoops (keepC s))) else s) s

/-! ## String-loop cycle (R172, R175; 08 R236, R244 to R246) -/

/-- One of the two groups of targets (08 R242). -/
def inGroup (link : Bool) (p : SetPoint) : Bool := (p.kind == 2) == link

/-- A set-point becomes its group's target (08 R234, R240). -/
def takeTarget (p : SetPoint) (s : State) : State :=
  if p.kind = 2 then { s with disp.link := some p } else { s with disp.target := p }

/-- The dispatch target as an accumulator (08 R236): a power target is divided by the string voltage; true where there is no
voltage for it. -/
def targetCurrent (s : State) : Int × Bool :=
  let p := s.disp.target
  if p.kind = 1 then
    match s.disp.vStr with
    | some v => if v < prm s Prm.vstrMinConv ∨ v ≤ 0 then (0, true) else (p.value * 2147483648 / v, false)
    | none => (0, true)
  else (p.value * 65536, false)

/-- The dispatch target as current, with POWER_NO_VOLTAGE (08 R236); 0 A while an orderly ramp runs (10 R316, 12 R370). -/
def convertTarget (s : State) : State :=
  let (a, nv) := targetCurrent s
  let (s, i) := storeResult 1 a s
  let s := if nv ∧ !s.disp.noVolt then record Ev.powerNoVoltage 3 [] s else s
  { s with disp.noVolt := nv, disp.targetI := if s.disp.ending ≠ 0 ∨ stopped s 7 then 0 else i }

/-- The ramp limiter in Run (08 R244, R245; R180): r_p starts from the applied value while the request loses. -/
def rampStep (s : State) : State :=
  let rate : Int := if s.disp.ending ≠ 0 then prm s Prm.spRamp else ((s.disp.target.rate.map (fun (n : Nat) => (n : Int))).getD (prm s Prm.spRamp))
  let step := 32 * rate
  let rp := if s.ctrl.applied ≠ s.ctrl.request then 100 * s.ctrl.applied else s.disp.rp
  let rp := rp + clampTo (-step) step (100 * s.disp.targetI - rp)
  { s with disp.rp := rp, ctrl.request := roundDiv rp 100 }

/-- Link-voltage regulation in Hold: v_s slews, the PI law forms the request; while it loses its integrator follows the
applied value (R172, R179; 08 R246). -/
def linkRegulation (s : State) : State :=
  match s.disp.vLnk with
  | none => { s with ctrl.request := 0 }
  | some v =>
    let vs0 := s.disp.vs.getD (10 * v)
    let goal := (s.disp.link.map (fun l => 10 * l.value)).getD vs0
    let rate : Int := ((s.disp.link.bind (·.rate)).map (fun (n : Nat) => (n : Int))).getD (prm s Prm.vlinkSlew)
    let vs := vs0 + clampTo (-(16 * rate)) (16 * rate) (goal - vs0)
    if s.disp.ending ≠ 0 then
      { s with disp.vs := some vs, ctrl.request := 0 }
    else
      let e := satS16 (roundDiv (10 * v - vs) 10)
      let l := loopOf s 2
      let g := prmN s Prm.vlinkKp
      let i := if l.won then clampTo (-0x7FFF * 65536) (0x7FFF * 65536) (l.integ + kitsTimes (s.ctrl.kits.getD 4 0) e)
        else s.ctrl.applied * 65536
      let sum := sat40 (gainTimes g e) + i
      let s := setLoop 2 (fun l => { l with integ := i }) (countStore 2 [gainTimes g e, sum] s)
      { s with disp.vs := some vs, ctrl.request := store16 (sat40 sum) }

/-- String-current correction: trim within ±5 % of rated current (R172). -/
def currentCorrection (s : State) : State :=
  match stringCurrent s with
  | none => { s with ctrl.trim := 0 }
  | some m =>
    let e := satS16 (s.ctrl.applied - m)
    let lim := iRated s / 20
    let i := clampTo (-lim * 65536) (lim * 65536) ((loopOf s 3).integ + kitsTimes (s.ctrl.kits.getD 5 0) e)
    let p := gainTimes (prmN s Prm.idcKp) e
    let sum := sat40 p + i
    let s := setLoop 3 (fun l => { l with integ := i }) (countStore 3 [p, sum] s)
    { s with ctrl.trim := clampTo (-lim) lim (store16 (sat40 sum)) }

/-- The link-voltage limit loops (R172). -/
def linkLimits (s : State) : State :=
  match s.disp.vLnk with
  | none => { s with ctrl.linkMin := none, ctrl.linkMax := none }
  | some v =>
    let kp := prmN s Prm.vlinkKp
    let (s, a) := runLoop 4 kp (s.ctrl.kits.getD 0 0) (satS16 (v - prm s Prm.vlinkMin)) true s
    let (s, b) := runLoop 5 kp (s.ctrl.kits.getD 1 0) (satS16 (prm s Prm.vlinkMax - v)) false s
    { s with ctrl.linkMin := some a, ctrl.linkMax := some b }

/-- The thermal-capacity model over 100 µs and its ceiling (R175); θ stays in its accumulator, in Q31 (DEDUCED,
notes/assumptions/48.md). -/
def thermalModel (s : State) : State :=
  match stringCurrent s with
  | none => { s with ctrl.therm := none }
  | some i =>
    let ir := max (iRated s) 1
    let th0 := s.ctrl.theta + (i * i * 2147483648 - s.ctrl.theta * (ir * ir)) / (ir * ir * 10000 * max (prm s Prm.psTau) 1)
    let th := sat40 th0
    let o := prm s Prm.psOverload
    let x := 1000000 * 2147483648 + (o * o - 1000000) * (2147483648 - th)
    let a : Int := (isqrt ((ir * ir * max x 0 * 4294967296) / (1000000 * 2147483648)).toNat : Nat)
    let (s, c) := storeResult 6 a (countStore 6 [th0, 0] s)
    { s with ctrl.theta := th, ctrl.therm := some c }

/-- SLEW_MARGIN_LOW (07 R202): n_a × min(V_hi - V_lo, V_lo) ÷ L_PHASE below 1 A/µs while switching; without a voltage it stays as
it is (DESIGN CHOICE, notes/assumptions/48.md). -/
def slewMargin (s : State) : State :=
  if s.conv.vNow.1.isNone || s.conv.vNow.2.isNone then s
  else
  let low := switching s && 0 < s.conv.na &&
    decide ((s.conv.na : Int) * max 0 (min (vHi s - vLo s) (vLo s)) * 625 < prm s Prm.lPhase * 1000)
  let s := if low && !s.conv.slewLow then record Ev.slewMarginLow 3 [] s else s
  { s with conv.slewLow := low }

/-- Keep role S's outputs of the sample before (R181). -/
def keepS (s : State) : State :=
  { s with ctrl.keptS := ⟨s.ctrl.request, s.ctrl.trim, s.ctrl.linkMin, s.ctrl.linkMax, s.ctrl.therm⟩ }

/-- STRING_LOOP_CYCLE (08 R244; R172): with the voltages averaged over the previous 100 µs. Immediate set-points become
targets first (08 R240). -/
def execStringLoopCycle (t : Nat) (vStr vLnk : Option Int) (s : State) : Host.Outcome State Fault Refusal :=
  timed t (fun s =>
    if (holderOf s .s).isNone || s.core.mode == .shelf || cadenceHeld s then s
    else
      let s := keepS { s with disp.vStr := vStr, disp.vLnk := vLnk }
      let s := { eachDo s.disp.imm takeTarget s with disp.imm := [] }
      let s := convertTarget s
      let s :=
        if s.core.mode == .run then rampStep s
        else if regulating s && switching s then linkRegulation s
        else { s with disp.rp := 0, disp.vs := none, ctrl.request := 0 }
      let s := if s.conv.st == .off || s.conv.st == .retryWait then s else currentCorrection s
      slewMargin (thermalModel (linkLimits s))) s

/-! ## The min-select (R176 to R178) -/

/-- SAFETY_CEIL of a direction now: during SF8_DELAY it falls linearly from the current at its start to 0 A (09 R268, R270). -/
def safetyCeil (s : State) (chg : Bool) : Int := match s.saf.sf8 with
  | some (t0, i0) =>
    let d : Int := max (prm s Prm.sf8Delay * 1000000000) 1
    max 0 (i0 * (d - ((s.now - t0 : Nat) : Int)) / d)
  | none => if chg then s.saf.ceilChg else s.saf.ceilDis

/-- The plating candidate: 0 A once the newest sweep is over 100 ms old and a cell's limit is not fresh; else as role C last
gave it (04 R125; R176). -/
def platingNow (s : State) : Int :=
  if sweepFresh s (ms 100) || (fittedCells s).all (limitFresh s) then s.ctrl.plating.getD 0 else 0

/-- A cell-voltage loop's candidate: 0 A while the loops may not use the newest sweep (R173, R176). -/
def cellCandidate (s : State) (c : Option Int) : Int := if cellsUsable s then c.getD 0 else 0

/-- Charge candidates in table order: winner code and magnitude (R176). -/
def chargeCandidates (s : State) : List (Nat × Int) :=
  [(0x09, safetyCeil s true), (0x0A, sensorCap s), (0x03, platingNow s), (0x01, cellCandidate s s.ctrl.cellMax),
   (0x04, s.ctrl.derChg.getD 0), (0x06, s.ctrl.linkMin.getD 0), (0x08, s.ctrl.therm.getD (iRated s))]

/-- Discharge candidates in table order. -/
def dischargeCandidates (s : State) : List (Nat × Int) :=
  [(0x09, safetyCeil s false), (0x0A, sensorCap s), (0x02, cellCandidate s s.ctrl.cellMin), (0x05, s.ctrl.derDis.getD 0),
   (0x07, s.ctrl.linkMax.getD 0), (0x08, s.ctrl.therm.getD (iRated s))]

/-- Least magnitude and the first code in table order that has it. -/
def leastOf (l : List (Nat × Int)) : Nat × Int :=
  l.foldl (fun b x => if x.2 < b.2 then x else b) (l.headD (0xFF, 0))

/-- What the min-select yields. -/
structure Selection where
  /-- Applied value before the soft-start limit. -/
  applied : Int
  /-- Winner code. -/
  win : Nat
  /-- c0 and d0. -/
  ceil : Int × Int
  deriving DecidableEq, Repr

/-- The min-select of R177 on a request with its code and an excitation amplitude. -/
def minSelect (s : State) (request : Int) (code : Nat) (amp : Int) : Selection :=
  let k := leastOf (chargeCandidates s)
  let d := leastOf (dischargeCandidates s)
  let c := if 0 < amp then max 0 (k.2 - amp) else k.2
  let e := if 0 < amp then max 0 (d.2 - amp) else d.2
  let a : Int × Nat := if c < request then (c, k.1) else (request, code)
  let a : Int × Nat := if a.1 < -e then (-e, d.1) else a
  ⟨a.1, a.2, (k.2, d.2)⟩

/-- The excitation of 05 R142 at now, in string-current LSB: the tones in ascending frequency with phases -π k (k - 1) ÷ n. -/
def excitation (s : State) : Int :=
  let amp := excAmp s
  let n := s.imp.tones.length
  if amp = 0 ∨ n = 0 then 0
  else
    let dt : Int := (s.now : Int) - (s.imp.t0.1 : Int)
    let tone (k : Nat) : Int :=
      let f := toneFreq (s.imp.tones.getD k 0)
      cosTurn ((f : Int) * dt * q80 / 10000000000 - ((k + 1) * k : Nat) * q80 / (2 * n : Nat))
    roundDiv (amp * ((List.range n).map tone).foldl (· + ·) 0) ((n : Nat) * q80)

/-- The soft-start limit now, in string-current LSB, 0 A before the first gate byte; none outside soft start (07 R218). -/
def softLimit (s : State) : Option Int :=
  if s.conv.st == .softStart then
    some (match s.conv.ssAt with
      | some a => iRated s * ((s.now - a : Nat) : Int) / max (prm s Prm.ssTime * 1000000) 1
      | none => 0)
  else none

/-- Which loop a winner code belongs to (R179). -/
def loopOfCode (code : Nat) : Nat := match code with
  | 0x01 => 7 | 0x02 => 8 | 0x06 => 4 | 0x07 => 5 | 0x0B => 2 | _ => 99

/-- Note the winner: the time this code has won since the last cycle, and the loops' won flags: none of them while the soft-start
limit binds, which counts as a ceiling (R178, R179; 07 R218). -/
def noteWinner (code : Nat) (limited : Bool) (s : State) : State :=
  let dt := s.now - s.ctrl.cycleAt
  { s with
    ctrl.win := code, ctrl.cycleAt := s.now,
    ctrl.wins := s.ctrl.wins.modify (min code 12) (· + dt),
    ctrl.loops := (List.range 12).map (fun k => { loopOf s k with won := k == loopOfCode code && !limited }) }

/-- The phase-current loops: the share of each phase, its direction, and its valley reference. The gains follow from L_PHASE and
F_SW and the spec states no law for them, so the reference within its format is an open value (R172,
notes/assumptions/9.md); a share whose sign changes makes the control switch swap at the next valley (07 R215). -/
def phaseLoop (s : State) (share : Int) (p : Phase) : Phase :=
  if !p.active then p
  else
    let target := if prm s Prm.hbSide = 0 then share else -share
    let want := if target = 0 then p.ctrlHs else decide (0 < target)
    { p with valley := satS16 (Config.openValue "valley reference" [target, p.mean.getD 0, p.integ, p.tOn, vHi s, vLo s, prm s Prm.lPhase, prm s Prm.fSw]),
             integ := Config.openValue "phase-current integrator" [target, p.mean.getD 0, p.integ, prm s Prm.lPhase, prm s Prm.fSw], swap := want != p.ctrlHs }

/-- Soft start fails where a voltage has fallen below half its pre-start value (an absent one is not judged, DESIGN CHOICE,
notes/assumptions/48.md); it is complete when the limit has reached
I_RATED or the reference lies below the limit (07 R218, R219). -/
def softStartCycle (sel limit : Int) (s : State) : State :=
  let fell (v : Option Int) (pre : Int) : Bool := (v.map (fun x => decide (2 * x < pre))).getD false
  if fell s.conv.vNow.1 s.conv.pre.1 || fell s.conv.vNow.2 s.conv.pre.2 then softStartFail 0 s
  else if iRated s ≤ limit ∨ (sel.natAbs : Int) < limit then { s with conv.st := .continuous, conv.fails := 0 }
  else s

/-- The request and its code: DISPATCH in Run, LINK_REG in Hold with regulation (R176). -/
def requestCode (s : State) : Int × Nat :=
  if s.core.mode == .run then (s.ctrl.request, 0x00) else if regulating s then (s.ctrl.request, 0x0B) else (0, 0x00)

/-- The share of each active phase, in phase-current LSB: of the reference with the trim, in burst of the packet's level in its
direction (07 R211, R213). -/
def phaseShare (s : State) : Int :=
  2 * (if s.conv.st == .burst then s.conv.packet * burstLevel s else s.ctrl.reference + s.ctrl.trim) / max (s.conv.shares : Int) 1

/-- The part of a phase-current cycle that needs a switching converter. -/
def switchingCycle (s : State) : State :=
  let amp := if 0 < excAmp s then s.imp.amp else 0
  let q := requestCode s
  let sel := minSelect s q.1 q.2 amp
  let applied := match softLimit s with
    | some l => clampTo (-l) l sel.applied
    | none => sel.applied
  let s := { s with ctrl.ceil := sel.ceil, ctrl.applied := applied, ctrl.reference := applied + excitation s }
  let s := noteWinner sel.win (applied != sel.applied) s
  let s := if 0 < amp && (sel.ceil.1 < applied + amp || applied - amp < -sel.ceil.2) then impAbort Ev.impCeiling s else s
  let s := { s with conv.lowSince := if s.conv.st == .continuous && belowBurst s then some (s.conv.lowSince.getD s.now) else none }
  let s := burstCycle (shedDecision s)
  let share := phaseShare s
  let s := { s with conv.ph := s.conv.ph.map (phaseLoop s share) }
  match softLimit s with
  | some l => softStartCycle sel.applied l s
  | none => s

/-- The part of a phase-current cycle of a converter that does not switch: the winner is NONE (R176). -/
def idleCycle (s : State) : State :=
  let ceil := ((leastOf (chargeCandidates s)).2, (leastOf (dischargeCandidates s)).2)
  { noteWinner 0xFF false s with ctrl.applied := 0, ctrl.reference := 0, ctrl.ceil := ceil }

/-- Sensor samples of a cycle, in string-current LSB, and the phase means from the return streams. -/
structure CycleObs where
  /-- CS-SHUNT averaged over the cycle; none where its front end gives none. -/
  shunt : Option Int
  /-- CS-HALL averaged over the cycle. -/
  hall : Option Int
  /-- Inbound bytes of the cycle on GL1 to GL8, 400 of each. -/
  lanes : List (List Byte)
  /-- HVS-STR; none where it is absent. -/
  vStr : Option Int
  /-- HVS-LNK. -/
  vLnk : Option Int
  deriving DecidableEq, Repr

/-- CS-SHUNT and CS-HALL lie within 2 % of I_RATED plus 1 A (R192). -/
def sensorsAgree (s : State) (a b : Int) : Bool := decide (50 * ((a - b).natAbs : Int) ≤ iRated s + 1600)

/-- The charge counter runs on over the cycle that ended (04 R109). -/
def countCharge (s : State) : State :=
  { s with est.counter := s.est.counter + (stringCurrent s).getD 0 * ((s.now - s.est.counterAt : Nat) : Int), est.counterAt := s.now }

/-- Mean current of a phase-current cycle from the 400 bytes of its return stream, in phase-current LSB: 640 A × (2 d - 1); none
where bytes are missing, a counter does not follow, or the density is outside 0.1 to 0.9 (07 R224). -/
def streamMean (b : List Byte) : Option Int :=
  let ones : Int := ((b.filter (fun x => bitOf x.toNat 0)).length : Nat)
  if b.length = 400 && countersFollow b && 40 ≤ ones && ones ≤ 360 then some (roundDiv (40960 * (2 * ones - 400)) 400) else none

/-- What the safety processor reads of a cycle: the larger magnitude of the sensors in service, and since when its mean over 100 µs has
been at or above SAFE_OC_SLOW (09 R258, R261, R264). -/
def safetyCurrent (o : CycleObs) (s : State) : State :=
  let i := max (if s.ctrl.shuntFail then 0 else ((o.shunt.getD 0).natAbs : Int)) (if s.ctrl.hallFail then 0 else ((o.hall.getD 0).natAbs : Int))
  let w := (i :: s.saf.iWin).take 5
  let above := w.length = 5 && decide (5 * prm s Prm.safeOcSlow ≤ w.foldl (· + ·) 0) && !bothFailed s
  { s with saf.iNow := i, saf.iWin := w, saf.ocSince := if above then some (s.saf.ocSince.getD s.now) else none }

/-- Take the samples of a cycle: the sensors, the safety processor's own reading, the charge counter, the phases. -/
def takeSamples (o : CycleObs) (s : State) : State :=
  let s := { s with
    ctrl.shunt := o.shunt, ctrl.hall := o.hall, con.vStr := o.vStr.getD s.con.vStr, con.vLnk := o.vLnk.getD s.con.vLnk,
    conv.vNow := (o.vStr, o.vLnk),
    conv.ph := (List.range 8).map (fun n => { phaseOf s n with mean := streamMean (o.lanes.getD n []) }),
    ctrl.agreeSince := match o.shunt, o.hall with
      | some a, some b => if sensorsAgree s a b then some (s.ctrl.agreeSince.getD s.now) else none
      | _, _ => none }
  let s := safetyCurrent o s
  let moves := ((stringCurrent s).map (fun i => decide (prm s Prm.restCurrent < (i.natAbs : Int)))).getD true
  countCharge { s with est.restSince := if moves then none else some (s.est.restSince.getD s.now) }

/-- Keep role P's outputs of the sample before (R181). -/
def keepP (s : State) : State :=
  { s with ctrl.keptP := ⟨s.ctrl.applied, s.ctrl.reference, s.ctrl.win, s.ctrl.ceil, s.conv.na,
      s.conv.ph.map (fun p => ⟨p.valley, p.swap, p.active, p.adding, p.dropping⟩)⟩ }

/-- A step of the first-order filter of 1 ms over 20 µs, on values scaled by 2^16 (R190; its discrete form DESIGN CHOICE,
notes/assumptions/48.md). -/
def feStep (y x : Int) : Int := y + (65536 * x - y) / 50

/-- |reference - measured| as R190 compares them, scaled by 2^16: filtered, in burst averaged over the last 4 ms. -/
def followingDiff (s : State) : Int :=
  if s.conv.st == .burst then
    let d := (s.ctrl.feCycles.map (fun c => c.1 - c.2)).foldl (· + ·) 0
    ((65536 * d / max (s.ctrl.feCycles.length : Int) 1).natAbs : Int)
  else ((s.ctrl.feFilt.1 - s.ctrl.feFilt.2).natAbs : Int)

/-- Following-error supervision of one cycle (R190): filters and averages run while the converter switches; the time above
FE_LIMIT counts outside soft start. With the gates off the filters stand at the present values. -/
def followCycle (s : State) : State := match stringCurrent s with
  | none => { s with ctrl.feSince := none }
  | some i =>
    let r := s.ctrl.reference
    if !switching s then { s with ctrl.feFilt := (65536 * r, 65536 * i), ctrl.feCycles := [], ctrl.feSince := none }
    else
      let s := { s with ctrl.feFilt := (feStep s.ctrl.feFilt.1 r, feStep s.ctrl.feFilt.2 i),
                        ctrl.feCycles := ((r, i) :: s.ctrl.feCycles).take 200 }
      let above := s.conv.st != .softStart && decide (65536 * prm s Prm.feLimit * iRated s < 32768 * followingDiff s)
      { s with ctrl.feSince := if above then some (s.ctrl.feSince.getD s.now) else none }

/-- PHASE_CURRENT_CYCLE (R177): every 20 µs. Outside switching the winner is NONE and the applied value 0 A (R176). A running
lead or window is judged against R141. -/
def execPhaseCurrentCycle (t : Nat) (shunt hall : Option Int) (lanes : List (List Byte)) (vStr vLnk : Option Int) (s : State) :
    Host.Outcome State Fault Refusal :=
  timed t (fun s =>
    if s.core.mode == .shelf || cadenceHeld s then s
    else
      let s := keepP (takeSamples ⟨shunt, hall, lanes, vStr, vLnk⟩ s)
      if (holderOf s .p).isNone then s
      else
        let s := if s.imp.st == .lead || s.imp.st == .integrating then
            match impFailing s true with
            | some c => impAbort c s
            | none => s
          else s
        followCycle (if switching s then switchingCycle s else idleCycle s)) s

/-! ## Engine roles (R181 to R189) -/

/-- Loops of a role: 0 P, 1 S, 2 C. -/
def loopsOfRole (x : Nat) : List Nat := [[0], [1, 2, 3, 4, 5, 6], [7, 8, 9, 10, 11]].getD x []

/-- CTRL_CAPACITY (R165): fewer than three engines hold roles P, S and C. -/
def judgeCapacity (s : State) : State :=
  if threeHold s then { s with ctrl.capacity := false }
  else if s.ctrl.capacity then s
  else
    let s := { s with ctrl.capacity := true }
    if switching s || s.core.mode == .run then faultToHold Ev.ctrlCapacity [] s else record Ev.ctrlCapacity 3 [] s

/-- Raise SHADOW_ABSENT (R182). -/
def raiseShadowAbsent (s : State) : State :=
  if s.ctrl.shadowAbsent then s else record Ev.shadowAbsent 3 [] { s with ctrl.shadowAbsent := true }

/-- Take an engine out of service (R185): a second removal within 24 h holds it out until CTRL_ENGINE_RETURN. -/
def removeEngine (e : Nat) (s : State) : State :=
  let times := (engOf s e).removals.filter (fun a => s.now < a + sec 86400) ++ [s.now]
  record Ev.engineRemoved 4 [e]
    (setEng e (fun g => { g with role := .out, ready := false, removals := times, heldOut := g.heldOut || 2 ≤ times.length,
                                 missRun := [0, 0, 0] }) s)

/-- Missed-sample run of an engine for a role. -/
def missRunOf (s : State) (e x : Nat) : Nat := (engOf s e).missRun.getD x 0

/-- Give an engine a role: its runs of missed samples begin anew (R182, R184, R187). -/
def giveRole (e : Nat) (r : EngRole) : State → State := setEng e (fun g => { g with role := r, missRun := [0, 0, 0] })

/-- Set a missed-sample run. -/
def setMissRun (e x n : Nat) : State → State := setEng e (fun g => { g with missRun := g.missRun.set x n })

/-- MISSED on each late loop (R181). -/
def markMissed (late : List Nat) (s : State) : State :=
  eachDo late (fun k s =>
    let s := if (loopOf s k).missed then s else record Ev.missed 3 [k] s
    setLoop k (fun l => { l with missed := true, missedN := (l.missedN + 1) % 2 ^ 32 }) s) s

/-- The third missed sample: hand over to the shadow, or stop the converter (R182, R183). -/
def handOver (x a : Nat) (shadowLate : Bool) (s : State) : State :=
  match holderOf s .w, shadowLate with
  | some w, false =>
    raiseShadowAbsent (giveRole w (roleOfNum x) (removeEngine a s))
  | _, _ => faultToHold Ev.ctrlDeadline [x] s

/-- Take a missed sample of role P back: its outputs stand as the sample before left them (R181; 07 R230). A phase that has ended
its drop meanwhile stays off. -/
def keepOldP (s : State) : State :=
  let k := s.ctrl.keptP
  let back (p : Phase) (o : PhaseOut) : Phase :=
    let p := { p with valley := o.valley, swap := o.swap }
    if p.active || p.dropping || p.adding then { p with active := o.active, adding := o.adding, dropping := o.dropping } else p
  if !switching s then s
  else { s with ctrl.applied := k.applied, ctrl.reference := k.reference, ctrl.win := k.win, ctrl.ceil := k.ceil,
                conv.na := k.na, conv.ph := s.conv.ph.zipIdx.map (fun a => match k.ph[a.2]? with
                  | some o => back a.1 o
                  | none => a.1) }

/-- Take a missed sample of role S or C back, or of the container loop. -/
def keepOld (x : Nat) (late : List Nat) (s : State) : State :=
  let a := s.ctrl.keptS
  let c := s.ctrl.keptC
  if x = 0 then keepOldP s
  else if x = 1 then { s with ctrl.request := a.request, ctrl.trim := a.trim, ctrl.linkMin := a.linkMin,
                              ctrl.linkMax := a.linkMax, ctrl.therm := a.therm }
  else
    let s := if late.contains 11 then { s with thm.pmp := s.thm.kept.1, thm.vlv := s.thm.kept.2.1, thm.htr := s.thm.kept.2.2 } else s
    if late.all (· == 11) then s
    else { s with ctrl.cellMax := c.cellMax, ctrl.cellMin := c.cellMin, ctrl.plating := c.plating,
                  ctrl.platingCell := c.platingCell, ctrl.derChg := c.derChg, ctrl.derDis := c.derDis }

/-- The active engine's part of a deadline (R181, R182): outputs given are the sample's own, taken when its row ran; a missed sample
is taken back, and the third is carried by the shadow's outputs, which are the same (DESIGN CHOICE, notes/assumptions/22.md). -/
def activeDeadline (x : Nat) (late : List Nat) (shadowLate : Bool) (s : State) : State :=
  match holderOf s (roleOfNum x) with
  | none => s
  | some a =>
    let late := late.filter (fun k => (loopsOfRole x).contains k)
    if late.isEmpty then
      setMissRun a x 0 (eachDo (loopsOfRole x) (fun k => setLoop k (fun l => { l with missed := false })) s)
    else
      let n := missRunOf s a x + 1
      let s := setMissRun a x n (markMissed late s)
      if n = 3 then
        if shadowLate || (holderOf s .w).isNone then handOver x a shadowLate (keepOld x late s) else handOver x a shadowLate s
      else keepOld x late s

/-- The shadow's part: three misses in a row take it out of service (R184). -/
def shadowDeadline (x : Nat) (shadowLate : Bool) (s : State) : State :=
  match holderOf s .w with
  | none => s
  | some w =>
    if !shadowLate then setMissRun w x 0 s
    else
      let n := missRunOf s w x + 1
      let s := setMissRun w x n s
      if n = 3 then raiseShadowAbsent (removeEngine w s) else s

/-- A CTRL install runs and an engine has not been loaded yet: its outputs may differ from the shadow's (19 R540). -/
def otherImage (s : State) (a : Option Nat) : Bool := match s.upd.job, a with
  | some j, some e => j.id = 4 && j.todo.contains e
  | _, _ => false

/-- The comparison of outputs (R186): two differing samples in a row send the shadow to its self-test. Engines on different
images are not compared (19 R540). -/
def compareShadow (x : Nat) (differ : Bool) (s : State) : State :=
  match holderOf s .w with
  | none => s
  | some w =>
    if otherImage s (holderOf s (roleOfNum x)) then s
    else if !differ then { s with ctrl.diffRun := s.ctrl.diffRun.set x 0 }
    else
      let n := s.ctrl.diffRun.getD x 0 + 1
      let s := { s with ctrl.diffRun := s.ctrl.diffRun.set x n, ctrl.lastDiff := some s.now }
      if n = 2 then
        let s := setEng w (fun g => { g with role := .selfTest, mismatches := g.mismatches + 1 }) s
        record Ev.shadowMismatch 3 [x] { s with ctrl.resolving := some (x, none), ctrl.diffRun := [0, 0, 0] }
      else s

/-- ROLE_DEADLINE (R182): role 0 P, 1 S, 2 C; the active engine's loops without an output, whether the shadow is late, and
whether their outputs differ. -/
def execRoleDeadline (t : Nat) (x : Nat) (late : List Nat) (shadowLate differ : Bool) (s : State) :
    Host.Outcome State Fault Refusal :=
  timed t (fun s =>
    if 3 ≤ x then s
    else
      let lateNow := !(late.filter (fun k => (loopsOfRole x).contains k)).isEmpty
      let s := activeDeadline x late shadowLate s
      let s := shadowDeadline x shadowLate s
      if lateNow || shadowLate then s else compareShadow x differ s) s

/-- Which engine held a role before the shadow took it (R186). -/
def resolveTest (e x : Nat) (former : Option Nat) (pass : Bool) (s : State) : State :=
  match former with
  | none =>
    if pass then
      match holderOf s (roleOfNum x) with
      | some a =>
        let s := giveRole a .selfTest (giveRole e (roleOfNum x) s)
        { s with ctrl.resolving := some (x, some a) }
      | none => giveRole e .w { s with ctrl.resolving := none }
    else raiseShadowAbsent (removeEngine e { s with ctrl.resolving := none })
  | some _ =>
    let s := { s with ctrl.resolving := none }
    if pass then record Ev.ctrlMismatchUnresolved 3 [x] (giveRole e .w s)
    else raiseShadowAbsent (removeEngine e s)

/-- ENGINE_SELF_TEST_DONE (R185 to R187): of the engine under test in a mismatch, of one released by rotation, or of one taken
out of service. -/
def execEngineSelfTestDone (t : Nat) (e : Nat) (pass : Bool) (s : State) : Host.Outcome State Fault Refusal :=
  timed t (fun s =>
    let g := engOf s e
    if 4 ≤ e then s
    else if g.role == .selfTest then
      let s := setEng e (fun g => { g with test := some pass }) s
      judgeCapacity (match s.ctrl.resolving with
        | some (x, former) => resolveTest e x former pass s
        | none => if pass then giveRole e .w s else raiseShadowAbsent (removeEngine e s))
    else if g.role == .out && !g.heldOut then setEng e (fun g => { g with test := some pass, ready := pass }) s
    else s) s

/-- A CTRL image load is in progress (R188; 19 R536). -/
def ctrlLoading (s : State) : Bool := (s.upd.job.map (fun j => decide (j.id = 4))).getD false

/-- Why rotation is skipped, none where it may take place (R188). -/
def rotationSkipped (s : State) : Option Nat :=
  if s.ctrl.shadowAbsent || (holderOf s .w).isNone then some Ev.shadowAbsent
  else if (s.ctrl.lastDiff.map (fun a => decide (s.now < a + sec 1))).getD false then some Ev.shadowMismatch
  else if s.pair.takeover.isSome then some Ev.impTakeover
  else if ctrlLoading s then some Ev.installBusy
  else if s.imp.st == .lead || s.imp.st == .integrating then some Ev.functionBusy
  else none

/-- One rotation step (R187): the shadow takes the next role, the released engine tests itself. -/
def rotate (s : State) : State :=
  let x := s.ctrl.nextRole
  match holderOf s .w, holderOf s (roleOfNum x) with
  | some w, some a =>
    let s := giveRole a .selfTest (giveRole w (roleOfNum x) s)
    record Ev.rotation 2 [x, w, a] { s with ctrl.nextRole := (x + 1) % 3, pair.rotations := (s.pair.rotations + 1) % 65536 }
  | _, _ => s

/-- An engine that has passed its self-test becomes the shadow at a boundary (R185). -/
def promoteReady (s : State) : State :=
  match holderOf s .w, (List.range 4).find? (fun e => (engOf s e).ready) with
  | none, some e => setEng e (fun g => { g with role := .w, ready := false, missRun := [0, 0, 0] }) { s with ctrl.shadowAbsent := false }
  | _, _ => s

/-- A CTRL install's own step: the shadow has run on the new image for 2 s, takes the next active role, and the released engine
is reloaded; the refusals are tested first (19 R537, R540). -/
def installRotation (j : Install) (s : State) : State := match installBlock j s with
  | some c => pauseJob c s
  | none => match holderOf s .w, holderOf s (roleOfNum s.ctrl.nextRole) with
    | some _, some a =>
      setJob (fun j => { j with todo := a :: j.todo.filter (· ≠ a), step := j.step + 1, busy := true, failed := 0, since := s.now,
                                shadowAt := none }) (setEng a (fun g => { g with role := .out }) (rotate s))
    | _, _ => s

/-- The CTRL install waits for its next rotation. -/
def installDue (s : State) : Option Install := s.upd.job.filter (fun j =>
  j.id = 4 && !j.busy && j.paused.isNone && !j.todo.isEmpty && heldOpt s j.shadowAt (sec 2))

/-- ROLE_ROTATION (R187, R188): the 600 s boundary; while a CTRL image is being installed, the install's own step (19 R540). -/
def execRoleRotation (t : Nat) (s : State) : Host.Outcome State Fault Refusal :=
  timed t (fun s => match installDue s, rotationSkipped s with
    | some j, some c => if c = Ev.installBusy then installRotation j s else promoteReady s
    | _, none => rotate s
    | none, some _ => promoteReady s) s

/-! ## Following error (R190, R191) -/

/-- FOLLOWING_ERROR (R190): the error has exceeded FE_LIMIT for longer than FE_TIME, in continuous operation or in burst. -/
def execFollowingError (t : Nat) (s : State) : Host.Outcome State Fault Refusal :=
  timed t (fun s =>
    if !(s.conv.st == .continuous || s.conv.st == .burst) ||
        !((s.ctrl.feSince.map (fun a => decide (a + ms (prmN s Prm.feTime) < s.now))).getD false) then s
    else
      let err := followingDiff s / 65536
      let times := within s (sec 600) s.ctrl.feTimes ++ [s.now]
      let s := { s with ctrl.feTimes := times, ctrl.feSince := none }
      if 3 ≤ times.length then trip Ev.followingError .sp [err] s else faultToHold Ev.followingError [err] s) s

/-! ## Current sensors (R192 to R196) -/

/-- CS-SHUNT (0) or CS-HALL (1) has failed (R194); both failed is CURRENT_FEEDBACK_LOST. -/
def failSensor (x : Nat) (s : State) : State :=
  if (if x = 0 then s.ctrl.shuntFail else s.ctrl.hallFail) then s
  else
    let s := if x = 0 then { s with ctrl.shuntFail := true } else { s with ctrl.hallFail := true }
    let s := record (if x = 0 then Ev.shuntFail else Ev.hallFail) 4 [] s
    let s := if x = 0 then impAbort Ev.impShunt s else s
    if bothFailed s then faultToHold Ev.currentFeedbackLost [] { s with ctrl.bothAt := some s.now } else s

/-- SENSOR_DISAGREE (R192): both readings, the sum of the phase currents in phase-current LSB where every active phase has a
valid stream, and how long they have differed. -/
def execSensorDisagree (t : Nat) (shunt hall : Int) (sum : Option Int) (held : Nat) (s : State) :
    Host.Outcome State Fault Refusal :=
  timed t (fun s =>
    if s.ctrl.shuntFail || s.ctrl.hallFail || sensorsAgree s shunt hall || held < ms 5 then s
    else match sum with
      | none => failSensor 1 (failSensor 0 s)
      | some q =>
        let q := if prm s Prm.hbSide = 0 then q else -q
        let ds : Int := (2 * shunt - q).natAbs
        let dh : Int := (2 * hall - q).natAbs
        if iRated s ≤ 50 * (ds - dh) then failSensor 0 s
        else if iRated s ≤ 50 * (dh - ds) then failSensor 1 s
        else failSensor 1 (failSensor 0 s)) s

/-- SENSOR_FROZEN (R193): the spread of the native code in LSB, over how many cycles, the change of commanded duty in Q15
while it lasted, and whether the front end reports a fault. -/
def execSensorFrozen (t : Nat) (x spread cycles duty : Nat) (fault : Bool) (s : State) : Host.Outcome State Fault Refusal :=
  timed t (fun s =>
    if x < 2 && (fault || (spread ≤ 1 && 64 ≤ cycles && 328 < duty)) then failSensor x s else s) s

/-- CURRENT_FEEDBACK_LOST (R195): neither sensor has recovered within 5 s. -/
def execCurrentFeedbackLost (t : Nat) (s : State) : Host.Outcome State Fault Refusal :=
  timed t (fun s =>
    if bothFailed s && heldOpt s s.ctrl.bothAt (sec 5) && s.core.mode != .tripped then
      tripHeld Ev.currentFeedbackLost .sp [] s
    else s) s

/-- SENSOR_RECOVER (R195): with both failed, a sensor has passed R193 for a time and, where the other reads, agrees with it. -/
def execSensorRecover (t : Nat) (x passed : Nat) (agrees : Bool) (s : State) : Host.Outcome State Fault Refusal :=
  timed t (fun s =>
    if x < 2 && bothFailed s && sec 1 ≤ passed && agrees then
      let s := clearPresent Ev.currentFeedbackLost { s with ctrl.bothAt := none }
      if x = 0 then { s with ctrl.shuntFail := false } else { s with ctrl.hallFail := false }
    else s) s

/-! ## Commands (R198) -/

/-- CTRL_STATUS fields. -/
def ctrlStatus (s : State) : Payload :=
  .fields [("applied", [s.ctrl.applied]), ("request", [s.ctrl.request]), ("winner", [s.ctrl.win]),
    ("charge candidates", (chargeCandidates s).map (·.2)), ("discharge candidates", (dischargeCandidates s).map (·.2)),
    ("excitation", [excAmp s]), ("MISSED", s.ctrl.loops.map (fun l => flag l.missed)),
    ("MISSED count", s.ctrl.loops.map (fun l => (l.missedN : Int))), ("SAT", s.ctrl.loops.map (fun l => (l.sat : Int))),
    ("ACC_OVF", s.ctrl.loops.map (fun l => (l.ovf : Int))), ("sensors", [flag s.ctrl.shuntFail, flag s.ctrl.hallFail]),
    ("theta", [store16 s.ctrl.theta]), ("FOLLOWING_ERROR", [((within s (sec 600) s.ctrl.feTimes).length : Int)])]

/-- CTRL_STATUS. -/
def execCtrlStatus (t : Nat) (m : Nat) (s : State) : Host.Outcome State Fault Refusal :=
  timed t (serve m Cmd.ctrlStatus (statusHandler ctrlStatus)) s

/-- State code of an engine: 0 active P, 1 S, 2 C, 3 shadow, 4 self-test, 5 out of service. -/
def EngRole.code : EngRole → Nat
  | .p => 0 | .s => 1 | .c => 2 | .w => 3 | .selfTest => 4 | .out => 5

/-- Time stamp of the next rotation: the next TAI second that is a whole multiple of 600 (R187). -/
def nextRotation (s : State) : Nat := (stampNow s / 2 ^ 32 / 600 + 1) * 600 * 2 ^ 32

/-- CTRL_ENGINES fields. -/
def ctrlEngines (s : State) : Payload :=
  .fields (s.ctrl.eng.map (fun g => ("engine", [(g.role.code : Int), flag (g.test.getD false), flag g.test.isSome,
    ((within s (sec 86400) g.removals).length : Int), g.mismatches])) ++ [("next rotation", [(nextRotation s : Int)])])

/-- CTRL_ENGINES. -/
def execCtrlEngines (t : Nat) (m : Nat) (s : State) : Host.Outcome State Fault Refusal :=
  timed t (serve m Cmd.ctrlEngines (statusHandler ctrlEngines)) s

/-- CTRL_ENGINE_RETURN's handler: the self-test's result is given; an engine in service is not accepted. -/
def engineReturn (pass : Bool) (r : Request) : State → Answer × State :=
  withLength 1 (fun p s =>
    let e := byteAt p 0
    if 3 < e || (engOf s e).role != .out then refuse (argReply r.command 0) s
    else
      let s := setEng e (fun g => { g with test := some pass }) s
      if !pass then answerWith (guardReply Ev.engineRemoved) s
      else
        let vacant := ([EngRole.w, .p, .s, .c].find? (fun r => (holderOf s r).isNone)).getD .w
        ok (judgeCapacity (setEng e (fun g => { g with role := vacant, heldOut := false, ready := false, missRun := [0, 0, 0] })
          { s with ctrl.shadowAbsent := s.ctrl.shadowAbsent && vacant != .w }))) r

/-- CTRL_ENGINE_RETURN (R185): runs the self-test and returns the engine as shadow. -/
def execCtrlEngineReturn (t : Nat) (m : Nat) (pass : Bool) (s : State) : Host.Outcome State Fault Refusal :=
  timed t (serve m Cmd.ctrlEngineReturn (engineReturn pass)) s

/-- CTRL_ROTATE_NOW: the next step at once; refused where R188 skips it. -/
def execCtrlRotateNow (t : Nat) (m : Nat) (s : State) : Host.Outcome State Fault Refusal :=
  timed t (serve m Cmd.ctrlRotateNow (withLength 0 (fun _ s => match rotationSkipped s with
    | some c => refuse (guardReply c) s
    | none => ok (rotate s)))) s

/-- SENSOR_RESTORE's handler (R196). -/
def sensorRestore (r : Request) : State → Answer × State :=
  withLength 1 (fun p s =>
    let x := byteAt p 0
    if 1 < x then refuse (argReply r.command 0) s
    else if !heldOpt s s.ctrl.agreeSince (sec 10) then refuse (guardReply (if x = 0 then Ev.shuntFail else Ev.hallFail)) s
    else ok (clearPresent Ev.currentFeedbackLost (if x = 0 then { s with ctrl.shuntFail := false, ctrl.bothAt := none }
      else { s with ctrl.hallFail := false, ctrl.bothAt := none }))) r

/-- SENSOR_RESTORE. -/
def execSensorRestore (t : Nat) (m : Nat) (s : State) : Host.Outcome State Fault Refusal :=
  timed t (serve m Cmd.sensorRestore sensorRestore) s

/-- WIN_TOTALS: time each winner code has won since boot, 0.1 s units. -/
def execWinTotals (t : Nat) (m : Nat) (s : State) : Host.Outcome State Fault Refusal :=
  timed t (serve m Cmd.winTotals (statusHandler (fun s =>
    .fields [("wins", s.ctrl.wins.map (fun w => ((w / 100000000 : Nat) : Int)))]))) s

end Sys2Proof.Machine
end

