-- ==== Sys2Proof/Machine/Balance.lean ====
section
/-!
DEFINITION. Machine/Balance.lean: balancing: the leases in the taps, the scheduler, the lease frames and the commands
(03 R83 to R104).
-/

namespace Sys2Proof.Machine

open Sys2Proof

/-! ## Leases in the tap (03 R85 to R95) -/

/-- The channel mask of a tap covers a channel: it stands in the mask, or a neighbour of it does (03 R94, R95). -/
def maskCovers (p : Tap) (c : Nat) : Bool :=
  bitOf p.imp.mask c || bitOf p.imp.mask (c + 1) || (0 < c && bitOf p.imp.mask (c - 1))

/-- The sample instant that a tap predicts next, from its last one and the period of BAL_MODE, until 160 us after it; a mark that
does not come leaves the later ones where they are (03 R90). -/
def predictedAt (s : State) (p : Tap) : Option Nat := match p.sampledAt with
  | none => none
  | some a =>
    let d := us p.balPeriod
    if d = 0 then none else some (a + d * max 1 ((s.now - (a + us 160)) / d + (if a + us 160 ≤ s.now then 1 else 0)))

/-- The tap suspends current for a sample: from 40 us before the predicted instant to 160 us after it, or to 10 us after the sample
(03 R90). -/
def gateNow (s : State) (p : Tap) : Bool :=
  p.balMode == some false &&
    (((predictedAt s p).map (fun a => decide (a ≤ s.now + us 40))).getD false ||
      (p.sampledAt.map (fun a => decide (s.now < a + us 10))).getD false)

/-- The tap suspends the current of the window's channels: from 40 us before the window starts to 10 us after it ends
(03 R95). -/
def impNow (s : State) (p : Tap) : Bool :=
  p.imp.since.isSome || (p.imp.endedAt.map (fun a => decide (s.now < a + us 10))).getD false ||
    (match p.imp.window with
      | some (_, start, _) => (p.marks + 1) % 256 == start &&
          ((predictedAt s p).map (fun a => decide (a ≤ s.now + us 40))).getD true
      | none => false)

/-- Current on a channel is suspended for an impedance window (03 R95). -/
def windowCovers (s : State) (p : Tap) (c : Nat) : Bool := impNow s p && maskCovers p c

/-- One slot of a BAL_LEASE request: why it is refused, none when it is granted. `other` is the channel the first slot holds
(03 R85, R88). -/
def leaseRefusal (s : State) (p : Tap) (x : Slot) (chan dir : Nat) (bad : Bool) (other : Option Nat) : Option Nat :=
  if bad || 15 < chan || 1 < dir then some 5
  else if p.balMode.isNone then some 6
  else if p.ovTrip != 0 || p.uvTrip != 0 then some 3
  else if (p.convTemp.map (fun v => decide (9500 < v))).getD false && !(leaseRuns s x && x.chan == some chan && x.charge == (dir == 1)) then
    some 4
  else if p.balMode == some true && (other == some (chan + 1) || (0 < chan && other == some (chan - 1))) then some 2
  else none

/-- A granted slot: renewed without a pause, reversed 1 ms later, or started anew (03 R88); its current waits while the tap
suspends for a sample or an impedance window (03 R90, R95). -/
def grantSlot (s : State) (p : Tap) (x : Slot) (chan dir dur : Nat) : Slot :=
  let sus := windowCovers s p chan
  let same := leaseRuns s x && x.chan == some chan
  let x : Slot :=
    if same && x.charge == (dir == 1) then { x with ends := s.now + ms dur }
    else if same then { x with charge := dir == 1, since := s.now, ends := s.now + ms dur, flowsAt := s.now + ms 1 }
    else { x with chan := some chan, charge := dir == 1, since := s.now, ends := s.now + ms dur, flowsAt := s.now, gated := gateNow s p }
  { x with impOff := sus, result := if sus then 1 else 0 }

/-- One slot under a request (03 R88). -/
def leaseSlot (s : State) (p : Tap) (x : Slot) (chan dir dur : Nat) (bad : Bool) (other : Option Nat) : Slot :=
  if chan = 0xFF then { x with chan := none, gated := false, impOff := false, result := 7 }
  else match leaseRefusal s p x chan dir bad other with
    | some code => { x with chan := none, gated := false, impOff := false, result := code }
    | none => grantSlot s p x chan dir dur

/-- The lease set of both slots (03 R88). -/
def leaseTap (s : State) (b : List Byte) (dur : Nat) (p : Tap) : Tap :=
  let ch (k : Nat) := leAt b (2 * k) 1
  let bad := ch 0 = ch 1 && ch 0 ≠ 0xFF
  let a := leaseSlot s p (p.slots.getD 0 {}) (ch 0) (leAt b 1 1) dur bad none
  let c := leaseSlot s p (p.slots.getD 1 {}) (ch 1) (leAt b 3 1) dur bad a.chan
  { p with slots := [a, c] }

/-- Charge moved by the leases of a position up to now, counted per cell at 3 A and the gated duty; ended leases are forgotten
(03 R100). -/
def countBalance (r p : Nat) (s : State) : State :=
  let x := posOf s r p
  let duty := if prm s Prm.balModeSel = 0 then s.rings.period - min s.rings.period 50 else s.rings.period
  let s := eachDo x.run (fun l s => match l with
    | some (c, charge, ends) =>
      let moved := 3000000 * (min s.now ends - x.countedAt) / 1000000000 * duty / max s.rings.period 1
      setCtx (256 * r + 16 * (p - 1) + c) (fun (y : Ctx) =>
        if charge then { y with balChg := y.balChg + moved } else { y with balDis := y.balDis + moved }) s
    | none => s) s
  setPos r p (fun (y : RingPos) => { y with
    countedAt := s.now, run := y.run.map (fun l => l.filter (fun a => decide (s.now < a.2.2))) }) s

/-- The leases that run after a tap's answer, as its slots show them (03 R89, R100). -/
def noteRun (r p : Nat) (s : State) : State :=
  let x := tapOf s (tapIndex r p)
  setPos r p (fun (y : RingPos) => { y with
    run := x.slots.map (fun k => if leaseRuns s k then k.chan.map (fun c => (c, k.charge, k.ends)) else none) })
    (countBalance r p s)

/-- BAL_LEASE: `temp` the converter temperature. The results and the applied duration are reported; the module notes whether
both are good, which leases run, and records refusals other than 0x07 (03 R85 to R89, R100). -/
def execBalLease (t : Nat) (q : TapReq) (temp : Int) (s : State) : Host.Outcome State Fault Refusal :=
  timed t (atTap 0x20 q (withPayload 6 (fun i b s =>
    let dur := max 1 (min (leAt b 4 2) 500)
    let s := setTap i (fun (p : Tap) => { p with convTemp := some temp }) s
    let s := setTap i (leaseTap s b dur) s
    let p := tapOf s i
    let r0 := (p.slots.getD 0 {}).result
    let r1 := (p.slots.getD 1 {}).result
    let s := setPos q.ring q.pos (fun (x : RingPos) => { x with lastOk := r0 ≤ 1 && r1 ≤ 1 }) (noteRun q.ring q.pos s)
    let refused (r : Nat) := 1 < r && r ≠ 7
    let s := if refused r0 || refused r1 then record Ev.balRefused 3 [q.ring, q.pos, r0, r1] s else s
    .reply s (leBytes 1 r0 ++ leBytes 1 r1 ++ leBytes 2 dur ++ tempBytes (some temp))))) s

/-- BAL_STOP: the masked leases end (03 R87, R89). -/
def execBalStop (t : Nat) (q : TapReq) (s : State) : Host.Outcome State Fault Refusal :=
  timed t (atTap 0x21 q (withPayload 1 (fun i b s =>
    let m := leAt b 0 1
    if 3 < m then .reject
    else
      let p := tapOf s i
      let stops (k : Nat) : Bool := bitOf m k && leaseRuns s (p.slots.getD k {})
      let cut (k : Nat) (x : Slot) : Slot := if bitOf m k then { x with chan := none, gated := false, impOff := false } else x
      .reply (noteRun q.ring q.pos
          (setTap i (fun (p : Tap) => { p with slots := [cut 0 (p.slots.getD 0 {}), cut 1 (p.slots.getD 1 {})] }) s))
        (leBytes 1 (bit (stops 0) 0 + bit (stops 1) 1))))) s

/-- BAL_MODE: the measurement mode and the predicted mark interval; every lease ends (03 R87). -/
def execBalMode (t : Nat) (q : TapReq) (s : State) : Host.Outcome State Fault Refusal :=
  timed t (atTap 0x22 q (withPayload 5 (fun i b s =>
    if 1 < leAt b 0 1 then .reject
    else .reply (noteRun q.ring q.pos
      (setTap i (fun (p : Tap) => { endLeases p with balMode := some (leAt b 0 1 == 1), balPeriod := leAt b 1 4 }) s)) b))) s

/-- Change one slot of a tap. -/
def setSlot (i k : Nat) (g : Slot → Slot) : State → State := setTap i (fun (p : Tap) => { p with slots := p.slots.modify k g })

/-- BAL_LEASE_EXPIRY of slot `k` of tap `i`: a lease that has not been renewed ends (03 R85, R86). -/
def execBalLeaseExpiry (t i k : Nat) (s : State) : Host.Outcome State Fault Refusal :=
  timed t (fun s =>
    if ((tapOf s i).slots.getD k {}).ends ≤ s.now then
      setSlot i k (fun (x : Slot) => { x with chan := none, gated := false, impOff := false }) s
    else s) s

/-- BAL_CONVERTER_OVERTEMP of tap `i` at `temp`: above 105 degC both slots' current ends (03 R85). -/
def execBalConverterOvertemp (t i : Nat) (temp : Int) (s : State) : Host.Outcome State Fault Refusal :=
  timed t (fun s =>
    let s := setTap i (fun (p : Tap) => { p with convTemp := some temp }) s
    if 10500 < temp then setTap i endLeases s else s) s

/-- BAL_GATED_SUSPEND of tap `i`: in gated mode both slots' current is suspended from 40 us before each predicted sample
(03 R90). -/
def execBalGatedSuspend (t i : Nat) (s : State) : Host.Outcome State Fault Refusal :=
  timed t (fun s =>
    if gateNow s (tapOf s i) then
      setTap i (fun (p : Tap) => { p with slots := p.slots.map (fun (x : Slot) => { x with gated := x.chan.isSome }) }) s
    else s) s

/-- BAL_RESUME of tap `i`: gated current resumes 10 us after the sample, or 160 us after the predicted instant without one;
current suspended for an impedance window resumes 10 us after its end (03 R90, R95). -/
def execBalResume (t i : Nat) (s : State) : Host.Outcome State Fault Refusal :=
  timed t (fun s =>
    let gate := gateNow s (tapOf s i)
    let win := impNow s (tapOf s i)
    setTap i (fun (p : Tap) => { p with slots := p.slots.map (fun (x : Slot) =>
      { x with gated := x.gated && gate, impOff := x.impOff && win }) }) s) s

/-- IMP_WINDOW_SUSPEND of tap `i`: from 40 us before a window starts, the current of covered channels is suspended (03 R95). -/
def execImpWindowSuspend (t i : Nat) (s : State) : Host.Outcome State Fault Refusal :=
  timed t (fun s =>
    let q := tapOf s i
    setTap i (fun (p : Tap) => { p with slots := p.slots.map (fun (x : Slot) =>
      { x with impOff := x.impOff || (x.chan.map (windowCovers s q)).getD false }) }) s) s

/-! ## The scheduler (03 R97 to R102) -/

/-- A cell may take part: its estimate is at most 100 ms old and its sweep sample has a value (03 R97). -/
def balUsable (s : State) (c : Nat) : Bool := cellFitted s c && ctxFresh s c && (cellOf s c).v.isSome

/-- Mean of a list of working values. -/
def meanOf (l : List Int) : Int := if l.isEmpty then 0 else l.foldl (· + ·) 0 / l.length

/-- A cell may be leased in a direction (03 R99). -/
def balAllowed (s : State) (c : Nat) (charge : Bool) : Bool :=
  match windowTemp s c, (cellOf s c).v with
  | some temp, some v =>
    if charge then
      decide (prm s Prm.chgTMin ≤ temp) && decide (temp ≤ prm s Prm.chgTMax) && decide (96 ≤ (ctxOf s c).lim.getD 0) && !cellReplaced s c &&
        decide (v < prm s Prm.balMaxCellV)
    else
      decide (prm s Prm.disTMin ≤ temp) && decide (temp ≤ prm s Prm.disTMax) && decide (prm s Prm.balMinCellV < v)
  | _, _ => false

/-- A Q15 share as a Q80 value. -/
def q15 (v : Int) : Int := v * 2 ^ 65

/-- A tap's target state of charge (03 R98). -/
def balTarget (s : State) (cells : List Nat) (stringMean : Int) : Int :=
  let m := meanOf (cells.map (fun c => (ctxOf s c).soc))
  m - prm s Prm.blockDrainShare * max 0 (m - stringMean) / 32768

/-- The lease a cell wants under the dead band: a running lease stays until half of it (03 R98, R99). -/
def balWish (s : State) (target : Int) (running : Bool) (c : Nat) : Option (Int × Nat × Bool) :=
  let d := (ctxOf s c).soc - target
  let dev := (d.natAbs : Int)
  let band := q15 (prm s Prm.balDeadband)
  let keep := if running then decide (band ≤ 2 * dev) else decide (band < dev)
  if keep && balAllowed s c (decide (d < 0)) then some (dev, c % 16, decide (d < 0)) else none

/-- Insert a wish by falling deviation. -/
def insertWish (w : Int × Nat × Bool) : List (Int × Nat × Bool) → List (Int × Nat × Bool)
  | [] => [w]
  | x :: l => if x.1 < w.1 then w :: x :: l else x :: insertWish w l

/-- Two channels of one tap are neighbours (03 R94). -/
def neighbours (a b : Nat) : Bool := a + 1 == b || b + 1 == a

/-- The leases chosen from forced ones and ranked wishes: at most BAL_MAX_PER_TAP, no channel twice, neighbours skipped in
compensated mode (03 R98, R104). -/
def balPick (s : State) (l : List (Nat × Bool)) : List (Nat × Bool) :=
  (l.foldl (fun (acc : List (Nat × Bool)) x =>
    if acc.length < prmN s Prm.balMaxPerTap && acc.all (fun y => y.1 != x.1 &&
        !(prm s Prm.balModeSel == 1 && neighbours y.1 x.1)) then acc ++ [x] else acc) [])

/-- Put chosen leases into slots: a running channel keeps its slot (03 R88, R98). -/
def balSlots (sent : List (Option (Nat × Bool))) (pick : List (Nat × Bool)) : List (Option (Nat × Bool)) :=
  let kept (k : Nat) : Option (Nat × Bool) := match sent.getD k none with
    | some a => pick.find? (fun x => x.1 == a.1)
    | none => none
  let rest := pick.filter (fun x => some x != kept 0 && some x != kept 1)
  let first := match kept 0 with
    | some x => some x
    | none => rest.head?
  let rest := if (kept 0).isSome then rest else rest.tail
  [first, match kept 1 with
    | some x => some x
    | none => rest.head?]

/-- The next mark is the first of the second in which a new sweep period takes effect (02 R57, 03 R96). -/
def periodChanging (s : State) : Bool := (s.rings.nextPeriod.map (fun a => decide (a.2 ≤ nextMark s + us 10))).getD false

/-- Balancing leases in this state: mode 2 to 5, BAL_ENABLE, BAL_REST_ONLY, the function runs (03 R101). -/
def balGrants (s : State) : Bool :=
  running s 2 && prm s Prm.balEnable == 1 && !s.thm.held && s.rings.mark.isSome && !periodChanging s &&
  (inMode s [.watch, .connect] || (inMode s [.run, .hold] && prm s Prm.balRestOnly == 0))

/-- The choice of the scheduler for a tap (03 R97 to R99, R104). -/
def balChoice (s : State) (stringMean : Int) (r p : Nat) : List (Option (Nat × Bool)) :=
  let base := 256 * r + 16 * (p - 1)
  let cells := ((List.range 16).map (base + ·)).filter (balUsable s)
  let sent := (posOf s r p).sent
  let runs (c : Nat) : Bool := sent.any (fun x => (x.map (fun a => a.1 == c % 16)).getD false)
  let forced := (s.rings.forced.filter (fun f => f.1 / 16 = base / 16 && s.now < f.2.2 && balUsable s f.1 && balAllowed s f.1 f.2.1)).map
    (fun f => (f.1 % 16, f.2.1))
  let target := balTarget s cells stringMean
  let wishes := (cells.filterMap (fun c => balWish s target (runs c) c)).foldl (fun l w => insertWish w l) []
  balSlots sent (balPick s (forced ++ wishes.map (fun w => w.2)))

/-- The 6 payload bytes of BAL_LEASE (03 R87). -/
def leaseBytes (s : State) (l : List (Option (Nat × Bool))) : List Byte :=
  ((List.range 2).flatMap (fun k => match l.getD k none with
    | some (c, d) => leBytes 1 c ++ leBytes 1 (if d then 1 else 0)
    | none => [255#8, 0#8])) ++ leBytes 2 (prmN s Prm.balLeaseTime)

/-- The lease frames that wait go out in a ring's command window, while leases are granted (03 R87, R101). -/
def sendLeases (r : Nat) (s : State) : State :=
  eachDo (reached s r) (fun p s =>
    if !balGrants s then setPos r p (fun (x : RingPos) => { x with sent := [none, none], leaseDue := false }) s
    else if (posOf s r p).leaseDue then
      setPos r p (fun (x : RingPos) => { x with leaseDue := false })
        (sendTap r p 0x20 (leaseBytes s (posOf s r p).sent) s)
    else s) s

/-- BAL_RENEW: every BAL_RENEW ms the charge moved is counted, the scheduler chooses, and the lease frames go out in the command
window of each ring (03 R87, R89, R97 to R102). -/
def execBalRenew (t : Nat) (s : State) : Host.Outcome State Fault Refusal :=
  timed t (fun s =>
    let due := match s.rings.renewAt with
      | some a => decide (a + ms (prmN s Prm.balRenew) ≤ s.now)
      | none => true
    if !due then s
    else
      let s := { s with rings.renewAt := some s.now }
      let mean := meanOf (((List.range 512).filter (balUsable s)).map (fun c => (ctxOf s c).soc))
      eachDo [0, 1] (fun r s =>
        let s := eachDo (reached s r) (fun p s => countBalance r p s) s
        if !balGrants s || !ringServed s r || s.rings.balModeDue.getD r false then
          eachDo (reached s r) (fun p s => setPos r p (fun (x : RingPos) => { x with sent := [none, none], leaseDue := false }) s) s
        else
          let s := eachDo (reached s r) (fun p s =>
            let want := balChoice s mean r p
            setPos r p (fun (x : RingPos) => { x with sent := want, leaseDue := true, lastOk := false }) s) s
          if windowOpen s r then sendLeases r s else s) s) s

/-! ## Commands (03 R104) -/

/-- BAL_STATUS; a slot without a lease has no time left. -/
def balStatus (s : State) : Payload :=
  .fields (("active", [((s.rings.tap.flatMap (·.slots)).countP (leaseRuns s) : Nat)]) ::
    ((List.range 32).filter (fun i => (tapOf s i).fitted)).map (fun i =>
      let p := tapOf s i
      ("tap", [(i : Int)] ++ (p.slots.flatMap (fun x => optNat (if leaseRuns s x then x.chan else none) ++
        [flag x.charge, (x.result : Int), if leaseRuns s x then (((x.ends - s.now) / 1000000 : Nat) : Int) else 0])) ++
        [(codeS16 p.convTemp : Int)])))

/-- BAL_STATUS. -/
def execBalStatus (t m : Nat) (s : State) : Host.Outcome State Fault Refusal :=
  timed t (serve m Cmd.balStatus (statusHandler balStatus)) s

/-- A start index and a count of 1 to 64 within 512 cells: the offset of a bad field. -/
def cellRange64 (b : List Byte) : Option Nat :=
  if leAt b 2 1 = 0 ∨ 64 < leAt b 2 1 then some 2 else if 512 < leAt b 0 2 + leAt b 2 1 then some 0 else none

/-- BAL_TOTALS: microampere-seconds are reported in 0.001 Ah. -/
def execBalTotals (t m : Nat) (s : State) : Host.Outcome State Fault Refusal :=
  timed t (serve m Cmd.balTotals (withLength 3 (fun b s => match cellRange64 b with
    | some off => refuse (argReply Cmd.balTotals off) s
    | none => okWith (.fields [("totals", (List.range (leAt b 2 1)).flatMap (fun k =>
        let x := ctxOf s (leAt b 0 2 + k)
        [(codedTotal x.balDis : Int), (codedTotal x.balChg : Int)]))]) s))) s

/-- BAL_FORCE: the cell, the direction and the seconds, 1 to 600; the payload's layout is not given, so they are open fields of
it (notes/assumptions/10.md). -/
def balForceHandler (r : Request) (s : State) : Answer × State :=
  let f := Config.openField "BAL_FORCE" r.payload
  let off (k : Nat) : Nat := (Config.openField "BAL_FORCE offset" r.payload k).toNat
  if f 0 < 0 ∨ 511 < f 0 then refuse (argReply Cmd.balForce (off 0)) s
  else if f 1 < 0 ∨ 1 < f 1 then refuse (argReply Cmd.balForce (off 1)) s
  else if f 2 < 1 ∨ 600 < f 2 then refuse (argReply Cmd.balForce (off 2)) s
  else
    let c := (f 0).toNat
    ok (record Ev.balForced 1 [f 0, f 1, f 2]
      { s with rings.forced := s.rings.forced.filter (fun x => x.1 ≠ c) ++ [(c, f 1 == 1, s.now + sec (f 2).toNat)] })

/-- BAL_FORCE. -/
def execBalForce (t m : Nat) (s : State) : Host.Outcome State Fault Refusal := timed t (serve m Cmd.balForce balForceHandler) s

/-- BAL_FORCE_END of cell `c`: its time has passed (03 R104). -/
def execBalForceEnd (t c : Nat) (s : State) : Host.Outcome State Fault Refusal :=
  timed t (fun s =>
    if s.rings.forced.any (fun x => x.1 == c && decide (x.2.2 ≤ s.now)) then
      record Ev.balReleased 1 [c] { s with rings.forced := s.rings.forced.filter (fun x => !(x.1 == c && decide (x.2.2 ≤ s.now))) }
    else s) s

/-- BAL_RELEASE: every forced lease ends. -/
def execBalRelease (t m : Nat) (s : State) : Host.Outcome State Fault Refusal :=
  timed t (serve m Cmd.balRelease (withLength 0 (fun _ s => ok (record Ev.balReleased 1 [] { s with rings.forced := [] })))) s

end Sys2Proof.Machine
end

