-- ==== Sys2Proof/Machine/SetPoints.lean ====
section
/-!
DEFINITION. Machine/SetPoints.lean: set-points, their queue, the dispatch watchdog and dispatch status (08 R234 to R253).
-/

namespace Sys2Proof.Machine

open Sys2Proof

/-- A length of time in 2^-32 s. -/
def timeUnits (ns : Nat) : Int := (ns * 2 ^ 32 / 1000000000 : Nat)

/-- What an SP_SET asks (R237). -/
structure SpRequest where
  /-- KIND. -/
  kind : Nat
  /-- TIMED. -/
  timed : Bool
  /-- CLEAR_PENDING. -/
  clear : Bool
  /-- RATE with RATE_OVERRIDE. -/
  rate : Option Nat
  /-- VALUE. -/
  value : Int
  /-- APPLY_TIME. -/
  apply : Nat
  /-- Source bit of SP_SOURCES. -/
  src : Nat
  deriving DecidableEq, Repr

/-- Insert an entry in apply-time order; one of the same group and time is replaced (R242). -/
def insertPoint (p : SetPoint) : List SetPoint → List SetPoint
  | [] => [p]
  | q :: l =>
    if diff48 p.apply q.apply < 0 then p :: q :: l else q :: insertPoint p l

/-- The queue without an entry of the same group and apply time, compared on 48 bits (R242; 16 R464). -/
def withoutSame (p : SetPoint) (l : List SetPoint) : List SetPoint :=
  l.filter (fun q => !(low48 q.apply == low48 p.apply && inGroup (p.kind == 2) q))

/-- The trigger of the next queued apply time, which releases the entry to I6; none without one (R240; 16 R482). -/
def armNext (s : State) : State := match s.disp.queue with
  | p :: _ => registerOneShot 8 6 p.apply s
  | [] => { s with tim.trig := s.tim.trig.modify 8 (fun g => { g with on := false }) }

/-- An accepted SP_SET restarts the watchdog interval and clears WATCHDOG (R248). -/
def noteAccepted (s : State) : State :=
  { s with disp.watchdog := false, disp.watchAt := s.now, core.quietSince := s.now }

/-- The response payload: apply time in force, queue count, zeros (R237). -/
def spPayload (apply : Nat) (s : State) : Reply :=
  doneWith (.bytes (leBytes 8 apply ++ leBytes 1 s.disp.queue.length ++ [0, 0, 0]))

/-- A queued entry has been released to I6: its lead has fallen below SP_LEAD_MIN (R241, R243). -/
def released (s : State) (p : SetPoint) : Bool :=
  decide (diff48 p.apply (stampNow s) < timeUnits (us (prmN s Prm.spLeadMin)))

/-- What CLEAR_PENDING leaves of the queue: entries already released to I6 can no longer be removed (R237, R243). -/
def afterClear (s : State) : List SetPoint := s.disp.queue.filter (released s)

/-- Apply at once: it becomes the target at the next string-loop cycle (R240, R243). -/
def applyNow (q : SpRequest) (late : Bool) (s : State) : Reply × State :=
  let p : SetPoint := ⟨q.kind, q.value, q.rate, 0, q.src, late⟩
  let s := if q.clear then armNext { s with disp.queue := afterClear s } else s
  let s := if late then record Ev.lateApplied 3 [] s else s
  let s := noteAccepted { s with disp.imm := s.disp.imm ++ [p] }
  (spPayload 0 s, s)

/-- Queue a timed set-point; a seventeenth entry is refused (R242). -/
def enqueuePoint (q : SpRequest) (s : State) : Reply × State :=
  let p : SetPoint := ⟨q.kind, q.value, q.rate, q.apply, q.src, false⟩
  let l := withoutSame p (if q.clear then afterClear s else s.disp.queue)
  if 16 ≤ l.length then (causeReply .refusedGuard 0, s)
  else
    let s := armNext (noteAccepted { s with disp.queue := insertPoint p l })
    (spPayload q.apply s, s)

/-- Acceptance of a set-point whose fields are in range (R235, R237, R241 to R243). -/
def decidePoint (cmd : Nat) (q : SpRequest) (s : State) : Reply × State :=
  let a := diff48 q.apply (stampNow s)
  let lead := timeUnits (us (prmN s Prm.spLeadMin))
  let grace := timeUnits (us (prmN s Prm.spLateGrace))
  let linkBad := q.kind = 2 ∧ (q.value < prm s Prm.vlinkMin + 160 ∨ prm s Prm.vlinkMax - 160 < q.value)
  if linkBad then (argReply cmd 2, s)
  else if q.timed ∧ timeUnits (sec (prmN s Prm.spHorizon)) < a then (argReply cmd 8, s)
  else if stopped s 7 then (guardReply Ev.functionStopped, s)
  else if !bitOf (prmN s Prm.spSources) q.src then (causeReply .refusedGuard 0, s)
  else if !q.timed then applyNow q false s
  else if lead ≤ a then enqueuePoint q s
  else if 0 < grace ∧ -grace ≤ a then applyNow q true s
  else ({ status := .tooLate }, s)

/-- LAST_REJECT follows every refused SP_SET (R251). -/
def noteReject (p : Reply × State) : Reply × State :=
  if p.1.status == .done then p else (p.1, { p.2 with disp.lastReject := p.1.status })

/-- First field of an SP_SET payload that is reserved and set, unknown or out of range: its offset, and whether it is a
reserved field (R237, R238; a value of 0x8000 is no current, power or voltage, notes/assumptions/23.md). -/
def spBadField (p : List Byte) : Option (Nat × Bool) :=
  let kind := byteAt p 0
  let fl := byteAt p 1
  let rate := leAt p 4 2
  if 8 ≤ fl then some (1, true)
  else if leAt p 6 2 ≠ 0 then some (6, true)
  else if 2 < kind then some (0, false)
  else if leAt p 2 2 = 0x8000 then some (2, false)
  else if bitOf fl 2 ∧ (rate = 0 ∨ (if kind = 2 then 200 else 10240) < rate) then some (4, false)
  else none

/-- SP_SET's handler. -/
def spSetHandler (m : Nat) (r : Request) (s : State) : Answer × State :=
  let p := r.payload
  let out : Reply × State :=
    if p.length ≠ 16 then (lengthReply, s)
    else match spBadField p with
      | some (o, true) => (causeReply .badArgument Ev.reserved o, s)
      | some (o, false) => (argReply r.command o, s)
      | none =>
        let fl := byteAt p 1
        decidePoint r.command ⟨byteAt p 0, bitOf fl 0, bitOf fl 1, if bitOf fl 2 then some (leAt p 4 2) else none,
          signedOf 16 (leAt p 2 2), leAt p 8 8, m⟩ s
  let out := noteReject out
  (.ends out.1, out.2)

/-- SP_SET (R237). -/
def execSpSet (t : Nat) (m : Nat) (s : State) : Host.Outcome State Fault Refusal :=
  timed t (serve m Cmd.spSet (spSetHandler m)) s

/-- The entries whose apply time has come, and the rest. -/
def dueEntries (s : State) : List SetPoint × List SetPoint :=
  s.disp.queue.partition (fun p => decide (diff48 p.apply (stampNow s) ≤ 0))

/-- Take every due entry in apply-time order; the last of each group is its target; WATCHDOG clears (R242, R248). -/
def takeDue (s : State) : State :=
  let d := dueEntries s
  if d.1.isEmpty then s
  else armNext { eachDo d.1 takeTarget s with disp.queue := d.2, disp.watchdog := false, disp.watchAt := s.now }

/-- SETPOINT_APPLY (R240): the string-loop cycle at or after a queued apply time. -/
def execSetpointApply (t : Nat) (s : State) : Host.Outcome State Fault Refusal := timed t takeDue s

/-- DISPATCH_WATCHDOG (R248). -/
def execDispatchWatchdog (t : Nat) (s : State) : Host.Outcome State Fault Refusal :=
  timed t (fun s =>
    let w := prmN s Prm.spWatchdog
    if w = 0 || s.disp.watchdog || stopped s 7 || !heldFor s s.disp.watchAt (ms w) || s.core.mode == .shelf then s
    else record Ev.dispatchWatchdog 3 [prm s Prm.spFallback]
      { s with disp.target := ⟨0, prm s Prm.spFallback, none, 0, 9, false⟩, disp.watchdog := true, disp.imm :=
          s.disp.imm.filter (·.kind == 2) }) s

/-- SP_CANCEL's handler (R243): all zeros for every entry; an entry already released returns TOO_LATE and stays. -/
def spCancelHandler (r : Request) (s : State) : Answer × State :=
  if r.payload.length ≠ 8 then refuse lengthReply s
  else if stopped s 7 then refuse (guardReply Ev.functionStopped) s
  else
    let a := leAt r.payload 0 8
    let hit (p : SetPoint) : Bool := a == 0 || low48 p.apply == low48 a
    let s' := armNext { s with disp.queue := s.disp.queue.filter (fun p => !hit p || released s p) }
    if s.disp.queue.any (fun p => hit p && released s p) then answerWith { status := .tooLate } s' else ok s'

/-- SP_CANCEL. -/
def execSpCancel (t : Nat) (m : Nat) (s : State) : Host.Outcome State Fault Refusal :=
  timed t (serve m Cmd.spCancel spCancelHandler) s

/-- A set-point as numbers. -/
def pointInts (p : SetPoint) : List Int :=
  [(p.kind : Int), p.value, ((p.rate.getD 0 : Nat) : Int), (p.apply : Int), (p.src : Int)]

/-- SP_QUEUE_READ. -/
def execSpQueueRead (t : Nat) (m : Nat) (s : State) : Host.Outcome State Fault Refusal :=
  timed t (serve m Cmd.spQueueRead (statusHandler (fun s =>
    .fields (s.disp.queue.map (fun p => ("entry", pointInts p)))))) s

/-- The 44 bytes of DISPATCH_STATUS (R251). -/
def dispatchStatus (s : State) : List Byte :=
  leBytes 1 s.disp.target.kind ++ leBytes 1 s.ctrl.win ++ leBytes 2 (dispatchFlags s) ++ leInt 2 s.disp.target.value ++
  leInt 2 s.disp.targetI ++ leInt 2 (rampedLsb s) ++ leInt 2 s.ctrl.applied ++ leBytes 2 (codeS16 (stringCurrent s)) ++
  leInt 2 s.ctrl.ceil.1 ++ leInt 2 s.ctrl.ceil.2 ++ leBytes 2 (codeS16 (s.disp.link.map (·.value))) ++
  leBytes 2 (codeS16 (s.disp.vs.map (fun v => roundDiv v 10))) ++ leBytes 2 (codeS16 s.disp.vLnk) ++
  leBytes 1 s.disp.queue.length ++ leBytes 1 s.disp.lastReject.code ++ [0, 0] ++ leBytes 8 s.disp.target.apply ++
  leBytes 8 ((s.disp.queue.head?.map (·.apply)).getD 0)

/-- DISPATCH_STATUS (R251). -/
def execDispatchStatus (t : Nat) (m : Nat) (s : State) : Host.Outcome State Fault Refusal :=
  timed t (serve m Cmd.dispatchStatus (statusHandler (fun s => .bytes (dispatchStatus s)))) s

end Sys2Proof.Machine
end

