-- ==== Sys2Proof/Machine/SafetyFn.lean ====
section
/-!
DEFINITION. Machine/SafetyFn.lean: the safety functions SF1 to SF9, dual-channel inputs, twin-plane safety messages, seals
and safety sets (09 R254 to R298). Rows that report a level also report its return (notes/assumptions/25.md).
-/

namespace Sys2Proof.Machine

open Sys2Proof

/-! ## Demands and the ceiling -/

/-- A demand of a safety function: a trip whose cause is present; while the safety function is stopped it is recorded only
(R298). A cause already present is not tripped again. -/
def sfDemand (code : Nat) (f : Finder) (data : List Int) (s : State) : State :=
  if s.saf.present.contains code then s
  else if stopped s 8 then record code 3 data (notePresent code s)
  else tripHeld code f data s

/-- SAFETY_CEIL after a sweep check or a change (R270): 0 A under any demand. -/
def updateCeil (s : State) : State :=
  let top := prm s Prm.safeOcSlow - iRated s / 50
  if s.saf.spDemand || s.saf.domeDemand then { s with saf.ceilChg := 0, saf.ceilDis := 0 }
  else { s with saf.ceilChg := if s.saf.nearOv then 0 else max 0 top, saf.ceilDis := if s.saf.nearUv then 0 else max 0 top }

/-- A cause that is an event, not a state: it trips, and is recorded only while the safety function is stopped (R298). -/
def sfEvent (code : Nat) (f : Finder) (data : List Int) (s : State) : State :=
  if stopped s 8 then record code 3 data s else trip code f data s

/-- SP_SILENT (R255): no valid SP_DEMAND wave for 300 µs makes Dome demand. A wave that a demand of the safety processor has stopped
adds no cause: Dome follows that demand, opening the contactors where it does (DEDUCED, notes/assumptions/49.md). -/
def execSpSilent (t : Nat) (held : Nat) (s : State) : Host.Outcome State Fault Refusal :=
  timed t (fun s =>
    if held < us 300 || s.saf.domeDemand then s
    else if s.saf.spDemand then domeDemands s.saf.demandAt.isSome s
    else sfEvent Ev.spSilent .dome [] s) s

/-- DOME_FAULT (R255): no alive edge for 2 ms. -/
def execDomeFault (t : Nat) (held : Nat) (s : State) : Host.Outcome State Fault Refusal :=
  timed t (fun s => if ms 2 ≤ held then sfDemand Ev.domeFault .sp [] s else clearPresent Ev.domeFault s) s

/-- DOME_DEMAND (R255): the safety processor acts on Dome's demand as on its own, opening the contactors where Dome does. -/
def execDomeDemand (t : Nat) (s : State) : Host.Outcome State Fault Refusal :=
  timed t (fun s => if s.saf.domeDemand then spDemands s.saf.domeOpenAt.isSome s else s) s

/-! ## Staleness (R269) -/

/-- A fitted cell's newest valid sample is older than a time. -/
def anyStale (s : State) (d : Nat) : Bool :=
  (fittedCells s).any (fun c => match s.saf.newest.getD c none with
    | some m => decide (m + d < s.now)
    | none => true)

/-- The SF9 trigger: only of a module that serves the ring. -/
def sf9Trigger (s : State) : Bool :=
  !(pairMode s && !s.pair.token) && anyEnergised s &&
  (anyStale s (sec 2) ||
    ((decide (iRated s < 50 * s.saf.iNow) || bothFailed s) && anyStale s (ms 100)))

/-- SF9 demands while the trigger stands (R269). -/
def judgeStale (s : State) : State := if sf9Trigger s then sfDemand Ev.sf9 .sp [] s else clearPresent Ev.sf9 s

/-! ## The sweep check (R262, R263, R265, R270) -/

/-- A fitted cell's tested voltage, moved 2.7 mV toward the limit for a COMP sample (R263). -/
def testedVolt (s : State) (c : Nat) (up : Bool) : Option Int :=
  let x := cellOf s c
  x.v.map (fun v => if compBit x.nib then (if up then v + 27 else v - 27) else v)

/-- Some fitted cell's tested voltage meets a test. -/
def anyVolt (s : State) (up : Bool) (p : Int → Bool) : Bool :=
  (fittedCells s).any (fun c => ((testedVolt s c up).map p).getD false)

/-- SF4 temperature of a cell (R265). -/
def sf4Temp (s : State) (c : Nat) : Option Int := (tNearOf s.rings.temps c).1

/-- Newest valid sample's mark per cell, and since when its SF4 temperature is absent (R261, R269). -/
def noteCells (s : State) : State :=
  match s.rings.mark with
  | none => s
  | some (m, _) =>
    { s with
      saf.newest := (List.range 512).map (fun c =>
        if cellFitted s c && (cellOf s c).v.isSome then some m else s.saf.newest.getD c none),
      saf.tAbsent := (List.range 512).map (fun c =>
        if cellFitted s c && (sf4Temp s c).isNone then some ((s.saf.tAbsent.getD c none).getD m) else none) }

/-- A tap status bit of some fitted tap in the latest sweep (02 R61). -/
def anyStatus (s : State) (k : Nat) : Bool := s.rings.status.any (fun w => bitOf w k)

/-- The latest sweep was marked at or after an instant. -/
def markedSince (s : State) (a : Nat) : Bool := (s.rings.mark.map (fun m => decide (a ≤ m.1))).getD false

/-- A trip found by classification is latched and recorded as its own: in the first sweep marked after the loop opened (R262). -/
def classifyTrip (s : State) : State :=
  if !((s.saf.classify.map (markedSince s)).getD false) then s
  else
    let ov := anyStatus s 13
    let uv := anyStatus s 12
    let put (code n : Nat) (s : State) : State := record code 5 [] (latchSf n true (latchCode code s))
    let s := { s with saf.classify := none }
    if ov || uv then
      let s := { s with saf.latched := s.saf.latched.filter (· ≠ Ev.fltLoop) }
      let s := if ov then put Ev.sf1 1 s else s
      if uv then put Ev.sf2 2 s else s
    else record Ev.fltLoop 5 [] s

/-- THRESH_MISMATCH: a tap's applied threshold lies beyond the safety thresholds (R263). -/
def threshMismatch (s : State) : Bool :=
  (List.range 2).any (fun r => ((ringOf s r).pos.take (tapCount s r)).any (fun p => match p.applied with
    | some (ov, uv) => decide (prm s Prm.safeCellOv < (ov : Int) ∨ (uv : Int) < prm s Prm.safeCellUv)
    | none => false))

/-- The check of a delivered sweep: SF1, SF2, SF4, SF9, classification, thresholds, SAFETY_CEIL. -/
def sweepCheck (s : State) : State :=
  let s := noteCells s
  let ov := anyVolt s true (fun v => decide (prm s Prm.safeCellOv ≤ v))
  let uv := anyVolt s false (fun v => decide (v ≤ prm s Prm.safeCellUv))
  let hot := (fittedCells s).any (fun c => ((sf4Temp s c).map (fun v => decide (prm s Prm.safeCellTMax ≤ v))).getD false)
  let s := if ov then sfDemand Ev.sf1 .sp [] s else clearPresent Ev.sf1 s
  let s := if uv then sfDemand Ev.sf2 .sp [] s else clearPresent Ev.sf2 s
  let absent := (List.range 512).any (fun c => heldOpt s (s.saf.tAbsent.getD c none) (sec (prmN s Prm.safeTAbsentTime)))
  let s := if hot then sfDemand Ev.sf4 .sp [] s else if absent then s else clearPresent Ev.sf4 s
  let s := classifyTrip s
  let s := judgeStale s
  let tm := threshMismatch s
  let s := if tm && !s.saf.threshMismatch then record Ev.threshMismatch 3 [] s else s
  updateCeil { s with
    saf.threshMismatch := tm,
    saf.nearOv := anyVolt s true (fun v => decide (prm s Prm.safeCellOv - 200 ≤ v)),
    saf.nearUv := anyVolt s false (fun v => decide (v ≤ prm s Prm.safeCellUv + 200)) }

/-- SWEEP_CHECK (R263). -/
def execSweepCheck (t : Nat) (s : State) : Host.Outcome State Fault Refusal := timed t sweepCheck s

/-- FLT_LOOP_OPEN (R261, R262; 02 R66): fault-loop current in 0.1 mA and how long it has been so; the classification in the
next sweep makes the record. At 2 mA and above the loop reads closed. -/
def execFltLoopOpen (t : Nat) (loop ma held : Nat) (s : State) : Host.Outcome State Fault Refusal :=
  timed t (fun s =>
    if 2 ≤ loop then s
    else if ma < 20 then
      if held < us 40 || s.saf.fltOpen.getD loop false then s
      else
        let s := captureEdge (0x0C + loop) false (stampNow s) { s with saf.fltOpen := s.saf.fltOpen.set loop true, saf.classify := some s.now }
        if stopped s 8 then notePresent Ev.fltLoop s else tripCore Ev.fltLoop .dome (notePresent Ev.fltLoop s)
    else
      let was := s.saf.fltOpen.getD loop false
      let s := if was then captureEdge (0x0C + loop) true (stampNow s) s else s
      let s := { s with saf.fltOpen := s.saf.fltOpen.set loop false,
                        rings.ring := if was then s.rings.ring.modify loop (fun r => { r with loopClosedAt := s.now }) else s.rings.ring }
      if s.saf.fltOpen.all (! ·) then clearPresent Ev.fltLoop s else s) s

/-- FLT_SHORT (R262): above 6 mA for 100 ms. -/
def execFltShort (t : Nat) (loop ma held : Nat) (s : State) : Host.Outcome State Fault Refusal :=
  timed t (fun s =>
    if ma ≤ 60 then clearPresent Ev.fltShort s
    else if ms 100 ≤ held then sfDemand Ev.fltShort .dome [loop] s else s) s

/-- OC_FAST_TRIP (R261, R264): a Dome comparator has seen SAFE_OC_FAST for 10 µs; SF3. -/
def execOcFastTrip (t : Nat) (sensor : Nat) (i : Int) (held : Nat) (s : State) : Host.Outcome State Fault Refusal :=
  timed t (fun s =>
    if prm s Prm.safeOcFast ≤ (i.natAbs : Int) && us 10 ≤ held then sfEvent Ev.sf3 .dome [sensor, i] s else s) s

/-- OC_SLOW_TRIP (R261, R264): the 100 µs mean has been at SAFE_OC_SLOW for SAFE_OC_TIME; not while both sensors have failed. The time
then runs anew. -/
def execOcSlowTrip (t : Nat) (s : State) : Host.Outcome State Fault Refusal :=
  timed t (fun s =>
    if heldOpt s s.saf.ocSince (ms (prmN s Prm.safeOcTime)) && !bothFailed s then
      sfEvent Ev.sf3 .sp [s.saf.iNow] { s with saf.ocSince := none }
    else s) s

/-- SF4_T_ABSENT (R261): a fitted cell's temperature has been absent for SAFE_T_ABSENT_TIME. -/
def execSf4TAbsent (t : Nat) (c : Nat) (s : State) : Host.Outcome State Fault Refusal :=
  timed t (fun s =>
    if cellFitted s c && heldOpt s (s.saf.tAbsent.getD c none) (sec (prmN s Prm.safeTAbsentTime)) then
      sfDemand Ev.sf4 .sp [c] s
    else s) s

/-! ## Dual-channel inputs (R275 to R280) -/

/-- Input i, from 0. -/
def siOf (s : State) (i : Nat) : SiInput := s.saf.si.getD i {}

/-- Change an input. -/
def setSi (i : Nat) (g : SiInput → SiInput) (s : State) : State := { s with saf.si := s.saf.si.modify i g }

/-- One channel: a, or b. -/
def SiInput.chan (x : SiInput) (b : Bool) : SiChannel := if b then x.b else x.a

/-- Change one channel. -/
def SiInput.setChan (b : Bool) (g : SiChannel → SiChannel) (x : SiInput) : SiInput :=
  if b then { x with b := g x.b } else { x with a := g x.a }

/-- SI_CONFIG: input antivalent. -/
def siAntivalent (s : State) (i : Nat) : Bool := bitOf (prmN s Prm.siConfig) i

/-- SI_CONFIG: test pulses expected. -/
def siPulses (s : State) (i : Nat) : Bool := bitOf (prmN s Prm.siConfig) (4 + i)

/-- SI_CONFIG: input evaluated; SI1 and SI2 always (R296). -/
def siEnabled (s : State) (i : Nat) : Bool := i < 2 || bitOf (prmN s Prm.siConfig) (6 + i)

/-- The level at which a channel demands (R275). -/
def demandLevel (s : State) (i : Nat) (b : Bool) : Bool := b && siAntivalent s i

/-- The safety function of an input: SI1 SF5, SI2 SF6, SI3 SF7, SI4 SF8 (R261). -/
def sfOfInput (i : Nat) : Nat := Ev.sf5 + i

/-- Demand of an input's safety function (R266 to R268): SF6 with contactors open and converter off only blocks Connect, SF8
runs its delay first. -/
def inputDemand (i stamp src : Nat) (s : State) : State :=
  let code := sfOfInput i
  let go (s : State) : State :=
    if s.saf.present.contains code then s
    else if stopped s 8 then record code 3 [] (notePresent code s)
    else tripEdge src stamp code .both [] s
  if i = 1 && (s.core.mode == .service || (!contactorsClosed s && !switching s)) then
    if s.saf.sf6Block then s else record Ev.sf6Block 3 [] { s with saf.sf6Block := true }
  else if i = 3 && 0 < prmN s Prm.sf8Delay then
    if s.saf.sf8.isSome || s.saf.present.contains code then s
    else { s with saf.sf8 := some (s.now, s.saf.iNow) }
  else go s

/-- The acknowledgement input (R272, R296): 0 SI1, 1 SI2. -/
def ackInput (s : State) : Nat := if bitOf (prmN s Prm.ackConfig) 15 then 0 else 1

/-- Trip causes that are present and count for an acknowledgement: not TRIP-IN, which the module's own open TRIP-OUT may hold open and
which a reset treats last (R272; 10 R320; DEDUCED, notes/assumptions/49.md). -/
def openCauses (s : State) : List Nat := s.saf.present.filter (· ≠ Ev.tripInOpen)

/-- Every trip cause but the acknowledgement input's own demand has cleared (R272). -/
def causesClear (s : State) : Bool := (openCauses s).all (· == sfOfInput (ackInput s))

/-- Discrepancy timing after a change of a channel (R279). -/
def timeDiscrepancy (now : Nat) (x : SiInput) : SiInput :=
  { x with discSince := if x.a.demand == x.b.demand then none else some (x.discSince.getD now),
           bothDemanded := x.bothDemanded || (x.a.demand && x.b.demand) }

/-- A channel demands: its input's function acts on the first channel (R276). -/
def channelDemand (i : Nat) (b : Bool) (stamp : Nat) (s : State) : State :=
  let src := 2 * i + (if b then 1 else 0)
  let s := setSi i (fun x => timeDiscrepancy s.now (x.setChan b (fun c => { c with demand := true }))) s
  let s := inputDemand i stamp src s
  let x := siOf s i
  if i = ackInput s && x.a.demand && x.b.demand && causesClear s then { s with saf.ackDemanded := true } else s

/-- SI_CHANNEL_DEMAND (R276): the channel has been at its demand level for 1 ms. -/
def execSiChannelDemand (t : Nat) (i : Nat) (b : Bool) (held : Nat) (s : State) : Host.Outcome State Fault Refusal :=
  timed t (fun s =>
    if 4 ≤ i || !siEnabled s i || held < ms 1 || ((siOf s i).chan b).demand then s
    else
      let lvl := demandLevel s i b
      let stamp := stampAt s (s.now - held)
      let s := captureEdge (2 * i + (if b then 1 else 0)) lvl stamp s
      channelDemand i b stamp (setSi i (fun x => x.setChan b (fun c => { c with high := lvl })) s)) s

/-- Both channels of an input have released: a fault whose both channels have demanded resets (R280), the function's demand is
gone, and a local acknowledgement takes its release (R272). -/
def inputReleased (i : Nat) (s : State) : State :=
  let x := siOf s i
  let s := setSi i (fun x => { x with
    disc := x.disc && !x.bothDemanded, bothDemanded := false,
    a := { x.a with wiring := x.a.wiring && !x.bothDemanded, stuck := if x.bothDemanded then 0 else x.a.stuck },
    b := { x.b with wiring := x.b.wiring && !x.bothDemanded, stuck := if x.bothDemanded then 0 else x.b.stuck } }) s
  let s := clearPresent (sfOfInput i) s
  let s := if i = 1 then { s with saf.sf6Block := false } else s
  if i = ackInput s && s.saf.ackDemanded && (openCauses s).isEmpty && x.bothDemanded then
    { s with saf.ackAt := some s.now, saf.ackDemanded := false }
  else s

/-- SI_CHANNEL_RELEASE (R276): out of the demand state for 10 ms; a WIRING_FAULT holds the demand until both channels have
demanded (R278, R280). -/
def execSiChannelRelease (t : Nat) (i : Nat) (b : Bool) (held : Nat) (s : State) : Host.Outcome State Fault Refusal :=
  timed t (fun s =>
    let x := siOf s i
    if 4 ≤ i || !siEnabled s i || held < ms 10 || !(x.chan b).demand || ((x.chan b).wiring && !x.bothDemanded) then s
    else
      let lvl := !demandLevel s i b
      let s := captureEdge (2 * i + (if b then 1 else 0)) lvl (stampAt s (s.now - held)) s
      let s := setSi i (fun x => timeDiscrepancy s.now (x.setChan b (fun c => { c with demand := false, high := lvl }))) s
      let x := siOf s i
      if !x.a.demand && !x.b.demand then inputReleased i s else s) s

/-- SI_DISCREPANCY (R279): never before SI_DISC_TIME - 1 ms. -/
def execSiDiscrepancy (t : Nat) (i : Nat) (s : State) : Host.Outcome State Fault Refusal :=
  timed t (fun s =>
    let x := siOf s i
    match x.discSince with
    | some t0 =>
      if i < 4 && !x.disc && t0 + ms (prmN s Prm.siDiscTime - 1) ≤ s.now then
        record (Ev.si1Discrepancy + i) 3 [] (setSi i (fun x => { x with disc := true, bothDemanded := false }) s)
      else s
    | none => s) s

/-- WIRING_FAULT of a channel: a latched demand (R278). -/
def wiringFault (i : Nat) (b : Bool) (s : State) : State :=
  if ((siOf s i).chan b).wiring then s
  else
    let s := setSi i (fun x => { x.setChan b (fun c => { c with wiring := true, wiringCount := (c.wiringCount + 1) % 2 ^ 32,
                                                                pulseOk := some false }) with bothDemanded := false }) s
    channelDemand i b (stampNow s) (record Ev.wiringFault 3 [i, flag b] s)

/-- The pulse check of one channel: `own` is its own TP output's pulse, `low` whether it fell low in it (R277, R278). -/
def pulseCheck (i : Nat) (b own low : Bool) (s : State) : State :=
  let c := (siOf s i).chan b
  if !siEnabled s i || !siPulses s i || !c.high || c.demand then s
  else if !own then (if low then wiringFault i b s else s)
  else if low then setSi i (fun x => x.setChan b (fun c => { c with stuck := 0, pulseOk := some true })) s
  else
    let s := setSi i (fun x => x.setChan b (fun c => { c with stuck := c.stuck + 1, pulseOk := some false })) s
    if 2 ≤ c.stuck + 1 then wiringFault i b s else s

/-- TP_PULSE (R277, R278): TP1 (0) or TP2 (1) pulses; the levels SI1a, SI1b to SI4b fell to, true low. No pulse runs in Shelf, below
the coil supply's range or while the safety processor is held in reset. A pair standby drives none: its check follows the pulses it
sees (14 R404). -/
def execTpPulse (t : Nat) (tp : Nat) (low : List Bool) (s : State) : Host.Outcome State Fault Refusal :=
  timed t (fun s =>
    if 2 ≤ tp || s.core.mode == .shelf || s.con.supplyLow || s.thm.held then s
    else
      let s := if s.pair.standby then s else emit (.pulse (if tp = 0 then "TP1" else "TP2") (us 200)) s
      eachDo (List.range 8) (fun k => pulseCheck (k / 2) (k % 2 = 1) (k % 2 = tp) (low.getD k false)) s) s

/-- TRIP_IN_OPEN (R266; 10 R319): loop current in 0.1 mA below 2 mA for 1 ms; at 2 mA and above it reads closed. -/
def execTripInOpen (t : Nat) (ma held : Nat) (s : State) : Host.Outcome State Fault Refusal :=
  timed t (fun s =>
    if 20 ≤ ma then
      let s := if s.saf.tripInOpen then captureEdge 0x0E true (stampNow s) s else s
      clearPresent Ev.tripInOpen { s with saf.tripInOpen := false }
    else if held < ms 1 || s.saf.tripInOpen then s
    else
      let stamp := stampAt s (s.now - held)
      let s := captureEdge 0x0E false stamp { s with saf.tripInOpen := true }
      if stopped s 8 then record Ev.tripInOpen 3 [] (notePresent Ev.tripInOpen s)
      else tripEdge 0x0E stamp Ev.tripInOpen .both [] s) s

/-- SF8_DELAY_END (R268): the safe state follows, also where the input has released in the meantime. -/
def execSf8DelayEnd (t : Nat) (s : State) : Host.Outcome State Fault Refusal :=
  timed t (fun s => match s.saf.sf8 with
    | some (t0, _) =>
      if s.now < t0 + sec (prmN s Prm.sf8Delay) then s
      else
        let s := { s with saf.sf8 := none }
        if (siOf s 3).a.demand || (siOf s 3).b.demand then sfDemand Ev.sf8 .both [] s else sfEvent Ev.sf8 .both [] s
    | none => s) s

/-! ## Staleness at least every 1 ms (R269) -/

/-- SF9_STALE (R269): tested at least every 1 ms. -/
def execSf9Stale (t : Nat) (s : State) : Host.Outcome State Fault Refusal := timed t judgeStale s

/-! ## The opening in the safe state (R259; 10 R315) -/

/-- Where the 50 ms of an opening count from: the demand, or gates off in an orderly opening (10 R316). -/
def openingFrom (s : State) : Option Nat := match s.saf.demandAt with
  | some a => some a
  | none => match s.con.opening with
    | some j => if j.gatesOff then some j.gatesAt else none
    | none => none

/-- The current the safety processor reads is below 2 % of I_RATED (R259). -/
def currentLow (s : State) : Bool := !bothFailed s && decide (50 * s.saf.iNow < iRated s)

/-- SAFE_STATE_OPEN (R259; 10 R315): K3, K4 and K1 together, once the current is below 2 % or 50 ms have passed. -/
def execSafeStateOpen (t : Nat) (s : State) : Host.Outcome State Fault Refusal :=
  timed t (fun s => match openingFrom s with
    | some a =>
      if !s.saf.spOpened && (currentLow s || a + ms 50 ≤ s.now) then
        { openCoil 0 (openCoil 3 (openCoil 2 s)) with saf.spOpened := true, saf.spOpenedAt := s.now }
      else s
    | none => s) s

/-- Every KF input that is checked reads open (10 R310: KF4 is not checked with K4_ORDER 2). -/
def kfAllOpen (s : State) : Bool := (List.range 4).all (fun n => !(coil s n).kf || (n = 3 && prm s Prm.k4Order = 2))

/-- An orderly opening that has de-energised every output and reads every KF open ends in Watch (10 R316). -/
def endOpening (s : State) : State := match s.con.opening with
  | some j =>
    if j.gatesOff && !anyEnergised s && kfAllOpen s && s.saf.demandAt.isNone then
      let s := { s with con.opening := none, disp.ending := 0, saf.spOpened := false }
      let s := setMode .watch j.cause s
      finishJob j.mb Cmd.disconnect doneReply s
    else s
  | none => s

/-- K2_ORDER_GAP (10 R315): K_ORDER_GAP after the first openings, never later than 50 ms after the demand. -/
def execK2OrderGap (t : Nat) (s : State) : Host.Outcome State Fault Refusal :=
  timed t (fun s => match openingFrom s with
    | some a =>
      if s.saf.spOpened && (s.saf.spOpenedAt + ms (prmN s Prm.kOrderGap) ≤ s.now || a + ms 50 ≤ s.now) then
        endOpening (openCoil 1 s)
      else s
    | none => s) s

/-- DOME_OPEN (R259): from 48 ms after its demand Dome opens its low-side switches, without regard to current. -/
def execDomeOpen (t : Nat) (s : State) : Host.Outcome State Fault Refusal :=
  timed t (fun s => if s.saf.domeDemand && heldOpt s s.saf.domeOpenAt (ms 48) then domeOpens s else s) s

/-! ## Twin-plane safety messages (R281 to R286) -/

/-- A message's fixed fields: it is well formed with a passing CRC (R281). -/
def messageFormed (b : List Byte) : Bool :=
  let n := leAt b 6 2
  28 ≤ b.length && n ≤ 32 && b.length = 28 + n && byteAt b 0 = 1 && crc32 (b.take (24 + n)) == leAt b (24 + n) 4

/-- It is addressed to this module and comes from a sender accepted for its type (R282). -/
def messageFor (s : State) (b : List Byte) : Bool :=
  let src := leAt b 2 2
  let dst := leAt b 4 2
  (dst = 0xFFFF || dst = s.fab.node || (dst = prmN s Prm.stringAddr && dst ≠ 0)) &&
  (if byteAt b 1 = 4 then pairMode s && src = partnerNode s && src ≠ 0
   else 1 ≤ byteAt b 1 && byteAt b 1 ≤ 3 && (masters s).contains src)

/-- TIME lies from 1 ms in the future to SAFE_MSG_AGE in the past (R282). -/
def messageTimely (s : State) (b : List Byte) : Bool :=
  let d := diff48 (leAt b 12 8) (stampNow s)
  decide (d ≤ timeUnits (ms 1)) && decide (-timeUnits (ms (prmN s Prm.safeMsgAge)) ≤ d)

/-- What the sequence tests say: none fails them, some true is a restarted sender (R282). -/
def sequenceTest (s : State) (src seq time : Nat) : Option Bool :=
  match s.saf.refs.find? (fun r => r.1 = src) with
  | none => some false
  | some (_, q, tm) =>
    let d := (seq + 2 ^ 32 - q % 2 ^ 32) % 2 ^ 32
    if 1 ≤ d && d < 2 ^ 31 then some false
    else if timeUnits (ms (prmN s Prm.safeMsgAge)) < diff48 time tm then some true
    else none

/-- Accept a message: the sender's reference, the watchdog, the marks of the record (R282, R284, R285). -/
def acceptMessage (b : List Byte) (restarted : Bool) (s : State) : State :=
  let src := leAt b 2 2
  let s := { s with saf.refs := (s.saf.refs.filter (fun r => r.1 ≠ src)) ++ [(src, leAt b 8 4, leAt b 12 8)] }
  let s := if restarted then record Ev.safeMasterRestart 3 [src] s else s
  let s := if s.saf.singlePlane.isSome then record Ev.singlePlane 1 [src, leAt b 8 4] s else s
  if byteAt b 1 = 4 then s else clearPresent Ev.safeLinkLost { s with saf.watchAt := s.now }

/-- A copy arrives on a plane (0 A, 1 B): the state after it, and whether the message is accepted now. One that is not valid counts as
SAFE_MSG_STALE; with one plane out only the other's copies count (R282, R283, R285). -/
def takeCopy (plane : Nat) (b : List Byte) (s : State) : State × Bool :=
  let src := leAt b 2 2
  let seq := leAt b 8 4
  if s.core.mode == .shelf || s.thm.held then (s, false)
  else if !messageFormed b then ({ s with saf.stale := s.saf.stale + 1 }, false)
  else if !messageFor s b then (s, false)
  else if !messageTimely s b then ({ s with saf.stale := s.saf.stale + 1 }, false)
  else match sequenceTest s src seq (leAt b 12 8) with
    | none => ({ s with saf.stale := s.saf.stale + 1 }, false)
    | some restarted =>
      if s.saf.singlePlane.isSome then
        if s.saf.singlePlane == some plane then (s, false) else (acceptMessage b restarted s, true)
      else
        let same (c : SafeCopy) : Bool := c.src = src && c.seq = seq
        match s.saf.copies.find? (fun c => same c && c.plane ≠ plane && s.now ≤ c.at_ + ms 2) with
        | some c =>
          let s := { s with saf.copies := s.saf.copies.filter (fun c => !same c) }
          if c.bytes = b then (acceptMessage b restarted s, true)
          else (record Ev.safeMsgMismatch 3 [src, seq] { s with saf.mismatch := s.saf.mismatch + 1 }, false)
        | none =>
          if s.saf.copies.any (fun c => same c && c.plane = plane) then (s, false)
          else ({ s with saf.copies := s.saf.copies ++ [⟨plane, src, seq, b, s.now⟩] }, false)

/-- A safety message of one type: act when it is accepted. -/
def onMessage (type plane : Nat) (b : List Byte) (act : State → State) (s : State) : State :=
  if byteAt b 1 ≠ type then s
  else
    let p := takeCopy plane b s
    if p.2 then act p.1 else p.1

/-- PLANT_STOP (R266): scope 0 all strings, 1 the addressed string only. -/
def execPlantStop (t : Nat) (plane : Nat) (b : List Byte) (s : State) : Host.Outcome State Fault Refusal :=
  timed t (onMessage 1 plane b (fun s =>
    let src := leAt b 2 2
    if byteAt b 24 = 1 && leAt b 4 2 = 0xFFFF then s
    else
      let s := { s with saf.plantStop := if s.saf.plantStop.contains src then s.saf.plantStop else s.saf.plantStop ++ [src] }
      sfDemand Ev.plantStop .sp [src, leAt b 25 2] s)) s

/-- PLANT_STOP_RELEASE (R266): by the same master. -/
def execPlantStopRelease (t : Nat) (plane : Nat) (b : List Byte) (s : State) : Host.Outcome State Fault Refusal :=
  timed t (onMessage 2 plane b (fun s =>
    let l := s.saf.plantStop.filter (· ≠ leAt b 2 2)
    let s := { s with saf.plantStop := l }
    if l.isEmpty then clearPresent Ev.plantStop s else s)) s

/-- SAFETY_KEEPALIVE (R284): acceptance alone restarts the watchdog. -/
def execSafetyKeepalive (t : Nat) (plane : Nat) (b : List Byte) (s : State) : Host.Outcome State Fault Refusal :=
  timed t (onMessage 3 plane b id) s

/-- TRIP_NOTICE (R260, R286): from the partner over both planes, or over PAIR (2), which carries one copy (14 R407). A cause that lies
inside the partner is no fault of the string. -/
def execTripNotice (t : Nat) (plane : Nat) (b : List Byte) (s : State) : Host.Outcome State Fault Refusal :=
  timed t (fun s =>
    let act (s : State) : State :=
      if s.core.mode == .tripped || insideCause (leAt b 26 2) then s else sfEvent Ev.tripNotice .sp [leAt b 24 2, leAt b 26 2] s
    if plane = 2 then
      if s.core.mode != .shelf && !s.thm.held && byteAt b 1 = 4 && messageFormed b && messageFor s b && messageTimely s b then
        match sequenceTest s (leAt b 2 2) (leAt b 8 4) (leAt b 12 8) with
        | some r => act (acceptMessage b r s)
        | none => s
      else s
    else onMessage 4 plane b act s) s

/-- SAFE_MSG_ORPHAN (R283): no partner copy after 2 ms. -/
def execSafeMsgOrphan (t : Nat) (src seq : Nat) (s : State) : Host.Outcome State Fault Refusal :=
  timed t (fun s =>
    let old := s.saf.copies.filter (fun c => c.src = src && c.seq = seq && c.at_ + ms 2 < s.now)
    if old.isEmpty then s
    else { s with saf.copies := s.saf.copies.filter (fun c => !old.contains c), saf.orphan := s.saf.orphan + old.length }) s

/-- The safety message watchdog in ns, half of it with one plane (R285); 0 is off. -/
def watchdogNs (s : State) : Nat :=
  let w := ms (prmN s Prm.safeMsgWatchdog)
  if s.saf.singlePlane.isSome then w / 2 else w

/-- The watchdog has expired. -/
def linkLost (s : State) : Bool := watchdogNs s ≠ 0 && decide (s.saf.watchAt + watchdogNs s ≤ s.now)

/-- SAFE_LINK_LOST (R284). -/
def execSafeLinkLost (t : Nat) (s : State) : Host.Outcome State Fault Refusal :=
  timed t (fun s => if linkLost s then sfDemand Ev.safeLinkLost .sp [] s else s) s

/-- SINGLE_PLANE (R285): one plane has been declared failed for 1 s. -/
def execSinglePlane (t : Nat) (p : Nat) (s : State) : Host.Outcome State Fault Refusal :=
  timed t (fun s =>
    if p < 2 && s.saf.singlePlane.isNone && (planeOf s p).failed && !(planeOf s (1 - p)).failed &&
        heldFor s (planeOf s p).declaredAt (sec 1) then
      record Ev.singlePlane 3 [p] { s with saf.singlePlane := some p }
    else s) s

/-- MATCHED_COPY_RETURN (R285): 1 s after the plane is declared up again. -/
def execMatchedCopyReturn (t : Nat) (s : State) : Host.Outcome State Fault Refusal :=
  timed t (fun s => match s.saf.singlePlane with
    | some p =>
      if !(planeOf s p).failed && heldFor s (planeOf s p).declaredAt (sec 1) then { s with saf.singlePlane := none } else s
    | none => s) s

/-! ## Seals and sets (R287 to R292) -/

/-- SEAL_CHANGED (R288): switch n from 0 takes a position; SS5 and SS6 act at once and are recorded. -/
def execSealChanged (t : Nat) (n : Nat) (on : Bool) (s : State) : Host.Outcome State Fault Refusal :=
  timed t (fun s =>
    if 8 ≤ n || s.saf.sealsNow.getLsbD n == on then s
    else
      let m := BitVec.ofNat 8 (2 ^ n)
      let s := { s with saf.sealsNow := if on then s.saf.sealsNow ||| m else s.saf.sealsNow &&& ~~~ m }
      if n = 4 then record Ev.ss5 1 [flag on] s
      else if n = 5 then record Ev.ss6 1 [flag on] s
      else record Ev.sealChanged 6 [n + 1, flag on] { s with saf.sealChanged := true }) s

/-- A stored set. -/
def setOf (s : State) (k : Nat) : SafetySet := s.saf.sets.getD k {}

/-- The 60 bytes of a set's values (R289). -/
def setBytes (vals : List Int) : List Byte := vals.flatMap (leInt 4)

/-- The stored CRC of a set; one that does not match its values is a value the spec does not state. -/
def setCrc (x : SafetySet) : Nat :=
  if x.crcBad then (crc32 (setBytes x.vals) + 1) % 2 ^ 32 else crc32 (setBytes x.vals)

/-- SAFE_SET_READ (R297). -/
def execSafeSetRead (t : Nat) (m : Nat) (s : State) : Host.Outcome State Fault Refusal :=
  timed t (serve m Cmd.safeSetRead (fun r => withLength 1 (fun p s =>
    if 15 < byteAt p 0 then refuse (argReply r.command 0) s
    else
      let x := setOf s (byteAt p 0)
      okWith (.fields [("values", x.vals), ("CRC", [setCrc x]), ("confirmed", [flag x.confirmed])]) s) r)) s

/-- SAFE_SET_CONFIRM (R292). -/
def execSafeSetConfirm (t : Nat) (m : Nat) (s : State) : Host.Outcome State Fault Refusal :=
  timed t (serve m Cmd.safeSetConfirm (fun r => withLength 5 (fun p s =>
    let k := byteAt p 0
    if 15 < k then refuse (argReply r.command 0) s
    else if leAt p 1 4 ≠ setCrc (setOf s k) then refuse (argReply r.command 1) s
    else ok { s with saf.sets := s.saf.sets.modify k (fun x => { x with confirmed := true }) }) r)) s

/-! ## Status and reset (R271 to R274, R297) -/

/-- SAFE_STATUS fields. -/
def safeStatus (s : State) : Payload :=
  .fields ([("SF", s.saf.sf.map (fun f => flag (f.latchedSp || f.latchedDome))),
    ("SF by channel", s.saf.sf.flatMap (fun f => [flag f.latchedSp, flag f.latchedDome])),
    ("not provided", [flag (!siEnabled s 2), flag (!siEnabled s 3)]),
    ("demands", s.saf.present.map (fun (c : Nat) => (c : Int)))] ++
    s.saf.si.flatMap (fun x => [x.a, x.b].map (fun c => ("SI", [flag c.high, flag c.demand, flag c.wiring] ++
      optInts (c.pulseOk.map flag)))) ++
    s.saf.si.map (fun x => ("discrepancy", optNat (x.discSince.map (fun a => (s.now - a) / 1000000)) ++ [flag x.disc])) ++
    [("seals", [(s.saf.sealsNow.toNat : Int), s.core.seals.toNat]),
     ("set", [(s.saf.selected : Int), setCrc (setOf s s.saf.selected), flag (setOf s s.saf.selected).confirmed]),
     ("planes", optNat s.saf.singlePlane),
     ("watchdog", [((s.saf.watchAt + watchdogNs s - s.now : Nat) : Int)])])

/-- SAFE_STATUS. -/
def execSafeStatus (t : Nat) (m : Nat) (s : State) : Host.Outcome State Fault Refusal :=
  timed t (serve m Cmd.safeStatus (statusHandler safeStatus)) s

/-- SAFE_COUNTERS. -/
def execSafeCounters (t : Nat) (m : Nat) (s : State) : Host.Outcome State Fault Refusal :=
  timed t (serve m Cmd.safeCounters (statusHandler (fun s =>
    .fields ([("trips 24 h", s.saf.sf.map (fun f => ((within s (sec 86400) f.trips24h).length : Int))),
      ("trips", s.saf.sf.map (fun f => (f.tripsBoot : Int))),
      ("messages", [(s.saf.stale : Int), s.saf.mismatch, s.saf.orphan]),
      ("WIRING_FAULT", s.saf.si.flatMap (fun x => [(x.a.wiringCount : Int), x.b.wiringCount]))])))) s

/-- The demand of an input: the code CONNECT and SAFE_RESET name (R271, R274). -/
def inputBlock (s : State) : Option Nat :=
  match (List.range 4).find? (fun i => siEnabled s i && ((siOf s i).a.demand || (siOf s i).b.demand)) with
  | some i => some (if i = 1 then Ev.sf6Block else sfOfInput i)
  | none => none

/-- A latched input fault (R271, R274). -/
def inputFault (s : State) : Option Nat :=
  match (List.range 4).find? (fun i => (siOf s i).disc) with
  | some i => some (Ev.si1Discrepancy + i)
  | none => if s.saf.si.any (fun x => x.a.wiring || x.b.wiring) then some Ev.wiringFault else none

/-- A latched function's code needs a local acknowledgement (R273). -/
def ackNeeded (s : State) : Option Nat :=
  let lat (n : Nat) : SfRec := s.saf.sf.getD (n - 1) {}
  let on (n : Nat) : Bool := (lat n).latchedSp || (lat n).latchedDome
  let need (n : Nat) : Bool := on n && (n = 7 || (n = 3 && (lat n).byDome) || bitOf (prmN s Prm.ackConfig) (n - 1) ||
    3 ≤ (within s (sec 86400) (lat n).trips24h).length)
  match (List.range 10).find? (fun n => 1 ≤ n && need n) with
  | some n => some (0x0800 + n)
  | none => s.saf.latched.find? (fun c => c = Ev.domeFault || c = Ev.safeSetCrc)

/-- A local acknowledgement stands (R272). -/
def ackGiven (s : State) : Bool := (s.saf.ackAt.map (fun a => decide (s.now < a + sec 600))).getD false

/-- First blocking cause of a reset but TRIP-IN's (R271 to R273; 10 R320). -/
def resetBlock (s : State) : Option Nat :=
  match s.saf.present.find? (· ≠ Ev.tripInOpen) with
  | some c => some c
  | none => match inputFault s with
    | some c => some c
    | none => match inputBlock s with
      | some c => some c
      | none => if linkLost s then some Ev.safeLinkLost
        else match ackNeeded s with
          | some c => if ackGiven s then none else some c
          | none => none

/-- The reset (R271): latches and demands end in both channels, the outputs are released, Watch. -/
def doReset (s : State) : State :=
  let s := { s with
    saf.latched := [], saf.present := s.saf.present.filter (· == Ev.tripInOpen),
    saf.sf := s.saf.sf.map (fun f => { f with latchedSp := false, latchedDome := false, byDome := false }),
    saf.spDemand := false, saf.domeDemand := false, saf.demandAt := none, saf.domeOpenAt := none, saf.spOpened := false, saf.ackAt := none, saf.ackDemanded := false, saf.recheck := none,
    saf.tripOutSp := true, saf.tripOutDome := true, pair.outOfRounds := false, pair.relinquish := false }
  setMode .watch Ev.safeReset (updateCeil (record Ev.safeReset 1 [] (releaseGates s)))

/-- TRIP-OUT is closed (10 R319). -/
def tripOutClosed (s : State) : Bool := s.saf.tripOutSp && s.saf.tripOutDome

/-- SAFE_RESET's handler: TRIP-IN last, 20 ms after TRIP-OUT closes (10 R320). -/
def safeResetHandler (m : Nat) : Request → State → Answer × State :=
  withLength 0 (fun _ s => match resetBlock s with
    | some c => refuse (guardReply c) s
    | none =>
      if s.saf.recheck.isSome then refuse (guardReply Ev.functionBusy) s
      else if tripOutClosed s && !s.saf.tripInOpen && !s.saf.latched.contains Ev.tripInOpen then ok (doReset s)
      else (.goesOn, { s with saf.tripOutSp := true, saf.tripOutDome := true, saf.recheck := some (s.now, m) }))

/-- SAFE_RESET (R271). -/
def execSafeReset (t : Nat) (m : Nat) (s : State) : Host.Outcome State Fault Refusal :=
  timed t (serve m Cmd.safeReset (safeResetHandler m)) s

/-- TRIP_IN_RECHECK (10 R320): TRIP-IN is read 20 ms after TRIP-OUT closed; a new demand in between refuses the reset (R295). -/
def execTripInRecheck (t : Nat) (s : State) : Host.Outcome State Fault Refusal :=
  timed t (fun s => match s.saf.recheck with
    | some (t0, m) =>
      if s.now < t0 + ms 20 then s
      else
        let s := { s with saf.recheck := none }
        match resetBlock s with
        | some c => finishJob (some m) Cmd.safeReset (guardReply c) s
        | none =>
          if s.saf.tripInOpen then finishJob (some m) Cmd.safeReset (guardReply Ev.tripInOpen) s
          else finishJob (some m) Cmd.safeReset doneReply (doReset s)
    | none => s) s

/-- LOCAL_ACK_EXPIRY (R272): 10 minutes after its release. -/
def execLocalAckExpiry (t : Nat) (s : State) : Host.Outcome State Fault Refusal :=
  timed t (fun s => if heldOpt s s.saf.ackAt (sec 600) then { s with saf.ackAt := none } else s) s

end Sys2Proof.Machine
end

