-- ==== Sys2Proof/Machine/Contactors.lean ====
section
/-!
DEFINITION. Machine/Contactors.lean: coil outputs, auxiliary feedback, output tests, Connect, precharge and the orderly opening
(10 R299 to R323, R569).
-/

namespace Sys2Proof.Machine

open Sys2Proof

/-! ## The precharge resistor model (R311 to R314) -/

/-- τ = PRE_RES × PRE_CAP in ns (R311). -/
def preTau (s : State) : Nat := us (prmN s Prm.preRes * prmN s Prm.preCap)

/-- E in microjoules decayed to an instant at or after the one at which it stood (R313). -/
def energyAt (s : State) (t : Nat) : Nat :=
  (qmul s.con.energy (qexpNeg (qOf ((t - s.con.eAt : Nat) : Int) (sec (prmN s Prm.preTauRes) : Nat)))).toNat

/-- The energy of one complete precharge, ½ × PRE_CAP × Vs², in microjoules (R313). -/
def prechargeEnergy (s : State) (vs : Int) : Nat := (prm s Prm.preCap * vs * vs * 5 / 256).toNat

/-- What E may be for an attempt to be admitted; none when no energy admits it. -/
def energyRoom (s : State) (vs : Int) : Option Nat :=
  let top := prmN s Prm.preEMax * 1000000
  if prechargeEnergy s vs ≤ top then some (top - prechargeEnergy s vs) else none

/-- Fewer than 3 attempts began in the last 3,600 s (R309). -/
def attemptsLeft (s : State) (t : Nat) : Bool := (s.con.attempts.filter (fun a => t < a + sec 3600)).length < 3

/-- The model admits an attempt at an instant: energy and PRE_RETRY_WAIT (R313). -/
def modelAdmits (s : State) (vs : Int) (t : Nat) : Bool :=
  ((energyRoom s vs).map (fun r => decide (energyAt s t ≤ r))).getD false &&
  ((s.con.lastEnd.map (fun e => decide (e + sec (prmN s Prm.preRetryWait) ≤ t))).getD true)

/-- Both admit at a number of milliseconds from now. -/
def admittedIn (s : State) (d : Nat) : Bool :=
  modelAdmits s s.con.vStr (s.now + ms d) && attemptsLeft s (s.now + ms d)

/-- Bisection for the least number of milliseconds, below `hi`, that is admitted. -/
def bisectAdmit (s : State) : Nat → Nat → Nat → Nat
  | 0, _, hi => hi
  | n + 1, lo, hi =>
    let m := (lo + hi) / 2
    if admittedIn s m then bisectAdmit s n lo m else bisectAdmit s n (m + 1) hi

/-- Time in ms until an attempt would be admitted, 0xFFFFFFFF when none is (R314). -/
def admitTime (s : State) : Nat :=
  if admittedIn s 0 then 0 else if admittedIn s 0xFFFFFFFE then bisectAdmit s 32 0 0xFFFFFFFE else 0xFFFFFFFF

/-! ## Energising (R254 to R256, R300, R304) -/

/-- Dome's interlock: another of K1 to K3 reads closed without being requested (R304). -/
def interlocked (s : State) (n : Nat) : Bool :=
  n < 3 && (List.range 3).any (fun k => k ≠ n && (coil s k).kf && !(coil s k).request)

/-- Both channels permit an output: no demand, the safety set loaded, the functions run, no interlock, the token held (R256, R304;
14 R414). -/
def outputPermitted (s : State) (n : Nat) : Bool :=
  channelsPermit s && running s 9 && !interlocked s n && holdsToken s

/-- Request an output and energise it where both channels permit it. -/
def requestCoil (n : Nat) (s : State) : State :=
  if outputPermitted s n then energiseCoil n s
  else setCoil n (fun c => { c with request := true, onAt := s.now, confirmed := false }) s

/-- Some coil is in pull-in (R300). -/
def anyPullIn (s : State) : Bool := s.con.k.any (·.pullIn)

/-! ## The Connect sequence (R310) -/

/-- The coil a step energises. -/
def stepCoil : ConnStep → Option Nat
  | .k4First => some 3 | .k2 => some 1 | .k3 => some 2 | .k1 => some 0 | .k4Last => some 3
  | .precharge => none | .overlap => none | .k3Opening => none

/-- Change the Connect job. -/
def setConn (g : ConnJob → ConnJob) (s : State) : State := { s with con.conn := s.con.conn.map g }

/-- K3 is energised: an attempt is counted and begins (R314). -/
def beginAttempt (s : State) : State :=
  { s with con.attempts := within s (sec 3600) s.con.attempts ++ [s.now],
           con.attempt := some ⟨stampNow s, s.con.vLnk, s.con.vStr, none, none, 0, 0⟩ }

/-- Start a step's coil once no other pull-in runs (R300). -/
def startStep (j : ConnJob) (s : State) : State := match stepCoil j.step with
  | some n =>
    if j.active || anyPullIn s then s
    else
      let s := if n = 2 then beginAttempt s else s
      setConn (fun j => { j with active := true, since := s.now }) (requestCoil n s)
  | none => s

/-- Go to a step. -/
def enterStep (st : ConnStep) (s : State) : State :=
  let s := setConn (fun j => { j with step := st, active := false, since := s.now }) s
  match s.con.conn with
  | some j => startStep j s
  | none => s

/-- The sequence is complete: Run or Hold, and DONE (R310). -/
def finishConnect (j : ConnJob) (s : State) : State :=
  let s := setMode (if j.toRun then .run else .hold) 0 { s with con.conn := none }
  finishJob j.mb Cmd.connect doneReply s

/-- What follows K3's opening, or K1's closing without a precharge: K4 last, or the end. -/
def afterMain (j : ConnJob) (s : State) : State := if prm s Prm.k4Order = 0 then enterStep .k4Last s else finishConnect j s

/-- The step's contactor has confirmed: the next step. -/
def nextStep (j : ConnJob) (s : State) : State := match j.step with
  | .k4First => enterStep .k2 s
  | .k2 =>
    if 95 * s.con.vStr ≤ 100 * s.con.vLnk then enterStep .k1 (setConn (fun j => { j with skip := true }) s) else enterStep .k3 s
  | .k3 =>
    let s := setConn (fun j => { j with step := .precharge, active := false, since := s.now, origin := s.now,
                                        v0 := s.con.vLnk, vs := s.con.vStr }) s
    { s with con.attempt := s.con.attempt.map (fun (a : PreAttempt) => { a with origin := stampNow s, v0 := s.con.vLnk, vs := s.con.vStr }),
             con.energy := energyAt s s.now, con.eAt := s.now }
  | .k1 => if j.skip then afterMain j s else enterStep .overlap s
  | .k4Last => finishConnect j s
  | .precharge => s
  | .overlap => s
  | .k3Opening => s

/-- Move a Connect on: a waiting coil starts, a confirmed step gives way to the next, K3 open ends its step. -/
def advance (s : State) : State := match s.con.conn with
  | none => s
  | some j => match stepCoil j.step with
    | some n => if !j.active then startStep j s else if (coil s n).confirmed then nextStep j s else s
    | none => if j.step == .k3Opening && !(coil s 2).kf then afterMain j s else s

/-- A Connect fails: the cause answers the request, K3 opens at once, the rest in the order of R316, then Watch (R310). -/
def connFail (cause : Nat) (data : List Int) (s : State) : State := match s.con.conn with
  | none => s
  | some j =>
    let s := record cause 3 data s
    let s := { s with con.conn := none, con.attempt := s.con.attempt.map (fun (a : PreAttempt) => { a with result := cause }) }
    let s := openCoil 2 (finishJob j.mb Cmd.connect (causeReply .execFault cause) s)
    endOpening { s with con.opening := some ⟨s.now, true, s.now, none, cause⟩, saf.spOpened := false }

/-! ## Auxiliary feedback (R302 to R304) -/

/-- KFn is not checked: K4 with K4_ORDER 2 (R310). -/
def kfUnchecked (s : State) (n : Nat) : Bool := 4 ≤ n || (n = 3 && prm s Prm.k4Order = 2)

/-- KFn reads closed: a closing is confirmed and counted. -/
def kfClosed (n : Nat) (s : State) : State :=
  let c := coil s n
  if c.request && !c.confirmed then
    judgeWear n (setCoil n (fun c => { c with confirmed := true, closings := c.closings + 1 }) s)
  else s

/-- KFn reads open: a weld has gone. -/
def kfOpened (n : Nat) (s : State) : State :=
  let s := setCoil n (fun c => { c with welded := false, confirmed := c.confirmed && c.request }) s
  if s.con.k.any (·.welded) then s else clearPresent Ev.kWelded s

/-- KF_EDGE (R302): auxiliary contact n takes a level, closed or open; HVS-STR and HVS-LNK averaged over the 1 ms before. -/
def execKfEdge (t : Nat) (n : Nat) (level : Bool) (vStr vLnk : Int) (s : State) : Host.Outcome State Fault Refusal :=
  timed t (fun s =>
    if 4 ≤ n then s
    else
      let closed := level != bitOf (prmN s Prm.kfPolarity) n
      if (coil s n).kf == closed then s
      else
        let s := captureEdge (0x08 + n) level (stampNow s) { s with con.vStr := vStr, con.vLnk := vLnk }
        let s := setCoil n (fun c => { c with kf := closed, kfStamp := stampNow s }) s
        endOpening (advance (if closed then kfClosed n s else kfOpened n s))) s

/-- K_DROPOUT (R303): KFn of an energised and confirmed contactor has read open for 5 ms, other than where one channel has opened its
switch. K3 counts in precharge only. -/
def execKDropout (t : Nat) (n held : Nat) (s : State) : Host.Outcome State Fault Refusal :=
  timed t (fun s =>
    let c := coil s n
    if kfUnchecked s n || s.pair.standby || held < ms 5 || !(c.request && c.confirmed) || c.kf || (c.pulse.isNone && c.hs != c.ls) then s
    else if n = 2 then
      match s.con.conn with
      | some j => if j.step == .precharge then connFail Ev.kDropout [n + 1] s else s
      | none => s
    else tripEdge (0x08 + n) c.kfStamp Ev.kDropout .sp [n + 1] s) s

/-- K_FAIL_CLOSE (R303): KFn is not closed KF_CLOSE_TIME after energising; a Connect aborts. -/
def execKFailClose (t : Nat) (n : Nat) (s : State) : Host.Outcome State Fault Refusal :=
  timed t (fun s =>
    let c := coil s n
    if kfUnchecked s n || !c.request || c.confirmed || c.kf || s.now < c.onAt + ms (prmN s Prm.kfCloseTime) then s
    else if s.con.conn.isSome then connFail Ev.kFailClose [n + 1] s
    else record Ev.kFailClose 3 [n + 1] s) s

/-- The module checks the contactors against its own commands: single, or the active of a pair; the other module of a pair may
hold a coil that this one has not requested (14 R416, R417). -/
def checksContactors (s : State) : Bool := claimsActive s

/-- Another contactor than n is closed or energised. -/
def otherClosed (s : State) (n : Nat) : Bool := (List.range 4).any (fun k => k ≠ n && ((coil s k).kf || energised (coil s k)))

/-- K_WELDED (R303): KFn closed KF_OPEN_TIME after de-energising, or for 5 ms though never energised since boot; the second only
refuses Connect while no other contactor is closed. -/
def execKWelded (t : Nat) (n held : Nat) (s : State) : Host.Outcome State Fault Refusal :=
  timed t (fun s =>
    let c := coil s n
    if kfUnchecked s n || !checksContactors s || c.welded || c.request || energised c || !c.kf then s
    else
      let weld (s : State) : State := setCoil n (fun c => { c with welded := true }) s
      if c.ever then
        if c.offAt + ms (prmN s Prm.kfOpenTime) ≤ s.now then tripHeld Ev.kWelded .sp [n + 1] (weld s) else s
      else if held < ms 5 then s
      else if otherClosed s n then tripHeld Ev.kWelded .sp [n + 1] (weld s)
      else record Ev.kWelded 3 [n + 1] (weld s)) s

/-! ## Coil drivers (R300, R301) -/

/-- K_PULLIN_END (R300): hold-duty chopping from here on; a waiting coil may start. -/
def execKPullinEnd (t : Nat) (n : Nat) (s : State) : Host.Outcome State Fault Refusal :=
  timed t (fun s =>
    if (coil s n).pullIn && (coil s n).onAt + ms (prmN s Prm.kPullin) ≤ s.now then
      advance (setCoil n (fun c => { c with pullIn := false }) s)
    else s) s

/-- OUTPUT_OVERCURRENT (R301): coil current in mA; at the 6 A limit for 1 ms both switches open. The command stays, so the
feedback rules decide what follows. The fault stays until RESTART of the output function or a boot (DESIGN CHOICE,
notes/assumptions/38.md). -/
def execOutputOvercurrent (t : Nat) (n ma held : Nat) (s : State) : Host.Outcome State Fault Refusal :=
  timed t (fun s =>
    let s := setCoil n (fun c => { c with coilMa := ma }) s
    if 4 ≤ n || ma < 6000 || held < ms 1 || (coil s n).overcurrent then s
    else
      let req := (coil s n).request
      let s := record Ev.outputOvercurrent 4 [n + 1] s
      setCoil n (fun c => { c with request := req, overcurrent := true }) (openCoil n s)) s

/-- COIL_OPEN (R301): hold current below 50 mA for 100 ms; a hold current of 50 mA and above clears it. -/
def execCoilOpen (t : Nat) (n ma held : Nat) (s : State) : Host.Outcome State Fault Refusal :=
  timed t (fun s =>
    let s := setCoil n (fun c => { c with coilMa := ma }) s
    let c := coil s n
    if 4 ≤ n || !driven c || c.pullIn then s
    else if 50 ≤ ma then setCoil n (fun c => { c with coilOpen := false }) s
    else if held < ms 100 || c.coilOpen then s
    else record Ev.coilOpen 3 [n + 1] (setCoil n (fun c => { c with coilOpen := true }) s)) s

/-- COIL_SUPPLY_LOW (R301): PWR-COIL in mV below 18 V for 10 ms turns the gates off; at 18 V and above it is gone. -/
def execCoilSupplyLow (t : Nat) (mv held : Nat) (s : State) : Host.Outcome State Fault Refusal :=
  timed t (fun s =>
    if 18000 ≤ mv then { s with con.supplyLow := false }
    else if held < ms 10 || s.con.supplyLow then s
    else gatesOff Ev.coilSupplyLow (record Ev.coilSupplyLow 4 [mv] { s with con.supplyLow := true })) s

/-! ## Output tests (R305 to R308) -/

/-- No test pulse runs on output n (R307, R323). -/
def pulseBarred (s : State) (n : Nat) : Bool :=
  4 ≤ n || inMode s [.shelf, .dormant, .connect] || s.con.supplyLow || (coil s n).pullIn || s.pair.standby || stopped s 9 ||
  s.thm.held || (coil s n).pulse.isSome || cadenceHeld s

/-- The TAI second is at the slot of output n: 0 ms, 250 ms, 500 ms or 750 ms, met to 1 µs (R305). -/
def atSlot (s : State) (n : Nat) : Bool :=
  let d := ((stampNow s % 2 ^ 32) * 1000000000 + 2 ^ 31) / 2 ^ 32
  decide (ms 250 * n ≤ d) && decide (d ≤ ms 250 * n + us 1)

/-- OUTPUT_TEST_PULSE (R305): the slot of output n; the high-side switch in even TAI seconds. An on-pulse needs the channel's
permission: no demand, and the other switch reads open. -/
def execOutputTestPulse (t : Nat) (n : Nat) (s : State) : Host.Outcome State Fault Refusal :=
  timed t (fun s =>
    if pulseBarred s n || !atSlot s n then s
    else
      let high := stampNow s / 2 ^ 32 % 2 = 0
      let c := coil s n
      if c.hs && c.ls then
        setCoil n (fun c => { c with hs := c.hs && !high, ls := c.ls && high, pulse := some ⟨high, true, s.now⟩ }) s
      else if c.hs || c.ls || c.request || s.saf.spDemand || s.saf.domeDemand || (if high then c.faultLs else c.faultHs) then s
      else setCoil n (fun c => { c with hs := high, ls := !high, pulse := some ⟨high, false, s.now⟩ }) s) s

/-- A failed or passed pulse in the counts of its switch (R306) and of its output (14 R427). -/
def countPulse (p : OutPulse) (good : Bool) (c : CoilOut) : CoilOut :=
  let up (k : Nat) : Nat := if good then 0 else k + 1
  let c := { c with testFails := c.testFails + bit (!good) 0 }
  match p.high, p.off with
  | true, true => { c with failHsOff := up c.failHsOff, lastHs := some good }
  | true, false => { c with failHsOn := up c.failHsOn, lastHs := some good }
  | false, true => { c with failLsOff := up c.failLsOff, lastLs := some good }
  | false, false => { c with failLsOn := up c.failLsOn, lastLs := some good }

/-- Consecutive off-pulse failures of the pulsed switch. -/
def offFailures (p : OutPulse) (c : CoilOut) : Nat := if p.high then c.failHsOff else c.failLsOff

/-- What the output stage reads confirms a pulse: at least 12 V across the switch, its open level, for an off-pulse, at most 2 V for
an on-pulse; with the partner following, an off-pulse by the current in the switch below 50 mA (R305; 14 R417). -/
def pulseConfirmed (s : State) (p : OutPulse) (mv ma : Nat) : Bool :=
  if !p.off then decide (mv ≤ 2000) else if partnerFollows s then decide (ma < 50) else decide (12000 ≤ mv)

/-- OUTPUT_PULSE_END (R305, R306): `mv` across the switch under test and `ma` in it confirm the pulse, or it reaches its end
unconfirmed; two failed off-pulses of one switch in a row trip. -/
def execOutputPulseEnd (t : Nat) (n mv ma : Nat) (s : State) : Host.Outcome State Fault Refusal :=
  timed t (fun s => match (coil s n).pulse with
    | none => s
    | some p =>
      let confirmed := pulseConfirmed s p mv ma
      let limit := if p.off then us 200 else us 50
      let last := if p.off then us 300 else us 100
      if !confirmed && s.now < p.since + last then s
      else
        let good := confirmed && decide (s.now ≤ p.since + limit)
        let s := setCoil n (fun c => countPulse p good (discardPulse c)) s
        if good then s
        else
          let s := record Ev.outputTestFail 3 [n + 1, flag p.high] s
          if p.off && 2 ≤ offFailures p (coil s n) then trip Ev.outputSwitchFault .sp [n + 1, flag p.high] s else s) s

/-- OUTPUT_SWITCH_FAULT (R305, R306): the voltages in mV across the switches of a de-energised output; a node reads closed at 2 V or
less with its switch commanded open; the fault clears only when both read open, at 12 V or more. -/
def execOutputSwitchFault (t : Nat) (n hsMv lsMv : Nat) (s : State) : Host.Outcome State Fault Refusal :=
  timed t (fun s =>
    let c := coil s n
    let hs : Bool := hsMv ≤ 2000
    let ls : Bool := lsMv ≤ 2000
    if 4 ≤ n || c.hs || c.ls || c.pulse.isSome then s
    else if 12000 ≤ hsMv && 12000 ≤ lsMv then setCoil n (fun c => { c with faultHs := false, faultLs := false }) s
    else
      let new := (hs && !c.faultHs) || (ls && !c.faultLs)
      let s := setCoil n (fun c => { c with faultHs := c.faultHs || hs, faultLs := c.faultLs || ls }) s
      if new then record Ev.outputSwitchFault 3 [n + 1, flag hs, flag ls] s else s) s

/-! ## Precharge (R311, R313) -/

/-- The fraction closed in 0.1 %. -/
def fractionClosed (j : ConnJob) (vLnk : Int) : Int := if j.vs ≤ j.v0 then 0 else roundDiv (1000 * (vLnk - j.v0)) (j.vs - j.v0)

/-- g is at least a number of percent. -/
def fractionAtLeast (j : ConnJob) (vLnk pct : Int) : Bool := decide (pct * (j.vs - j.v0) ≤ 100 * (vLnk - j.v0))

/-- PRECHARGE_HALF_TAU (R311): 0.5 τ after the origin. -/
def execPrechargeHalfTau (t : Nat) (vLnk : Int) (s : State) : Host.Outcome State Fault Refusal :=
  timed t (fun s => match s.con.conn with
    | some j =>
      if j.step != .precharge || j.half || s.now < j.origin + preTau s / 2 then s
      else
        let g := fractionClosed j vLnk
        let at_ := s.con.attempt.map (fun (a : PreAttempt) => { a with gHalf := some g })
        let s := setConn (fun j => { j with half := true, gHalf := some g }) { s with con.vLnk := vLnk, con.attempt := at_ }
        if fractionAtLeast j vLnk 25 then s
        else connFail (if fractionAtLeast j vLnk 5 then Ev.prechargeSlow else Ev.prechargeShort) [g] s
    | none => s) s

/-- PRECHARGE_THREE_TAU (R311): 3 τ after the origin; K1 follows. -/
def execPrechargeThreeTau (t : Nat) (vLnk : Int) (s : State) : Host.Outcome State Fault Refusal :=
  timed t (fun s => match s.con.conn with
    | some j =>
      if j.step != .precharge || !j.half || s.now < j.origin + 3 * preTau s then s
      else
        let g := fractionClosed j vLnk
        let at_ := s.con.attempt.map (fun (a : PreAttempt) => { a with gThree := some g })
        let s := setConn (fun j => { j with gThree := some g }) { s with con.vLnk := vLnk, con.attempt := at_ }
        if fractionAtLeast j vLnk 90 then enterStep .k1 s else connFail Ev.prechargeSlow [g] s
    | none => s) s

/-- PRE_ENERGY_TICK (R313): 1 ms with K3 closed; E at PRE_E_MAX in an attempt opens K3 at once. -/
def execPreEnergyTick (t : Nat) (vStr vLnk : Int) (s : State) : Host.Outcome State Fault Refusal :=
  timed t (fun s =>
    if !(coil s 2).kf then s
    else
      let dv := vStr - vLnk
      let e := energyAt s s.now + (dv * dv * 390625 / (prm s Prm.preRes * 10000)).toNat
      let s := { s with con.energy := e, con.eAt := s.now, con.vStr := vStr, con.vLnk := vLnk }
      if prmN s Prm.preEMax * 1000000 ≤ e && s.con.attempt.isSome then connFail Ev.prechargeEnergy [e] s else s) s

/-- K3_OVERLAP_END (R310): K3 is de-energised K3_OVERLAP after KF1 closed; the attempt ends. -/
def execK3OverlapEnd (t : Nat) (s : State) : Host.Outcome State Fault Refusal :=
  timed t (fun s => match s.con.conn with
    | some j =>
      if j.step == .overlap && j.since + ms (prmN s Prm.k3Overlap) ≤ s.now then
        advance (setConn (fun j => { j with step := .k3Opening, since := s.now }) (openCoil 2 s))
      else s
    | none => s) s

/-! ## The orderly opening (R316) -/

/-- The current is known to be below 2 % of I_RATED. -/
def currentBelow (s : State) : Bool := ((stringCurrent s).map (fun i => !aboveTwo s i)).getD false

/-- Gates off in an orderly end: HOLD ends in Hold, a planned hand-over sends HAND (14 R424), an opening goes on to its
contactors. -/
def orderlyOff (s : State) : State :=
  let end_ := s.disp.ending
  let s := gatesOff 0 { s with disp.ending := 0 }
  if end_ = 1 then
    let mb := s.disp.holdMb
    finishJob mb Cmd.hold doneReply (setMode .hold 0 { s with disp.holdMb := none })
  else if end_ = 3 then sendHand s
  else endOpening { s with con.opening := s.con.opening.map (fun (j : OpeningJob) => { j with gatesOff := true, gatesAt := s.now }) }

/-- ORDERLY_GATES_OFF (R316, 12 R370): |string current| below 2 % of I_RATED, or 10 s after the ramp began. -/
def execOrderlyGatesOff (t : Nat) (s : State) : Host.Outcome State Fault Refusal :=
  timed t (fun s =>
    if s.disp.ending ≠ 0 && (currentBelow s || (s.disp.ending ≠ 3 && s.disp.endAt + sec 10 ≤ s.now)) then orderlyOff s else s) s

/-- The dispatch target is set to 0 A by the module itself. -/
def rampToZero (s : State) : State := { s with disp.target := ⟨0, 0, none, 0, 9, false⟩, disp.imm := s.disp.imm.filter (·.kind == 2) }

/-- An orderly opening begins (R316): in Run the current ramps down first, otherwise the gates turn off now. -/
def beginOpening (mb : Option Nat) (cause : Nat) (s : State) : State :=
  let s := { s with con.opening := some ⟨s.now, false, s.now, mb, cause⟩, saf.spOpened := false, disp.ending := 2, disp.endAt := s.now }
  if s.core.mode == .run && switching s then rampToZero s else orderlyOff s

/-! ## Guards of Connect (R309; 09 R274) -/

/-- First of a list of conditions that holds, with its answer. -/
def firstOf (l : List (Bool × Reply)) : Option Reply := (l.find? (·.1)).map (·.2)

/-- A function that is stopped: no function may be stopped in Connect (12 R350, R366). -/
def stoppedFunction (s : State) : Option Nat := (List.range 21).find? (fun f => stopped s f && !bitOf (stopModes f) 3)

/-- Safety guards (09 R274). -/
def safetyGuards (s : State) : List (Bool × Reply) :=
  let sealed (c : Nat) : Reply := causeReply .sealPosition c
  let slowLim := prm s Prm.psOverload * iRated s + 20 * iRated s
  [(s.saf.sealsNow.getLsbD 4, sealed Ev.ss5), (s.saf.sealsNow.getLsbD 5, sealed Ev.ss6), (s.saf.sealChanged, sealed Ev.sealChanged),
   (!(setOf s s.saf.selected).confirmed, guardReply Ev.setUnconfirmed),
   (s.saf.threshMismatch, guardReply Ev.threshMismatch),
   (1000 * prm s Prm.safeOcSlow ≤ slowLim, guardReply Ev.safeOcInconsistent),
   (50000 < s.rings.period, guardReply Ev.sweepTooLong),
   ((inputBlock s).isSome, guardReply ((inputBlock s).getD 0)),
   (!s.saf.present.isEmpty, guardReply (s.saf.present.headD 0)),
   ((inputFault s).isSome, guardReply ((inputFault s).getD 0)),
   (linkLost s, guardReply Ev.safeLinkLost)]

/-- Output guards (R309). -/
def outputGuards (s : State) : List (Bool × Reply) :=
  [((List.range 4).any (fun n => (coil s n).kf && !kfUnchecked s n), guardReply Ev.kWelded),
   (s.con.k.any (fun c => c.faultHs || c.faultLs), guardReply Ev.outputSwitchFault),
   (s.con.k.any (·.overcurrent), guardReply Ev.outputOvercurrent),
   (s.con.k.any (·.coilOpen), guardReply Ev.coilOpen),
   (s.con.supplyLow, guardReply Ev.coilSupplyLow),
   (s.con.k.any (fun c => 2 ≤ c.failHsOn || 2 ≤ c.failLsOn), guardReply Ev.outputTestFail),
   (s.con.vStr < prm s Prm.preVstrMin, guardReply Ev.preVstrLow),
   (!modelAdmits s s.con.vStr s.now, guardReply Ev.prechargeEnergy),
   (!attemptsLeft s s.now, guardReply Ev.preAttempts)]

/-- Guards of the other functions (02 R56, R567; 04 R120, R123; 06 R165; 11 R325; 12 R358; 14 R405, R420; 20 R554). -/
def otherGuards (s : State) : List (Bool × Reply) :=
  [(s.rings.ring.any (·.mismatch), guardReply Ev.tapCountMismatch),
   (s.rings.effBad, guardReply Ev.paramRule),
   (s.est.mismatch || !activeUsable s, guardReply Ev.chemMismatch),
   (!threeHold s, guardReply Ev.ctrlCapacity),
   (2 ≤ (s.thm.tsFault.filter id).length, guardReply Ev.tsFault),
   (s.core.auxLost, guardReply Ev.auxLost),
   (s.core.cisternLow, guardReply Ev.cisternLow),
   (s.pair.clash, guardReply Ev.pairPositionClash),
   (s.pair.mismatch.any (fun f => f = 0xFF || (1 ≤ f && f ≤ 0x0A)), guardReply Ev.pairParamMismatch)]

/-- The first guard of R309 that fails. -/
def connectBlock (s : State) : Option Reply := match stoppedFunction s with
  | some f => some { guardReply Ev.functionStopped with fn := f }
  | none => firstOf (safetyGuards s ++ outputGuards s ++ otherGuards s)

/-- Connect begins: the mode, then the first step (R310). -/
def beginConnect (toRun : Bool) (mb : Option Nat) (s : State) : State :=
  let s := setMode .connect 0 s
  let s := { s with con.conn := some ⟨toRun, mb, .k2, false, s.now, 0, 0, 0, false, false, none, none⟩ }
  enterStep (if prm s Prm.k4Order = 1 then .k4First else .k2) s

/-- CONNECT's handler; a refusal reports the time until an attempt would be admitted (R314). -/
def connectHandler (m : Nat) (vStr vLnk : Int) (r : Request) : State → Answer × State :=
  withLength 1 (fun p s =>
    let x := byteAt p 0
    let s := { s with con.vStr := vStr, con.vLnk := vLnk }
    if x ≠ 4 && x ≠ 5 then refuse (argReply r.command 0) s
    else match connectBlock s with
      | some g => refuse { g with payload := .fields [("time until admitted", [(admitTime s : Int)])] } s
      | none => (.goesOn, beginConnect (x = 4) (some m) s)) r

/-- CONNECT (R309): with HVS-STR and HVS-LNK as averaged over the last 1 ms. -/
def execConnect (t : Nat) (m : Nat) (vStr vLnk : Int) (s : State) : Host.Outcome State Fault Refusal :=
  timed t (serve m Cmd.connect (connectHandler m vStr vLnk)) s

/-- DISCONNECT's handler. -/
def disconnectHandler (m : Nat) : Request → State → Answer × State :=
  withLength 0 (fun _ s =>
    if s.con.opening.isSome || s.disp.ending ≠ 0 then refuse (guardReply Ev.functionBusy) s
    else (.goesOn, beginOpening (some m) 0 s))

/-- DISCONNECT (R316). -/
def execDisconnect (t : Nat) (m : Nat) (s : State) : Host.Outcome State Fault Refusal :=
  timed t (serve m Cmd.disconnect (disconnectHandler m)) s

/-! ## Status commands (R322) -/

/-- Part of the time, in Q15, that the high-side switch of an output conducts: all of it in pull-in, then K_HOLD_DUTY of each cycle of
the 20 kHz chopping (R300); a test pulse stops the chopping (R308). -/
def driveDuty (s : State) (c : CoilOut) : Nat :=
  if !c.hs then 0 else if driven c && !c.pullIn && c.pulse.isNone then prmN s Prm.kHoldDuty else 0x8000

/-- OUT_STATUS fields; a switch reads closed while it is closed and where its node says so though it is commanded open (R305, R306). -/
def outStatus (s : State) : Payload :=
  .fields (s.con.k.map (fun c => ("output", [flag c.request, (driveDuty s c : Int), flag (c.hs || c.faultHs), flag (c.ls || c.faultLs), (c.coilMa : Int),
      flag c.kf] ++
      optInts (c.lastHs.map flag) ++ optInts (c.lastLs.map flag) ++ [(c.closings : Int), c.loadOpens])) ++
    [("TRIP-IN", [flag (!s.saf.tripInOpen)]), ("TRIP-OUT", [flag (tripOutClosed s)]),
     ("causes", (s.saf.latched.filter (fun c => match sfOfCode c with
       | some n => bitOf (prmN s Prm.tripOutMask) (n - 1) && c ≠ Ev.tripInOpen
       | none => false)).map (fun (c : Nat) => (c : Int)))])

/-- OUT_STATUS. -/
def execOutStatus (t : Nat) (m : Nat) (s : State) : Host.Outcome State Fault Refusal :=
  timed t (serve m Cmd.outStatus (statusHandler outStatus)) s

/-- PRE_HISTORY: E in microjoules, the time until admitted, the attempts. -/
def execPreHistory (t : Nat) (m : Nat) (s : State) : Host.Outcome State Fault Refusal :=
  timed t (serve m Cmd.preHistory (statusHandler (fun s =>
    .fields ([("E", [(energyAt s s.now : Int)]), ("time until admitted", [(admitTime s : Int)])] ++
      s.con.history.map (fun a => ("attempt", [(a.origin : Int), codeS16 (some a.v0), codeS16 (some a.vs)] ++ optInts a.gHalf ++
        optInts a.gThree ++ [(a.energy : Int), a.result])))))) s

/-- PRE_MODEL_RESET: E is 0; recorded. -/
def execPreModelReset (t : Nat) (m : Nat) (s : State) : Host.Outcome State Fault Refusal :=
  timed t (serve m Cmd.preModelReset (withLength 0 (fun _ s =>
    ok (record Ev.preModelReset 6 [] { s with con.energy := 0, con.eAt := s.now, con.eNvm := if s.thm.forbid then s.con.eNvm else 0,
                                                con.eNvmAt := if s.thm.forbid then s.con.eNvmAt else s.now })))) s

end Sys2Proof.Machine
end

