-- ==== Sys2Proof/Machine/TimeUnit.lean ====
section
/-!
DEFINITION. Machine/TimeUnit.lean: the counter, its states and servo, PTP domains, PPS, steps, triggers (16 R463 to R487;
15 R451 for the traces of a pinned route).
-/

namespace Sys2Proof.Machine

open Sys2Proof

/-! ## Domains and sources (R466, R471 to R475) -/

/-- A domain: 0 A, 1 B. -/
def domOf (s : State) (d : Nat) : Domain := s.tim.dom.getD d {}

/-- Change a domain. -/
def setDom (d : Nat) (g : Domain → Domain) (s : State) : State := { s with tim.dom := s.tim.dom.modify d g }

/-- A PPS input: 0 A, 1 B. -/
def ppsOf (s : State) (n : Nat) : Pps := s.tim.pps.getD n {}

/-- Change a PPS input. -/
def setPps (n : Nat) (g : Pps → Pps) (s : State) : State := { s with tim.pps := s.tim.pps.modify n g }

/-- Nanoseconds of a length in 2^-32 s, to the nearest. -/
def toNs (u : Int) : Int := roundDiv (u * 1000000000) 4294967296

/-- A signed length in ns in 2^-32 s. -/
def ofNs (n : Int) : Int := roundDiv (n * 4294967296) 1000000000

/-- TIME_JUMP_LIM in ns. -/
def jumpLim (s : State) : Int := 1000 * prm s Prm.timeJumpLim

/-- The time unit steers: its function runs and the engines are powered (R487; 11 R333; 12 R347). -/
def timeRuns (s : State) : Bool := s.tim.servo && s.core.mode != .shelf && !s.thm.held

/-- PTP runs on a domain: not in isolated Dormant (12 R354). -/
def ptpRuns (s : State) : Bool := timeRuns s && (s.core.mode != .dormant || s.core.pairStandbyProfile)

/-- PTP domain number of a domain. -/
def domNumber (s : State) (d : Nat) : Nat := prmN s (Prm.domainANum + d)

/-- The conditions of R472 hold for a domain now. -/
def domGood (s : State) (d : Nat) : Bool :=
  let x := domOf s d
  ((x.syncAt.map (fun a => decide (s.now ≤ a + sec 1))).getD false) &&
  ((x.respAt.map (fun a => decide (s.now ≤ a + sec 1))).getD false) &&
  x.degraded.isNone && !x.jumped && x.offset.isSome

/-- A PPS input can be the source (R472, R474, R476). -/
def ppsGood (s : State) (n : Nat) : Bool :=
  let p := ppsOf s n
  prm s Prm.ppsMode == 1 && p.valid && ((p.offset.map (fun o => decide ((o.natAbs : Int) ≤ jumpLim s))).getD false)

/-- The source that selection gives (R472, R476): 0, 1 domains, 2, 3 PPS, 4 the oscillator. -/
def chooseSource (s : State) : Nat :=
  let p := prmN s Prm.timePref
  let o := 1 - p
  let use (d : Nat) : Bool := (domOf s d).usableSince.isSome
  if !timeRuns s then 4
  else if use p && (s.tim.src ≠ o || !use o || heldOpt s (domOf s p).usableSince (sec 60)) then p
  else if use o then o
  else if ppsGood s 0 then 2
  else if ppsGood s 1 then 3
  else 4

/-- Code of a time state. -/
def TimeState.code : TimeState → Nat
  | .free => 0 | .locking => 1 | .locked => 2 | .holdover => 3

/-- Enter a time state; a change is recorded. -/
def setTime (x : TimeState) (s : State) : State :=
  if s.tim.st == x then s
  else record Ev.timeState 1 [s.tim.st.code, x.code] { s with tim.st := x }

/-- Estimated error in ns, none while FREE (R466). -/
def timeError (s : State) : Option Nat := match s.tim.st with
  | .free => none
  | .locking => s.tim.lastOff
  | .locked => s.tim.lastOff
  | .holdover => some (s.tim.lastOff.getD 0 + 20 * (s.now - s.tim.holdAt.getD s.now) / 1000000000)

/-- TIME_UNTRACEABLE follows the estimated error in HOLDOVER (R467). -/
def judgeTrace (s : State) : State :=
  let bad := s.tim.st == .holdover && ((timeError s).map (fun e => decide (prmN s Prm.timeTraceLim < e))).getD false
  if bad && !s.tim.untraceable then record Ev.timeUntraceable 3 [] { s with tim.untraceable := true }
  else { s with tim.untraceable := bad }

/-- The servo's bound in 2^-32 s per s. -/
def slewMax (s : State) : Int := ofNs (prm s Prm.timeSlewMax)

/-- Set the addend's trim without a jump of the counter (R463). -/
def setTrim (v : Int) (s : State) : State :=
  { s with tim.off := s.tim.off + s.tim.trim * ((s.now : Int) - s.tim.trimAt) / 1000000000,
           tim.trimAt := s.now, tim.trim := clampTo (-(slewMax s)) (slewMax s) v }

/-- The counter loses its source: HOLDOVER at the last frequency estimate, or FREE (R466). -/
def loseSource (s : State) : State :=
  let s := setTrim s.tim.integ s
  if s.tim.everLocked then
    if s.tim.st == .holdover then s else setTime .holdover { s with tim.holdAt := some s.now, tim.smallSince := none }
  else setTime .free s

/-- Selection after any change (R472, R473): no switch steps the counter, and LOCKED is kept. -/
def selectSource (s : State) : State :=
  let n := chooseSource s
  if n = s.tim.src then judgeTrace s
  else
    let s := { s with tim.src := n }
    judgeTrace (if n = 4 then loseSource s else s)

/-- Recompute whether a domain is usable and since when. -/
def judgeDomain (d : Nat) (s : State) : State :=
  setDom d (fun x => { x with usableSince := if domGood s d then some (x.usableSince.getD s.now) else none }) s

/-- Recompute both domains and the selection. -/
def judgeTime (s : State) : State := selectSource (judgeDomain 1 (judgeDomain 0 s))

/-- One PI step of the servo on an offset in ns; its gains are not stated, its output is clamped (R471,
notes/assumptions/9.md). -/
def servoStep (off : Int) (s : State) : State :=
  let i := clampTo (-(slewMax s)) (slewMax s) (Config.openValue "servo integrator" [s.tim.integ, off])
  setTrim (Config.openValue "servo output" [i, off]) { s with tim.integ := i }

/-- A correction of the selected source is accepted (R466): LOCKING, then LOCKED after 10 s within 100 ns. -/
def acceptOffset (off : Int) (s : State) : State :=
  let small := off.natAbs ≤ 100
  let s := { s with tim.lastOff := some off.natAbs,
                    tim.smallSince := if small then some (s.tim.smallSince.getD s.now) else none }
  let s := if s.tim.st == .free || s.tim.st == .holdover then setTime .locking s else s
  let s := if s.tim.st == .locking && heldOpt s s.tim.smallSince (sec 10) then setTime .locked { s with tim.everLocked := true } else s
  judgeTrace (servoStep off s)

/-! ## Steps (R478, R479) -/

/-- A step is permitted: mode 1, 2, 6 or 7, every output de-energised, claim role 0, or 8 in single mode (R478). -/
def stepPermitted (s : State) : Bool :=
  inMode s [.dormant, .watch, .service, .tripped] && !anyEnergised s && (!pairMode s || s.pair.role == 0)

/-- A stored 48-bit mark time moved by a step. -/
def shift48 (d : Int) (x : Nat) : Nat := (((x : Int) + d) % 2 ^ 48).toNat

/-- A stored 64-bit mark time moved by a step. -/
def shift64 (d : Int) (x : Nat) : Nat := (((x : Int) + d) % 2 ^ 64).toNat

/-- The marks of a context moved by a step. -/
def shiftCtx (d : Int) (x : Ctx) : Ctx :=
  { x with est := x.est.map (fun p => (p.1, shift48 d p.2)), tCorr := x.tCorr.map (fun p => (p.1, shift48 d p.2)),
           z := x.z.map (fun q => { q with mark := shift48 d q.mark }) }

/-- A mark's stamp moved by a step. -/
def shiftMark (d : Int) (p : Nat × Nat) : Nat × Nat := (p.1, shift64 d p.2)

/-- A staged window's start moved by a step. -/
def shiftStaging (d : Int) (g : Staging) : Staging := { g with t0 := shiftMark d g.t0 }

/-- A buffered edge moved by a step. -/
def shiftEdge (d : Int) (e : Edge) : Edge := { e with stamp := shift64 d e.stamp }

/-- Step the counter to a value in 2^-32 s (R479): triggers stop and restart, stored marks shift, an impedance window aborts,
the step is recorded, due set-points take effect. -/
def stepCounter (c : Int) (s : State) : State :=
  let old := counterAt s s.now
  let d := c - old
  let s := { s with
    tim.off := s.tim.off + d,
    rings.mark := s.rings.mark.map (shiftMark d),
    est.ctx := s.est.ctx.map (shiftCtx d),
    est.staging := s.est.staging.map (shiftStaging d),
    imp.t0 := (s.imp.t0.1, shift64 d s.imp.t0.2),
    tim.edges := s.tim.edges.map (shiftEdge d), tim.lastEdge := s.tim.lastEdge.map (Option.map (shift64 d)) }
  let whole := ((c + ofNs 10000000 + 4294967295) / 4294967296) * 4294967296
  let s := { s with tim.restartAt := some (instantOf s whole), rings.resumeAt := max s.rings.resumeAt (instantOf s whole) }
  takeDue (record Ev.timeStep 1 [old, c] (impAbort Ev.impSweep s))

/-- An offset beyond TIME_JUMP_LIM (R474): stepped out while FREE where a step is permitted, refused otherwise. The first part
says whether it was stepped. -/
def bigOffset (src : Nat) (off : Int) (s : State) : Bool × State :=
  if s.tim.st == .free && stepPermitted s then
    let s := stepCounter (counterAt s s.now - ofNs off) s
    (true, setTime .locking { s with tim.lastOff := some 0, tim.smallSince := some s.now })
  else (false, record Ev.timeJumpRefused 3 [src, off] s)

/-! ## PTP (R469 to R475; 15 R451) -/

/-- ROUTE_CHANGED for a domain (R475): DEGRADED for 8 s from the last notification, averaging restarts (R471). -/
def routeChanged (d : Nat) (s : State) : State :=
  let s := setDom d (fun x => { x with degraded := some (s.now + sec 8), paths := [] }) s
  judgeTime (record Ev.domainDegraded 3 [d] (record (Ev.routeChanged + 256 * d) 1 [d] s))

/-- Node of a domain's grandmaster, by its serial: this module, a neighbour or an originator; 0 when none is known. -/
def gmNodeOf (s : State) (d : Nat) : Nat :=
  let gm := (domOf s d).gm
  if gm = 0 then 0
  else if gm = s.core.serial then s.fab.node
  else
    let near := (planeOf s d).port.filterMap (fun x => if x.adj then x.nbr else none)
    let far := (planeOf s d).lsdb.map (fun e => (e.1.origin, e.1.serial))
    (((near ++ far).find? (fun x => x.2 = gm)).map (·.1)).getD 0

/-- A link of a plane is adjacent, as this module sees it (15 R451). -/
def linkStands (s : State) (d : Nat) (l : Nat × Nat) : Bool :=
  if l.1 = s.fab.node then (planeOf s d).port.any (fun x => x.adj && (x.nbr.map (·.1)) == some l.2)
  else (planeOf s d).lsdb.any (fun e => e.1.origin = l.1 && e.1.adj.any (fun a => a.node = l.2))

/-- Pin the time route of a domain and notify the time unit (15 R451): the pinned route stays while all of its links are
adjacent; a new one after a failed link, and a change of the grandmaster's node, are notified. -/
def pinRoute (d : Nat) (s : State) : State :=
  let x := planeOf s d
  let g := gmNodeOf s d
  let fresh := (nodeRoute s d g).map (fun (r : Route) => ((s.fab.node :: r.path).zip r.path, r.port))
  if g = x.gmNode then
    match x.pinned, fresh with
    | some (ls, _), some n =>
      if ls.all (linkStands s d) then s else routeChanged d (setPlane d (fun x => { x with pinned := some n }) s)
    | none, some n => setPlane d (fun x => { x with pinned := some n }) s
    | _, none => s
  else
    let s := setPlane d (fun y => { y with gmNode := g, pinned := fresh }) s
    if x.gmNode = 0 then s else routeChanged d s

/-- The traces of the last Sync and of the last Delay_Resp show an asymmetric route (15 R451). -/
def judgeTraces (d : Nat) (s : State) : State :=
  let p := planeOf s d
  match p.traces with
  | (some a, some b) =>
    let s' := setPlane d (fun p => { p with asym := a ≠ b }) s
    if a ≠ b && !p.asym then routeChanged d (record (Ev.routeAsymmetric + 256 * d) 3 [d] s') else s'
  | _ => s

/-- Mean path delay in 2^-32 s over the last 16 exchanges, none before the first. -/
def meanPath (x : Domain) : Option Int := if x.paths.isEmpty then none else some (x.paths.sum / (x.paths.length : Int))

/-- A complete Sync: origin and receive time in 2^-32 s. Its offset steers the servo when the domain is the source, else it is
kept as DOMAIN_OFFSET (R471, R472, R474). -/
def completeSync (d : Nat) (t1 t2 : Int) (s : State) : State :=
  let s := setDom d (fun x => { x with t12 := some (t1, t2), syncAt := some s.now, sync := none }) s
  match meanPath (domOf s d) with
  | none => judgeTime s
  | some path =>
    let off := toNs (t2 - t1 - path)
    if jumpLim s < (off.natAbs : Int) then
      let fresh := !(domOf s d).jumped
      let deg := (domOf s d).degraded.isSome
      if deg then judgeTime (setDom d (fun x => { x with offset := some off, jumped := true }) s)
      else if s.tim.st == .free && stepPermitted s then
        judgeTime (setDom d (fun x => { x with offset := some 0, jumped := false, t12 := none }) (bigOffset d off s).2)
      else
        let s := setDom d (fun x => { x with offset := some off, jumped := true, refused := some off }) s
        judgeTime (if fresh then (bigOffset d off s).2 else s)
    else
      let s := judgeTime (setDom d (fun x => { x with offset := some off, jumped := false }) s)
      if s.tim.src = d then acceptOffset off s else s

/-- A PTP message is of this module's domain on this plane. -/
def ptpFor (s : State) (d num : Nat) : Bool := d < 2 && ptpRuns s && num = domNumber s d

/-- Lexical order of two data sets. -/
def listLess : List Nat → List Nat → Bool
  | a :: l, b :: r => a < b || (a == b && listLess l r)
  | [], _ :: _ => true
  | _, [] => false

/-- This module's own data set when it may be grandmaster: PPS is the source and LOCKED (R470). Its accuracy and variance are
free values (notes/assumptions/45.md). -/
def ownDataSet (s : State) : Option (List Nat) :=
  if prm s Prm.timeGmEnable == 1 && s.tim.st == .locked && (s.tim.src = 2 || s.tim.src = 3) then
    some [prmN s Prm.ptpPriority1, 6, (Config.openValue "clockAccuracy" []).toNat, (Config.openValue "offsetScaledLogVariance" []).toNat,
          prmN s Prm.ptpPriority2]
  else none

/-- This module is a domain's master: it may be grandmaster, and no better one was heard within three intervals (R469, R470). -/
def leads (s : State) (d : Nat) : Bool := match ownDataSet s with
  | none => false
  | some o =>
    let x := domOf s d
    !((x.announceAt.map (fun a => decide (s.now ≤ a + sec 3))).getD false) || listLess (o ++ [s.core.serial, 0]) x.best

/-- ANNOUNCE (R469, R470): grandmaster identity, priority1, class, accuracy, variance, priority2, steps removed and
currentUtcOffset. The better data set becomes the domain's master; the old one is let go after three intervals. -/
def execAnnounce (t : Nat) (d num gm : Nat) (data : List Nat) (utc : Int) (s : State) : Host.Outcome State Fault Refusal :=
  timed t (fun s =>
    if !ptpFor s d num then s
    else
      let x := domOf s d
      let live := (x.announceAt.map (fun a => decide (s.now ≤ a + sec 3))).getD false
      let set := data.take 5 ++ [gm] ++ data.drop 5
      if live && x.gm ≠ gm && !listLess set x.best then s
      else pinRoute d (setDom d (fun x => { x with gm := gm, best := set, announceAt := some s.now, utc := utc }) s)) s

/-- SYNC (R469, R471): sequence, origin, receive time and correction in ns, TRACE of the frame; two-step waits for its
Follow_Up. -/
def execSync (t : Nat) (d num seq : Nat) (origin rx corr : Int) (twoStep : Bool) (trace : Nat) (s : State) :
    Host.Outcome State Fault Refusal :=
  timed t (fun s =>
    if !ptpFor s d num || leads s d then s
    else
      let s := judgeTraces d (setPlane d (fun p => { p with traces := (some trace, p.traces.2) }) s)
      if twoStep then setDom d (fun x => { x with sync := some (seq, rx, corr, trace) }) s
      else completeSync d (origin + ofNs corr) rx s) s

/-- FOLLOW_UP (R469): completes the two-step Sync of its sequence. -/
def execFollowUp (t : Nat) (d num seq : Nat) (origin corr : Int) (s : State) : Host.Outcome State Fault Refusal :=
  timed t (fun s =>
    if !ptpFor s d num then s
    else match (domOf s d).sync with
      | some (q, rx, c, _) => if q = seq then completeSync d (origin + ofNs (c + corr)) rx s else s
      | none => s) s

/-- DELAY_REQ (R469, R471): this module's own, stamped on transmit, or one it answers as the domain's grandmaster. -/
def execDelayReq (t : Nat) (d num seq : Nat) (own : Bool) (src : Nat) (corr : Int) (s : State) : Host.Outcome State Fault Refusal :=
  timed t (fun s =>
    if !ptpFor s d num then s
    else if own then
      emit (.ptp num "Delay_Req" [("seq", [seq])]) (setDom d (fun x => { x with req := some (seq, counterAt s s.now) }) s)
    else if leads s d then
      emit (.ptp num "Delay_Resp" [("seq", [seq]), ("to", [src]), ("receive", [counterAt s s.now]), ("correction", [corr])]) s
    else s) s

/-- DELAY_RESP (R471): the receive time at the master and the correction in ns give one path delay. -/
def execDelayResp (t : Nat) (d num seq : Nat) (rx corr : Int) (trace : Nat) (s : State) : Host.Outcome State Fault Refusal :=
  timed t (fun s =>
    if !ptpFor s d num then s
    else match (domOf s d).req with
      | some (q, t3) =>
        if q ≠ seq then s
        else
          let s := judgeTraces d (setPlane d (fun p => { p with traces := (p.traces.1, some trace) }) s)
          let path (t12 : Int × Int) : Int := ((t12.2 - t12.1) + (rx - ofNs corr - t3)) / 2
          let more (x : Domain) : List Int := ((x.t12.map (fun p => [path p])).getD [] ++ x.paths).take 16
          judgeTime (setDom d (fun x => { x with respAt := some s.now, req := none, paths := more x }) s)
      | none => s) s

/-- DOMAIN_LOSS (R472): no Sync or Delay_Resp for 1 s. -/
def execDomainLoss (t : Nat) (d : Nat) (s : State) : Host.Outcome State Fault Refusal :=
  timed t (fun s => if d < 2 then judgeTime s else s) s

/-- DOMAIN_DEGRADED_END (R475): 8 s from the last notification, not while ROUTE_ASYMMETRIC stands. -/
def execDomainDegradedEnd (t : Nat) (d : Nat) (s : State) : Host.Outcome State Fault Refusal :=
  timed t (fun s => match (domOf s d).degraded with
    | some e => if e ≤ s.now && !(planeOf s d).asym then judgeTime (setDom d (fun x => { x with degraded := none }) s) else s
    | none => s) s

/-- TIME_PREF_RETURN (R472): usable for 60 s. -/
def execTimePrefReturn (t : Nat) (s : State) : Host.Outcome State Fault Refusal := timed t judgeTime s

/-! ## PPS (R476, R477) -/

/-- PPS_EDGE (R476): input n, corrected and set against the nearest whole second. -/
def execPpsEdge (t : Nat) (n : Nat) (s : State) : Host.Outcome State Fault Refusal :=
  timed t (fun s =>
    if 2 ≤ n || s.core.mode == .shelf then s
    else
      let old := ppsOf s n
      let s := captureEdge (0x0F + n) true (stampNow s) s
      let corrected := counterAt s s.now - ofNs (prm s (Prm.ppsADelay + n))
      let off := toNs (signedOf 32 (corrected % 4294967296).toNat)
      let even := ((ppsOf s n).at_.map (fun a => decide (s.now ≤ a + 1000001000 ∧ a + 999999000 ≤ s.now))).getD false
      let s := setPps n (fun p =>
        let g := if even then min 4 (p.good + 1) else 1
        { p with good := g, valid := p.valid || g = 4, at_ := some s.now, offset := some off }) s
      if !timeRuns s then s
      else
        let big := decide (jumpLim s < (off.natAbs : Int))
        let wanted := (ppsOf s n).valid && prm s Prm.ppsMode == 1
        let again := old.valid && ((old.offset.map (fun o => decide (jumpLim s < (o.natAbs : Int)))).getD false)
        if big && wanted && again && !(s.tim.st == .free && stepPermitted s) then judgeTime s
        else if big && wanted then
          let p := bigOffset (2 + n) off s
          judgeTime (if p.1 then setPps n (fun x => { x with offset := some 0 }) p.2 else p.2)
        else
          let s := judgeTime s
          if s.tim.src = 2 + n then acceptOffset off s else s) s

/-- PPS_INVALID (R476): 1.5 s without an edge. -/
def execPpsInvalid (t : Nat) (n : Nat) (s : State) : Host.Outcome State Fault Refusal :=
  timed t (fun s =>
    if ((ppsOf s n).at_.map (fun a => decide (a + ms 1500 ≤ s.now))).getD false then
      judgeTime (setPps n (fun p => { p with valid := false, good := 0 }) s)
    else s) s

/-- A periodic trigger's grid holds an instant: within 2 ns of a multiple of its period plus its phase. -/
def onGrid (s : State) (g : Trigger) : Bool :=
  let r := (toNs (counterAt s s.now) - (g.phase : Int)) % (g.period : Int)
  decide (r ≤ 2) || decide ((g.period : Int) - 2 ≤ r)

/-- PPS-OUT is gated (R477). -/
def ppsGated (s : State) : Bool :=
  prm s Prm.ppsOutGate == 1 && (s.tim.st == .free || (s.tim.st == .holdover && s.tim.untraceable))

/-- PPS_OUT (R477): at a whole second, for 100 ms, unless gated or in Shelf. -/
def execPpsOut (t : Nat) (s : State) : Host.Outcome State Fault Refusal :=
  timed t (fun s =>
    let s := judgeTrace s
    if !onGrid s { period := sec 1 } then s
    else if s.core.mode == .shelf || ppsGated s then { s with tim.ppsOut := false }
    else emit (.pulse "PPS-OUT" (ms 100)) { s with tim.ppsOut := true }) s

/-! ## Triggers (R482, R483) -/

/-- A trigger fires now. -/
def triggerDue (s : State) (g : Trigger) : Bool :=
  if g.period = 0 then decide (diff48 g.time (stampNow s) ≤ 0)
  else onGrid s g && !cadenceHeld s

/-- The clockClass announced: 6 where the module offers itself as grandmaster, else 255 (R470). -/
def clockClass (s : State) : Nat := if (ownDataSet s).isSome then 6 else 255

/-- The PTP trigger of a domain, 16 for A and 17 for B, every 1/16 s: a master sends a two-step Sync, and a module with
TIME_GM_ENABLE 1 announces at every whole second (R469, R470). -/
def ptpSend (n : Nat) (s : State) : State :=
  let d := n - 16
  let num := domNumber s d
  let q := (s.tim.trig.getD n {}).fired % 65536
  if n < 16 || 17 < n || !ptpRuns s then s
  else
    let s := if leads s d then
        emit (.ptp num "Follow_Up" [("seq", [q]), ("origin", [counterAt s s.now])]) (emit (.ptp num "Sync" [("seq", [q]), ("twoStep", [1])]) s)
      else s
    if prm s Prm.timeGmEnable == 1 && onGrid s { period := sec 1 } then
      emit (.ptp num "Announce" [("clockClass", [clockClass s]), ("priority1", [prm s Prm.ptpPriority1]),
        ("priority2", [prm s Prm.ptpPriority2]), ("identity", [s.core.serial])]) s
    else s

/-- TRIGGER_FIRE (R482): a strobe to the trigger's island; a one-shot trigger is spent; the triggers of PTP send. -/
def execTriggerFire (t : Nat) (n : Nat) (s : State) : Host.Outcome State Fault Refusal :=
  timed t (fun s =>
    let g := s.tim.trig.getD n {}
    if n < 32 && g.on && s.core.mode != .shelf && triggerDue s g then
      let s := { s with tim.trig := s.tim.trig.modify n (fun g => { g with fired := (g.fired + 1) % 2 ^ 32, on := g.period ≠ 0 }),
                        tim.restartAt := if g.period = 0 then s.tim.restartAt else none }
      ptpSend n (emit (.strobe g.island n) s)
    else s) s

/-! ## Commands (R486) and stopping (R487) -/

/-- TIME_STATUS fields. -/
def timeStatus (s : State) : Payload :=
  .fields ([("counter", [(stampNow s : Int)]), ("state", [s.tim.st.code]), ("source", [(s.tim.src : Int)]),
    ("error", [(((timeError s).getD 0xFFFFFFFF : Nat) : Int)]), ("TIME_UNTRACEABLE", [flag s.tim.untraceable])] ++
    s.tim.dom.map (fun x => ("domain", [(x.gm : Int)] ++ optInts x.offset ++ optInts ((meanPath x).map toNs) ++
      [flag x.usableSince.isSome, flag x.degraded.isSome, ((x.degraded.getD 0 - s.now : Nat) : Int)] ++ optInts x.refused ++ [x.utc])) ++
    s.tim.pps.map (fun p => ("PPS", [flag p.valid] ++ optInts p.offset)) ++
    [("EDGE_LOST", s.tim.lost.map (fun (n : Nat) => (n : Int)))])

/-- TIME_STATUS. -/
def execTimeStatus (t : Nat) (m : Nat) (s : State) : Host.Outcome State Fault Refusal :=
  timed t (serve m Cmd.timeStatus (statusHandler timeStatus)) s

/-- The 12 bytes of an edge entry (R481). -/
def edgeBytes (e : Edge) : List Byte := leBytes 1 e.src ++ leBytes 1 e.edge ++ leBytes 2 0 ++ leBytes 8 e.stamp

/-- TIME_EDGES: entries from a sequence on. -/
def execTimeEdges (t : Nat) (m : Nat) (s : State) : Host.Outcome State Fault Refusal :=
  timed t (serve m Cmd.timeEdges (fun r => withLength 5 (fun p s =>
    let n := byteAt p 4
    if n = 0 || 64 < n then refuse (argReply r.command 4) s
    else
      let from_ := leAt p 0 4
      okWith (.bytes (((s.tim.edges.filter (fun e => (e.seq + 2 ^ 32 - from_) % 2 ^ 32 < 2 ^ 31)).take n).flatMap edgeBytes)) s) r)) s

/-- What refuses a step (R478). -/
def stepBlock (s : State) : Option Nat :=
  if anyEnergised s then some Ev.contactors
  else if pairMode s && s.pair.role ≠ 0 then some Ev.pairRole
  else none

/-- The offset in ns of the selected source, none for the oscillator. -/
def sourceOffset (s : State) : Option Int :=
  if s.tim.src < 2 then (domOf s s.tim.src).offset
  else if s.tim.src < 4 then (ppsOf s (s.tim.src - 2)).offset
  else none

/-- TIME_RESYNC (R478). -/
def execTimeResync (t : Nat) (m : Nat) (s : State) : Host.Outcome State Fault Refusal :=
  timed t (serve m Cmd.timeResync (withLength 0 (fun _ s => match stepBlock s, sourceOffset s with
    | some c, _ => refuse (guardReply c) s
    | none, none => refuse (guardReply Ev.timeState) s
    | none, some o =>
      let d := s.tim.src
      let s := stepCounter (counterAt s s.now - ofNs o) s
      let s := if d < 2 then setDom d (fun x => { x with offset := some 0, t12 := none }) s
               else setPps (d - 2) (fun x => { x with offset := some 0 }) s
      ok s))) s

/-- TIME_SET (R478, R486): only while no domain and no PPS is usable. -/
def execTimeSet (t : Nat) (m : Nat) (s : State) : Host.Outcome State Fault Refusal :=
  timed t (serve m Cmd.timeSet (withLength 8 (fun p s => match stepBlock s with
    | some c => refuse (guardReply c) s
    | none =>
      if (List.range 2).any (fun d => (domOf s d).usableSince.isSome || ppsGood s d) then refuse (guardReply Ev.timeState) s
      else ok (stepCounter (leAt p 0 8) s)))) s

/-- STOP of the time function (R487): HOLDOVER, or FREE. -/
def timeStop (s : State) : State := selectSource { s with tim.servo := false }

/-- RESTART of the time function (R487): the domains are re-acquired. -/
def timeRestart (s : State) : State :=
  let fresh (x : Domain) : Domain := { x with sync := none, t12 := none, syncAt := none, req := none, respAt := none, paths := [],
                                              offset := none, jumped := false, usableSince := none, announceAt := none }
  judgeTime { s with tim.servo := true, tim.dom := s.tim.dom.map fresh }

end Sys2Proof.Machine
end

