-- ==== Sys2Proof/Machine/Fabric.lean ====
section
/-!
DEFINITION. Machine/Fabric.lean: hellos and adjacency, advertisements, routes, planes, frames and flows of the Dexuf fabric
(15 R431 to R462).
-/

namespace Sys2Proof.Machine

open Sys2Proof

/-! ## Plane condition (R450) -/

/-- No adjacency on the plane, or no route to an address in SAFE_MASTERS other than this node's own. -/
def planeFailing (s : State) (p : Nat) : Bool :=
  (planeOf s p).port.all (fun x => !x.adj) || (masters s).any (fun a => a ≠ s.fab.node && (routeTo s p a).isNone)

/-- Note since when the plane's condition holds. -/
def judgePlane (p : Nat) (s : State) : State :=
  let f := planeFailing s p
  setPlane p (fun x => if x.cond.1 = f then x else { x with cond := (f, s.now) }) s

/-! ## Adjacency (R434, R440, R443) -/

/-- The next advertisement of a plane carries a change. -/
def planeChanged (p : Nat) (s : State) : State := setPlane p (fun x => { x with changed := true }) s

/-- A port stops being adjacent (R443). -/
def dropAdj (p k : Nat) (s : State) : State :=
  let was := (portOf s p k).adj
  let s := setPort p k (fun x => { x with adj := false, good := 0 }) s
  if was then judgePlane p (planeChanged p s) else s

/-- A port becomes adjacent after three hellos in a row (R443). -/
def judgeAdj (p k : Nat) (s : State) : State :=
  let x := portOf s p k
  if !x.adj && 3 ≤ x.good && !x.multi then judgePlane p (planeChanged p (setPort p k (fun x => { x with adj := true }) s)) else s

/-- The other claimant of this node's address has another serial (R440): DUPLICATE_ADDRESS; the lower serial moves, a
provisional node to the next provisional address, a configured one to its provisional address. Mailboxes bound to the address
are let go (R459). -/
def duplicateAddress (p serial : Nat) (s : State) : State :=
  let a := s.fab.node
  let s := if s.fab.duplicate then s else record (Ev.duplicateAddress + 256 * p) 3 [a] { s with fab.duplicate := true }
  let s := eachDo (List.range 6) (fun m s => if (mbxOf s m).bound.map (·.1) == some (Source.fabric a) then endBinding m s else s) s
  if serial < s.core.serial then s
  else changeNode (if s.fab.provisional then 0x0300 + (a + 1) % 256 else 0) s

/-- A node uses the string address: this module withdraws it (R440). -/
def judgeString (p node : Nat) (s : State) : State :=
  if prmN s Prm.stringAddr = node && node ≠ 0 && !s.fab.strWithdrawn then
    markChanged (record (Ev.duplicateAddress + 256 * p) 3 [node] { s with fab.strWithdrawn := true, fab.duplicate := true })
  else s

/-- Note a node heard on a port; more than one within 1 s is MULTI_NEIGHBOUR and drops the adjacency (R434). -/
def noteHeard (p k node : Nat) (s : State) : State :=
  let l := (node, s.now) :: ((portOf s p k).heard.filter (fun e => e.1 ≠ node && s.now < e.2 + sec 1))
  let was := (portOf s p k).multi
  let now := decide (1 < l.length)
  let s := setPort p k (fun x => { x with heard := l, multi := now }) s
  if now && !was then dropAdj p k (record (Ev.multiNeighbour + 256 * p) 3 [k] s)
  else if now then dropAdj p k s
  else s

/-- One step of the link-delay exchange (R444): this hello's TX_PREV closes the exchange that an earlier one opened, its
RX_LAST opens the next. -/
def linkExchange (h : List Byte) (x : Port) : Port :=
  let back : Option Int :=
    if leAt h 26 8 = 0 then none
    else (x.rcvd.find? (fun e => e.1 = leAt h 34 2)).map (fun e => (e.2 : Int) - leAt h 26 8)
  let out : Option Int := (x.sent.find? (fun e => e.1 = leAt h 24 2 && leAt h 16 8 ≠ 0)).map (fun e => (leAt h 16 8 : Int) - e.2)
  let x := match x.halfOut, back with
    | some o, some b => { x with delays := (toNs ((o + b) / 2) :: x.delays).take 16, halfOut := none }
    | _, _ => x
  match out with
  | some o => { x with halfOut := some o }
  | none => x

/-- A hello's 40 bytes are well formed for its port (R442). -/
def helloFormed (p : Nat) (h : List Byte) : Bool :=
  h.length == 40 && leAt h 36 4 == 0 && byteAt h 3 < 16 && byteAt h 2 / 128 == p && byteAt h 2 % 128 < 4

/-- A hello from another node (R442 to R444). -/
def takeHello (p k : Nat) (h : List Byte) (s : State) : State :=
  let node := leAt h 0 2
  let fl := byteAt h 3
  let same := ((portOf s p k).nbr.map (·.1)) == some node
  let mine := leAt h 14 2 == s.fab.node
  let s := judgeString p node (noteHeard p k node s)
  let s := if same then s else dropAdj p k (setPort p k (fun x => { x with rcvd := [], delays := [], halfOut := none }) s)
  let s := setPort p k (fun x =>
    let x := linkExchange h x
    { x with link := true, nbr := some (node, leAt h 4 8), stub := bitOf fl 1, dormant := bitOf fl 3, helloAt := some s.now,
             rcvd := ((leAt h 12 2, stampNow s) :: x.rcvd).take 16,
             good := if mine then min 3 (x.good + 1) else 0 }) s
  if bitOf fl 2 then dropAdj p k s else judgeAdj p k s

/-- HELLO_SEND (R442): the hello of an enabled port. -/
def execHelloSend (t : Nat) (p k : Nat) (s : State) : Host.Outcome State Fault Refusal :=
  timed t (fun s => sendHello p k false s) s

/-- HELLO (R434, R440, R442 to R444): the 40-byte payload received on a port. -/
def execHello (t : Nat) (p k : Nat) (h : List Byte) (s : State) : Host.Outcome State Fault Refusal :=
  timed t (fun s =>
    if !portOn s p k || !helloFormed p h then s
    else if leAt h 0 2 = s.fab.node && leAt h 4 8 ≠ s.core.serial then duplicateAddress p (leAt h 4 8) s
    else if leAt h 4 8 = s.core.serial then s
    else takeHello p k h s) s

/-- HELLO_DEAD (R443): that many hello periods without a hello. -/
def execHelloDead (t : Nat) (p k : Nat) (s : State) : Host.Outcome State Fault Refusal :=
  timed t (fun s =>
    if isPort p k && heldOpt s (portOf s p k).helloAt (ms 100 * prmN s (Prm.helloDead + 256 * p)) then
      dropAdj p k (setPort p k (fun x => { x with nbr := none, rcvd := [], delays := [], halfOut := none }) s)
    else s) s

/-- PCS_SYNC_LOSS (R443): the port's physical coding sublayer has lost synchronisation. -/
def execPcsSyncLoss (t : Nat) (p k : Nat) (s : State) : Host.Outcome State Fault Refusal :=
  timed t (fun s =>
    if isPort p k then
      dropAdj p k (setPort p k (fun x => { x with link := false, nbr := none, rcvd := [], delays := [], halfOut := none }) s)
    else s) s

/-! ## Advertisements (R445, R448) -/

/-- Adjacencies of a plane as advertised. -/
def ownAdjacencies (s : State) (p : Nat) : List LsaAdj :=
  [1, 2, 3].filterMap (fun k =>
    let x := portOf s p k
    if x.adj then x.nbr.map (fun n => ⟨n.1, k, x.stub, portDelay x⟩) else none)

/-- Some neighbour lies in another segment (R448). -/
def isBorder (s : State) (p : Nat) : Bool :=
  (ownAdjacencies s p).any (fun a => !a.stub && segmentOf a.node ≠ segmentOf s.fab.node)

/-- Segments this node reaches over neighbours of other segments, with the distance in hops (R448). -/
def ownSummaries (s : State) (p : Nat) : List (Nat × Nat) :=
  if !isBorder s p then []
  else (List.range 64).filterMap (fun g =>
    if g = segmentOf s.fab.node then none
    else ((ownReach s p g).foldl (fun b c => match b with
      | none => some c.1
      | some d => some (min d c.1)) (none : Option Nat)).bind (fun d => if d ≤ 16 then some (g, d) else none))

/-- This node's advertisement for a plane (R445). -/
def ownLsa (s : State) (p seq : Nat) : Lsa :=
  { origin := s.fab.node,
    flags := bit s.fab.provisional 0 + bit (isBorder s p) 1 + bit (s.core.mode == .dormant) 2,
    serial := s.core.serial, seq := seq, adj := ownAdjacencies s p,
    str := if advertises s then some (prmN s Prm.stringAddr, claimCode s) else none,
    seg := ownSummaries s p }

/-- The payload of an advertisement (R445). -/
def lsaBytes (a : Lsa) : List Byte :=
  leBytes 2 a.origin ++ leBytes 2 a.flags ++ leBytes 8 a.serial ++ leBytes 4 a.seq ++ leBytes 1 a.adj.length ++
  leBytes 1 (if a.str.isSome then 1 else 0) ++ leBytes 1 a.seg.length ++ [0] ++
  a.adj.flatMap (fun x => leBytes 2 x.node ++ leBytes 1 (x.port + bit x.stub 7) ++ [0] ++ leBytes 4 x.delay) ++
  (match a.str with
    | some (x, c) => leBytes 2 x ++ leBytes 4 c
    | none => []) ++
  a.seg.flatMap (fun x => leBytes 1 x.1 ++ leBytes 1 x.2)

/-- Flood an advertisement on every adjacent port but one (R445). -/
def flood (p not : Nat) (a : Lsa) (s : State) : State :=
  let b := lsaBytes a
  sendInFlow 0xFFFF 1 (fun seq s =>
    let body := fabricHead s p 2 1 false false 16 0xFFFF seq b.length ++ b
    eachDo [1, 2, 3] (fun k s => if k ≠ not && (portOf s p k).adj then onPort p k 1 body s else s) s) s

/-- Put an advertisement into the database. -/
def storeLsa (p : Nat) (a : Lsa) (s : State) : State :=
  setPlane p (fun x => { x with lsdb := x.lsdb.filter (fun e => e.1.origin ≠ a.origin) ++ [(a, s.now)] }) s

/-- An own advertisement is due: 1 s after the last, or a change at least 100 ms after it (R445). -/
def floodDue (s : State) (p : Nat) : Bool := match (planeOf s p).floodAt with
  | none => true
  | some a => a + sec 1 ≤ s.now || ((planeOf s p).changed && a + ms 100 ≤ s.now)

/-- A plane's engine floods and routes: its function runs, powered, with some port on. -/
def planeOn (s : State) (p : Nat) : Bool := [1, 2, 3].any (portOn s p)

/-- LSA_SEND (R445). -/
def execLsaSend (t : Nat) (p : Nat) (s : State) : Host.Outcome State Fault Refusal :=
  timed t (fun s =>
    if p < 2 && planeOn s p && floodDue s p then
      let n := ((planeOf s p).lsaSeq + 1) % 2 ^ 32
      let a := ownLsa s p n
      flood p 0 a (storeLsa p a (setPlane p (fun x => { x with lsaSeq := n, floodAt := some s.now, changed := false }) s))
    else s) s

/-- A sequence is newer by a signed 32-bit difference (R445). -/
def newerSeq (a b : Nat) : Bool := 0 < signedOf 32 ((a + 2 ^ 32 - b % 2 ^ 32) % 2 ^ 32)

/-- LSA (R440, R445): an advertisement received on an adjacent port. -/
def execLsa (t : Nat) (p k : Nat) (a : Lsa) (s : State) : Host.Outcome State Fault Refusal :=
  timed t (fun s =>
    if !portOn s p k || !(portOf s p k).adj then s
    else if a.origin = s.fab.node then
      if a.serial ≠ s.core.serial then duplicateAddress p a.serial s
      else if newerSeq a.seq (planeOf s p).lsaSeq then setPlane p (fun x => { x with lsaSeq := a.seq, changed := true }) s
      else s
    else
      let fresh := match (planeOf s p).lsdb.find? (fun e => e.1.origin = a.origin) with
        | some e => newerSeq a.seq e.1.seq
        | none => true
      if fresh then flood p k a (storeLsa p a (judgeString p a.origin s)) else s) s

/-- LSA_AGE_OUT (R445): a copy not refreshed for 3.5 s is removed. -/
def execLsaAgeOut (t : Nat) (p origin : Nat) (s : State) : Host.Outcome State Fault Refusal :=
  timed t (fun s => setPlane p (fun x =>
    { x with lsdb := x.lsdb.filter (fun e => e.1.origin ≠ origin || s.now < e.2 + ms 3500) }) s) s

/-! ## Routes (R446 to R451) -/

/-- A better route to the same node: fewer hops, lower delay, lower first neighbour (R446). -/
def betterRoute (a b : Route) : Bool := betterReach (a.hops, a) (b.hops, b)

/-- Add a route when none to its node stands or it is better. -/
def addRoute (l : List Route) (r : Route) : List Route :=
  if l.any (fun x => x.dest = r.dest && !betterRoute r x) then l else l.filter (fun x => x.dest ≠ r.dest) ++ [r]

/-- Routes to neighbours. -/
def firstRoutes (s : State) (p : Nat) : List Route :=
  (ownAdjacencies s p).foldl (fun l a => addRoute l ⟨a.node, a.port, a.node, 1, a.delay, [a.node]⟩) []

/-- A node may carry transit: of this segment, not a stub, not DORMANT (R446). -/
def transits (s : State) (p n : Nat) : Bool :=
  segmentOf n = segmentOf s.fab.node &&
  !((planeOf s p).port.any (fun x => x.adj && (x.nbr.map (·.1)) == some n && (x.stub || x.dormant))) &&
  (planeOf s p).lsdb.any (fun e => e.1.origin = n && !bitOf e.1.flags 2)

/-- The routes one hop beyond a route. -/
def beyond (s : State) (p : Nat) (r : Route) : List Route :=
  if !transits s p r.dest then []
  else ((planeOf s p).lsdb.filter (fun e => e.1.origin = r.dest)).flatMap (fun e =>
    (e.1.adj.filter (fun a => a.node ≠ s.fab.node && segmentOf a.node = segmentOf s.fab.node)).map (fun a =>
      ⟨a.node, r.port, r.via, r.hops + 1, r.delay + a.delay, r.path ++ [a.node]⟩))

/-- Extend the routes by one hop at a time: `edge` holds the routes of the last hop count. -/
def growRoutes (s : State) (p : Nat) : Nat → List Route → List Route → List Route
  | 0, known, _ => known
  | n + 1, known, edge =>
    let next := ((edge.flatMap (beyond s p)).filter (fun r => known.all (fun x => x.dest ≠ r.dest))).foldl addRoute []
    growRoutes s p n (known ++ next) next

/-- The routes of a plane, at most 16 hops (R446, R448). -/
def routesOf (s : State) (p : Nat) : List Route := growRoutes s p 15 (firstRoutes s p) (firstRoutes s p)

/-- A flow of TC3 or TC4 follows FABRIC_PREF; it moves when that plane has no route, and its return is timed (R455). -/
def moveFlow (s : State) (f : Flow) : Flow :=
  if f.cls < 3 then f
  else
    let q := prmN s Prm.fabricPref
    if (routeTo s q f.addr).isNone then { f with plane := 1 - q, backSince := none }
    else if f.plane = q then { f with backSince := none }
    else { f with backSince := some (f.backSince.getD s.now) }

/-- Move the flows after a change of routes. -/
def moveFlows (s : State) : State := { s with fab.flows := s.fab.flows.map (moveFlow s) }

/-- ROUTE_COMPUTE (R446, R449 to R451, R455). -/
def execRouteCompute (t : Nat) (p : Nat) (s : State) : Host.Outcome State Fault Refusal :=
  timed t (fun s =>
    if p < 2 && running s (0x0C + p) then
      pinRoute p (moveFlows (judgePlane p (setPlane p (fun x => { x with routes := routesOf s p }) s)))
    else s) s

/-- FLOW_RETURN (R455): 1 s after the route returned the flow moves back. -/
def execFlowReturn (t : Nat) (addr cls : Nat) (s : State) : Host.Outcome State Fault Refusal :=
  timed t (fun s => { s with fab.flows := s.fab.flows.map (fun f =>
    if f.addr = addr && f.cls = cls && heldOpt s f.backSince (sec 1) && (routeTo s (prmN s Prm.fabricPref) addr).isSome then
      { f with plane := prmN s Prm.fabricPref, backSince := none } else f) }) s

/-- PLANE_FAILED (R450). -/
def execPlaneFailed (t : Nat) (p : Nat) (s : State) : Host.Outcome State Fault Refusal :=
  timed t (fun s =>
    let s := if p < 2 then judgePlane p s else s
    let x := planeOf s p
    if p < 2 && s.core.mode != .shelf && x.cond.1 && !x.failed && heldFor s x.cond.2 (ms 100) then
      record (Ev.planeFailed + 256 * p) 3 [] (setPlane p (fun x => { x with failed := true, declaredAt := s.now }) s)
    else s) s

/-- PLANE_UP (R450). -/
def execPlaneUp (t : Nat) (p : Nat) (s : State) : Host.Outcome State Fault Refusal :=
  timed t (fun s =>
    let s := if p < 2 then judgePlane p s else s
    let x := planeOf s p
    if p < 2 && !x.cond.1 && x.failed && heldFor s x.cond.2 (ms 100) then
      setPlane p (fun x => { x with failed := false, declaredAt := s.now }) s
    else s) s

/-! ## Frames (R432 to R437, R447, R452, R456) -/

/-- The payload of a frame. -/
def framePayload (b : List Byte) : List Byte := (b.drop 16).take (leAt b 10 2)

/-- A type travels in this class (R436); safety messages are always DUAL. -/
def classMatches (type cls : Nat) (dual : Bool) (pay : List Byte) : Bool :=
  match type with
  | 1 | 2 | 6 => cls = 1
  | 3 => cls = 3 || (cls = 2 && dual && byteAt pay 0 = 1 && leAt pay 2 2 = Cmd.spSet)
  | 4 => cls = 0 && dual
  | 5 => (cls = 0 && byteAt pay 0 = 1) || (cls = 4 && byteAt pay 0 = 2) || (byteAt pay 0 = 4 && (cls = 0 || cls = 4))
  | 7 | 8 => cls = 4
  | _ => false

/-- The header of a frame is good (R435, R436). -/
def headerGood (b : List Byte) : Bool :=
  let c := byteAt b 1
  byteAt b 0 = 1 && c / 64 = 0 && c % 8 ≤ 4 && leAt b 14 2 = 0 && leAt b 10 2 ≤ 1232 && leAt b 10 2 + 16 ≤ b.length &&
    classMatches (byteAt b 3) (c % 8) (bitOf c 3) (framePayload b)

/-- Count a received frame in its flow: a gap when FLOW_SEQ advances by more than 1; in TC2 a copy among the last 64 is a
duplicate (R455, R456). -/
def countReceived (seq : Nat) (f : Flow) : Flow :=
  if f.cls = 2 && f.recent.contains seq then { f with dups := f.dups + 1 }
  else
    let d := (f.rx.map (fun r => (seq + 65536 - r) % 65536)).getD 1
    { f with rx := some seq, gaps := if 1 < d && d < 32768 then f.gaps + 1 else f.gaps,
             dups := if d = 0 then f.dups + 1 else f.dups, recent := (seq :: f.recent).take 64 }

/-- Type and length without TLVs of the messages that the module supports: Sync, Delay_Req, Follow_Up, Delay_Resp and Announce (16
R469; the numbers PRESUMED, IEEE 1588, notes/assumptions/29.md). -/
def ptpMessages : List (Nat × Nat) := [(0, 44), (1, 44), (8, 44), (9, 54), (11, 64)]

/-- A PTP message of a type that the module does not support, or TLVs after one that it does, are ignored and counted (16 R469). -/
def countPtp (b : List Byte) (s : State) : State :=
  let known := ptpMessages.any (fun m => m.1 = byteAt b 16 % 16 && leAt b 10 2 ≤ m.2)
  if byteAt b 3 = 6 && !known then
    { s with tim.unsupported := (s.tim.unsupported + 1) % 2 ^ 32 }
  else s

/-- A frame reaches this module: its flow is created or counted (R456). -/
def receiveFrame (b : List Byte) (s : State) : State :=
  let s := countPtp b s
  (useFlow (leAt b 6 2) (byteAt b 1 % 8) (countReceived (leAt b 8 2)) s).2

/-- Replace `n` bytes at an offset. -/
def patchBytes (l : List Byte) (o : Nat) (n : List Byte) : List Byte := l.take o ++ n ++ l.drop (o + n.length)

/-- The residence time enters the correctionField of an event message of the plane's domain (R452): signed, in 2^-16 ns, big
end first at offset 8 of the message. -/
def addResidence (s : State) (p residence : Nat) (b : List Byte) : List Byte :=
  if byteAt b 3 = 6 && byteAt b 16 % 16 ≤ 3 && byteAt b 20 = domNumber s p then
    let c := leAt ((b.drop 24).take 8).reverse 0 8
    patchBytes b 24 (leBytes 8 (c + residence * 65536)).reverse
  else b

/-- The frame as it leaves: HOPS_LEFT one less, the arrival link's ID added to TRACE (R437). -/
def passedOn (s : State) (p k residence : Nat) (b : List Byte) : List Byte :=
  let id := linkId s.fab.node (((portOf s p k).nbr.map (·.1)).getD 0)
  let b := patchBytes b 2 (leBytes 1 (byteAt b 2 - 1))
  addResidence s p residence (patchBytes b 12 (leBytes 2 ((leAt b 12 2 + id) % 65536)))

/-- Send a frame in transit on a port; stub hosts receive only what is theirs. -/
def transitOn (p out k residence : Nat) (b : List Byte) (s : State) : State :=
  onPort p out (byteAt b 1 % 8) (passedOn s p k residence b) s

/-- This module carries transit traffic: not in Dormant (R458). -/
def carriesTransit (s : State) : Bool := s.core.mode != .dormant

/-- Pass a frame on (R437, R447). -/
def forwardFrame (p k residence : Nat) (b : List Byte) (s : State) : State :=
  let dst := leAt b 4 2
  let type := byteAt b 3
  if !carriesTransit s || type = 1 || type = 2 then s
  else if dst = 0xFFFF then
    let back := (routeTo s p (leAt b 6 2)).map (·.port)
    if back = some k && byteAt b 2 ≠ 0 then
      eachDo [1, 2, 3] (fun i s => if i ≠ k && (portOf s p i).adj then transitOn p i k residence b s else s) s
    else s
  else if byteAt b 2 = 0 then setPort p k (fun x => { x with hopExpired := x.hopExpired + 1 }) s
  else match routeTo s p dst with
    | some r => transitOn p r.port k residence b s
    | none => setPort p k (fun x => { x with drops := x.drops.modify (byteAt b 1 % 8) (· + 1) }) s

/-- FABRIC_FRAME_RECEIVE (R432 to R437, R447, R452, R456): checks, counts, delivery into its flow, and passing on. What a
delivered payload does is the row of that payload (HELLO, LSA, REQUEST, PLANT_STOP, HEARTBEAT, SYNC, …). -/
def execFabricFrameReceive (t : Nat) (p k : Nat) (f : FabFrame) (s : State) : Host.Outcome State Fault Refusal :=
  timed t (fun s =>
    if !portOn s p k then s
    else if !f.fcsOk || f.body.length + 18 < 64 || 1266 < f.body.length + 18 then
      setPort p k (fun x => { x with crcErrors := x.crcErrors + 1 }) s
    else if f.tagged then setPort p k (fun x => { x with tagged := x.tagged + 1 }) s
    else if !f.addressed || f.ethertype ≠ prmN s Prm.fabricEthertype then
      setPort p k (fun x => { x with foreign := x.foreign + 1 }) s
    else if !headerGood f.body then
      setPort p k (fun x => { x with badHeader := x.badHeader.modify (min 4 (byteAt f.body 1 % 8)) (· + 1) }) s
    else if (portOf s p k).multi && byteAt f.body 3 ≠ 1 then s
    else
      let dst := leAt f.body 4 2
      let s := if forThisNode s dst then receiveFrame f.body s else s
      if forThisNode s dst && dst ≠ 0xFFFF then s else forwardFrame p k f.residence f.body s) s

/-! ## Commands (R462) -/

/-- Serve a plane command: the pending request is operation `op` of function 0x0C or 0x0D. -/
def servePlane (m op : Nat) (h : Nat → Request → State → Answer × State) (s : State) : State :=
  serve m (0x0D00 + op) (h 1) (serve m (0x0C00 + op) (h 0) s)

/-- FAB_STATUS: the fields of a port. -/
def portFields (s : State) (p k : Nat) : String × List Int :=
  let x := portOf s p k
  ("port", [(k : Int), (Config.portMac p k : Int), flag x.link, flag x.adj] ++ optNat (x.nbr.map (·.1)) ++ optNat (x.nbr.map (·.2)) ++
    [(portDelay x : Int)] ++ x.sfp.map (fun (v : Nat) => (v : Int)) ++ x.queue.map (fun (v : Nat) => (v : Int)) ++
    x.drops.map (fun (v : Nat) => (v : Int)) ++ x.badHeader.map (fun (v : Nat) => (v : Int)))

/-- FAB_STATUS (R462). -/
def execFabStatus (t : Nat) (m : Nat) (s : State) : Host.Outcome State Fault Refusal :=
  timed t (servePlane m 0x10 (fun p => statusHandler (fun s =>
    .fields ([("node", [(s.fab.node : Int), flag s.fab.provisional]), ("plane", [flag (planeOf s p).failed])] ++
      [1, 2, 3].map (portFields s p))))) s

/-- FAB_ROUTES: the fields of a destination. -/
def routeFields (s : State) (p a : Nat) : Option (String × List Int) :=
  (nodeRoute s p a).map (fun r => ("route", [(a : Int), r.port, r.hops, r.delay, flag ((planeOf s p).gmNode = a && (planeOf s p).pinned.isSome)]))

/-- FAB_ROUTES (R462): start address and count. -/
def execFabRoutes (t : Nat) (m : Nat) (s : State) : Host.Outcome State Fault Refusal :=
  timed t (servePlane m 0x11 (fun p r => withLength 3 (fun b s =>
    if byteAt b 2 = 0 || 64 < byteAt b 2 then refuse (argReply r.command 2) s
    else okWith (.fields ((List.range (byteAt b 2)).filterMap (fun i => routeFields s p (leAt b 0 2 + i)))) s) r)) s

/-- FAB_LSDB (R462): an originator's advertisement as held, with its age; none held is BAD_ARGUMENT. -/
def execFabLsdb (t : Nat) (m : Nat) (s : State) : Host.Outcome State Fault Refusal :=
  timed t (servePlane m 0x12 (fun p r => withLength 2 (fun b s =>
    match (planeOf s p).lsdb.find? (fun e => e.1.origin = leAt b 0 2) with
    | some e => okWith (.fields [("age", [((s.now - e.2 : Nat) : Int)]),
        ("lsa", (lsaBytes e.1).map (fun x => (x.toNat : Int)))]) s
    | none => refuse (argReply r.command 0) s) r)) s

/-- A flow's fields. -/
def flowFields (f : Flow) : String × List Int :=
  ("flow", [(f.addr : Int), f.cls, f.tx] ++ optNat f.rx ++ [(f.plane : Int), f.frames, f.gaps, f.dups])

/-- FAB_FLOWS (R462): the entries both planes share. -/
def execFabFlows (t : Nat) (m : Nat) (s : State) : Host.Outcome State Fault Refusal :=
  timed t (servePlane m 0x13 (fun _ => statusHandler (fun s => .fields (("full", [(s.fab.full : Int)]) :: s.fab.flows.map flowFields)))) s

/-- Clear a port's counters. -/
def clearPort (x : Port) : Port :=
  { x with foreign := 0, tagged := 0, crcErrors := 0, badHeader := List.replicate 5 0, drops := List.replicate 5 0,
           hopExpired := 0, tc0Over := 0, tc0Drop := 0 }

/-- FAB_CLEAR_COUNTERS (R462). -/
def execFabClearCounters (t : Nat) (m : Nat) (s : State) : Host.Outcome State Fault Refusal :=
  timed t (servePlane m 0x14 (fun p => withLength 0 (fun _ s =>
    ok (setPlane p (fun x => { x with port := x.port.map clearPort }) s)))) s

/-! ## Withdrawing and returning (R458) -/

/-- Withdraw a port: a hello with WITHDRAW, then only idle. -/
def withdrawPort (p k : Nat) (s : State) : State :=
  setPort p k (fun x => { x with quiet := true }) (dropAdj p k (sendHello p k true s))

/-- A plane stops: every port is withdrawn, its routes end with its adjacencies, and the flows of TC3 and TC4 move to the other plane
(R455, R458; 01 R34). -/
def closePlane (p : Nat) (s : State) : State :=
  let s := eachDo [1, 2, 3] (fun k s => withdrawPort p k s) s
  moveFlows (judgePlane p (setPlane p (fun x => { x with routes := [] }) s))

/-- Ports carry traffic again. -/
def openPorts (p : Nat) (s : State) : State :=
  setPlane p portsAwake s

/-- Entry to Dormant (R458): pair-standby keeps FA1 and FB1, isolated and Shelf withdraw every port. -/
def withdrawFor (standby : Bool) (s : State) : State :=
  eachDo allPorts (fun q s => if standby && q.2 = 1 then s else withdrawPort q.1 q.2 s) s

end Sys2Proof.Machine
end

