-- ==== Sys2Proof/Machine/Estimation.lean ====
section
/-!
DEFINITION. Machine/Estimation.lean: the cell contexts: their model and filters, the division of phasors and the internal
temperature, the update period, and the commands of the estimation function (04 R105 to R135, R568; 05 R151 to R157).
-/

namespace Sys2Proof.Machine

open Sys2Proof

/-! ## Values of a context -/

/-- Entry of the covariance. -/
def covAt (p : List Int) (i j : Nat) : Int := p.getD (5 * i + j) 0

/-- One standard deviation of SOC. -/
def socSigma (x : Ctx) : Int := qsqrt (covAt x.cov 0 0)

/-- The range of the SOC field (04 R107). -/
def clampSoc (a : Int) : Int := clampTo 0 (0xFFFFFFFF * 2 ^ 49) a

/-- Initial covariance: 5 % SOC, 5 mV, 10 mV, 1.0, 20 % of RS (04 R114). -/
def initialCov (rs : Int) : List Int :=
  let sq (a : Int) : Int := qmul a a
  let d := [sq (q80 / 20), sq (q80 / 200), sq (q80 / 100), q80, sq (rs / 5)]
  (List.range 25).map (fun k => if k % 6 = 0 then d.getD (k / 6) 0 else 0)

/-- Set the SOC variance and clear its cross terms, of which the rule says nothing (04 R132; DESIGN CHOICE,
notes/assumptions/48.md). -/
def socVariance (v : Int) (p : List Int) : List Int :=
  (List.range 25).map (fun k => if k = 0 then v else if k < 5 ∨ k % 5 = 0 then 0 else p.getD k 0)

/-- The W1C flags that their causes have set at this very instant (00 R6). -/
def raisedNow (s : State) (x : Ctx) : BitVec 16 := if x.raised.1 = s.now then x.raised.2 else 0

/-- A cause sets a W1C flag of a context (00 R6, 04 R106). -/
def raiseFlag (s : State) (k : Nat) (x : Ctx) : Ctx :=
  { x with flags := ctxFlag k true x.flags, raised := (s.now, ctxFlag k true (raisedNow s x)) }

/-- A decay over a time with a time constant, both in the same unit; a time constant of 0 has no stated result
(notes/assumptions/9.md). -/
def decay (dt tau : Int) : Int := if tau ≤ 0 then Config.openValue "DECAY" [dt, tau] else qexpNeg (qdiv dt tau)

/-- The temperature, 0.01 degC in Q80, at which a context's RC values are read: T_INT, else T_NEAR, else 25 degC (04 R108). -/
def rcTemp (tInt : Option Int) (tNear : Option Int) : Int := match tInt, tNear with
  | some t, _ => t
  | none, some n => n * q80
  | none, none => 2500 * q80

/-- RC table values in ohm with the ageing factor RS / RS_table (04 R108). -/
def agedR (set : List Byte) (f : Nat) (temp rs : Int) : Int :=
  let table := rcAt set 1 temp / 1000000
  let r := rcAt set f temp / 1000000
  if table ≤ 0 then Config.openValue "AGEING" [r, rs] else r * rs / table

/-- Input of the own tap that T_NEAR came from, 0xFF none (04 R106, R112). -/
def tIndexOf (temps : List (Option Int)) (c : Nat) : Nat :=
  let i := c / 16
  let k := c % 16 / 2
  if (tapTemp temps i k).isSome then 8 * i + k
  else
    let below := if k = 0 then none else tapTemp temps i (k - 1)
    let above := if k = 7 then none else tapTemp temps i (k + 1)
    match below, above with
    | some a, some b => if a ≤ b then 8 * i + k - 1 else 8 * i + k + 1
    | some _, none => 8 * i + k - 1
    | none, some _ => 8 * i + k + 1
    | none, none => 0xFF

/-! ## Initialisation (04 R131 to R133) -/

/-- OCV(SoC) + h x H(SoC) at a table knot. -/
def ocvKnot (set : List Byte) (h : Int) (k : Nat) : Int :=
  (u16 set (28 + 2 * k) : Int) * q80 / 10000 + qmul h ((u16 set (156 + 2 * k) : Int) * q80 / 100000)

/-- State of charge and local slope at a voltage: the inverse of OCV + h x H; where there is none, or more than one, the spec
states no result (04 R132, notes/assumptions/9.md). -/
def socFromVolt (set : List Byte) (h v : Int) : Int × Int :=
  let hits := (List.range 63).filterMap (fun k =>
    let a := ocvKnot set h k
    let b := ocvKnot set h (k + 1)
    if (a ≤ v ∧ v ≤ b) ∨ (b ≤ v ∧ v ≤ a) then
      if a = b then some (none : Option (Int × Int)) else some (some (((k : Int) * q80 + qdiv (v - a) (b - a)) / 63, 63 * (b - a)))
    else none)
  match hits with
  | some (soc, slope) :: rest =>
    if rest.all (fun x => match x with
      | some (b, _) => decide ((b - soc).natAbs ≤ 64)
      | none => false) then (soc, slope)
    else (clampSoc (Config.openValue "SOC_OCV" [h, v]), 0)
  | _ => (clampSoc (Config.openValue "SOC_OCV" [h, v]), 0)

/-- SOC from the open-circuit voltage at a coded voltage: SOC_SIGMA is V_SIGMA over the slope, at most 10 %, and SOC_REINIT is set
(04 R132). -/
def reinitSoc (s : State) (set : List Byte) (v : Int) (x : Ctx) : Ctx :=
  let p := socFromVolt set x.hyst (qOf v 10000)
  let sigma := if p.2 ≤ 0 then q80 / 10 else min (q80 / 10) (qdiv (qOf (prm s Prm.vSigma) 100000) p.2)
  raiseFlag s 7
    { x with soc := clampSoc p.1, cov := socVariance (qmul sigma sigma) x.cov, vLast := some v, reinit := none, reinitRest := false }

/-- The states of a NEW cell (04 R131, R133). The balance charge since the last update moves into the counter value that the update
used, so that clearing the totals loses none of it (R109, R110). -/
def newCell (set : List Byte) (tNear : Option Int) (x : Ctx) : Ctx :=
  let cap := qOf (leAt set 20 4) 1000
  let rs := rcAt set 1 (rcTemp none tNear) / 1000000
  { x with cap := cap, capSigma := cap / 20, rs := rs, vfast := 0, vslow := 0, hyst := 0, balDis := 0, balChg := 0,
           z := List.replicate 4 {}, tCorr := none, cov := initialCov rs, anchor := none, inited := true,
           used := x.used.map (fun u => (u.1 - 32000 * (((x.balChg : Int) - u.2.2.1) - ((x.balDis : Int) - u.2.1)), 0, 0, u.2.2.2)),
           flags := ctxFlag 9 true x.flags }

/-- A context lost to a double error is initialised anew at its next valid sample, CTX_LOST set (04 R105, R131, R132). -/
def loseCtx (c : Nat) (s : State) : State :=
  let fresh : Ctx := {}
  record Ev.ctxLost 3 [c] (setCtx c (fun (x : Ctx) => raiseFlag s 4
    { fresh with flags := ctxFlag 15 (cellFitted s c) (ctxFlag 6 (x.flags.getLsbD 6) fresh.flags), chem := x.chem }) s)

/-! ## One update (04 R107 to R119, 05 R157) -/

/-- Charge of a cell since its last update, in string-current LSB x ns: the string counter and the balance totals (04 R109, R110). -/
def chargeSince (s : State) (x : Ctx) : Int := match x.used with
  | none => 0
  | some (q, dis, chg, _) =>
    s.est.atMark.1 - q + 32000 * (((x.balChg : Int) - chg) - ((x.balDis : Int) - dis))

/-- The internal temperature after an update (04 R118, R119). With no T_INT before it the thermal model starts from T_NEAR (DESIGN
CHOICE, notes/assumptions/48.md). -/
def nextTInt (s : State) (set : List Byte) (x : Ctx) (tNear : Option Int) (i rtot : Int) (dtNs : Nat) (fresh : Bool) : Option Int × Bool :=
  let held := (x.tCorr.map (fun a => decide (s.now ≤ a.1 + sec (prmN s Prm.tIntHold)))).getD false
  match tNear with
  | none => (none, !held || x.flags.getLsbD 9)
  | some n =>
    if !held then (some ((n - prm s Prm.sensorTMargin) * q80), true)
    else if fresh then (x.tInt, false)
    else
      let e := decay (qOf (dtNs : Int) 1000000000) ((u16 set 894 : Nat) * q80)
      let t := x.tInt.getD (n * q80)
      (some (n * q80 + qmul (t - n * q80) e + qmul (qmul (qmul i i) rtot * (u16 set 892 : Nat)) (q80 - e)), false)

/-- The time update (04 R107, R108, R113). While T_INT has no value the RC values are read at the T_NEAR of the previous update (DESIGN
CHOICE, notes/assumptions/48.md). -/
def predictCtx (s : State) (set : List Byte) (tNear : Option Int) (dq : Int) (dtNs : Nat) (fresh : Bool) (x : Ctx) : Ctx :=
  let dt := qOf (dtNs : Int) 1000000000
  let i := if dtNs = 0 then 0 else qOf dq (32 * (dtNs : Int))
  let ah := qOf dq 115200000000000
  let temp := rcTemp x.tInt x.tNear
  let rfast := agedR set 2 temp x.rs
  let rslow := agedR set 4 temp x.rs
  let tf := rcAt set 3 temp
  let tsl := rcAt set 5 temp
  let ef := decay (dt * 1000) tf
  let es := decay (dt * 10) tsl
  let eta := if 0 < dq then qOf (u16 set 24 : Nat) 32768 else q80
  let soc := if x.cap ≤ 0 then (if dq = 0 then x.soc else Config.openValue "SOC_STEP" [x.soc, dq]) else x.soc + qdiv (qmul eta ah) x.cap
  let sgn : Int := if dq < 0 then -q80 else q80
  let eh := if dq = 0 then q80
    else if x.cap ≤ 0 then Config.openValue "HYST_STEP" [dq]
    else qexpNeg (qdiv (qOf (u16 set 26 : Nat) 100 * (ah.natAbs : Int) / q80) x.cap)
  let g := [q80, ef, es, eh, q80]
  let noise := [qOf (prm s Prm.socDrift) 32768, qOf (u16 set 928 : Nat) 100000, qOf (u16 set 930 : Nat) 100000,
    qOf (u16 set 932 : Nat) 32768, qOf (u16 set 934 : Nat) 1000000]
  let cov := (List.range 25).map (fun k =>
    let a := qmul (qmul (g.getD (k / 5) 0) (covAt x.cov (k / 5) (k % 5))) (g.getD (k % 5) 0)
    if k % 6 = 0 then a + qmul (noise.getD (k / 6) 0) (noise.getD (k / 6) 0) * (dtNs : Int) / 3600000000000 else a)
  let ti := nextTInt s set x tNear i (x.rs + rfast + rslow) dtNs fresh
  { x with soc := clampSoc soc, vfast := qmul x.vfast ef + qmul (qmul rfast i) (q80 - ef),
           vslow := qmul x.vslow es + qmul (qmul rslow i) (q80 - es),
           hyst := if dq = 0 then x.hyst else sgn + qmul (x.hyst - sgn) eh, cov := cov, rfast := rfast, rslow := rslow,
           tfast := (roundDiv tf q80).toNat, tslow := (roundDiv tsl q80).toNat, tInt := ti.1, flags := ctxFlag 9 ti.2 x.flags, charge := x.charge + dq }

/-- Predicted voltage and Jacobian at a current (04 R113). -/
def measModel (set : List Byte) (i : Int) (x : Ctx) : Int × List Int :=
  let o := ocvAt set x.soc
  let h := hystAt set x.soc
  (o.1 + qmul x.hyst h.1 + qmul i x.rs + x.vfast + x.vslow, [o.2 + qmul x.hyst h.2, q80, q80, h.1, i])

/-- P times a vector. -/
def covTimes (p v : List Int) : List Int :=
  (List.range 5).map (fun r => ((List.range 5).map (fun k => qmul (covAt p r k) (v.getD k 0))).foldl (· + ·) 0)

/-- Inner product. -/
def innerOf (a b : List Int) : Int := (a.zipWith qmul b).foldl (· + ·) 0

/-- Apply an innovation with its variance (04 R113). -/
def correctCtx (jac : List Int) (innov var : Int) (x : Ctx) : Ctx :=
  let ph := covTimes x.cov jac
  let k := ph.map (fun a => qdiv a (max var 1))
  let up (n : Nat) : Int := qmul (k.getD n 0) innov
  { x with soc := clampSoc (x.soc + up 0), vfast := x.vfast + up 1, vslow := x.vslow + up 2,
           hyst := clampTo (-q80) q80 (x.hyst + up 3), rs := x.rs + up 4,
           cov := (List.range 25).map (fun n => covAt x.cov (n / 5) (n % 5) - qmul (k.getD (n / 5) 0) (ph.getD (n % 5) 0)) }

/-- Standard deviation of a sample by its kind, in volt (04 R111). -/
def sampleSigma (s : State) (y : SweepCell) : Int :=
  if y.late && compBit y.nib then qOf (prm s Prm.vSigmaComp) 100000 * 3 / 2
  else if y.late || compBit y.nib then qOf (prm s Prm.vSigmaComp) 100000
  else qOf (prm s Prm.vSigma) 100000

/-- Cell current at the mark: the string current, and the balance current that flowed at the sample (04 R109, R110). -/
def cellCurrent (s : State) (y : SweepCell) : Int :=
  qOf s.est.atMark.2 32 + (if balBits y.nib = 2 then 3 * q80 else if balBits y.nib = 1 then -(3 * q80) else 0)

/-- The measurement update under the gate: the context, whether the measurement was applied, and the codes to record
(04 R111, R113, R114). -/
def measureCtx (s : State) (set : List Byte) (y : SweepCell) (v : Int) (x : Ctx) : Ctx × Bool × List Nat :=
  let i := cellCurrent s y
  let m := measModel set i x
  let innov := qOf v 10000 - m.1
  let r := qmul (sampleSigma s y) (sampleSigma s y)
  let var (p : List Int) : Int := innerOf m.2 (covTimes p m.2) + r
  let coded := satS16 (roundDiv (innov * 100000) q80)
  let accepted (z : Ctx) (p : List Int) : Ctx :=
    let z := correctCtx m.2 innov (var p) { z with cov := p }
    { z with est := s.rings.mark.map (fun a => (a.1, low48 a.2)), vLast := some v, sample := y.nib + bit y.late 4,
             updates := (z.updates + 1) % 65536, innov := coded, rejects := 0,
             flags := ctxFlag 13 false (ctxFlag 12 y.late (ctxFlag 11 (compBit y.nib) z.flags)) }
  let lim := prm s Prm.gateSigma * qsqrt (var x.cov)
  if (innov.natAbs : Int) ≤ lim then (accepted x x.cov, true, [])
  else if prmN s Prm.gateCount ≤ x.rejects + 1 then
    (accepted (raiseFlag s 5 x) (initialCov x.rs), true, [Ev.diverged])
  else ({ x with rejects := x.rejects + 1, innov := coded, flags := ctxFlag 13 false x.flags }, false, [])

/-- The capacity filter; an update in which the gate rejected takes no anchor, one that then reset the filter included
(04 R114, R116, R117). -/
def anchorCtx (s : State) (x : Ctx) : Ctx × List Nat :=
  let sigma := socSigma x
  if qOf (prm s Prm.capAnchorSigma) 32768 < sigma then (x, [])
  else match x.anchor with
    | none => ({ x with anchor := some (x.soc, sigma, x.charge) }, [])
    | some (soc0, sigma0, q0) =>
      let d := x.soc - soc0
      if (d.natAbs : Int) < qOf (prm s Prm.capMinSpan) 32768 then (x, [])
      else
        let ah := qOf (x.charge - q0) 115200000000000
        let innov := ah - qmul x.cap d
        let p := qmul x.capSigma x.capSigma
        let r := qmul (qmul x.cap x.cap) (qmul sigma sigma + qmul sigma0 sigma0)
        let var := max (qmul (qmul d d) p + r) 1
        let k := qdiv (qmul p d) var
        let step := qmul k innov
        let bound := x.cap / 200
        let clamped := decide (bound < (step.natAbs : Int))
        let y := { x with cap := x.cap + clampTo (-bound) bound step, capSigma := qsqrt (qmul p (q80 - qmul k d)),
                          anchor := some (x.soc, sigma, x.charge) }
        if clamped then (raiseFlag s 8 y, [Ev.capClamped]) else (y, [])

/-- I_CHG_LIM, at T_INT as the context codes it (04 R115, 05 R157 with its worked case). -/
def chargeLimit (s : State) (set : List Byte) (x : Ctx) : Option Int :=
  (tIntCoded x).map (fun t => min 0x7FFF (platingAt set (min q80 (x.soc + prm s Prm.limitSocSigmas * socSigma x)) (satS16 t * q80)))

/-- BAL_STATE of a cell: BAL value, slot, forced (04 R106). -/
def balState (s : State) (c nib : Nat) : Nat :=
  let sent := (posOf s (c / 256) (c % 256 / 16 + 1)).sent
  let on (k : Nat) : Bool := ((sent.getD k none).map (fun a => a.1 == c % 16)).getD false
  balBits nib + bit (!on 0 && on 1) 2 + bit (s.rings.forced.any (fun f => f.1 == c)) 3

/-- One context's update by the latest sweep; the codes are recorded for its cell (04 R107 to R119, R131 to R133). -/
def updateCtx (s : State) (set : List Byte) (c : Nat) (fresh : Bool) (x : Ctx) : Ctx × List Nat := match s.rings.mark with
  | none => (x, [])
  | some (mark, _) =>
    let y := cellOf s c
    let near := tNearOf s.rings.temps c
    let dq := chargeSince s x
    let dtNs := (x.used.map (fun u => mark - u.2.2.2)).getD 0
    let tail (z : Ctx) : Ctx :=
      { z with tNear := near.1, tIndex := tIndexOf s.rings.temps c, used := some (s.est.atMark.1, z.balDis, z.balChg, mark),
               sweep := s.rings.count, bal := balState s c y.nib, chem := chemActive s, flags := ctxFlag 10 near.2 z.flags }
    let limit (a : Ctx × List Nat) (codes : List Nat) : Ctx × List Nat :=
      (tail { a.1 with lim := chargeLimit s set a.1 }, codes ++ a.2)
    if !x.inited then match y.v with
      | some v =>
        let a := anchorCtx s (reinitSoc s set v (newCell set near.1 x))
        (tail a.1, Ev.socReinit :: a.2)
      | none => ({ x with sweep := s.rings.count, flags := ctxFlag 13 true x.flags }, [])
    else
      let x := predictCtx s set near.1 dq dtNs fresh x
      let rest := decide ((s.est.atMark.2.natAbs : Int) ≤ prm s Prm.restCurrent)
      match y.v with
      | none => limit (anchorCtx s { x with flags := ctxFlag 13 true x.flags }) []
      | some v =>
        if x.reinit.isSome && (!x.reinitRest || rest) && (x.reinit.getD 0) < s.rings.count then
          limit (anchorCtx s (reinitSoc s set v x)) [Ev.socReinit]
        else
          let m := measureCtx s set y v (if x.reinitRest then { x with reinit := none, reinitRest := false } else x)
          limit (if m.2.1 && m.2.2.isEmpty then anchorCtx s m.1 else (m.1, [])) m.2.2

/-! ## Phasors (05 R151 to R156) -/

/-- Slot of a tone: 0 for T_TONE, then the order of the spectrum set without it (05 R152). -/
def slotOfTone (s : State) (set : List Byte) (tone : Nat) : Option Nat :=
  if tone = tTone set then some 0
  else
    let l := ((List.range 4).map (fun k => prmN s Prm.impSpectrumSet / 256 ^ k % 256)).filter (fun a => a ≠ 0xFF && a ≠ tTone set)
    (l.idxOf? tone).map (· + 1)

/-- Calibration point: temperature and phase (05 R155). -/
def calPoint (set : List Byte) (k : Nat) : Int × Int := (s16 set (900 + 4 * k), s16 set (902 + 4 * k))

/-- Temperature, 0.01 degC in Q80, at a reference phase in 0.001 degree, Q80; none outside the calibrated phases (05 R156). -/
def tempOfPhase (set : List Byte) (phi : Int) : Option Int :=
  (List.range (byteAt set 897 - 1)).findSome? (fun k =>
    let a := calPoint set k
    let b := calPoint set (k + 1)
    let lo := min a.2 b.2 * q80
    let hi := max a.2 b.2 * q80
    if lo ≤ phi ∧ phi ≤ hi ∧ a.2 ≠ b.2 then some (a.1 * q80 + (b.1 - a.1) * (phi - a.2 * q80) / (b.2 - a.2)) else none)

/-- A result of one cell and tone enters its slot; in slot 0 it may set T_INT (05 R151 to R153, R156). Second: T_INT was set. -/
def takePhasor (s : State) (set : List Byte) (g : Staging) (slot tone : Nat) (cur v : Int × Int) (x : Ctx) : Ctx × Bool :=
  let mag := cur.1 * cur.1 + cur.2 * cur.2
  let re := v.1 * cur.1 + v.2 * cur.2
  let im := v.2 * cur.1 - v.1 * cur.2
  let free (k : Int) : Int := Config.openValue "Z" [k, v.1, v.2]
  let z := if mag = 0 then (satS16 (free 0), satS16 (free 1)) else (satS16 (roundDiv (1000 * re) mag), satS16 (roundDiv (1000 * im) mag))
  let phi := if mag = 0 then free 2 * q80 else qatan2 im re * 360000 * q80 / twoPi
  let low := decide (mag < 1000000000000)
  let ref := phi - qmul (s16 set 898 * q80) (x.soc - q80 / 2)
  let temp := if slot = 0 && !low && !g.disturbed then tempOfPhase set ref else none
  let good := match temp, x.tNear with
    | some a, some n => decide (((a - n * q80).natAbs : Int) ≤ prm s Prm.impTPlaus * q80)
    | _, _ => false
  let flags : Nat := bit true 7 + bit low 6 + bit g.disturbed 5 + bit good 4 + bit (slot == 0 && !good) 3
  let x := { x with z := x.z.set slot { tone := tone, flags := BitVec.ofNat 8 flags, re := z.1, im := z.2,
                                        phase := roundDiv phi q80, mark := low48 g.t0.2 } }
  if good then ({ x with tInt := temp, tCorr := some (g.t0.1, low48 g.t0.2), flags := ctxFlag 9 false x.flags }, true) else (x, false)

/-- Every phasor of the staging area for one cell. -/
def takeCell (s : State) (set : List Byte) (g : Staging) (c : Nat) (x : Ctx) : Ctx × Bool :=
  (List.range g.tones.length).foldl (fun (a : Ctx × Bool) k =>
    let tone := g.tones.getD k 0xFF
    match slotOfTone s set tone, (g.volt.getD k []).getD c none with
    | some slot, some v =>
      let r := takePhasor s set g slot tone (g.cur.getD k (0, 0)) v a.1
      (r.1, a.2 || r.2)
    | _, _ => a) (x, false)

/-! ## The update period (04 R127, R568; 01 R35, R36) -/

/-- Cycles the engines in service give in a time of ms. -/
def engineCycles (s : State) (milli : Nat) : Nat := s.est.engines * 600000 * milli

/-- Update period for a load of `n` in `d` cycles: the table of 01 R35, interpolated and rounded up to a whole ms (04 R568). -/
def periodOfLoad (n d : Nat) : Nat :=
  if 2 * n ≤ d then 10
  else if 10 * n ≤ 9 * d then 10 + ((2 * n - d) * 75 + 4 * d - 1) / (4 * d)
  else if 100 * n ≤ 99 * d then 25 + ((10 * n - 9 * d) * 50 + 3 * d - 1) / (3 * d)
  else 40

/-- The shortest period of 10 to 40 ms in which work fits (04 R568). -/
def fittingPeriod (s : State) (cycles : Nat) : Nat :=
  (((List.range 31).map (· + 10)).find? (fun p => decide (cycles ≤ engineCycles s p))).getD 40

/-- Sweeps of the last 100 ms that a 10 ms period would serve. -/
def servedSweeps (s : State) : Nat := if sweepFresh s (ms 100) then max 1 (min 10 (100000 / max s.rings.period 1)) else 0

/-- Choose the load and the next period: `updated` contexts, `extra` cycles of impedance arithmetic and deferred reads due in it,
and the reads answered since the last boundary (04 R127, R568; 01 R36). -/
def choosePeriod (updated extra : Nat) (s : State) : State :=
  let recent := (s.est.work.filter (fun w => s.now < w.1 + ms 100)) ++ (if extra = 0 then [] else [(s.now, extra)])
  let cycles := (fittedCells s).length * servedSweeps s * 18000 + (recent.map (·.2)).foldl (· + ·) 0
  let load := if s.est.engines = 0 then 10000 else cycles * 10000 / engineCycles s 100
  let p := max (periodOfLoad cycles (engineCycles s 100)) (fittingPeriod s (updated * 18000 + extra + s.est.reads))
  { s with est.load := load, est.work := recent, est.busy := updated * 18000 + extra, est.reads := 0,
           est.period := min 40 (max p (prmN s Prm.estPeriodMin)) }

/-- Bytes of one context (04 R106), every coded field rounded to nearest (DESIGN CHOICE, notes/assumptions/48.md). -/
def ctxBytes (s : State) (c : Nat) : List Byte :=
  let x := ctxOf s c
  let scaled (d v : Int) : Int := roundDiv (v * d) q80
  let u (n : Nat) (v : Int) : List Byte := leBytes n (clampTo 0 (2 ^ (8 * n) - 1) v).toNat
  let i16 (v : Int) : List Byte := leInt 2 (satS16 v)
  leBytes 2 c ++ leBytes 2 x.flags.toNat ++ leBytes 6 ((x.est.map (·.2)).getD 0) ++ voltBytes x.vLast ++ tempBytes x.tNear ++
  leBytes 1 x.tIndex ++ leBytes 1 x.sample ++ u 4 (scaled (2 ^ 31) x.soc) ++ i16 (scaled 32768 (socSigma x)) ++
  u 2 (scaled 100 x.capSigma) ++ u 4 (scaled 1000 x.cap) ++ u 2 (scaled 1000000 x.rs) ++ u 2 (scaled 1000000 x.rfast) ++
  u 2 x.tfast ++ i16 (scaled 100000 x.vfast) ++ u 2 (scaled 1000000 x.rslow) ++ u 2 x.tslow ++
  i16 (scaled 100000 x.vslow) ++ i16 (scaled 32768 x.hyst) ++ tempBytes ((tIntCoded x).map satS16) ++
  leBytes 6 ((x.tCorr.map (·.2)).getD 0) ++ leInt 2 (x.lim.getD (-32768)) ++ leBytes 2 x.updates ++ i16 x.innov ++
  leBytes 2 x.rejects ++ leBytes 4 0 ++
  x.z.flatMap (fun z => leBytes 1 z.tone ++ leBytes 1 z.flags.toNat ++ i16 z.re ++ i16 z.im ++ leBytes 6 z.mark) ++
  leBytes 1 x.bal ++ leBytes 1 x.chem ++ leBytes 4 (codedTotal x.balDis) ++ leBytes 4 (codedTotal x.balChg) ++ leBytes 6 0

/-- The contexts a CTX_READ payload names. -/
def readContexts (s : State) (b : List Byte) : Payload :=
  .bytes ((List.range (leAt b 2 1)).flatMap (fun k => ctxBytes s (leAt b 0 2 + k)))

/-- Cycles of the read that a mailbox's request asks for (04 R568). -/
def readCycles (s : State) (m : Nat) : Nat := match (mbxOf s m).req with
  | some r => 800 * leAt r.payload 2 1
  | none => 0

/-- The deferred reads that fit in a number of cycles, in order of arrival (01 R36). -/
def fittingReads (s : State) (room : Nat) : List Nat → List Nat
  | [] => []
  | m :: l => if readCycles s m ≤ room then m :: fittingReads s (room - readCycles s m) l else []

/-- Cycles of a list of reads. -/
def readsCycles (s : State) (l : List Nat) : Nat := (l.map (readCycles s)).foldl (· + ·) 0

/-- Answer the first deferred reads, as many as `l` has (01 R36, 04 R129). -/
def serveDeferred (l : List Nat) (s : State) : State :=
  eachDo l (fun m s =>
    match (mbxOf s m).req with
    | some r => finishJob (some m) Cmd.ctxRead (doneWith (readContexts s r.payload)) s
    | none => s) { s with est.deferred := s.est.deferred.drop l.length }

/-- The staged phasors, if they fit at 40 ms beside the context updates and the reads, for impedance arithmetic is deferred before
context reads are (01 R36, 05 R151). The cells whose T_INT was set, and the cycles used. -/
def applyStaging (set : List Byte) (work : Nat) (s : State) : State × List Nat × Nat := match s.est.staging with
  | none => (s, [], 0)
  | some g =>
    let cost := 2000 * (g.volt.map (fun l => l.countP (·.isSome))).foldl (· + ·) 0
    if engineCycles s 40 < work + cost then (s, [], 0)
    else
      let r := (List.range 512).map (fun c => takeCell s set g c (ctxOf s c))
      ({ s with est.ctx := r.map (·.1), est.staging := none },
       (List.range 512).filter (fun c => ((r.map (·.2)).getD c false)), cost)

/-- An update period: contexts with a double store error are re-initialised, staged phasors are divided, every fitted context
with a new sweep is updated, deferred reads are answered and the next period is chosen (04 R105, R107, R127 to R130, R568). -/
def updatePeriod (errs : List Nat) (s : State) : State :=
  let s := eachDo errs loseCtx { s with est.lastAt := some s.now }
  let set := activeSet s
  if !activeUsable s then
    let reads := fittingReads s (engineCycles s 40) s.est.deferred
    choosePeriod 0 (readsCycles s reads) (serveDeferred reads s)
  else
    let due := (fittedCells s).filter (fun c => (ctxOf s c).sweep ≠ s.rings.count)
    let reads := fittingReads s (engineCycles s 40 - due.length * 18000) s.est.deferred
    let p := applyStaging set (due.length * 18000 + readsCycles s reads) s
    let extra := p.2.2 + readsCycles s reads
    let s := p.1
    let r := (List.range 512).map (fun c => if due.contains c then updateCtx s set c (p.2.1.contains c) (ctxOf s c) else (ctxOf s c, []))
    let s := { s with est.ctx := r.map (·.1) }
    let s := eachDo due (fun c s =>
      eachDo ((r.getD c ({}, [])).2) (fun code s => record code (if code = Ev.socReinit then 1 else 3) [c] s) s) s
    choosePeriod due.length extra (serveDeferred reads s)

/-- The estimation array works: its function runs, it has engines, and Dome does not hold them (04 R130). -/
def estRuns (s : State) : Bool := running s 3 && 0 < s.est.engines && !s.thm.held

/-- EST_UPDATE_PERIOD: `errs` the contexts whose store words showed a double error. -/
def execEstUpdatePeriod (t : Nat) (errs : List Nat) (s : State) : Host.Outcome State Fault Refusal :=
  timed t (fun s =>
    let due := match s.est.lastAt with
      | some a => decide (a + ms s.est.period ≤ s.now)
      | none => true
    if estRuns s && due then updatePeriod errs s else s) s

/-! ## Saving and commands (04 R131, R135) -/

/-- Write every context to NVM; a write-forbid lets none pass (04 R131, 11 R329). -/
def saveContexts (s : State) : State := if s.thm.forbid then s else { s with est.saved := some (s.est.ctx, s.now) }

/-- CTX_SAVE: every CTX_SAVE seconds. -/
def execCtxSave (t : Nat) (s : State) : Host.Outcome State Fault Refusal :=
  timed t (fun s =>
    let due := match s.est.saved with
      | some a => decide (a.2 + sec (prmN s Prm.ctxSave) ≤ s.now)
      | none => true
    if due && estRuns s then saveContexts s else s) s

/-- Cycles of a read answered at once: work of this update period (04 R568). -/
def chargeRead (cycles : Nat) (s : State) : State :=
  { s with est.work := s.est.work ++ [(s.now, cycles)], est.reads := s.est.reads + cycles }

/-- CTX_READ: start index and a count of 1 to 8; deferred while the work does not fit at 40 ms (01 R36, 04 R129). -/
def ctxReadHandler (m : Nat) : Request → State → Answer × State :=
  withLength 3 (fun b s =>
    if leAt b 2 1 = 0 ∨ 8 < leAt b 2 1 then refuse (argReply Cmd.ctxRead 2) s
    else if 512 < leAt b 0 2 + leAt b 2 1 then refuse (argReply Cmd.ctxRead 0) s
    else if estRuns s && engineCycles s 40 < s.est.busy + s.est.reads + 800 * leAt b 2 1 then
      (.goesOn, { s with est.deferred := s.est.deferred ++ [m] })
    else okWith (readContexts s b) (chargeRead (800 * leAt b 2 1) s))

/-- CTX_READ. -/
def execCtxRead (t m : Nat) (s : State) : Host.Outcome State Fault Refusal := timed t (serve m Cmd.ctxRead (ctxReadHandler m)) s

/-- The fitted cell whose value is least, with the value. -/
def leastCell (s : State) (f : Nat → Int) : Option (Nat × Int) :=
  (fittedCells s).foldl (fun b c => match b with
    | none => some (c, f c)
    | some a => if f c < a.2 then some (c, f c) else b) none

/-- CTX_SUMMARY. -/
def ctxSummary (s : State) : Payload :=
  let soc (c : Nat) : Int := roundDiv ((ctxOf s c).soc * 32768) q80
  let socs := (fittedCells s).map soc
  let code (v : Int) : Int := if socs.isEmpty then 0xFFFF else clampTo 0 0xFFFE v
  let cap := leastCell s (fun c => roundDiv ((ctxOf s c).cap * 1000) q80)
  .fields [("soc", [code (socs.foldl min (socs.headD 0)), code (socs.foldl max (socs.headD 0)),
      code (if socs.isEmpty then 0 else roundDiv (socs.foldl (· + ·) 0) socs.length)]),
    ("capacity", match cap with
      | some (c, v) => [v, (c : Int)]
      | none => []),
    ("plating", [(codeS16 s.ctrl.plating : Int)] ++ optNat s.ctrl.platingCell),
    ("fallback", [(((fittedCells s).countP (fun c => (ctxOf s c).flags.getLsbD 14) : Nat) : Int)]),
    ("load", [(s.est.period : Int), (s.est.load : Int)])]

/-- CTX_SUMMARY. -/
def execCtxSummary (t m : Nat) (s : State) : Host.Outcome State Fault Refusal :=
  timed t (serve m Cmd.ctxSummary (statusHandler ctxSummary)) s

/-- A cell range, start index 2 and count 2 of 1 to 512, within 512: the offset of a bad field (04 R135). -/
def cellRange (b : List Byte) : Option Nat :=
  if leAt b 2 2 = 0 ∨ 512 < leAt b 2 2 then some 2 else if 512 < leAt b 0 2 + leAt b 2 2 then some 0 else none

/-- Change the contexts of a range. -/
def eachCell (b : List Byte) (g : Ctx → Ctx) (s : State) : State :=
  { s with est.ctx := s.est.ctx.mapIdx (fun c x => if leAt b 0 2 ≤ c ∧ c < leAt b 0 2 + leAt b 2 2 then g x else x) }

/-- Re-initialise one context now at V_LAST; at its next valid sample without one, or while V_LAST is that of a removed cell
(04 R132, R133). -/
def reinitNow (s : State) (x : Ctx) : Ctx := match x.vLast with
  | some v => if activeUsable s && x.inited && (x.reinit.isNone || x.reinitRest) then reinitSoc s (activeSet s) v x else { x with reinit := some s.rings.count }
  | none => { x with reinit := some s.rings.count }

/-- CTX_REINIT: refused unless the string current has been at rest for REST_FOR_OCV. -/
def ctxReinitHandler : Request → State → Answer × State :=
  withLength 4 (fun b s => match cellRange b with
    | some off => refuse (argReply Cmd.ctxReinit off) s
    | none =>
      if (s.est.restSince.map (fun a => decide (a + sec (prmN s Prm.restForOcv) ≤ s.now))).getD false then
        ok (record Ev.socReinit 1 [leAt b 0 2, leAt b 2 2] (eachCell b (reinitNow s) s))
      else refuse (guardReply Ev.current) s)

/-- CTX_REINIT. -/
def execCtxReinit (t m : Nat) (s : State) : Host.Outcome State Fault Refusal := timed t (serve m Cmd.ctxReinit ctxReinitHandler) s

/-- A NEW answer: the values of R133 from the active set; while that set is unusable the context is set at its next update. -/
def newAnswer (s : State) (c : Nat) (x : Ctx) : Ctx :=
  if activeUsable s then newCell (activeSet s) (tNearOf s.rings.temps c).1 x
  else { x with inited := false, used := none, balDis := 0, balChg := 0, z := List.replicate 4 {}, tCorr := none, anchor := none, vfast := 0,
                vslow := 0, hyst := 0 }

/-- CTX_CELLS: ring, position, 0 KEPT or 1 NEW; TAP_REPLACED clears (04 R133). -/
def ctxCellsHandler : Request → State → Answer × State :=
  withLength 3 (fun b s =>
    let r := leAt b 0 1
    let p := leAt b 1 1
    if 1 < r then refuse (argReply Cmd.ctxCells 0) s
    else if p = 0 ∨ 16 < p then refuse (argReply Cmd.ctxCells 1) s
    else if 1 < leAt b 2 1 then refuse (argReply Cmd.ctxCells 2) s
    else if !(posOf s r p).replaced then refuse (argReply Cmd.ctxCells 1) s
    else
      let base := 256 * r + 16 * (p - 1)
      let s := setPos r p (fun (x : RingPos) => { x with replaced := false }) s
      ok { s with est.ctx := s.est.ctx.mapIdx (fun c x =>
        if c / 16 = base / 16 then
          let y := if leAt b 2 1 = 1 then newAnswer s c x else x
          { y with flags := ctxFlag 6 false y.flags }
        else x) })

/-- CTX_CELLS. -/
def execCtxCells (t m : Nat) (s : State) : Host.Outcome State Fault Refusal := timed t (serve m Cmd.ctxCells ctxCellsHandler) s

/-- CAP_SET: CAPACITY and CAP_SIGMA of a range; anchoring restarts. -/
def capSetHandler : Request → State → Answer × State :=
  withLength 10 (fun b s => match cellRange b with
    | some off => refuse (argReply Cmd.capSet off) s
    | none => ok (eachCell b (fun (x : Ctx) =>
        { x with cap := qOf (leAt b 4 4 : Nat) 1000, capSigma := qOf (leAt b 8 2 : Nat) 100, anchor := none }) s))

/-- CAP_SET. -/
def execCapSet (t m : Nat) (s : State) : Host.Outcome State Fault Refusal := timed t (serve m Cmd.capSet capSetHandler) s

/-- CHEM_READ: set, offset, length 1 to 256, within the 1,024 bytes. -/
def chemReadHandler : Request → State → Answer × State :=
  withLength 5 (fun b s =>
    if 3 < leAt b 0 1 then refuse (argReply Cmd.chemRead 0) s
    else if 1024 ≤ leAt b 1 2 then refuse (argReply Cmd.chemRead 1) s
    else if leAt b 3 2 = 0 ∨ 256 < leAt b 3 2 ∨ 1024 < leAt b 1 2 + leAt b 3 2 then refuse (argReply Cmd.chemRead 3) s
    else okWith (.bytes (((chemBytes s (leAt b 0 1)).drop (leAt b 1 2)).take (leAt b 3 2))) s)

/-- CHEM_READ. -/
def execChemRead (t m : Nat) (s : State) : Host.Outcome State Fault Refusal := timed t (serve m Cmd.chemRead chemReadHandler) s

/-- CHEM_WRITE: data of 1 to 256 bytes into the staging copy, which begins as the stored set (04 R122); refused with NVM_TEMP
under a write-forbid (11 R329). -/
def chemWriteHandler (r : Request) (s : State) : Answer × State :=
  let b := r.payload
  let n := b.length - 3
  if b.length < 4 ∨ 259 < b.length then refuse lengthReply s
  else if 3 < leAt b 0 1 then refuse (argReply Cmd.chemWrite 0) s
  else if 1024 < leAt b 1 2 + n then refuse (argReply Cmd.chemWrite 1) s
  else if s.thm.forbid then refuse (guardReply Ev.nvmTemp) s
  else
    let k := leAt b 0 1
    let old := (s.est.chemStaged.getD k none).getD (chemBytes s k)
    ok { s with est.chemStaged := s.est.chemStaged.set k (some (old.take (leAt b 1 2) ++ b.drop 3 ++ old.drop (leAt b 1 2 + n))) }

/-- CHEM_WRITE. -/
def execChemWrite (t m : Nat) (s : State) : Host.Outcome State Fault Refusal := timed t (serve m Cmd.chemWrite chemWriteHandler) s

/-- The W1C flags of a context: bits 8, 7, 5 and 4 (04 R106). -/
def w1cFlags : BitVec 16 := 0x01B0

/-- CTX_CLEAR_FLAGS: a mask bit on a flag that is not W1C is refused; a bit that its cause sets at this instant stays (00 R6). -/
def ctxClearFlagsHandler : Request → State → Answer × State :=
  withLength 6 (fun b s => match cellRange b with
    | some off => refuse (argReply Cmd.ctxClearFlags off) s
    | none =>
      let m := BitVec.ofNat 16 (leAt b 4 2)
      if m &&& ~~~ w1cFlags != 0 then refuse (argReply Cmd.ctxClearFlags 4) s
      else ok (eachCell b (fun (x : Ctx) => { x with flags := x.flags &&& ~~~ (m &&& ~~~ raisedNow s x) }) s))

/-- CTX_CLEAR_FLAGS. -/
def execCtxClearFlags (t m : Nat) (s : State) : Host.Outcome State Fault Refusal :=
  timed t (serve m Cmd.ctxClearFlags ctxClearFlagsHandler) s

/-! ## Restoring (R131) -/

/-- A context as restored: sensor-only until its first update; after a rest of REST_FOR_OCV by the RTC its SOC is taken from the
open-circuit voltage if the string current rests (R131). -/
def restoreCtx (s : State) (rtcOk : Bool) (savedAt : Nat) (x : Ctx) : Ctx :=
  let rested := rtcOk && savedAt + sec (prmN s Prm.restForOcv) ≤ s.now
  let gone := (Config.openValue "ELAPSED WITHOUT RTC" [(savedAt : Int), s.now]).toNat
  { x with
    lim := none, est := x.est.map (fun e => (0, e.2)), flags := x.flags ||| 0x4000#16, sweep := 0,
    used := if rtcOk then x.used else x.used.map (fun u => (u.1, u.2.1, u.2.2.1, s.now - gone)),
    reinit := if rested && x.inited then some 0 else x.reinit, reinitRest := if rested && x.inited then true else x.reinitRest }

/-- Restore the contexts from NVM (R131). -/
def restoreContexts (rtcOk : Bool) (s : State) : State := match s.est.saved with
  | some (l, a) => { s with est.ctx := l.map (restoreCtx s rtcOk a) }
  | none => s

end Sys2Proof.Machine
end

