-- ==== Sys2Proof/Machine/Impedance.lean ====
section
/-!
DEFINITION. Machine/Impedance.lean: impedance windows in the module and in the taps, the frames that carry them, and the
commands of the impedance function (05 R136 to R161).
-/

namespace Sys2Proof.Machine

open Sys2Proof

/-! ## The taps (05 R147 to R149) -/

/-- The 9 bytes of a setup as a tap holds it. -/
def setupBytes (x : TapImp) : List Byte :=
  leBytes 1 x.tones.length ++ (x.tones.map (BitVec.ofNat 8) ++ List.replicate (4 - x.tones.length) 255#8) ++ leBytes 2 x.samples ++
  leBytes 2 x.mask

/-- IMP_SETUP: refused while a window is armed or integrating, and with a bad tone. -/
def execImpSetup (t : Nat) (q : TapReq) (s : State) : Host.Outcome State Fault Refusal :=
  timed t (atTap 0x30 q (withPayload 9 (fun i b s =>
    let n := leAt b 0 1
    let tones := (List.range n).map (fun k => leAt b (1 + k) 1)
    if n = 0 ∨ 4 < n then .reject
    else
      let p := tapOf s i
      let code := if p.imp.window.isSome then 2 else if tones.any (fun a => 23 < a) then 1 else 0
      let s := if code = 0 then setTap i (fun (p : Tap) =>
          { p with imp.tones := tones, imp.samples := leAt b 5 2, imp.mask := leAt b 7 2 }) s else s
      .reply s (leBytes 1 code ++ setupBytes (tapOf s i).imp)))) s

/-- IMP_WINDOW: arms a window, or with length 0 aborts one. A start count that is not one of the next 127 marks has passed. A
window armed over one that is armed or integrating takes its place without a result of the old one, of which the spec says
nothing (DESIGN CHOICE, notes/assumptions/48.md). The module notes the taps that are armed (05 R147). -/
def execImpWindow (t : Nat) (q : TapReq) (s : State) : Host.Outcome State Fault Refusal :=
  timed t (atTap 0x31 q (withPayload 6 (fun i b s =>
    let p := tapOf s i
    let id := leAt b 0 1
    let ahead := (leAt b 1 1 + 256 - p.marks) % 256
    if leAt b 2 4 = 0 then
      .reply (setTap i (endWindow s.now 3) s) (leBytes 1 3 ++ leBytes 1 id)
    else if p.imp.tones.isEmpty then .reply s (leBytes 1 1 ++ leBytes 1 id)
    else if ahead = 0 ∨ 127 < ahead then .reply s (leBytes 1 2 ++ leBytes 1 id)
    else
      let s := setTap i (fun (p : Tap) => { p with imp.window := some (id, leAt b 1 1, leAt b 2 4), imp.since := none }) s
      let s := if s.imp.st == .lead && s.imp.wid == id && !s.imp.armed.contains i then { s with imp.armed := s.imp.armed ++ [i] } else s
      .reply s (leBytes 1 0 ++ leBytes 1 id)))) s

/-- The smallest exponent at which every value lies in 12 bits, at most 15 (05 R148). -/
def impExponent (l : List Int) : Nat :=
  ((List.range 16).find? (fun e => l.all (fun v => decide (-2048 ≤ roundDiv v (2 ^ e)) && decide (roundDiv v (2 ^ e) ≤ 2047)))).getD 15

/-- A value as 12-bit two's complement at an exponent. -/
def imp12 (e : Nat) (v : Int) : Int := clampTo (-2048) 2047 (roundDiv v (2 ^ e))

/-- The three bytes of a channel (05 R148). -/
def impChannel (e : Nat) (v : Int × Int) : List Byte :=
  let i := unsignedOf 12 (imp12 e v.1)
  let k := unsignedOf 12 (imp12 e v.2)
  [BitVec.ofNat 8 i, BitVec.ofNat 8 (k % 16 * 16 + i / 256), BitVec.ofNat 8 (k / 16)]

/-- Phasors of a tone as the frame carries them: channels outside the valid mask read 0. -/
def maskPhasors (valid : Nat) (l : List (Int × Int)) : List (Int × Int) :=
  (List.range 16).map (fun c => if bitOf valid c then l.getD c (0, 0) else (0, 0))

/-- The exponent of a tone's phasors. -/
def toneExponent (l : List (Int × Int)) : Nat := impExponent (l.flatMap (fun v => [v.1, v.2]))

/-- What IMP_READ answers for a window ID: result, valid mask, sample count, tones (05 R148, R149). -/
def impAnswer (p : Tap) (id : Nat) : Nat × Nat × Nat × List Nat :=
  if (p.imp.window.map (fun w => w.1 == id)).getD false then (4, 0, 0, [])
  else match p.imp.done with
    | some (w, code, valid, count, tones) =>
      if w = id then (code, valid, count, if code = 0 then tones else [])
      else if p.imp.dropped = some id then (3, 0, 0, []) else (5, 0, 0, [])
    | none => if p.imp.dropped = some id then (3, 0, 0, []) else (5, 0, 0, [])

/-- The IMP_READ payload (05 R148). -/
def impReadBytes (p : Tap) (id : Nat) : List Byte :=
  let a := impAnswer p id
  leBytes 1 id ++ leBytes 1 a.1 ++ leBytes 2 a.2.1 ++ leBytes 4 a.2.2.1 ++
  (List.range a.2.2.2.length).flatMap (fun k =>
    let l := maskPhasors a.2.1 (p.imp.phasors.getD k [])
    let e := toneExponent l
    leBytes 1 (a.2.2.2.getD k 0xFF) ++ leBytes 1 e ++ l.flatMap (impChannel e))

/-- The staging area beside the context store takes a window's phasors; older ones that still wait are dropped and counted
(05 R150, R151). -/
def deliverPhasors (s : State) : State :=
  let s := if s.est.staging.isSome then record Ev.impOverrun 3 [] { s with imp.overruns := s.imp.overruns + 1 } else s
  { s with
    est.staging := some { t0 := s.imp.t0, tones := s.imp.tones, cur := s.imp.cur, volt := s.imp.got, disturbed := s.imp.disturbed },
    imp.st := .idle, imp.armed := [], imp.got := [] }

/-- A tap has been read or dropped; after the last one the phasors are delivered (05 R149, R150). -/
def readDone (i : Nat) (s : State) : State :=
  let was := s.imp.toRead.contains i
  let s := { s with imp.toRead := s.imp.toRead.filter (· ≠ i) }
  if was && s.imp.toRead.isEmpty && s.imp.st == .reading then deliverPhasors s else s

/-- Phasors of a tap enter the window's collection: tone by tone, channel by channel. -/
def collectPhasors (i valid : Nat) (ph : List (List (Int × Int))) (s : State) : State :=
  { s with imp.got := (List.range s.imp.tones.length).map (fun k =>
      let l := maskPhasors valid (ph.getD k [])
      let e := toneExponent l
      ((s.imp.got.getD k []) ++ List.replicate (512 - (s.imp.got.getD k []).length) none).mapIdx (fun c x =>
        if c / 16 = i && bitOf valid (c % 16) then
          some (imp12 e (l.getD (c % 16) (0, 0)).1 * 2 ^ e, imp12 e (l.getD (c % 16) (0, 0)).2 * 2 ^ e)
        else x)) }

/-- IMP_READ: the results of a window, as the tap fitted them; the module takes what a frame it waits for carries
(05 R145, R148 to R150). -/
def execImpRead (t : Nat) (q : TapReq) (s : State) : Host.Outcome State Fault Refusal :=
  timed t (atTap 0x32 q (withPayload 1 (fun i b s =>
    let p := tapOf s i
    let id := leAt b 0 1
    let a := impAnswer p id
    let mine := s.imp.st == .reading && s.imp.wid == id && s.imp.toRead.contains i && a.1 ≠ 4
    let s := if mine then readDone i (if a.1 = 0 then collectPhasors i a.2.1 p.imp.phasors s else s) else s
    .reply s (impReadBytes p id)))) s

/-- TAP_IMP_LINE_LOSS of tap `i`: no activity at its locked port for `quiet` ns; above 2 us a running window aborts with result 1
(05 R149). -/
def execTapImpLineLoss (t i quiet : Nat) (s : State) : Host.Outcome State Fault Refusal :=
  timed t (fun s =>
    if us 2 < quiet && (tapOf s i).imp.since.isSome then setTap i (endWindow s.now 1) s else s) s

/-! ## Windows (05 R138 to R143) -/

/-- Tones of a tone list parameter, ascending (05 R137, R142). -/
def spectrumTones (v : Nat) : List Nat :=
  (List.range 24).filter (fun a => (List.range 4).any (fun k => v / 256 ^ k % 256 == a))

/-- Window length in microseconds: the smallest multiple of the sweep period with at least 10 periods of the lowest tone and whole
periods of every tone (05 R139). -/
def windowLength (period : Nat) (tones : List Nat) : Nat :=
  let unit := tones.foldl (fun l a => Nat.lcm l (10000000 / Nat.gcd 10000000 (toneFreq a))) (max period 1)
  let least := 100000000 / max (toneFreq (tones.headD 0)) 1
  unit * max 1 ((least + unit - 1) / unit)

/-- The lead in microseconds: IMP_LEAD_PERIODS periods of the lowest tone in whole sweep periods, at least 2 ms (05 R142). -/
def leadLength (s : State) (period : Nat) (tones : List Nat) : Nat :=
  let p := max period 1
  let f := max (toneFreq (tones.headD 0)) 1
  let raw := (prmN s Prm.impLeadPeriods * 10000000 + f - 1) / f
  (max raw 2000 + p - 1) / p * p

/-- A spectrum window fits between internal temperatures (05 R140). -/
def spectrumFits (s : State) : Bool :=
  let tones := spectrumTones (prmN s Prm.impSpectrumSet)
  leadLength s s.rings.period tones + windowLength s.rings.period tones + 2000000 * prmN s Prm.impTempInterval ≤
    1000000 * prmN s Prm.tIntHold

/-- IMP_SPECTRUM_BLOCKED follows the rule of 05 R140. -/
def judgeSpectrum (s : State) : State :=
  let b := !spectrumFits s
  let s := if b && !s.imp.blocked then record Ev.impSpectrumBlocked 3 [] s else s
  { s with imp.blocked := b }

/-- Peak of the excitation in string-current LSB, rounded to nearest, 1 A to 50 A (05 R142; the spec states no rounding: DESIGN
CHOICE, notes/assumptions/48.md). -/
def excPeak (s : State) : Int := clampTo 32 1600 (roundDiv (prm s Prm.impAmpl * iRated s) 32768)

/-- The excitation would fit the ceilings now (05 R143). -/
def excFits (s : State) (amp : Int) : Bool :=
  let q := requestCode s
  let sel := minSelect s q.1 q.2 amp
  decide (sel.applied + amp ≤ sel.ceil.1) && decide (-sel.ceil.2 ≤ sel.applied - amp)

/-- A spectrum window is due (05 R138). -/
def spectrumDue (s : State) : Bool :=
  !s.imp.blocked && (s.imp.specNow || heldFor s s.imp.lastSpec (sec (prmN s Prm.impSpectrumInterval)))

/-- IMP_LEAD_START: the lead of the next window begins, so that the window starts on a mark at its end; a spectrum window runs in
place of a temperature window when it is due (05 R138 to R143). -/
def execImpLeadStart (t : Nat) (s : State) : Host.Outcome State Fault Refusal :=
  timed t (fun s =>
    if s.imp.st != .idle || !s.imp.toRead.isEmpty || !s.imp.stopTaps.isEmpty || (impFailing s false).isSome || !activeUsable s then s
    else
      let s := judgeSpectrum s
      let spec := spectrumDue s
      let tones := if spec then spectrumTones (prmN s Prm.impSpectrumSet) else [tTone (activeSet s)]
      let period := s.rings.period
      let lead := us (leadLength s period tones)
      let later := { s with now := s.now + lead }
      let t0 := nextGrid later (us period)
      let due := (s.imp.lastTemp.map (fun a => decide (a + sec (prmN s Prm.impTempInterval) ≤ t0))).getD true
      if !due || !excFits s (excPeak s) then s
      else { s with
        imp.st := .lead, imp.wid := (s.imp.wid + 1) % 256, imp.spectrum := spec, imp.tones := tones, imp.t0 := (t0, stampAt s t0),
        imp.len := windowLength period tones / max period 1, imp.period := period, imp.amp := excPeak s, imp.leadAt := s.now,
        imp.fade := none, imp.armed := [], imp.got := [], imp.cur := [], imp.disturbed := false, imp.gateOff := false,
        imp.takeover := false, imp.setupSent := [false, false] }) s

/-- IMP_WINDOW_START: the start mark; integration begins if every condition still holds (05 R138, R141, R144). -/
def execImpWindowStart (t : Nat) (s : State) : Host.Outcome State Fault Refusal :=
  timed t (fun s =>
    if s.imp.st != .lead || s.now < s.imp.t0.1 then s
    else match impFailing s true with
      | some c => impAbort c s
      | none =>
        if s.imp.spectrum then { s with imp.st := .integrating, imp.specNow := false, imp.lastSpec := s.now }
        else { s with imp.st := .integrating, imp.lastTemp := some s.now }) s

/-- Mean of each tenth of the window's string-current samples, in microampere (05 R153). -/
def tenthMeans (xs : List Int) : List Int :=
  (List.range 10).map (fun k =>
    let l := (xs.drop (k * xs.length / 10)).take ((k + 1) * xs.length / 10 - k * xs.length / 10)
    l.foldl (· + ·) 0 / max (l.length : Int) 1)

/-- The mean over some tenth of the window differs from the window mean by more than IMP_DRIFT_LIM; 1 LSB is 31,250 microampere
(05 R153). -/
def driftTooLarge (s : State) (xs : List Int) : Bool :=
  let n : Int := max xs.length 1
  let sum := xs.foldl (· + ·) 0
  (tenthMeans xs).any (fun x => decide (prm s Prm.impDriftLim * iRated s * 31250 * n < 32768 * ((n * x - sum).natAbs : Int)))

/-- A current phasor as the module holds it: two signed 32-bit values in microampere (05 R146). -/
def hold32 (v : Int × Int) : Int × Int := (clampTo (-2147483648) 2147483647 v.1, clampTo (-2147483648) 2147483647 v.2)

/-- The order in which the taps of a window are read: each ring from its serving ends outward (05 R150). -/
def readOrder (s : State) : List Nat :=
  [0, 1].flatMap (fun r =>
    let l := reached s r
    (l.filter (fun p => endOf s r p == some true) ++ (l.filter (fun p => endOf s r p == some false)).reverse).map (tapIndex r))

/-- IMP_WINDOW_END: the end mark. `xs` the samples of CS-SHUNT on the grid of 40,000 per second from T0 on, in microampere; the
module fits them as the taps fit their channels; the excitation fades and the read-out begins (05 R142, R144 to R146, R150). -/
def execImpWindowEnd (t : Nat) (xs : List Int) (s : State) : Host.Outcome State Fault Refusal :=
  timed t (fun s =>
    if s.imp.st != .integrating || s.now < s.imp.t0.1 + us (s.imp.len * s.imp.period) then s
    else
      let xs := xs.take (s.imp.len * s.imp.period / 25)
      let cur := (fitTones s.imp.tones xs).map hold32
      let s := { s with
        imp.fade := some (s.now, excAmp s), imp.st := .reading, imp.toRead := (readOrder s).filter (s.imp.armed.contains ·),
        imp.cur := cur, imp.disturbed := driftTooLarge s xs,
        imp.last := (List.range s.imp.tones.length).foldl (fun l k =>
          let tone := s.imp.tones.getD k 0xFF
          l.filter (fun (x : Nat × Nat × Int × Int) => x.1 ≠ tone) ++ [(tone, s.imp.t0.2, cur.getD k (0, 0))]) s.imp.last }
      if s.imp.toRead.isEmpty then { s with imp.st := .idle } else s) s

/-! ## Frames of a command window (05 R147, R150, R159) -/

/-- IMP_SETUP, IMP_WINDOW and IMP_READ frames of a ring's command window. -/
def impFrames (r : Nat) (s : State) : State :=
  let here (i : Nat) : Bool := i / 16 == r
  let s := eachDo (s.imp.stopTaps.filter here) (fun i s => sendTap r (i % 16 + 1) 0x31 (leBytes 1 s.imp.wid ++ leBytes 5 0) s) s
  let s := { s with imp.stopTaps := s.imp.stopTaps.filter (fun i => !here i) }
  match s.imp.st with
  | .lead =>
    let ahead := (s.imp.t0.1 - s.rings.sweepT.getD 0 + us s.imp.period / 2) / max (us s.imp.period) 1
    let setup : TapImp := { tones := s.imp.tones, samples := s.imp.period / 25, mask := 0xFFFF }
    let s := if 0 < ahead && !s.imp.setupSent.getD r false then
        eachDo (reached s r) (fun p s => sendTap r p 0x30 (setupBytes setup) s) { s with imp.setupSent := s.imp.setupSent.set r true }
      else s
    if 0 < ahead && ahead ≤ 2 then
      eachDo (reached s r) (fun p s =>
        sendTap r p 0x31 (leBytes 1 s.imp.wid ++ leBytes 1 (((posOf s r p).expect + ahead) % 256) ++ leBytes 4 s.imp.len) s) s
    else s
  | .reading =>
    let lost := s.imp.toRead.filter (fun i => here i && (endOf s r (i % 16 + 1)).isNone)
    let s := eachDo lost readDone s
    eachDo (s.imp.toRead.filter here) (fun i s => sendTap r (i % 16 + 1) 0x32 (leBytes 1 s.imp.wid) s) s
  | _ => s

/-! ## Commands (05 R161) -/

/-- State code. -/
def ImpState.code : ImpState → Nat
  | .idle => 0 | .lead => 1 | .integrating => 2 | .reading => 3

/-- IMP_STATUS. -/
def impStatus (s : State) : Payload :=
  .fields [("state", [s.imp.st.code]), ("window", [(s.imp.wid : Int), flag s.imp.spectrum]),
    ("tones", s.imp.tones.map (fun (a : Nat) => (a : Int))), ("T0", [s.imp.t0.2]), ("W", [s.imp.len]), ("A", [s.imp.amp]),
    ("aborts", s.imp.aborts.map (fun (a : Nat) => (a : Int))), ("overruns", [s.imp.overruns]), ("blocked", [flag s.imp.blocked])]

/-- IMP_STATUS. -/
def execImpStatus (t m : Nat) (s : State) : Host.Outcome State Fault Refusal :=
  timed t (serve m Cmd.impStatus (statusHandler impStatus)) s

/-- Z, phase and flags of a cell's slot of a tone. -/
def resultInts (s : State) (tone c : Nat) : List Int := match (ctxOf s c).z.find? (fun z => z.tone == tone) with
  | some z => [z.re, z.im, z.phase, (z.flags.toNat : Int)]
  | none => [0, 0, 0, 0]

/-- IMP_RESULTS: tone, start cell, count 1 to 64. -/
def impResultsHandler : Request → State → Answer × State :=
  withLength 4 (fun b s =>
    let tone := leAt b 0 1
    let n := leAt b 3 1
    if 23 < tone then refuse (argReply Cmd.impResults 0) s
    else if n = 0 ∨ 64 < n then refuse (argReply Cmd.impResults 3) s
    else if 512 < leAt b 1 2 + n then refuse (argReply Cmd.impResults 1) s
    else
      let last := s.imp.last.find? (fun x => x.1 == tone)
      okWith (.fields [("T0", (last.map (fun x => [(x.2.1 : Int), x.2.2.1, x.2.2.2])).getD [0, 0, 0]),
        ("cells", (List.range n).flatMap (fun k => resultInts s tone (leAt b 1 2 + k)))]) s)

/-- IMP_RESULTS. -/
def execImpResults (t m : Nat) (s : State) : Host.Outcome State Fault Refusal := timed t (serve m Cmd.impResults impResultsHandler) s

/-- IMP_SPECTRUM_NOW: refused while IMP_SPECTRUM_BLOCKED is raised. -/
def execImpSpectrumNow (t m : Nat) (s : State) : Host.Outcome State Fault Refusal :=
  timed t (serve m Cmd.impSpectrumNow (withLength 0 (fun _ s =>
    if s.imp.blocked then refuse (causeReply .badArgument Ev.impSpectrumBlocked) s else ok { s with imp.specNow := true }))) s

end Sys2Proof.Machine
end

