-- ==== Sys2Proof/Machine/Ring.lean ====
section
/-!
DEFINITION. Machine/Ring.lean: the module's side of the cell rings: enumeration, the sweep, breaks and split mode, the command
window, the tests of the FLT switches, and the commands of the ring function (01 R23 to R25; 02 R50 to R82, R566, R567).
-/

namespace Sys2Proof.Machine

open Sys2Proof

/-! ## Thresholds and chemistry (02 R567, 04 R120) -/

/-- Positions of a ring that have been identified since the boot or the takeover (02 R567). -/
def knownPos (s : State) (r : Nat) : List RingPos := ((ringOf s r).pos.take (tapCount s r)).filter (fun x => x.known)

/-- The effective OV and UV thresholds; none before any tap has been identified (02 R567). -/
def effThresholds (s : State) : Option (Nat × Nat) :=
  let l := knownPos s 0 ++ knownPos s 1
  match l with
  | [] => none
  | x :: _ =>
    some (if prm s Prm.ovThreshold = 0 then (l.map (fun y => y.ovClamp.2)).foldl min x.ovClamp.2 else prmN s Prm.ovThreshold,
          if prm s Prm.uvThreshold = 0 then (l.map (fun y => y.uvClamp.1)).foldl max x.uvClamp.1 else prmN s Prm.uvThreshold)

/-- Effective thresholds break the rules of 06 R197: 50 mV between them and the cell voltage limits. -/
def threshBad (s : State) (e : Option (Nat × Nat)) : Bool := match e with
  | some (ov, uv) => decide ((ov : Int) < prm s Prm.cellVChgMax + 500) || decide (prm s Prm.cellVDisMin < (uv : Int) + 500)
  | none => false

/-- CHEM_MISMATCH: the active set is unusable, or its code differs from a fitted tap's; while it is unusable every I_CHG_LIM has
the no-value code (04 R120, R122). -/
def judgeChem (s : State) : State :=
  let s := if activeUsable s then s else { s with est.ctx := s.est.ctx.map (fun (x : Ctx) => { x with lim := none }) }
  let bad := !activeUsable s || (knownPos s 0 ++ knownPos s 1).any (fun x => x.chem ≠ byteAt (activeSet s) 2)
  let s := if bad && !s.est.mismatch then record Ev.chemMismatch 3 [chemActive s] s else s
  { s with est.mismatch := bad }

/-- Judge the effective thresholds against the cell voltage limits in force (02 R567). -/
def judgeEff (s : State) : State := { s with rings.effBad := threshBad s s.rings.eff }

/-- SET_THRESH to every reachable tap of a ring, which rounds and clamps it (02 R52, R64, R567). -/
def sendThresholds (r : Nat) (s : State) : State := match s.rings.eff with
  | none => s
  | some (ov, uv) => eachDo (reached s r) (fun p s =>
      let s := setTap (tapIndex r p) (applyThresh ov uv) (sendTap r p 0x04 (leBytes 2 ov ++ leBytes 2 uv) s)
      let x := tapOf s (tapIndex r p)
      let s := setPos r p (fun (y : RingPos) => { y with applied := some (x.ov, x.uv) }) s
      if x.clamped then record Ev.threshClamped 3 [r, p, x.ov, x.uv] s else s) s

/-- The effective thresholds change, and every tap is to be sent them in a command window (02 R58, R567). -/
def applyThresholds (s : State) : State :=
  judgeEff { s with rings.eff := effThresholds s, rings.threshDue := [true, true] }

/-! ## Enumeration (02 R50 to R56, R566) -/

/-- The TAI second now. -/
def taiSecond (s : State) : Nat := stampNow s / 2 ^ 32

/-- Expected tap count of a ring (02 R79). -/
def expectedTaps (s : State) (r : Nat) : Nat := prmN s (Prm.tapsA + r)

/-- One-way delay of a mean round trip (02 R53). -/
def oneWay (rt : Option Nat) (tta : Nat) : Option Nat := rt.map (fun a => (a - tta) / 2)

/-- Counts of 20 ns for a wait, rounded to nearest, with the added 100 (02 R54). -/
def waitCounts (most : Nat) (out : Option Nat) : Option Nat := out.map (fun o => (most - o + 10) / 20 + 100)

/-- The 16 contexts of a replaced tap (02 R56, 04 R133). -/
def replaceTap (r p : Nat) (s : State) : State :=
  let base := 256 * r + 16 * (p - 1)
  record Ev.tapReplaced 3 [r, p] { setPos r p (fun (x : RingPos) => { x with replaced := true }) s with
    est.ctx := s.est.ctx.mapIdx (fun c x =>
      if c / 16 = base / 16 then { x with flags := ctxFlag 6 true x.flags, reinit := some s.rings.count, reinitRest := false } else x) }

/-- What enumeration learns of a tap, and what its commands leave in it (02 R52): identity, collection mode, mark count. Delays
measured before a tap reset or of another tap count no longer (02 R55). -/
def meetTap (r p : Nat) (low : Bool) (o : TapObs) (s : State) : State :=
  let i := tapIndex r p
  let known := (tapOf s i).fitted && (tapOf s i).serial == o.serial
  let kept := known && !(tapOf s i).delayUnset
  let cl (k : Nat) := o.clamps.getD k 0
  let s := setTap i (fun (x : Tap) =>
    let x : Tap := if known then x else { ({} : Tap) with ov := cl 1, uv := cl 2, fw := x.fw }
    { x with fitted := true, asleep := false, serial := o.serial, hwRev := o.hwRev, fwVer := o.fwVer, level := o.level, chem := o.chem,
             ovMin := cl 0, ovMax := cl 1, uvMin := cl 2, uvMax := cl 3, tta := o.tta, leadMohm := o.leads, poll := false, marks := 0 }) s
  let stored := (posOf s r p).serial
  let s := setPos r p (fun (x : RingPos) =>
    let up := oneWay o.rtUp o.tta
    let dn := oneWay o.rtDn o.tta
    let x : RingPos := if kept then x else { x with outUp := none, outDn := none, dUp := 100, dDn := 100 }
    { x with serial := some o.serial, fwVer := o.fwVer, chem := o.chem, ovClamp := (cl 0, cl 1), uvClamp := (cl 2, cl 3), known := true,
             outUp := if low then up else x.outUp, outDn := if low && dn.isNone then x.outDn else dn, unreachable := false,
             got := false, late := false, resetup := false, recount := false, expect := 0, sent := [none, none], leaseDue := false,
             lastOk := false }) s
  let s := if (stored.map (fun a => a != o.serial)).getD false then replaceTap r p s else s
  eachDo ((List.range 16).filter (fun c => 100 < o.leads.getD c 0)) (fun c s => record Ev.leadHigh 3 [r, p, c, o.leads.getD c 0] s) s

/-- The waits of every tap from the measured delays, for the ends that reach it (02 R53 to R55). -/
def setWaits (r : Nat) (s : State) : State :=
  let up := farthest s r true
  let dn := farthest s r false
  eachDo (reached s r) (fun p s =>
    let y := posOf s r p
    let a := (waitCounts up y.outUp).getD y.dUp
    let b := (waitCounts dn y.outDn).getD y.dDn
    setTap (tapIndex r p) (fun (z : Tap) => { z with dUp := a, dDn := b, delayUnset := false })
      (setPos r p (fun (z : RingPos) => { z with dUp := a, dDn := b }) s)) s

/-- Mark positions that neither end reaches: UNREACHABLE (02 R71). -/
def markUnreachable (r : Nat) (s : State) : State :=
  eachDo ((List.range (tapCount s r)).map (· + 1)) (fun p s =>
    let lost := (endOf s r p).isNone
    setPos r p (fun (x : RingPos) => { x with unreachable := lost }) s) s

/-- FITTED of every context follows the ring map (04 R105, R106). -/
def markFitted (s : State) : State :=
  { s with est.ctx := s.est.ctx.mapIdx (fun c x => { x with flags := ctxFlag 15 (cellFitted s c) x.flags }) }

/-- The NOP frames return in time, so that the loop is whole (02 R566). -/
def loopWhole (s : State) (o : RingObs) : Bool :=
  (o.loop.map (fun a => decide (a ≤ us 12 + us (prmN s Prm.returnTimeoutExtra)))).getD false

/-- IDENTIFY outward from an end of an open loop, with RB, up to the one that times out (02 R566). -/
def identifyOutward (r : Nat) (low : Bool) (answered n : Nat) (s : State) : State :=
  eachDo ((List.range (min (answered + 1) n)).map (· + 1)) (fun h s => ringSend r low true s.now 1 h 0x01 [] s) s

/-- The frames of an enumeration's steps 3 and 4 (02 R52, R566). -/
def enumIdentify (r n : Nat) (whole : Bool) (o : RingObs) (s : State) : State :=
  let s := if whole then eachDo (reached s r) (fun p s => sendTap r p 0x01 [] s) s
    else identifyOutward r false o.high.length n (identifyOutward r true o.low.length n s)
  let probe (low : Bool) (s : State) : State :=
    eachDo ((reached s r).filter (fun p => whole || endOf s r p == some low)) (fun p s => sendProbes r p low 64 s) s
  probe false (probe true s)

/-- The frames of steps 5 and 6 (02 R52). -/
def enumSetUp (r : Nat) (s : State) : State :=
  let s := eachDo (reached s r) (fun p s =>
    let y := posOf s r p
    sendTap r p 0x0B [0#8] (sendTap r p 0x03 (leBytes 2 y.dUp ++ leBytes 2 y.dDn) s)) s
  sendAll r 0x05 [0#8] (sendThresholds r s)

/-- A ring's cells and temperatures beyond its taps have no value (02 R39). -/
def blankBeyond (r n : Nat) (s : State) : State :=
  { s with
    rings.cells := s.rings.cells.mapIdx (fun c y => if c / 256 = r && n ≤ c % 256 / 16 then {} else y),
    rings.temps := s.rings.temps.mapIdx (fun k y => if k / 128 = r && n ≤ k % 128 / 8 then none else y) }

/-- Enumerate a ring from what it answers (02 R50, R52 to R56, R566): a whole loop counts its taps by the HOP of the NOP that
returned; an open one takes the expected count, and the taps that answer from each end, and starts in split mode. The frames of
the six steps go out, and their effect on the taps stands when the enumeration has ended. -/
def enumerate (r : Nat) (o : RingObs) (s : State) : State :=
  let whole := loopWhole s o
  let s := setRing r (fun (x : Ring) => { x with
    up := false, split := false, brk := none, locating := false, enterSplit := false, mark := none, tooLong := false,
    loop := if whole then o.loop else none,
    pollLow := none, pollHigh := none, clean := 0, remeasure := none, slotSent := false, tested := none, stretched := false,
    refreshedAt := s.now, probed := (s.now, 0) }) s
  let s := ringSend r true false s.now 65 62 0x00 [] { s with rings.window := s.rings.window.set r true }
  let n := if whole then 62 - min o.back 62 else expectedTaps s r
  if 16 < n then
    record Ev.tapCountMismatch 3 [r, n, expectedTaps s r]
      (record Ev.ringTooLong 3 [r, n] (setRing r (fun (x : Ring) => { x with tooLong := true, mismatch := true }) s))
  else
    let brk : Option (Nat × Nat) := if whole then none else some (o.low.length, n + 1 - min o.high.length n)
    let mis := if whole then n != expectedTaps s r else expectedTaps s r < o.low.length + o.high.length
    let s := blankBeyond r n (setRing r (fun (x : Ring) => { x with n := some n, brk := brk, mismatch := mis }) s)
    let s := { s with rings.tap := s.rings.tap.mapIdx (fun i x =>
      if whole && i / 16 == r && n ≤ i % 16 then { x with fitted := false } else x) }
    let s := enumIdentify r n whole o s
    let s := eachDo ((o.low.take n).zipIdx) (fun a s => meetTap r (a.2 + 1) true a.1 s) s
    let s := if whole then s
      else eachDo ((o.high.take (n - o.low.length)).zipIdx) (fun a s => meetTap r (n - a.2) false a.1 s) s
    let s := enumSetUp r (applyThresholds (setWaits r (markUnreachable r s)))
    let s := if mis then record Ev.tapCountMismatch 3 [r, o.low.length + (if whole then 0 else o.high.length), expectedTaps s r] s else s
    let s := match brk with
      | some (k, h) => record Ev.ringBreak 3 [r, k, h] (setRing r (fun (x : Ring) => { x with split := true, enterSplit := true }) s)
      | none => s
    let s := { s with rings.balModeDue := s.rings.balModeDue.set r true, rings.threshDue := s.rings.threshDue.set r false }
    judgeChem (markFitted (setRing r (fun (x : Ring) => { x with up := 0 < n }) s))

/-- RESTART of the ring function ends once every ring with taps expected has been enumerated (02 R52; 13 R385). -/
def ringRestarted (s : State) : State :=
  if (fnOf s 1).state == .restarting && !s.rings.enumDue.any id then
    finishJob (fnOf s 1).busy 0x0103 doneReply (setFn 1 (fun f => { f with state := .running, busy := none }) s)
  else s

/-- ENUMERATION of ring `r`, which is not swept: at boot into Watch or RESTART of the ring function (02 R52). `lost` the contexts
whose store words showed a double error (04 R105). -/
def execEnumeration (t r : Nat) (o : RingObs) (lost : List Nat) (s : State) : Host.Outcome State Fault Refusal :=
  timed t (fun s =>
    let on := running s 1 || (fnOf s 1).state == .restarting
    if r < 2 && on && !(ringOf s r).up && !inMode s [.shelf, .dormant] && holdsToken s && !s.thm.held then
      let s := eachDo lost loseCtx (enumerate r o s)
      ringRestarted { s with rings.enumDue := s.rings.enumDue.set r false }
    else s) s

/-- RE_ENUMERATE: both rings; a lead or window aborts (05 R141); refused while the ring function is stopped (02 R82). -/
def execReEnumerate (t m : Nat) (a b : RingObs) (s : State) : Host.Outcome State Fault Refusal :=
  timed t (serve m Cmd.reEnumerate (withLength 0 (fun _ s =>
    if stopped s 1 then refuse (guardReply Ev.functionStopped) s
    else ok (enumerate 1 b (enumerate 0 a (impAbort Ev.impRing s)))))) s

/-! ## The sweep (01 R23, R25; 02 R57 to R63, R72, R73) -/

/-- A ring's sweep is being collected. -/
def collecting (s : State) (r : Nat) : Bool := (ringOf s r).mark.isSome

/-- A ring's collection has not ended 60 us before a mark launch (02 R73). -/
def lateFor (s : State) (T : Nat) (x : Ring) : Bool := x.mark.isSome || decide (T < x.endedAt + us 60 + max (markLead s 0) (markLead s 1))

/-- The mark at `T` is skipped: the rings whose collection ends too late are stretched (02 R73). -/
def stretch (T : Nat) (s : State) : State :=
  { s with rings.ring := s.rings.ring.map (fun (x : Ring) => if lateFor s T x then { x with stretched := true } else x) }

/-- Start a ring's sweep at mark time `T`: the mark goes out from the low end, in split mode from both, where collection is by
COLLECT polls from both ends from 8 us after `T` on (02 R54, R58, R72). -/
def markRing (r T : Nat) (s : State) : State :=
  let x := ringOf s r
  let s := setRing r (fun (x : Ring) => { x with
    mark := some T, ansLow := 0, ansHigh := 0, lateness := 0, stretched := false, pollsFrom := (T + us 8, T + us 8),
    pollLow := if x.split && 0 < (x.brk.getD (0, 0)).1 then some 1 else none,
    pollHigh := if x.split && (x.brk.getD (0, 17)).2 ≤ x.n.getD 0 then some 1 else none,
    pos := x.pos.map (fun (y : RingPos) => { y with got := false, late := false, expect := (y.expect + 1) % 256 }) }) s
  let s := { s with rings.window := s.rings.window.set r false }
  let s := emit (.mark r true (T - (us 2 + farthest s r true))) s
  if !x.split then s
  else
    let s := emit (.mark r false (T - (us 2 + farthest s r false))) s
    let s := if (ringOf s r).pollLow.isSome then ringSend r true true (T + us 8) 1 1 0x10 [] s else s
    if (ringOf s r).pollHigh.isSome then ringSend r false true (T + us 8) 1 1 0x10 [] s else s

/-- The new sweep period takes effect at the first mark of its second; the marks, BAL_MODE and any impedance window follow it
(02 R57, 03 R96, 05 R141). -/
def takePeriod (s : State) : State := match s.rings.nextPeriod with
  | none => s
  | some (p, a) =>
    if nextMark s + us 10 < a then s
    else setPeriodic 0 4 (us p) 0
      { impAbort Ev.impSweep s with rings.period := p, rings.nextPeriod := none, rings.balModeDue := [true, true] }

/-- Begin a sweep at mark time `T`: the charge counter at the mark, and the string current over the 2 us centred on it, from the
shunt's or the Hall sensor's reading; nothing of an older sweep stays in it (02 R39, 04 R109). While the current is absent the spec
states none (notes/assumptions/48.md). -/
def beginSweep (T : Nat) (i2 : Option Int × Option Int) (s : State) : State :=
  let q := s.est.counter + (stringCurrent s).getD 0 * ((T : Int) - s.est.counterAt)
  let i := (currentOf s i2.1 i2.2).getD (Config.openValue "CURRENT AT MARK" [(T : Int)])
  { s with
    rings.sweepT := some T, rings.sweepI := (q, i), rings.build := List.replicate 512 {}, rings.buildT := List.replicate 256 none }

/-- Start the sweep at mark time `T` on the rings that are served (02 R57). -/
def startSweep (T : Nat) (i2 : Option Int × Option Int) (rs : List Nat) (s : State) : State :=
  eachDo rs (fun r s => markRing r T s) (beginSweep T i2 s)

/-- SWEEP_MARK: `shunt2` and `hall2` what the current front ends measure over the 2 us centred on the mark time (04 R109). A mark on the grid of multiples of the sweep period, for every ring served, after a wake from the next whole
second on (12 R368). While a ring's collection has not ended 60 us before its launch, the mark is skipped (02 R57, R73). -/
def execSweepMark (t : Nat) (shunt2 hall2 : Option Int) (s : State) : Host.Outcome State Fault Refusal :=
  timed t (fun s =>
    let rs := [0, 1].filter (ringServed s)
    if rs.isEmpty || inMode s [.shelf, .dormant] || nextMark s > s.now + us s.rings.period + max (markLead s 0) (markLead s 1) then s
    else if rs.any (fun r => lateFor s (nextMark s) (ringOf s r)) then stretch (nextMark s) s
    else
      let s := takePeriod s
      startSweep (nextMark s) (shunt2, hall2) rs s) s

/-- SWEEP_STRETCHED of ring `r`: its collection has not ended 60 us before the next mark launch (02 R73). -/
def execSweepStretched (t r : Nat) (s : State) : Host.Outcome State Fault Refusal :=
  timed t (fun s => match (ringOf s r).mark with
    | some T =>
      if T + us s.rings.period ≤ s.now + us 60 + markLead s r then
        record Ev.sweepStretched 3 [r] (setRing r (fun (x : Ring) => { x with stretched := true }) s)
      else s
    | none => s) s

/-- Both rings' collections have ended: the sweep is assembled with its mark time and flags and delivered (01 R25, 04 R109). -/
def assemble (s : State) : State := match s.rings.sweepT with
  | none => s
  | some T =>
    if [0, 1].any (collecting s) then s
    else { s with
      rings.cells := s.rings.build, rings.temps := s.rings.buildT, rings.mark := some (T, stampAt s T),
      rings.count := (s.rings.count + 1) % 2 ^ 32, rings.sweepT := none, est.atMark := s.rings.sweepI,
      rings.lastV := (List.range 512).map (fun c =>
        if ((s.rings.build.getD c {}).v).isSome then some T else s.rings.lastV.getD c none) }

/-- A ring's collection ends: its command window opens (02 R58). -/
def endCollection (r : Nat) (s : State) : State :=
  let was := collecting s r
  let s := setRing r (fun (x : Ring) => { x with mark := none, pollLow := none, pollHigh := none, endedAt := s.now }) s
  let s := { s with rings.window := s.rings.window.set r true }
  if was then assemble s else s

/-- The break is located between the highest position that answered from the low end and the positions covered from the high end;
split mode follows in the command window; SPLIT_LIMIT splits within 10 minutes hold it (02 R71, R72, R74). -/
def locate (r : Nat) (s : State) : State :=
  let x := ringOf s r
  let n := x.n.getD 0
  let k := x.ansLow
  let h := max (k + 1) (n + 1 - x.ansHigh)
  let first := !x.split
  let times := if first then within s (sec 600) x.splits ++ [s.now] else x.splits
  let s := setRing r (fun (x : Ring) => { x with
    brk := some (k, h), locating := false, enterSplit := true, clean := 0, remeasure := none, splits := times,
    hold := x.hold || (first && prmN s Prm.splitLimit ≤ times.length) }) s
  let s := record Ev.ringBreak 3 [r, k, h] (markUnreachable r s)
  if k + 1 < h then record Ev.unreachable 3 [r, k + 1, h - 1] s else s

/-- Both ends have stopped polling: locate if there is anything to locate, and end the collection. -/
def pollsEnded (r : Nat) (s : State) : State :=
  let x := ringOf s r
  if x.pollLow.isSome || x.pollHigh.isSome then s
  else
    let b := x.brk.getD (0, 0)
    let s := if x.locating || (x.split && (x.ansLow < b.1 || x.ansHigh < x.n.getD 0 + 1 - b.2)) then locate r s else s
    endCollection r s

/-- The module declares a break and collects by polls from both ends: a re-send mark from the high end 1 us later when the mark did
not reach every tap, high-end polls 8 us after its sample; low-end polls when every slot has ended, and the high end with them when
no re-send was needed (02 R68 to R70). -/
def declareBreak (r : Nat) (resend : Bool) (s : State) : State :=
  let x := ringOf s r
  let up := farthest s r true
  let dn := farthest s r false
  let late := prmN s Prm.returnTimeoutExtra * 10 + (x.loop.getD 0 - up + dn) / 100 + 10
  let again := s.now + us 1
  let low := max s.now ((x.mark.map (fun T => T + us 8 + us 23 * tapCount s r)).getD s.now)
  let high := if resend then again + dn + us 10 else low
  let s := setRing r (fun (x : Ring) => { x with
    locating := true, pollLow := some 1, pollHigh := some 1, pollsFrom := (low, high), ansLow := 0, ansHigh := 0,
    lateness := if resend then late else 0 }) s
  let s := if resend then emit (.mark r false again) s else s
  ringSend r true true low 1 1 0x10 [] (ringSend r false true high 1 1 0x10 [] s)

/-- RING_BREAK of ring `r`: a mark or a request sent without RB has not returned within L + RETURN_TIMEOUT_EXTRA of its launch,
`waited` ns ago; `isMark` when it was this sweep's mark (02 R68, R69). -/
def execRingBreak (t r waited : Nat) (isMark : Bool) (s : State) : Host.Outcome State Fault Refusal :=
  timed t (fun s =>
    let x := ringOf s r
    if ringServed s r && !x.split && !x.locating && x.loop.getD 0 + us (prmN s Prm.returnTimeoutExtra) ≤ waited then
      declareBreak r (isMark && x.mark.isSome) s
    else s) s

/-- The next poll from an end, or its end (02 R70, R72). -/
def nextPoll (r : Nat) (high : Bool) (s : State) : State :=
  let x := ringOf s r
  let n := x.n.getD 0
  let b := x.brk.getD (0, n + 1)
  let last := if x.locating then n else if high then n + 1 - b.2 else b.1
  let hop := ((if high then x.pollHigh else x.pollLow).getD 0) + 1
  let go := hop ≤ last
  let s := setRing r (fun (x : Ring) =>
    if high then { x with pollHigh := if go then some hop else none } else { x with pollLow := if go then some hop else none }) s
  if go then ringSend r (!high) true s.now 1 hop 0x10 [] s else pollsEnded r s

/-- Cells and temperatures of a frame that passes R62 enter the sweep (02 R61 to R63). -/
def keepData (r p : Nat) (b : List Byte) (late : Bool) (s : State) : State :=
  let i := tapIndex r p
  let x := ringOf s r
  let volt (c : Nat) : Option Int := if leAt b (3 + 2 * c) 2 = 65535 then none else some (leAt b (3 + 2 * c) 2 : Nat)
  let temp (k : Nat) : Option Int := if leAt b (43 + 2 * k) 2 = 0x8000 then none else some (signedOf 16 (leAt b (43 + 2 * k) 2))
  let nib (c : Nat) : Nat := if c % 2 = 0 then leAt b (35 + c / 2) 1 % 16 else leAt b (35 + c / 2) 1 / 16
  { s with
    rings.build := s.rings.build.mapIdx (fun c y =>
      if c / 16 = i then { v := volt (c % 16), nib := nib (c % 16), late := late, lateness := if late then x.lateness else 0 } else y),
    rings.buildT := s.rings.buildT.mapIdx (fun k y => if k / 8 = i then temp (k % 8) else y) }

/-- Judge the data of position `p` (02 R62, R63, R68): a wrong count reloads the counter; DELAY_UNSET sets the tap up again, and the
wait of an end that does not reach it is 100 counts (02 R55). -/
def judgeData (r p : Nat) (b : List Byte) (s : State) : State :=
  let y := posOf s r p
  let st := leAt b 1 2
  let late := bitOf st 15 && 0 < (ringOf s r).lateness
  let s := { s with rings.status := s.rings.status.set (tapIndex r p) st }
  let badCount := leAt b 0 1 ≠ y.expect
  let new := bitOf st 2 && !y.resetup
  let split := (ringOf s r).split
  let low := endOf s r p == some true
  let s := if new then record Ev.delayUnset 3 [r, p] s else s
  let s := setPos r p (fun (y : RingPos) => { y with
    got := true, late := late, resetup := y.resetup || bitOf st 2, recount := y.recount || badCount,
    outUp := if new && split && !low then none else y.outUp, dUp := if new && split && !low then 100 else y.dUp,
    outDn := if new && split && low then none else y.outDn, dDn := if new && split && low then 100 else y.dDn }) s
  if badCount || bitOf st 2 || bitOf st 3 then s else keepData r p b late s

/-- A through-mode collection is complete when every position has delivered. -/
def throughDone (s : State) (r : Nat) : Bool :=
  let x := ringOf s r
  x.mark.isSome && !x.split && !x.locating && (x.pos.take (x.n.getD 0)).all (·.got)

/-- The poll under way at an end, once the end polls (02 R70). -/
def pollAt (s : State) (r : Nat) (high : Bool) : Option Nat :=
  let x := ringOf s r
  (if high then x.pollHigh else x.pollLow).filter (fun _ => decide ((if high then x.pollsFrom.2 else x.pollsFrom.1) ≤ s.now))

/-- A position has delivered: data that came whole is judged, data whose CRC failed is discarded (02 R62); the frame counts at the
ports it passed (02 R80). -/
def deliverData (r p : Nat) (up good : Bool) (b : List Byte) (s : State) : State :=
  let s := countResponse r p up s
  if (posOf s r p).got then s
  else if good then judgeData r p b s
  else setPos r p (fun (y : RingPos) => { y with got := true }) s

/-- SWEEP_DATA_RECEIVE: the bytes of a frame, ADDR to CRC, at RING-x-OUT or (`high`) RING-x-RET. A frame that answers the poll under
way counts for that end, and the next poll follows; otherwise it is a slot frame of the position its HOP names, or, when its CRC
fails, of the slot it arrives in; a frame whose CRC fails is discarded (02 R60 to R63, R68, R70). -/
def sweepData (r : Nat) (high : Bool) (f : List Byte) (s : State) : State :=
  let x := ringOf s r
  let n := x.n.getD 0
  let good := f.length = 64 && byteAt f 1 = 0x90 && byteAt f 2 = 59 && leAt f 62 2 = crc16 (f.take 62)
  let hop := byteAt f 0 % 64
  let slotPos := (s.now - (x.mark.getD s.now + us 28)) / us 23 + 1
  match pollAt s r high with
  | some h =>
    if (good && hop ≠ h) || h = 0 || n < h then s
    else
      let s := deliverData r (if high then n + 1 - h else h) high good (f.drop 3) s
      nextPoll r high (setRing r (fun (x : Ring) => if high then { x with ansHigh := h } else { x with ansLow := h }) s)
  | none =>
    let p := if good then hop else slotPos
    if !x.mark.isSome || !high || p = 0 || n < p || (posOf s r p).got then s
    else
      let s := deliverData r p true good (f.drop 3) s
      let s := if good && bitOf (leAt f 4 2) 1 && !x.split && !x.locating then declareBreak r false s else s
      if throughDone s r then endCollection r s else s

/-- SWEEP_DATA_RECEIVE. -/
def execSweepDataReceive (t r : Nat) (high : Bool) (f : List Byte) (s : State) : Host.Outcome State Fault Refusal :=
  timed t (fun s => if r < 2 && ringServed s r then sweepData r high f s else s) s

/-- COLLECT_POLL_TIMEOUT: the poll at hop `h` of an end has not been answered for `waited` ns; after 30 us + 2 x out(h) that end
stops (02 R70, R71). -/
def execCollectPollTimeout (t r : Nat) (high : Bool) (h waited : Nat) (s : State) : Host.Outcome State Fault Refusal :=
  timed t (fun s =>
    let x := ringOf s r
    let p := if high then x.n.getD 0 + 1 - h else h
    let out := ((if high then (posOf s r p).outDn else (posOf s r p).outUp)).getD 0
    if pollAt s r high == some h && us 30 + 2 * out ≤ waited then
      let s := setRing r (fun (x : Ring) => if high then { x with pollHigh := none } else { x with pollLow := none }) s
      pollsEnded r s
    else s) s

/-! ## The command window (02 R58, R62, R72; 03 R87, R96, R101; 05 R150) -/

/-- Taps whose slot stayed empty: TAP_SILENT, no-value cells (02 R62). -/
def noteSilent (r : Nat) (s : State) : State :=
  eachDo ((reached s r).filter (fun p => !(posOf s r p).got)) (fun p s =>
    record Ev.tapSilent 3 [r, p] { s with rings.status := s.rings.status.set (tapIndex r p) 0 }) s

/-- The frames that set a tap up again (02 R62). -/
def resetupFrames (r p : Nat) (s : State) : State :=
  let y := posOf s r p
  let s := sendTap r p 0x01 [] s
  let s := sendTap r p 0x03 (leBytes 2 y.dUp ++ leBytes 2 y.dDn) s
  let s := match s.rings.eff with
    | some (ov, uv) => sendTap r p 0x04 (leBytes 2 ov ++ leBytes 2 uv) s
    | none => s
  let s := sendTap r p 0x0B (leBytes 1 (if (ringOf s r).split then 1 else 0)) s
  let s := sendTap r p 0x05 (leBytes 1 y.expect) s
  sendTap r p 0x22 (leBytes 1 (prmN s Prm.balModeSel) ++ leBytes 4 s.rings.period)
    (setPos r p (fun (y : RingPos) => { y with resetup := false, recount := false }) s)

/-- STOP of balancing ends once the broadcast BAL_STOP has gone out on every ring (03 R101, 13 R390). -/
def balStopSent (s : State) : State :=
  if s.rings.balStopMb.isSome && [0, 1].all (fun r => !(s.rings.balStopDue.getD r false && (ringOf s r).up)) then
    finishJob s.rings.balStopMb 0x0201 doneReply
      (setFn 2 (fun f => { f with state := .stopped, busy := none }) { s with rings.balStopMb := none })
  else s

/-- Broadcasts of the balancing function: BAL_STOP when it is due and in the last window before a new sweep period, BAL_MODE after
it (03 R96, R101). -/
def balFrames (r : Nat) (s : State) : State :=
  let s := if s.rings.balStopDue.getD r false || periodChanging s then
      sendAll r 0x21 (leBytes 1 3) { s with rings.balStopDue := s.rings.balStopDue.set r false }
    else s
  let s := balStopSent s
  if s.rings.balModeDue.getD r false then
    sendAll r 0x22 (leBytes 1 (prmN s Prm.balModeSel) ++ leBytes 4 s.rings.period)
      { s with rings.balModeDue := s.rings.balModeDue.set r false }
  else s

/-- The frames that set taps up or reload their counters, and thresholds that changed (02 R62, R567). -/
def setUpFrames (r : Nat) (s : State) : State :=
  let s := if s.rings.threshDue.getD r false then
      sendThresholds r { s with rings.threshDue := s.rings.threshDue.set r false }
    else s
  eachDo (reached s r) (fun p s =>
    if (posOf s r p).resetup then resetupFrames r p s
    else if (posOf s r p).recount then
      setPos r p (fun (y : RingPos) => { y with recount := false }) (sendTap r p 0x05 (leBytes 1 (posOf s r p).expect) s)
    else s) s

/-- A re-measurement of a split ring runs in this second (02 R74). -/
def remeasuring (s : State) (r : Nat) : Bool := (ringOf s r).remeasure == some (taiSecond s)

/-- Number `j` of the probes: position and end. Every position from both ends, in split mode from its own end only, but for a
re-measurement (02 R55, R74). -/
def probeFrame (r j : Nat) (s : State) : State :=
  let p := j / 2 % max (tapCount s r) 1 + 1
  let low := j % 2 = 0
  let own := endOf s r p
  if remeasuring s r || (own.isSome && (!(ringOf s r).split || own == some (decide low))) then sendProbes r p low 1 s
  else match own with
    | some e => sendProbes r p e 1 s
    | none => s

/-- The ECHO probes of a command window: at least 205 per second in all (02 R55). -/
def probeFrames (r : Nat) (s : State) : State :=
  let x := ringOf s r
  let k := min 64 ((205 * (s.now - x.probed.1)) / sec 1 + 1)
  let s := setRing r (fun (x : Ring) => { x with probed := (s.now, x.probed.2 + k) }) s
  eachDo (List.range k) (fun j s => probeFrame r (x.probed.2 + j) s) s

/-- SET_COLLECT (slot) in the last command window of a re-measurement (02 R74). -/
def slotFrames (r : Nat) (s : State) : State :=
  if remeasuring s r && taiSecond s < stampAt s (nextMark s + us 10) / 2 ^ 32 then
    sendAll r 0x0B [0#8] (setRing r (fun (x : Ring) => { x with slotSent := true }) s)
  else s

/-- Frames and errors that join a running block of 1,000 frames: every block that they fill is judged; the errors of an interval
count as spread evenly over its frames (02 R80; DESIGN CHOICE, notes/assumptions/48.md). `worse` whether a filled block lay
beyond CRC_WARN. -/
def blockAfter (s : State) : Nat → Nat × Nat → Bool → Bool → Nat → Nat → (Nat × Nat) × Bool × Bool
  | 0, blk, was, worse, _, _ => (blk, was, worse)
  | fuel + 1, blk, was, worse, frames, errs =>
    let room := 1000 - blk.1
    if frames < room then ((blk.1 + frames, blk.2 + errs), was, worse)
    else
      let e := errs * room / max frames 1
      let beyond := decide (prmN s Prm.crcWarn < blk.2 + e)
      blockAfter s fuel (0, 0) beyond (worse || beyond) (frames - room) (errs - e)

/-- RING_MARGIN is raised by a block beyond CRC_WARN and clears when the last block of every port lies within it (02 R80). -/
def judgeMargin (r : Nat) (worse : Bool) (s : State) : State :=
  let bad (x : Ring) : Bool := (x.pos.take (x.n.getD 0)).any (fun y => y.overUp || y.overDn)
  let s := if worse && !(ringOf s r).margin then
      record Ev.ringMargin 3 [r] (setRing r (fun (x : Ring) => { x with margin := true }) s)
    else s
  if s.rings.ring.all (fun x => !bad x) then { s with rings.ring := s.rings.ring.map (fun (x : Ring) => { x with margin := false }) } else s

/-- READ_STATUS of a position: its CRC counts, against the frames that the sequencer counted at its ports since the last one
(02 R80). -/
def pollStatus (r p : Nat) (s : State) : State :=
  let s := sendTap r p 0x06 [] s
  let x := tapOf s (tapIndex r p)
  let y := posOf s r p
  let a := blockAfter s (y.frUp / 1000 + 2) y.blkUp y.overUp false y.frUp ((x.crcUp + 65536 - y.crc.1) % 65536)
  let b := blockAfter s (y.frDn / 1000 + 2) y.blkDn y.overDn false y.frDn ((x.crcDn + 65536 - y.crc.2) % 65536)
  let s := setPos r p (fun (y : RingPos) => { y with
    crc := (x.crcUp, x.crcDn), blkUp := a.1, blkDn := b.1, overUp := a.2.1, overDn := b.2.1, frUp := 0, frDn := 0, statusAt := s.now }) s
  judgeMargin r (a.2.2 || b.2.2) s

/-- READ_STATUS to the taps whose last one will be 10 s old before the next second is over (02 R80). -/
def statusFrames (r : Nat) (s : State) : State :=
  eachDo ((reached s r).filter (fun p => heldFor s (posOf s r p).statusAt (sec 9))) (fun p s => pollStatus r p s) s

/-- The fault loop of a ring has been closed for 1 s, so that a switch may be tested (02 R67). -/
def mayTest (s : State) (r : Nat) : Bool := !loopOpen s r && heldFor s (ringOf s r).loopClosedAt (sec 1)

/-- FLT_TEST_NOW goes on: one switch of the ring in each command window, while its loop has been closed for 1 s; after the last one
the command ends (02 R67, R81). -/
def fltNowFrames (r : Nat) (s : State) : State := match s.rings.fltNow with
  | none => s
  | some (m, dips, l) => match l.find? (fun i => i / 16 == r) with
    | none => s
    | some i =>
      if !mayTest s r then s
      else
        let p := i % 16 + 1
        let s := { s with rings.fltNow := some (m, dips, l.filter (· ≠ i)) }
        let s := judgeDip r p ((dips.getD r []).getD (p - 1) none) (sendTap r p 0x08 [] s)
        if (l.filter (· ≠ i)).isEmpty then finishJob (some m) Cmd.fltTestNow doneReply { s with rings.fltNow := none } else s

/-- The remaining masks of the taps that CLEAR_TRIPS reached (02 R81). -/
def tripMasks (s : State) : Payload :=
  .fields [("masks", ((List.range 32).filter (fun i => (reached s (i / 16)).contains (i % 16 + 1) && tapAwake s i)).flatMap
    (fun (i : Nat) => [(i : Int), ((tapOf s i).ovTrip.toNat : Int), ((tapOf s i).uvTrip.toNat : Int)]))]

/-- CLEAR_TRIPS goes on: CLEAR_TRIP as a broadcast on the ring; after the last ring the command ends with the masks (02 R81). -/
def clearNowFrames (r : Nat) (s : State) : State := match s.rings.clearNow with
  | none => s
  | some (m, volts, l) =>
    if !l.contains r then s
    else
      let s := sendAll r 0x07 [] { s with rings.clearNow := some (m, volts, l.filter (· ≠ r)) }
      let s := eachDo ((reached s r).filter (fun p => tapAwake s (tapIndex r p))) (fun p s =>
        setTap (tapIndex r p) (clearTrips (volts.getD (tapIndex r p) [])) s) s
      if (l.filter (· ≠ r)).isEmpty then
        finishJob (some m) Cmd.clearTrips (doneWith (tripMasks s)) { s with rings.clearNow := none }
      else s

/-- The frames of a ring's command window: leases, impedance, then the rest. After a break split mode begins, and every reachable
tap is set to poll collection (02 R58, R62, R72; 03 R96, R101; 05 R150). -/
def windowFrames (r : Nat) (s : State) : State :=
  let enter := (ringOf s r).enterSplit
  let s := setRing r (fun (x : Ring) => { x with split := x.split || enter, enterSplit := false }) s
  let s := fwFrames r (balFrames r (impFrames r (sendLeases r s)))
  let s := if enter then eachDo (reached s r) (fun p s => sendTap r p 0x0B [1#8] s) s else s
  slotFrames r (probeFrames r (statusFrames r (clearNowFrames r (fltNowFrames r (setUpFrames r s)))))

/-- The last through-mode slot of a ring has ended (02 R60, R70). -/
def slotsOver (s : State) (r : Nat) : Bool := match (ringOf s r).mark with
  | some T => T + 6400 + us 23 * tapCount s r ≤ s.now
  | none => false

/-- COMMAND_WINDOW of ring `r`: a through-mode collection whose slots are over ends, silent taps are reported, and the window's
frames go out (02 R58, R62). -/
def execCommandWindow (t r : Nat) (s : State) : Host.Outcome State Fault Refusal :=
  timed t (fun s =>
    if 2 ≤ r || !ringServed s r || inMode s [.shelf, .dormant] then s
    else
      let x := ringOf s r
      let s := if !x.split && !x.locating && slotsOver s r then endCollection r (noteSilent r s) else s
      if windowOpen s r then windowFrames r s else s) s

/-! ## Delays, tests and the return to through mode -/

/-- Measured round trips of every position, from the low and the high end, become delays (02 R53, R55). -/
def takeDelays (r : Nat) (rts : List (Option Nat × Option Nat)) (s : State) : State :=
  eachDo (reached s r) (fun p s =>
    let o := rts.getD (p - 1) (none, none)
    let tta := (tapOf s (tapIndex r p)).tta
    setPos r p (fun (y : RingPos) => { y with
      outUp := if o.1.isSome then oneWay o.1 tta else y.outUp, outDn := if o.2.isSome then oneWay o.2 tta else y.outDn }) s) s

/-- The delay table after new measurements: changed waits are written with SET_DELAY (02 R54, R55). -/
def refreshDelays (r : Nat) (s : State) : State :=
  let up := farthest s r true
  let dn := farthest s r false
  eachDo (reached s r) (fun p s =>
    let y := posOf s r p
    let a := (waitCounts up y.outUp).getD y.dUp
    let b := (waitCounts dn y.outDn).getD y.dDn
    if a = y.dUp ∧ b = y.dDn then s
    else sendTap r p 0x03 (leBytes 2 a ++ leBytes 2 b) (setPos r p (fun (z : RingPos) => { z with dUp := a, dDn := b }) s)) s

/-- DELAY_TABLE_REFRESH of ring `r`, in a command window: at least every 10 s or DELAY_REMEASURE (02 R55). -/
def execDelayTableRefresh (t r : Nat) (rts : List (Option Nat × Option Nat)) (s : State) : Host.Outcome State Fault Refusal :=
  timed t (fun s =>
    if ringServed s r && windowOpen s r && heldFor s (ringOf s r).refreshedAt (sec (min 10 (prmN s Prm.delayRemeasure))) then
      refreshDelays r (takeDelays r rts (setRing r (fun (x : Ring) => { x with refreshedAt := s.now }) s))
    else s) s

/-- SPLIT_RESTORE_TEST of a split ring: one NOP round the loop in every second; enough consecutive clean seconds, or one after
RING_RESTORE, lead to the re-measurement in the next whole second (02 R74). -/
def execSplitRestoreTest (t r : Nat) (clean : Bool) (s : State) : Host.Outcome State Fault Refusal :=
  timed t (fun s =>
    let x := ringOf s r
    if !ringServed s r || !x.split || !windowOpen s r || x.tested == some (taiSecond s) then s
    else
      let n := if clean then x.clean + 1 else 0
      let go := clean && !x.hold && (x.waive || prmN s Prm.splitRestoreClean ≤ n)
      setRing r (fun (x : Ring) => { x with
        tested := some (taiSecond s), clean := n, slotSent := x.slotSent && clean,
        remeasure := if !clean then none else if go && x.remeasure.isNone then some (taiSecond s + 1) else x.remeasure,
        waive := x.waive && (clean || x.remeasure.isNone) }) (ringSend r true false s.now 1 62 0x00 [] s)) s

/-- RETURN_TO_THROUGH: the last window of the re-measurement's second is over; the delays from both ends and L are taken, SET_COLLECT
(slot) has gone out, and the ring is in through mode from the next mark on, the first of the second after it (02 R74). -/
def execReturnToThrough (t r loop : Nat) (rts : List (Option Nat × Option Nat)) (s : State) : Host.Outcome State Fault Refusal :=
  timed t (fun s =>
    let x := ringOf s r
    if !ringServed s r || !x.split || !windowOpen s r || !x.slotSent ||
        !(x.remeasure.map (fun a => decide (a < stampAt s (nextMark s + us 10) / 2 ^ 32))).getD false then s
    else
      let was := (reached s r)
      let s := setRing r (fun (x : Ring) => { x with
        split := false, brk := none, locating := false, enterSplit := false, loop := some loop, remeasure := none, slotSent := false,
        clean := 0, waive := false, refreshedAt := s.now, pollLow := none, pollHigh := none }) s
      let s := eachDo ((reached s r).filter (fun p => !was.contains p)) (fun p s =>
        setPos r p (fun (y : RingPos) => { y with resetup := true }) s) (markUnreachable r s)
      record Ev.ringRestored 1 [r] (refreshDelays r (takeDelays r rts s))) s

/-- Instant of a ring's last FLT test. -/
def lastFltTest (x : Ring) : Nat := (x.pos.map (fun y => y.fltTestAt)).foldl max 0

/-- FLT_TEST_DUE of ring `r`: the switch of the next tap reached is tested, so that each has its turn within FLT_TEST_INTERVAL;
`dip` the length of the dip in ns. While the loop is open, and for 1 s after it has closed, the test is postponed (02 R67). -/
def execFltTestDue (t r : Nat) (dip : Option Nat) (s : State) : Host.Outcome State Fault Refusal :=
  timed t (fun s =>
    let x := ringOf s r
    let l := reached s r
    let p := ((l.find? (fun p => x.fltNext ≤ p)).getD (l.headD 0))
    if !ringServed s r || !windowOpen s r || p = 0 || !mayTest s r ||
        !heldFor s (lastFltTest x) (sec (prmN s Prm.fltTestInterval) / max l.length 1) then s
    else
      let s := setRing r (fun (x : Ring) => { x with fltNext := p + 1 }) s
      judgeDip r p dip (sendTap r p 0x08 [] s)) s

/-- FLT_TEST_NOW: every tap's switch is tested once, one at a time per ring; `dips` per ring and position. It ends after the last
one; a ring whose loop is open waits until it has been closed for 1 s (02 R67, R81, R82). -/
def execFltTestNow (t m : Nat) (dips : List (List (Option Nat))) (s : State) : Host.Outcome State Fault Refusal :=
  timed t (serve m Cmd.fltTestNow (withLength 0 (fun _ s =>
    if stopped s 1 then refuse (guardReply Ev.functionStopped) s
    else if s.rings.fltNow.isSome then refuse (guardReply Ev.functionBusy) s
    else
      let l := [0, 1].flatMap (fun r => (reached s r).map (tapIndex r))
      if l.isEmpty then ok s else (.goesOn, { s with rings.fltNow := some (m, dips, l) })))) s

/-- TAP_STATUS_POLL of tap `i`, in a command window: READ_STATUS gives its CRC counts (02 R80). -/
def execTapStatusPoll (t i : Nat) (s : State) : Host.Outcome State Fault Refusal :=
  timed t (fun s =>
    let pl := tapPlace i
    if !ringServed s pl.1 || !windowOpen s pl.1 || !(reached s pl.1).contains pl.2 then s else pollStatus pl.1 pl.2 s) s

/-- SWEEP_PERIOD_CHANGE: at the first mark of the next second the new period takes effect (02 R57). -/
def execSweepPeriodChange (t : Nat) (s : State) : Host.Outcome State Fault Refusal := timed t takePeriod s

/-! ## Commands (02 R81, R82) -/

/-- RING_MAP: per ring its mode, count, break and thresholds, and per position what the module knows of it. -/
def ringMap (s : State) : Payload :=
  .fields ([0, 1].flatMap (fun r =>
    let x := ringOf s r
    let pair (o : Option (Nat × Nat)) : List Int := match o with
      | some (a, b) => [1, (a : Int), (b : Int)]
      | none => [0, 0, 0]
    [("ring", [(r : Int), flag x.split, (tapCount s r : Int)] ++ pair x.brk ++ pair s.rings.eff)] ++
    ((x.pos.take (tapCount s r)).zipIdx).map (fun a =>
      let y := a.1
      ("position", [((a.2 + 1 : Nat) : Int)] ++ optNat y.serial ++ [(y.fwVer : Int), (y.ovClamp.1 : Int), (y.ovClamp.2 : Int),
        (y.uvClamp.1 : Int), (y.uvClamp.2 : Int)] ++ optNat y.outUp ++ optNat y.outDn ++
        [(y.dUp : Int), (y.dDn : Int), (y.crc.1 : Int), (y.crc.2 : Int)]))))

/-- RING_MAP. -/
def execRingMap (t m : Nat) (s : State) : Host.Outcome State Fault Refusal :=
  timed t (serve m Cmd.ringMap (statusHandler ringMap)) s

/-- RING_RESTORE: lifts the SPLIT_LIMIT hold and waives the clean seconds (02 R74). -/
def execRingRestore (t m : Nat) (s : State) : Host.Outcome State Fault Refusal :=
  timed t (serve m Cmd.ringRestore (withLength 0 (fun _ s =>
    if stopped s 1 then refuse (guardReply Ev.functionStopped) s
    else ok { s with rings.ring := s.rings.ring.map (fun (x : Ring) =>
      { x with hold := false, splits := [], waive := x.split, clean := 0 }) }))) s

/-- CLEAR_TRIPS: CLEAR_TRIP as a broadcast in each ring's next command window; the remaining masks are returned. `volts` what each
tap's comparators see (02 R58, R81). -/
def execClearTrips (t m : Nat) (volts : List (List (Option Int))) (s : State) : Host.Outcome State Fault Refusal :=
  timed t (serve m Cmd.clearTrips (withLength 0 (fun _ s =>
    let l := [0, 1].filter (fun r => (ringOf s r).up)
    if stopped s 1 then refuse (guardReply Ev.functionStopped) s
    else if s.rings.clearNow.isSome then refuse (guardReply Ev.functionBusy) s
    else if l.isEmpty then okWith (tripMasks s) s
    else (.goesOn, { s with rings.clearNow := some (m, volts, l) })))) s

/-- READ_SWEEP: start index and count 1 to 64 of the latest sweep, its values coded as 00 R7 says. -/
def execReadSweep (t m : Nat) (s : State) : Host.Outcome State Fault Refusal :=
  timed t (serve m Cmd.readSweep (withLength 3 (fun b s => match cellRange64 b with
    | some off => refuse (argReply Cmd.readSweep off) s
    | none => okWith (.fields (("mark", [((s.rings.mark.map (·.2)).getD 0 : Nat)]) ::
        (List.range (leAt b 2 1)).map (fun k =>
          let y := cellOf s (leAt b 0 2 + k)
          ("cell", [(codeCell y.v : Int), (y.nib : Int), flag y.late, (y.lateness : Int)])))) s))) s

end Sys2Proof.Machine
end

