-- ==== Sys2Proof/Machine/Islands.lean ====
section
/-!
DEFINITION. Machine/Islands.lean: clock faults, crossings, island sleep, Cistern and the status contacts (01 R11 to R18; 12 R360
to R365; 20 R554 to R558).
-/

namespace Sys2Proof.Machine

open Sys2Proof

/-! ## Clocks and crossings (01 R12, R15) -/

/-- CLOCK_FAULT (01 R12): deviation of the local oscillator in ppm and how long it has been so, by the supervisor or the safety
processor. -/
def execClockFault (t : Nat) (ppm held : Nat) (s : State) : Host.Outcome State Fault Refusal :=
  timed t (fun s =>
    if ppm ≤ 5000 then clearPresent Ev.clockFault { s with core.clockFault := false }
    else if held < ms 1 || s.core.clockFault then s
    else tripHeld Ev.clockFault .sp [ppm] { s with core.clockFault := true }) s

/-- CROSSING_TIMEOUT (01 R15): a handshake has not completed 10 µs after the receiving island woke; the word is discarded. -/
def execCrossingTimeout (t : Nat) (src dst waited : Nat) (s : State) : Host.Outcome State Fault Refusal :=
  timed t (fun s =>
    if us 10 ≤ waited && src < 11 && dst < 11 then
      record Ev.crossingTimeout 3 [src, dst] { s with isl.timeouts := s.isl.timeouts ++ [(src, dst)] }
    else s) s

/-! ## Island sleep (12 R360 to R365) -/

/-- Wake latency in ns (12 R360). -/
def Sleep.latency : Sleep → Nat
  | .awake => 0 | .idle => 500 | .doze => 20000 | .nap => 400000 | .off => 400000

/-- Depth of a sleep state. -/
def Sleep.depth : Sleep → Nat
  | .awake => 0 | .idle => 1 | .doze => 2 | .nap => 3 | .off => 4

/-- Any port of a plane is up. -/
def anyPortUp (s : State) (p : Nat) : Bool := (planeOf s p).port.any (·.link)

/-- The deepest permitted state of an island in the mode in force (12 R364). -/
def sleepCap (s : State) (k : Nat) : Sleep :=
  let tower (p : Nat) : Sleep := if anyPortUp s p then .idle else .nap
  let four (a b c d : Sleep) : Sleep := match s.core.mode with
    | .run | .hold => b
    | .dormant => if s.core.pairStandbyProfile then c else d
    | _ => a
  match k with
  | 0 => .idle
  | 1 => four .doze .doze .nap .nap
  | 2 => four (tower 0) .idle .idle .off
  | 3 => four (tower 1) .idle .idle .off
  | 4 => four .doze .doze .nap .nap
  | 5 => .nap
  | 6 => four .nap .idle .nap .nap
  | 7 => .idle
  | 8 => .awake
  | 9 => .nap
  | _ => .doze

/-- The state the rule of R361 chooses for a time to the next event in ns, none without a registered event (12 R362). -/
def chooseSleep (cap : Sleep) (left : Option Int) (busy heldIdle : Bool) : Sleep :=
  let fits (x : Sleep) (need : Int) : Bool := decide (x.depth ≤ cap.depth) && ((left.map (fun t => decide (need ≤ t))).getD true)
  if cap == .awake then .awake
  else if busy || heldIdle then .idle
  else if cap == .off then .off
  else if fits .nap 1900000 then .nap
  else if fits .doze 80000 then .doze
  else .idle

/-- Supply range of an island in mV (20 R556). -/
def railRange (k : Nat) : Nat × Nat :=
  [(850, 1000), (900, 1150), (880, 1100), (880, 1100), (850, 1050), (950, 1200), (920, 1150), (880, 1100), (900, 1050),
   (1100, 1800), (800, 1000)].getD k (0, 0)

/-- A rail value may be set: in range, in 10 mV steps (20 R556). -/
def railOk (k mv : Nat) : Bool := (railRange k).1 ≤ mv && mv ≤ (railRange k).2 && mv % 10 = 0

/-- ISLAND_SLEEP (12 R361, R365; 01 R16, R17; none during a SUP install, 19 R542): island k is quiet; its next known event, whether a crossing is busy, and the
rail value the supervisor sets with it. -/
def execIslandSleep (t : Nat) (k : Nat) (next : Option Nat) (busy : Bool) (rail : Option Nat) (s : State) :
    Host.Outcome State Fault Refusal :=
  timed t (fun s =>
    if 11 ≤ k || s.core.mode == .shelf || (s.upd.job.map (fun j => decide (j.id = 1))).getD false then s
    else
      let left := next.map (fun (n : Nat) => (n : Int) - (s.now : Int) - (us 50 : Nat))
      let x := chooseSleep (sleepCap s k) left busy (islandOf s k).heldIdle
      setIsland k (fun i => { i with
        sleep := x, nextEvent := next, wakeAt := next.map (fun n => n - x.latency),
        rail := match rail with
          | some mv => if railOk k mv && x != .awake then mv else i.rail
          | none => i.rail }) s) s

/-- ISLAND_WAKE (12 R361, R363, R365): island k wakes, by its schedule or an unscheduled event; a schedule missed by more than
its wake latency and 10 µs is WAKE_LATE. An island woken from Off has reloaded its image (01 R18). -/
def execIslandWake (t : Nat) (k : Nat) (s : State) : Host.Outcome State Fault Refusal :=
  timed t (fun s =>
    let i := islandOf s k
    if 11 ≤ k || i.sleep == .awake || s.core.mode == .shelf then s
    else
      let late := (i.wakeAt.map (fun a => decide (a + i.sleep.latency + us 10 < s.now))).getD false
      let s := setIsland k (fun i => { i with sleep := .awake, wakeAt := none }) s
      let s := if i.sleep == .off then flushCrossings k s else s
      if late then
        record Ev.wakeLate 3 [k] (setIsland k (fun i => { i with wakeLate := i.wakeLate + 1, heldIdle := true }) s)
      else s) s

/-! ## Cistern, backup cell and status contacts (20 R554 to R558) -/

/-- CISTERN_MEASURE (20 R554, R555): usable energy at full charge and present usable energy in J, and the backup cell in mV. -/
def execCisternMeasure (t : Nat) (full present cellMv : Nat) (s : State) : Host.Outcome State Fault Refusal :=
  timed t (fun s =>
    if s.core.mode == .shelf then s
    else
      let low := 10 * present < 9 * full
      let worn := full < 45
      let cell := cellMv < 2600
      let s' := { s with core.cisternJ := full, core.cisternNow := present, core.backupMv := cellMv,
                         core.cisternLow := low, core.cisternWorn := worn, core.backupLow := cell }
      let s' := if low && !s.core.cisternLow then record Ev.cisternLow 3 [present, full] s' else s'
      let s' := if worn && !s.core.cisternWorn then record Ev.cisternWorn 3 [full] s' else s'
      if cell && !s.core.backupLow then record Ev.backupLow 3 [cellMv] s' else s') s

/-- ST_FLT_HOLD_END (20 R558): 60 s after the last record of severity 4 or higher, not in Tripped. -/
def execStFltHoldEnd (t : Nat) (s : State) : Host.Outcome State Fault Refusal :=
  timed t (fun s =>
    let due := (s.core.lastFaultRec.map (fun a => decide (a + sec 60 ≤ s.now))).getD true
    if due && s.core.mode != .tripped then { s with core.stFlt := false } else s) s

/-- SUPERVISOR_WATCHDOG (20 R558): unserved, ST-OK opens; served again, it follows the mode. -/
def execSupervisorWatchdog (t : Nat) (served : Bool) (s : State) : Host.Outcome State Fault Refusal :=
  timed t (fun s => { s with core.stOk := served && stOkIn s.core.mode }) s

end Sys2Proof.Machine
end

