-- ==== Sys2Proof/Machine/Recorder.lean ====
section
/-!
DEFINITION. Machine/Recorder.lean: the event recorder: pages and flushes, the store, cursors, clearing (18 R514 to R528).
-/

namespace Sys2Proof.Machine

open Sys2Proof

/-! ## Order and bytes of records (R514 to R516) -/

/-- `a` comes before `b` in wrap order: the signed 32-bit difference (R516). -/
def seqBefore (a b : Nat) : Bool :=
  let d := (b + 2 ^ 32 - a % 2 ^ 32) % 2 ^ 32
  1 ≤ d && d < 2 ^ 31

/-- `a` is at or before `b`. -/
def seqAtMost (a b : Nat) : Bool := a == b || seqBefore a b

/-- Put a record in its place in SEQ order; one already there stays alone. -/
def insertRec (r : EventRec) : List EventRec → List EventRec
  | [] => [r]
  | x :: l => if seqBefore r.seq x.seq then r :: x :: l else if r.seq = x.seq then x :: l else x :: insertRec r l

/-- Every record that is held: store, buffer and the reserved area, in SEQ order (R520, R523). -/
def heldRecords (w : Well) : List EventRec := w.clears.foldl (fun l r => insertRec r l) (w.buf.foldl (fun l r => insertRec r l) w.store)

/-- DATA of a record, 36 bytes: by the table of R515 for the recorder's own codes, a free value for the layouts the spec does
not give (notes/assumptions/11.md). -/
def recordData (r : EventRec) : List Byte :=
  let v (i : Nat) : Nat := (r.data.getD i 0).toNat
  let put (l : List Nat) : List Byte := fixLen 36 ((l.zipIdx).flatMap (fun p => leBytes p.1 (v p.2)))
  if r.code = Ev.boot then put [1, 2]
  else if r.code = Ev.clear then put [4, 4, 4, 1, 1, 1]
  else if r.code = Ev.powerFail then put [1, 2]
  else if r.code = Ev.powerFailUnflushed then put [2]
  else if r.code = Ev.nvmDrop then put [4, 4, 4]
  else if r.code = Ev.recWrap then put [4]
  else if r.code = Ev.recSpareLow then put [2]
  else (List.range 36).map (Config.recordByte r.code r.data)

/-- The 64 bytes of a record (R514). -/
def recordBytes (r : EventRec) : List Byte :=
  let b := leBytes 4 r.seq ++ leBytes 8 r.time ++ leBytes 4 r.ops ++ leBytes 3 r.cycles ++ leBytes 1 r.sev ++ leBytes 2 r.code ++
    leBytes 1 r.mode.code ++ leBytes 1 r.flags.toNat ++ recordData r
  b ++ leBytes 4 (crc32 b)

/-! ## Flushing (R518, R519) -/

/-- SEQ numbers of the next page: an urgent record with the up to 63 buffered records just before it, else the 64 oldest. -/
def nextPage (w : Well) : List Nat := match w.urgent.find? (fun q => w.buf.any (·.seq = q)) with
  | some q =>
    let l := (w.buf.map (·.seq)).filter (fun x => seqAtMost x q)
    l.drop (l.length - 64)
  | none => (w.buf.take 64).map (·.seq)

/-- RECORD_FLUSH (R518): the next page of a running flush is written to its shadow page. No page starts while writes are
forbidden, while Dome stops new pages (11 R330), while the function is stopped, or while a clear erases: records made meanwhile
wait in the buffer (R524). -/
def execRecordFlush (t : Nat) (s : State) : Host.Outcome State Fault Refusal :=
  timed t (fun s =>
    if s.well.flushing && s.well.page.isNone && flushAllowed s && s.thm.shutdown.isNone && s.well.clear.isNone && !s.well.buf.isEmpty then
      { s with well.page := some (nextPage s.well) }
    else s) s

/-- Room in the store for a page: the block with the oldest records is erased when it is full (R520). -/
def wrapStore (s : State) : State :=
  if s.well.store.length + 64 ≤ 2097152 then s
  else
    let l := s.well.store.drop 1024
    record Ev.recWrap 2 [((l.head?.map (·.seq)).getD s.well.nextSeq : Nat)]
      { s with well.store := l, well.erases := s.well.erases + 1 }

/-- A block has failed and is replaced from the spares (R520). -/
def retireBlock (s : State) : State :=
  let n := s.well.spare - 1
  let s := { s with well.spare := n }
  if n ≤ 8 then record Ev.recSpareLow 4 [n] s else s

/-- Move the records of a page from the buffer to the store. -/
def commitPage (page : List Nat) (w : Well) : Well :=
  let mine := w.buf.filter (fun r => page.contains r.seq)
  { w with store := mine.foldl (fun l r => insertRec r l) w.store,
           buf := w.buf.filter (fun r => !page.contains r.seq),
           urgent := w.urgent.filter (fun q => !page.contains q),
           page := none }

/-- NVM_PAGE_COMMIT (11 R332; R518): the page's commit marker is written; the flush ends when nothing is buffered. -/
def execNvmPageCommit (t : Nat) (retired : Bool) (s : State) : Host.Outcome State Fault Refusal :=
  timed t (fun s => match s.well.page with
    | none => s
    | some p =>
      let s := if retired then retireBlock s else s
      let s := wrapStore s
      let w := commitPage p s.well
      { s with well := { w with flushing := w.flushing && !w.buf.isEmpty } }) s

/-- Start a flush; the captured edges that records have taken leave the edge buffer (16 R481, notes/assumptions/24.md). -/
def beginFlush (s : State) : State :=
  if flushAllowed s then { startFlush s with tim.edges := [] } else s

/-- REC_FLUSH_PERIOD (R518). -/
def execRecFlushPeriod (t : Nat) (s : State) : Host.Outcome State Fault Refusal :=
  timed t (fun s => if heldFor s s.well.lastFlush (sec (prmN s Prm.recFlushPeriod)) && s.core.mode != .shelf then beginFlush s else s) s

/-! ## Cursors (R522, R523) -/

/-- A cursor. -/
def cursorOf (s : State) (c : Nat) : Cursor := s.well.cursors.getD c {}

/-- Change a cursor. -/
def setCursor (c : Nat) (g : Cursor → Cursor) (s : State) : State := { s with well.cursors := s.well.cursors.modify c g }

/-- CURSOR_EXPIRY (R522): 600 s without a REC_READ or REC_SEEK. -/
def execCursorExpiry (t : Nat) (c : Nat) (s : State) : Host.Outcome State Fault Refusal :=
  timed t (fun s =>
    if (cursorOf s c).owner.isSome && heldFor s (cursorOf s c).usedAt (sec 600) then setCursor c (fun _ => {}) s else s) s

/-- Another binding holds the cursor. -/
def cursorTaken (s : State) (c m : Nat) : Bool := (cursorOf s c).owner.isSome && (cursorOf s c).owner ≠ bindingOf s m

/-- Position of a REC_SEEK: the first held record at or after the value. -/
def seekPosition (s : State) (kind value : Nat) : Nat :=
  let l := heldRecords s.well
  let first (p : EventRec → Bool) : Nat := ((l.find? p).map (·.seq)).getD s.well.nextSeq
  match kind with
  | 0 => first (fun r => seqAtMost value r.seq)
  | 1 => first (fun r => value ≤ r.time)
  | 2 => first (fun _ => true)
  | _ => ((l.getLast?).map (·.seq)).getD s.well.nextSeq

/-- REC_SEEK's handler: cursor, minimum severity, kind, value. -/
def recSeekHandler (m : Nat) (r : Request) : State → Answer × State :=
  withLength 11 (fun p s =>
    let c := byteAt p 0
    if 3 < c then refuse (argReply r.command 0) s
    else if 6 < byteAt p 1 then refuse (argReply r.command 1) s
    else if 3 < byteAt p 2 then refuse (argReply r.command 2) s
    else if byteAt p 2 = 0 && 2 ^ 32 ≤ leAt p 3 8 then refuse (argReply r.command 3) s
    else if cursorTaken s c m then refuse (guardReply Ev.cursorOwned) s
    else
      let x := seekPosition s (byteAt p 2) (leAt p 3 8)
      ok (setCursor c (fun _ => { owner := bindingOf s m, mb := m, pos := x, minSev := byteAt p 1, usedAt := s.now }) s)) r

/-- REC_SEEK (R522). -/
def execRecSeek (t : Nat) (m : Nat) (s : State) : Host.Outcome State Fault Refusal :=
  timed t (serve m Cmd.recSeek (recSeekHandler m)) s

/-- Some SEQ from `lo` to `hi` is not held. -/
def seqGap (l : List EventRec) (lo hi : Nat) : Bool :=
  (l.filter (fun r => seqAtMost lo r.seq && seqAtMost r.seq hi)).length ≠ (hi + 2 ^ 32 - lo) % 2 ^ 32 + 1

/-- REC_READ's handler: cursor, count. -/
def recReadHandler (m : Nat) (r : Request) : State → Answer × State :=
  withLength 2 (fun p s =>
    let c := byteAt p 0
    let n := byteAt p 1
    let x := cursorOf s c
    if 3 < c then refuse (argReply r.command 0) s
    else if n = 0 || 16 < n then refuse (argReply r.command 1) s
    else if x.owner.isNone then refuse (guardReply Ev.cursorFree) s
    else if cursorTaken s c m then refuse (guardReply Ev.cursorOwned) s
    else
      let l := heldRecords s.well
      let mine := l.filter (fun r => seqAtMost x.pos r.seq && x.minSev ≤ r.sev)
      let got := mine.take n
      let last := (got.getLast?).map (·.seq)
      let gap := x.gap || ((last.map (seqGap l x.pos)).getD false)
      let next := (last.map (fun q => (q + 1) % 2 ^ 32)).getD x.pos
      let oldest := ((l.head?).map (·.seq)).getD s.well.nextSeq
      let bytes := leBytes 1 c ++ leBytes 1 got.length ++ leBytes 2 (bit gap 0 + bit (mine.length ≤ n) 1) ++ leBytes 4 next ++
        leBytes 4 oldest ++ got.flatMap recordBytes
      answerWith (doneWith (.bytes bytes)) (setCursor c (fun x => { x with pos := next, usedAt := s.now, gap := false }) s)) r

/-- REC_READ (R523). -/
def execRecRead (t : Nat) (m : Nat) (s : State) : Host.Outcome State Fault Refusal :=
  timed t (serve m Cmd.recRead (recReadHandler m)) s

/-- REC_RELEASE (R522). -/
def execRecRelease (t : Nat) (m : Nat) (s : State) : Host.Outcome State Fault Refusal :=
  timed t (serve m Cmd.recRelease (fun r => withLength 1 (fun p s =>
    let c := byteAt p 0
    if 3 < c then refuse (argReply r.command 0) s
    else if (cursorOf s c).owner.isNone then refuse (guardReply Ev.cursorFree) s
    else if cursorTaken s c m then refuse (guardReply Ev.cursorOwned) s
    else ok (setCursor c (fun _ => {}) s)) r)) s

/-- REC_FLUSH (R528). -/
def execRecFlush (t : Nat) (m : Nat) (s : State) : Host.Outcome State Fault Refusal :=
  timed t (serve m Cmd.recFlush (withLength 0 (fun _ s =>
    if s.thm.forbid then refuse (guardReply Ev.nvmTemp) s else ok (beginFlush s)))) s

/-! ## Clearing (R524, R525) -/

/-- A record that a clear with this bound removes. -/
def clearable (bound : Nat) (r : EventRec) : Bool := seqAtMost r.seq bound && r.code ≠ Ev.clear

/-- Count removed records into a clear job. -/
def noteCleared (l : List EventRec) (j : ClearJob) : ClearJob := match l.head?, l.getLast? with
  | some a, some b =>
    { j with first := some (match j.first with
               | some x => if seqBefore a.seq x then a.seq else x
               | none => a.seq),
             last := if j.count = 0 || seqBefore j.last b.seq then b.seq else j.last, count := j.count + l.length }
  | _, _ => j

/-- The CLEAR record's DATA: range, count, mailbox, ROLE, KEY_GEN; with nothing removed, the range of the request (R526). -/
def clearData (j : ClearJob) : List Int := match j.first with
  | some a => [(a : Int), j.last, j.count, j.mb, j.role, j.gen]
  | none => [(j.lo : Int), j.bound, 0, j.mb, j.role, j.gen]

/-- The clear ends: its record, in the store and the reserved area of 64, and DONE (R524). -/
def finishClear (j : ClearJob) (s : State) : State :=
  let r := makeRecord s Ev.clear 6 (stampNow s) (clearData j)
  let s := record Ev.clear 6 (clearData j) { s with well.clear := none }
  let l := s.well.clears ++ [r]
  finishJob (some j.mb) Cmd.recClear doneReply { s with well.clears := l.drop (l.length - 64) }

/-- End the clear when the store holds nothing it still has to remove. -/
def checkClear (s : State) : State := match s.well.clear with
  | some j => if s.well.store.any (clearable j.bound) then s else finishClear j s
  | none => s

/-- REC_CLEAR's handler. -/
def recClearHandler (m : Nat) (r : Request) : State → Answer × State :=
  withLength 4 (fun p s =>
    let last := (s.well.nextSeq + 2 ^ 32 - 1) % 2 ^ 32
    let b := leAt p 0 4
    let bound := if b = 0xFFFFFFFF || seqBefore last b then last else b
    if prm s Prm.recClearMode = 0 then refuse (guardReply Ev.clearDisabled) s
    else if s.well.clear.isSome then refuse (guardReply Ev.functionBusy) s
    else if s.thm.forbid then refuse (guardReply Ev.nvmTemp) s
    else
      let lo := (((heldRecords s.well).head?).map (·.seq)).getD s.well.nextSeq
      let gone := s.well.buf.filter (clearable bound)
      let j : ClearJob := noteCleared gone ⟨bound, none, bound, 0, m, byteAt r.auth 0, byteAt r.auth 1, lo⟩
      let s := { s with
        well.clear := some j, well.buf := s.well.buf.filter (fun r => !clearable bound r),
        well.cursors := s.well.cursors.map (fun c =>
          if c.owner.isSome && seqAtMost c.pos bound then { c with pos := (bound + 1) % 2 ^ 32, gap := true } else c) }
      (.goesOn, checkClear s)) r

/-- REC_CLEAR (R524). -/
def execRecClear (t : Nat) (m : Nat) (s : State) : Host.Outcome State Fault Refusal :=
  timed t (serve m Cmd.recClear (recClearHandler m)) s

/-- REC_CLEAR_BLOCK (R524): the next block of the store, oldest first, is erased or marked and committed; whether the block
failed and was retired. -/
def execRecClearBlock (t : Nat) (retired : Bool) (s : State) : Host.Outcome State Fault Refusal :=
  timed t (fun s => match s.well.clear with
    | none => s
    | some j =>
      if s.thm.forbid then s
      else
        let block := (s.well.store.filter (clearable j.bound)).take 1024
        let s := if retired then retireBlock s else s
        checkClear { s with
          well.clear := some (noteCleared block j),
          well.store := s.well.store.filter (fun r => !block.contains r),
          well.erases := if block.length = 1024 then s.well.erases + 1 else s.well.erases }) s

/-! ## Status (R528) -/

/-- Erase cycles of the most worn block: blocks are reused in ring order (R520, R521). -/
def recWear (s : State) : Nat := (s.well.erases + 2047) / 2048

/-- REC_STATUS fields. -/
def recStatus (s : State) : Payload :=
  .fields [("buffered", [(s.well.buf.length : Int)]),
    ("OLDEST", [((((heldRecords s.well).head?).map (·.seq)).getD s.well.nextSeq : Nat)]), ("next", [(s.well.nextSeq : Int)]),
    ("NVM_DROP", [(s.well.nvmDrop : Int)]), ("spare", [(s.well.spare : Int)]), ("wear", [(recWear s : Int)]),
    ("cursors", s.well.cursors.flatMap (fun c => [flag c.owner.isSome, (c.mb : Int), c.pos])),
    ("last flush", [(stampAt s s.well.lastFlush : Int)])]

/-- REC_STATUS. -/
def execRecStatus (t : Nat) (m : Nat) (s : State) : Host.Outcome State Fault Refusal :=
  timed t (serve m Cmd.recStatus (statusHandler recStatus)) s

/-- An entry of REC_CODES: the classes a code can carry are stated for the recorder's own codes only, and the form in which a DATA
layout is returned for none. -/
def codeEntry (e : Nat × String) : String × List Int :=
  let own := [(0x1300, (1 : Int)), (0x1301, 6), (0x1302, 4), (0x1303, 4), (0x1304, 3), (0x1305, 2), (0x1306, 4)]
  match own.find? (fun p => p.1 = e.1) with
  | some p => (e.2, [(e.1 : Int), p.2, p.2, Config.openValue "DATA layout" [e.1]])
  | none => (e.2, [(e.1 : Int), Config.openValue "lowest class" [e.1], Config.openValue "highest class" [e.1], Config.openValue "DATA layout" [e.1]])

/-- REC_CODES (R515): up to 16 entries from a code on. -/
def execRecCodes (t : Nat) (m : Nat) (s : State) : Host.Outcome State Fault Refusal :=
  timed t (serve m Cmd.recCodes (withLength 2 (fun p s =>
    okWith (.fields (((codeTable.filter (fun e => leAt p 0 2 ≤ e.1)).take 16).map codeEntry)) s))) s

end Sys2Proof.Machine
end

