-- ==== Sys2Proof/Machine/Thermal.lean ====
section
/-!
DEFINITION. Machine/Thermal.lean: the module sensors, the NVM write-forbid, Dome's thermal shutdown, the container loop and the
thermal commands (11 R324 to R346).
-/

namespace Sys2Proof.Machine

open Sys2Proof

/-! ## Module sensors (11 R325 to R328) -/

/-- A reading outside -55 degC to +150 degC gives no value (11 R325). -/
def sensorValue (v : Option Int) : Option Int := v.filter (fun x => decide (-5500 ≤ x) && decide (x ≤ 15000))

/-- Readings of the sensors in service, with their numbers from 1. -/
def inService (ts : List (Option Int)) : List (Int × Nat) :=
  ts.zipIdx.filterMap (fun a => a.1.map (fun v => (v, a.2 + 1)))

/-- TS_MAX and its sensor (11 R325). -/
def tsMax (ts : List (Option Int)) : Option (Int × Nat) :=
  (inService ts).foldl (fun b x => match b with
    | none => some x
    | some y => if y.1 < x.1 then some x else b) none

/-- The smallest distance between a sensor in service and the limits of 11 R326. -/
def limitDistance (s : State) (ts : List (Option Int)) : Option Nat :=
  ((inService ts).flatMap (fun x => [11000, 9500, -3000, prm s Prm.tempWarn].map (fun l => (x.1 - l).natAbs))).min?

/-- Sampling rate for a distance (11 R326). -/
def rateFor (d : Option Nat) : Nat := match d with
  | some a => if a < 300 then 200 else if a ≤ 1000 then 20 else 1
  | none => 1

/-- The rate after a sample at a distance: a higher one at once, a lower one once the distance has stayed in its band or a wider one
for 10 s (11 R326). -/
def nextRate (d : Option Nat) (s : State) : State :=
  let want := rateFor d
  let since (inside : Bool) (a : Option Nat) : Option Nat := if inside then some (a.getD s.now) else none
  let s := { s with thm.wideSince := since (want ≤ 20) s.thm.wideSince, thm.farSince := since (want ≤ 1) s.thm.farSince }
  if s.thm.rate ≤ want then { s with thm.rate := want }
  else if heldOpt s s.thm.farSince (sec 10) then { s with thm.rate := 1 }
  else if heldOpt s s.thm.wideSince (sec 10) then { s with thm.rate := min s.thm.rate 20 } else s

/-- The board temperature for the upper and the lower limit: TS8, else the highest and the lowest other sensor (11 R328). -/
def boardTemps (ts : List (Option Int)) : Option (Int × Int) := match ts.getD 7 none with
  | some v => some (v, v)
  | none => match (inService ts).map (·.1) with
    | [] => none
    | x :: l => some (l.foldl max x, l.foldl min x)

/-- The write-forbid after a sample (11 R328). -/
def judgeForbid (s : State) : State := match boardTemps s.thm.ts with
  | none => { s with thm.forbidOk := none }
  | some (hi, lo) =>
    let s := if (9500 < hi || lo < -3000) && !s.thm.forbid then
        record Ev.nvmWriteForbid 3 [hi, lo] { s with thm.forbid := true, thm.forbidOk := none }
      else s
    { s with thm.forbidOk := if -2800 ≤ lo && hi ≤ 9300 then some (s.thm.forbidOk.getD s.now) else none }

/-- MODULE_HOT: raised at TEMP_WARN, cleared 2 degC below (11 R327). -/
def judgeHot (s : State) : State := match tsMax s.thm.ts with
  | none => s
  | some (v, n) =>
    if prm s Prm.tempWarn ≤ v then
      if s.thm.hot then s else record Ev.moduleHot 3 [v, n] { s with thm.hot := true }
    else if v ≤ prm s Prm.tempWarn - 200 then { s with thm.hot := false }
    else s

/-- THERMAL_SAMPLE: the nine readings, none for an open or shorted sensor. The next sample is a known event of I0;
sampling pauses while the supervisor reloads (11 R325 to R328; 19 R542). -/
def execThermalSample (t : Nat) (ts : List (Option Int)) (s : State) : Host.Outcome State Fault Refusal :=
  timed t (fun s =>
    if s.core.mode == .shelf || s.thm.held || supReloading s then s
    else
      let vals := (List.range 9).map (fun k => sensorValue (ts.getD k none))
      let bad := vals.map (·.isNone)
      let fresh := (List.range 9).filter (fun k => bad.getD k false && !s.thm.tsFault.getD k false)
      let s := { s with thm.ts := vals, thm.tsFault := bad }
      let s := eachDo fresh (fun k s => record Ev.tsFault 4 [k + 1] s) s
      let s := nextRate (limitDistance s vals) (judgeForbid (judgeHot s))
      setIsland 0 (fun (i : Island) => { i with nextEvent := some (s.now + 1000000000 / max s.thm.rate 1) }) s) s

/-- The writes that waited for the end of the forbid: the energy model, the values in force, the contexts and the record buffer
(11 R329; 13 R393). -/
def writeWaiting (s : State) : State :=
  startFlush (saveContexts { s with
    con.eNvm := s.con.energy, con.eNvmAt := s.con.eAt, mbx.nvm := if s.mbx.paramWriteWaits then s.mbx.params else s.mbx.nvm,
    mbx.paramWriteWaits := false })

/-- NVM_FORBID_LIFT: the board temperature has stayed from -28 degC to 93 degC for 10 s (11 R328, R329). -/
def execNvmForbidLift (t : Nat) (s : State) : Host.Outcome State Fault Refusal :=
  timed t (fun s =>
    if s.thm.forbid && heldOpt s s.thm.forbidOk (sec 10) then writeWaiting { s with thm.forbid := false } else s) s

/-! ## Hardware shutdown (11 R330 to R336) -/

/-- THERMAL_SHUTDOWN: Dome's 110 degC comparators of the sensors in `mask` have switched for `held` ns. After 1 ms the lane enables
drop, DOME_DEMAND rises, the claim is released and no new NVM page starts; a faulty sensor takes no part (11 R325, R330, R331). -/
def execThermalShutdown (t mask held : Nat) (s : State) : Host.Outcome State Fault Refusal :=
  timed t (fun s =>
    let m := maskOf ((List.range 9).map (fun k => bitOf mask k && !s.thm.tsFault.getD k false))
    if m = 0 || held < ms 1 || s.core.mode == .shelf || s.thm.shutdown.isSome then s
    else
      let inside := partnerFollows s
      let past := within s (sec 86400) s.thm.shutdowns
      let s := { s with
        thm.shutdown := some (s.now, BitVec.ofNat 9 m), thm.wasConnected := inMode s [.run, .hold], thm.coolSince := none,
        thm.shutdowns := past ++ [s.now], thm.shutdownCount := s.thm.shutdownCount + 1 }
      dropClaim (domeDemands (!inside) (endJobs Ev.thermalShutdown (gatesOff Ev.thermalShutdown s)))) s

/-- Islands whose engines are reset together: all that hold one; the time unit and the bus controllers have none (01 R11, R22). -/
def engineIslands : List Nat := [0, 1, 2, 3, 4, 5, 6, 7, 9]

/-- Every engine is reset: roles, rings, lanes and jobs go; the recorder's buffer stays; the time unit counts on in holdover
(11 R330, R333; 01 R18). -/
def resetEngines (s : State) : State :=
  let holdover (st : TimeState) : TimeState := if st == .locked then .holdover else st
  let s := eachDo engineIslands flushMarkers s
  { s with
    ctrl.eng := s.ctrl.eng.map (fun (e : Engine) => { e with role := .out, ready := false }),
    rings.ring := s.rings.ring.map (fun (x : Ring) => { x with up := false, mark := none, pollLow := none, pollHigh := none }),
    rings.window := [false, false],
    conv.lane := s.conv.lane.map (fun (x : Lane) => { x with up := false, training := false, good := 0 }),
    imp.st := .idle, imp.armed := [], imp.toRead := [], imp.stopTaps := [], imp.fade := none, est.staging := none, est.deferred := [],
    thm.manualEnd := none, thm.manualHtr := false,
    mbx.fns := s.mbx.fns.map dropStaged, mbx.mbx := s.mbx.mbx.map (fun (b : Mailbox) =>
      { b with phase := .empty, req := none, result := none, started := false, held := none, challenge := none, emptySince := s.now }),
    fab := { node := s.fab.node, provisional := s.fab.provisional },
    tim.st := holdover s.tim.st, tim.holdAt := if s.tim.st == .locked then some s.now else s.tim.holdAt,
    upd.job := s.upd.job.map (fun (j : Install) => { j with mb := none, busy := false }), disp.holdMb := none, rings.balStopMb := none }

/-- THERMAL_RESET_HOLD: 20 ms after the decision Dome opens its low-side switches of K1 to K4 and holds the sixteen engines in
reset. The safety processor in reset permits no output, so its high-side switches open as well (11 R330; 09 R256; DEDUCED,
notes/assumptions/49.md). -/
def execThermalResetHold (t : Nat) (s : State) : Host.Outcome State Fault Refusal :=
  timed t (fun s => match s.thm.shutdown with
    | none => s
    | some (a, _) =>
      if s.now < a + ms 19 || s.thm.held then s
      else
        let s := clearDispatch (eachDo [0, 1, 2, 3] openCoil s)
        { resetEngines s with thm.held := true }) s

/-- THERMAL_RELEASE: every sensor in service has been below its 95 degC comparator for `below` ns, on Dome's oscillator; after 30 s
the reset ends and the module boots. After a Shelf entered during the hold the time runs from power-up (11 R334, R335). -/
def execThermalRelease (t below : Nat) (s : State) : Host.Outcome State Fault Refusal :=
  timed t (fun s =>
    if s.thm.held && sec 30 ≤ below && s.core.mode != .shelf then
      { s with thm.held := false, thm.coolSince := some (s.now - below), core.booting := true }
    else if s.thm.held && sec 30 ≤ below && s.core.booting then { s with thm.held := false, thm.coolSince := some (s.now - below) }
    else s) s

/-- THERMAL_AUTO_RECONNECT: once, to Hold, as soon as the guards of Connect pass (11 R336). -/
def execThermalAutoReconnect (t : Nat) (vStr vLnk : Int) (s : State) : Host.Outcome State Fault Refusal :=
  timed t (fun s =>
    if !s.thm.reconnect || s.core.mode != .watch || s.thm.held || s.core.booting then s
    else
      let s := { s with con.vStr := vStr, con.vLnk := vLnk }
      if (connectBlock s).isSome then s else beginConnect false none { s with thm.reconnect := false }) s

/-! ## The container loop (11 R338 to R343) -/

/-- A temperature error in Q15 of 256 degC (06 R171). -/
def tempErr (e : Int) : Int := satS16 (roundDiv (32 * e) 25)

/-- LOOP_KP times an error, Q31. -/
def loopProp (s : State) (e : Int) : Int := gainTimes (prmN s Prm.loopKp) (tempErr e)

/-- LOOP_KI times an error over one second, Q31. -/
def loopStep (s : State) (e : Int) : Int := kitsTimes (kitsOf (prmN s Prm.loopKi) 1000000000) (tempErr e)

/-- The output of a PI term of the container loop for a proportional part and an integrator: stored with its counts, then clamped from
0 % to 100 % (06 R167, R168; 11 R338). -/
def loopOut (p i : Int) (s : State) : State × Int := (countStore 11 [p, sat40 p + i] s, clampTo 0 32767 (store16 (sat40 (sat40 p + i))))

/-- An integrator stops at the clamp of 0 % and 100 %. -/
def clampInt (a : Int) : Int := clampTo 0 (32767 * 65536) a

/-- T_hi and T_lo: over fitted cells with a value, the higher of T_NEAR and T_INT (11 R337, R338). -/
def cellTemps (s : State) : List Int := (fittedCells s).filterMap (windowTemp s)

/-- Readings lie within 0.05 degC over 600 s while a command varied by more than 20 % or HTR switched (11 R340). -/
def frozenNow (s : State) (x : Coolant) : Bool :=
  let spread (l : List Int) : Int := l.foldl max (l.headD 0) - l.foldl min (l.headD 0)
  let still := x.hist.any (fun a => decide (a.1 + sec 600 ≤ s.now)) && decide (spread (x.hist.map (·.2)) ≤ 5)
  let varied (f : Nat × Int × Int × Bool → Int) : Bool := decide (6553 < spread (s.thm.cmdHist.map f))
  still && (varied (·.2.1) || varied (·.2.2.1) || (s.thm.cmdHist.any (·.2.2.2) && s.thm.cmdHist.any (!·.2.2.2)))

/-- What lies in the last 600 s, with the last reading before them. -/
def lastTenMinutes {α : Type} (s : State) (l : List (Nat × α)) : List (Nat × α) := l.filter (fun a => s.now < a.1 + sec 601)

/-- One coolant input after its reading of this second (11 R340, R341). -/
def nextCoolant (s : State) (v : Option Int) (x : Coolant) : Coolant :=
  let v := v.filter (fun a => decide (-5000 ≤ a) && decide (a ≤ 15000))
  let x := match v with
    | some a => { x with val := some a, validAt := some s.now, hist := lastTenMinutes s ((s.now, a) :: x.hist) }
    | none => x
  let stale := !(s.now < x.validAt.getD s.core.bootAt + sec 10)
  let frozen := frozenNow s x
  if !x.bad then
    if stale || frozen then { x with bad := true, frozenAt := if frozen then x.val else none, goodSince := none } else x
  else
    let moved := match x.frozenAt, x.val with
      | some f, some a => decide (20 < (a - f).natAbs)
      | some _, none => false
      | none, _ => true
    let x := { x with frozenAt := if moved then none else x.frozenAt }
    if v.isNone || !moved then { x with goodSince := none }
    else
      let since := x.goodSince.getD s.now
      if since + sec 60 ≤ s.now then { x with bad := false, goodSince := none, hist := x.hist.take 1 } else { x with goodSince := some since }

/-- Cell temperatures are stale: no sweep for 10 s, or no value (11 R340). -/
def cellsStale (s : State) : Bool := !sweepFresh s (sec 10) || (cellTemps s).isEmpty

/-- The cell temperatures as an input of the loop: once stale, valid again after 60 s of values (11 R340, R341). -/
def nextCells (s : State) : State :=
  if cellsStale s then { s with thm.cellsBad := true, thm.cellsGoodSince := none }
  else if !s.thm.cellsBad then s
  else
    let since := s.thm.cellsGoodSince.getD s.now
    if since + sec 60 ≤ s.now then { s with thm.cellsBad := false, thm.cellsGoodSince := none }
    else { s with thm.cellsGoodSince := some since }

/-- The first of TC1, TC2 and the cell temperatures that is bad: 1, 2, 3 (11 R341). -/
def loopFault (s : State) : Option Nat :=
  if (s.thm.tc.getD 0 {}).bad then some 1
  else if (s.thm.tc.getD 1 {}).bad then some 2
  else if s.thm.cellsBad then some 3 else none

/-- The loop's state for T_hi and T_lo (11 R338). -/
def loopNext (s : State) (hi lo : Int) : LoopState :=
  let cool := if s.thm.loop == .cool then decide (prm s Prm.coolTarget - 100 < hi) else decide (prm s Prm.coolTarget < hi)
  let heat := if s.thm.loop == .heat then decide (lo < prm s Prm.heatOn + prm s Prm.heatHyst) else decide (lo < prm s Prm.heatOn)
  if cool then .cool else if heat then .heat else .idle

/-- Set HTR, its change timed (11 R339). -/
def setHtr (on : Bool) (s : State) : State :=
  if on == s.thm.htr then s else { s with thm.htr := on, thm.htrAt := some s.now }

/-- The conditions of HTR: HEAT asked, PMP at PMP_MIN, TC1 and TC2 valid, TC1 below HEAT_SUPPLY_MAX (11 R339). -/
def htrMay (want : Bool) (s : State) : Bool :=
  let tc1 := s.thm.tc.getD 0 {}
  let tc2 := s.thm.tc.getD 1 {}
  want && decide (prm s Prm.pmpMin ≤ s.thm.pmp) && !tc1.bad && !tc2.bad && tc2.val.isSome &&
    (tc1.val.map (fun v => decide (v < prm s Prm.heatSupplyMax))).getD false

/-- HTR_MIN_CYCLE has passed since its last change (11 R339). -/
def htrFree (s : State) : Bool := dueAfter s s.thm.htrAt (sec (prmN s Prm.htrMinCycle))

/-- HTR under R339: a failed condition turns it off at once; it stays off for HTR_MIN_CYCLE. -/
def runHtr (want : Bool) (s : State) : State :=
  if !htrMay want s then setHtr false s else if htrFree s then setHtr true s else s

/-- The error of the pump's PI term: T_hi over COOL_TARGET (11 R338). -/
def pmpErr (s : State) (hi : Int) : Int := hi - prm s Prm.coolTarget

/-- The error of the valve's PI term: TC1 over COOL_TARGET - 5 degC; none while TC1 has had no value (11 R338, 06 R169). -/
def vlvErr (s : State) : Option Int := (s.thm.tc.getD 0 {}).val.map (fun v => v - (prm s Prm.coolTarget - 500))

/-- Set the integrators so that the outputs continue from their present values (11 R338). -/
def bumpless (s : State) (hi : Int) : State :=
  { s with thm.intPmp := clampInt (s.thm.pmp * 65536 - loopProp s (pmpErr s hi)),
           thm.intVlv := ((vlvErr s).map (fun e => clampInt (s.thm.vlv * 65536 - loopProp s e))).getD s.thm.intVlv }

/-- PMP in COOL: PI, at least PMP_MIN (11 R338). -/
def coolPump (hi : Int) (s : State) : State :=
  let i := clampInt (s.thm.intPmp + loopStep s (pmpErr s hi))
  let (s, out) := loopOut (loopProp s (pmpErr s hi)) i { s with thm.intPmp := i }
  { s with thm.pmp := max (prm s Prm.pmpMin) out }

/-- VLV in COOL: PI; without a value of TC1 it keeps its output (11 R338; DESIGN CHOICE, notes/assumptions/49.md). -/
def coolValve (s : State) : State := match vlvErr s with
  | none => s
  | some e =>
    let i := clampInt (s.thm.intVlv + loopStep s e)
    let (s, out) := loopOut (loopProp s e) i { s with thm.intVlv := i }
    { s with thm.vlv := out }

/-- The outputs of a state (11 R338). -/
def loopOutputs (fresh : Bool) (hi lo : Int) (s : State) : State :=
  let st := loopNext s hi lo
  let s := if fresh || st != s.thm.loop then bumpless { s with thm.loop := st } hi else s
  let s := match st with
    | .cool => coolValve (coolPump hi s)
    | _ => { s with thm.pmp := prm s Prm.pmpMin, thm.vlv := 0 }
  runHtr (st == .heat) s

/-- THERM_MANUAL is in force (11 R346). -/
def manualNow (s : State) : Bool := (s.thm.manualEnd.map (fun a => decide (s.now < a))).getD false

/-- The outputs that THERM_MANUAL sets; R339 still applies to HTR, and R343 to PMP (11 R343, R346). -/
def manualOutputs (s : State) : State :=
  runHtr s.thm.manualHtr { s with
    thm.pmp := if s.thm.vlvOpen then max s.thm.manualPmp (prm s Prm.pmpMin) else s.thm.manualPmp, thm.vlv := s.thm.manualVlv }

/-- The inputs of one run of the container loop: the readings of TC1 to TC4 and T_hi and T_lo (11 R338, R340). -/
def loopInputs (tc : List (Option Int)) (s : State) : State :=
  let s := { s with thm.kept := (s.thm.pmp, s.thm.vlv, s.thm.htr),
                    thm.tc := (List.range 4).map (fun k => nextCoolant s (tc.getD k none) (s.thm.tc.getD k {})) }
  let temps := cellTemps s
  nextCells { s with
    thm.tHi := temps.max?, thm.tLo := temps.min?, thm.lastUpdate := s.now, thm.watchdog := false, thm.stoodStill := false }

/-- A bad input is recorded once, as it comes up (11 R341). -/
def noteCoolFault (cause : Nat) (s : State) : State :=
  if s.thm.coolFault then s
  else record Ev.coolantSensorFault 4 [cause] { s with thm.coolFault := true, thm.coolFaultAt := s.now }

/-- The outputs for the inputs read; `resumed` when the loop comes back from a fault, the fallback or a stop (11 R338, R341, R346). -/
def loopAct (resumed : Bool) (s : State) : State := match loopFault s with
  | some cause =>
    let s := noteCoolFault cause s
    if manualNow s then manualOutputs s else setHtr false s
  | none =>
    let s := { s with thm.coolFault := false, thm.fallback := false }
    if manualNow s then manualOutputs s else loopOutputs resumed (s.thm.tHi.getD 0) (s.thm.tLo.getD 0) s

/-- The commands of the last 600 s, for the test of a frozen sensor (11 R340). -/
def noteOutputs (s : State) : State :=
  { s with thm.cmdHist := lastTenMinutes s ((s.now, s.thm.pmp, s.thm.vlv, s.thm.htr) :: s.thm.cmdHist) }

/-- The loop comes back from a fault, the fallback outputs or a stop (11 R338, R341). -/
def loopResumes (s : State) : Bool := s.thm.coolFault || s.thm.fallback || s.thm.watchdog || s.thm.stoodStill

/-- One run of the container loop with the readings of TC1 to TC4 (11 R338 to R342). -/
def containerLoop (tc : List (Option Int)) (s : State) : State := noteOutputs (loopAct (loopResumes s) (loopInputs tc s))

/-- Role C may run the container loop. -/
def loopRuns (s : State) : Bool :=
  (holderOf s .c).isSome && running s 5 && running s 0x0A && s.core.mode != .shelf && !s.thm.held

/-- CONTAINER_LOOP: once per second by role C (11 R338). -/
def execContainerLoop (t : Nat) (tc : List (Option Int)) (s : State) : Host.Outcome State Fault Refusal :=
  timed t (fun s =>
    if loopRuns s && s.core.mode != .dormant && s.thm.lastUpdate + sec 1 ≤ s.now then containerLoop tc s else s) s

/-- The fallback outputs: PMP 100 %, HTR off, VLV at VLV_FALLBACK (11 R341). -/
def fallbackOutputs (s : State) : State := setHtr false { s with thm.pmp := 32767, thm.vlv := prm s Prm.vlvFallback }

/-- The output hardware holds the fallback outputs until the loop runs again (06 R199; 11 R342). -/
def hardwareFallback (s : State) : State := fallbackOutputs { s with thm.stoodStill := true }

/-- LOOP_FALLBACK: 300 s after COOLANT_SENSOR_FAULT arose (11 R341). -/
def execLoopFallback (t : Nat) (s : State) : Host.Outcome State Fault Refusal :=
  timed t (fun s =>
    if s.thm.coolFault && !s.thm.fallback && !manualNow s && loopRuns s && heldFor s s.thm.coolFaultAt (sec 300) then
      record Ev.loopFallback 3 [] (fallbackOutputs { s with thm.fallback := true })
    else s) s

/-- The output hardware applies the fallback outputs (11 R342). -/
def loopWatchdog (s : State) : State :=
  if s.thm.watchdog || s.core.mode == .shelf then s else record Ev.loopWatchdog 4 [] (hardwareFallback { s with thm.watchdog := true })

/-- LOOP_WATCHDOG: role C has written no update for 3 s; in Dormant the slow sweeps pace the loop (11 R342). -/
def execLoopWatchdog (t : Nat) (s : State) : Host.Outcome State Fault Refusal :=
  timed t (fun s => if s.core.mode != .dormant && heldFor s s.thm.lastUpdate (sec 3) then loopWatchdog s else s) s

/-- VLV_OPEN: the loop current reads `ua` microampere for `held` ns while commanded; below 3.6 mA for 1 s the valve is unknown, and
PMP stays at PMP_MIN or above (11 R343). -/
def execVlvOpen (t ua held : Nat) (s : State) : Host.Outcome State Fault Refusal :=
  timed t (fun s =>
    if s.core.mode == .shelf then s
    else if 3600 ≤ ua then { s with thm.vlvOpen := false }
    else if held < sec 1 || s.thm.vlvOpen then s
    else record Ev.vlvOpen 3 [ua] { s with thm.vlvOpen := true, thm.pmp := max s.thm.pmp (prm s Prm.pmpMin) }) s

/-! ## Commands (11 R346) -/

/-- Loop state code. -/
def LoopState.code : LoopState → Nat
  | .cool => 0 | .heat => 1 | .idle => 2

/-- The flags word of THERM_STATUS. -/
def thermFlags (s : State) : Nat :=
  bit s.thm.hot 15 + bit s.thm.forbid 14 + bit (s.thm.tsFault.any id) 13 + bit s.thm.coolFault 12 + bit s.thm.fallback 11 +
  bit s.thm.watchdog 10 + bit s.thm.vlvOpen 9 + bit (manualNow s) 8 + bit s.thm.restartedHot 7

/-- THERM_STATUS. -/
def thermStatus (s : State) : Payload :=
  let code (v : Option Int) : Int := codeS16 v
  .fields [("TS", s.thm.ts.map code), ("TS_MAX", [code ((tsMax s.thm.ts).map (·.1)), (((tsMax s.thm.ts).map (·.2)).getD 0 : Nat)]),
    ("rate", [s.thm.rate]), ("TC", s.thm.tc.map (fun x => code (if s.now < x.validAt.getD 0 + sec 10 then x.val else none))),
    ("T_hi", [code s.thm.tHi]), ("T_lo", [code s.thm.tLo]), ("loop", [s.thm.loop.code, flag s.thm.htr, s.thm.pmp, s.thm.vlv]),
    ("flags", [thermFlags s]), ("NVM_DROP", [s.well.nvmDrop]), ("shutdowns", [s.thm.shutdownCount])]

/-- THERM_STATUS. -/
def execThermStatus (t m : Nat) (s : State) : Host.Outcome State Fault Refusal :=
  timed t (serve m Cmd.thermStatus (statusHandler thermStatus)) s

/-- THERM_MANUAL: HTR, PMP, VLV in Q15 and a duration of 1 to 600 s; R339 still applies to HTR. While the output hardware holds the
fallback outputs they stand until role C runs again (06 R199; 11 R342). -/
def thermManualHandler : Request → State → Answer × State :=
  withLength 7 (fun b s =>
    if 1 < leAt b 0 1 then refuse (argReply Cmd.thermManual 0) s
    else if 32767 < leAt b 1 2 then refuse (argReply Cmd.thermManual 1) s
    else if 32767 < leAt b 3 2 then refuse (argReply Cmd.thermManual 3) s
    else if leAt b 5 2 = 0 ∨ 600 < leAt b 5 2 then refuse (argReply Cmd.thermManual 5) s
    else
      let s := { s with
        thm.manualEnd := some (s.now + sec (leAt b 5 2)), thm.manualHtr := leAt b 0 1 == 1,
        thm.manualPmp := (leAt b 1 2 : Nat), thm.manualVlv := (leAt b 3 2 : Nat) }
      ok (if loopRuns s && !s.thm.stoodStill then manualOutputs s else s))

/-- THERM_MANUAL. -/
def execThermManual (t m : Nat) (s : State) : Host.Outcome State Fault Refusal :=
  timed t (serve m Cmd.thermManual thermManualHandler) s

/-- The end of THERM_MANUAL: the loop resumes, its integrators set to continue from the present outputs; a coolant fault that arose
meanwhile applies now (11 R338, R344). -/
def endManual (s : State) : State :=
  let s := { s with thm.manualEnd := none, thm.manualHtr := false }
  if s.thm.coolFault then setHtr false { s with thm.coolFaultAt := s.now } else bumpless s (s.thm.tHi.getD 0)

/-- THERM_MANUAL_END: its duration has passed. -/
def execThermManualEnd (t : Nat) (s : State) : Host.Outcome State Fault Refusal :=
  timed t (fun s => if s.thm.manualEnd.isSome && !manualNow s then endManual s else s) s

/-- THERM_AUTO. -/
def execThermAuto (t m : Nat) (s : State) : Host.Outcome State Fault Refusal :=
  timed t (serve m Cmd.thermAuto (withLength 0 (fun _ s => ok (if s.thm.manualEnd.isSome then endManual s else s)))) s

end Sys2Proof.Machine
end

