-- ==== Sys2Proof/Machine/Pair.lean ====
section
/-!
DEFINITION. Machine/Pair.lean: pair operation: heartbeats, claim rounds and the token, hold-follow, checkpoints, takeover, the
planned hand-over, the service override and the health report (14 R403 to R430; 02 R78; 04 R124; 08 R250; 09 R260).
-/

namespace Sys2Proof.Machine

open Sys2Proof

/-! ## Digests (R406, R419, R420) -/

/-- CRC-32 of the values in force of a function, four bytes each in order of their IDs (notes/assumptions/26.md). -/
def paramDigest (s : State) (f : Nat) : Nat :=
  crc32 ((paramTable.filter (fun r => r.id / 256 = f)).flatMap (fun r => leInt 4 (prm s r.id)))

/-- The 88 bytes of digests of the PARAM block: functions 0x00 to 0x14 and the selected safety set. -/
def digestBytes (s : State) : List Byte :=
  (List.range 21).flatMap (fun f => leBytes 4 (paramDigest s f)) ++ leBytes 4 (setCrc (setOf s s.saf.selected))

/-- Functions whose digests in a PARAM block differ from this module's, of 0x01 to 0x0A, and 0xFF for the safety set (R420). -/
def paramDiffers (s : State) (b : List Byte) : List Nat :=
  ((List.range 10).map (· + 1)).filter (fun f => leAt b (4 * f) 4 ≠ paramDigest s f) ++
  (if leAt b 84 4 ≠ setCrc (setOf s s.saf.selected) then [0xFF] else [])

/-! ## Checkpoint (R419) -/

/-- Length of a checkpoint. -/
def ckptLength : Nat := 116244

/-- EPOCH that a checkpoint carries: 0x001 when the active renumbers (R411). -/
def ckptEpoch (s : State) : Nat := if s.pair.renumber then 1 else s.pair.epoch

/-- HEADER, 32 bytes. -/
def ckptHeader (s : State) (seq : Nat) : List Byte :=
  leBytes 2 1 ++ leBytes 2 0 ++ leBytes 4 seq ++ leBytes 8 (stampNow s) ++ leBytes 2 (ckptEpoch s) ++ leBytes 2 s.fab.node ++
  leBytes 4 ckptLength ++ leBytes 8 0

/-- STATE, 64 bytes; the contactor counts are closings and loaded openings of K1 to K4, two bytes each
(notes/assumptions/26.md). -/
def ckptState (s : State) : List Byte :=
  leBytes 1 s.core.mode.code ++ leBytes 2 (sfMask s) ++ leBytes 2 (s.saf.latched.headD 0) ++ leBytes 4 s.well.nextSeq ++
  leInt 8 (s.est.counter / 32000) ++ leBytes 4 (energyAt s s.now / 1000000) ++
  fixLen 16 (s.con.k.flatMap (fun c => leBytes 2 c.closings ++ leBytes 2 c.loadOpens)) ++ leBytes 4 (claimCode s) ++ fixLen 23 []

/-- Target and link target, 16 bytes: VALUE 2, KIND 1, flags 1 (bit 0 a link target, bit 1 its rate, bit 2 RATE as in SP_FLAGS),
RATE 2, link VALUE 2, link RATE 2 (DESIGN CHOICE of the places, notes/assumptions/10.md). -/
def targetBytes (t : SetPoint) (l : Option SetPoint) : List Byte :=
  leInt 2 t.value ++ leBytes 1 t.kind ++
  leBytes 1 (bit l.isSome 0 + bit (l.bind (·.rate)).isSome 1 + bit t.rate.isSome 2) ++ leBytes 2 (t.rate.getD 0) ++
  leInt 2 ((l.map (·.value)).getD 0) ++ leBytes 2 ((l.bind (·.rate)).getD 0) ++ fixLen 6 []

/-- DISPATCH, 272 bytes. -/
def ckptDispatch (s : State) : List Byte :=
  targetBytes s.disp.target s.disp.link ++
  fixLen 256 ((s.disp.queue.take 16).flatMap (fun p =>
    leBytes 1 p.kind ++ leBytes 1 (1 + bit p.rate.isSome 2) ++ leInt 2 p.value ++ leBytes 2 (p.rate.getD 0) ++ leBytes 1 p.src ++ [0] ++
      leBytes 8 p.apply))

/-- A field of `n` bytes that may be absent: all ones (DESIGN CHOICE, notes/assumptions/10.md). -/
def optBytes (n : Nat) (o : Option Nat) : List Byte := leBytes n ((o.map (min (2 ^ (8 * n) - 2))).getD (2 ^ (8 * n) - 1))

/-- The pass-through and link delays of module L and of module H as this module knows them (02 R77). -/
def passDelays (s : State) (x : Ring) : Option Nat × Option Nat :=
  if prm s Prm.pairPosition = 0 then (x.ownPass, x.passDelay) else (x.passDelay, x.ownPass)

/-- RING_MAP, 1,088 bytes. The header of a ring: tap count 1, split 1, break location 1 + 1, then L, d_UP, d_DN and the pass-through
and link delays of L and H, 4 each, ns. A position: serial 8, firmware version 2, out_UP 4, out_DN 4, D_UP 2, D_DN 2, CRC counts
2 + 2 (DESIGN CHOICE of the places, notes/assumptions/10.md; 02 R77). -/
def ckptRings (s : State) : List Byte :=
  [0, 1].flatMap (fun r =>
    let x := ringOf s r
    let d := passDelays s x
    fixLen 32 (optBytes 1 x.n ++ leBytes 1 (bit x.split 0) ++ optBytes 1 (x.brk.map (·.1)) ++ optBytes 1 (x.brk.map (·.2)) ++
      optBytes 4 x.loop ++ leBytes 4 (farthest s r true) ++ leBytes 4 (farthest s r false) ++ optBytes 4 d.1 ++ optBytes 4 d.2) ++
    x.pos.flatMap (fun y => fixLen 32 (leBytes 8 (y.serial.getD 0) ++ leBytes 2 y.fwVer ++ optBytes 4 y.outUp ++ optBytes 4 y.outDn ++
      leBytes 2 y.dUp ++ leBytes 2 y.dDn ++ leBytes 2 y.crc.1 ++ leBytes 2 y.crc.2)))

/-- A number as 24 bits of signed mantissa under 8 bits of exponent (DESIGN CHOICE, notes/assumptions/10.md). -/
def floatCode (v : Int) : Nat :=
  let e := Nat.log2 v.natAbs + 1 - 23
  unsignedOf 24 (v / (2 ^ e : Nat)) + 2 ^ 24 * e

/-- The number of such a code. -/
def floatValue (c : Nat) : Int := signedOf 24 (c % 2 ^ 24) * (2 ^ (c / 2 ^ 24) : Nat)

/-- The indices of a covariance's upper triangle. -/
def upperTriangle : List Nat := (List.range 25).filter (fun k => k / 5 ≤ k % 5)

/-- FILTER of a cell, 96 bytes: the 15 covariances of the triangle and the capacity variance as `floatCode`, the anchor's SOC
(all ones without an anchor) and the charge since it (DESIGN CHOICE of the formats, notes/assumptions/10.md). -/
def ckptFilter (x : Ctx) : List Byte :=
  upperTriangle.flatMap (fun k => leBytes 4 (floatCode (x.cov.getD k 0))) ++ leBytes 4 (floatCode (qmul x.capSigma x.capSigma)) ++
  (match x.anchor with
    | some (soc, _, q) => leBytes 4 (roundDiv (soc * 2 ^ 31) q80).toNat ++ leInt 8 ((x.charge - q) / 32000)
    | none => leBytes 4 0xFFFFFFFF ++ leBytes 8 0) ++
  leInt 8 ((x.used.map (·.1)).getD 0 / 32000) ++ fixLen 12 []

/-- The checkpoint's bytes. -/
def ckptBytes (s : State) (seq : Nat) : List Byte :=
  let b := ckptHeader s seq ++ ckptState s ++ ckptDispatch s ++ ckptRings s ++ (List.range 512).flatMap (ctxBytes s) ++
    s.est.ctx.flatMap ckptFilter ++ digestBytes s ++ fixLen 8 []
  b ++ leBytes 4 (crc32 b)

/-- Block `i` of a checkpoint as a pair message (R407). -/
def ckptBlock (seq : Nat) (b : List Byte) (i : Nat) : List Byte :=
  let d := (b.drop (1024 * i)).take 1024
  let head := leBytes 1 2 ++ leBytes 1 (bit (i = 0) 0 + bit (1024 * (i + 1) ≥ b.length) 1) ++ leBytes 2 0 ++ leBytes 4 seq ++
    leBytes 4 (1024 * i) ++ leBytes 2 d.length ++ leBytes 2 0 ++ leBytes 4 b.length
  head ++ leBytes 4 (crc32 (head ++ d)) ++ d

/-- PAIR has been silent for 30 ms (R408). -/
def pairSilent (s : State) : Bool := match s.pair.partner.hbPair with
  | some a => decide (a + ms 30 ≤ s.now)
  | none => decide (s.core.bootAt + ms 30 ≤ s.now)

/-- The fabric path has been silent for 30 ms. -/
def fabSilent (s : State) : Bool := match s.pair.partner.hbFab with
  | some a => decide (a + ms 30 ≤ s.now)
  | none => decide (s.core.bootAt + ms 30 ≤ s.now)

/-- The partner is followed over both healthy paths. -/
def pathsHealthy (s : State) : Bool := !pairSilent s && !fabSilent s

/-- The pair function acts: SS7 on, running, the partner compatible (R403, R430). -/
def pairRuns (s : State) : Bool := pairMode s && running s 0x0B && s.core.mode != .shelf && !s.thm.held

/-- Push a checkpoint: 114 blocks on PAIR, or in TC4 on the fabric while PAIR is silent (R408, R419). An epoch above 0xF00
renumbers first while the partner follows over both paths (R411). -/
def pushCheckpoint (s : State) : State :=
  let renum := decide (0xF00 < s.pair.epoch) && partnerFollows s && pathsHealthy s
  let s := { s with pair.renumber := renum }
  let seq := (s.pair.ckptSeq + 1) % 2 ^ 32
  let b := ckptBytes s seq
  let s := eachDo (List.range 114) (fun i s =>
    if pairSilent s then sendFlow 5 4 false (partnerNode s) (ckptBlock seq b i) s
    else sendOnPair (ckptBlock seq b i) s) s
  let s := { s with pair.ckptSeq := seq, pair.ckptAt := some s.now }
  if renum then { s with pair.epoch := 1, pair.highest := 1, pair.renumber := false } else s

/-- The active of a pair pushes checkpoints. -/
def pushes (s : State) : Bool := pairRuns s && s.pair.role == 8 && s.pair.token && !s.pair.incompatible

/-- CHECKPOINT_PUSH (R419): 1 s after the last. -/
def execCheckpointPush (t : Nat) (s : State) : Host.Outcome State Fault Refusal :=
  timed t (fun s =>
    if pushes s && dueAfter s s.pair.ckptAt (sec 1) then pushCheckpoint s else s) s

/-- A completed checkpoint: its CRC passes, the buffers switch, its epoch is seen, its parameters are compared (R411, R419, R420). -/
def takeCheckpoint (seq : Nat) (b : List Byte) (s : State) : State :=
  if crc32 (b.take 116240) ≠ leAt b 116240 4 then s
  else
    let bad := paramDiffers s (b.drop 116144)
    let new := bad.filter (fun f => !s.pair.mismatch.contains f)
    let s := eachDo new (fun f s => record Ev.pairParamMismatch 3 [f] s) s
    { s with pair.held := some (seq, s.now, b), pair.mismatch := bad, pair.highest := max s.pair.highest (leAt b 16 2) }

/-- A checkpoint block is well formed and passes BLOCK_CRC (R407). -/
def blockGood (b : List Byte) : Bool :=
  let n := leAt b 12 2
  byteAt b 0 = 2 && 25 ≤ b.length && b.length = 24 + n && n ≤ 1024 && leAt b 16 4 = ckptLength && leAt b 8 4 % 1024 = 0 &&
    crc32 (b.take 20 ++ b.drop 24) == leAt b 20 4

/-- Collect a block in the inactive buffer: a newer CKPT_SEQ, a gap or a bad block discards what stood there (R407). -/
def collectBlock (b : List Byte) (s : State) : State :=
  let seq := leAt b 4 4
  let fl := byteAt b 1
  if !blockGood b then { s with pair.partialCkpt := none }
  else
    let have_ : List Byte := match s.pair.partialCkpt with
      | some (q, l) => if q = seq && !bitOf fl 0 then l else []
      | none => []
    if have_.length ≠ leAt b 8 4 then { s with pair.partialCkpt := none }
    else
      let l := have_ ++ b.drop 24
      if bitOf fl 1 then
        let s := { s with pair.partialCkpt := none }
        if l.length = ckptLength then takeCheckpoint seq l s else s
      else { s with pair.partialCkpt := some (seq, l) }

/-- CHECKPOINT_BLOCK (R407, R419): a standby collects the block. -/
def execCheckpointBlock (t : Nat) (b : List Byte) (s : State) : Host.Outcome State Fault Refusal :=
  timed t (fun s => if pairRuns s && s.pair.standby && !s.pair.incompatible then collectBlock b s else s) s

/-! ## Loading a checkpoint (R422; 08 R250; 09 R269; 18 R516) -/

/-- A 16-bit field of a context as Q80: code × 1/d. -/
def qField (v d : Int) : Int := qOf v d

/-- The instant of a 48-bit mark time. -/
def instant48 (s : State) (x : Nat) : Nat := (instantOf s (counterAt s s.now + diff48 x (stampNow s)))

/-- Values of a field with a no-value code 0x8000. -/
def s16Value (b : List Byte) (o : Nat) : Option Int := if leAt b o 2 = 0x8000 then none else some (s16 b o)

/-- A Z slot from its 12 bytes. -/
def zOfBytes (b : List Byte) : ZSlot :=
  { tone := byteAt b 0, flags := BitVec.ofNat 8 (byteAt b 1), re := s16 b 2, im := s16 b 4,
    phase := milliDegrees (qatan2 (s16 b 4) (s16 b 2)), mark := leAt b 6 6 }

/-- Row-major covariance from the 15 numbers of its triangle. -/
def covOf (f : Nat → Int) : List Int :=
  (List.range 25).map (fun k =>
    let i := min (k / 5) (k % 5)
    let j := max (k / 5) (k % 5)
    f (5 * i - i * (i + 1) / 2 + j))

/-- A context from its 128 bytes and the 96 of its FILTER entry, with the layout that `ctxBytes` writes (04 R106). -/
def ctxOfBytes (s : State) (x : Ctx) (b f : List Byte) : Ctx :=
  let mark := leAt b 4 6
  let corr := leAt b 46 6
  { x with
    flags := BitVec.ofNat 16 (leAt b 2 2),
    est := if mark = 0 then none else some (instant48 s mark, mark),
    vLast := if leAt b 10 2 = 0xFFFF then none else some (u16 b 10 : Nat),
    tNear := s16Value b 12, tIndex := byteAt b 14, sample := byteAt b 15,
    soc := qField (leAt b 16 4 : Nat) (2 ^ 31), capSigma := qsqrt (floatValue (leAt f 60 4)), cap := qField (leAt b 24 4 : Nat) 1000,
    rs := qField (u16 b 28 : Nat) 1000000, rfast := qField (u16 b 30 : Nat) 1000000, tfast := u16 b 32,
    vfast := qField (s16 b 34) 100000, rslow := qField (u16 b 36 : Nat) 1000000, tslow := u16 b 38,
    vslow := qField (s16 b 40) 100000, hyst := qField (s16 b 42) 32768,
    tInt := (s16Value b 44).map (fun v => v * q80),
    tCorr := if corr = 0 then none else some (instant48 s corr, corr),
    lim := s16Value b 52, updates := u16 b 54, innov := s16 b 56, rejects := u16 b 58,
    z := (List.range 4).map (fun k => zOfBytes ((b.drop (64 + 12 * k)).take 12)),
    bal := byteAt b 112, chem := byteAt b 113, balDis := leAt b 114 4 * 3600000, balChg := leAt b 118 4 * 3600000,
    cov := covOf (fun k => floatValue (leAt f (4 * k) 4)),
    used := some (signedOf 64 (leAt f 76 8) * 32000, leAt b 114 4 * 3600000, leAt b 118 4 * 3600000, instant48 s mark),
    charge := signedOf 64 (leAt f 68 8) * 32000,
    anchor := if leAt f 64 4 = 0xFFFFFFFF then none
      else some (qField (leAt f 64 4 : Nat) (2 ^ 31), Config.openValue "ANCHOR SIGMA" [(leAt f 64 4 : Nat), (leAt f 68 8 : Nat)], 0),
    inited := true }

/-- A queue entry of DISPATCH. -/
def entryOf (b : List Byte) : Option SetPoint :=
  if leAt b 8 8 = 0 then none
  else some ⟨byteAt b 0, s16 b 2, if bitOf (byteAt b 1) 2 then some (u16 b 4) else none, leAt b 8 8, byteAt b 6, false⟩

/-- The queue entries of DISPATCH, in its order. -/
def entriesOf (d : List Byte) : List SetPoint := (List.range 16).filterMap (fun i => entryOf ((d.drop (16 + 16 * i)).take 16))

/-- The dispatch part of a state as DISPATCH of a checkpoint gives it. -/
def dispOf (d : List Byte) (x : Disp) : Disp :=
  let fl := byteAt d 3
  { x with
    target := ⟨byteAt d 2, s16 d 0, if bitOf fl 2 then some (u16 d 4) else none, 0, 9, false⟩,
    link := if bitOf fl 0 then some ⟨2, s16 d 6, if bitOf fl 1 then some (u16 d 8) else none, 0, 9, false⟩ else none,
    imm := [], queue := entriesOf d, rp := 0 }

/-- The dispatch state of a checkpoint (08 R250). -/
def loadDispatch (b : List Byte) (s : State) : State := { s with disp := dispOf (b.drop 96) s.disp }

/-- A field of `n` bytes, none where it is all ones. -/
def optAt (b : List Byte) (o n : Nat) : Option Nat := if leAt b o n = 2 ^ (8 * n) - 1 then none else some (leAt b o n)

/-- One-way delays as the other module measured them, referred to this module's ports: its own low or high end lies nearer by its
own pass-through and link, its other end farther by the other module's (02 R77, R78; 14 R404). A delay of the other module that no
one has measured counts as this one's (DESIGN CHOICE, notes/assumptions/48.md). -/
def referred (h : Bool) (own other : Option Nat) (up dn : Option Nat) : Option Nat × Option Nat :=
  let near := own.getD 0
  let far := other.getD near
  if h then (up.map (· + far), dn.map (· - near)) else (up.map (· - near), dn.map (· + far))

/-- The ring map of a checkpoint: counts, mode, delays and serials; the ring stays out of service until the claim is won. No tap
has been identified by this module, whose limits and clamps therefore do not stand in it (02 R77, R567). -/
def loadRing (b : List Byte) (r : Nat) (s : State) : State :=
  let d := b.drop (368 + 544 * r)
  let h := decide (prm s Prm.pairPosition = 1)
  let own := optAt d (if h then 20 else 16) 4
  let other := optAt d (if h then 16 else 20) 4
  let brk : Option (Nat × Nat) := match optAt d 2 1, optAt d 3 1 with
    | some k, some l => some (k, l)
    | _, _ => none
  setRing r (fun (x : Ring) => { x with
    n := optAt d 0 1, split := bitOf (byteAt d 1) 0, brk := brk, loop := optAt d 4 4, ownPass := own, passDelay := other,
    pos := (List.range 16).map (fun p =>
      let e := d.drop (32 + 32 * p)
      let o := referred h own other (optAt e 10 4) (optAt e 14 4)
      { x.pos.getD p {} with
        serial := if leAt e 0 8 = 0 then none else some (leAt e 0 8), fwVer := u16 e 8, outUp := o.1, outDn := o.2,
        dUp := u16 e 18, dDn := u16 e 20, crc := (u16 e 22, u16 e 24), known := false }) }) s

/-- Latch the safety functions of a mask and the trip's cause (09 R295). -/
def latchMask (mask cause : Nat) (s : State) : State :=
  let s := if mask = 0 then s else latchCode cause s
  { s with saf.sf := s.saf.sf.mapIdx (fun i (f : SfRec) => if bitOf mask i then { f with latchedSp := true, latchedDome := true } else f) }

/-- The checkpoint held is older than CKPT_STALE_AGE, or no longer (R422). -/
def noteStale (stale : Bool) (s : State) : State :=
  let s := if stale && !s.pair.stale then record Ev.ckptStale 3 [] s else s
  { s with pair.stale := stale }

/-- The contexts of a checkpoint. -/
def loadContexts (b : List Byte) (s : State) : State :=
  { s with est.ctx := s.est.ctx.mapIdx (fun c x =>
    ctxOfBytes s x ((b.drop (1456 + 128 * c)).take 128) ((b.drop (66992 + 96 * c)).take 96)) }

/-- The counters of a checkpoint; θ is 1.0 and every cell counts as sampled at the newest mark of its contexts. -/
def loadCounters (b : List Byte) (s : State) : State :=
  let newest := ((s.est.ctx.filterMap (fun x => x.est.map (·.1))).foldl max 0)
  { s with
    saf.newest := List.replicate 512 (some newest),
    est.counter := signedOf 64 (leAt b 41 8) * 32000, est.counterAt := s.now,
    con.energy := leAt b 49 4 * 1000000, con.eAt := s.now,
    con.k := s.con.k.mapIdx (fun n (c : CoilOut) => { c with closings := leAt b (53 + 4 * n) 2, loadOpens := leAt b (55 + 4 * n) 2 }),
    well.nextSeq := max s.well.nextSeq ((leAt b 37 4 + 65536) % 2 ^ 32),
    ctrl.theta := 2147483648, pair.highest := max s.pair.highest (leAt b 16 2) }

/-- Take over the checkpoint held: contexts with their mark times, dispatch, counters, records, latched trips; θ is 1.0 and every
limit is sensor-only until the first update because of its age (R422; 04 R124; 06 R175; 18 R516). -/
def loadCheckpoint (at_ : Nat) (b : List Byte) (s : State) : State :=
  let s := noteStale (decide (at_ + sec (prmN s Prm.ckptStaleAge) < s.now)) s
  let s := loadCounters b (loadRing b 1 (loadRing b 0 (loadDispatch b (loadContexts b s))))
  latchMask (leAt b 33 2) (leAt b 35 2) s

/-! ## The standby's place (R403, R414, R418; 15 R458) -/

/-- Open every output of this module without judging it: the other module carries the string. -/
def releaseCoils (s : State) : State :=
  { s with con.k := s.con.k.map (fun (c : CoilOut) =>
      { c with hs := false, ls := false, request := false, pullIn := false, pulse := none, confirmed := false, ever := false }) }

/-- The module becomes standby: role 2, no token, lanes off, outputs open but for those it follows already, so that the next valid
rounds decide them, Dormant in the pair-standby profile, FA1 and FB1 kept as leaves (R403, R414, R416, R418; 15 R458). -/
def becomeStandby (s : State) : State :=
  let s := endJobs Ev.partnerFailed (gatesOff 0 s)
  let follow := if s.pair.standby then s.pair.follow else List.replicate 4 false
  let s := releaseCoils s
  let s := { s with
    pair.role := 2, pair.standby := true, pair.token := false, pair.listening := none, pair.losingSince := none, pair.swapReady := false,
    pair.takeover := none, pair.override := none, pair.holderAt := some s.now, core.pairStandbyProfile := true, con.tp := [false, false],
    con.conn := none, con.opening := none, disp.ending := 0,
    pair.follow := follow,
    con.k := s.con.k.mapIdx (fun n (c : CoilOut) => if follow.getD n false then { c with hs := true, ls := true } else c) }
  markChanged (withdrawFor true (setMode .dormant 0 (dropEnable s)))

/-! ## Taking over (R422, R423; 02 R78) -/

/-- A ring comes up with the checkpointed map, nothing under way. -/
def headRing (r : Nat) (s : State) : State :=
  setRing r (fun (x : Ring) => { x with
    up := 0 < tapCount s r, mark := none, locating := false, enterSplit := false, pollLow := none, pollHigh := none,
    clean := 0, remeasure := none, slotSent := false, tested := none, refreshedAt := s.now, probed := (s.now, 0) }) s

/-- The rings re-headed from this module's own port: split mode with the break at the failed module; IDENTIFY goes to the nearest
and the farthest tap (02 R78). -/
def rehead (r : Nat) (s : State) : State :=
  let n := tapCount s r
  let brk := if prm s Prm.pairPosition = 1 then (0, 1) else (n, n + 1)
  let s := setRing r (fun (x : Ring) => { x with split := true, brk := some brk, enterSplit := true }) (headRing r s)
  if n = 0 then s else sendTap r n 0x01 [] (sendTap r 1 0x01 [] s)

/-- This module serves the rings from here on: marks, no sweep yet, BAL_MODE to be sent, time-driven work set (03 R102). After a
planned hand-over the former active passes the rings on, so that they run in the mode they ran in (14 R424); otherwise they are
re-headed, or enumerated where nothing is known (02 R78; 14 R423). -/
def takeRings (known : Bool) (s : State) : State :=
  let s := if !known then { s with rings.ring := s.rings.ring.map (fun (x : Ring) => { x with up := false, split := true }) }
    else if s.pair.swap.isSome then headRing 1 (headRing 0 s)
    else rehead 1 (rehead 0 s)
  let s := judgeEff { s with rings.eff := effThresholds s }
  setPeriodic 0 4 (us s.rings.period) 0
    { s with rings.mark := none, rings.sweepT := none, rings.balModeDue := [true, true], rings.window := [false, false],
             imp.takeover := true }

/-- The takeover with a checkpoint: its contents, and the mode that it names (R422). -/
def takeHeld (a : Nat) (b : List Byte) (s : State) : State :=
  let m := modeOfCode (byteAt b 32)
  let s := loadCheckpoint a b s
  { s with pair.takeMode := if leAt b 33 2 ≠ 0 || m == Mode.tripped then Mode.tripped else if m == Mode.run || m == Mode.hold then m else Mode.watch }

/-- The takeover without a checkpoint: the contexts saved in NVM, an empty queue, and Hold or Tripped (R423). -/
def takeNothing (s : State) : State :=
  let s := record Ev.takeoverNoCkpt 3 [] { s with pair.noCkpt := true }
  let s := clearDispatch (restoreContexts true s)
  let s := { s with disp.link := none, ctrl.theta := 2147483648, saf.newest := List.replicate 512 (some s.now) }
  { s with pair.takeMode := if s.saf.latched.isEmpty then Mode.hold else Mode.tripped }

/-- A paired module with a failed partner and the rank of a standby takes over: it wakes to Watch, trains its lanes, loads its
checkpoint and claims role 8 with an epoch one above the highest seen (R411, R422, R423). A step of an install in progress
completes first; a SAFE install and an exhausted epoch block it (19 R543, R546). -/
def startTakeover (s : State) : State :=
  let busy := (s.upd.job.map (fun j => j.busy || j.id = 7)).getD false
  if !s.pair.standby || s.pair.takeover.isSome || busy then s
  else if 0xFFF ≤ s.pair.highest then
    if s.pair.exhausted then s else record Ev.epochExhausted 3 [] { s with pair.exhausted := true }
  else
    let s := if s.pair.swap.isSome then record Ev.swapFailed 3 [(s.pair.swap.map (·.step)).getD 0] { s with pair.swap := none, pair.swapReady := false } else s
    let s := { s with pair.takeover := some .claiming, core.pairStandbyProfile := false }
    let s := setMode .watch Ev.partnerFailed s
    let s := eachDo (fittedLanes s) trainLane (openPorts 1 (openPorts 0 s))
    let s := match s.pair.held with
      | some (_, a, b) => takeHeld a b s
      | none => takeNothing s
    { s with pair.role := 8, pair.epoch := s.pair.highest + 1 }

/-- The followed outputs become this module's own. -/
def ownCoils (s : State) : State :=
  let take (n : Nat) (c : CoilOut) : CoilOut :=
    if s.pair.follow.getD n false then { c with request := true, hs := true, ls := true, ever := true, confirmed := c.kf } else c
  { s with con.k := s.con.k.mapIdx take, pair.follow := List.replicate 4 false }

/-- The token is acquired by winning a valid round: the outputs and the lanes are this module's (R414). -/
def takeToken (s : State) : State := releaseGates (ownCoils s)

/-- The claim is won: the rings pass to this module with the outputs and the lanes, the test pulses are its own, and the mode follows
(R404, R422, R424). -/
def completeClaim (s : State) : State :=
  let known := !s.pair.noCkpt
  let s := { s with
    pair.standby := false, pair.takeover := some .reheaded, pair.noCkpt := false, pair.holderAt := some s.now, con.tp := [true, true] }
  let s := takeRings known s
  let s := { s with saf.newest := if known then s.saf.newest else List.replicate 512 (some s.now) }
  let s := takeDue (armNext (markChanged (record Ev.takeoverDone (if s.pair.swap.isSome then 2 else 1) [s.pair.epoch] s)))
  match s.pair.takeMode with
  | .tripped => setMode .tripped (s.saf.latched.headD 0) (demandBy .both true { s with pair.takeover := none })
  | .run => setMode .run Ev.partnerFailed s
  | .hold => setMode .hold Ev.partnerFailed s
  | _ => if anyEnergised s then beginOpening none Ev.partnerFailed { s with pair.takeover := none } else { s with pair.takeover := none }

/-! ## Heartbeats (R405, R406, R408) -/

/-- Heartbeat body, 32 bytes (R406). -/
def heartbeatBytes (s : State) : List Byte :=
  leBytes 1 1 ++
  leBytes 1 (bit s.pair.relinquish 0 + bit (stopped s 0x0B) 1 + bit s.pair.testOk 2 + bit s.pair.held.isSome 3 + bit s.pair.swapReady 4) ++
  leBytes 2 s.pair.hbSeq ++ leBytes 4 (claimCode s) ++ leBytes 1 s.core.mode.code ++ leInt 1 (prm s Prm.pairPosition) ++ leBytes 2 0 ++
  leBytes 8 (stampNow s) ++ leBytes 4 (if s.pair.standby then (s.pair.held.map (·.1)).getD 0 else s.pair.ckptSeq) ++
  leBytes 4 (crc32 (digestBytes s)) ++ leBytes 4 0

/-- HEARTBEAT_SEND (R406, R407): every 5 ms, on PAIR and once on each plane; a swap step that waits for its answer is repeated. -/
def execHeartbeatSend (t : Nat) (s : State) : Host.Outcome State Fault Refusal :=
  timed t (fun s =>
    if !pairMode s || s.core.mode == .shelf || s.thm.held || !dueAfter s s.pair.hbAt (ms 5) then s
    else
      let s := sendPair 0 (heartbeatBytes s) s
      let s := { s with pair.hbSeq := (s.pair.hbSeq + 1) % 65536, pair.hbAt := some s.now }
      match s.pair.swap with
      | some w => if w.ramping then s else sendSwap w.step 0 w s
      | none => s) s

/-- The partner has failed (R408): a standby takes over, an active carries on alone. -/
def failPartner (s : State) : State :=
  let s := if s.pair.failed then s else record Ev.partnerFailed 3 [] { s with pair.failed := true }
  if s.pair.standby then startTakeover s
  else if s.pair.role == 8 && !s.pair.lost then record Ev.partnerLost 3 [] { s with pair.lost := true }
  else s

/-- Note what a heartbeat shows. -/
def noteHeartbeat (path : Nat) (b : List Byte) (mism : List Nat) (s : State) : State :=
  let fl := byteAt b 1
  let ok := bitOf fl 2
  let p := s.pair.partner
  let p := { p with
    flags := fl, claim := leAt b 4 4, mode := byteAt b 8, position := byteAt b 9, ckpt := leAt b 20 4, paramCrc := leAt b 24 4,
    hbPair := if path = 0 then some s.now else p.hbPair, hbFab := if path = 0 then p.hbFab else some s.now,
    addr := if path = 0 then leAt b 4 2 else p.addr,
    testedAt := if ok then some (p.testedAt.getD s.now) else none }
  { s with pair.partner := p, pair.failed := false, pair.lost := false,
           pair.mismatch := if s.pair.standby then s.pair.mismatch else mism }

/-- Positions that do not differ are a clash (R405). -/
def judgePosition (s : State) : State :=
  let same := decide ((s.pair.partner.position : Int) = prm s Prm.pairPosition)
  let s := if same && !s.pair.clash then record Ev.pairPositionClash 3 [] s else s
  { s with pair.clash := same }

/-- HEARTBEAT (R403, R405, R406, R408): path 0 PAIR, 1 plane A, 2 plane B; the sender's address on the fabric; whether the partner
identifies as a DX-S512; the functions whose mismatch the partner has raised. -/
def execHeartbeat (t : Nat) (path src : Nat) (ident : Bool) (mism : List Nat) (b : List Byte) (s : State) : Host.Outcome State Fault Refusal :=
  timed t (fun s =>
    if !pairMode s || s.core.mode == .shelf || s.thm.held || b.length ≠ 32 || byteAt b 0 ≠ 1 || (path ≠ 0 && src ≠ partnerNode s) then s
    else if !ident then
      if s.pair.incompatible then s else record Ev.pairIncompatible 3 [] { s with pair.incompatible := true }
    else
      let s := judgePosition (noteHeartbeat path b mism { s with pair.incompatible := false })
      let s := if pathsHealthy s then { s with pair.degraded := false } else s
      let fl := byteAt b 1
      let s := if bitOf fl 1 then
          if s.pair.stopped then s else record Ev.partnerStopped 3 [] { s with pair.stopped := true }
        else { s with pair.stopped := false }
      if bitOf fl 0 && !bitOf fl 1 && running s 0x0B then failPartner s else s) s

/-- HEARTBEAT_TIMEOUT (R408): a path, or both, silent for 30 ms. -/
def execHeartbeatTimeout (t : Nat) (s : State) : Host.Outcome State Fault Refusal :=
  timed t (fun s =>
    if !pairRuns s || s.pair.incompatible then s
    else if pairSilent s && fabSilent s then (if s.pair.failed then s else failPartner s)
    else if (pairSilent s || fabSilent s) && !s.pair.degraded then record Ev.pairDegraded 3 [flag (pairSilent s)] { s with pair.degraded := true }
    else s) s

/-! ## Claim rounds (R409 to R416) -/

/-- What this module sees of a round on CLAIM (R412, R413). -/
def roundFaulted (lowAt2 freeAt25 : Bool) (field : Nat) : Bool :=
  !lowAt2 || !freeAt25 || field / 16 % 16 ≠ 15 - field % 16

/-- The output field this module drives as holder: both channels permit the coil and its stage requests it (R415). -/
def ownField (s : State) : Nat :=
  let on := maskOf (s.con.k.map (fun c => c.request && driven c && !s.saf.spDemand && !s.saf.domeDemand))
  on + 16 * (15 - on)

/-- This module takes part in the next round (R410, R415, R425, R430). -/
def takesPart (s : State) : Bool :=
  pairMode s && s.pair.role ≠ 0 && !s.pair.outOfRounds && running s 0x0B && !s.thm.held && !inMode s [.shelf] &&
  !((s.pair.last.map (fun r => r.code / 2 ^ 28 = 15 && r.code ≠ claimCode s)).getD false)

/-- The standby follows (R416): role 2, no demand of its own channels. -/
def following (s : State) : Bool :=
  s.pair.role == 2 && s.pair.standby && running s 0x0B && running s 9 && !s.saf.spDemand && !s.saf.domeDemand && s.saf.loaded

/-- Follow one valid round of a holder: two rounds energise at hold duty without pull-in, one opens (R416). -/
def followRound (field : Nat) (s : State) : State :=
  let prev := s.pair.prevField
  let set (n : Nat) (old : Bool) : Bool := if !bitOf field n then false else if bitOf prev n then true else old
  let f := s.pair.follow.mapIdx set
  { s with pair.follow := f,
           con.k := s.con.k.mapIdx (fun n (c : CoilOut) => { c with hs := f.getD n false, ls := f.getD n false, pullIn := false }) }

/-- Epochs seen: the highest, and 0x001 for 10 s lets the higher ones go (R411). -/
def noteEpoch (code : Nat) (s : State) : State :=
  let e := code / 2 ^ 16 % 4096
  if e = 1 && code / 2 ^ 28 ≠ 0 then
    let since := s.pair.renumberSince.getD s.now
    { s with pair.renumberSince := some since, pair.highest := if since + sec 10 ≤ s.now then 1 else max s.pair.highest 1 }
  else { s with pair.renumberSince := none, pair.highest := max s.pair.highest e }

/-- A planned hand-over passes mark N: the active claims role 2, the standby role 8 with the new epoch, from the next round on
(R424). -/
def passMark (s : State) : State := match s.pair.swap with
  | some w =>
    if w.step = 3 && decide (0 ≤ diff48 (stampNow s) w.mark) then
      if w.active then { s with pair.role := 2 }
      else if s.pair.role == 2 then { s with pair.role := 8, pair.epoch := w.epoch, pair.takeover := some .claiming }
      else s
    else s
  | none => s

/-- The standby has won the round of a planned hand-over: TAKEN goes out and the active's mode is entered (R424). -/
def handTaken (s : State) : State := match s.pair.swap with
  | some w =>
    let s := completeClaim { s with pair.takeMode := modeOfCode s.pair.partner.mode, pair.swapReady := false }
    let s := sendSwap 4 0 w s
    { s with pair.swap := none }
  | none => completeClaim s

/-- The former active of a hand-over follows from the first round after mark N (R424). -/
def startFollowing (s : State) : State :=
  let shown := (s.pair.last.map (·.field)).getD 0
  { s with pair.token := false, pair.standby := true, pair.holderAt := some s.now, con.tp := [false, false],
           pair.follow := (List.range 4).map (bitOf shown),
           con.k := s.con.k.map (fun (c : CoilOut) => { c with request := false, confirmed := false, ever := false }) }

/-- What a valid round decides for this module: `won` it still drove its own code, `win` the winning code, whose change is a stamped
edge (R413 to R416, R418; 16 R480). -/
def afterRound (part won : Bool) (win field : Nat) (follower : Bool) (s : State) : State :=
  let role := win / 2 ^ 28
  let had := s.pair.token
  let s := if (s.pair.last.map (·.code)) == some win then s else captureEdge 0x11 false (stampNow s) s
  let s := noteEpoch win { s with
    pair.prevField := (s.pair.last.map (·.field)).getD 0,
    pair.last := some ⟨win, field % 16, follower⟩,
    pair.holderAt := if role = 8 || role = 15 then some s.now else s.pair.holderAt,
    pair.role8At := if role = 8 then some s.now else s.pair.role8At,
    pair.lineFault := false, pair.blocked := false,
    pair.heard8 := s.pair.heard8 || (role = 8 && !won),
    pair.listening := s.pair.listening.map (· + 1),
    pair.losingSince := if part && !won then some (s.pair.losingSince.getD s.now) else none }
  let rank := s.pair.role == 8 || s.pair.role == 15
  let token := won && rank
  let s := { s with pair.token := token }
  let s := if token && !had then takeToken s else if had && !token then dropEnable s else s
  if won && s.pair.takeover == some .claiming then handTaken s
  else if had && part && !won && rank then becomeStandby s
  else if part && !won && s.pair.role == 8 && role = 8 then becomeStandby s
  else if had && s.pair.outOfRounds then eachDo (List.range 4) openCoil s
  else if (s.pair.swap.map (fun w => w.active && w.step = 3)).getD false && s.pair.role == 2 && had then startFollowing s
  else if following s && !won && (role = 8 || role = 15) then followRound (field % 16) s
  else s

/-- Role 8 is claimed in modes 2 to 5 only (R410). -/
def dropRole (s : State) : State :=
  if s.pair.role == 8 && !inMode s [.watch, .connect, .run, .hold] then { s with pair.role := 0 } else s

/-- A round begins here: a multiple of 1 ms from the TAI second, met to 1 µs, or the other module's edge up to 200 µs before it
(R412). -/
def roundStarts (s : State) (other : Nat) : Bool :=
  let d := ((stampNow s % 2 ^ 32) * 1000000000 + 2 ^ 31) / 2 ^ 32 % ms 1
  decide (d ≤ us 1) || (other ≠ 0 && decide (us 800 ≤ d))

/-- CLAIM_ROUND (R412 to R416): the code another module drives, 0 for none; the line low 2 µs after the start and free 25 µs after
it; the eight bits of the output field as sampled; the FOLLOWER slot driven by the other module. A faulted round changes no token
and no followed state; a slot in which no module claims is no round, and only listening counts it (R418). -/
def execClaimRound (t : Nat) (other : Nat) (lowAt2 freeAt25 : Bool) (field : Nat) (follower : Bool) (s : State) :
    Host.Outcome State Fault Refusal :=
  timed t (fun s =>
    if !pairMode s || s.core.mode == .shelf || s.thm.held || !roundStarts s other then s
    else
      let s := dropRole (passMark s)
      let part := takesPart s
      let code := if part then claimCode s else 0
      let s := if part then emit (.claim code (ownField s)) s else s
      if !part && other = 0 then { s with pair.listening := s.pair.listening.map (· + 1) }
      else if roundFaulted lowAt2 freeAt25 field then
        let s := if part && s.pair.role == 8 then { s with pair.losingSince := some (s.pair.losingSince.getD s.now) } else s
        if s.pair.lineFault then s else record Ev.claimLineFault 3 [] { s with pair.lineFault := true }
      else
        let won := part && decide (other < code)
        afterRound part won (max code other) field (follower || (part && following s)) s) s

/-- HOLD_FOLLOW_EXPIRY (R416, R426): 2 s since the last valid round with a holder; the outputs open. -/
def execHoldFollowExpiry (t : Nat) (s : State) : Host.Outcome State Fault Refusal :=
  timed t (fun s =>
    if !pairMode s || (s.pair.token && !s.pair.outOfRounds) || !heldOpt s s.pair.holderAt (sec 2) || !(anyEnergised s || s.pair.follow.any id) then s
    else
      let s := if s.pair.takeover == some .claiming && s.pair.lineFault && !s.pair.blocked then
          record Ev.takeoverBlocked 3 [] { s with pair.blocked := true } else s
      let s := eachDo (List.range 4) openCoil s
      { s with pair.follow := List.replicate 4 false }) s

/-- PAIR_STARTUP (R418): after 100 rounds in Watch, standby where a role-8 code was heard, else role 8, 50 rounds later where
PAIR_PREFERRED is 0. -/
def execPairStartup (t : Nat) (s : State) : Host.Outcome State Fault Refusal :=
  timed t (fun s => match s.pair.listening with
    | none => s
    | some n =>
      if !pairRuns s || s.core.mode != .watch || s.pair.takeover.isSome || n < 100 then s
      else if s.pair.heard8 then becomeStandby s
      else if prm s Prm.pairPreferred = 0 && n < 150 then s
      else { s with pair.role := 8, pair.listening := none, pair.losingSince := none }) s

/-- PAIR_START_FAULT (R418): every round lost for 2 s, not standby, no role-8 code seen. -/
def execPairStartFault (t : Nat) (s : State) : Host.Outcome State Fault Refusal :=
  timed t (fun s =>
    if pairRuns s && heldOpt s s.pair.losingSince (sec 2) && !s.pair.standby && !s.pair.heard8 && !s.pair.startFault then
      record Ev.pairStartFault 3 [] { s with pair.startFault := true }
    else s) s

/-! ## Standby self-test (R421) -/

/-- The checkpoint held passes its CRC and is young enough. -/
def ckptFit (s : State) : Bool := match s.pair.held with
  | some (_, a, b) => crc32 (b.take 116240) == leAt b 116240 4 && decide (s.now ≤ a + sec (prmN s Prm.ckptStaleAge))
  | none => false

/-- STANDBY_SELF_TEST (R421): every 60 s; results per control-law and estimation engine, and the readback of the output switches. Engines that
failed stay out of service; the items that failed are named. -/
def execStandbySelfTest (t : Nat) (ctrl est : List Bool) (readback : Bool) (s : State) : Host.Outcome State Fault Refusal :=
  timed t (fun s =>
    if !pairRuns s || !s.pair.standby || s.pair.takeover.isSome || s.core.mode != .dormant || !dueAfter s s.pair.selfTestAt (sec 60) then s
    else
      let probed := (s.pair.probedAt.map (fun a => decide (s.now ≤ a + sec 60))).getD false
      let items := bit (ctrl.all id && est.all id) 0 + bit (ckptFit s) 1 + bit readback 2 + bit probed 3
      let s := judgeCapacity { s with
        ctrl.eng := s.ctrl.eng.mapIdx (fun i (e : Engine) =>
          let e := { e with test := some (ctrl.getD i true) }
          if ctrl.getD i true then e else { e with role := .out }),
        est.engines := min s.est.engines ((est.filter id).length + (4 - est.length)),
        pair.testItems := items, pair.testOk := items = 15, pair.selfTestAt := some s.now }
      if items = 15 then { s with pair.unfit := false }
      else if s.pair.unfit then s
      else record Ev.standbyUnfit 3 [15 - items] { s with pair.unfit := true }) s

/-! ## Planned hand-over (R407, R424) -/

/-- The first condition of R424 that fails; an install on either module refuses it too (19 R543). -/
def swapBlock (s : State) : Option Nat :=
  if !(s.pair.token && s.pair.role == 8) then some Ev.pairRole
  else if s.pair.swap.isSome || s.disp.ending ≠ 0 then some Ev.functionBusy
  else if !partnerFollows s || s.pair.failed then some Ev.partnerFailed
  else if !pathsHealthy s then some Ev.pairDegraded
  else if !((s.pair.partner.testedAt).isSome) then some Ev.standbyUnfit
  else if !s.pair.mismatch.isEmpty then some Ev.pairParamMismatch
  else if 0xFFF ≤ s.pair.highest then some Ev.epochExhausted
  else if s.upd.job.isSome then some Ev.installBusy
  else none

/-- PAIR_SWAP (R424): the checkpoint goes out and PREPARE follows. -/
def execPairSwap (t : Nat) (m : Nat) (s : State) : Host.Outcome State Fault Refusal :=
  timed t (serve m Cmd.pairSwap (withLength 0 (fun _ s => match swapBlock s with
    | some c => refuse (guardReply c) s
    | none =>
      let s := pushCheckpoint s
      let id := (s.pair.swapId + 1) % 65536
      let w : Swap := ⟨true, id, s.pair.highest + 1, 1, s.now, false, 0, s.pair.ckptSeq, some m, s.disp.target⟩
      (.goesOn, sendSwap 1 0 w { s with pair.swap := some w, pair.swapId := id })))) s

/-- The swap ends with the old active in charge (R424): SWAP_FAILED with the step; the active resumes dispatch from 0 A, the
standby returns to Dormant. -/
def failSwap (s : State) : State := match s.pair.swap with
  | none => s
  | some w =>
    let s := record Ev.swapFailed 3 [w.step] { s with pair.swap := none, pair.swapReady := false }
    if w.active then
      let back := s.pair.role == 2
      let s := finishJob w.mb Cmd.pairSwap (causeReply .execFault Ev.swapFailed)
        { s with disp.ending := 0, disp.target := w.target, disp.rp := 0, pair.role := 8, pair.takeover := none }
      if back then { s with pair.standby := false, con.tp := [true, true] } else s
    else becomeStandby s

/-- A swap step arrives: of the right form, for this module's swap. -/
def swapStep (step : Nat) (b : List Byte) : Bool := b.length == 32 && byteAt b 0 == 4 && byteAt b 1 == step

/-- SWAP_PREPARE (R424): a following standby wakes to Watch with role 2, trains its lanes and answers READY. -/
def execSwapPrepare (t : Nat) (b : List Byte) (s : State) : Host.Outcome State Fault Refusal :=
  timed t (fun s =>
    if !swapStep 1 b || !pairRuns s || !following s || s.pair.swap.isSome || s.pair.takeover.isSome then s
    else
      let w : Swap := ⟨false, leAt b 2 2, leAt b 4 2, 2, s.now, false, 0, leAt b 24 4, none, s.disp.target⟩
      let s := { s with pair.swap := some w, pair.swapReady := true, core.pairStandbyProfile := false }
      let s := setMode .watch 0 s
      sendSwap 2 0 w (eachDo (fittedLanes s) trainLane (openPorts 1 (openPorts 0 s)))) s

/-- SWAP_READY (R424): the active ramps its request to 0 A at SWAP_RAMP; with the gates off already and the current low, HAND
follows at once. -/
def execSwapReady (t : Nat) (b : List Byte) (s : State) : Host.Outcome State Fault Refusal :=
  timed t (fun s => match s.pair.swap with
    | some w =>
      if !swapStep 2 b || !w.active || w.step ≠ 1 || leAt b 2 2 ≠ w.id then s
      else
        let s := rampToZero { s with pair.swap := some { w with step := 2, since := s.now, ramping := true }, disp.ending := 3, disp.endAt := s.now }
        let s := { s with disp.target := { s.disp.target with rate := some (prmN s Prm.swapRamp) } }
        if !switching s && currentBelow s then orderlyOff s else s
    | none => s) s

/-- SWAP_HAND (R424): the standby learns mark N and the checkpoint pushed for the swap, and loads it; one it does not hold ends
the swap. -/
def execSwapHand (t : Nat) (b : List Byte) (s : State) : Host.Outcome State Fault Refusal :=
  timed t (fun s => match s.pair.swap with
    | some w =>
      if !swapStep 3 b || w.active || w.step ≠ 2 || leAt b 2 2 ≠ w.id then s
      else match s.pair.held with
        | some (q, a, d) =>
          if q = leAt b 24 4 then
            loadCheckpoint a d { s with pair.swap := some { w with step := 3, since := s.now, mark := leAt b 8 8 } }
          else failSwap (sendSwap 5 Ev.ckptStale w s)
        | none => failSwap (sendSwap 5 Ev.ckptStale w s)
    | none => s) s

/-- SWAP_TAKEN (R424): the former active enters Dormant, pair-standby; PAIR_SWAP is done. -/
def execSwapTaken (t : Nat) (b : List Byte) (s : State) : Host.Outcome State Fault Refusal :=
  timed t (fun s => match s.pair.swap with
    | some w =>
      if !swapStep 4 b || !w.active || w.step ≠ 3 || leAt b 2 2 ≠ w.id then s
      else
        let s := finishJob w.mb Cmd.pairSwap doneReply { s with pair.swap := none, disp.ending := 0 }
        becomeStandby s
    | none => s) s

/-- SWAP_ABORT (R407, R424). -/
def execSwapAbort (t : Nat) (b : List Byte) (s : State) : Host.Outcome State Fault Refusal :=
  timed t (fun s => match s.pair.swap with
    | some w => if swapStep 5 b && leAt b 2 2 = w.id then failSwap s else s
    | none => s) s

/-- Time allowed for the step a swap waits on: 100 ms, and for the standby that waits for HAND the ramp before it (R407). -/
def swapLimit (s : State) (w : Swap) : Nat :=
  if !w.active && w.step = 2 then ms 100 + ms ((iRated s).toNat / max 1 (prmN s Prm.swapRamp)) else ms 100

/-- SWAP_STEP_TIMEOUT (R407): the step is not answered in time; ABORT is sent. -/
def execSwapStepTimeout (t : Nat) (s : State) : Host.Outcome State Fault Refusal :=
  timed t (fun s => match s.pair.swap with
    | some w =>
      if w.ramping || s.now < w.since + swapLimit s w then s else failSwap (sendSwap 5 Ev.swapFailed w s)
    | none => s) s

/-! ## Service override (R425) -/

/-- End an override: the claim falls to role 0. -/
def endOverride (s : State) : State :=
  { s with pair.override := none, pair.role := 0,
           pair.listening := if s.core.mode == .watch then some 0 else none, pair.heard8 := false }

/-- PAIR_OVERRIDE (R425): 1 s to 600 s, 0 ends. -/
def execPairOverride (t : Nat) (m : Nat) (s : State) : Host.Outcome State Fault Refusal :=
  timed t (serve m Cmd.pairOverride (fun r => withLength 2 (fun b s =>
    let d := leAt b 0 2
    if 600 < d then refuse (argReply r.command 0) s
    else if d = 0 then ok (if s.pair.override.isSome then endOverride s else s)
    else if contactorsClosed s then refuse (guardReply Ev.contactors) s
    else if !pairMode s || !((s.pair.role8At.map (fun a => decide (a + sec 1 ≤ s.now))).getD true) then refuse (guardReply Ev.pairRole) s
    else ok { s with pair.role := 15, pair.override := some (s.now + sec d), pair.listening := none }) r)) s

/-- PAIR_OVERRIDE_END (R425). -/
def execPairOverrideEnd (t : Nat) (s : State) : Host.Outcome State Fault Refusal :=
  timed t (fun s => match s.pair.override with
    | some e => if e ≤ s.now then endOverride s else s
    | none => s) s

/-! ## Health report (R427) -/

/-- One byte per control-law engine. -/
def engineByte (e : Engine) : Nat :=
  let st := match e.role with
    | .p | .s | .c => 0
    | .w => 1
    | .selfTest => 2
    | .out => 3
  let r := match e.role with
    | .p => 0
    | .s => 1
    | .c => 2
    | _ => 3
  64 * st + 16 * r + bit (e.test == some true) 0

/-- Worst port CRC errors per 1,000 frames of a ring. -/
def ringWorst (s : State) (r : Nat) : Nat :=
  let rate (b : Nat × Nat) : Nat := if b.1 = 0 then 0 else 1000 * b.2 / b.1
  (((ringOf s r).pos.take (tapCount s r)).map (fun y => max (rate y.blkUp) (rate y.blkDn))).foldl max 0

/-- The six SFP cages, 8 bytes each. -/
def sfpBytes (s : State) : List Byte :=
  allPorts.flatMap (fun q =>
    let v := (portOf s q.1 q.2).sfp
    leBytes 2 (v.getD 0 0) ++ leBytes 2 (v.getD 1 0) ++ leBytes 2 (v.getD 2 0) ++ leBytes 1 (v.getD 3 0) ++ leBytes 1 (v.getD 4 0))

/-- Safety functions not provided under the set in force (09 R296). -/
def notProvidedMask (s : State) : Nat := bit (!siEnabled s 2) 6 + bit (!siEnabled s 3) 7

/-- The health report, 128 bytes; NVM_WEAR is the share of the most worn block (R427). -/
def healthBytes (s : State) : List Byte :=
  let k (f : CoilOut → Bool) : Nat := maskOf (s.con.k.map f)
  let lat (k : Nat) : Bool := (ringOf s k).split
  let age : Nat := if s.pair.standby then (s.pair.held.map (fun h => (s.now - h.2.1) / 1000000)).getD 65535
    else (s.pair.ckptAt.map (fun a => (s.now - a) / 1000000)).getD 65535
  let ts := tsMax s.thm.ts
  leBytes 8 (stampNow s) ++ leBytes 1 s.core.mode.code ++ leBytes 1 (pairRoleCode s) ++
  leBytes 2 (bit s.pair.degraded 0 + bit s.pair.lost 1 + bit s.pair.unfit 2 + bit (!s.pair.mismatch.isEmpty) 3 + bit s.pair.lineFault 4 +
    bit s.ctrl.shadowAbsent 5 + bit (s.rings.ring.any (·.margin)) 6 + bit (s.con.k.any (·.wear)) 7 + bit s.thm.hot 8 +
    bit (s.thm.tsFault.any id) 9) ++
  leBytes 4 (claimCode s) ++ fixLen 4 (s.ctrl.eng.flatMap (fun e => leBytes 1 (engineByte e))) ++ leBytes 2 s.pair.rotations ++
  leBytes 2 ((s.ctrl.eng.map (·.mismatches)).foldl (· + ·) 0) ++ leBytes 1 (2 ^ s.est.engines - 1) ++
  leBytes 1 ((List.range 4).foldl (fun a n => a + bit ((coil s n).lastHs == some true) (2 * n) + bit ((coil s n).lastLs == some true) (2 * n + 1)) 0) ++
  leBytes 2 ((s.con.k.map (·.testFails)).foldl (· + ·) 0) ++
  leBytes 2 (ringWorst s 0) ++ leBytes 2 (ringWorst s 1) ++
  leBytes 2 (bit (lat 0) 0 + bit (lat 1) 1 + bit (s.rings.ring.any (fun x => x.fltFail ≠ 0)) 2) ++ leBytes 2 0 ++ sfpBytes s ++
  leBytes 2 s.core.cisternJ ++ leBytes 2 s.core.backupMv ++ leBytes 2 (recWear s / 10) ++ leBytes 2 (codeS16 (ts.map (·.1))) ++ leBytes 1 ((ts.map (·.2)).getD 0) ++
  leBytes 1 (min 255 ((s.isl.isl.map (·.wakeLate)).foldl (· + ·) 0)) ++ leBytes 2 (k (·.wear) + 16 * k (fun c => c.faultHs || c.faultLs)) ++
  leBytes 2 (notProvidedMask s) ++ leBytes 2 (min 65535 age) ++
  leBytes 4 (if s.pair.standby then (s.pair.held.map (·.1)).getD 0 else s.pair.ckptSeq) ++ leBytes 2 s.pair.testItems ++
  leBytes 2 (maskOf ((allPorts.map (fun q => (portOf s q.1 q.2).link)) ++ [(planeOf s 0).failed, (planeOf s 1).failed])) ++ fixLen 20 []

/-- HEALTH_REPORT (R427, 15 R432): every 10 s, with the SFP diagnostics of the six cages as just read: temperature, TX power, RX power, bias,
flags each. -/
def execHealthReport (t : Nat) (sfp : List (List Nat)) (s : State) : Host.Outcome State Fault Refusal :=
  timed t (fun s =>
    if s.core.mode == .shelf || s.thm.held || !dueAfter s s.pair.healthAt (sec 10) then s
    else
      let s := eachDo (allPorts.zip sfp) (fun e s => setPort e.1.1 e.1.2 (fun x => { x with sfp := e.2 }) s) s
      let b := healthBytes s
      let s := { s with pair.health := some b, pair.healthAt := some s.now }
      if prmN s Prm.healthDest = 0 then s else sendFlow 7 4 false (prmN s Prm.healthDest) b s) s

/-! ## Commands (R429) -/

/-- PAIR_STATUS fields. -/
def pairStatus (s : State) : Payload :=
  let p := s.pair.partner
  let age (a : Option Nat) : List Int := optNat (a.map (fun x => s.now - x))
  .fields [("own", [(claimCode s : Int), s.pair.role, s.core.mode.code, prm s Prm.pairPosition]),
    ("partner", [(p.claim : Int), (p.claim / 2 ^ 28 : Nat), p.mode, p.position]),
    ("heartbeats", age p.hbPair ++ age p.hbFab),
    ("checkpoint", [((if s.pair.standby then (s.pair.held.map (·.1)).getD 0 else s.pair.ckptSeq : Nat) : Int)] ++
      age (if s.pair.standby then s.pair.held.map (·.2.1) else s.pair.ckptAt)),
    ("round", [((s.pair.last.map (·.field)).getD 0 : Nat), flag (following s), (maskOf s.pair.follow : Int)]),
    ("remaining", [(((s.pair.holderAt.getD 0) + sec 2 - s.now : Nat) : Int)]),
    ("epoch", [(s.pair.epoch : Int), s.pair.highest]),
    ("flags", [flag s.pair.degraded, flag s.pair.failed, flag s.pair.lost, flag s.pair.stopped, flag s.pair.incompatible, flag s.pair.clash,
      flag (!s.pair.mismatch.isEmpty), flag s.pair.lineFault, flag s.pair.startFault, flag s.pair.exhausted, flag s.pair.unfit, flag s.pair.blocked])]

/-- PAIR_STATUS (R429). -/
def execPairStatus (t : Nat) (m : Nat) (s : State) : Host.Outcome State Fault Refusal :=
  timed t (serve m Cmd.pairStatus (statusHandler pairStatus)) s

/-- PAIR_CKPT_NOW (R429): of the active of a pair. -/
def execPairCkptNow (t : Nat) (m : Nat) (s : State) : Host.Outcome State Fault Refusal :=
  timed t (serve m Cmd.pairCkptNow (withLength 0 (fun _ s =>
    if pushes s then ok (pushCheckpoint s) else refuse (guardReply Ev.pairRole) s))) s

/-- HEALTH_READ (R429): the latest report; zeros before the first. -/
def execHealthRead (t : Nat) (m : Nat) (s : State) : Host.Outcome State Fault Refusal :=
  timed t (serve m Cmd.healthRead (statusHandler (fun s => .bytes (fixLen 128 (s.pair.health.getD []))))) s

end Sys2Proof.Machine
end

