-- ==== Sys2Proof/Machine/Halts.lean ====
section
/-!
DEFINITION. Machine/Halts.lean: the stopped state of every function and its restart, as the chapters give them; STOP, RESTART
and installs use them (13 R390; 19 R536; 02 R82, 03 R101, 05 R159, 06 R199, 07 R233, 08 R249, 09 R298, 10 R323, 11 R342, 14 R430,
15 R458, 16 R487, 17 R510, 18 R526).
-/

namespace Sys2Proof.Machine

open Sys2Proof

/-- A CAN controller. -/
def canOf (s : State) (c : Nat) : Can := s.bus.can.getD c {}

/-- Change a CAN controller. -/
def setCan (c : Nat) (g : Can → Can) (s : State) : State := { s with bus.can := s.bus.can.modify c g }

/-- The rings fall silent: no mark, no frame; a window is aborted; what the last sweep gave is kept (02 R82). -/
def haltRing (s : State) : State :=
  impAbort Ev.impRing { s with
    rings.ring := s.rings.ring.map (fun (x : Ring) => { x with mark := none, pollLow := none, pollHigh := none }),
    rings.window := [false, false], rings.sweepT := none }

/-- Both channels hold every safety output and lane enable off (09 R298). -/
def haltSafety (s : State) : State :=
  dropEnable (inhibitGates (gatesOff Ev.functionStopped (eachDo (List.range 4) openCoil s)))

/-- Role 0, no following, no checkpoints (14 R430). -/
def haltPair (s : State) : State :=
  let s := if s.pair.standby then releaseCoils s else s
  { s with pair.role := 0, pair.token := false, pair.follow := List.replicate 4 false, pair.listening := none,
           pair.swap := none, pair.swapReady := false, pair.partialCkpt := none }

/-- The stopped state of a function. -/
def haltFunction (f : Nat) (s : State) : State :=
  match f with
  | 0x01 => haltRing s
  | 0x02 => { s with rings.balStopDue := [true, true] }
  | 0x04 => impAbort Ev.impStopped s
  | 0x05 => hardwareFallback (gatesOff Ev.functionStopped s)
  | 0x06 => gatesOff Ev.functionStopped s
  | 0x07 => { s with disp.target := ⟨0, 0, none, 0, 9, false⟩, disp.imm := [], disp.queue := [] }
  | 0x08 => haltSafety s
  | 0x09 => eachDo (List.range 4) openCoil s
  | 0x0A => hardwareFallback s
  | 0x0B => haltPair s
  | 0x0C => closePlane 0 s
  | 0x0D => closePlane 1 s
  | 0x0E => timeStop s
  | 0x0F => setCan 0 (fun c => { c with offline := true }) s
  | 0x10 => setCan 1 (fun c => { c with offline := true }) s
  | 0x12 => { s with bus.svc.selected := false }
  | 0x14 => setJob (fun j => { j with hold := true }) s
  | _ => s

/-- The products of the integral gains and the sample periods, formed at RESTART and at boot (06 R170): link lower and upper,
highest and lowest cell, link regulation, string-current correction. -/
def formKits (s : State) : State :=
  let v := kitsOf (prmN s Prm.vlinkKi) 100000
  let c := kitsOf (prmN s Prm.cellvKi) (us s.rings.period)
  { s with ctrl.kits := [v, v, c, c, v, kitsOf (prmN s Prm.idcKi) 100000] }

/-- Both channels have loaded the selected set: the outputs are released as far as no demand stands (09 R257, R298). -/
def releaseSafety (s : State) : State := updateCeil (releaseGates s)

/-- A function runs again with the values in force. -/
def resumeFunction (f : Nat) (s : State) : State :=
  match f with
  | 0x01 => if s.pair.standby then s
            else { s with rings.ring := s.rings.ring.map (fun (x : Ring) => { x with up := false }) }
  | 0x02 => { s with rings.balModeDue := [true, true] }
  | 0x05 => formKits s
  | 0x06 => eachDo (fittedLanes s) trainLane s
  | 0x08 => releaseSafety s
  | 0x09 => { s with con.k := s.con.k.map (fun c => { c with overcurrent := false, coilOpen := false }) }
  | 0x0B => if s.pair.standby then { s with pair.role := 2, pair.holderAt := some s.now } else
            { s with pair.listening := if pairMode s && s.core.mode == .watch then some 0 else none, pair.heard8 := false,
                       pair.losingSince := none }
  | 0x0C => markChanged (openPorts 0 s)
  | 0x0D => markChanged (openPorts 1 s)
  | 0x0E => timeRestart s
  | 0x0F => setCan 0 (fun c => { c with offline := false }) s
  | 0x10 => setCan 1 (fun c => { c with offline := false }) s
  | 0x11 => { s with bus.acc.clearDue := true }
  | 0x13 => startFlush s
  | _ => s

/-- Halt a running function for the load of its engine. -/
def haltFor (f : Nat) (s : State) : State :=
  if running s f then
    setJob (fun j => { j with halted := j.halted ++ [f] }) (setFn f (fun x => { x with state := .stopped }) (haltFunction f s))
  else s

/-- Start the functions again that an install has halted. -/
def resumeHalted (s : State) : State := match s.upd.job with
  | none => s
  | some j =>
    eachDo j.halted (fun f s => resumeFunction f (setFn f (fun x => { x with state := .running }) s))
      { s with upd.job := some { j with halted := [] } }

end Sys2Proof.Machine
end

