-- ==== Sys2Proof/Machine/Update.lean ====
section
/-!
DEFINITION. Machine/Update.lean: images: transfer, check and compatibility, and installs engine by engine (19 R529 to R547).
-/

namespace Sys2Proof.Machine

open Sys2Proof

/-! ## Images (R529 to R533) -/

/-- Largest image body (R529). -/
def largestImage (id : Nat) : Nat := [0, 524288, 262144, 1048576, 524288, 524288, 524288, 262144, 2097152, 98304].getD id 0

/-- An image ID. -/
def isImage (id : Nat) : Bool := 1 ≤ id && id ≤ 9

/-- A running header that an install has left; a blank one stands for an image the model does not know
(DESIGN CHOICE, notes/assumptions/27.md). -/
def hasHeader (h : List Byte) : Bool := h.take 4 == [0x44#8, 0x58#8, 0x49#8, 0x4D#8]

/-- IFACE_LEVEL of a header. -/
def levelOf (h : List Byte) : Nat := byteAt h 16

/-- A header accepts a level of another image ID (R530, R533). -/
def accepts (h : List Byte) (id level : Nat) : Bool := byteAt h (19 + id) ≤ level && level ≤ byteAt h (28 + id)

/-- The header is one of R530 for this image ID and total length. -/
def headerOk (id len : Nat) (h : List Byte) : Bool :=
  let zero (a n : Nat) : Bool := ((h.drop a).take n).all (· == 0#8)
  h.length == 256 && hasHeader h && byteAt h 4 == id && byteAt h 5 ≤ 1 && leAt h 6 2 == 256 && leAt h 8 4 + 256 == len &&
  leAt h 8 4 ≤ largestImage id && zero 38 2 && zero 72 120

/-- The image conflicting with image X under R533, none where X is compatible. `partner` is the interface level of the partner's
running SPIRE image, where a partner is known. -/
def conflictOf (id : Nat) (h : List Byte) (partner : Option Nat) (s : State) : Option Nat :=
  let hw := if id = 9 then true else byteAt h 18 ≤ s.core.hwLevel && s.core.hwLevel ≤ byteAt h 19
  let clash (y : Nat) : Bool :=
    let r := (imgOf s y).running
    y ≠ id && hasHeader r && !(accepts r id (levelOf h) && accepts h y (levelOf r))
  if !hw then some id
  else match ((List.range 9).map (· + 1)).find? clash with
    | some y => some y
    | none =>
      if id = 8 && pairMode s && !((partner.map (accepts h 8)).getD true) then some 8 else none

/-- The engines of the group carry live work: CTRL unless the gates are off in Watch, Hold or Service, EST while it runs (R533). -/
def liveWork (id : Nat) (s : State) : Bool :=
  if id = 4 then !(s.conv.st == .off && inMode s [.watch, .hold, .service]) else if id = 3 then estRuns s else false

/-- CTRL and EST images installed over live work keep the running interface level (R533). -/
def levelChange (id : Nat) (h : List Byte) (s : State) : Bool :=
  let r := (imgOf s id).running
  liveWork id s && hasHeader r && levelOf h ≠ levelOf r

/-! ## Transfer and check (R534, R535) -/

/-- Another binding owns the slot. -/
def ownedElsewhere (s : State) (m id : Nat) : Bool := match (imgOf s id).owner with
  | some o => some o != (bindingOf s m).map (fun n => (n, m))
  | none => false

/-- An empty slot. -/
def erased (i : ImgSlot) : ImgSlot := { i with st := .empty, blocks := [], len := 0, owner := none }

/-- A slot is named by an install marker or is being installed. -/
def slotBusy (s : State) (id : Nat) : Bool := (imgOf s id).marker || (s.upd.job.map (·.id)) == some id

/-- First guard of a command on a slot (R329, R534, R546, R547). -/
def slotGuard (m id : Nat) (writes : Bool) (s : State) : Option Nat :=
  if stopped s 0x14 then some Ev.functionStopped
  else if writes && s.thm.forbid then some Ev.nvmTemp
  else if ownedElsewhere s m id then some Ev.imgOwned
  else none

/-- IMG_OPEN's handler: the slot is erased, the caller's binding owns it. -/
def imgOpenHandler (m : Nat) (r : Request) : State → Answer × State :=
  withLength 5 (fun p s =>
    let id := byteAt p 0
    let len := leAt p 1 4
    if !isImage id then refuse (argReply r.command 0) s
    else if len = 0 || largestImage id + 256 < len then refuse (argReply r.command 1) s
    else match slotGuard m id true s with
      | some c => refuse (guardReply c) s
      | none =>
        if slotBusy s id then refuse (guardReply Ev.installBusy) s
        else ok (setImg id (fun (i : ImgSlot) =>
          { erased i with st := .writing, len := len, owner := (bindingOf s m).map (fun n => (n, m)), usedAt := s.now }) s)) r

/-- IMG_OPEN. -/
def execImgOpen (t m : Nat) (s : State) : Host.Outcome State Fault Refusal := timed t (serve m Cmd.imgOpen (imgOpenHandler m)) s

/-- Insert a block by offset. -/
def insertBlock (o : Nat) (b : List Byte) (l : List (Nat × List Byte)) : List (Nat × List Byte) :=
  l.filter (fun x => x.1 < o) ++ [(o, b)] ++ l.filter (fun x => o < x.1)

/-- First bad field of an IMG_BLOCK, by its offset. -/
def blockBad (s : State) (p : List Byte) : Option Nat :=
  let id := byteAt p 0
  let i := imgOf s id
  let o := leAt p 4 4
  let n := p.length - 8
  if !isImage id || i.st == .empty then some 0
  else if o % 1024 ≠ 0 || i.len < o + n then some 4
  else if n < 1024 && o + n ≠ i.len then some 8
  else none

/-- IMG_BLOCK's handler: a repeat is DONE, other content at written bytes is BLOCK_CONFLICT (R534). -/
def imgBlockHandler (m : Nat) (r : Request) (s : State) : Answer × State :=
  let p := r.payload
  let id := byteAt p 0
  if p.length < 9 || 1032 < p.length then refuse lengthReply s
  else if leAt p 1 3 ≠ 0 then refuse (causeReply .badArgument Ev.reserved) s
  else match blockBad s p with
    | some o => refuse (argReply r.command o) s
    | none =>
      let i := imgOf s id
      let o := leAt p 4 4
      let b := p.drop 8
      let old := (i.blocks.find? (fun x => x.1 = o)).map (·.2)
      if old.isSome && old != some b then refuse (causeReply .badArgument Ev.blockConflict) s
      else match slotGuard m id true s with
        | some c => refuse (guardReply c) s
        | none =>
          if old.isSome then ok (setImg id (fun (i : ImgSlot) => { i with usedAt := s.now }) s)
          else
            let blocks := insertBlock o b i.blocks
            let full := 1024 * blocks.length ≥ i.len
            ok (setImg id (fun (i : ImgSlot) =>
              { i with blocks := blocks, st := if full then .complete else i.st, usedAt := s.now }) s)

/-- IMG_BLOCK. -/
def execImgBlock (t m : Nat) (s : State) : Host.Outcome State Fault Refusal := timed t (serve m Cmd.imgBlock (imgBlockHandler m)) s

/-- What IMG_CHECK finds wrong with a complete slot: header, signature, digest, rollback, compatibility (R530 to R533, R535). -/
def checkImage (id : Nat) (partner : Option Nat) (s : State) : Option Reply :=
  let i := imgOf s id
  let h := stagedHeader s id
  let incompatible (y : Nat) : Reply := { causeReply .incompatible Ev.imgCompat y with fn := 0x14 }
  if !headerOk id i.len h then some (causeReply .badArgument Ev.imgHeader)
  else if !Config.signatureOk (byteAt h 5) (sha256 (h.take 192)) (h.drop 192) then some (causeReply .badArgument Ev.imgSignature)
  else if sha256 (stagedBody s id) ≠ (h.drop 40).take 32 then some (causeReply .badArgument Ev.imgDigest)
  else if byteAt h 17 < i.sec then some (incompatible id)
  else (conflictOf id h partner s).map incompatible

/-- IMG_CHECK's handler. -/
def imgCheckHandler (m : Nat) (partner : Option Nat) (r : Request) : State → Answer × State :=
  withLength 1 (fun p s =>
    let id := byteAt p 0
    if !isImage id || !((imgOf s id).st == .complete || (imgOf s id).st == .checked) then refuse (argReply r.command 0) s
    else match slotGuard m id false s with
      | some c => refuse (guardReply c) s
      | none =>
        if slotBusy s id then refuse (guardReply Ev.installBusy) s
        else match checkImage id partner s with
          | some a => answerWith a (setImg id erased s)
          | none => ok (setImg id (fun (i : ImgSlot) => { i with st := .checked }) s)) r

/-- IMG_CHECK: `partner` the level the partner's SPIRE image reports, where a partner is known. -/
def execImgCheck (t m : Nat) (partner : Option Nat) (s : State) : Host.Outcome State Fault Refusal :=
  timed t (serve m Cmd.imgCheck (imgCheckHandler m partner)) s

/-- IMG_ABORT's handler: the slot is erased; not while its install runs (R547). -/
def imgAbortHandler (m : Nat) (r : Request) : State → Answer × State :=
  withLength 1 (fun p s =>
    let id := byteAt p 0
    if !isImage id then refuse (argReply r.command 0) s
    else match slotGuard m id false s with
      | some c => refuse (guardReply c) s
      | none => if slotBusy s id then refuse (guardReply Ev.installBusy) s else ok (setImg id erased s)) r

/-- IMG_ABORT. -/
def execImgAbort (t m : Nat) (s : State) : Host.Outcome State Fault Refusal := timed t (serve m Cmd.imgAbort (imgAbortHandler m)) s

/-- IMG_OWNER_TIMEOUT: 3,600 s without a block (R534). -/
def execImgOwnerTimeout (t id : Nat) (s : State) : Host.Outcome State Fault Refusal :=
  timed t (fun s =>
    if (imgOf s id).owner.isSome && heldFor s (imgOf s id).usedAt (sec 3600) then
      setImg id (fun (i : ImgSlot) => { i with owner := none }) s
    else s) s

/-! ## Steps of an install (R536 to R543) -/

/-- Engines of a group, in the order of loading: SUP the supervisor (0) and the recorder engine (1), EST 0 to 3, CTRL the shadow
first and then each released engine (R529, R540). -/
def enginesOf (id : Nat) (s : State) : List Nat :=
  let w := (holderOf s .w).getD 0
  if id = 1 then [0, 1] else if id = 3 then [0, 1, 2, 3] else if id = 4 then w :: [0, 1, 2, 3].filter (· ≠ w) else [0]

/-- Island whose engine is reloaded, where the whole island is (01 R18, R22). -/
def islandOfImage (id e : Nat) : Option Nat :=
  if id = 1 then some (if e = 0 then 0 else 9)
  else if id = 2 then some 4 else if id = 5 then some 2 else if id = 6 then some 3 else if id = 7 then some 7
  else if id = 8 then some 1 else none

/-- An engine stops for its load: its function takes the stopped state (R536, R540 to R543). -/
def stopEngine (id e : Nat) (s : State) : State :=
  let s := match islandOfImage id e with
    | some k => flushCrossings k s
    | none => s
  match id with
  | 1 =>
    if e = 0 then
      haltFor 0x0E { s with isl.isl := s.isl.isl.map (fun (i : Island) =>
        if i.sleep == .awake then i else { i with sleep := .idle, wakeAt := none }) }
    else haltFor 0x13 s
  | 2 => haltFor 0x01 s
  | 3 => { s with est.engines := s.est.engines - 1 }
  | 4 => judgeCapacity (setEng e (fun (g : Engine) => { g with role := .out, ready := false, missRun := [0, 0, 0] }) s)
  | 5 => haltFor 0x0C s
  | 6 => haltFor 0x0D s
  | 7 => haltFor 0x08 (if pairMode s then haltFor 0x0B s else s)
  | 8 => { s with core.spireUp := false }
  | _ => s

/-- The next engine of the group is loaded. -/
def beginStep (s : State) : State := match s.upd.job with
  | some j => match j.todo with
    | e :: _ => stopEngine j.id e (setJob (fun j => { j with busy := true, failed := 0, since := s.now, step := j.step + 1 }) s)
    | [] => s
  | none => s

/-- An engine runs the new image (R536, R540). -/
def engineBack (id e : Nat) (pass : Bool) (s : State) : State := match id with
  | 3 => { s with est.engines := min 4 (s.est.engines + 1) }
  | 4 =>
    let s := setJob (fun j => { j with shadowAt := some s.now }) (setEng e (fun (g : Engine) => { g with test := some pass }) s)
    if pass then giveRole e .w s
    else raiseShadowAbsent (removeEngine e s)
  | 8 => { s with core.spireUp := true }
  | _ => resumeHalted s

/-- The step that follows: the next engine at once, unless a refusal pauses the install; a CTRL load waits for its rotation; after
the last engine the group runs the new image (R536, R538, R539). -/
def nextEngine (s : State) : State := match s.upd.job with
  | none => s
  | some j =>
    if j.todo.isEmpty then endInstall doneReply (installed j.id s)
    else if j.id = 4 then s
    else match installBlock j s with
      | some c => pauseJob c s
      | none => beginStep s

/-- A copy that fails twice: the engine stays in reset, and the install ends (R536). -/
def verifyFail (j : Install) (e : Nat) (s : State) : State :=
  let s := record Ev.imgVerifyFail 4 [j.id, e] { s with upd.heldReset := s.upd.heldReset ++ [(j.id, e)] }
  let s := if j.id = 4 then raiseShadowAbsent (setEng e (fun (g : Engine) => { g with heldOut := true, test := some false }) s) else s
  endInstall (causeReply .execFault Ev.imgVerifyFail) s

/-- INSTALL_STEP_DONE: the loader has compared the copy with BODY_DIGEST (`ok`); a control-law engine then passes its self-test or
not (`pass`). A wrong copy is made once more. A takeover that waited for the step begins (R536, R540, R546). -/
def execInstallStepDone (t : Nat) (ok pass : Bool) (s : State) : Host.Outcome State Fault Refusal :=
  timed t (fun s => match s.upd.job with
    | none => s
    | some j => match j.todo with
      | [] => s
      | e :: rest =>
        if !j.busy || j.id = 9 then s
        else if !ok && j.failed = 0 then setJob (fun j => { j with failed := 1 }) s
        else
          let s := if !ok then verifyFail j e s
            else
              let s := engineBack j.id e pass (setJob (fun j => { j with busy := false, todo := rest }) s)
              let s := if (fnOf s 0x14).state == .stopping && !rest.isEmpty then stepEnded s else nextEngine s
              stepEnded s
          if s.pair.failed && s.pair.standby && !((s.upd.job.map (·.busy)).getD false) then startTakeover s else s) s

/-- INSTALL_RESUME: the condition of a paused install has been clear for `clear` ns; after 1 s it goes on (R539). -/
def execInstallResume (t clear : Nat) (s : State) : Host.Outcome State Fault Refusal :=
  timed t (fun s => match s.upd.job with
    | none => s
    | some j =>
      if j.paused.isSome && (installBlock j s).isNone && sec 1 ≤ clear then
        let s := setJob (fun j => { j with paused := none, hold := false }) s
        if j.id = 9 then s else nextEngine s
      else s) s

/-- INSTALL_PAUSE_TIMEOUT: 600 s in PAUSED (R539). -/
def execInstallPauseTimeout (t : Nat) (s : State) : Host.Outcome State Fault Refusal :=
  timed t (fun s => match s.upd.job with
    | none => s
    | some j => match j.paused with
      | some (c, a) =>
        if a + sec 600 ≤ s.now then
          let s := if j.id = 9 then s else setImg j.id (fun (i : ImgSlot) => { i with marker := false }) s
          endInstall (guardReply c) s
        else s
      | none => s) s

/-! ## Commands (R547) -/

/-- A fresh install. -/
def newJob (id m : Nat) (todo : List Nat) (s : State) : Install :=
  { id := id, mb := some m, step := 0, steps := todo.length, todo := todo, busy := false, failed := 0, paused := none, since := s.now,
    hold := false, halted := [], shadowAt := none, phase := 0, next := [0, 0], resend := [], unchecked := [], goodSince := none }

/-- First refusal of an install at its start: guards in the order of the table, then compatibility (R382, R533, R537). -/
def startRefusal (id : Nat) (partner : Option Nat) (s : State) : Option Reply :=
  let h := stagedHeader s id
  let incompatible (y : Nat) : Reply := { causeReply .incompatible Ev.imgCompat y with fn := 0x14 }
  if stopped s 0x14 then some (guardReply Ev.functionStopped)
  else installRefusal id s <|> (if s.upd.job.isSome then some (guardReply Ev.installBusy) else none) <|>
    (if byteAt h 17 < (imgOf s id).sec || levelChange id h s then some (incompatible id) else (conflictOf id h partner s).map incompatible)

/-- IMG_INSTALL's handler: the marker is committed and the first engine stops (R536). -/
def imgInstallHandler (m : Nat) (partner : Option Nat) (r : Request) : State → Answer × State :=
  withLength 1 (fun p s =>
    let id := byteAt p 0
    if id = 0 || 8 < id || (imgOf s id).st != .checked then refuse (argReply r.command 0) s
    else match startRefusal id partner s with
      | some a => refuse a s
      | none =>
        (.goesOn, beginStep { setImg id (fun (i : ImgSlot) => { i with marker := true }) s with
          upd.job := some (newJob id m (enginesOf id s) s) })) r

/-- IMG_INSTALL. -/
def execImgInstall (t m : Nat) (partner : Option Nat) (s : State) : Host.Outcome State Fault Refusal :=
  timed t (serve m Cmd.imgInstall (imgInstallHandler m partner)) s

/-- The taps a TAP_INSTALL names: ring 0 A, 1 B, 2 both; position 0 all. -/
def tapTargets (s : State) (ring pos : Nat) : List Nat :=
  ((if ring = 2 then [0, 1] else [ring]).flatMap (fun r => (List.range (tapCount s r)).map (fun k => tapIndex r (k + 1)))).filter
    (fun i => pos = 0 || (tapPlace i).2 = pos)

/-- A tap's hardware revision lies in the image's range (R533). -/
def tapFits (h : List Byte) (s : State) (i : Nat) : Bool := byteAt h 18 ≤ (tapOf s i).hwRev && (tapOf s i).hwRev ≤ byteAt h 19

/-- TAP_INSTALL's handler: the transfer begins in the command windows (R544, R545). -/
def tapInstallHandler (m : Nat) (r : Request) : State → Answer × State :=
  withLength 2 (fun p s =>
    let ts := tapTargets s (byteAt p 0) (byteAt p 1)
    let bad := { causeReply .incompatible Ev.imgCompat 9 with fn := 0x14 }
    if 2 < byteAt p 0 || (imgOf s 9).st != .checked then refuse (argReply r.command 0) s
    else if 16 < byteAt p 1 || ts.isEmpty then refuse (argReply r.command 1) s
    else match startRefusal 9 none s with
      | some a => refuse a s
      | none =>
        if !ts.all (tapFits (stagedHeader s 9) s) then refuse bad s
        else (.goesOn, { s with upd.job := some (newJob 9 m ts s), upd.tapFail := false })) r

/-- TAP_INSTALL. -/
def execTapInstall (t m : Nat) (s : State) : Host.Outcome State Fault Refusal :=
  timed t (serve m Cmd.tapInstall (tapInstallHandler m)) s

/-- State code of a slot: 0 empty, 1 writing, 2 complete, 3 CHECKED. -/
def SlotState.code : SlotState → Nat
  | .empty => 0 | .writing => 1 | .complete => 2 | .checked => 3

/-- IMG_STATUS fields. -/
def imgStatus (s : State) : Payload :=
  let head (h : List Byte) : List Int := [(versionKey h : Int), levelOf h, byteAt h 17]
  let job : List Int := match s.upd.job with
    | none => [0]
    | some j => [if j.paused.isSome then (2 : Int) else 1, (j.id : Int), (j.step : Int), (j.steps : Int)] ++ (match j.paused with
      | some (c, _) => [(c : Int)]
      | none => [])
  .fields (s.upd.img.map (fun i => ("image", head i.running ++ head (slotBytes i) ++ [((i.st.code : Nat) : Int)] ++
      optNat (i.owner.map (·.2)) ++ [(i.blocks.length : Int), (i.sec : Int)])) ++
    [("install", job), ("last outcome", match s.upd.last with
        | some (st, c) => [((st.code : Nat) : Int), (c : Int)]
        | none => []),
     ("held in reset", s.upd.heldReset.flatMap (fun x => [(x.1 : Int), x.2])), ("TAP_FW_FAIL", [flag s.upd.tapFail])] ++
    (List.range 32).filterMap (fun i =>
      let x := tapPlace i
      if x.2 ≤ tapCount s x.1 then
        some ("tap", [(i : Int), (posOf s x.1 x.2).fwVer, flag ((s.rings.status.getD i 0) / 64 % 2 = 1), (tapOf s i).fw.bank])
      else none))

/-- IMG_STATUS. -/
def execImgStatus (t m : Nat) (s : State) : Host.Outcome State Fault Refusal :=
  timed t (serve m Cmd.imgStatus (statusHandler imgStatus)) s

end Sys2Proof.Machine
end

