-- ==== Sys2Proof/Machine/Modes.lean ====
section
/-!
DEFINITION. Machine/Modes.lean: power, Shelf and boot, Dormant and its wake events, loss of supply, and the mode commands
(12 R347 to R370; 04 R131, 09 R287 to R289, 10 R313, 11 R334 to R336, 13 R400, 18 R526, 19 R536).
-/

namespace Sys2Proof.Machine

open Sys2Proof

/-! ## What survives without power -/

/-- The ring map keeps the serials; everything else of a ring is found again by enumeration (02 R56). -/
def coldRing (x : Ring) : Ring := { pos := x.pos.map (fun (p : RingPos) => { serial := p.serial }) }

/-- The counts of a coil output stay, and its auxiliary contact reads as it reads. -/
def coldCoil (c : CoilOut) : CoilOut :=
  { kf := c.kf, kfStamp := c.kfStamp, closings := c.closings, loadOpens := c.loadOpens, wear := c.wear }

/-- A slot keeps what NVM holds; bindings, and so owners, end (19 R534). -/
def coldImg (i : ImgSlot) : ImgSlot := { i with owner := none }

/-- The module with every engine unloaded: NVM, the always-on domain, the taps and the contactors keep what they hold; record
buffer, thermal latches and time unit are kept here, as a thermal reset keeps them (11 R333; 13 R393; 18 R518). -/
def unloaded (s : State) : State :=
  { s with
    isl := {}, imp := {}, disp := {}, bus := {}, conv := { dt := s.conv.dt }, ctrl := {},
    mbx := { params := s.mbx.nvm, nvm := s.mbx.nvm, nextBinding := s.mbx.nextBinding },
    rings := { ring := s.rings.ring.map coldRing, tap := s.rings.tap },
    est := { saved := s.est.saved, chem := s.est.chem, counter := s.est.counter, counterAt := s.now },
    saf := { sets := s.saf.sets, selected := s.saf.selected, force := s.saf.force, latched := s.saf.latched, sealsNow := s.saf.sealsNow,
             sf := s.saf.sf.map (fun (f : SfRec) => { f with tripsBoot := 0 }) },
    con := { k := s.con.k.map coldCoil, energy := s.con.eNvm, eAt := s.con.eNvmAt, eNvm := s.con.eNvm, eNvmAt := s.con.eNvmAt,
             attempts := s.con.attempts, lastEnd := s.con.lastEnd, history := s.con.history, vStr := s.con.vStr, vLnk := s.con.vLnk },
    pair := { epoch := s.pair.epoch },
    fab := {},
    upd := { img := s.upd.img.map coldImg },
    well := { s.well with flushing := false, urgent := [], page := none, cursors := List.replicate 4 {} } }

/-- Power removed but for the always-on domain: Shelf. The record buffer is lost; operating seconds have been counted (R347, R359). -/
def powerOff (s : State) : State :=
  let ops := operatingS s
  let u := unloaded s
  { u with
    core := { s.core with mode := .shelf, power := .absent, auxOk := false, auxLost := false, booting := false, opSeconds := ops, bootAt := s.now,
                          wakeAt := none, stOk := false, stFlt := false, lastFaultRec := none, cisternLow := false, clockFault := false,
                          pairStandbyProfile := false, spireUp := true },
    thm := { shutdown := s.thm.shutdown, held := s.thm.held, wasConnected := s.thm.wasConnected, shutdowns := s.thm.shutdowns,
             shutdownCount := s.thm.shutdownCount },
    tim := { off := s.tim.off },
    well := { u.well with buf := [], drops := none } }

/-- Write every buffered record to the store: 64 records a page (18 R518, R359). -/
def flushAll (s : State) : State :=
  eachDo (List.range 65) (fun _ s =>
    if s.well.buf.isEmpty then s
    else
      let s := wrapStore s
      { s with well := commitPage (nextPage s.well) s.well }) s

/-- The flush, context save and energy write before power goes; a write-forbid writes nothing and the count of the records lost is
kept (11 R329; R359). -/
def saveAll (s : State) : State :=
  if s.thm.forbid then { s with well.lostRecords := s.well.buf.length }
  else flushAll (saveContexts { s with con.eNvm := energyAt s s.now, con.eNvmAt := s.now, con.energy := energyAt s s.now, con.eAt := s.now,
                                       mbx.nvm := s.mbx.params })

/-! ## Shelf, boot (R351 to R353) -/

/-- SHELF_WAKE: PWR-AUX stands at `aux` mV and HVS-STR at `str` mV, above 16 V and at or above 150 V for the stated ns (R352,
R353). -/
def execShelfWake (t aux str heldAux heldStr : Nat) (s : State) : Host.Outcome State Fault Refusal :=
  timed t (fun s =>
    let byAux := s.core.wakeArmed && 16000 < aux && ms 100 ≤ heldAux
    let byStr := s.core.shelfPowerFail && 150000 ≤ str && ms 100 ≤ heldStr
    if s.core.mode != .shelf || s.core.booting || s.now < s.core.bootRetryAt || !(byAux || byStr) then s
    else { s with
      core.booting := true, core.power := if byAux then .auxiliary else .harvest, core.auxOk := byAux, core.auxLost := !byAux,
      core.powerCycles := (s.core.powerCycles + 1) % 2 ^ 24, core.bootAt := s.now }) s

/-- BOOT_FAIL: the wake's boot fails; it is counted and tried again after 10 s (R352). -/
def execBootFail (t : Nat) (s : State) : Host.Outcome State Fault Refusal :=
  timed t (fun s =>
    if s.core.booting && s.core.mode == .shelf then
      { s with core.booting := false, core.bootFails := s.core.bootFails + 1, core.bootRetryAt := s.now + sec 10, core.power := .absent,
               core.auxOk := false, core.auxLost := false }
    else s) s

/-- WAKE_COMPARATOR_ARM: after a commanded Shelf, PWR-AUX has been below 16 V for 1 s (R353). -/
def execWakeComparatorArm (t mv held : Nat) (s : State) : Host.Outcome State Fault Refusal :=
  timed t (fun s => if s.core.mode == .shelf && mv < 16000 && sec 1 ≤ held then { s with core.wakeArmed := true } else s) s

/-- An interrupted or finished install leaves its image running: a marked slot is loaded (19 R536). -/
def bootImage (s : State) (id : Nat) : State :=
  if (imgOf s id).marker then installed id s else s

/-- The engines that pass their self-test take the roles P, S, C and W in order (06 R162, R185). -/
def bootEngines (pass : List Bool) (s : State) : State :=
  let good := (List.range 4).filter (fun e => pass.getD e false)
  let role (e : Nat) : EngRole := [EngRole.p, .s, .c, .w].getD (good.idxOf e) .out
  let s := { s with ctrl.eng := s.ctrl.eng.mapIdx (fun e (g : Engine) => { g with test := some (pass.getD e false), role := role e }) }
  judgeCapacity (if good.length < 4 then raiseShadowAbsent s else s)

/-- The periodic triggers of the module's own cadences (16 R482). -/
def bootTriggers (s : State) : State :=
  eachDo [(0, 4, us s.rings.period), (1, 6, us 20), (2, 6, us 100), (3, 6, ms 2), (4, 7, ms 1), (5, 7, ms 250), (16, 2, us 62500),
    (17, 3, us 62500)]
    (fun x => setPeriodic x.1 x.2.1 x.2.2 0) s

/-- Safety channels at boot: the seals and the selected set are read, the values loaded (09 R257, R287 to R289). -/
def bootSafety (o : BootObs) (s : State) : State :=
  let n := o.seals % 16
  let x := s.saf.sets.getD n {}
  let ok := o.crcOk && !x.crcBad
  let held := (List.range 9).any (fun k => bitOf ((x.vals.getD 14 0).toNat) k && ((s.saf.sf.getD k {}).latchedSp || (s.saf.sf.getD k {}).latchedDome))
  releaseGates { s with
    core.seals := BitVec.ofNat 8 o.seals, saf.sealsNow := BitVec.ofNat 8 o.seals, saf.selected := n, saf.force := x.vals, saf.loaded := ok,
    saf.tripOutSp := ok && !held, saf.tripOutDome := ok && !held, saf.watchAt := s.now, con.tp := [true, true] }

/-- Why a boot ends in Tripped: an event code (R351). -/
def bootTrip (o : BootObs) (s : State) : Option Nat :=
  if !s.saf.loaded then some Ev.safeSetCrc
  else if o.dome ≠ o.seals % 16 then some Ev.sealReadMismatch
  else if s.saf.sf.any (·.latchedDome) || s.core.nvmTripped then some (s.saf.latched.headD s.core.lastCause)
  else none

/-- The node address at boot: NODE_ADDR, else a provisional one (15 R439). -/
def bootNode (s : State) : State :=
  let a := prmN s Prm.nodeAddr
  { s with fab.node := if a = 0 then provisionalOf s.core.serial else a, fab.provisional := a = 0 }

/-- The thermal shutdown that ended in this boot is recorded; a reconnect falls due (11 R330, R334 to R336). -/
def bootShutdown (s : State) : State := match s.thm.shutdown with
  | none => s
  | some (a, m) =>
    let s := recordAt (stampAt s a) Ev.thermalShutdown 5 [(m.toNat : Int)] s
    { s with
      thm.shutdown := none, thm.restartedHot := true, thm.wasConnected := false,
      thm.reconnect := s.thm.wasConnected && prm s Prm.thermAutoReconnect == 1 && (within s (sec 86400) s.thm.shutdowns).length ≤ 1 }

/-- The records of a boot: BOOT with the failed boots before it, the records lost, an interrupted clear (R352; 11 R329; 18 R515,
R526). -/
def bootRecords (s : State) : State :=
  let s := record Ev.boot 1 [Config.openValue "BOOT CAUSE" [(s.core.powerCycles : Int)], (s.core.bootFails : Int)] s
  let s := { s with core.bootFails := 0 }
  let s := if s.well.lostRecords = 0 then s
    else record Ev.powerFailUnflushed 4 [(s.well.lostRecords : Int)] { s with well.lostRecords := 0 }
  match s.well.clear with
  | some j => finishClear j s
  | none => s

/-- A boot ends in Tripped: the causes are latched and both channels demand (R351; 09 R288, R289). -/
def bootTripped (code : Nat) (s : State) : State :=
  setMode .tripped code (demandBy .both false (latchCode code (record code 5 [] s)))

/-- The time unit starts from the RTC after Shelf; after a thermal reset it has counted on (16 R463, R466). -/
def bootTime (cold : Bool) (rtc : Option Nat) (s : State) : State :=
  let raw : Int := ((s.now * 2 ^ 32 / 1000000000 : Nat) : Int)
  let start : Int := match rtc with
    | some sec => ((sec * 2 ^ 32 : Nat) : Int)
    | none => Config.openValue "COUNTER WITHOUT RTC" [(s.now : Int)]
  if cold then { s with tim := { off := start - raw } }
  else { s with tim.trig := List.replicate 32 {}, tim.edges := [], tim.servo := true, tim.trim := 0,
                tim.off := counterAt s s.now - raw, tim.trimAt := s.now }

/-- The fields that a boot sets: its instant and stamp, the islands awake, the energy and the charge counted from now, the sweep
period, the window's address and the path of mailbox 6 in force (13 R393, R401). -/
def bootFields (o : BootObs) (cold : Bool) (ops : Nat) (s : State) : State :=
  { s with core.booting := false, core.opSeconds := ops, core.bootAt := s.now, core.bootStamp := stampNow s, core.shelfPowerFail := false,
           core.spireUp := true, core.wakeArmed := true, core.pairStandbyProfile := false,
           con.eAt := if o.rtc.isSome || !cold then s.con.eNvmAt else s.now, est.counterAt := s.now, thm.lastUpdate := s.now,
           isl.isl := s.isl.isl.map (fun (i : Island) => { i with sleep := .awake }),
           rings.period := prmN s Prm.sweepPeriod, bus.svc.addr := prmN s Prm.twSvcAddr, mbx.svcPath := svcPathOf s }

/-- What a boot does after the values in force are loaded: identity, records, images, gains, engines, contexts, lanes, triggers,
rings, fabric and chemistry. -/
def bootLoad (o : BootObs) (cold : Bool) (s : State) : State :=
  let s := bootRecords (bootShutdown (bootNode (bootSafety o s)))
  let s := eachDo ((List.range 9).map (· + 1)) (fun id s => bootImage s id) s
  let s := formKits (bootEngines o.engines (restoreContexts (o.rtc.isSome || !cold) s))
  let s := eachDo (fittedLanes s) trainLane (bootTriggers s)
  let s := eachDo o.lost loseCtx s
  let s := if pairMode s then s else enumerate 1 (o.rings.getD 1 ⟨none, 62, [], []⟩) (enumerate 0 (o.rings.getD 0 ⟨none, 62, [], []⟩) s)
  startFlush (judgeSpectrum (judgeChem (markChanged (openPorts 1 (openPorts 0 s)))))

/-- The mode that a boot ends in. -/
def bootEnd (o : BootObs) (s : State) : State := match bootTrip o s with
  | some c => bootTripped c s
  | none =>
    let s := updateCeil s
    setMode .watch 0 { s with pair.listening := if pairMode s then some 0 else none }

/-- BOOT: rail start-up, Dome's load, image loading, enumeration and lane training (R351). -/
def boot (o : BootObs) (s : State) : State :=
  let cold := s.core.mode == .shelf
  let ops := if cold then s.core.opSeconds else operatingS s
  bootEnd o (bootLoad o cold (bootFields o cold ops (bootTime cold o.rtc (unloaded s))))

/-- BOOT of a woken or released module. -/
def execBoot (t : Nat) (o : BootObs) (s : State) : Host.Outcome State Fault Refusal :=
  timed t (fun s => if s.core.booting && !s.thm.held then boot o s else s) s

/-! ## Loss of supply (R358, R359) -/

/-- PWR_AUX_LOSS: PWR-AUX at `mv` mV, below 15 V for `held` ns; HVS-STR at `str` mV. Harvest takes over where it can, and an
orderly opening begins; otherwise Cistern carries the module (R358; 11 R335). -/
def execPwrAuxLoss (t mv held str : Nat) (s : State) : Host.Outcome State Fault Refusal :=
  timed t (fun s =>
    if s.core.mode == .shelf || !s.core.auxOk || 15000 ≤ mv || held < ms 2 then s
    else if str < 150000 then { s with core.auxOk := false, core.power := .cistern }
    else
      let s := { s with core.auxOk := false, core.power := .harvest }
      if s.thm.held then s
      else
        let s := record Ev.auxLost 3 [] { s with core.auxLost := true }
        if s.core.mode == .connect then connFail Ev.auxLost [] s
        else if inMode s [.run, .hold] && s.con.opening.isNone then beginOpening none Ev.auxLost (endJobs Ev.auxLost s)
        else s) s

/-- PWR_AUX_RETURN: PWR-AUX at `mv` mV, above 16 V for `held` ns; a Cistern sequence still completes (R358, R359, R368). -/
def execPwrAuxReturn (t mv held : Nat) (s : State) : Host.Outcome State Fault Refusal :=
  timed t (fun s =>
    if s.core.mode == .shelf || s.core.auxOk || s.core.power == .cistern || mv ≤ 16000 || held < ms 100 then s
    else { s with core.auxOk := true, core.auxLost := false, core.power := .auxiliary }) s

/-- Code of a power source: 0 auxiliary, 1 harvest, 2 Cistern, 3 none. -/
def Power.code : Power → Nat
  | .auxiliary => 0 | .harvest => 1 | .cistern => 2 | .absent => 3

/-- Loss of every supply while Dome holds the reset: the recorder engine alone flushes where TS8 allows it (11 R335). -/
def heldPowerFail (ts8 : Option Int) (s : State) : State :=
  let may := (ts8.map (fun v => decide (v < 9500))).getD false && !s.thm.tsFault.getD 7 false && !s.thm.forbid
  if may then powerOff (flushAll (record Ev.powerFail 4 [(s.core.power.code : Int), s.well.buf.length] s)) else powerOff { s with well.lostRecords := s.well.buf.length }

/-- CISTERN_SEQUENCE: neither input supplies the module, HVS-STR at `str` mV; `ts8` what TS8 reads. The steps of R359 in their order,
the contactors in the order of 10 R315, without the times between them, and the POWER_FAIL and MODE_CHANGE records written last
(R359; 11 R335; 18 R515). -/
def execCisternSequence (t str : Nat) (ts8 : Option Int) (s : State) : Host.Outcome State Fault Refusal :=
  timed t (fun s =>
    if s.core.mode == .shelf || s.core.auxOk || (s.core.power != .cistern && 150000 ≤ str) then s
    else
      let lost := if s.core.power == .cistern then Power.auxiliary.code else s.core.power.code
      if s.thm.held then heldPowerFail ts8 { s with core.shelfPowerFail := true }
      else
        let s := endJobs Ev.powerFail (gatesOff Ev.powerFail { s with core.power := .cistern, core.shelfPowerFail := true })
        let s := eachDo [0, 2, 3, 1] openCoil s
        let n := s.well.buf.length
        let s := saveAll s
        let s := setMode .shelf Ev.powerFail (if s.thm.forbid then s else record Ev.powerFail 4 [(lost : Int), n] s)
        powerOff (if s.thm.forbid then { s with well.lostRecords := s.well.buf.length } else flushAll s)) s

/-! ## Dormant (R354 to R357) -/

/-- Wake into Watch (R355). -/
def wakeNow (cause : Nat) (s : State) : State := if s.core.mode == .dormant then setMode .watch cause s else s

/-- Enter Dormant in the isolated profile: every port is withdrawn, the rings fall idle (R354; 02 R75; 15 R458). -/
def enterIsolated (s : State) : State :=
  let s := withdrawFor false { s with core.pairStandbyProfile := false }
  setMode .dormant 0 { s with
    rings.ring := s.rings.ring.map (fun (x : Ring) => { x with mark := none, pollLow := none, pollHigh := none }), rings.window := [false, false],
    rings.sweepT := none }

/-- A function that is stopped and may not be stopped in a mode (R350). -/
def stoppedFor (m : Mode) (s : State) : Option Nat := (List.range 21).find? (fun f => stopped s f && !bitOf (stopModes f) m.code)

/-- The refusal that names it. -/
def stoppedReply (f : Nat) : Reply := { guardReply Ev.functionStopped with fn := f }

/-- A contactor is closed or an output energised. -/
def stringConnected (s : State) : Bool := contactorsClosed s || coilsHeld s

/-- A cell of the latest sweep lies within 50 mV of a safety limit, or outside a temperature window (R355; 11 R337). -/
def nearLimits (s : State) : Bool :=
  (fittedCells s).any (fun c =>
    let v := ((cellOf s c).v.map (fun v => decide (prm s Prm.safeCellOv - 500 ≤ v) || decide (v ≤ prm s Prm.safeCellUv + 500))).getD false
    let w := ((windowTemp s c).map (fun a => decide (a < prm s Prm.chgTMin) || decide (prm s Prm.chgTMax < a) ||
      decide (a < prm s Prm.disTMin) || decide (prm s Prm.disTMax < a))).getD false
    v || w)

/-- The spread of estimated state of charge exceeds twice BAL_DEADBAND, with DORMANT_BAL_WAKE set (R355). -/
def spreadWide (s : State) : Bool :=
  let l := ((fittedCells s).filter (fun c => (ctxOf s c).inited)).map (fun c => (ctxOf s c).soc)
  match l with
  | [] => false
  | a :: r => prm s Prm.dormantBalWake == 1 && decide (2 * q15 (prm s Prm.balDeadband) < r.foldl max a - r.foldl min a)

/-- 100 us of IDLE wake the taps of a ring, and 16 ECHO probes go to each position from each end that reaches it (02 R75). -/
def wakeRing (r : Nat) (s : State) : State :=
  let s := emit (.ringIdle r (us 100)) s
  let s := eachDo (reached s r) (fun p s => setTap (tapIndex r p) (fun (x : Tap) => { x with asleep := false }) s) s
  let probe (low : Bool) (s : State) : State :=
    eachDo ((reached s r).filter (fun p => !(ringOf s r).split || endOf s r p == some low)) (fun p s => sendProbes r p low 16 s) s
  probe false (probe true s)

/-- A slow sweep on one ring: the taps wake, delays are measured, the mark goes out on the grid, the data come in (R357; 02 R75). -/
def slowRing (T r : Nat) (rts : List (Option Nat × Option Nat)) (frames : List (Nat × Bool × List Byte)) (s : State) : State :=
  let s := refreshDelays r (takeDelays r rts (wakeRing r s))
  let s := markRing r T s
  let s := eachDo (frames.filter (fun f => f.1 = r)) (fun f s => sweepData r f.2.1 f.2.2 s) s
  if collecting s r then endCollection r (noteSilent r s) else s

/-- SLOW_SWEEP: `rts` the round trips per ring, `frames` the sweep data as they return (ring, from the high end, bytes), `tc` the
coolant inputs, `shunt2` and `hall2` the current front ends over the 2 us centred on the mark. A pair-standby module serves no ring and only runs the container loop (R355, R357; 11 R342). -/
def execSlowSweep (t : Nat) (rts : List (List (Option Nat × Option Nat))) (frames : List (Nat × Bool × List Byte)) (tc : List (Option Int))
    (shunt2 hall2 : Option Int) (s : State) : Host.Outcome State Fault Refusal :=
  timed t (fun s =>
    if s.core.mode != .dormant || s.thm.held then s
    else if s.core.pairStandbyProfile then (if loopRuns s then containerLoop tc s else s)
    else
      let T := nextGrid s (sec (prmN s Prm.dormantSweep))
      let rs := [0, 1].filter (ringServed s)
      let s := if rs.isEmpty then s else beginSweep T (shunt2, hall2) s
      let s := eachDo rs (fun r s => slowRing T r (rts.getD r []) frames s) s
      let s := if rs.isEmpty then s else sweepCheck s
      let s := if estRuns s && !rs.isEmpty then updatePeriod [] s else s
      let s := if loopRuns s then containerLoop tc s else s
      if nearLimits s || spreadWide s then wakeNow 0 s else s) s

/-- Time from now to a 64-bit stamp, in 2^-32 s: of all 64 bits while it is 32,000 s or more ahead, of the low 48 bits once it is
registered with the trigger generator (16 R464, R465). -/
def untilStamp (s : State) (a : Nat) : Int :=
  let d := (a : Int) - (stampNow s : Int)
  if 32000 * 2 ^ 32 ≤ d then d else diff48 a (stampNow s)

/-- WAKE_AT_REACHED: the registered time has come; it wakes a Dormant module (R355, R370). -/
def execWakeAtReached (t : Nat) (s : State) : Host.Outcome State Fault Refusal :=
  timed t (fun s => match s.core.wakeAt with
    | some a => if untilStamp s a ≤ 0 then wakeNow 0 { s with core.wakeAt := none } else s
    | none => s) s

/-- The next module-level known event is at least 40 ms + 2 s + 50 µs away (R356). -/
def eventFar (s : State) : Bool :=
  let far (a : Nat) : Bool := decide (timeUnits 2040050000 ≤ untilStamp s a)
  ((s.core.wakeAt.map far).getD true) && s.disp.queue.all (fun p => far p.apply)

/-- The quiet conditions of R356 but their duration. -/
def quietNow (s : State) : Bool :=
  !s.rings.tap.any (fun p => p.slots.any (leaseRuns s)) && s.rings.forced.isEmpty &&
  s.rings.ring.all (fun x => x.pos.all (fun p => p.sent.all (·.isNone))) &&
  s.disp.queue.isEmpty && s.disp.imm.isEmpty && s.upd.img.all (fun i => i.st != .writing) && s.upd.job.isNone &&
  s.est.chemStaged.all (·.isNone) && s.saf.latched.isEmpty && s.saf.present.isEmpty && thermFlags s = 0 &&
  !nearLimits s && !spreadWide s && !stringConnected s && (stoppedFor .dormant s).isNone

/-- DORMANT_AUTO: the conditions of R356 are tested; after DORMANT_QUIET the module drops to Dormant. -/
def execDormantAuto (t : Nat) (s : State) : Host.Outcome State Fault Refusal :=
  timed t (fun s =>
    if s.core.mode != .watch || pairMode s || prm s Prm.dormantAuto ≠ 1 || s.core.booting || s.thm.held then s
    else if !quietNow s then { s with core.quietSince := s.now }
    else if heldFor s s.core.quietSince (sec (prmN s Prm.dormantQuiet)) && eventFar s then enterIsolated s
    else s) s

/-! ## Mode commands (R370) -/

/-- Code of a sleep state. -/
def Sleep.code : Sleep → Nat
  | .awake => 0 | .idle => 1 | .doze => 2 | .nap => 3 | .off => 4

/-- MODE_STATUS fields. -/
def modeStatus (s : State) : Payload :=
  .fields ([("mode", [(s.core.mode.code : Int)]), ("previous", [(s.core.prevMode.code : Int)]),
    ("time in mode", [((s.now - s.core.modeSince : Nat) : Int)]), ("cause", [(s.core.lastCause : Int)]),
    ("power", [(s.core.power.code : Int)]), ("profile", [flag s.core.pairStandbyProfile])] ++
    s.isl.isl.map (fun i => ("island", [(i.sleep.code : Int)] ++ optNat i.nextEvent ++ [(i.wakeLate : Int)])))

/-- MODE_STATUS. -/
def execModeStatus (t m : Nat) (s : State) : Host.Outcome State Fault Refusal :=
  timed t (serve m Cmd.modeStatus (statusHandler modeStatus)) s

/-- ENTER_SERVICE: contactors open (R349). -/
def execEnterService (t m : Nat) (s : State) : Host.Outcome State Fault Refusal :=
  timed t (serve m Cmd.enterService (withLength 0 (fun _ s =>
    if stringConnected s then refuse (guardReply Ev.contactors) s
    else match stoppedFor .service s with
      | some f => refuse (stoppedReply f) s
      | none => ok (setMode .service 0 s)))) s

/-- LEAVE_SERVICE: to Tripped with a latched trip, else to Watch with no function stopped (R349, R350). -/
def execLeaveService (t m : Nat) (s : State) : Host.Outcome State Fault Refusal :=
  timed t (serve m Cmd.leaveService (withLength 0 (fun _ s =>
    match s.saf.latched with
    | c :: _ => match stoppedFor .tripped s with
      | some f => refuse (stoppedReply f) s
      | none => ok (setMode .tripped c s)
    | [] => match (List.range 21).find? (stopped s) with
      | some f => refuse (stoppedReply f) s
      | none => ok (setMode .watch 0 s)))) s

/-- What keeps the module in Hold: a gate-off cause that stands, an opening under way (R368; 06 R165, R183, R194). -/
def runBlock (s : State) : Option Nat :=
  if s.con.opening.isSome || s.disp.ending ≠ 0 || s.pair.swap.isSome then some Ev.functionBusy
  else if !threeHold s then some Ev.ctrlCapacity
  else if bothFailed s then some Ev.currentFeedbackLost
  else if (usablePhases s).isEmpty then some Ev.laneDown
  else none

/-- RUN's handler: a converter that regulates the link stops first, so that Run begins from 0 A with a soft start (R349; 08 R245). -/
def runHandler : Request → State → Answer × State :=
  withLength 0 (fun _ s => match stoppedFor .run s, runBlock s with
    | some f, _ => refuse (stoppedReply f) s
    | none, some c => refuse (guardReply c) s
    | none, none => ok (setMode .run 0 (if s.conv.st == .off then s else gatesOff 0 s)))

/-- RUN: Run is entered, soft start follows (R349, R350). -/
def execRun (t m : Nat) (s : State) : Host.Outcome State Fault Refusal := timed t (serve m Cmd.run runHandler) s

/-- The ramp of a HOLD begins; with the gates off the end comes at once (R370; 10 R316). -/
def beginHold (mb : Option Nat) (s : State) : State :=
  let s := { s with disp.ending := 1, disp.holdMb := mb, disp.endAt := s.now }
  if switching s then rampToZero s else orderlyOff s

/-- HOLD's handler. -/
def holdHandler (m : Nat) : Request → State → Answer × State :=
  withLength 0 (fun _ s =>
    if s.con.opening.isSome || s.disp.ending ≠ 0 then refuse (guardReply Ev.functionBusy) s
    else match stoppedFor .hold s with
      | some f => refuse (stoppedReply f) s
      | none => (.goesOn, beginHold (some m) s))

/-- HOLD: ramps the request to 0 A, turns the gates off and enters Hold (R370). -/
def execHold (t m : Nat) (s : State) : Host.Outcome State Fault Refusal := timed t (serve m Cmd.hold (holdHandler m)) s

/-- ENTER_DORMANT: isolated profile; contactors open, no latched trip; refused in pair mode (R349, R350, R370). -/
def execEnterDormant (t m : Nat) (s : State) : Host.Outcome State Fault Refusal :=
  timed t (serve m Cmd.enterDormant (withLength 0 (fun _ s =>
    if pairMode s then refuse (guardReply Ev.pairRole) s
    else if stringConnected s then refuse (guardReply Ev.contactors) s
    else match s.saf.latched, stoppedFor .dormant s with
      | c :: _, _ => refuse (guardReply c) s
      | [], some f => refuse (stoppedReply f) s
      | [], none => ok (enterIsolated s)))) s

/-- WAKE: refused in pair-standby (R355). -/
def execWake (t m : Nat) (s : State) : Host.Outcome State Fault Refusal :=
  timed t (serve m Cmd.wake (withLength 0 (fun _ s =>
    if s.core.pairStandbyProfile then refuse (guardReply Ev.pairRole) s else ok (wakeNow 0 s)))) s

/-- WAKE_AT: a 64-bit time at most 30 days ahead, or all zeros to cancel (R370). -/
def execWakeAt (t m : Nat) (s : State) : Host.Outcome State Fault Refusal :=
  timed t (serve m Cmd.wakeAt (withLength 8 (fun p s =>
    let a := leAt p 0 8
    if a = 0 then ok { s with core.wakeAt := none }
    else if ((2592000 * 2 ^ 32 : Nat) : Int) < untilStamp s a then refuse (argReply Cmd.wakeAt 0) s
    else ok { s with core.wakeAt := some a }))) s

/-- ENTER_SHELF: contactors open; the record flush and context save, which a write-forbid prevents; its response is formed before
the rails go, and the comparator is disarmed (R353; 11 R329). -/
def execEnterShelf (t m : Nat) (s : State) : Host.Outcome State Fault Refusal :=
  timed t (serve m Cmd.enterShelf (withLength 0 (fun _ s =>
    if stringConnected s then refuse (guardReply Ev.contactors) s
    else if s.thm.forbid then refuse (guardReply Ev.nvmTemp) s
    else
      let s := formResponse m doneReply (record Ev.commandDone 1 [m, Cmd.enterShelf, 0] s)
      let s := withdrawFor false s
      (.goesOn, { powerOff (saveAll (setMode .shelf 0 s)) with core.wakeArmed := false, core.shelfPowerFail := false })))) s

end Sys2Proof.Machine
end

