-- ==== Sys2Proof/Machine/Buses.lean ====
section
/-!
DEFINITION. Machine/Buses.lean: the CAN controllers, the forerunner map, the two-wire service window and the accessory bus
(17 R488 to R513; 12 R354, R355).
-/

namespace Sys2Proof.Machine

open Sys2Proof

/-! ## Bit timing (R489) -/

/-- Prescaler and quanta of a bit rate: the largest number of quanta between `lo` and `hi` for which a prescaler of 1 to 256
divides the 80 MHz clock exactly; none when there is none. -/
def bitTiming (rate lo hi : Nat) : Option (Nat × Nat) :=
  ((List.range (hi + 1 - lo)).map (fun i => hi - i)).findSome? (fun n =>
    if rate ≠ 0 && 80000000 % (rate * n) = 0 && 80000000 / (rate * n) ≤ 256 then some (80000000 / (rate * n), n) else none)

/-- The quantum nearest to a sample point in 0.1 % of `n` quanta. -/
def sampleQuantum (n point : Nat) : Nat := (2 * n * point + 1000) / 2000

/-- Parameter of a CAN function, by its index; CAN2 has the same under 0x10. -/
def canPrm (s : State) (c id : Nat) : Nat := prmN s (id + 256 * c)

/-- The sample point achieved, in 0.1 %; 0 where the rate has no exact division. -/
def achieved (rate lo hi point : Nat) : Nat := match bitTiming rate lo hi with
  | some (_, n) => sampleQuantum n point * 1000 / n
  | none => 0

/-- CAN_TRIPLE is set and the nominal rate too high for it. -/
def tripleIgnored (s : State) (c : Nat) : Bool := canPrm s c Prm.canTriple = 1 && 125000 < canPrm s c Prm.canNbr

/-! ## Controllers -/

/-- Event code of a CAN port (18 R515). -/
def canEv (c code : Nat) : Nat := code + 256 * c

/-- The controller's receiver is alive: every mode but Shelf, in isolated Dormant CAN1 alone, in pair-standby none; the function
is not stopped (12 R354, R363; R510). -/
def canHears (s : State) (c : Nat) : Bool :=
  !s.core.booting && !s.thm.held && !(canOf s c).offline && (canOf s c).bus != .off && (canOf s c).bus != .recovering &&
    match s.core.mode with
    | .shelf => false
    | .dormant => c = 0 && !s.core.pairStandbyProfile
    | _ => true

/-- The controller sends: it hears, and the module is in neither Shelf nor Dormant. -/
def canSends (s : State) (c : Nat) : Bool := canHears s c && s.core.mode != .dormant

/-- The fault confinement state that the error counters give (R488, ISO 11898-1; PRESUMED, notes/assumptions/28.md). -/
def confine (c : Can) : Can :=
  match c.bus with
  | .off | .recovering => c
  | _ => { c with bus := if 127 < c.tec || 127 < c.rec_ then .passive else .active }

/-- Enabled acceptance filters (R494): identifier word and mask word. -/
def filters (s : State) (c : Nat) : List (Nat × Nat) :=
  ((List.range 4).map (fun i => (canPrm s c (Prm.canFiltId0 + i), canPrm s c (Prm.canFiltMask0 + i)))).filter (fun f => bitOf f.1 31)

/-- A frame matches one filter (R494). -/
def filterMatches (f : CanFrame) (x : Nat × Nat) : Bool :=
  bitOf x.1 29 == f.ide && Nat.land (Nat.xor f.id (x.1 % 2 ^ 29)) (x.2 % 2 ^ 29) == 0

/-- A frame is to be stored (R494). -/
def accepted (s : State) (c : Nat) (f : CanFrame) : Bool := (filters s c).isEmpty || (filters s c).any (filterMatches f)

/-- Store a received frame, or drop it when all 64 entries are owned (R493, R495, R496). -/
def storeFrame (f : CanFrame) (time : Nat) (c : Can) : Can :=
  if 64 ≤ c.rx.length then { c with overrun := (c.overrun + 1) % 2 ^ 32, gapped := true }
  else { c with rx := c.rx ++ [⟨c.seq, c.gapped, time, f⟩], seq := (c.seq + 1) % 65536, gapped := false }

/-- CAN_FRAME_RECEIVE (R494 to R496): a frame ends on a port. In isolated Dormant WAKE_CAN_ID on CAN1 wakes the module (12 R355).
With the map in force CAN1 stores nothing (R497). -/
def execCanFrameReceive (t c : Nat) (f : CanFrame) (s : State) : Host.Outcome State Fault Refusal :=
  timed t (fun s =>
    if 2 ≤ c || !canHears s c then s
    else
      let s := if c = 0 && !f.ide && f.id = prmN s Prm.wakeCanId then wakeNow 0 s else s
      let s := setCan c (fun x => confine { x with rec_ := if 127 < x.rec_ then 127 else x.rec_ - 1 }) s
      if c = 0 && mapMode s then s
      else if accepted s c f then setCan c (storeFrame f (stampNow s)) s
      else s) s

/-- The entry that the next attempt takes (R490). -/
def nextEntry (c : Can) : Option (CanTxEntry × Bool) := match c.express, c.tx with
  | some e, _ => some (e, true)
  | none, e :: _ => some (e, false)
  | none, [] => none

/-- CAN_TX_ATTEMPT (R490, R491): the SOF of an attempt goes out; the attempt is committed. -/
def execCanTxAttempt (t c : Nat) (s : State) : Host.Outcome State Fault Refusal :=
  timed t (fun s =>
    if 2 ≤ c || !canSends s c || (canOf s c).onBus.isSome then s
    else match nextEntry (canOf s c) with
      | some (e, x) => setCan c (fun y => { y with onBus := some (e.handle, x) }) s
      | none => s) s

/-- Take an entry out of its place and note how it was settled. -/
def settle (handle : Nat) (sent : Option Nat) (c : Can) : Can :=
  { c with express := c.express.filter (·.handle ≠ handle), tx := c.tx.filter (·.handle ≠ handle),
           settled := (handle, sent) :: c.settled.filter (·.1 ≠ handle) }

/-- The queued entry of a handle. -/
def queuedEntry (c : Can) (handle : Nat) : Option CanTxEntry := (c.express.toList ++ c.tx).find? (·.handle = handle)

/-- The controller leaves the bus once its attempt has ended: a STOP that waited ends (R510). -/
def leaveBus (c : Nat) (s : State) : State :=
  let f := 0x0F + c
  if (fnOf s f).state == .stopping && (canOf s c).onBus.isNone then
    let mb := (fnOf s f).busy
    finishJob mb (256 * f + 1) doneReply (setFn f (fun x => { x with state := .stopped, busy := none })
      (setCan c (fun x => { x with offline := true }) s))
  else s

/-- The attempt on the bus ends without having sent its frame; a cancel that waited removes the entry (R491). -/
def attemptLost (c handle : Nat) (s : State) : State :=
  let w := (canOf s c).cancel
  let s := setCan c (fun x => { x with onBus := none, cancel := none }) s
  if w.isSome then finishJob w (Cmd.canTxCancel + 256 * c) doneReply (setCan c (settle handle none) s) else s

/-- CAN_TX_END (R490, R491): the attempt completes (0), loses arbitration (1) or meets an error (2). A cancel that waited ends
DONE, or TOO_LATE after a completed frame. -/
def execCanTxEnd (t c outcome : Nat) (s : State) : Host.Outcome State Fault Refusal :=
  timed t (fun s =>
    match (canOf s c).onBus with
    | none => s
    | some (h, _) =>
      if 2 ≤ c || 3 ≤ outcome then s
      else if outcome = 0 then
        let w := (canOf s c).cancel
        let s := match queuedEntry (canOf s c) h with
          | some e => emit (.can (c + 1) e.frame) s
          | none => s
        let s := setCan c (fun x => confine { settle h (some (stampNow s)) x with onBus := none, cancel := none, tec := x.tec - 1 }) s
        leaveBus c (finishJob w (Cmd.canTxCancel + 256 * c) { status := .tooLate } s)
      else
        let s := attemptLost c h s
        leaveBus c (if outcome = 2 then setCan c (fun x => confine { x with tec := min 255 (x.tec + 8) }) s else s)) s

/-- BUS_OFF (R492, R510): the queue freezes, the attempt's frame stays in its place, a waiting cancel ends DONE, and recovery
starts at once with CAN_AUTO_RECOVER. -/
def execBusOff (t c : Nat) (s : State) : Host.Outcome State Fault Refusal :=
  timed t (fun s =>
    if 2 ≤ c || !canSends s c then s
    else
      let s := match (canOf s c).onBus with
        | some (h, _) => attemptLost c h s
        | none => s
      let s := record (canEv c Ev.busOff) 3 [] s
      leaveBus c (setCan c (fun x => { x with
        tec := 256, recoverAt := s.now, bus := if canPrm s c Prm.canAutoRecover = 1 then .recovering else .off }) s)) s

/-- The time that 128 occurrences of 11 recessive bits take at least (R492). -/
def recoverTime (s : State) (c : Nat) : Nat := 1408 * sec 1 / canPrm s c Prm.canNbr

/-- BUS_OFF_RECOVERED (R492): 128 occurrences of 11 recessive bits have passed. -/
def execBusOffRecovered (t c : Nat) (s : State) : Host.Outcome State Fault Refusal :=
  timed t (fun s =>
    if (canOf s c).bus == .recovering && c < 2 && decide ((canOf s c).recoverAt + recoverTime s c ≤ s.now) then
      setCan c (fun x => { x with bus := .active, tec := 0, rec_ := 0 }) s
    else s) s

/-! ## CAN commands (R490 to R495, R513) -/

/-- A command of both CAN functions; the handler is given the port, 0 for CAN1. -/
def serveCan (m op : Nat) (h : Nat → Request → State → Answer × State) (s : State) : State :=
  serve m (0x1000 + op) (h 1) (serve m (0x0F00 + op) (h 0) s)

/-- The data length that a DLC gives (R493). -/
def dlcLength (fdf : Bool) (dlc : Nat) : Nat :=
  if dlc ≤ 8 then dlc else if fdf then [12, 16, 20, 24, 32, 48, 64].getD (dlc - 9) 64 else 8

/-- A frame entry, 80 bytes (R493). -/
def entryBytes (seq flags time : Nat) (f : CanFrame) : List Byte :=
  leBytes 2 seq ++ leBytes 1 flags ++ leBytes 1 f.dlc ++ leBytes 4 f.id ++ leBytes 8 time ++ fixLen 64 f.data

/-- FRAME_FLAGS of a frame without EXPRESS. -/
def frameFlags (f : CanFrame) (overrun : Bool) : Nat :=
  bit overrun 5 + bit f.rtr 4 + bit f.esi 3 + bit f.brs 2 + bit f.fdf 1 + bit f.ide 0

/-- The frame of a transmit request. -/
def frameOf (p : List Byte) : CanFrame :=
  let fl := byteAt p 2
  let fdf := bitOf fl 1
  { id := leAt p 4 4, ide := bitOf fl 0, fdf := fdf, brs := bitOf fl 2, esi := bitOf fl 3, rtr := false, dlc := byteAt p 3,
    data := (p.drop 16).take (dlcLength fdf (byteAt p 3)) }

/-- First field of a transmit request that is not as R493 demands: its answer. -/
def txBadField (s : State) (c command : Nat) (p : List Byte) : Option Reply :=
  let fl := byteAt p 2
  let reserved : Reply := causeReply .badArgument Ev.reserved
  firstOf [(leAt p 0 2 ≠ 0, reserved), (bitOf fl 7, reserved), (leAt p 4 4 / 2 ^ (if bitOf fl 0 then 29 else 11) ≠ 0, reserved),
    (leAt p 8 8 ≠ 0, reserved), ((p.drop (16 + dlcLength (bitOf fl 1) (byteAt p 3))).any (· ≠ 0), reserved),
    (bitOf fl 5 || bitOf fl 4 || (bitOf fl 1 && canPrm s c Prm.canFd = 0), argReply command 2), (15 < byteAt p 3, argReply command 3)]

/-- The next handle: not zero and of no entry queued (R493). -/
def freshHandle (c : Can) : Nat :=
  (((List.range 40).map (fun i => (c.next + i) % 65536)).find? (fun h => h ≠ 0 && (queuedEntry c h).isNone)).getD 1

/-- A common guard of the CAN commands: the function runs. -/
def canStopped (s : State) (c : Nat) : Bool := stopped s (0x0F + c)

/-- CAN_TX's handler (R490, R492, R493, R497). -/
def canTxHandler (c : Nat) (r : Request) : State → Answer × State :=
  withLength 80 (fun p s =>
    let x := canOf s c
    let express := bitOf (byteAt p 2) 6
    match txBadField s c r.command p with
    | some b => refuse b s
    | none =>
      if canStopped s c then refuse (guardReply Ev.functionStopped) s
      else if c = 0 && mapMode s then refuse (guardReply Ev.frMap) s
      else if express && x.express.isSome then refuse (guardReply (canEv c Ev.expressBusy)) s
      else if !express && 32 ≤ x.tx.length then refuse (guardReply (canEv c Ev.txFull)) s
      else
        let h := freshHandle x
        let e : CanTxEntry := ⟨h, frameOf p⟩
        answerWith (doneWith (.bytes (leBytes 2 h)))
          (setCan c (fun y => { y with next := (h + 1) % 65536, settled := y.settled.filter (·.1 ≠ h),
                                       express := if express then some e else y.express,
                                       tx := if express then y.tx else y.tx ++ [e] }) s)) r

/-- CAN_TX. -/
def execCanTx (t m : Nat) (s : State) : Host.Outcome State Fault Refusal := timed t (serveCan m 0x11 canTxHandler) s

/-- CAN_TX_CANCEL's handler (R491): PENDING while the entry's attempt is on the bus. A handle that is sent already is TOO_LATE. -/
def canCancelHandler (m c : Nat) (r : Request) : State → Answer × State :=
  withLength 2 (fun p s =>
    let x := canOf s c
    let h := leAt p 0 2
    if x.onBus.map (·.1) == some h then
      if x.cancel.isSome then refuse (guardReply Ev.functionBusy) s
      else (.goesOn, setCan c (fun y => { y with cancel := some m }) s)
    else if (queuedEntry x h).isSome then ok (setCan c (settle h none) s)
    else match x.settled.find? (·.1 = h) with
      | some (_, some _) => refuse { status := .tooLate } s
      | _ => refuse (argReply r.command 0) s) r

/-- CAN_TX_CANCEL. -/
def execCanTxCancel (t m : Nat) (s : State) : Host.Outcome State Fault Refusal := timed t (serveCan m 0x12 (canCancelHandler m)) s

/-- What CAN_TX_QUERY says of a handle. -/
def txState (x : Can) (h : Nat) : Payload :=
  if x.onBus.map (·.1) == some h then .fields [("on the bus", [])]
  else if (queuedEntry x h).isSome then .fields [("queued", [])]
  else match x.settled.find? (·.1 = h) with
    | some (_, some a) => .fields [("sent", [(a : Int)])]
    | some (_, none) => .fields [("cancelled", [])]
    | none => .fields [("unknown", [])]

/-- CAN_TX_QUERY. -/
def execCanTxQuery (t m : Nat) (s : State) : Host.Outcome State Fault Refusal :=
  timed t (serveCan m 0x13 (fun c => withLength 2 (fun p s => okWith (txState (canOf s c) (leAt p 0 2)) s))) s

/-- A receive entry's bytes. -/
def rxBytes (e : CanRxEntry) : List Byte := entryBytes e.seq (frameFlags e.frame e.overrun) e.time e.frame

/-- CAN_RX_READ (R495): the oldest unreleased entries, which stay. -/
def execCanRxRead (t m : Nat) (s : State) : Host.Outcome State Fault Refusal :=
  timed t (serveCan m 0x14 (fun c r => withLength 1 (fun p s =>
    if byteAt p 0 = 0 || 14 < byteAt p 0 then refuse (argReply r.command 0) s
    else okWith (.bytes (((canOf s c).rx.take (byteAt p 0)).flatMap rxBytes)) s) r)) s

/-- Release every entry up to and including a sequence; none when it is not held. -/
def releaseTo (seq : Nat) : List CanRxEntry → Option (List CanRxEntry)
  | [] => none
  | e :: l => if e.seq = seq then some l else releaseTo seq l

/-- CAN_RX_RELEASE (R495). -/
def execCanRxRelease (t m : Nat) (s : State) : Host.Outcome State Fault Refusal :=
  timed t (serveCan m 0x15 (fun c r => withLength 2 (fun p s =>
    match releaseTo (leAt p 0 2) (canOf s c).rx with
    | some l => ok (setCan c (fun x => { x with rx := l }) s)
    | none => refuse (argReply r.command 0) s) r)) s

/-- CAN_RECOVER (R492): refused when not bus-off. -/
def execCanRecover (t m : Nat) (s : State) : Host.Outcome State Fault Refusal :=
  timed t (serveCan m 0x16 (fun c => withLength 0 (fun _ s =>
    if (canOf s c).bus == .off then ok (setCan c (fun x => { x with bus := .recovering, recoverAt := s.now }) s) else refuse (causeReply .refusedGuard 0) s))) s

/-- Code of a bus state. -/
def CanBus.code : CanBus → Nat
  | .active => 0 | .passive => 1 | .off => 2 | .recovering => 3

/-- CAN_STATUS fields. -/
def canStatus (c : Nat) (s : State) : Payload :=
  let x := canOf s c
  .fields ([("bus", [(x.bus.code : Int)]), ("errors", [(x.tec : Int), x.rec_]),
    ("sample points", [((achieved (canPrm s c Prm.canNbr) 8 80 (canPrm s c Prm.canNsp) : Nat) : Int),
      (achieved (canPrm s c Prm.canDbr) 5 40 (canPrm s c Prm.canDsp) : Nat)]),
    ("TRIPLE_IGNORED", [flag (tripleIgnored s c)]), ("occupancy", [(x.tx.length : Int), x.rx.length, flag x.express.isSome]),
    ("RX_OVERRUN", [(x.overrun : Int)])] ++
    if mapMode s && c = 0 then [("map", [(x.mapTx : Int), x.mapRx, x.mapIgnored])] else [])

/-- CAN_STATUS. -/
def execCanStatus (t m : Nat) (s : State) : Host.Outcome State Fault Refusal :=
  timed t (serveCan m 0x10 (fun c => statusHandler (canStatus c))) s

/-! ## The forerunner map (R497 to R499) -/

/-- Extreme of a list of values with their indices: `up` for the highest; of equals the first. -/
def extremeOf (up : Bool) (l : List (Int × Nat)) : Option (Int × Nat) :=
  l.foldl (fun b x => match b with
    | none => some x
    | some y => if (up && y.1 < x.1) || (!up && x.1 < y.1) then some x else b) none

/-- Fitted cells' voltages with their indices. -/
def cellVolts (s : State) : List (Int × Nat) := (fittedCells s).filterMap (fun c => (cellOf s c).v.map (fun v => (v, c)))

/-- Cell temperatures of the fitted taps with their indices. -/
def mapTemps (s : State) : List (Int × Nat) :=
  (List.range 256).filterMap (fun i =>
    if i % 128 / 8 + 1 ≤ tapCount s (i / 128) then (s.rings.temps.getD i none).map (fun v => (v, i)) else none)

/-- States of charge of the fitted cells, Q15. -/
def cellSocs (s : State) : List Int := (fittedCells s).map (fun c => clampTo 0 32767 (roundDiv ((ctxOf s c).soc * 32768) q80))

/-- The data bytes of map frame B + k, k from 0 to 4 (R497). -/
def mapBytes (s : State) (k : Nat) (vStr : Option Int) : List Byte :=
  let cell (up : Bool) : List Byte := match extremeOf up (cellVolts s) with
    | some (v, c) => leBytes 2 (codeCell (some v)) ++ leBytes 2 c
    | none => leBytes 2 0xFFFF ++ leBytes 2 0
  let temp (up : Bool) : List Byte := match extremeOf up (mapTemps s) with
    | some (v, i) => leBytes 2 (codeS16 (some v)) ++ leBytes 1 i
    | none => leBytes 2 0x8000 ++ leBytes 1 0
  match k with
  | 0 =>
    leBytes 1 s.core.mode.code ++
    leBytes 1 (bit (s.core.mode == .tripped) 0 + bit ((coil s 0).kf && (coil s 1).kf) 1 + bit (pairMode s && claimsActive s) 2 +
      bit (sensorCap s < 0x7FFF) 3) ++
    leBytes 2 (codeS16 vStr) ++ leBytes 2 (codeS16 (stringCurrent s)) ++ leBytes 1 s.ctrl.win ++ leBytes 1 (canOf s 0).mapStatus.code
  | 1 => cell true ++ cell false
  | 2 => temp true ++ temp false ++ leBytes 2 (codeS16 ((tsMax s.thm.ts).map (·.1)))
  | 3 =>
    let l := cellSocs s
    leInt 2 s.ctrl.ceil.1 ++ leInt 2 s.ctrl.ceil.2 ++ leInt 2 (if l.isEmpty then 0xFFFF else roundDiv (l.foldl (· + ·) 0) l.length) ++
      leInt 2 (l.min?.getD 0xFFFF)
  | _ =>
    let page := (canOf s 0).page
    leBytes 1 page ++ (List.range 3).flatMap (fun i =>
      let c := 3 * page + i
      leBytes 2 (if c < 512 && cellFitted s c then codeCell (cellOf s c).v else 0xFFFF)) ++ [0]

/-- A classical 11-bit frame of 8 bytes. -/
def mapFrame (id : Nat) (b : List Byte) : CanFrame := ⟨id, false, false, false, false, false, 8, b⟩

/-- Period of map frame B + k; the 171 pages of a second are evenly spaced (R497). -/
def mapPeriod (k : Nat) : Nat := [ms 100, ms 100, sec 1, ms 100, sec 1 / 171].getD k 0

/-- FR_MAP_SEND (R497, R499): map frame B + k falls due, with the string voltage as measured; the module whose claim role is 8, or a
single module, sends it. -/
def execFrMapSend (t k : Nat) (vStr : Option Int) (s : State) : Host.Outcome State Fault Refusal :=
  timed t (fun s =>
    if mapMode s && claimsActive s && canSends s 0 && k < 5 && dueAfter s ((canOf s 0).mapAt.getD k none) (mapPeriod k) then
      let b := mapBytes s k vStr
      let s := emit (.can 1 (mapFrame (prmN s Prm.frBaseId + k) b)) s
      setCan 0 (fun x => { x with mapTx := (x.mapTx + 1) % 2 ^ 32, mapAt := x.mapAt.set k (some s.now), page := if k = 4 then (x.page + 1) % 171 else x.page }) s
    else s) s

/-- A set-point frame's fields are as R497 lists them. -/
def setPointFormed (d : List Byte) : Bool := d.length == 8 && byteAt d 1 == 0 && leAt d 5 3 == 0

/-- The status that a map set-point gives (R498): an immediate SP_SET from source bit 8, mode and values checked in the order of
13 R382. -/
def mapSetPoint (d : List Byte) (s : State) : Status × State :=
  match checkMode s Cmd.spSet with
  | some r => (r.status, { s with disp.lastReject := r.status })
  | none =>
    if !setPointFormed d || 1 < byteAt d 0 || leAt d 2 2 = 0x8000 then (.badArgument, { s with disp.lastReject := .badArgument })
    else
      let p := noteReject (decidePoint Cmd.spSet ⟨byteAt d 0, false, false, none, signedOf 16 (leAt d 2 2), 0, 8⟩ s)
      (p.1.status, p.2)

/-- A map frame from the plant is acted on: its counter is new, and this module acts for the string (R498, R499). -/
def mapActs (s : State) (last : Option Nat) (counter : Nat) : Bool := claimsActive s && last ≠ some counter

/-- Count a map frame from the plant. -/
def countMap (s : State) (acts : Bool) : State :=
  if acts then setCan 0 (fun x => { x with mapRx := (x.mapRx + 1) % 2 ^ 32 }) s
  else if claimsActive s then setCan 0 (fun x => { x with mapIgnored := (x.mapIgnored + 1) % 2 ^ 32 }) s
  else s

/-- FR_SETPOINT_FRAME (R498): the data of a B + 0x10 frame. -/
def execFrSetpointFrame (t : Nat) (d : List Byte) (s : State) : Host.Outcome State Fault Refusal :=
  timed t (fun s =>
    if !mapMode s || !canHears s 0 then s
    else
      let counter := byteAt d 4
      let acts := mapActs s (canOf s 0).ctr10 counter
      let s := countMap (setCan 0 (fun x => { x with ctr10 := some counter }) s) acts
      if acts then
        let p := mapSetPoint d s
        setCan 0 (fun x => { x with mapStatus := p.1, mapCmd := Cmd.spSet }) p.2
      else s) s

/-- Command and payload of a map command byte (R497). -/
def mapCommand (b : Nat) : Option (Nat × List Byte) := match b with
  | 1 => some (Cmd.connect, [5])
  | 2 => some (Cmd.connect, [4])
  | 3 => some (Cmd.disconnect, [])
  | 4 => some (Cmd.run, [])
  | 5 => some (Cmd.hold, [])
  | _ => none

/-- Handler of a map command; number 8 stands for the map in place of a mailbox. -/
def mapHandler (cmd : Nat) (vStr vLnk : Int) : Request → State → Answer × State :=
  if cmd = Cmd.connect then connectHandler 8 vStr vLnk
  else if cmd = Cmd.disconnect then disconnectHandler 8
  else if cmd = Cmd.run then runHandler
  else holdHandler 8

/-- Note the status of a map command. -/
def noteMap (cmd : Nat) (st : Status) (s : State) : State := setCan 0 (fun x => { x with mapStatus := st, mapCmd := cmd }) s

/-- A map command with operator role, checked as its mailbox command is (R498, 13 R382). -/
def mapExec (d : List Byte) (vStr vLnk : Int) (s : State) : State := match mapCommand (byteAt d 0) with
  | none => noteMap 0 .badArgument s
  | some (cmd, p) =>
    if prm s Prm.frCmdEnable ≠ 1 then noteMap cmd .refusedGuard (record Ev.frMap 3 [(cmd : Int), Status.refusedGuard.code] s)
    else if d.length ≠ 8 || leAt d 2 6 ≠ 0 then noteMap cmd .badArgument s
    else match checkMode s cmd with
      | some r => noteMap cmd r.status s
      | none =>
        let q := mapHandler cmd vStr vLnk ⟨cmd, 0, 0, 0, p.length, p, [], false⟩ (noteMap cmd .pending s)
        match q.1 with
        | .goesOn => q.2
        | .ends r => noteMap cmd r.status q.2

/-- FR_COMMAND_FRAME (R498): the data of a B + 0x11 frame, with HVS-STR and HVS-LNK as averaged over the last 1 ms. -/
def execFrCommandFrame (t : Nat) (d : List Byte) (vStr vLnk : Int) (s : State) : Host.Outcome State Fault Refusal :=
  timed t (fun s =>
    if !mapMode s || !canHears s 0 then s
    else
      let counter := byteAt d 1
      let acts := mapActs s (canOf s 0).ctr11 counter
      let s := countMap (setCan 0 (fun x => { x with ctr11 := some counter }) s) acts
      if acts then mapExec d vStr vLnk s else s) s

/-! ## TW-SVC (R500 to R507) -/

/-- Change TW-SVC. -/
def setSvc (g : TwSvc → TwSvc) (s : State) : State := { s with bus.svc := g s.bus.svc }

/-- TW-SVC serves its address: every state but Off (R504), unless the function is stopped. -/
def svcAlive (s : State) : Bool := s.core.mode != .shelf && !s.core.booting && !s.thm.held && running s 0x12

/-- The buffer page byte at a window offset from 0x40. -/
def pageByte (x : TwSvc) (i : Nat) : Byte := (if x.buf = 0 then x.req else x.rsp).getD (192 * x.page + (i - 64)) 0

/-- STATUS of the window (R502). -/
def windowStatus (s : State) : Nat :=
  bit (s.bus.svc.attn ≠ 0) 3 + bit (s.core.mode == .tripped) 2 + bit ((mbxOf s 7).phase == .pending) 1 + bit s.bus.svc.ready 0

/-- A byte of the window (R502). -/
def windowByte (s : State) (i : Nat) : Byte :=
  let x := s.bus.svc
  if 64 ≤ i then pageByte x i
  else BitVec.ofNat 8 ([0x44, 0x58, 0x01, windowStatus s, s.core.mode.code, x.page, x.buf, 0, x.reqLen % 256, x.reqLen / 256,
    x.rspLen % 256, x.rspLen / 256, 0, x.bell].getD i 0)

/-- TW_ADDRESS_MATCH (R504, R501, R505): an address byte on the bus; a read transfer gives the number of bytes read. The match
wakes the module's clocks; SCL is stretched until they run. -/
def execTwAddressMatch (t addr : Nat) (read : Option Nat) (s : State) : Host.Outcome State Fault Refusal :=
  timed t (fun s =>
    if !svcAlive s then s
    else if addr ≠ s.bus.svc.addr then setSvc (fun x => { x with selected := false, refuse := false }) s
    else
      let s := setIsland 10 (fun i => { i with sleep := .awake, wakeAt := none }) s
      match read with
      | none => setSvc (fun x => { x with selected := true, ptrNext := true, refuse := false }) s
      | some n =>
        let p := s.bus.svc.ptr
        let s := emit (.window ((List.range n).map (fun i => windowByte s ((p + i) % 256)))) s
        setSvc (fun x => { x with selected := true, ptrNext := false, refuse := false, ptr := (p + n) % 256 }) s) s

/-- READ on mailbox 7 (R503): the response is copied into the response buffer; a changed TW_SVC_ADDR applies once the response to
its COMMIT has been fetched (R510). -/
def bellRead (s : State) : State :=
  let b := mbxOf s 7
  let p := readMailbox 7 s
  let l := responseBytes p.1
  let fetched := b.phase == .holding && (b.req.map (fun r => (r.command, byteAt r.payload 0))) == some (Cmd.commit, 0x12)
  setSvc (fun x => { x with rsp := l ++ x.rsp.drop l.length, rspLen := l.length, ready := false, bell := 0,
                            addr := if fetched then prmN s Prm.twSvcAddr else x.addr }) p.2

/-- REQUEST on mailbox 7 (R503; 13 R377, R378). -/
def bellRequest (s : State) : State :=
  let x := s.bus.svc
  if x.reqLen < 8 || 1204 < x.reqLen then discardEnvelope 7 (setSvc (fun x => { x with bell := 1 }) s)
  else if (mbxOf s 7).phase == .pending then setSvc (fun x => { x with bell := 2 }) s
  else
    let body := x.req.take x.reqLen
    let s := setSvc (fun x => { x with bell := 0 }) { s with core.quietSince := s.now }
    if isRepeat (mbxOf s 7) (parseRequest body) then bellRead s
    else (requestOn 7 body (bindTo .tw 7 s)).2

/-- ACK on mailbox 7 (R503; 13 R380). -/
def bellAck (s : State) : State :=
  if s.bus.svc.reqLen ≠ 2 then discardEnvelope 7 (setSvc (fun x => { x with bell := 1 }) s)
  else ackMailbox 7 (leAt s.bus.svc.req 0 2) (setSvc (fun x => { x with bell := 0 }) s)

/-- An OP written to DOORBELL (R503); an unknown one is discarded and counted (13 R372). -/
def doorbell (op : Nat) (s : State) : State :=
  if !mbxServed s 7 then s
  else match op with
    | 1 => bellRequest s
    | 2 => bellRead s
    | 3 => bellAck s
    | _ => discardEnvelope 7 s

/-- Write a byte at the pointer (R501, R502). PAGE above 6 and BUF above 1 leave an open value in range. -/
def writeAt (i : Nat) (v : Byte) (s : State) : State :=
  let n := v.toNat
  let x := s.bus.svc
  if i = 5 then setSvc (fun x => { x with page := if n ≤ 6 then n else (Config.openValue "PAGE" [(n : Int)]).toNat % 7 }) s
  else if i = 6 then setSvc (fun x => { x with buf := if n ≤ 1 then n else (Config.openValue "BUF" [(n : Int)]).toNat % 2 }) s
  else if i = 8 then setSvc (fun x => { x with reqLen := x.reqLen / 256 * 256 + n }) s
  else if i = 9 then setSvc (fun x => { x with reqLen := x.reqLen % 256 + 256 * n }) s
  else if i = 12 then doorbell n s
  else if 64 ≤ i then
    let j := 192 * x.page + (i - 64)
    if x.buf = 0 then setSvc (fun x => { x with req := x.req.set j v }) s else setSvc (fun x => { x with rsp := x.rsp.set j v }) s
  else setSvc (fun x => { x with roWrite := (x.roWrite + 1) % 2 ^ 32 }) s

/-- One data byte of a write transfer (R501): the first sets the pointer, each further one is written there and the pointer
advances. A byte that is not acknowledged has no effect and ends the transfer (R504). -/
def writeByte (s : State) (v : Byte) : State :=
  let x := s.bus.svc
  if !x.selected then s
  else if x.refuse then setSvc (fun x => { x with refuse := false, selected := false }) s
  else if x.ptrNext then setSvc (fun x => { x with ptr := v.toNat, ptrNext := false }) s
  else
    let s := setSvc (fun x => { x with ptr := (x.ptr + 1) % 256 }) s
    writeAt x.ptr v s

/-- TW_WINDOW_WRITE (R501): the next data bytes of the write transfer in progress. -/
def execTwWindowWrite (t : Nat) (b : List Byte) (s : State) : Host.Outcome State Fault Refusal :=
  timed t (fun s => if svcAlive s then b.foldl writeByte s else s) s

/-- A byte written to DOORBELL: the pointer stands there in a write transfer. -/
def ringBell (op : Byte) (s : State) : State :=
  let x := s.bus.svc
  if svcAlive s && x.selected && !x.ptrNext && x.ptr = 12 then writeByte s op else s

/-- TW_DOORBELL_REQUEST (R503). -/
def execTwDoorbellRequest (t : Nat) (s : State) : Host.Outcome State Fault Refusal := timed t (ringBell 1) s

/-- TW_DOORBELL_READ (R503). -/
def execTwDoorbellRead (t : Nat) (s : State) : Host.Outcome State Fault Refusal := timed t (ringBell 2) s

/-- TW_DOORBELL_ACK (R503). -/
def execTwDoorbellAck (t : Nat) (s : State) : Host.Outcome State Fault Refusal := timed t (ringBell 3) s

/-- TW_TRANSFER_ABORT (R505): the partial byte is discarded, the pointer stays, what was acknowledged stands. -/
def execTwTransferAbort (t : Nat) (s : State) : Host.Outcome State Fault Refusal :=
  timed t (setSvc (fun x => { x with selected := false, refuse := false })) s

/-- TW_LATE (R504): a byte of the transfer was not served within 2 ms: the next written byte is not acknowledged, or a read byte
is 0xFF. -/
def execTwLate (t : Nat) (reading : Bool) (s : State) : Host.Outcome State Fault Refusal :=
  timed t (fun s =>
    if !svcAlive s || !s.bus.svc.selected then s
    else
      let s := setSvc (fun x => { x with late := (x.late + 1) % 2 ^ 32 }) s
      if reading then emit (.window [0xFF]) s else setSvc (fun x => { x with refuse := true }) s) s

/-- The attention message (R506). -/
def attnBytes (s : State) : List Byte :=
  let a := s.bus.svc.addr % 128
  let c := s.bus.svc.attn % 8
  let m := s.core.mode.code
  (leBytes 1 a ++ leBytes 1 c ++ leBytes 1 m) ++ leBytes 1 (Nat.xor (Nat.xor (Nat.xor a c) m) 0xA5)

/-- An attempt at the attention message: delivered (0), arbitration lost (1), a byte not acknowledged (2) (R507). -/
def attempt (outcome : Nat) (s : State) : State :=
  let s := emit (.twoWire 2 (prmN s Prm.twAttnAddr) (attnBytes s)) s
  match outcome with
  | 0 => setSvc (fun x => { x with attn := 0, attnAt := none, selected := false }) s
  | 1 => setSvc (fun x => { x with attnAt := none, selected := false }) s
  | _ => setSvc (fun x => { x with attnAt := some (s.now + ms (prmN s Prm.twAttnRetry)), retries := (x.retries + 1) % 2 ^ 32,
                                   selected := false }) s

/-- An attention message may be sent: causes wait, an address is set, the function runs. -/
def attnDue (s : State) : Bool := svcAlive s && s.bus.svc.attn ≠ 0 && prmN s Prm.twAttnAddr ≠ 0

/-- TW_ATTENTION (R506, R507): the bus is free and the module writes the message; `outcome` says how it ends. -/
def execTwAttention (t outcome : Nat) (s : State) : Host.Outcome State Fault Refusal :=
  timed t (fun s => if attnDue s && s.bus.svc.attnAt.isNone then attempt outcome s else s) s

/-- TW_ATTN_RETRY (R507): TW_ATTN_RETRY after a refused byte the message is tried again. -/
def execTwAttnRetry (t outcome : Nat) (s : State) : Host.Outcome State Fault Refusal :=
  timed t (fun s => if attnDue s && heldOpt s s.bus.svc.attnAt 0 then attempt outcome s else s) s

/-- TW_SVC_STATUS. -/
def execTwSvcStatus (t m : Nat) (s : State) : Host.Outcome State Fault Refusal :=
  timed t (serve m Cmd.twSvcStatus (statusHandler (fun s =>
    .fields [("address", [(s.bus.svc.addr : Int)]), ("attention", [(s.bus.svc.attn : Int), s.bus.svc.retries]),
      ("TW_LATE", [(s.bus.svc.late : Int)]), ("TW_RO_WRITE", [(s.bus.svc.roWrite : Int)])]))) s

/-! ## TW-ACC (R508, R509) -/

/-- Change TW-ACC. -/
def setAcc (g : TwAcc → TwAcc) (s : State) : State := { s with bus.acc := g s.bus.acc }

/-- TW_BUS_CLEAR (R509): SDA is low before a transfer, or 1 s has passed while stuck; `high` is the pulse after which SDA reads
high, none when it is still low after the ninth. -/
def execTwBusClear (t : Nat) (high : Option Nat) (s : State) : Host.Outcome State Fault Refusal :=
  timed t (fun s =>
    let x := s.bus.acc
    let due := if x.stuck then heldFor s x.clearAt (sec 1) else x.clearDue
    if !due || s.core.mode == .shelf || s.core.booting || s.thm.held || !running s 0x11 then s
    else
      let n := (high.filter (· ≤ 9)).getD 9
      let free := (high.map (fun k => decide (k ≤ 9))).getD false
      let s := emit (.pulse "TW-ACC SCL" (n * us 100)) s
      let s := if free || x.stuck then s else record Ev.busStuck 3 [] s
      setAcc (fun x => { x with stuck := !free, clearDue := !free, clearAt := s.now, clears := (x.clears + 1) % 2 ^ 32 }) s) s

/-- TW_ACC_XFER's handler (R508): `nack` is the byte count reached when an address or byte was not acknowledged, `stretch` the
longest time a target held SCL in ns, `rd` the bytes read. -/
def xferHandler (nack : Option Nat) (stretch : Nat) (rd : List Byte) (r : Request) (s : State) : Answer × State :=
  let p := r.payload
  let w := byteAt p 1
  if p.length < 3 || p.length ≠ 3 + w then refuse lengthReply s
  else if 127 < byteAt p 0 then refuse (argReply r.command 0) s
  else if 64 < w then refuse (argReply r.command 1) s
  else if 64 < byteAt p 2 then refuse (argReply r.command 2) s
  else if stopped s 0x11 then refuse (guardReply Ev.functionStopped) s
  else if s.bus.acc.stuck then refuse (guardReply Ev.busStuck) s
  else
    let s := emit (.twoWire 1 (byteAt p 0) (match nack with
      | some n => (p.drop 3).take n
      | none => p.drop 3)) s
    if ms (prmN s Prm.twAccStretchMax) < stretch then
      answerWith (causeReply .execFault Ev.twTimeout) (setAcc (fun x => { x with timeouts := (x.timeouts + 1) % 2 ^ 32, clearDue := true }) s)
    else match nack with
      | some n =>
        answerWith { causeReply .execFault Ev.twNack with payload := .fields [("byte count", [(n : Int)])] }
          (setAcc (fun x => { x with nacks := (x.nacks + 1) % 2 ^ 32, clearDue := false }) s)
      | none => answerWith (doneWith (.bytes (fixLen (byteAt p 2) rd))) (setAcc (fun x => { x with clearDue := false }) s)

/-- TW_ACC_XFER. -/
def execTwAccXfer (t m : Nat) (nack : Option Nat) (stretch : Nat) (rd : List Byte) (s : State) : Host.Outcome State Fault Refusal :=
  timed t (serve m Cmd.twAccXfer (xferHandler nack stretch rd)) s

/-- TW_ACC_STATUS. -/
def execTwAccStatus (t m : Nat) (s : State) : Host.Outcome State Fault Refusal :=
  timed t (serve m Cmd.twAccStatus (statusHandler (fun s =>
    .fields [("BUS_STUCK", [flag s.bus.acc.stuck]), ("clears", [(s.bus.acc.clears : Int)]),
      ("faults", [(s.bus.acc.nacks : Int), s.bus.acc.timeouts])]))) s

end Sys2Proof.Machine
end

