-- ==== Sys2Proof/Machine/Functions.lean ====
section
/-!
DEFINITION. Machine/Functions.lean: STOP, RESTART and COMMIT of every function, with the cross-parameter rules of the chapters
(13 R389 to R394, R401; 02 R57, R567; 03 R103; 04 R122; 05 R137, R140, R152, R155; 06 R197; 07 R231; 08 R252; 09 R290, R291;
10 R312; 11 R337; 12 R366, R367; 15 R460; 16 R485; 17 R489, R497, R512).
-/

namespace Sys2Proof.Machine

open Sys2Proof

/-! ## STOP (13 R390) -/

/-- The island that stands still while a function is stopped: ring, planes, recorder (01 R18). -/
def stoppedIsland (f : Nat) : Option Nat := match f with
  | 0x01 => some 4
  | 0x0C => some 2
  | 0x0D => some 3
  | 0x13 => some 9
  | _ => none

/-- A STOP of balancing that waited for its BAL_STOP ends with the ring function: its leases lapse (02 R82). -/
def balStopLapses (s : State) : State :=
  if s.rings.balStopMb.isSome then
    finishJob s.rings.balStopMb 0x0201 doneReply
      (setFn 2 (fun x => { x with state := .stopped, busy := none }) { s with rings.balStopMb := none })
  else s

/-- Bring a function to its stopped state at once. -/
def stopNow (f : Nat) (s : State) : State :=
  let s := setFn f (fun x => { x with state := .stopped, busy := none }) (haltFunction f s)
  let s := if f = 1 then balStopLapses { s with rings.enumDue := [false, false] } else s
  match stoppedIsland f with
  | some k => flushCrossings k s
  | none => s

/-- STOP has begun and ends later. -/
def stopLater (m f : Nat) (s : State) : State := setFn f (fun x => { x with state := .stopping, busy := some m }) s

/-- The guard of a STOP: a path it would remove, the ring with contactors closed (12 R366, R367). -/
def stopGuard (s : State) (m f : Nat) : Option Reply :=
  if f = 0x12 && m = 7 then some (causeReply .refusedGuard 0)
  else if f = 1 && stringConnected s && !s.pair.standby then some (guardReply Ev.contactors)
  else commonGuard s f m false

/-- STOP's handler: balancing waits for its BAL_STOP (03 R101), a CAN function for the frame on the bus (17 R510), the update
function for the step in progress (19 R546). -/
def stopHandler (m f : Nat) : Request → State → Answer × State :=
  withLength 0 (fun _ s =>
    if stopped s f then ok s
    else match stopGuard s m f with
      | some g => refuse g s
      | none =>
        if f = 2 && running s 1 && s.rings.ring.any (·.up) then
          (.goesOn, haltFunction 2 { stopLater m 2 s with rings.balStopMb := some m })
        else if f = 0x14 then (.goesOn, stepEnded (haltFunction 0x14 (stopLater m 0x14 s)))
        else if (f = 0x0F || f = 0x10) && (canOf s (f - 0x0F)).onBus.isSome then (.goesOn, stopLater m f s)
        else ok (stopNow f s))

/-- STOP (13 R390). -/
def execStop (t m : Nat) (s : State) : Host.Outcome State Fault Refusal := timed t (serveCommon m 1 (stopHandler m)) s

/-! ## The staged set in force (13 R391) -/

/-- Put one value in force. -/
def putParam (id : Nat) (v : Int) (s : State) : State :=
  { s with mbx.params := assocSet s.mbx.params id (if v = paramDefault id && id ≠ Prm.safeEditSet then none else some v) }

/-- An ID of the safety set (09 R289). -/
def inSafetySet (id : Nat) : Bool := 0x0801 ≤ id && id ≤ 0x080F

/-- Write staged values into the edited safety set, with a new CRC and as unconfirmed (09 R290). -/
def writeSet (k : Nat) (vals : List (Nat × Int)) (s : State) : State :=
  { s with saf.sets := s.saf.sets.modify k (fun (x : SafetySet) =>
      { x with vals := vals.foldl (fun l e => l.set (e.1 - 0x0801) e.2) x.vals, crcBad := false, confirmed := false }) }

/-- All staged values of a function come into force together; a staged SAFE_EDIT_SET names the set that is written. -/
def putStaged (f : Nat) (s : State) : State :=
  let l := (fnOf s f).staged
  let s := eachDo (l.filter (fun e => !inSafetySet e.1)) (fun e s => putParam e.1 e.2 s) s
  let set := l.filter (fun e => inSafetySet e.1)
  if set.isEmpty then s else writeSet (prmN s Prm.safeEditSet) set s

/-! ## Cross-parameter rules -/

/-- A broken rule and the parameter it names. -/
def rule (bad : Bool) (id : Nat) : Option Nat := if bad then some id else none

/-- The first broken rule. -/
def firstRule (l : List (Bool × Nat)) : Option Nat := l.findSome? (fun e => rule e.1 e.2)

/-- SVC_IP and SVC_GATEWAY against the mask (13 R401); STRING_ADDR is not NODE_ADDR (15 R460). -/
def coreRule (s : State) : Option Nat :=
  let mask := ipNumber (prm s Prm.svcNetmask)
  let ip := ipNumber (prm s Prm.svcIp)
  let gw := ipNumber (prm s Prm.svcGateway)
  let net (a : Nat) : Nat := Nat.land a mask
  let edge (a : Nat) : Bool := a == net a || a == net a + (2 ^ 32 - 1 - mask)
  firstRule [(edge ip, Prm.svcIp), (gw ≠ 0 && (net gw ≠ net ip || edge gw || gw == ip), Prm.svcGateway),
    (prmN s Prm.stringAddr ≠ 0 && prmN s Prm.stringAddr = prmN s Prm.nodeAddr, Prm.stringAddr)]

/-- The sweep period against the transfer bound of the largest tap count (02 R57, 01 R24). -/
def ringRule (s : State) : Option Nat :=
  let n := (s.rings.ring.map (fun (x : Ring) => x.n.getD 0)).foldl max (max (prmN s Prm.tapsA) (prmN s Prm.tapsB))
  rule (prmN s Prm.sweepPeriod < 30 + 23 * n + 60) Prm.sweepPeriod

/-- The used points of a T_INT calibration block (05 R155). -/
def calPoints (b : List Byte) : List (Int × Int) :=
  (List.range (byteAt b 897)).map (fun i => (s16 b (900 + 4 * i), s16 b (902 + 4 * i)))

/-- Every neighbouring pair of a list meets a relation. -/
def chainAll {α : Type} (r : α → α → Bool) (l : List α) : Bool := (l.zip (l.drop 1)).all (fun p => r p.1 p.2)

/-- A staged chemistry set may come into force (04 R122, 05 R155). -/
def chemGood (b : List Byte) : Bool :=
  let pts := calPoints b
  chemUsable b && chainAll (fun x y => decide (x ≤ y)) ((List.range 64).map (fun i => u16 b (28 + 2 * i))) &&
  chainAll (fun (x y : Int) => decide (x < y)) ((List.range 8).map (fun r => rcField b r 0)) &&
  14 ≤ tTone b && tTone b ≤ 21 && 2 ≤ byteAt b 897 && byteAt b 897 ≤ 7 && chainAll (fun x y => decide (x.1 < y.1)) pts &&
  (chainAll (fun x y => decide (x.2 < y.2)) pts || chainAll (fun x y => decide (y.2 < x.2)) pts)

/-- Staged chemistry sets, which a RESTART alone brings into force; no parameter is concerned, so the answer names the function's
first (04 R122). -/
def chemRule (s : State) : Option Nat :=
  rule (!running s 3 && s.est.chemStaged.any (fun c => (c.map (fun b => !chemGood b)).getD false)) Prm.chemActive

/-- The spectrum set (05 R137) and, at RESTART, the window rule; a COMMIT may break it, on which windows are skipped (05 R140). -/
def impedanceRule (s : State) : Option Nat :=
  let v := prmN s Prm.impSpectrumSet
  let l := ((List.range 4).map (fun k => v / 256 ^ k % 256)).filter (· ≠ 255)
  let ratio (a b : Nat) : Bool := toneFreq a == 2 * toneFreq b || toneFreq a == 3 * toneFreq b
  let bad := l.isEmpty || !l.Nodup || (3 < (l.filter (· ≠ tTone (activeSet s))).length) || l.any (fun a => l.any (ratio a))
  firstRule [(bad, Prm.impSpectrumSet), (!running s 4 && !spectrumFits s, Prm.tIntHold)]

/-- Cell voltage limits against the effective thresholds, and the link limits (06 R197, 02 R567). -/
def controlRule (s : State) : Option Nat :=
  let e := effThresholds s
  firstRule [((e.map (fun x => decide ((x.1 : Int) < prm s Prm.cellVChgMax + 500))).getD false, Prm.cellVChgMax),
    ((e.map (fun x => decide (prm s Prm.cellVDisMin < (x.2 : Int) + 500))).getD false, Prm.cellVDisMin),
    (decide (prm s Prm.vlinkMax < prm s Prm.vlinkMin + 800), Prm.vlinkMin)]

/-- Number of set bits of PHASE_MASK. -/
def phaseCount (s : State) : Nat := (fittedLanes s).length

/-- Shedding thresholds, and PHASE_I_MAX against 1.2 times the per-phase rating and 20 A (07 R231). -/
def modulatorRule (s : State) : Option Nat :=
  firstRule [(prmN s Prm.shedAdd < prmN s Prm.shedDrop + 3277, Prm.shedDrop),
    (decide (10 * phaseCount s * (prm s Prm.phaseIMax - 1280) < 24 * iRated s), Prm.phaseIMax)]

/-- The edited safety set (09 R291). -/
def safetyRule (s : State) : Option Nat :=
  let v (id : Nat) : Int := (setOf s (prmN s Prm.safeEditSet)).vals.getD (id - 0x0801) 0
  firstRule [(decide (v Prm.safeOcFast < v Prm.safeOcSlow), Prm.safeOcSlow), (decide (v Prm.safeCellOv < v Prm.safeCellUv + 5000), Prm.safeCellUv)]

/-- The temperature windows (11 R337). -/
def thermalRule (s : State) : Option Nat :=
  let top := prm s Prm.safeCellTMax - 200
  firstRule [(decide (prm s Prm.chgTMax < prm s Prm.chgTMin + 1000), Prm.chgTMin), (decide (prm s Prm.disTMax < prm s Prm.disTMin + 1000), Prm.disTMin),
    (decide (top < prm s Prm.chgTMax), Prm.chgTMax), (decide (top < prm s Prm.disTMax), Prm.disTMax)]

/-- Bit rates and, with the map in force, CAN1's rate and CAN_FD (17 R489, R497). -/
def canRule (c : Nat) (s : State) : Option Nat :=
  let id (x : Nat) : Nat := x + 256 * c
  let p (x : Nat) : Nat := prmN s (id x)
  let map := mapMode s && c = 0
  firstRule [((bitTiming (p Prm.canNbr) 8 80).isNone, id Prm.canNbr), ((bitTiming (p Prm.canDbr) 5 40).isNone, id Prm.canDbr),
    (map && !([125000, 250000, 500000].contains (p Prm.canNbr)), id Prm.canNbr), (map && p Prm.canFd = 1, id Prm.canFd)]

/-- The first parameter of a broken cross-parameter rule of a function's chapter, over the values in force. -/
def brokenRule (f : Nat) (s : State) : Option Nat := match f with
  | 0x00 => coreRule s
  | 0x01 => ringRule s
  | 0x02 => rule (prmN s Prm.balLeaseTime < 2 * prmN s Prm.balRenew) Prm.balLeaseTime
  | 0x03 => chemRule s
  | 0x04 => impedanceRule s
  | 0x05 => controlRule s
  | 0x06 => modulatorRule s
  | 0x07 => rule (prmN s Prm.spLeadMin ≤ prmN s Prm.spLateGrace) Prm.spLateGrace
  | 0x08 => safetyRule s
  | 0x09 => rule (preTau s < ms 20 || sec 60 < preTau s) Prm.preRes
  | 0x0A => thermalRule s
  | 0x0E => rule (prmN s Prm.domainBNum = prmN s Prm.domainANum) Prm.domainBNum
  | 0x0F => canRule 0 s
  | 0x10 => canRule 1 s
  | 0x12 => rule (prmN s Prm.twAttnAddr = prmN s Prm.twSvcAddr) Prm.twAttnAddr
  | _ => none

/-- Validation of a function's whole staged set with the values in force (13 R391). -/
def validate (f : Nat) (s : State) : Option Reply :=
  match (fnOf s f).staged.find? (fun e => !inRange e.1 e.2) with
  | some e => some (paramReply .badArgument Ev.paramRange e.1)
  | none => (brokenRule f (putStaged f s)).map (paramReply .badArgument Ev.paramRule)

/-! ## Coming into force (13 R392, R393) -/

/-- NVM takes the values in force; under write-forbid the write waits (13 R393, 11 R329). -/
def storeParams (s : State) : State :=
  if s.thm.forbid then { s with mbx.paramWriteWaits := true } else { s with mbx.nvm := s.mbx.params, mbx.paramWriteWaits := false }

/-- Safety messages start anew from an address that SAFE_MASTERS or PARTNER_ADDR newly names: no reference of it stands (09 R282). -/
def forgetSenders (old s : State) : State :=
  let known := partnerNode old :: masters old
  { s with saf.refs := s.saf.refs.filter (fun r => known.contains r.1) }

/-- What a changed value of a function brings with it, beside its being read from now on (`old` is the state before). -/
def follow (f m : Nat) (old s : State) : State :=
  let changed (id : Nat) : Bool := prm old id ≠ prm s id
  match f with
  | 0x00 =>
    let s := if changed Prm.nodeAddr then { s with fab.nextNode := some (prmN s Prm.nodeAddr) } else s
    if changed Prm.stringAddr then markChanged { s with fab.strWithdrawn := false } else s
  | 0x01 =>
    let s := if changed Prm.ovThreshold || changed Prm.uvThreshold then applyThresholds s else s
    if changed Prm.sweepPeriod then
      judgeSpectrum { s with rings.nextPeriod := some (prmN s Prm.sweepPeriod, nextGrid { s with now := s.now + 1 } (sec 1)) }
    else s
  | 0x03 =>
    let s := if running s 3 then s
      else { s with est.chem := s.est.chem.mapIdx (fun k c => (s.est.chemStaged.getD k none).getD c), est.chemStaged := List.replicate 4 none }
    judgeSpectrum (judgeChem s)
  | 0x04 =>
    let s := if changed Prm.impSpectrumSet then
        { s with est.ctx := s.est.ctx.map (fun (x : Ctx) => { x with z := x.z.mapIdx (fun k y => if k = 0 then y else {}) }) }
      else s
    judgeSpectrum s
  | 0x05 => updateCeil (formKits (judgeEff s))
  | 0x06 => match s.conv.dtStaged with
    | some l => if running s 6 then s else { s with conv.dt := l, conv.dtStaged := none }
    | none => s
  | 0x07 => if regulating old && !regulating s && s.conv.st != .off then gatesOff 0 s else s
  | 0x08 =>
    let x := setOf s s.saf.selected
    let s := if changed Prm.safeMasters then forgetSenders old s else s
    if running s 8 then s else { s with saf.force := if x.crcBad then s.saf.force else x.vals, saf.loaded := !x.crcBad }
  | 0x0B => if changed Prm.partnerAddr then forgetSenders old s else s
  | 0x12 =>
    let s := if m = 7 then s else { s with bus.svc.addr := prmN s Prm.twSvcAddr }
    if prmN s Prm.twAttnAddr = 0 then { s with bus.svc.attn := 0, bus.svc.attnAt := none } else s
  | _ => s

/-- Apply the staged set: in force together, ownership ends, NVM written, recorded (13 R389, R391 to R393). -/
def applyStaged (f m : Nat) (s : State) : State :=
  let l := (fnOf s f).staged
  let n := follow f m s (setFn f dropStaged (putStaged f s))
  let n := storeParams n
  if l.isEmpty then n else record Ev.paramCommit 2 ((f : Int) :: l.map (fun e => (e.1 : Int))) n

/-- LAST_COMMIT and LAST_CAUSE (13 R386). -/
def noteCommit (f : Nat) (r : Reply) (s : State) : State := setFn f (fun x => { x with lastCommit := r.status, lastCause := r.cause }) s

/-- Refuse a RESTART or COMMIT, noting it. -/
def refuseCommit (f : Nat) (r : Reply) (s : State) : Answer × State := refuse r (noteCommit f r s)

/-! ## RESTART (13 R391) -/

/-- RESTART of the ring function goes on until its rings have been enumerated, where this module sweeps them (02 R52). -/
def ringWaits (s : State) : Bool := holdsToken s && !inMode s [.dormant, .shelf] && enumerating s

/-- The function runs with the values in force. -/
def startFunction (f m : Nat) (s : State) : Answer × State :=
  let s := resumeFunction f (setFn f (fun x => { x with state := .running }) s)
  if f = 1 then
    let s := setPeriodic 0 4 (us s.rings.period) 0 s
    if ringWaits s then
      (.goesOn, setFn 1 (fun x => { x with state := .restarting, busy := some m })
        { s with rings.enumDue := [0 < prmN s Prm.tapsA && !(ringOf s 0).up, 0 < prmN s Prm.tapsB && !(ringOf s 1).up] })
    else ok s
  else ok s

/-- RESTART's handler. -/
def restartHandler (m f : Nat) : Request → State → Answer × State :=
  withLength 0 (fun _ s =>
    if running s f then refuseCommit f { status := .functionRunning } s
    else match validate f s with
      | some r => refuseCommit f r s
      | none => match commonGuard s f m true with
        | some g => refuseCommit f g s
        | none =>
          if f = 8 && s.thm.forbid then refuseCommit f (guardReply Ev.nvmTemp) s
          else startFunction f m (noteCommit f doneReply (applyStaged f m s)))

/-- RESTART (13 R391). -/
def execRestart (t m : Nat) (s : State) : Host.Outcome State Fault Refusal := timed t (serveCommon m 3 (restartHandler m)) s

/-! ## COMMIT (13 R392) -/

/-- The first staged parameter marked Stop needed. -/
def stopNeeded (s : State) (f : Nat) : Option Nat :=
  ((fnOf s f).staged.find? (fun e => ((paramRow? e.1).map (·.stop)).getD false)).map (·.1)

/-- COMMIT's handler for a function. -/
def commitFunction (m f : Nat) (s : State) : Answer × State :=
  match if running s f then stopNeeded s f else none with
  | some id => refuseCommit f (paramReply .functionRunning Ev.stopNeeded id) s
  | none => match validate f s with
    | some r => refuseCommit f r s
    | none =>
      if !running s f then refuseCommit f (guardReply Ev.functionStopped) s
      else match commonGuard s f m true with
        | some g => refuseCommit f g s
        | none => ok (noteCommit f doneReply (applyStaged f m s))

/-- COMMIT (13 R392, R399): function ID. -/
def execCommit (t m : Nat) (s : State) : Host.Outcome State Fault Refusal :=
  timed t (serve m Cmd.commit (fun r => withLength 1 (fun p s =>
    if 0x14 < byteAt p 0 then refuse (argReply r.command 0) s else commitFunction m (byteAt p 0) s) r)) s

end Sys2Proof.Machine
end

