-- ==== Sys2Proof/Machine/Dispatch.lean ====
section
/-!
DEFINITION. Machine/Dispatch.lean: the meaning of every command.
-/

namespace Sys2Proof.Machine

open Sys2Proof

/-- The effect of a command on everything but the queue. -/
def exec (i : Instr) (s : State) : Host.Outcome State Fault Refusal :=
  match i with
  | .clockFault t ppm held => Sys2Proof.Machine.execClockFault t ppm held s
  | .crossingTimeout t src dst waited => Sys2Proof.Machine.execCrossingTimeout t src dst waited s
  | .islandSleep t k next busy rail => Sys2Proof.Machine.execIslandSleep t k next busy rail s
  | .islandWake t k => Sys2Proof.Machine.execIslandWake t k s
  | .triggerFire t n => Sys2Proof.Machine.execTriggerFire t n s
  | .sweepMark t shunt2 hall2 => Sys2Proof.Machine.execSweepMark t shunt2 hall2 s
  | .markReceived t idx rev volts temps loopLow grid => Sys2Proof.Machine.execMarkReceived t idx rev volts temps loopLow grid s
  | .tapSlotSend t idx quiet => Sys2Proof.Machine.execTapSlotSend t idx quiet s
  | .sweepDataReceive t r high f => Sys2Proof.Machine.execSweepDataReceive t r high f s
  | .commandWindow t r => Sys2Proof.Machine.execCommandWindow t r s
  | .enumeration t r o lost => Sys2Proof.Machine.execEnumeration t r o lost s
  | .delayTableRefresh t r rts => Sys2Proof.Machine.execDelayTableRefresh t r rts s
  | .ringBreak t r waited isMark => Sys2Proof.Machine.execRingBreak t r waited isMark s
  | .collectPollTimeout t r high h waited => Sys2Proof.Machine.execCollectPollTimeout t r high h waited s
  | .sweepStretched t r => Sys2Proof.Machine.execSweepStretched t r s
  | .splitRestoreTest t r clean => Sys2Proof.Machine.execSplitRestoreTest t r clean s
  | .returnToThrough t r loop rts => Sys2Proof.Machine.execReturnToThrough t r loop rts s
  | .fltTestDue t r dip => Sys2Proof.Machine.execFltTestDue t r dip s
  | .tapStatusPoll t idx => Sys2Proof.Machine.execTapStatusPoll t idx s
  | .cellComparatorTrip t idx c ov v held => Sys2Proof.Machine.execCellComparatorTrip t idx c ov v held s
  | .clkLockLost t idx => Sys2Proof.Machine.execClkLockLost t idx s
  | .tapSleep t idx quiet => Sys2Proof.Machine.execTapSleep t idx quiet s
  | .slowSweep t rts frames tc shunt2 hall2 => Sys2Proof.Machine.execSlowSweep t rts frames tc shunt2 hall2 s
  | .sweepPeriodChange t => Sys2Proof.Machine.execSweepPeriodChange t s
  | .nop t q => Sys2Proof.Machine.execNop t q s
  | .tapIdentify t q => Sys2Proof.Machine.execTapIdentify t q s
  | .echo t q => Sys2Proof.Machine.execEcho t q s
  | .setDelay t q => Sys2Proof.Machine.execSetDelay t q s
  | .setThresh t q => Sys2Proof.Machine.execSetThresh t q s
  | .setMarkCount t q => Sys2Proof.Machine.execSetMarkCount t q s
  | .readStatus t q loopMa supply quiet => Sys2Proof.Machine.execReadStatus t q loopMa supply quiet s
  | .clearTrip t q volts => Sys2Proof.Machine.execClearTrip t q volts s
  | .fltTest t q dip => Sys2Proof.Machine.execFltTest t q dip s
  | .tapReset t q leads testFail calFail => Sys2Proof.Machine.execTapReset t q leads testFail calFail s
  | .ptProbe t q rt => Sys2Proof.Machine.execPtProbe t q rt s
  | .setCollect t q => Sys2Proof.Machine.execSetCollect t q s
  | .collect t q quiet => Sys2Proof.Machine.execCollect t q quiet s
  | .ringMap t m => Sys2Proof.Machine.execRingMap t m s
  | .ringRestore t m => Sys2Proof.Machine.execRingRestore t m s
  | .reEnumerate t m a b => Sys2Proof.Machine.execReEnumerate t m a b s
  | .fltTestNow t m dips => Sys2Proof.Machine.execFltTestNow t m dips s
  | .clearTrips t m volts => Sys2Proof.Machine.execClearTrips t m volts s
  | .readSweep t m => Sys2Proof.Machine.execReadSweep t m s
  | .balRenew t => Sys2Proof.Machine.execBalRenew t s
  | .balLease t q temp => Sys2Proof.Machine.execBalLease t q temp s
  | .balStop t q => Sys2Proof.Machine.execBalStop t q s
  | .balMode t q => Sys2Proof.Machine.execBalMode t q s
  | .balLeaseExpiry t idx k => Sys2Proof.Machine.execBalLeaseExpiry t idx k s
  | .balConverterOvertemp t idx temp => Sys2Proof.Machine.execBalConverterOvertemp t idx temp s
  | .balGatedSuspend t idx => Sys2Proof.Machine.execBalGatedSuspend t idx s
  | .balResume t idx => Sys2Proof.Machine.execBalResume t idx s
  | .balStatus t m => Sys2Proof.Machine.execBalStatus t m s
  | .balTotals t m => Sys2Proof.Machine.execBalTotals t m s
  | .balForce t m => Sys2Proof.Machine.execBalForce t m s
  | .balForceEnd t c => Sys2Proof.Machine.execBalForceEnd t c s
  | .balRelease t m => Sys2Proof.Machine.execBalRelease t m s
  | .estUpdatePeriod t errs => Sys2Proof.Machine.execEstUpdatePeriod t errs s
  | .ctxSave t => Sys2Proof.Machine.execCtxSave t s
  | .ctxRead t m => Sys2Proof.Machine.execCtxRead t m s
  | .ctxSummary t m => Sys2Proof.Machine.execCtxSummary t m s
  | .ctxReinit t m => Sys2Proof.Machine.execCtxReinit t m s
  | .ctxCells t m => Sys2Proof.Machine.execCtxCells t m s
  | .capSet t m => Sys2Proof.Machine.execCapSet t m s
  | .chemRead t m => Sys2Proof.Machine.execChemRead t m s
  | .chemWrite t m => Sys2Proof.Machine.execChemWrite t m s
  | .ctxClearFlags t m => Sys2Proof.Machine.execCtxClearFlags t m s
  | .impLeadStart t => Sys2Proof.Machine.execImpLeadStart t s
  | .impWindowStart t => Sys2Proof.Machine.execImpWindowStart t s
  | .impWindowEnd t xs => Sys2Proof.Machine.execImpWindowEnd t xs s
  | .impSetup t q => Sys2Proof.Machine.execImpSetup t q s
  | .impWindow t q => Sys2Proof.Machine.execImpWindow t q s
  | .impRead t q => Sys2Proof.Machine.execImpRead t q s
  | .tapImpLineLoss t idx quiet => Sys2Proof.Machine.execTapImpLineLoss t idx quiet s
  | .impStatus t m => Sys2Proof.Machine.execImpStatus t m s
  | .impResults t m => Sys2Proof.Machine.execImpResults t m s
  | .impSpectrumNow t m => Sys2Proof.Machine.execImpSpectrumNow t m s
  | .phaseCurrentCycle t shunt hall lanes vStr vLnk => Sys2Proof.Machine.execPhaseCurrentCycle t shunt hall lanes vStr vLnk s
  | .stringLoopCycle t vStr vLnk => Sys2Proof.Machine.execStringLoopCycle t vStr vLnk s
  | .roleCSweep t => Sys2Proof.Machine.execRoleCSweep t s
  | .containerLoop t tc => Sys2Proof.Machine.execContainerLoop t tc s
  | .roleDeadline t x late shadowLate differ => Sys2Proof.Machine.execRoleDeadline t x late shadowLate differ s
  | .engineSelfTestDone t e pass => Sys2Proof.Machine.execEngineSelfTestDone t e pass s
  | .roleRotation t => Sys2Proof.Machine.execRoleRotation t s
  | .followingError t => Sys2Proof.Machine.execFollowingError t s
  | .sensorDisagree t shunt hall sum held => Sys2Proof.Machine.execSensorDisagree t shunt hall sum held s
  | .sensorFrozen t x spread cycles duty fault => Sys2Proof.Machine.execSensorFrozen t x spread cycles duty fault s
  | .currentFeedbackLost t => Sys2Proof.Machine.execCurrentFeedbackLost t s
  | .sensorRecover t x passed agrees => Sys2Proof.Machine.execSensorRecover t x passed agrees s
  | .ctrlStatus t m => Sys2Proof.Machine.execCtrlStatus t m s
  | .ctrlEngines t m => Sys2Proof.Machine.execCtrlEngines t m s
  | .ctrlEngineReturn t m pass => Sys2Proof.Machine.execCtrlEngineReturn t m pass s
  | .ctrlRotateNow t m => Sys2Proof.Machine.execCtrlRotateNow t m s
  | .sensorRestore t m => Sys2Proof.Machine.execSensorRestore t m s
  | .winTotals t m => Sys2Proof.Machine.execWinTotals t m s
  | .valleyReached t n bits age => Sys2Proof.Machine.execValleyReached t n bits age s
  | .limitHit t n bits age => Sys2Proof.Machine.execLimitHit t n bits age s
  | .cycleGroupBoundary t => Sys2Proof.Machine.execCycleGroupBoundary t s
  | .interleaveLimit t n => Sys2Proof.Machine.execInterleaveLimit t n s
  | .burstEntry t => Sys2Proof.Machine.execBurstEntry t s
  | .burstFrame t => Sys2Proof.Machine.execBurstFrame t s
  | .softStart t vStr vLnk => Sys2Proof.Machine.execSoftStart t vStr vLnk s
  | .softStartRetry t vStr vLnk => Sys2Proof.Machine.execSoftStartRetry t vStr vLnk s
  | .sidebandFrame t => Sys2Proof.Machine.execSidebandFrame t s
  | .gateStatusFrame t n b => Sys2Proof.Machine.execGateStatusFrame t n b s
  | .laneTrain t n => Sys2Proof.Machine.execLaneTrain t n s
  | .laneDown t n quiet noStatus b => Sys2Proof.Machine.execLaneDown t n quiet noStatus b s
  | .laneTimeoutOff t n quiet => Sys2Proof.Machine.execLaneTimeoutOff t n quiet s
  | .driverDesat t n hs => Sys2Proof.Machine.execDriverDesat t n hs s
  | .modStatus t m => Sys2Proof.Machine.execModStatus t m s
  | .laneStatus t m => Sys2Proof.Machine.execLaneStatus t m s
  | .dtTableRead t m => Sys2Proof.Machine.execDtTableRead t m s
  | .dtTableWrite t m => Sys2Proof.Machine.execDtTableWrite t m s
  | .laneRetrain t m => Sys2Proof.Machine.execLaneRetrain t m s
  | .spSet t m => Sys2Proof.Machine.execSpSet t m s
  | .setpointApply t => Sys2Proof.Machine.execSetpointApply t s
  | .dispatchWatchdog t => Sys2Proof.Machine.execDispatchWatchdog t s
  | .spCancel t m => Sys2Proof.Machine.execSpCancel t m s
  | .spQueueRead t m => Sys2Proof.Machine.execSpQueueRead t m s
  | .dispatchStatus t m => Sys2Proof.Machine.execDispatchStatus t m s
  | .spSilent t held => Sys2Proof.Machine.execSpSilent t held s
  | .domeFault t held => Sys2Proof.Machine.execDomeFault t held s
  | .domeDemand t => Sys2Proof.Machine.execDomeDemand t s
  | .sweepCheck t => Sys2Proof.Machine.execSweepCheck t s
  | .fltLoopOpen t loop ma held => Sys2Proof.Machine.execFltLoopOpen t loop ma held s
  | .fltShort t loop ma held => Sys2Proof.Machine.execFltShort t loop ma held s
  | .ocFastTrip t sensor idx held => Sys2Proof.Machine.execOcFastTrip t sensor idx held s
  | .ocSlowTrip t => Sys2Proof.Machine.execOcSlowTrip t s
  | .sf4TAbsent t c => Sys2Proof.Machine.execSf4TAbsent t c s
  | .siChannelDemand t idx b held => Sys2Proof.Machine.execSiChannelDemand t idx b held s
  | .siChannelRelease t idx b held => Sys2Proof.Machine.execSiChannelRelease t idx b held s
  | .siDiscrepancy t idx => Sys2Proof.Machine.execSiDiscrepancy t idx s
  | .tpPulse t tp low => Sys2Proof.Machine.execTpPulse t tp low s
  | .tripInOpen t ma held => Sys2Proof.Machine.execTripInOpen t ma held s
  | .sf8DelayEnd t => Sys2Proof.Machine.execSf8DelayEnd t s
  | .sf9Stale t => Sys2Proof.Machine.execSf9Stale t s
  | .safeStateOpen t => Sys2Proof.Machine.execSafeStateOpen t s
  | .k2OrderGap t => Sys2Proof.Machine.execK2OrderGap t s
  | .domeOpen t => Sys2Proof.Machine.execDomeOpen t s
  | .plantStop t plane b => Sys2Proof.Machine.execPlantStop t plane b s
  | .plantStopRelease t plane b => Sys2Proof.Machine.execPlantStopRelease t plane b s
  | .safetyKeepalive t plane b => Sys2Proof.Machine.execSafetyKeepalive t plane b s
  | .tripNotice t plane b => Sys2Proof.Machine.execTripNotice t plane b s
  | .safeMsgOrphan t src seq => Sys2Proof.Machine.execSafeMsgOrphan t src seq s
  | .safeLinkLost t => Sys2Proof.Machine.execSafeLinkLost t s
  | .singlePlane t p => Sys2Proof.Machine.execSinglePlane t p s
  | .sealChanged t n on => Sys2Proof.Machine.execSealChanged t n on s
  | .safeStatus t m => Sys2Proof.Machine.execSafeStatus t m s
  | .safeReset t m => Sys2Proof.Machine.execSafeReset t m s
  | .tripInRecheck t => Sys2Proof.Machine.execTripInRecheck t s
  | .safeSetRead t m => Sys2Proof.Machine.execSafeSetRead t m s
  | .safeSetConfirm t m => Sys2Proof.Machine.execSafeSetConfirm t m s
  | .safeCounters t m => Sys2Proof.Machine.execSafeCounters t m s
  | .localAckExpiry t => Sys2Proof.Machine.execLocalAckExpiry t s
  | .kfEdge t n level vStr vLnk => Sys2Proof.Machine.execKfEdge t n level vStr vLnk s
  | .kDropout t n held => Sys2Proof.Machine.execKDropout t n held s
  | .kFailClose t n => Sys2Proof.Machine.execKFailClose t n s
  | .kWelded t n held => Sys2Proof.Machine.execKWelded t n held s
  | .kPullinEnd t n => Sys2Proof.Machine.execKPullinEnd t n s
  | .outputOvercurrent t n ma held => Sys2Proof.Machine.execOutputOvercurrent t n ma held s
  | .coilOpen t n ma held => Sys2Proof.Machine.execCoilOpen t n ma held s
  | .coilSupplyLow t mv held => Sys2Proof.Machine.execCoilSupplyLow t mv held s
  | .outputTestPulse t n => Sys2Proof.Machine.execOutputTestPulse t n s
  | .outputSwitchFault t n hsMv lsMv => Sys2Proof.Machine.execOutputSwitchFault t n hsMv lsMv s
  | .prechargeHalfTau t vLnk => Sys2Proof.Machine.execPrechargeHalfTau t vLnk s
  | .prechargeThreeTau t vLnk => Sys2Proof.Machine.execPrechargeThreeTau t vLnk s
  | .preEnergyTick t vStr vLnk => Sys2Proof.Machine.execPreEnergyTick t vStr vLnk s
  | .k3OverlapEnd t => Sys2Proof.Machine.execK3OverlapEnd t s
  | .orderlyGatesOff t => Sys2Proof.Machine.execOrderlyGatesOff t s
  | .outStatus t m => Sys2Proof.Machine.execOutStatus t m s
  | .connect t m vStr vLnk => Sys2Proof.Machine.execConnect t m vStr vLnk s
  | .disconnect t m => Sys2Proof.Machine.execDisconnect t m s
  | .preHistory t m => Sys2Proof.Machine.execPreHistory t m s
  | .preModelReset t m => Sys2Proof.Machine.execPreModelReset t m s
  | .thermalSample t ts => Sys2Proof.Machine.execThermalSample t ts s
  | .nvmForbidLift t => Sys2Proof.Machine.execNvmForbidLift t s
  | .thermalShutdown t mask held => Sys2Proof.Machine.execThermalShutdown t mask held s
  | .thermalResetHold t => Sys2Proof.Machine.execThermalResetHold t s
  | .thermalRelease t below => Sys2Proof.Machine.execThermalRelease t below s
  | .thermalAutoReconnect t vStr vLnk => Sys2Proof.Machine.execThermalAutoReconnect t vStr vLnk s
  | .loopFallback t => Sys2Proof.Machine.execLoopFallback t s
  | .loopWatchdog t => Sys2Proof.Machine.execLoopWatchdog t s
  | .vlvOpen t ua held => Sys2Proof.Machine.execVlvOpen t ua held s
  | .thermStatus t m => Sys2Proof.Machine.execThermStatus t m s
  | .thermManual t m => Sys2Proof.Machine.execThermManual t m s
  | .thermManualEnd t => Sys2Proof.Machine.execThermManualEnd t s
  | .thermAuto t m => Sys2Proof.Machine.execThermAuto t m s
  | .boot t o => Sys2Proof.Machine.execBoot t o s
  | .shelfWake t aux str heldAux heldStr => Sys2Proof.Machine.execShelfWake t aux str heldAux heldStr s
  | .bootFail t => Sys2Proof.Machine.execBootFail t s
  | .wakeAtReached t => Sys2Proof.Machine.execWakeAtReached t s
  | .dormantAuto t => Sys2Proof.Machine.execDormantAuto t s
  | .pwrAuxLoss t mv held str => Sys2Proof.Machine.execPwrAuxLoss t mv held str s
  | .pwrAuxReturn t mv held => Sys2Proof.Machine.execPwrAuxReturn t mv held s
  | .cisternSequence t str ts8 => Sys2Proof.Machine.execCisternSequence t str ts8 s
  | .modeStatus t m => Sys2Proof.Machine.execModeStatus t m s
  | .enterService t m => Sys2Proof.Machine.execEnterService t m s
  | .leaveService t m => Sys2Proof.Machine.execLeaveService t m s
  | .run t m => Sys2Proof.Machine.execRun t m s
  | .hold t m => Sys2Proof.Machine.execHold t m s
  | .enterDormant t m => Sys2Proof.Machine.execEnterDormant t m s
  | .wake t m => Sys2Proof.Machine.execWake t m s
  | .wakeAt t m => Sys2Proof.Machine.execWakeAt t m s
  | .enterShelf t m => Sys2Proof.Machine.execEnterShelf t m s
  | .request t src dst env => Sys2Proof.Machine.execRequest t src dst env s
  | .read t src dst env => Sys2Proof.Machine.execRead t src dst env s
  | .ack t src dst env => Sys2Proof.Machine.execAck t src dst env s
  | .commandDone t m => Sys2Proof.Machine.execCommandDone t m s
  | .mbxIdleRelease t m => Sys2Proof.Machine.execMbxIdleRelease t m s
  | .stageTimeout t f => Sys2Proof.Machine.execStageTimeout t f s
  | .spireRestart t => Sys2Proof.Machine.execSpireRestart t s
  | .getStatus t m => Sys2Proof.Machine.execGetStatus t m s
  | .stop t m => Sys2Proof.Machine.execStop t m s
  | .stage t m => Sys2Proof.Machine.execStage t m s
  | .restart t m => Sys2Proof.Machine.execRestart t m s
  | .readParam t m => Sys2Proof.Machine.execReadParam t m s
  | .discardStaged t m => Sys2Proof.Machine.execDiscardStaged t m s
  | .identify t m => Sys2Proof.Machine.execIdentify t m s
  | .getChallenge t m => Sys2Proof.Machine.execGetChallenge t m s
  | .mbxStatus t m => Sys2Proof.Machine.execMbxStatus t m s
  | .mbxRelease t m => Sys2Proof.Machine.execMbxRelease t m s
  | .commit t m => Sys2Proof.Machine.execCommit t m s
  | .keySet t m => Sys2Proof.Machine.execKeySet t m s
  | .ownerLock t m => Sys2Proof.Machine.execOwnerLock t m s
  | .heartbeatSend t => Sys2Proof.Machine.execHeartbeatSend t s
  | .heartbeat t path src ident mism b => Sys2Proof.Machine.execHeartbeat t path src ident mism b s
  | .heartbeatTimeout t => Sys2Proof.Machine.execHeartbeatTimeout t s
  | .checkpointPush t => Sys2Proof.Machine.execCheckpointPush t s
  | .checkpointBlock t b => Sys2Proof.Machine.execCheckpointBlock t b s
  | .swapPrepare t b => Sys2Proof.Machine.execSwapPrepare t b s
  | .swapReady t b => Sys2Proof.Machine.execSwapReady t b s
  | .swapHand t b => Sys2Proof.Machine.execSwapHand t b s
  | .swapTaken t b => Sys2Proof.Machine.execSwapTaken t b s
  | .swapAbort t b => Sys2Proof.Machine.execSwapAbort t b s
  | .swapStepTimeout t => Sys2Proof.Machine.execSwapStepTimeout t s
  | .claimRound t other lowAt2 freeAt25 field follower => Sys2Proof.Machine.execClaimRound t other lowAt2 freeAt25 field follower s
  | .holdFollowExpiry t => Sys2Proof.Machine.execHoldFollowExpiry t s
  | .pairStartup t => Sys2Proof.Machine.execPairStartup t s
  | .pairStartFault t => Sys2Proof.Machine.execPairStartFault t s
  | .standbySelfTest t ctrl est readback => Sys2Proof.Machine.execStandbySelfTest t ctrl est readback s
  | .pairOverrideEnd t => Sys2Proof.Machine.execPairOverrideEnd t s
  | .healthReport t sfp => Sys2Proof.Machine.execHealthReport t sfp s
  | .pairStatus t m => Sys2Proof.Machine.execPairStatus t m s
  | .pairSwap t m => Sys2Proof.Machine.execPairSwap t m s
  | .pairOverride t m => Sys2Proof.Machine.execPairOverride t m s
  | .pairCkptNow t m => Sys2Proof.Machine.execPairCkptNow t m s
  | .healthRead t m => Sys2Proof.Machine.execHealthRead t m s
  | .helloSend t p k => Sys2Proof.Machine.execHelloSend t p k s
  | .hello t p k h => Sys2Proof.Machine.execHello t p k h s
  | .helloDead t p k => Sys2Proof.Machine.execHelloDead t p k s
  | .pcsSyncLoss t p k => Sys2Proof.Machine.execPcsSyncLoss t p k s
  | .lsaSend t p => Sys2Proof.Machine.execLsaSend t p s
  | .lsa t p k a => Sys2Proof.Machine.execLsa t p k a s
  | .lsaAgeOut t p origin => Sys2Proof.Machine.execLsaAgeOut t p origin s
  | .routeCompute t p => Sys2Proof.Machine.execRouteCompute t p s
  | .fabricFrameReceive t p k f => Sys2Proof.Machine.execFabricFrameReceive t p k f s
  | .planeFailed t p => Sys2Proof.Machine.execPlaneFailed t p s
  | .planeUp t p => Sys2Proof.Machine.execPlaneUp t p s
  | .flowReturn t addr cls => Sys2Proof.Machine.execFlowReturn t addr cls s
  | .fabStatus t m => Sys2Proof.Machine.execFabStatus t m s
  | .fabRoutes t m => Sys2Proof.Machine.execFabRoutes t m s
  | .fabLsdb t m => Sys2Proof.Machine.execFabLsdb t m s
  | .fabFlows t m => Sys2Proof.Machine.execFabFlows t m s
  | .fabClearCounters t m => Sys2Proof.Machine.execFabClearCounters t m s
  | .announce t d num gm data utc => Sys2Proof.Machine.execAnnounce t d num gm data utc s
  | .sync t d num seq origin rx corr twoStep trace => Sys2Proof.Machine.execSync t d num seq origin rx corr twoStep trace s
  | .followUp t d num seq origin corr => Sys2Proof.Machine.execFollowUp t d num seq origin corr s
  | .delayReq t d num seq own src corr => Sys2Proof.Machine.execDelayReq t d num seq own src corr s
  | .delayResp t d num seq rx corr trace => Sys2Proof.Machine.execDelayResp t d num seq rx corr trace s
  | .domainLoss t d => Sys2Proof.Machine.execDomainLoss t d s
  | .domainDegradedEnd t d => Sys2Proof.Machine.execDomainDegradedEnd t d s
  | .timePrefReturn t => Sys2Proof.Machine.execTimePrefReturn t s
  | .ppsEdge t n => Sys2Proof.Machine.execPpsEdge t n s
  | .ppsInvalid t n => Sys2Proof.Machine.execPpsInvalid t n s
  | .ppsOut t => Sys2Proof.Machine.execPpsOut t s
  | .timeStatus t m => Sys2Proof.Machine.execTimeStatus t m s
  | .timeEdges t m => Sys2Proof.Machine.execTimeEdges t m s
  | .timeResync t m => Sys2Proof.Machine.execTimeResync t m s
  | .timeSet t m => Sys2Proof.Machine.execTimeSet t m s
  | .canFrameReceive t c f => Sys2Proof.Machine.execCanFrameReceive t c f s
  | .canTxAttempt t c => Sys2Proof.Machine.execCanTxAttempt t c s
  | .canTxEnd t c outcome => Sys2Proof.Machine.execCanTxEnd t c outcome s
  | .busOff t c => Sys2Proof.Machine.execBusOff t c s
  | .busOffRecovered t c => Sys2Proof.Machine.execBusOffRecovered t c s
  | .frMapSend t k vStr => Sys2Proof.Machine.execFrMapSend t k vStr s
  | .frSetpointFrame t d => Sys2Proof.Machine.execFrSetpointFrame t d s
  | .frCommandFrame t d vStr vLnk => Sys2Proof.Machine.execFrCommandFrame t d vStr vLnk s
  | .canStatus t m => Sys2Proof.Machine.execCanStatus t m s
  | .canTx t m => Sys2Proof.Machine.execCanTx t m s
  | .canTxCancel t m => Sys2Proof.Machine.execCanTxCancel t m s
  | .canTxQuery t m => Sys2Proof.Machine.execCanTxQuery t m s
  | .canRxRead t m => Sys2Proof.Machine.execCanRxRead t m s
  | .canRxRelease t m => Sys2Proof.Machine.execCanRxRelease t m s
  | .canRecover t m => Sys2Proof.Machine.execCanRecover t m s
  | .twAddressMatch t addr read => Sys2Proof.Machine.execTwAddressMatch t addr read s
  | .twWindowWrite t b => Sys2Proof.Machine.execTwWindowWrite t b s
  | .twDoorbellRequest t => Sys2Proof.Machine.execTwDoorbellRequest t s
  | .twDoorbellRead t => Sys2Proof.Machine.execTwDoorbellRead t s
  | .twDoorbellAck t => Sys2Proof.Machine.execTwDoorbellAck t s
  | .twTransferAbort t => Sys2Proof.Machine.execTwTransferAbort t s
  | .twLate t reading => Sys2Proof.Machine.execTwLate t reading s
  | .twAttention t outcome => Sys2Proof.Machine.execTwAttention t outcome s
  | .twAttnRetry t outcome => Sys2Proof.Machine.execTwAttnRetry t outcome s
  | .twBusClear t high => Sys2Proof.Machine.execTwBusClear t high s
  | .twAccXfer t m nack stretch rd => Sys2Proof.Machine.execTwAccXfer t m nack stretch rd s
  | .twAccStatus t m => Sys2Proof.Machine.execTwAccStatus t m s
  | .twSvcStatus t m => Sys2Proof.Machine.execTwSvcStatus t m s
  | .recFlushPeriod t => Sys2Proof.Machine.execRecFlushPeriod t s
  | .recordFlush t => Sys2Proof.Machine.execRecordFlush t s
  | .nvmPageCommit t retired => Sys2Proof.Machine.execNvmPageCommit t retired s
  | .cursorExpiry t c => Sys2Proof.Machine.execCursorExpiry t c s
  | .recClearBlock t retired => Sys2Proof.Machine.execRecClearBlock t retired s
  | .recStatus t m => Sys2Proof.Machine.execRecStatus t m s
  | .recSeek t m => Sys2Proof.Machine.execRecSeek t m s
  | .recRead t m => Sys2Proof.Machine.execRecRead t m s
  | .recRelease t m => Sys2Proof.Machine.execRecRelease t m s
  | .recFlush t m => Sys2Proof.Machine.execRecFlush t m s
  | .recClear t m => Sys2Proof.Machine.execRecClear t m s
  | .recCodes t m => Sys2Proof.Machine.execRecCodes t m s
  | .imgStatus t m => Sys2Proof.Machine.execImgStatus t m s
  | .imgOpen t m => Sys2Proof.Machine.execImgOpen t m s
  | .imgBlock t m => Sys2Proof.Machine.execImgBlock t m s
  | .imgCheck t m partner => Sys2Proof.Machine.execImgCheck t m partner s
  | .imgInstall t m partner => Sys2Proof.Machine.execImgInstall t m partner s
  | .imgAbort t m => Sys2Proof.Machine.execImgAbort t m s
  | .tapInstall t m => Sys2Proof.Machine.execTapInstall t m s
  | .installStepDone t ok pass => Sys2Proof.Machine.execInstallStepDone t ok pass s
  | .installResume t clear => Sys2Proof.Machine.execInstallResume t clear s
  | .installPauseTimeout t => Sys2Proof.Machine.execInstallPauseTimeout t s
  | .imgOwnerTimeout t id => Sys2Proof.Machine.execImgOwnerTimeout t id s
  | .fwOpen t q => Sys2Proof.Machine.execFwOpen t q s
  | .fwBlock t q => Sys2Proof.Machine.execFwBlock t q s
  | .fwCheck t q => Sys2Proof.Machine.execFwCheck t q s
  | .fwSwap t q ver leads testFail calFail => Sys2Proof.Machine.execFwSwap t q ver leads testFail calFail s
  | .tapSwapTimeout t ver => Sys2Proof.Machine.execTapSwapTimeout t ver s
  | .cisternMeasure t full present cellMv => Sys2Proof.Machine.execCisternMeasure t full present cellMv s
  | .impWindowSuspend t idx => Sys2Proof.Machine.execImpWindowSuspend t idx s
  | .matchedCopyReturn t => Sys2Proof.Machine.execMatchedCopyReturn t s
  | .outputPulseEnd t n mv ma => Sys2Proof.Machine.execOutputPulseEnd t n mv ma s
  | .wakeComparatorArm t mv held => Sys2Proof.Machine.execWakeComparatorArm t mv held s
  | .tapWake t idx => Sys2Proof.Machine.execTapWake t idx s
  | .stFltHoldEnd t => Sys2Proof.Machine.execStFltHoldEnd t s
  | .supervisorWatchdog t served => Sys2Proof.Machine.execSupervisorWatchdog t served s

end Sys2Proof.Machine
end

