-- ==== Sys2Proof/Safety.lean ====
section
/-!
DEFINITION. Safety.lean: the words that statements use: the instant a command acts, what a completed command leaves, a request
that waits in a mailbox, and the bounds that every step keeps.
-/

namespace Sys2Proof.Machine

open Sys2Proof

/-! ## What a completed command leaves -/

/-- The state in which a command of instant `t` acts: time does not run backwards and nothing is on its way out. -/
def clocked (t : Nat) (s : State) : State := { s with now := max s.now t, out := [] }

/-- The state after a command of instant `t` whose effect is `f`: the queue and the time are no part of the effect. -/
def after (t : Nat) (f : State → State) (s : State) : State :=
  { f (clocked t s) with pending := s.pending, now := max s.now t }

/-- A request with this command code and this payload waits in mailbox `m`, unserved. -/
abbrev Pend (s : State) (m cmd : Nat) (p : List Byte) : Prop := (requestOf s m cmd).map (·.payload) = some p

/-- The state in which a served request meets its handler. -/
def begun (t m : Nat) (s : State) : State := startCommand m (clocked t s)

/-- After a request in mailbox `m` whose effect is `f` and which ends with `r`: the response waits for COMMAND_DONE. -/
def ended (t m : Nat) (r : Reply) (f : State → State) (s : State) : State :=
  after t (fun s => finish m r (f (startCommand m s))) s

/-- After a request whose effect is `f` and which goes on. -/
def going (t m : Nat) (f : State → State) (s : State) : State := after t (fun s => f (startCommand m s)) s

/-- After a request that reads `p` of the state and changes nothing else. -/
def read (t m : Nat) (p : State → Payload) (s : State) : State := ended t m (doneWith (p (begun t m s))) (fun s => s) s

/-- After a request that is refused with `r`: the response is formed at once, nothing else changes. -/
def turnedAway (t m : Nat) (r : Reply) (s : State) : State := after t (fun s => answerNow m r (startCommand m s)) s

/-! ## Requests at a tap -/

/-- A request of this code that meets an awake tap with its CRC right and is addressed to it, by hop 1 or as a broadcast
(02 R46, R48). -/
abbrev TapHears (s : State) (cmd : Nat) (q : TapReq) : Prop :=
  q.code = none ∧ 1 ≤ q.pos ∧ q.pos ≤ 16 ∧ q.ring ≤ 1 ∧ tapAwake s (tapIndex q.ring q.pos) = true ∧
  q.crc = frameCrc q.addr cmd q.payload ∧ (reqHop q = 1 ∨ reqHop q = 63)

/-! ## Several steps -/

/-- The state after `n` steps, if every one of them answers a next state. -/
def steps : Nat → State → Option State
  | 0, s => some s
  | n + 1, s => match step s with
    | .next u => steps n u
    | _ => none

/-! ## Bounds that every step keeps -/

/-- A CAN controller's queues: 32 frames to send and 64 received (17 R490, R495). -/
abbrev CanBounds (c : Can) : Prop := c.tx.length ≤ 32 ∧ c.rx.length ≤ 64

/-- Every queue and table stays inside the size that the spec gives it: two CAN controllers with their queues (17 R490, R495), the
window pointer of one byte (17 R501), 64 flows (15 R456), 16 timed set-points (08 R242), 4,096 buffered records (11 R329), the 64
records of the reserved area (18 R520) and eight mailboxes (13 R371). -/
def Bounds (s : State) : Prop :=
  s.bus.can.length = 2 ∧ (∀ c ∈ s.bus.can, CanBounds c) ∧ s.bus.svc.ptr < 256 ∧ s.fab.flows.length ≤ 64 ∧
    s.disp.queue.length ≤ 16 ∧ s.well.buf.length ≤ 4096 ∧ s.well.clears.length ≤ 64 ∧ s.mbx.mbx.length = 8

end Sys2Proof.Machine
end

