-- ==== Sys2Proof/Certificates/Slice0/Obligations.lean ====
section
/-!
DEFINITION. Certificates/Slice0/Obligations.lean: the statements. A statement is a conjunction of clauses; the clauses of one
command say what a next state it answers, as a whole state, under hypotheses on the state and the operands alone, so that each
clause is also the frame: what it does not name is unchanged. clocked, after, Pend, begun, ended, going, read, turnedAway and
TapHears are the words of Safety.lean.
-/

open Sys2Proof Sys2Proof.Machine

/-- A step is exec of the command at the front of the queue; an empty queue idles (the model's choice, log 13). With a command at
the front of the queue, a step is exec of that command on the state with the queue's rest; with an empty queue the step
answers the state as it stands, which is the choice of notes/assumptions/13.md. Where the spec leaves a point open the clauses
follow the model's choices: notes/assumptions/13. (13_mailbox.md R377; notes/assumptions/13.md.) -/
def Obligations.StepServesTheFrontCommand : Prop :=
  (∀ (c : Instr) (rest : List Instr) (s : State),
    s.pending = c :: rest →
    step s = exec c { s with pending := rest }) ∧
  (∀ (s : State),
    s.pending = [] →
    step s = .next s)

/-- Every command answers a next state in every state, leaves the queue alone and does not turn time back. For every command and
every state, exec answers a next state: no command ends in a fault or a refusal of the model. The queue of waiting commands
stands as it was, and the time of the new state is not before the time of the old one. Where the spec leaves a point open the
clauses follow the model's choices: notes/assumptions/1. (00_scope.md R10; 16_time.md R463.) -/
def Obligations.EveryCommandAnswersANextState : Prop :=
  ∀ (c : Instr) (s : State),
      ∃ u, exec c s = .next u ∧ u.pending = s.pending ∧ s.now ≤ u.now

/-- As many steps as commands wait serve the queue, first in, first out, and time does not run backwards. From every state, one
step for each waiting command answers a next state each time; after them the queue is empty and the time is not before the
time at the start. Where the spec leaves a point open the clauses follow the model's choices: notes/assumptions/1, 13.
(00_scope.md R10; 13_mailbox.md R377.) -/
def Obligations.TheQueueIsServed : Prop :=
  ∀ (s : State),
      ∃ u, steps s.pending.length s = some u ∧ u.pending = [] ∧ s.now ≤ u.now

/-- Every step keeps every queue and table inside the size that the spec gives it. From every state that meets the bounds, not
only from states that a run reaches, a step that answers a next state gives a state that meets them: two CAN controllers with
at most 32 frames to send and 64 received, a window pointer of one byte, at most 64 fabric flows, 16 timed set-points, 4,096
buffered records and 64 kept CLEAR records, and eight mailboxes. Where the spec leaves a point open the clauses follow the
model's choices: notes/assumptions/1. (17_field_buses.md R490, R495, R501; 15_fabric.md R456; 08_setpoints.md R242;
11_thermal.md R329; 18_recorder.md R520; 13_mailbox.md R371.) -/
def Obligations.EveryStepKeepsTheBounds : Prop :=
  ∀ (s u : State),
      Bounds s →
      step s = .next u →
      Bounds u

/-- The state at reset meets the bounds that every step keeps. State.reset meets the bounds of EveryStepKeepsTheBounds: two CAN
controllers with empty queues, pointer 0, no flow, no timed set-point, no buffered record, no kept CLEAR record, eight
mailboxes. Where the spec leaves a point open the clauses follow the model's choices: notes/assumptions/2, 3.
(17_field_buses.md R490, R495; 13_mailbox.md R371.) -/
def Obligations.ResetMeetsTheBounds : Prop :=
  Bounds State.reset

/-- The state at reset holds the reset values that the spec gives: mailboxes, taps, estimation, control and dispatch. No command
waits. No key is set; every context has FLAGS 0x4200 and chemistry set 0, the chemistry sets are blank and CHEM_MISMATCH
stands; the update period is 10 ms and four engines serve; the winner code is NONE and θ is 1.0; dead times are 0; no link
set-point; WATCHDOG, POWER_NO_VOLTAGE and LAST_REJECT are 0; every tap has DELAY_UNSET; the sweep period is 1,000 µs. Where
the spec leaves a point open the clauses follow the model's choices: notes/assumptions/2. (13_mailbox.md R398;
04_estimation.md R106, R120, R134; 06_control_engines.md R175, R176; 07_converter.md R229; 08_setpoints.md R251;
02_cell_ring.md R61, R79.) -/
def Obligations.ResetValuesOfTheSpec : Prop :=
  (State.reset.pending = []) ∧
  (State.reset.core.keyOperator = {} ∧ State.reset.core.keyEngineer = {} ∧ State.reset.core.keyOwner = {}) ∧
  (State.reset.est.ctx.length = 512 ∧ State.reset.est.ctx.all (fun x => x.flags == 0x4200 && x.chem == 0) = true) ∧
  (State.reset.est.chem = List.replicate 4 (List.replicate 1024 0) ∧ State.reset.est.mismatch = true) ∧
  (State.reset.est.period = 10 ∧ State.reset.est.engines = 4) ∧
  (State.reset.ctrl.win = 0xFF ∧ State.reset.ctrl.theta = 2147483648) ∧
  (State.reset.conv.dt = List.replicate 32 0) ∧
  (State.reset.disp.link = none ∧ State.reset.disp.watchdog = false ∧ State.reset.disp.noVolt = false ∧ State.reset.disp.lastReject = .done) ∧
  (State.reset.rings.tap.all (fun x => x.delayUnset) = true ∧ State.reset.rings.period = 1000)

/-- The state at reset holds the reset values that the spec gives: safety, thermal, pair, fabric, time, buses and recorder. No
safety set is confirmed; gate inhibit stands and the lanes are off; the thermal flags and the loop outputs are 0; the claimed
role and the epoch are 0; the node is unassigned; the time unit is FREE on its oscillator; the window serves 0x3C with
RSP_READY 0 and a bus clear due; 64 spare blocks. Where the spec leaves a point open the clauses follow the model's choices:
notes/assumptions/2. (09_safety_functions.md R289; 11_thermal.md R342, R346; 14_pair_redundancy.md R409; 15_fabric.md R438;
16_time.md R466; 17_field_buses.md R502, R509, R512; 18_recorder.md R520.) -/
def Obligations.MoreResetValuesOfTheSpec : Prop :=
  (State.reset.saf.sets.all (fun x => !x.confirmed) = true) ∧
  (State.reset.saf.gateInhibit = true ∧ State.reset.saf.laneEnable = false) ∧
  (State.reset.thm.hot = false ∧ State.reset.thm.forbid = false ∧ State.reset.thm.htr = false ∧ State.reset.thm.pmp = 0 ∧ State.reset.thm.vlv = 0) ∧
  (State.reset.pair.role = 0 ∧ State.reset.pair.epoch = 0) ∧
  (State.reset.fab.node = 0) ∧
  (State.reset.tim.st = .free ∧ State.reset.tim.src = 4 ∧ State.reset.tim.ppsOut = false) ∧
  (State.reset.bus.svc.addr = 0x3C ∧ State.reset.bus.svc.ready = false ∧ State.reset.bus.acc.clearDue = true) ∧
  (State.reset.well.spare = 64)

/-- Clock faults, crossings, island sleep and wake, Cistern and status contacts do what their rules say. A clock off by more than
0.5 % for 1 ms trips with CLOCK_FAULT and a clock back in range clears it; a crossing whose handshake is 10 us late is
recorded and discarded; a quiet island takes the sleep state that the rule of R361 chooses from its cap, its next event and
its crossings, and a waking one is Awake, with WAKE_LATE where its schedule was missed; a Cistern measurement sets its three
flags by the limits of R554 and R555 and records a newly raised one; ST-FLT opens 60 s after the last record of severity 4;
ST-OK follows the watchdog and the mode. Everything else is unchanged. Where the spec leaves a point open the clauses follow
the model's choices: notes/assumptions/1, 14, 25. (01_architecture.md R12, R15; 12_modes_and_wake.md R361, R365;
20_connectors_electrical.md R554, R555, R558.) -/
def Obligations.IslandsClocksAndSupplies : Prop :=
  (∀ (t ppm held : Nat) (s : State),
    5000 < ppm →
    ms 1 ≤ held →
    s.core.clockFault = false →
    exec (.clockFault t ppm held) s =
      .next (after t (fun s => tripHeld Ev.clockFault Finder.sp [(ppm : Int)] { s with core.clockFault := true }) s)) ∧
  (∀ (t ppm held : Nat) (s : State),
    ppm ≤ 5000 →
    exec (.clockFault t ppm held) s =
      .next (after t (fun s => clearPresent Ev.clockFault { s with core.clockFault := false }) s)) ∧
  (∀ (t src dst waited : Nat) (s : State),
    10000 ≤ waited →
    src < 11 →
    dst < 11 →
    exec (.crossingTimeout t src dst waited) s =
      .next (after t (fun s => record Ev.crossingTimeout 3 [(src : Int), dst] { s with isl.timeouts := s.isl.timeouts ++ [(src, dst)] }) s)) ∧
  (∀ (t k n : Nat) (s : State),
    k < 11 →
    s.core.mode ≠ .shelf →
    s.upd.job = none →
    max s.now t + 1950000 ≤ n →
    sleepCap (clocked t s) k = .nap →
    (islandOf s k).heldIdle = false →
    exec (.islandSleep t k (some n) false none) s =
      .next (after t (setIsland k (fun i => { i with sleep := .nap, nextEvent := some n, wakeAt := some (n - 400000) })) s)) ∧
  (∀ (t k : Nat) (next : Option Nat) (s : State),
    k < 11 →
    s.core.mode ≠ .shelf →
    s.upd.job = none →
    sleepCap (clocked t s) k ≠ .awake →
    exec (.islandSleep t k next true none) s =
      .next (after t (setIsland k (fun i => { i with sleep := .idle, nextEvent := next, wakeAt := next.map (fun n => n - 500) })) s)) ∧
  (∀ (t k : Nat) (s : State),
    k < 11 →
    s.core.mode ≠ .shelf →
    (islandOf s k).sleep = .nap →
    (islandOf s k).wakeAt = none →
    exec (.islandWake t k) s =
      .next (after t (setIsland k (fun i => { i with sleep := .awake, wakeAt := none })) s)) ∧
  (∀ (t k a : Nat) (s : State),
    k < 11 →
    s.core.mode ≠ .shelf →
    (islandOf s k).sleep = .nap →
    (islandOf s k).wakeAt = some a →
    a + (Sleep.nap).latency + us 10 < max s.now t →
    exec (.islandWake t k) s =
      .next (after t (fun s => record Ev.wakeLate 3 [(k : Int)] (setIsland k (fun i => { i with wakeLate := i.wakeLate + 1, heldIdle := true }) (setIsland k (fun i => { i with sleep := .awake, wakeAt := none }) s))) s)) ∧
  (∀ (t full present mv : Nat) (s : State),
    s.core.mode ≠ .shelf →
    9 * full ≤ 10 * present →
    45 ≤ full →
    2600 ≤ mv →
    exec (.cisternMeasure t full present mv) s =
      .next (after t (fun s => { s with core.cisternJ := full, core.cisternNow := present, core.backupMv := mv, core.cisternLow := false, core.cisternWorn := false, core.backupLow := false }) s)) ∧
  (∀ (t full present mv : Nat) (s : State),
    s.core.mode ≠ .shelf →
    10 * present < 9 * full →
    full < 45 →
    2600 ≤ mv →
    s.core.cisternLow = false →
    s.core.cisternWorn = false →
    exec (.cisternMeasure t full present mv) s =
      .next (after t (fun s => record Ev.cisternWorn 3 [(full : Int)] (record Ev.cisternLow 3 [(present : Int), full] { s with core.cisternJ := full, core.cisternNow := present, core.backupMv := mv, core.cisternLow := true, core.cisternWorn := true, core.backupLow := false })) s)) ∧
  (∀ (t a : Nat) (s : State),
    s.core.lastFaultRec = some a →
    a + 60000000000 ≤ max s.now t →
    s.core.mode ≠ .tripped →
    exec (.stFltHoldEnd t) s = .next (after t (fun s => { s with core.stFlt := false }) s)) ∧
  (∀ (t : Nat) (served : Bool) (s : State),
    exec (.supervisorWatchdog t served) s =
      .next (after t (fun s => { s with core.stOk := served && stOkIn s.core.mode }) s))

/-- PTP messages and domain rules change the time unit as R469 to R475 say. A first Announce of a domain sets its grandmaster and
pins the time route; an Announce of a worse data set than a live master changes nothing; a two-step Sync waits for the
Follow_Up of its sequence, which completes it; a Delay_Req of this module is stamped on transmit and sent, and one to a domain
whose master it is gets its Delay_Resp; a Delay_Resp of the request sent gives one path delay, kept among the last 16; loss
and preference are judged anew; a degraded domain recovers 8 s after the last notification. Where the spec leaves a point open
the clauses follow the model's choices: notes/assumptions/9, 29, 45. (16_time.md R469, R470, R471, R472, R475.) -/
def Obligations.TimeFromPtpDomains : Prop :=
  (∀ (t d num gm : Nat) (data : List Nat) (utc : Int) (s : State),
    ptpFor (clocked t s) d num = true →
    (domOf s d).announceAt = none →
    exec (.announce t d num gm data utc) s =
      .next (after t (fun s => pinRoute d (setDom d (fun x => { x with gm := gm, best := data.take 5 ++ [gm] ++ data.drop 5, announceAt := some s.now, utc := utc }) s)) s)) ∧
  (∀ (t d num gm a : Nat) (data : List Nat) (utc : Int) (s : State),
    ptpFor (clocked t s) d num = true →
    (domOf s d).announceAt = some a →
    max s.now t ≤ a + sec 3 →
    (domOf s d).gm ≠ gm →
    listLess (data.take 5 ++ [gm] ++ data.drop 5) (domOf s d).best = false →
    exec (.announce t d num gm data utc) s = .next (after t (fun s => s) s)) ∧
  (∀ (t d num seq : Nat) (origin rx corr : Int) (trace : Nat) (s : State),
    ptpFor (clocked t s) d num = true →
    leads (clocked t s) d = false →
    exec (.sync t d num seq origin rx corr true trace) s =
      .next (after t (fun s => setDom d (fun x => { x with sync := some (seq, rx, corr, trace) }) (judgeTraces d (setPlane d (fun p => { p with traces := (some trace, p.traces.2) }) s))) s)) ∧
  (∀ (t d num seq tr : Nat) (origin corr rx c : Int) (s : State),
    ptpFor (clocked t s) d num = true →
    (domOf s d).sync = some (seq, rx, c, tr) →
    exec (.followUp t d num seq origin corr) s = .next (after t (completeSync d (origin + ofNs (c + corr)) rx) s)) ∧
  (∀ (t d num seq src : Nat) (corr : Int) (s : State),
    ptpFor (clocked t s) d num = true →
    exec (.delayReq t d num seq true src corr) s =
      .next (after t (fun s => emit (.ptp num "Delay_Req" [("seq", [(seq : Int)])]) (setDom d (fun x => { x with req := some (seq, counterAt s s.now) }) s)) s)) ∧
  (∀ (t d num seq src : Nat) (corr : Int) (s : State),
    ptpFor (clocked t s) d num = true →
    leads (clocked t s) d = true →
    exec (.delayReq t d num seq false src corr) s =
      .next (after t (fun s => emit (.ptp num "Delay_Resp" [("seq", [(seq : Int)]), ("to", [(src : Int)]), ("receive", [counterAt s s.now]), ("correction", [corr])]) s) s)) ∧
  (∀ (t d num seq trace : Nat) (rx corr t3 : Int) (s : State),
    ptpFor (clocked t s) d num = true →
    (domOf s d).req = some (seq, t3) →
    exec (.delayResp t d num seq rx corr trace) s =
      .next (after t (fun s => let u := judgeTraces d (setPlane d (fun p => { p with traces := (p.traces.1, some trace) }) s); judgeTime (setDom d (fun x => { x with respAt := some u.now, req := none, paths := ((x.t12.map (fun p => [((p.2 - p.1) + (rx - ofNs corr - t3)) / 2])).getD [] ++ x.paths).take 16 }) u)) s)) ∧
  (∀ (t d : Nat) (s : State),
    d < 2 →
    exec (.domainLoss t d) s = .next (after t judgeTime s)) ∧
  (∀ (t d e : Nat) (s : State),
    (domOf s d).degraded = some e →
    e ≤ max s.now t →
    (planeOf s d).asym = false →
    exec (.domainDegradedEnd t d) s =
      .next (after t (fun s => judgeTime (setDom d (fun x => { x with degraded := none }) s)) s)) ∧
  (∀ (t : Nat) (s : State),
    exec (.timePrefReturn t) s = .next (after t judgeTime s))

/-- PPS, triggers and the time commands do what R476 to R486 say. A PPS edge enters the edge buffer and sets the input by its
corrected offset to the whole second; 1.5 s without one make the input invalid; PPS-OUT is driven for 100 ms at a whole second
unless gated or in Shelf; a due one-shot trigger strobes its island once and is spent; the triggers of PTP send the two-step
Sync of a master, and no other trigger sends PTP; TIME_STATUS and TIME_EDGES answer what they read; TIME_RESYNC steps the
selected source's offset out and TIME_SET steps the counter to the value given while no source is usable; both are refused
with CONTACTORS while an output is energised. Where the spec leaves a point open the clauses follow the model's choices:
notes/assumptions/24, 45. (16_time.md R469, R470, R476, R477, R478, R481, R482, R486.) -/
def Obligations.TimePpsTriggersAndCommands : Prop :=
  (∀ (t n : Nat) (s : State),
    n < 2 →
    s.core.mode ≠ .shelf →
    s.tim.servo = false →
    (ppsOf s n).at_ = none →
    exec (.ppsEdge t n) s =
      .next (after t (fun s => setPps n (fun p => { p with good := 1, at_ := some s.now, offset := some (toNs (signedOf 32 ((counterAt s s.now - ofNs (prm s (Prm.ppsADelay + n))) % 4294967296).toNat)) }) (captureEdge (0x0F + n) true (stampNow s) s)) s)) ∧
  (∀ (t n a : Nat) (s : State),
    (ppsOf s n).at_ = some a →
    a + 1500000000 ≤ max s.now t →
    exec (.ppsInvalid t n) s =
      .next (after t (fun s => judgeTime (setPps n (fun p => { p with valid := false, good := 0 }) s)) s)) ∧
  (∀ (t : Nat) (s : State),
    s.core.mode ≠ .shelf →
    prm s Prm.ppsOutGate = 0 →
    onGrid (clocked t s) { period := sec 1 } = true →
    exec (.ppsOut t) s =
      .next (after t (fun s => emit (.pulse "PPS-OUT" 100000000) { judgeTrace s with tim.ppsOut := true }) s)) ∧
  (∀ (t n : Nat) (s : State),
    n < s.tim.trig.length →
    n < 32 →
    s.core.mode ≠ .shelf →
    (s.tim.trig.getD n {}).on = true →
    (s.tim.trig.getD n {}).period = 0 →
    diff48 (s.tim.trig.getD n {}).time (stampNow (clocked t s)) ≤ 0 →
    exec (.triggerFire t n) s =
      .next (after t (fun s => ptpSend n (emit (.strobe (s.tim.trig.getD n {}).island n) { s with tim.trig := s.tim.trig.modify n (fun g => { g with fired := (g.fired + 1) % 2 ^ 32, on := g.period ≠ 0 }) })) s)) ∧
  (∀ (n : Nat) (s : State),
    (n < 16 ∨ 17 < n) →
    ptpSend n s = s) ∧
  (∀ (n : Nat) (s : State),
    (n = 16 ∨ n = 17) →
    ptpRuns s = true →
    leads s (n - 16) = true →
    onGrid s { period := sec 1 } = false →
    ptpSend n s = emit (.ptp (domNumber s (n - 16)) "Follow_Up" [("seq", [(((s.tim.trig.getD n {}).fired % 65536 : Nat) : Int)]), ("origin", [counterAt s s.now])]) (emit (.ptp (domNumber s (n - 16)) "Sync" [("seq", [(((s.tim.trig.getD n {}).fired % 65536 : Nat) : Int)]), ("twoStep", [1])]) s)) ∧
  (∀ (t m : Nat) (s : State),
    Pend s m Cmd.timeStatus [] →
    exec (.timeStatus t m) s = .next (read t m timeStatus s)) ∧
  (∀ (t m : Nat) (p : List Byte) (s : State),
    Pend s m Cmd.timeEdges p →
    p.length = 5 →
    1 ≤ byteAt p 4 →
    byteAt p 4 ≤ 64 →
    exec (.timeEdges t m) s =
      .next (read t m (fun s => .bytes (((s.tim.edges.filter (fun e => (e.seq + 2 ^ 32 - leAt p 0 4) % 2 ^ 32 < 2 ^ 31)).take (byteAt p 4)).flatMap edgeBytes)) s)) ∧
  (∀ (t m : Nat) (o : Int) (s : State),
    Pend s m Cmd.timeResync [] →
    anyEnergised s = false →
    pairMode s = false →
    s.tim.src < 2 →
    (domOf s s.tim.src).offset = some o →
    exec (.timeResync t m) s =
      .next (ended t m doneReply (fun s => setDom s.tim.src (fun x => { x with offset := some 0, t12 := none }) (stepCounter (counterAt s s.now - ofNs o) s)) s)) ∧
  (∀ (t m : Nat) (p : List Byte) (s : State),
    Pend s m Cmd.timeSet p →
    p.length = 8 →
    anyEnergised s = false →
    pairMode s = false →
    (∀ d < 2, (domOf s d).usableSince = none ∧ ppsGood s d = false) →
    exec (.timeSet t m) s = .next (ended t m doneReply (stepCounter (leAt p 0 8)) s)) ∧
  (∀ (t m : Nat) (s : State),
    Pend s m Cmd.timeResync [] →
    anyEnergised s = true →
    exec (.timeResync t m) s = .next (turnedAway t m (guardReply Ev.contactors) s)) ∧
  (∀ (t m : Nat) (p : List Byte) (s : State),
    Pend s m Cmd.timeSet p →
    p.length = 8 →
    anyEnergised s = true →
    exec (.timeSet t m) s = .next (turnedAway t m (guardReply Ev.contactors) s))

/-- Sweep marks, sweep data, polls, command windows and breaks of a cell ring do what R57 to R73 say. A mark starts the sweep of
every ring served at the next grid time, with an empty build, the charge at that mark and the current measured there; while
the collection of a ring has not ended 60 us before the launch, the mark is skipped and that ring is stretched; a stretched
collection is recorded; a through-mode frame with the right CRC, mark count and status counts at the ports it passed and
enters the sweep, and one with a wrong CRC counts the position of the slot it arrives in as delivered with no values; an end
whose poll is not answered in time stops; an open command window of a split ring sends its frames; a request without return
declares a break and polls from both ends once every slot has ended; a new sweep period takes effect at the first mark of its
second, with its trigger and BAL_MODE. Where the spec leaves a point open the clauses follow the model's choices:
notes/assumptions/8, 30, 48. (02_cell_ring.md R57, R58, R61, R62, R68, R70, R72, R73; 01_architecture.md R23.) -/
def Obligations.RingSweepAndBreak : Prop :=
  (∀ (t : Nat) (a b : Option Int) (c : Int) (s : State),
    [0, 1].filter (ringServed (clocked t s)) ≠ [] →
    s.core.mode ≠ .shelf →
    s.core.mode ≠ .dormant →
    nextMark (clocked t s) ≤ max s.now t + us s.rings.period + max (markLead s 0) (markLead s 1) →
    ([0, 1].filter (ringServed (clocked t s))).any (fun r => lateFor s (nextMark (clocked t s)) (ringOf s r)) = false →
    s.rings.nextPeriod = none →
    currentOf s a b = some c →
    exec (.sweepMark t a b) s =
      .next (after t (fun s => let T := nextMark s; eachDo ([0, 1].filter (ringServed s)) (fun r s => markRing r T s) { s with rings.sweepT := some T, rings.sweepI := (s.est.counter + (stringCurrent s).getD 0 * ((T : Int) - s.est.counterAt), c), rings.build := List.replicate 512 {}, rings.buildT := List.replicate 256 none }) s)) ∧
  (∀ (t r : Nat) (a b : Option Int) (s : State),
    r < 2 →
    ringServed (clocked t s) r = true →
    s.core.mode ≠ .shelf →
    s.core.mode ≠ .dormant →
    nextMark (clocked t s) ≤ max s.now t + us s.rings.period + max (markLead s 0) (markLead s 1) →
    lateFor s (nextMark (clocked t s)) (ringOf s r) = true →
    exec (.sweepMark t a b) s =
      .next (after t (fun s => { s with rings.ring := s.rings.ring.map (fun (x : Ring) => if lateFor s (nextMark s) x then { x with stretched := true } else x) }) s)) ∧
  (∀ (t r T : Nat) (s : State),
    (ringOf s r).mark = some T →
    T + us s.rings.period ≤ max s.now t + us 60 + markLead s r →
    exec (.sweepStretched t r) s =
      .next (after t (fun s => record Ev.sweepStretched 3 [(r : Int)] (setRing r (fun (x : Ring) => { x with stretched := true }) s)) s)) ∧
  (∀ (t r p : Nat) (f : List Byte) (s : State),
    r < 2 →
    ringServed (clocked t s) r = true →
    pollAt (clocked t s) r true = none →
    (ringOf s r).mark ≠ none →
    f.length = 64 →
    byteAt f 0 % 64 = p →
    byteAt f 1 = 0x90 →
    byteAt f 2 = 59 →
    leAt f 62 2 = crc16 (f.take 62) →
    1 ≤ p →
    p ≤ tapCount s r →
    (posOf s r p).got = false →
    leAt (f.drop 3) 0 1 = (posOf s r p).expect →
    leAt (f.drop 3) 1 2 = 0 →
    leAt f 4 2 = 0 →
    exec (.sweepDataReceive t r true f) s =
      .next (after t (fun s => let v := countResponse r p true s; let u := keepData r p (f.drop 3) false (setPos r p (fun (y : RingPos) => { y with got := true, late := false, resetup := y.resetup, recount := y.recount }) { v with rings.status := v.rings.status.set (tapIndex r p) 0 }); if throughDone u r then endCollection r u else u) s)) ∧
  (∀ (t r p : Nat) (f : List Byte) (s : State),
    r < 2 →
    ringServed (clocked t s) r = true →
    pollAt (clocked t s) r true = none →
    (ringOf s r).mark = some 0 →
    leAt f 62 2 ≠ crc16 (f.take 62) →
    p = (max s.now t - us 28) / us 23 + 1 →
    p ≤ tapCount s r →
    (posOf s r p).got = false →
    exec (.sweepDataReceive t r true f) s =
      .next (after t (fun s => let u := setPos r p (fun (y : RingPos) => { y with got := true }) (countResponse r p true s); if throughDone u r then endCollection r u else u) s)) ∧
  (∀ (t r h waited : Nat) (s : State),
    pollAt (clocked t s) r false = some h →
    us 30 + 2 * ((posOf s r h).outUp.getD 0) ≤ waited →
    exec (.collectPollTimeout t r false h waited) s =
      .next (after t (fun s => pollsEnded r (setRing r (fun (x : Ring) => { x with pollLow := none }) s)) s)) ∧
  (∀ (t r h waited : Nat) (s : State),
    pollAt (clocked t s) r true = some h →
    us 30 + 2 * ((posOf s r (tapCount s r + 1 - h)).outDn.getD 0) ≤ waited →
    exec (.collectPollTimeout t r true h waited) s =
      .next (after t (fun s => pollsEnded r (setRing r (fun (x : Ring) => { x with pollHigh := none }) s)) s)) ∧
  (∀ (t r : Nat) (s : State),
    r < 2 →
    ringServed (clocked t s) r = true →
    s.core.mode ≠ .shelf →
    s.core.mode ≠ .dormant →
    (ringOf s r).split = true →
    windowOpen (clocked t s) r = true →
    exec (.commandWindow t r) s = .next (after t (windowFrames r) s)) ∧
  (∀ (t r waited : Nat) (s : State),
    ringServed (clocked t s) r = true →
    (ringOf s r).split = false →
    (ringOf s r).locating = false →
    (ringOf s r).loop.getD 0 + us (prmN s Prm.returnTimeoutExtra) ≤ waited →
    exec (.ringBreak t r waited false) s =
      .next (after t (fun s => let low := max s.now (((ringOf s r).mark.map (fun T => T + us 8 + us 23 * tapCount s r)).getD s.now); ringSend r true true low 1 1 0x10 [] (ringSend r false true low 1 1 0x10 [] (setRing r (fun (x : Ring) => { x with locating := true, pollLow := some 1, pollHigh := some 1, pollsFrom := (low, low), ansLow := 0, ansHigh := 0, lateness := 0 }) s))) s)) ∧
  (∀ (t p a : Nat) (s : State),
    s.rings.nextPeriod = some (p, a) →
    a ≤ nextMark (clocked t s) + us 10 →
    exec (.sweepPeriodChange t) s =
      .next (after t (fun s => setPeriodic 0 4 (us p) 0 { impAbort Ev.impSweep s with rings.period := p, rings.nextPeriod := none, rings.balModeDue := [true, true] }) s))

/-- Enumeration, delay refresh, return to through mode and the tap tests do what R50 to R80 say. Enumeration learns a ring that is
not swept and serves a pending RESTART; a whole loop whose NOP returns with a HOP that counts more than 16 taps is
RING_TOO_LONG and TAP_COUNT_MISMATCH and is not swept; in an open command window: the delay table is refreshed at least every
10 s; a clean round trip counts a clean second of a split ring and an unclean one starts the count anew; the NOP goes round
either way; after the last window of the re-measurement the ring returns to through mode with its new loop delay; the FLT test
of the next tap is sent once its turn within FLT_TEST_INTERVAL has come and its loop has been closed for 1 s, and its dip is
stamped and judged; a READ_STATUS takes the CRC counts, and counts and frames that fill no block of 1,000 are added to the
running one. Where the spec leaves a point open the clauses follow the model's choices: notes/assumptions/8, 30, 48.
(02_cell_ring.md R50, R52, R54, R55, R67, R74, R80.) -/
def Obligations.RingEnumerationAndTests : Prop :=
  (∀ (t r : Nat) (o : RingObs) (lost : List Nat) (s : State),
    r < 2 →
    running s 1 = true →
    (ringOf s r).up = false →
    s.core.mode ≠ .shelf →
    s.core.mode ≠ .dormant →
    holdsToken s = true →
    s.thm.held = false →
    exec (.enumeration t r o lost) s =
      .next (after t (fun s => let u := eachDo lost loseCtx (enumerate r o s); ringRestarted { u with rings.enumDue := u.rings.enumDue.set r false }) s)) ∧
  (∀ (t m : Nat) (a b : RingObs) (s : State),
    Pend s m Cmd.reEnumerate [] →
    stopped s 1 = false →
    exec (.reEnumerate t m a b) s =
      .next (ended t m doneReply (fun s => enumerate 1 b (enumerate 0 a (impAbort Ev.impRing s))) s)) ∧
  (∀ (r : Nat) (o : RingObs) (s : State),
    loopWhole s o = true →
    o.back < 46 →
    enumerate r o s = (let u := setRing r (fun (x : Ring) => { x with up := false, split := false, brk := none, locating := false, enterSplit := false, mark := none, tooLong := false, loop := o.loop, pollLow := none, pollHigh := none, clean := 0, remeasure := none, slotSent := false, tested := none, stretched := false, refreshedAt := s.now, probed := (s.now, 0) }) s; let v := ringSend r true false s.now 65 62 0x00 [] { u with rings.window := u.rings.window.set r true }; record Ev.tapCountMismatch 3 [(r : Int), ((62 - o.back : Nat) : Int), (expectedTaps v r : Int)] (record Ev.ringTooLong 3 [(r : Int), ((62 - o.back : Nat) : Int)] (setRing r (fun (x : Ring) => { x with tooLong := true, mismatch := true }) v)))) ∧
  (∀ (t r : Nat) (rts : List (Option Nat × Option Nat)) (s : State),
    ringServed (clocked t s) r = true →
    windowOpen (clocked t s) r = true →
    (ringOf s r).refreshedAt + sec (min 10 (prmN s Prm.delayRemeasure)) ≤ max s.now t →
    exec (.delayTableRefresh t r rts) s =
      .next (after t (fun s => refreshDelays r (takeDelays r rts (setRing r (fun (x : Ring) => { x with refreshedAt := s.now }) s))) s)) ∧
  (∀ (t r : Nat) (s : State),
    ringServed (clocked t s) r = true →
    windowOpen (clocked t s) r = true →
    (ringOf s r).split = true →
    (ringOf s r).tested = none →
    exec (.splitRestoreTest t r false) s =
      .next (after t (fun s => setRing r (fun (x : Ring) => { x with tested := some (taiSecond s), clean := 0, slotSent := false, remeasure := none, waive := x.waive && x.remeasure.isNone }) (ringSend r true false s.now 1 62 0x00 [] s)) s)) ∧
  (∀ (t r : Nat) (s : State),
    ringServed (clocked t s) r = true →
    windowOpen (clocked t s) r = true →
    (ringOf s r).split = true →
    (ringOf s r).tested = none →
    (ringOf s r).hold = true →
    exec (.splitRestoreTest t r true) s =
      .next (after t (fun s => setRing r (fun (x : Ring) => { x with tested := some (taiSecond s), clean := (ringOf s r).clean + 1 }) (ringSend r true false s.now 1 62 0x00 [] s)) s)) ∧
  (∀ (t r loop a : Nat) (rts : List (Option Nat × Option Nat)) (s : State),
    ringServed (clocked t s) r = true →
    (ringOf s r).split = true →
    windowOpen (clocked t s) r = true →
    (ringOf s r).slotSent = true →
    (ringOf s r).remeasure = some a →
    a < stampAt (clocked t s) (nextMark (clocked t s) + us 10) / 2 ^ 32 →
    exec (.returnToThrough t r loop rts) s =
      .next (after t (fun s => let u := setRing r (fun (x : Ring) => { x with split := false, brk := none, locating := false, enterSplit := false, loop := some loop, remeasure := none, slotSent := false, clean := 0, waive := false, refreshedAt := s.now, pollLow := none, pollHigh := none }) s; let u := eachDo ((reached u r).filter (fun p => !(reached s r).contains p)) (fun p s => setPos r p (fun (y : RingPos) => { y with resetup := true }) s) (markUnreachable r u); record Ev.ringRestored 1 [(r : Int)] (refreshDelays r (takeDelays r rts u))) s)) ∧
  (∀ (t r p : Nat) (dip : Option Nat) (s : State),
    ringServed (clocked t s) r = true →
    windowOpen (clocked t s) r = true →
    ((reached s r).find? (fun p => (ringOf s r).fltNext ≤ p)).getD ((reached s r).headD 0) = p →
    p ≠ 0 →
    loopOpen s r = false →
    (ringOf s r).loopClosedAt + sec 1 ≤ max s.now t →
    lastFltTest (ringOf s r) + sec (prmN s Prm.fltTestInterval) / max (reached s r).length 1 ≤ max s.now t →
    exec (.fltTestDue t r dip) s =
      .next (after t (fun s => judgeDip r p dip (sendTap r p 0x08 [] (setRing r (fun (x : Ring) => { x with fltNext := p + 1 }) s))) s)) ∧
  (∀ (r p d : Nat) (s : State),
    us 8 ≤ d →
    d ≤ us 12 →
    judgeDip r p (some d) s = setRing r (fun (x : Ring) => { x with fltFail := x.fltFail &&& ~~~ BitVec.ofNat 16 (2 ^ (p - 1)) }) (let u := setPos r p (fun (x : RingPos) => { x with fltTestAt := s.now }) s; captureEdge 0x12 false (stampAt u (u.now + us 50)) u)) ∧
  (∀ (t i : Nat) (s : State),
    ringServed (clocked t s) (i / 16) = true →
    windowOpen (clocked t s) (i / 16) = true →
    (i % 16 + 1) ∈ reached s (i / 16) →
    exec (.tapStatusPoll t i) s = .next (after t (pollStatus (i / 16) (i % 16 + 1)) s)) ∧
  (∀ (r p : Nat) (s : State),
    (posOf (sendTap r p 0x06 [] s) r p).frUp < 1000 - (posOf (sendTap r p 0x06 [] s) r p).blkUp.1 →
    (posOf (sendTap r p 0x06 [] s) r p).frDn < 1000 - (posOf (sendTap r p 0x06 [] s) r p).blkDn.1 →
    pollStatus r p s = (let u := sendTap r p 0x06 [] s; let x := tapOf u (tapIndex r p); let y := posOf u r p; judgeMargin r false (setPos r p (fun (z : RingPos) => { z with crc := (x.crcUp, x.crcDn), blkUp := (y.blkUp.1 + y.frUp, y.blkUp.2 + (x.crcUp + 65536 - y.crc.1) % 65536), blkDn := (y.blkDn.1 + y.frDn, y.blkDn.2 + (x.crcDn + 65536 - y.crc.2) % 65536), overUp := y.overUp, overDn := y.overDn, frUp := 0, frDn := 0, statusAt := u.now }) u)))

/-- The commands of the ring function do what R81 and R82 say. RING_MAP and READ_SWEEP answer what they read; RING_RESTORE lifts
the hold, empties the split history and the clean count, and waives the clean seconds of a split ring; FLT_TEST_NOW queues
every reachable tap for its test; CLEAR_TRIPS waits for the command window of every swept ring, and in the window of the last
one it is broadcast, clears what the taps see clear and ends with the masks that remain; while the ring function is stopped
RING_RESTORE, RE_ENUMERATE, FLT_TEST_NOW and CLEAR_TRIPS are refused. Where the spec leaves a point open the clauses follow
the model's choices: notes/assumptions/8, 30, 48. (02_cell_ring.md R66, R67, R74, R81, R82.) -/
def Obligations.RingCommands : Prop :=
  (∀ (t m : Nat) (s : State),
    Pend s m Cmd.ringMap [] →
    exec (.ringMap t m) s = .next (read t m ringMap s)) ∧
  (∀ (t m : Nat) (s : State),
    Pend s m Cmd.ringRestore [] →
    stopped s 1 = false →
    exec (.ringRestore t m) s =
      .next (ended t m doneReply (fun s => { s with rings.ring := s.rings.ring.map (fun (x : Ring) => { x with hold := false, splits := [], waive := x.split, clean := 0 }) }) s)) ∧
  (∀ (t m : Nat) (dips : List (List (Option Nat))) (s : State),
    Pend s m Cmd.fltTestNow [] →
    stopped s 1 = false →
    s.rings.fltNow = none →
    [0, 1].flatMap (fun r => (reached s r).map (tapIndex r)) ≠ [] →
    exec (.fltTestNow t m dips) s =
      .next (going t m (fun s => { s with rings.fltNow := some (m, dips, [0, 1].flatMap (fun r => (reached s r).map (tapIndex r))) }) s)) ∧
  (∀ (t m : Nat) (volts : List (List (Option Int))) (s : State),
    Pend s m Cmd.clearTrips [] →
    stopped s 1 = false →
    s.rings.clearNow = none →
    [0, 1].filter (fun r => (ringOf s r).up) ≠ [] →
    exec (.clearTrips t m volts) s =
      .next (going t m (fun s => { s with rings.clearNow := some (m, volts, [0, 1].filter (fun r => (ringOf s r).up)) }) s)) ∧
  (∀ (r m : Nat) (volts : List (List (Option Int))) (s : State),
    s.rings.clearNow = some (m, volts, [r]) →
    clearNowFrames r s = (let u := sendAll r 0x07 [] { s with rings.clearNow := some (m, volts, []) }; let u := eachDo ((reached u r).filter (fun p => tapAwake u (tapIndex r p))) (fun p s => setTap (tapIndex r p) (clearTrips (volts.getD (tapIndex r p) [])) s) u; finishJob (some m) Cmd.clearTrips (doneWith (tripMasks u)) { u with rings.clearNow := none })) ∧
  (∀ (t m : Nat) (b : List Byte) (s : State),
    Pend s m Cmd.readSweep b →
    b.length = 3 →
    leAt b 2 1 ≠ 0 →
    leAt b 2 1 ≤ 64 →
    leAt b 0 2 + leAt b 2 1 ≤ 512 →
    exec (.readSweep t m) s =
      .next (read t m (fun s => .fields (("mark", [(((s.rings.mark.map (·.2)).getD 0 : Nat) : Int)]) :: (List.range (leAt b 2 1)).map (fun k => let y := cellOf s (leAt b 0 2 + k); ("cell", [(codeCell y.v : Int), (y.nib : Int), flag y.late, (y.lateness : Int)])))) s)) ∧
  (∀ (t m : Nat) (s : State),
    Pend s m Cmd.ringRestore [] →
    stopped s 1 = true →
    exec (.ringRestore t m) s = .next (turnedAway t m (guardReply Ev.functionStopped) s)) ∧
  (∀ (t m : Nat) (s : State),
    Pend s m Cmd.reEnumerate [] →
    stopped s 1 = true →
    exec (.reEnumerate t m ⟨none, 62, [], []⟩ ⟨none, 62, [], []⟩) s =
      .next (turnedAway t m (guardReply Ev.functionStopped) s)) ∧
  (∀ (t m : Nat) (s : State),
    Pend s m Cmd.fltTestNow [] →
    stopped s 1 = true →
    exec (.fltTestNow t m []) s = .next (turnedAway t m (guardReply Ev.functionStopped) s)) ∧
  (∀ (t m : Nat) (s : State),
    Pend s m Cmd.clearTrips [] →
    stopped s 1 = true →
    exec (.clearTrips t m []) s = .next (turnedAway t m (guardReply Ev.functionStopped) s))

/-- A tap treats the requests of R51 as R46 to R51 say. A request whose CRC is wrong is counted at the port it came in by, goes on
with a wrong CRC and has no other effect; a request of the wrong length is answered with CMD 0xFF and recorded; a request that
a tap hears is forwarded and acted on: NOP does nothing, ECHO answers empty, SET_DELAY, SET_THRESH, SET_MARK_COUNT and
SET_COLLECT store and echo, READ_STATUS reports and clears CLK_LOCK_LOST, CLEAR_TRIP answers the remaining masks, FLT_TEST
opens the switch for 10 us from 50 us on, RESET resets in silence, COLLECT answers the data of the last mark, and the
pass-through node answers PT_PROBE; a code that R51 does not name is answered with CMD 0xFF; a response goes on unchanged; the
pass-through node of a standby sends every request on as it is. Where the spec leaves a point open the clauses follow the
model's choices: notes/assumptions/8, 27, 30, 48. (02_cell_ring.md R46, R48, R49, R51, R61, R64, R67, R77.) -/
def Obligations.TapRequests : Prop :=
  (∀ (t : Nat) (q : TapReq) (s : State),
    1 ≤ q.pos →
    q.pos ≤ 16 →
    q.ring ≤ 1 →
    tapAwake s (tapIndex q.ring q.pos) = true →
    q.code = none →
    q.crc ≠ frameCrc q.addr 0x00 q.payload →
    reqRev q = false →
    exec (.nop t q) s =
      .next (after t (fun s => forwardRequest 0x00 false q (setTap (tapIndex q.ring q.pos) (fun (p : Tap) => { p with crcUp := (p.crcUp + 1) % 65536 }) s)) s)) ∧
  (∀ (t c : Nat) (q : TapReq) (s : State),
    1 ≤ q.pos →
    q.pos ≤ 16 →
    q.ring ≤ 1 →
    tapAwake s (tapIndex q.ring q.pos) = true →
    q.code = some c →
    c < 0x80 →
    c ∉ tapCodes →
    q.crc = frameCrc q.addr c q.payload →
    reqHop q = 1 →
    exec (.nop t q) s =
      .next (after t (fun s => let u := forwardRequest c true q s; record Ev.tapReject 3 [(q.ring : Int), q.pos, c] (respond q 0xFF [] u)) s)) ∧
  (∀ (t c : Nat) (q : TapReq) (s : State),
    1 ≤ q.pos →
    q.pos ≤ 16 →
    q.ring ≤ 1 →
    tapAwake s (tapIndex q.ring q.pos) = true →
    q.code = some c →
    0x80 ≤ c →
    q.crc = frameCrc q.addr c q.payload →
    forwardsBack (clocked t s) q (tapOf (clocked t s) (tapIndex q.ring q.pos)) = true →
    exec (.nop t q) s =
      .next (after t (emit (.tapFrame q.ring q.pos (!reqRev q) (frameWith q.addr c q.crc q.payload))) s)) ∧
  (∀ (t : Nat) (q : TapReq) (s : State),
    q.pos = 0 →
    q.ring ≤ 1 →
    passesThrough s = true →
    q.code = none →
    exec (.nop t q) s =
      .next (after t (emit (.tapFrame q.ring 0 (!reqRev q) (frameWith q.addr 0x00 q.crc q.payload))) s)) ∧
  (∀ (t : Nat) (q : TapReq) (s : State),
    TapHears s 0x00 q →
    q.payload ≠ [] →
    exec (.nop t q) s =
      .next (after t (fun s => let u := forwardRequest 0x00 true q s; record Ev.tapReject 3 [(q.ring : Int), q.pos, 0] (respond q 0xFF [] u)) s)) ∧
  (∀ (t : Nat) (q : TapReq) (s : State),
    TapHears s 0x00 q →
    q.payload = [] →
    exec (.nop t q) s = .next (after t (fun s => let u := forwardRequest 0x00 true q s; u) s)) ∧
  (∀ (t : Nat) (q : TapReq) (s : State),
    TapHears s 0x02 q →
    q.payload = [] →
    exec (.echo t q) s = .next (after t (fun s => let u := forwardRequest 0x02 true q s; respond q 0x82 [] u) s)) ∧
  (∀ (t : Nat) (q : TapReq) (s : State),
    TapHears s 0x03 q →
    q.payload.length = 4 →
    exec (.setDelay t q) s =
      .next (after t (fun s => let u := forwardRequest 0x03 true q s; respond q 0x83 q.payload (setTap (tapIndex q.ring q.pos) (fun (p : Tap) => { p with dUp := leAt q.payload 0 2, dDn := leAt q.payload 2 2, delayUnset := false }) u)) s)) ∧
  (∀ (t : Nat) (q : TapReq) (s : State),
    TapHears s 0x04 q →
    q.payload.length = 4 →
    exec (.setThresh t q) s =
      .next (after t (fun s => let u := forwardRequest 0x04 true q s; let v := setTap (tapIndex q.ring q.pos) (applyThresh (leAt q.payload 0 2) (leAt q.payload 2 2)) u; let p := tapOf v (tapIndex q.ring q.pos); let w := setPos q.ring q.pos (fun (x : RingPos) => { x with applied := some (p.ov, p.uv) }) v; respond q 0x84 (leBytes 2 p.ov ++ leBytes 2 p.uv) (if p.clamped then record Ev.threshClamped 3 [(q.ring : Int), q.pos, p.ov, p.uv] w else w)) s)) ∧
  (∀ (ov uv : Nat) (p : Tap),
    p.ovMin ≤ ov →
    ov ≤ p.ovMax →
    p.uvMin ≤ uv →
    uv ≤ p.uvMax →
    50 ∣ ov →
    50 ∣ uv →
    applyThresh ov uv p = { p with ov := ov, uv := uv, clamped := false }) ∧
  (∀ (ov uv : Nat) (p : Tap),
    p.ovMin ≤ p.ovMax →
    p.ovMax % 50 = 0 →
    p.ovMax < ov →
    p.uvMin ≤ uv →
    uv ≤ p.uvMax →
    50 ∣ uv →
    p.ovMax + 50 ≤ ov →
    applyThresh ov uv p = { p with ov := p.ovMax, uv := uv, clamped := true }) ∧
  (∀ (t : Nat) (q : TapReq) (s : State),
    TapHears s 0x05 q →
    q.payload.length = 1 →
    exec (.setMarkCount t q) s =
      .next (after t (fun s => let u := forwardRequest 0x05 true q s; respond q 0x85 q.payload (setTap (tapIndex q.ring q.pos) (fun (p : Tap) => { p with marks := leAt q.payload 0 1 }) u)) s)) ∧
  (∀ (t : Nat) (q : TapReq) (loopMa : Nat) (supply : Option Int) (quiet : Bool) (s : State),
    TapHears s 0x06 q →
    q.payload = [] →
    exec (.readStatus t q loopMa supply quiet) s =
      .next (after t (fun s => let u := forwardRequest 0x06 true q s; let v := setTap (tapIndex q.ring q.pos) (fun (p : Tap) => { p with loopMa := min loopMa 255, loopLow := loopMa < 30, supply := supply, uplinkLost := quiet }) u; let p := tapOf v (tapIndex q.ring q.pos); respond q 0x86 (leBytes 2 (statusWord v p) ++ leBytes 2 p.crcUp ++ leBytes 2 p.crcDn ++ leBytes 2 p.ovTrip.toNat ++ leBytes 2 p.uvTrip.toNat ++ leBytes 1 p.loopMa ++ voltBytes p.supply) (setTap (tapIndex q.ring q.pos) (fun (p : Tap) => { p with clkLost := false }) (if p.clkLost then record Ev.clkLockLost 3 [(q.ring : Int), q.pos] v else v))) s)) ∧
  (∀ (t : Nat) (q : TapReq) (volts : List (Option Int)) (s : State),
    TapHears s 0x07 q →
    q.payload = [] →
    exec (.clearTrip t q volts) s =
      .next (after t (fun s => let u := forwardRequest 0x07 true q s; let v := setTap (tapIndex q.ring q.pos) (clearTrips volts) u; respond q 0x87 (leBytes 2 (tapOf v (tapIndex q.ring q.pos)).ovTrip.toNat ++ leBytes 2 (tapOf v (tapIndex q.ring q.pos)).uvTrip.toNat) v) s)) ∧
  (∀ (t : Nat) (q : TapReq) (dip : Option Nat) (s : State),
    TapHears s 0x08 q →
    q.payload = [] →
    loopOpen s q.ring = false →
    exec (.fltTest t q dip) s =
      .next (after t (fun s => let u := forwardRequest 0x08 true q s; judgeDip q.ring q.pos dip (setTap (tapIndex q.ring q.pos) (fun (p : Tap) => { p with fltTest := some (u.now + us 50, u.now + us 60) }) u)) s)) ∧
  (∀ (t : Nat) (q : TapReq) (leads : List Nat) (testFail calFail : Bool) (s : State),
    TapHears s 0x09 q →
    q.payload = [] →
    exec (.tapReset t q leads testFail calFail) s =
      .next (after t (fun s => let u := forwardRequest 0x09 true q s; setTap (tapIndex q.ring q.pos) (resetTap u.now leads testFail calFail) u) s)) ∧
  (∀ (t : Nat) (q : TapReq) (rt : Option Nat) (s : State),
    q.pos = 0 →
    q.code = none →
    passesThrough s = true →
    q.crc = frameCrc q.addr 0x0A q.payload →
    q.payload = [] →
    exec (.ptProbe t q rt) s =
      .next (after t (fun s => respond q 0x8A [] { s with pair.probedAt := some s.now }) s)) ∧
  (∀ (t d : Nat) (q : TapReq) (s : State),
    q.pos = 0 →
    q.code = none →
    pairMode s = true →
    s.pair.standby = false →
    exec (.ptProbe t q (some d)) s =
      .next (after t (setRing q.ring (fun (x : Ring) => { x with passDelay := some (d / 2) })) s)) ∧
  (∀ (t : Nat) (q : TapReq) (rt : Option Nat) (s : State),
    TapHears s 0x0A q →
    q.payload = [] →
    exec (.ptProbe t q rt) s = .next (after t (fun s => let u := forwardRequest 0x0A true q s; u) s)) ∧
  (∀ (t : Nat) (q : TapReq) (s : State),
    TapHears s 0x0B q →
    q.payload.length = 1 →
    leAt q.payload 0 1 ≤ 1 →
    exec (.setCollect t q) s =
      .next (after t (fun s => let u := forwardRequest 0x0B true q s; respond q 0x8B q.payload (setTap (tapIndex q.ring q.pos) (fun (p : Tap) => { p with poll := leAt q.payload 0 1 == 1 }) u)) s)) ∧
  (∀ (t : Nat) (q : TapReq) (s : State),
    TapHears s 0x0B q →
    q.payload.length = 1 →
    1 < leAt q.payload 0 1 →
    exec (.setCollect t q) s =
      .next (after t (fun s => let u := forwardRequest 0x0B true q s; record Ev.tapReject 3 [(q.ring : Int), q.pos, 0x0B] (respond q 0xFF [] u)) s)) ∧
  (∀ (t : Nat) (q : TapReq) (quiet : Bool) (s : State),
    TapHears s 0x10 q →
    q.payload = [] →
    exec (.collect t q quiet) s =
      .next (after t (fun s => let u := forwardRequest 0x10 true q s; let v := setTap (tapIndex q.ring q.pos) (fun (p : Tap) => { p with uplinkLost := quiet }) u; respond q 0x90 (sweepPayload v (tapOf v (tapIndex q.ring q.pos))) v) s))

/-- A tap's sample, slot, comparators, clock and sleep do what R42 and R59 to R75 say. An accepted mark steps the mark counter and
takes every channel after the wait of the port it came by, corrected and marked where balance current flows; within 200 us of
a sample a mark is ignored; in slot mode the tap sends its data in its slot of 23 us from 8 us after the sample; a comparator
held beyond its threshold for 2 ms latches and ends both leases; a lost clock lock is noted; a tap sleeps after 5 ms without
activity and wakes on activity; the pass-through node sends a mark on. Where the spec leaves a point open the clauses follow
the model's choices: notes/assumptions/8, 27, 30, 48. (02_cell_ring.md R42, R54, R59, R60, R65, R75, R76; 03_balancing.md R85,
R91.) -/
def Obligations.TapEvents : Prop :=
  (∀ (t i : Nat) (rev : Bool) (volts temps : List (Option Int)) (loopLow : Bool) (grid : List (List Int)) (s : State),
    i < 32 →
    tapAwake s i = true →
    (tapOf s i).sampledAt = none →
    exec (.markReceived t i rev volts temps loopLow grid) s =
      .next (after t (fun s => let at_ := s.now + 20 * (if rev then (tapOf s i).dDn else (tapOf s i).dUp); let cells := (List.range 16).map (fun c => sampleCell { s with now := at_ } (tapOf s i) c (volts.getD c none)); setTap i (fun (p : Tap) => windowAtMark at_ rev grid { p with marks := (p.marks + 1) % 256, volts := cells.map (·.1), nibbles := cells.map (·.2), temps := (List.range 8).map (fun k => temps.getD k none), sampledAt := some at_, revMark := rev, loopLow := loopLow, uplinkLost := false }) s) s)) ∧
  (∀ (t i a : Nat) (rev : Bool) (volts temps : List (Option Int)) (loopLow : Bool) (grid : List (List Int)) (s : State),
    i < 32 →
    (tapOf s i).sampledAt = some a →
    max s.now t < a + us 200 →
    exec (.markReceived t i rev volts temps loopLow grid) s = .next (after t (fun s => s) s)) ∧
  (∀ (t i : Nat) (rev : Bool) (volts temps : List (Option Int)) (loopLow : Bool) (grid : List (List Int)) (s : State),
    32 ≤ i →
    i < 34 →
    passesThrough s = true →
    exec (.markReceived t i rev volts temps loopLow grid) s =
      .next (after t (fun s => emit (.mark (i - 32) (!rev) s.now) s) s)) ∧
  (∀ (t i a : Nat) (quiet : Bool) (s : State),
    tapAwake s i = true →
    (tapOf s i).sampledAt = some a →
    (tapOf s i).poll = false →
    (tapOf s i).revMark = false →
    a + us 8 + us 23 * (i % 16) ≤ max s.now t →
    max s.now t < a + us 8 + us 23 * (i % 16) + us 23 →
    exec (.tapSlotSend t i quiet) s =
      .next (after t (fun s => let v := setTap i (fun (p : Tap) => { p with uplinkLost := quiet }) s; emit (.tapFrame (i / 16) (i % 16 + 1) true (frameBytes (i % 16 + 1) 0x90 (sweepPayload v (tapOf v i)))) v) s)) ∧
  (∀ (t i c held : Nat) (v : Int) (s : State),
    (tapOf s i).fitted = true →
    ((tapOf s i).ov : Int) ≤ v →
    ms 2 ≤ held →
    exec (.cellComparatorTrip t i c true v held) s =
      .next (after t (setTap i (fun (p : Tap) => { endLeases p with ovTrip := p.ovTrip ||| BitVec.ofNat 16 (2 ^ c) })) s)) ∧
  (∀ (t i c held : Nat) (v : Int) (s : State),
    (tapOf s i).fitted = true →
    v ≤ ((tapOf s i).uv : Int) →
    ms 2 ≤ held →
    exec (.cellComparatorTrip t i c false v held) s =
      .next (after t (setTap i (fun (p : Tap) => { endLeases p with uvTrip := p.uvTrip ||| BitVec.ofNat 16 (2 ^ c) })) s)) ∧
  (∀ (t i : Nat) (s : State),
    tapAwake s i = true →
    exec (.clkLockLost t i) s = .next (after t (setTap i (fun (p : Tap) => { p with clkLost := true })) s)) ∧
  (∀ (t i quiet : Nat) (s : State),
    tapAwake s i = true →
    ms 5 ≤ quiet →
    exec (.tapSleep t i quiet) s = .next (after t (setTap i (fun (p : Tap) => { p with asleep := true })) s)) ∧
  (∀ (t i : Nat) (s : State),
    (tapOf s i).fitted = true →
    exec (.tapWake t i) s = .next (after t (setTap i (fun (p : Tap) => { p with asleep := false })) s))

/-- A tap's firmware commands and the swap timeout do what R51, R544 and R545 say. IDENTIFY answers the 23 identity bytes; FW_OPEN
opens an image of 1 to 98,304 bytes and erases the inactive bank, and any other length is rejected; FW_BLOCK keeps a block of
an open image; FW_CHECK answers the result and the bitmap of missing blocks and stages a complete image whose digest matches;
FW_SWAP restarts the tap from its other bank; a swapped tap that does not return within 100 ms is swapped back and the install
ends with TAP_FW_FAIL. Where the spec leaves a point open the clauses follow the model's choices: notes/assumptions/8, 27, 30,
48. (02_cell_ring.md R51; 19_update.md R544, R545.) -/
def Obligations.TapFirmwareRequests : Prop :=
  (∀ (t : Nat) (q : TapReq) (s : State),
    TapHears s 0x01 q →
    q.payload = [] →
    exec (.tapIdentify t q) s =
      .next (after t (fun s => let u := forwardRequest 0x01 true q s; respond q 0x81 (identifyBytes (tapOf u (tapIndex q.ring q.pos))) (tookIdentity (tapIndex q.ring q.pos) u)) s)) ∧
  (∀ (t : Nat) (q : TapReq) (s : State),
    TapHears s 0x40 q →
    q.payload.length = 36 →
    leAt q.payload 0 4 ≠ 0 →
    leAt q.payload 0 4 ≤ 98304 →
    exec (.fwOpen t q) s =
      .next (after t (fun s => let u := forwardRequest 0x40 true q s; respond q 0xC0 [] (setTap (tapIndex q.ring q.pos) (fun (p : Tap) => { p with fw := { p.fw with openLen := some (leAt q.payload 0 4), digest := q.payload.drop 4, blocks := [], staged := false, otherVer := none } }) u)) s)) ∧
  (∀ (t : Nat) (q : TapReq) (s : State),
    TapHears s 0x40 q →
    q.payload.length = 36 →
    98304 < leAt q.payload 0 4 →
    exec (.fwOpen t q) s =
      .next (after t (fun s => let u := forwardRequest 0x40 true q s; record Ev.tapReject 3 [(q.ring : Int), q.pos, 0x40] (respond q 0xFF [] u)) s)) ∧
  (∀ (t : Nat) (q : TapReq) (n : Nat) (s : State),
    TapHears s 0x41 q →
    q.payload.length = 130 →
    (tapOf s (tapIndex q.ring q.pos)).fw.openLen = some n →
    leAt q.payload 0 2 < blockCount n →
    exec (.fwBlock t q) s =
      .next (after t (fun s => let u := forwardRequest 0x41 true q s; setTap (tapIndex q.ring q.pos) (fun (p : Tap) => { p with fw := { p.fw with blocks := p.fw.blocks.filter (fun x => x.1 ≠ leAt q.payload 0 2) ++ [(leAt q.payload 0 2, q.payload.drop 2)] } }) u) s)) ∧
  (∀ (t : Nat) (q : TapReq) (s : State),
    TapHears s 0x42 q →
    q.payload = [] →
    exec (.fwCheck t q) s =
      .next (after t (fun s => let u := forwardRequest 0x42 true q s; let f := (tapOf u (tapIndex q.ring q.pos)).fw; respond q 0xC2 (leBytes 1 (fwResult f) ++ missingBitmap f) (tookCheck (tapIndex q.ring q.pos) (setTap (tapIndex q.ring q.pos) (fun (p : Tap) => { p with fw := { p.fw with staged := fwResult f = 0 } }) u))) s)) ∧
  (∀ (t : Nat) (q : TapReq) (ver : Nat) (leads : List Nat) (testFail calFail : Bool) (s : State),
    TapHears s 0x43 q →
    q.payload = [] →
    exec (.fwSwap t q ver leads testFail calFail) s =
      .next (after t (fun s => let u := forwardRequest 0x43 true q s; setTap (tapIndex q.ring q.pos) (swapBank u.now ver leads testFail calFail) u) s)) ∧
  (∀ (t i : Nat) (rest : List Nat) (j : Install) (s : State),
    s.upd.job = some j →
    j.todo = i :: rest →
    j.id = 9 →
    j.phase = 5 →
    j.since + ms 100 ≤ max s.now t →
    exec (.tapSwapTimeout t none) s =
      .next (after t (fun s => stepEnded (endInstall (causeReply .execFault Ev.tapFwFail) (sendTap (i / 16) (i % 16 + 1) 0x43 [] (record Ev.tapFwFail 3 [((i / 16 : Nat) : Int), ((i % 16 + 1 : Nat) : Int)] { s with upd.tapFail := true })))) s))

/-- A tap grants, refuses, suspends, resumes and ends balance leases as R85 to R95 say. BAL_LEASE sets both slots, with the
duration held to 1 to 500 ms, and answers both result codes, the duration and the converter temperature, and the module notes
the leases that run; before BAL_MODE a lease is refused with 0x06, with a latched trip with 0x03, for a channel above 15 or a
direction above 1 with 0x05; a free tap grants it; BAL_STOP ends the masked leases and answers which ran; BAL_MODE ends all;
an expired lease ends; above 105 degC both end; in gated mode current is suspended around the predicted sample and resumes; a
window suspends the channels it covers. Where the spec leaves a point open the clauses follow the model's choices:
notes/assumptions/31, 48. (03_balancing.md R85, R86, R87, R88, R90, R95.) -/
def Obligations.BalanceInTaps : Prop :=
  (∀ (t : Nat) (q : TapReq) (temp : Int) (s : State),
    TapHears s 0x20 q →
    q.payload.length = 6 →
    exec (.balLease t q temp) s =
      .next (after t (fun s => let u := forwardRequest 0x20 true q s; let dur := max 1 (min (leAt q.payload 4 2) 500); let v := setTap (tapIndex q.ring q.pos) (fun (p : Tap) => { p with convTemp := some temp }) u; let v := setTap (tapIndex q.ring q.pos) (leaseTap v q.payload dur) v; let p := tapOf v (tapIndex q.ring q.pos); let r0 := (p.slots.getD 0 {}).result; let r1 := (p.slots.getD 1 {}).result; let v := setPos q.ring q.pos (fun (x : RingPos) => { x with lastOk := r0 ≤ 1 && r1 ≤ 1 }) (noteRun q.ring q.pos v); respond q 0xA0 (leBytes 1 r0 ++ leBytes 1 r1 ++ leBytes 2 dur ++ tempBytes (some temp)) (if (1 < r0 && r0 ≠ 7) || (1 < r1 && r1 ≠ 7) then record Ev.balRefused 3 [(q.ring : Int), q.pos, r0, r1] v else v)) s)) ∧
  (∀ (s : State) (p : Tap) (x : Slot) (chan dir dur : Nat) (other : Option Nat),
    chan ≤ 15 →
    dir ≤ 1 →
    p.balMode = none →
    leaseSlot s p x chan dir dur false other = { x with chan := none, gated := false, impOff := false, result := 6 }) ∧
  (∀ (s : State) (p : Tap) (x : Slot) (chan dir dur m : Nat) (other : Option Nat),
    chan ≤ 15 →
    dir ≤ 1 →
    p.balMode = some (m == 1) →
    p.ovTrip ≠ 0 →
    leaseSlot s p x chan dir dur false other = { x with chan := none, gated := false, impOff := false, result := 3 }) ∧
  (∀ (s : State) (p : Tap) (x : Slot) (chan dir dur : Nat) (other : Option Nat),
    chan ≤ 15 →
    dir ≤ 1 →
    p.balMode = some false →
    p.ovTrip = 0 →
    p.uvTrip = 0 →
    p.convTemp = none →
    gateNow s p = false →
    impNow s p = false →
    x.chan = none →
    leaseSlot s p x chan dir dur false other = { x with chan := some chan, charge := dir == 1, since := s.now, ends := s.now + ms dur, flowsAt := s.now, gated := false, impOff := false, result := 0 }) ∧
  (∀ (t : Nat) (q : TapReq) (s : State),
    TapHears s 0x21 q →
    q.payload.length = 1 →
    leAt q.payload 0 1 ≤ 3 →
    exec (.balStop t q) s =
      .next (after t (fun s => let u := forwardRequest 0x21 true q s; let m := leAt q.payload 0 1; let p := tapOf u (tapIndex q.ring q.pos); let stops (k : Nat) : Bool := bitOf m k && leaseRuns u (p.slots.getD k {}); let cut (k : Nat) (x : Slot) : Slot := if bitOf m k then { x with chan := none, gated := false, impOff := false } else x; respond q 0xA1 (leBytes 1 (bit (stops 0) 0 + bit (stops 1) 1)) (noteRun q.ring q.pos (setTap (tapIndex q.ring q.pos) (fun (p : Tap) => { p with slots := [cut 0 (p.slots.getD 0 {}), cut 1 (p.slots.getD 1 {})] }) u))) s)) ∧
  (∀ (t : Nat) (q : TapReq) (s : State),
    TapHears s 0x22 q →
    q.payload.length = 5 →
    leAt q.payload 0 1 ≤ 1 →
    exec (.balMode t q) s =
      .next (after t (fun s => let u := forwardRequest 0x22 true q s; respond q 0xA2 q.payload (noteRun q.ring q.pos (setTap (tapIndex q.ring q.pos) (fun (p : Tap) => { endLeases p with balMode := some (leAt q.payload 0 1 == 1), balPeriod := leAt q.payload 1 4 }) u))) s)) ∧
  (∀ (t i k : Nat) (s : State),
    ((tapOf s i).slots.getD k {}).ends ≤ max s.now t →
    exec (.balLeaseExpiry t i k) s =
      .next (after t (setSlot i k (fun (x : Slot) => { x with chan := none, gated := false, impOff := false })) s)) ∧
  (∀ (t i : Nat) (temp : Int) (s : State),
    10500 < temp →
    exec (.balConverterOvertemp t i temp) s =
      .next (after t (fun s => setTap i endLeases (setTap i (fun (p : Tap) => { p with convTemp := some temp }) s)) s)) ∧
  (∀ (t i a : Nat) (s : State),
    (tapOf s i).balMode = some false →
    (tapOf s i).sampledAt = some a →
    a + us 160 ≤ max s.now t →
    a + us (tapOf s i).balPeriod ≤ max s.now t + us 40 →
    max s.now t < a + us 160 + us (tapOf s i).balPeriod →
    exec (.balGatedSuspend t i) s =
      .next (after t (setTap i (fun (p : Tap) => { p with slots := p.slots.map (fun (x : Slot) => { x with gated := x.chan.isSome }) })) s)) ∧
  (∀ (t i a : Nat) (s : State),
    (tapOf s i).sampledAt = some a →
    a + us 10 ≤ max s.now t →
    max s.now t + us 40 < a + us (tapOf s i).balPeriod →
    (tapOf s i).imp.window = none →
    (tapOf s i).imp.since = none →
    (tapOf s i).imp.endedAt = none →
    exec (.balResume t i) s =
      .next (after t (setTap i (fun (p : Tap) => { p with slots := p.slots.map (fun (x : Slot) => { x with gated := false, impOff := false }) })) s)) ∧
  (∀ (t i start len id : Nat) (s : State),
    (tapOf s i).imp.window = some (id, start, len) →
    (tapOf s i).imp.since.isSome = true →
    exec (.impWindowSuspend t i) s =
      .next (after t (fun s => setTap i (fun (p : Tap) => { p with slots := p.slots.map (fun (x : Slot) => { x with impOff := x.impOff || (x.chan.map (maskCovers (tapOf s i))).getD false }) }) s) s))

/-- The balance scheduler and its commands do what R87 and R97 to R104 say. Before its time a renewal does nothing; at its time
the charge moved is counted, the scheduler chooses for every reached tap where balancing grants leases and withdraws them
elsewhere, and the frames wait for or go out in the command window; BAL_STATUS and BAL_TOTALS answer what they read; BAL_FORCE
forces a lease of one cell for its seconds where its fields are in range and is refused otherwise, at the offset of the first
field out of range; the forced lease ends with its time or with BAL_RELEASE. The layout of BAL_FORCE is an open field of the
model (log entry 10). Where the spec leaves a point open the clauses follow the model's choices: notes/assumptions/10, 31, 48.
(03_balancing.md R87, R97, R98, R100, R101, R104.) -/
def Obligations.BalanceScheduler : Prop :=
  (∀ (t a : Nat) (s : State),
    s.rings.renewAt = some a →
    max s.now t < a + ms (prmN s Prm.balRenew) →
    exec (.balRenew t) s = .next (after t (fun s => s) s)) ∧
  (∀ (t a : Nat) (s : State),
    s.rings.renewAt = some a →
    a + ms (prmN s Prm.balRenew) ≤ max s.now t →
    exec (.balRenew t) s =
      .next (after t (fun s => let v := { s with rings.renewAt := some s.now }; let mean := meanOf (((List.range 512).filter (balUsable v)).map (fun c => (ctxOf v c).soc)); eachDo [0, 1] (fun r s => let s := eachDo (reached s r) (fun p s => countBalance r p s) s; if !balGrants s || !ringServed s r || s.rings.balModeDue.getD r false then eachDo (reached s r) (fun p s => setPos r p (fun (x : RingPos) => { x with sent := [none, none], leaseDue := false }) s) s else let s := eachDo (reached s r) (fun p s => setPos r p (fun (x : RingPos) => { x with sent := balChoice s mean r p, leaseDue := true, lastOk := false }) s) s; if windowOpen s r then sendLeases r s else s) v) s)) ∧
  (∀ (t m : Nat) (s : State),
    Pend s m Cmd.balStatus [] →
    exec (.balStatus t m) s = .next (read t m balStatus s)) ∧
  (∀ (t m : Nat) (b : List Byte) (s : State),
    Pend s m Cmd.balTotals b →
    b.length = 3 →
    leAt b 2 1 ≠ 0 →
    leAt b 2 1 ≤ 64 →
    leAt b 0 2 + leAt b 2 1 ≤ 512 →
    exec (.balTotals t m) s =
      .next (read t m (fun s => .fields [("totals", (List.range (leAt b 2 1)).flatMap (fun k => let x := ctxOf s (leAt b 0 2 + k); [(codedTotal x.balDis : Int), (codedTotal x.balChg : Int)]))]) s)) ∧
  (∀ (t m : Nat) (b : List Byte) (s : State),
    Pend s m Cmd.balForce b →
    exec (.balForce t m) s =
      .next (let f := Config.openField "BAL_FORCE" b; let off := fun (k : Nat) => (Config.openField "BAL_FORCE offset" b k).toNat; if f 0 < 0 ∨ 511 < f 0 then turnedAway t m (argReply Cmd.balForce (off 0)) s else if f 1 < 0 ∨ 1 < f 1 then turnedAway t m (argReply Cmd.balForce (off 1)) s else if f 2 < 1 ∨ 600 < f 2 then turnedAway t m (argReply Cmd.balForce (off 2)) s else ended t m doneReply (fun s => record Ev.balForced 1 [f 0, f 1, f 2] { s with rings.forced := s.rings.forced.filter (fun x => x.1 ≠ (f 0).toNat) ++ [((f 0).toNat, f 1 == 1, s.now + sec (f 2).toNat)] }) s)) ∧
  (∀ (t c e : Nat) (d : Bool) (s : State),
    (c, d, e) ∈ s.rings.forced →
    e ≤ max s.now t →
    exec (.balForceEnd t c) s =
      .next (after t (fun s => record Ev.balReleased 1 [(c : Int)] { s with rings.forced := s.rings.forced.filter (fun x => !(x.1 == c && decide (x.2.2 ≤ s.now))) }) s)) ∧
  (∀ (t m : Nat) (s : State),
    Pend s m Cmd.balRelease [] →
    exec (.balRelease t m) s =
      .next (ended t m doneReply (fun s => record Ev.balReleased 1 [] { s with rings.forced := [] }) s))

/-- Impedance windows and the taps' part in them do what R138 to R151 say. A lead begins only when the conditions hold, and takes
the next window number, its tones, its length and its start mark; at the start mark integration begins if every condition
still holds, else the window aborts with the failing cause; at the end mark the module fits the samples of its own grid, holds
the phasors in 32 bits, fades the excitation and begins the read-out of the armed taps from each serving end outward; a tap
whose window ends completely fits every channel that kept its leads; IMP_SETUP stores tones, samples and mask, and answers 2
while a window is armed; IMP_WINDOW arms a set-up tap for one of the next 127 marks, answers 1 without tones and 3 for length
0; IMP_READ answers result, valid mask and the kept phasors, and the module takes them; a line silent for more than 2 us
aborts a running window with result 1. Where the spec leaves a point open the clauses follow the model's choices:
notes/assumptions/9, 33, 48. (05_impedance.md R138, R139, R141, R142, R144, R145, R146, R147, R148, R149, R150.) -/
def Obligations.ImpedanceWindows : Prop :=
  (∀ (t : Nat) (s : State),
    s.imp.st ≠ .idle →
    exec (.impLeadStart t) s = .next (after t (fun s => s) s)) ∧
  (∀ (t : Nat) (s : State),
    s.imp.st = .idle →
    s.imp.toRead = [] →
    s.imp.stopTaps = [] →
    impFailing (clocked t s) false = none →
    spectrumFits (clocked t s) = true →
    s.imp.blocked = false →
    s.imp.specNow = false →
    heldFor (clocked t s) s.imp.lastSpec (sec (prmN s Prm.impSpectrumInterval)) = false →
    s.imp.lastTemp = none →
    exec (.impLeadStart t) s =
      .next (after t (fun s => if activeUsable s && excFits s (excPeak s) then let tones := [tTone (activeSet s)]; let t0 := nextGrid { s with now := s.now + us (leadLength s s.rings.period tones) } (us s.rings.period); { s with imp.st := .lead, imp.wid := (s.imp.wid + 1) % 256, imp.spectrum := false, imp.tones := tones, imp.t0 := (t0, stampAt s t0), imp.len := windowLength s.rings.period tones / max s.rings.period 1, imp.period := s.rings.period, imp.amp := excPeak s, imp.leadAt := s.now, imp.fade := none, imp.armed := [], imp.got := [], imp.cur := [], imp.disturbed := false, imp.gateOff := false, imp.takeover := false, imp.setupSent := [false, false] } else s) s)) ∧
  (∀ (t c : Nat) (s : State),
    s.imp.st = .lead →
    s.imp.t0.1 ≤ max s.now t →
    impFailing (clocked t s) true = some c →
    exec (.impWindowStart t) s = .next (after t (impAbort c) s)) ∧
  (∀ (t : Nat) (s : State),
    s.imp.st = .lead →
    s.imp.t0.1 ≤ max s.now t →
    impFailing (clocked t s) true = none →
    s.imp.spectrum = true →
    exec (.impWindowStart t) s =
      .next (after t (fun s => { s with imp.st := .integrating, imp.specNow := false, imp.lastSpec := s.now }) s)) ∧
  (∀ (t : Nat) (s : State),
    s.imp.st = .lead →
    s.imp.t0.1 ≤ max s.now t →
    impFailing (clocked t s) true = none →
    s.imp.spectrum = false →
    exec (.impWindowStart t) s =
      .next (after t (fun s => { s with imp.st := .integrating, imp.lastTemp := some s.now }) s)) ∧
  (∀ (t a i : Nat) (l : List Nat) (xs : List Int) (s : State),
    s.imp.st = .integrating →
    s.imp.t0.1 + us (s.imp.len * s.imp.period) ≤ max s.now t →
    (readOrder s).filter (s.imp.armed.contains ·) = i :: l →
    s.imp.tones = [a] →
    exec (.impWindowEnd t xs) s =
      .next (after t (fun s => let ys := xs.take (s.imp.len * s.imp.period / 25); let cur := (fitTones [a] ys).map hold32; { s with imp.fade := some (s.now, excAmp s), imp.st := .reading, imp.toRead := i :: l, imp.cur := cur, imp.disturbed := driftTooLarge s ys, imp.last := s.imp.last.filter (fun x => x.1 ≠ a) ++ [(a, s.imp.t0.2, cur.getD 0 (0, 0))] }) s)) ∧
  (∀ (t : Nat) (xs : List Int) (s : State),
    s.imp.st = .integrating →
    s.imp.t0.1 + us (s.imp.len * s.imp.period) ≤ max s.now t →
    (readOrder s).filter (s.imp.armed.contains ·) = [] →
    s.imp.tones = [] →
    exec (.impWindowEnd t xs) s =
      .next (after t (fun s => let ys := xs.take (s.imp.len * s.imp.period / 25); { s with imp.fade := some (s.now, excAmp s), imp.st := .idle, imp.toRead := [], imp.cur := [], imp.disturbed := driftTooLarge s ys }) s)) ∧
  (∀ (at_ id start len a : Nat) (rev : Bool) (grid : List (List Int)) (p : Tap),
    p.imp.window = some (id, start, len) →
    p.imp.since = some a →
    p.imp.revStart = rev →
    a + len * p.imp.samples * 25000 ≤ at_ + us 1 →
    windowAtMark at_ rev grid p = (let v := Nat.land p.imp.valid (maskOf (p.volts.map (·.isSome))); let fit := (List.range 16).map (fun c => if bitOf v c then fitTones p.imp.tones ((grid.getD c []).take (len * p.imp.samples)) else []); { p with imp.window := none, imp.since := none, imp.endedAt := some at_, imp.dropped := none, imp.valid := v, imp.done := some (id, 0, v, len * p.imp.samples, p.imp.tones), imp.phasors := (List.range p.imp.tones.length).map (fun k => fit.map (fun l => l.getD k (0, 0))) })) ∧
  (∀ (t : Nat) (q : TapReq) (n : Nat) (s : State),
    TapHears s 0x30 q →
    q.payload.length = 9 →
    leAt q.payload 0 1 = n →
    1 ≤ n →
    n ≤ 4 →
    (∀ k < n, leAt q.payload (1 + k) 1 ≤ 23) →
    (tapOf s (tapIndex q.ring q.pos)).imp.window = none →
    exec (.impSetup t q) s =
      .next (after t (fun s => let u := forwardRequest 0x30 true q s; let v := setTap (tapIndex q.ring q.pos) (fun (p : Tap) => { p with imp.tones := (List.range n).map (fun k => leAt q.payload (1 + k) 1), imp.samples := leAt q.payload 5 2, imp.mask := leAt q.payload 7 2 }) u; respond q 0xB0 (leBytes 1 0 ++ setupBytes (tapOf v (tapIndex q.ring q.pos)).imp) v) s)) ∧
  (∀ (t : Nat) (q : TapReq) (n : Nat) (s : State),
    TapHears s 0x30 q →
    q.payload.length = 9 →
    leAt q.payload 0 1 = n →
    1 ≤ n →
    n ≤ 4 →
    (tapOf s (tapIndex q.ring q.pos)).imp.window ≠ none →
    exec (.impSetup t q) s =
      .next (after t (fun s => let u := forwardRequest 0x30 true q s; respond q 0xB0 (leBytes 1 2 ++ setupBytes (tapOf u (tapIndex q.ring q.pos)).imp) u) s)) ∧
  (∀ (t : Nat) (q : TapReq) (s : State),
    TapHears s 0x31 q →
    q.payload.length = 6 →
    leAt q.payload 2 4 = 0 →
    exec (.impWindow t q) s =
      .next (after t (fun s => let u := forwardRequest 0x31 true q s; respond q 0xB1 (leBytes 1 3 ++ leBytes 1 (leAt q.payload 0 1)) (setTap (tapIndex q.ring q.pos) (endWindow u.now 3) u)) s)) ∧
  (∀ (t : Nat) (q : TapReq) (s : State),
    TapHears s 0x31 q →
    q.payload.length = 6 →
    leAt q.payload 2 4 ≠ 0 →
    (tapOf s (tapIndex q.ring q.pos)).imp.tones = [] →
    exec (.impWindow t q) s =
      .next (after t (fun s => let u := forwardRequest 0x31 true q s; respond q 0xB1 (leBytes 1 1 ++ leBytes 1 (leAt q.payload 0 1)) u) s)) ∧
  (∀ (t : Nat) (q : TapReq) (s : State),
    TapHears s 0x31 q →
    q.payload.length = 6 →
    leAt q.payload 2 4 ≠ 0 →
    (tapOf s (tapIndex q.ring q.pos)).imp.tones ≠ [] →
    (leAt q.payload 1 1 + 256 - (tapOf s (tapIndex q.ring q.pos)).marks) % 256 ≠ 0 →
    (leAt q.payload 1 1 + 256 - (tapOf s (tapIndex q.ring q.pos)).marks) % 256 ≤ 127 →
    exec (.impWindow t q) s =
      .next (after t (fun s => let u := forwardRequest 0x31 true q s; let v := setTap (tapIndex q.ring q.pos) (fun (p : Tap) => { p with imp.window := some (leAt q.payload 0 1, leAt q.payload 1 1, leAt q.payload 2 4), imp.since := none }) u; respond q 0xB1 (leBytes 1 0 ++ leBytes 1 (leAt q.payload 0 1)) (if v.imp.st == .lead && v.imp.wid == leAt q.payload 0 1 && !v.imp.armed.contains (tapIndex q.ring q.pos) then { v with imp.armed := v.imp.armed ++ [(tapIndex q.ring q.pos)] } else v)) s)) ∧
  (∀ (t : Nat) (q : TapReq) (valid count : Nat) (tones : List Nat) (s : State),
    TapHears s 0x32 q →
    q.payload.length = 1 →
    (tapOf s (tapIndex q.ring q.pos)).imp.window = none →
    (tapOf s (tapIndex q.ring q.pos)).imp.done = some (leAt q.payload 0 1, 0, valid, count, tones) →
    exec (.impRead t q) s =
      .next (after t (fun s => let u := forwardRequest 0x32 true q s; respond q 0xB2 (impReadBytes (tapOf s (tapIndex q.ring q.pos)) (leAt q.payload 0 1)) (if u.imp.st == .reading && u.imp.wid == leAt q.payload 0 1 && u.imp.toRead.contains (tapIndex q.ring q.pos) then readDone (tapIndex q.ring q.pos) (collectPhasors (tapIndex q.ring q.pos) valid (tapOf s (tapIndex q.ring q.pos)).imp.phasors u) else u)) s)) ∧
  (∀ (t i quiet : Nat) (s : State),
    us 2 < quiet →
    (tapOf s i).imp.since.isSome = true →
    exec (.tapImpLineLoss t i quiet) s = .next (after t (fun s => setTap i (endWindow s.now 1) s) s))

/-- The commands of the estimation and impedance functions do what R129 to R135 and R161 say. An update period runs when it is due
and the array works; contexts are saved at their interval and not under a write-forbid; CTX_READ answers 1 to 8 contexts,
deferred while the work does not fit; CTX_SUMMARY answers; CTX_REINIT re-initialises a range at rest and is refused with
CURRENT otherwise; CTX_CELLS keeps or renews the cells of a replaced tap; CAP_SET sets capacity and sigma; CHEM_READ and
CHEM_WRITE read and stage bytes of a chemistry set, the latter refused with NVM_TEMP under a write-forbid; CTX_CLEAR_FLAGS
clears W1C flags only; IMP_STATUS and IMP_RESULTS answer; IMP_SPECTRUM_NOW asks for a spectrum window unless blocked. Where
the spec leaves a point open the clauses follow the model's choices: notes/assumptions/9, 20, 32, 33, 48. (04_estimation.md
R122, R127, R129, R130, R131, R132, R133, R135; 05_impedance.md R140, R161.) -/
def Obligations.EstimationAndImpedanceCommands : Prop :=
  (∀ (t : Nat) (errs : List Nat) (s : State),
    estRuns s = true →
    s.est.lastAt = none →
    exec (.estUpdatePeriod t errs) s = .next (after t (updatePeriod errs) s)) ∧
  (∀ (t a : Nat) (errs : List Nat) (s : State),
    s.est.lastAt = some a →
    max s.now t < a + ms s.est.period →
    exec (.estUpdatePeriod t errs) s = .next (after t (fun s => s) s)) ∧
  (∀ (t : Nat) (s : State),
    estRuns s = true →
    s.est.saved = none →
    s.thm.forbid = false →
    exec (.ctxSave t) s = .next (after t (fun s => { s with est.saved := some (s.est.ctx, s.now) }) s)) ∧
  (∀ (t : Nat) (s : State),
    s.est.saved = none →
    s.thm.forbid = true →
    exec (.ctxSave t) s = .next (after t (fun s => s) s)) ∧
  (∀ (t m : Nat) (b : List Byte) (s : State),
    Pend s m Cmd.ctxRead b →
    b.length = 3 →
    leAt b 2 1 ≠ 0 →
    leAt b 2 1 ≤ 8 →
    leAt b 0 2 + leAt b 2 1 ≤ 512 →
    s.est.busy + s.est.reads + 800 * leAt b 2 1 ≤ engineCycles (begun t m s) 40 →
    exec (.ctxRead t m) s =
      .next (ended t m (doneWith (readContexts (begun t m s) b)) (fun s => { s with est.work := s.est.work ++ [(s.now, 800 * leAt b 2 1)], est.reads := s.est.reads + 800 * leAt b 2 1 }) s)) ∧
  (∀ (t m : Nat) (b : List Byte) (s : State),
    Pend s m Cmd.ctxRead b →
    b.length = 3 →
    leAt b 2 1 ≠ 0 →
    leAt b 2 1 ≤ 8 →
    leAt b 0 2 + leAt b 2 1 ≤ 512 →
    estRuns s = true →
    engineCycles (begun t m s) 40 < s.est.busy + s.est.reads + 800 * leAt b 2 1 →
    exec (.ctxRead t m) s = .next (going t m (fun s => { s with est.deferred := s.est.deferred ++ [m] }) s)) ∧
  (∀ (t m : Nat) (s : State),
    Pend s m Cmd.ctxSummary [] →
    exec (.ctxSummary t m) s = .next (read t m ctxSummary s)) ∧
  (∀ (t m a : Nat) (b : List Byte) (s : State),
    Pend s m Cmd.ctxReinit b →
    b.length = 4 →
    leAt b 2 2 ≠ 0 →
    leAt b 2 2 ≤ 512 →
    leAt b 0 2 + leAt b 2 2 ≤ 512 →
    s.est.restSince = some a →
    a + sec (prmN s Prm.restForOcv) ≤ max s.now t →
    exec (.ctxReinit t m) s =
      .next (ended t m doneReply (fun s => record Ev.socReinit 1 [(leAt b 0 2 : Int), leAt b 2 2] (eachCell b (reinitNow s) s)) s)) ∧
  (∀ (t m : Nat) (b : List Byte) (s : State),
    Pend s m Cmd.ctxReinit b →
    b.length = 4 →
    leAt b 2 2 ≠ 0 →
    leAt b 2 2 ≤ 512 →
    leAt b 0 2 + leAt b 2 2 ≤ 512 →
    s.est.restSince = none →
    exec (.ctxReinit t m) s = .next (turnedAway t m (guardReply Ev.current) s)) ∧
  (∀ (t m : Nat) (b : List Byte) (s : State),
    Pend s m Cmd.ctxCells b →
    b.length = 3 →
    leAt b 0 1 ≤ 1 →
    leAt b 1 1 ≠ 0 →
    leAt b 1 1 ≤ 16 →
    leAt b 2 1 = 0 →
    (posOf s (leAt b 0 1) (leAt b 1 1)).replaced = true →
    exec (.ctxCells t m) s =
      .next (ended t m doneReply (fun s => let u := setPos (leAt b 0 1) (leAt b 1 1) (fun (x : RingPos) => { x with replaced := false }) s; { u with est.ctx := u.est.ctx.mapIdx (fun c x => if c / 16 = (256 * leAt b 0 1 + 16 * (leAt b 1 1 - 1)) / 16 then { x with flags := ctxFlag 6 false x.flags } else x) }) s)) ∧
  (∀ (t m : Nat) (b : List Byte) (s : State),
    Pend s m Cmd.ctxCells b →
    b.length = 3 →
    leAt b 0 1 ≤ 1 →
    leAt b 1 1 ≠ 0 →
    leAt b 1 1 ≤ 16 →
    leAt b 2 1 = 1 →
    (posOf s (leAt b 0 1) (leAt b 1 1)).replaced = true →
    exec (.ctxCells t m) s =
      .next (ended t m doneReply (fun s => let u := setPos (leAt b 0 1) (leAt b 1 1) (fun (x : RingPos) => { x with replaced := false }) s; { u with est.ctx := u.est.ctx.mapIdx (fun c x => if c / 16 = (256 * leAt b 0 1 + 16 * (leAt b 1 1 - 1)) / 16 then { newAnswer u c x with flags := ctxFlag 6 false (newAnswer u c x).flags } else x) }) s)) ∧
  (∀ (t m : Nat) (b : List Byte) (s : State),
    Pend s m Cmd.capSet b →
    b.length = 10 →
    leAt b 2 2 ≠ 0 →
    leAt b 2 2 ≤ 512 →
    leAt b 0 2 + leAt b 2 2 ≤ 512 →
    exec (.capSet t m) s =
      .next (ended t m doneReply (eachCell b (fun (x : Ctx) => { x with cap := qOf (leAt b 4 4 : Nat) 1000, capSigma := qOf (leAt b 8 2 : Nat) 100, anchor := none })) s)) ∧
  (∀ (t m : Nat) (b : List Byte) (s : State),
    Pend s m Cmd.chemRead b →
    b.length = 5 →
    leAt b 0 1 ≤ 3 →
    leAt b 1 2 < 1024 →
    leAt b 3 2 ≠ 0 →
    leAt b 3 2 ≤ 256 →
    leAt b 1 2 + leAt b 3 2 ≤ 1024 →
    exec (.chemRead t m) s =
      .next (read t m (fun s => .bytes (((chemBytes s (leAt b 0 1)).drop (leAt b 1 2)).take (leAt b 3 2))) s)) ∧
  (∀ (t m : Nat) (b : List Byte) (s : State),
    Pend s m Cmd.chemWrite b →
    4 ≤ b.length →
    b.length ≤ 259 →
    leAt b 0 1 ≤ 3 →
    leAt b 1 2 + (b.length - 3) ≤ 1024 →
    s.thm.forbid = false →
    exec (.chemWrite t m) s =
      .next (ended t m doneReply (fun s => let k := leAt b 0 1; let old := (s.est.chemStaged.getD k none).getD (chemBytes s k); { s with est.chemStaged := s.est.chemStaged.set k (some (old.take (leAt b 1 2) ++ b.drop 3 ++ old.drop (leAt b 1 2 + (b.length - 3)))) }) s)) ∧
  (∀ (t m : Nat) (b : List Byte) (s : State),
    Pend s m Cmd.chemWrite b →
    4 ≤ b.length →
    b.length ≤ 259 →
    leAt b 0 1 ≤ 3 →
    leAt b 1 2 + (b.length - 3) ≤ 1024 →
    s.thm.forbid = true →
    exec (.chemWrite t m) s = .next (turnedAway t m (guardReply Ev.nvmTemp) s)) ∧
  (∀ (t m : Nat) (b : List Byte) (s : State),
    Pend s m Cmd.ctxClearFlags b →
    b.length = 6 →
    leAt b 2 2 ≠ 0 →
    leAt b 2 2 ≤ 512 →
    leAt b 0 2 + leAt b 2 2 ≤ 512 →
    BitVec.ofNat 16 (leAt b 4 2) &&& ~~~ w1cFlags = 0 →
    exec (.ctxClearFlags t m) s =
      .next (ended t m doneReply (eachCell b (fun (x : Ctx) => { x with flags := x.flags &&& ~~~ (BitVec.ofNat 16 (leAt b 4 2) &&& ~~~ raisedNow (begun t m s) x) })) s)) ∧
  (∀ (t m : Nat) (s : State),
    Pend s m Cmd.impStatus [] →
    exec (.impStatus t m) s = .next (read t m impStatus s)) ∧
  (∀ (t m : Nat) (b : List Byte) (s : State),
    Pend s m Cmd.impResults b →
    b.length = 4 →
    leAt b 0 1 ≤ 23 →
    leAt b 3 1 ≠ 0 →
    leAt b 3 1 ≤ 64 →
    leAt b 1 2 + leAt b 3 1 ≤ 512 →
    exec (.impResults t m) s =
      .next (read t m (fun s => let last := s.imp.last.find? (fun x => x.1 == leAt b 0 1); .fields [("T0", (last.map (fun x => [(x.2.1 : Int), x.2.2.1, x.2.2.2])).getD [0, 0, 0]), ("cells", (List.range (leAt b 3 1)).flatMap (fun k => resultInts s (leAt b 0 1) (leAt b 1 2 + k)))]) s)) ∧
  (∀ (t m : Nat) (s : State),
    Pend s m Cmd.impSpectrumNow [] →
    s.imp.blocked = false →
    exec (.impSpectrumNow t m) s = .next (ended t m doneReply (fun s => { s with imp.specNow := true }) s)) ∧
  (∀ (t m : Nat) (s : State),
    Pend s m Cmd.impSpectrumNow [] →
    s.imp.blocked = true →
    exec (.impSpectrumNow t m) s = .next (turnedAway t m (causeReply .badArgument Ev.impSpectrumBlocked) s))

/-- The phase-current cycle, the string-loop cycle and the sweep loops do what R172 to R180 say. In Shelf the cycles do nothing,
and none runs from a step of the counter to the restart of the triggers; without a holder of role P samples are taken and
nothing else; with one and gates off the winner is NONE, the applied value and the reference are 0 A and the ceilings follow
the least candidates; while switching the min-select sets the output; a string-loop cycle in Run ramps the request, in Hold
without regulation the request is 0 A; on sweep delivery the cell-voltage, derating and plating loops run. The applied value
of the min-select lies within its ceilings, whatever the request. Where the spec leaves a point open the clauses follow the
model's choices: notes/assumptions/9, 21, 34, 48. (06_control_engines.md R172, R173, R174, R176, R177, R180; 08_setpoints.md
R240, R244.) -/
def Obligations.CurrentAndStringLoops : Prop :=
  (∀ (t : Nat) (sh ha : Option Int) (ph : List (List Byte)) (vs vl : Option Int) (s : State),
    s.core.mode = .shelf →
    exec (.phaseCurrentCycle t sh ha ph vs vl) s = .next (after t (fun s => s) s)) ∧
  (∀ (t : Nat) (sh ha : Option Int) (ph : List (List Byte)) (vs vl : Option Int) (s : State),
    s.core.mode ≠ .shelf →
    holderOf s .p = none →
    cadenceHeld (clocked t s) = false →
    exec (.phaseCurrentCycle t sh ha ph vs vl) s =
      .next (after t (fun s => keepP (takeSamples ⟨sh, ha, ph, vs, vl⟩ s)) s)) ∧
  (∀ (t : Nat) (sh ha : Option Int) (ph : List (List Byte)) (vs vl : Option Int) (s : State),
    s.core.mode ≠ .shelf →
    (holderOf s .p).isSome = true →
    s.imp.st = .idle →
    (s.conv.st = .off ∨ s.conv.st = .retryWait) →
    cadenceHeld (clocked t s) = false →
    exec (.phaseCurrentCycle t sh ha ph vs vl) s =
      .next (after t (fun s => let u := keepP (takeSamples ⟨sh, ha, ph, vs, vl⟩ s); followCycle { noteWinner 0xFF false u with ctrl.applied := 0, ctrl.reference := 0, ctrl.ceil := ((leastOf (chargeCandidates u)).2, (leastOf (dischargeCandidates u)).2) }) s)) ∧
  (∀ (t : Nat) (sh ha : Option Int) (ph : List (List Byte)) (vs vl : Option Int) (s : State),
    s.core.mode ≠ .shelf →
    (holderOf s .p).isSome = true →
    s.imp.st = .idle →
    (s.conv.st = .softStart ∨ s.conv.st = .continuous ∨ s.conv.st = .burst) →
    cadenceHeld (clocked t s) = false →
    exec (.phaseCurrentCycle t sh ha ph vs vl) s =
      .next (after t (fun s => followCycle (switchingCycle (keepP (takeSamples ⟨sh, ha, ph, vs, vl⟩ s)))) s)) ∧
  (∀ (s : State) (r : Int) (code : Nat) (amp : Int),
    0 ≤ (minSelect s r code amp).ceil.1 →
    0 ≤ (minSelect s r code amp).ceil.2 →
    -(minSelect s r code amp).ceil.2 ≤ (minSelect s r code amp).applied ∧ (minSelect s r code amp).applied ≤ (minSelect s r code amp).ceil.1) ∧
  (∀ (s : State),
    s.ctrl.shuntFail = true →
    s.ctrl.hallFail = true →
    sensorCap s = 0) ∧
  (∀ (t : Nat) (vs vl : Option Int) (s : State),
    holderOf s .s = none →
    exec (.stringLoopCycle t vs vl) s = .next (after t (fun s => s) s)) ∧
  (∀ (t : Nat) (vs vl : Option Int) (s : State),
    (holderOf s .s).isSome = true →
    s.core.mode ≠ .shelf →
    cadenceHeld (clocked t s) = false →
    exec (.stringLoopCycle t vs vl) s =
      .next (after t (fun s => let u := keepS { s with disp.vStr := vs, disp.vLnk := vl }; let u := convertTarget { eachDo u.disp.imm takeTarget u with disp.imm := [] }; let u := if u.core.mode = .run then rampStep u else if regulating u && switching u then linkRegulation u else { u with disp.rp := 0, disp.vs := none, ctrl.request := 0 }; slewMargin (thermalModel (linkLimits (if u.conv.st = .off ∨ u.conv.st = .retryWait then u else currentCorrection u)))) s)) ∧
  (∀ (t : Nat) (s : State),
    (holderOf s .c).isSome = true →
    running s 5 = true →
    exec (.roleCSweep t) s = .next (after t (fun s => plating (derating (cellLoops (keepC s)))) s)) ∧
  (∀ (t : Nat) (s : State),
    holderOf s .c = none →
    exec (.roleCSweep t) s = .next (after t (fun s => s) s))

/-- Engine roles, following error and current sensors do what R182 to R198 say. A deadline with nothing late clears MISSED and the
runs; the third missed sample hands over to the shadow or stops the converter; a mismatch sends the shadow to its self-test; a
self-test decides between shadow and out of service; rotation passes the next role to the shadow, or is skipped with its
cause; a following error above its limit for its time goes to Hold, the third within 600 s trips; sensors in disagreement,
frozen or faulty fail; both failed leads to Hold and after 5 s to Tripped; a sensor recovers or is restored by command. Where
the spec leaves a point open the clauses follow the model's choices: notes/assumptions/9, 21, 34, 48. (06_control_engines.md
R182, R184, R185, R186, R187, R188, R190, R192, R193, R195, R196, R198.) -/
def Obligations.EnginesAndSensors : Prop :=
  (∀ (t x : Nat) (late : List Nat) (sl df : Bool) (s : State),
    3 ≤ x →
    exec (.roleDeadline t x late sl df) s = .next (after t (fun s => s) s)) ∧
  (∀ (t x : Nat) (late : List Nat) (sl df : Bool) (s : State),
    x < 3 →
    exec (.roleDeadline t x late sl df) s =
      .next (after t (fun s => let u := shadowDeadline x sl (activeDeadline x late sl s); if (late.filter (fun k => (loopsOfRole x).contains k)).isEmpty && !sl then compareShadow x df u else u) s)) ∧
  (∀ (s : State) (x a w : Nat),
    holderOf s .w = some w →
    handOver x a false s = raiseShadowAbsent (giveRole w (roleOfNum x) (removeEngine a s))) ∧
  (∀ (s : State) (x a : Nat),
    holderOf s .w = none →
    ∀ late : Bool, handOver x a late s = faultToHold Ev.ctrlDeadline [(x : Int)] s) ∧
  (∀ (t e : Nat) (pass : Bool) (s : State),
    e < 4 →
    (engOf s e).role = .selfTest →
    s.ctrl.resolving = none →
    exec (.engineSelfTestDone t e pass) s =
      .next (after t (fun s => let u := setEng e (fun g => { g with test := some pass }) s; judgeCapacity (if pass then giveRole e .w u else raiseShadowAbsent (removeEngine e u))) s)) ∧
  (∀ (t e : Nat) (pass : Bool) (s : State),
    e < 4 →
    (engOf s e).role = .out →
    (engOf s e).heldOut = false →
    exec (.engineSelfTestDone t e pass) s =
      .next (after t (setEng e (fun g => { g with test := some pass, ready := pass })) s)) ∧
  (∀ (t : Nat) (s : State),
    s.upd.job = none →
    rotationSkipped (clocked t s) = none →
    exec (.roleRotation t) s = .next (after t rotate s)) ∧
  (∀ (t c : Nat) (s : State),
    s.upd.job = none →
    rotationSkipped (clocked t s) = some c →
    exec (.roleRotation t) s = .next (after t promoteReady s)) ∧
  (∀ (t a : Nat) (s : State),
    (s.conv.st = .continuous ∨ s.conv.st = .burst) →
    s.ctrl.feSince = some a →
    a + ms (prmN s Prm.feTime) < max s.now t →
    exec (.followingError t) s =
      .next (after t (fun s => let err := followingDiff s / 65536; let times := within s (sec 600) s.ctrl.feTimes ++ [s.now]; let u := { s with ctrl.feTimes := times, ctrl.feSince := none }; if 3 ≤ times.length then trip Ev.followingError .sp [err] u else faultToHold Ev.followingError [err] u) s)) ∧
  (∀ (t : Nat) (s : State),
    s.ctrl.feSince = none →
    exec (.followingError t) s = .next (after t (fun s => s) s)) ∧
  (∀ (s : State) (i : Int),
    switching s = true →
    s.conv.st ≠ .burst →
    s.conv.st ≠ .softStart →
    stringCurrent s = some i →
    let u := { s with ctrl.feFilt := (feStep s.ctrl.feFilt.1 s.ctrl.reference, feStep s.ctrl.feFilt.2 i), ctrl.feCycles := ((s.ctrl.reference, i) :: s.ctrl.feCycles).take 200 }; followCycle s = { u with ctrl.feSince := if 65536 * prm s Prm.feLimit * iRated s < 32768 * ((u.ctrl.feFilt.1 - u.ctrl.feFilt.2).natAbs : Int) then some (s.ctrl.feSince.getD s.now) else none }) ∧
  (∀ (t : Nat) (sh ha : Int) (sum : Option Int) (held : Nat) (s : State),
    sensorsAgree s sh ha = true →
    exec (.sensorDisagree t sh ha sum held) s = .next (after t (fun s => s) s)) ∧
  (∀ (t : Nat) (sh ha : Int) (sum : Option Int) (held : Nat) (s : State),
    s.ctrl.shuntFail = false →
    s.ctrl.hallFail = false →
    sensorsAgree s sh ha = false →
    ms 5 ≤ held →
    sum = none →
    exec (.sensorDisagree t sh ha sum held) s = .next (after t (fun s => failSensor 1 (failSensor 0 s)) s)) ∧
  (∀ (t : Nat) (sh ha q : Int) (held : Nat) (s : State),
    s.ctrl.shuntFail = false →
    s.ctrl.hallFail = false →
    sensorsAgree s sh ha = false →
    ms 5 ≤ held →
    exec (.sensorDisagree t sh ha (some q) held) s =
      .next (after t (fun s => let q := if prm s Prm.hbSide = 0 then q else -q; let ds : Int := (2 * sh - q).natAbs; let dh : Int := (2 * ha - q).natAbs; if iRated s ≤ 50 * (ds - dh) then failSensor 0 s else if iRated s ≤ 50 * (dh - ds) then failSensor 1 s else failSensor 1 (failSensor 0 s)) s)) ∧
  (∀ (t x spread cyc duty : Nat) (s : State),
    x < 2 →
    exec (.sensorFrozen t x spread cyc duty true) s = .next (after t (failSensor x) s)) ∧
  (∀ (t x spread cyc duty : Nat) (s : State),
    x < 2 →
    spread ≤ 1 →
    64 ≤ cyc →
    328 < duty →
    exec (.sensorFrozen t x spread cyc duty false) s = .next (after t (failSensor x) s)) ∧
  (∀ (t a : Nat) (s : State),
    s.ctrl.shuntFail = true →
    s.ctrl.hallFail = true →
    s.ctrl.bothAt = some a →
    a + sec 5 ≤ max s.now t →
    s.core.mode ≠ .tripped →
    exec (.currentFeedbackLost t) s = .next (after t (tripHeld Ev.currentFeedbackLost .sp []) s)) ∧
  (∀ (t passed : Nat) (s : State),
    s.ctrl.shuntFail = true →
    s.ctrl.hallFail = true →
    sec 1 ≤ passed →
    exec (.sensorRecover t 0 passed true) s =
      .next (after t (fun s => { clearPresent Ev.currentFeedbackLost { s with ctrl.bothAt := none } with ctrl.shuntFail := false }) s)) ∧
  (∀ (t passed : Nat) (s : State),
    s.ctrl.shuntFail = true →
    s.ctrl.hallFail = true →
    sec 1 ≤ passed →
    exec (.sensorRecover t 1 passed true) s =
      .next (after t (fun s => { clearPresent Ev.currentFeedbackLost { s with ctrl.bothAt := none } with ctrl.hallFail := false }) s)) ∧
  (∀ (t m : Nat) (s : State),
    Pend s m Cmd.ctrlStatus [] →
    exec (.ctrlStatus t m) s = .next (read t m ctrlStatus s)) ∧
  (∀ (t m : Nat) (s : State),
    Pend s m Cmd.ctrlEngines [] →
    exec (.ctrlEngines t m) s = .next (read t m ctrlEngines s)) ∧
  (∀ (t m : Nat) (b : List Byte) (s : State),
    Pend s m Cmd.ctrlEngineReturn b →
    b.length = 1 →
    byteAt b 0 ≤ 3 →
    (engOf s (byteAt b 0)).role = .out →
    exec (.ctrlEngineReturn t m true) s =
      .next (ended t m doneReply (fun s => let e := byteAt b 0; let u := setEng e (fun g => { g with test := some true }) s; let vacant := ([EngRole.w, .p, .s, .c].find? (fun r => (holderOf u r).isNone)).getD .w; judgeCapacity (setEng e (fun g => { g with role := vacant, heldOut := false, ready := false, missRun := [0, 0, 0] }) { u with ctrl.shadowAbsent := u.ctrl.shadowAbsent && vacant != .w })) s)) ∧
  (∀ (t m : Nat) (b : List Byte) (s : State),
    Pend s m Cmd.ctrlEngineReturn b →
    b.length = 1 →
    byteAt b 0 ≤ 3 →
    (engOf s (byteAt b 0)).role = .out →
    exec (.ctrlEngineReturn t m false) s =
      .next (going t m (fun s => answerNow m (guardReply Ev.engineRemoved) (setEng (byteAt b 0) (fun g => { g with test := some false }) s)) s)) ∧
  (∀ (t m : Nat) (s : State),
    Pend s m Cmd.ctrlRotateNow [] →
    rotationSkipped (begun t m s) = none →
    exec (.ctrlRotateNow t m) s = .next (ended t m doneReply rotate s)) ∧
  (∀ (t m c : Nat) (s : State),
    Pend s m Cmd.ctrlRotateNow [] →
    rotationSkipped (begun t m s) = some c →
    exec (.ctrlRotateNow t m) s = .next (turnedAway t m (guardReply c) s)) ∧
  (∀ (t m a : Nat) (b : List Byte) (s : State),
    Pend s m Cmd.sensorRestore b →
    b.length = 1 →
    s.ctrl.agreeSince = some a →
    a + sec 10 ≤ max s.now t →
    byteAt b 0 = 0 →
    exec (.sensorRestore t m) s =
      .next (ended t m doneReply (fun s => clearPresent Ev.currentFeedbackLost { s with ctrl.shuntFail := false, ctrl.bothAt := none }) s)) ∧
  (∀ (t m a : Nat) (b : List Byte) (s : State),
    Pend s m Cmd.sensorRestore b →
    b.length = 1 →
    s.ctrl.agreeSince = some a →
    a + sec 10 ≤ max s.now t →
    byteAt b 0 = 1 →
    exec (.sensorRestore t m) s =
      .next (ended t m doneReply (fun s => clearPresent Ev.currentFeedbackLost { s with ctrl.hallFail := false, ctrl.bothAt := none }) s)) ∧
  (∀ (t m : Nat) (s : State),
    Pend s m Cmd.winTotals [] →
    exec (.winTotals t m) s =
      .next (read t m (fun s => .fields [("wins", s.ctrl.wins.map (fun w => ((w / 100000000 : Nat) : Int)))]) s))

/-- The modulator starts, times and ends its cycles, and bursts, as R203 to R221 say. While switching, a phase at its valley
starts its next cycle (or ends, where it is dropped), after a due swap of its control switch; an on-time estimate at the limit
turns the phase off and counts, the hit of the sixteenth cycle of a packet ends the packet, and the eighth in a row is a
soft-start failure or CBC_SUSTAINED; a phase that has made its 16 cycles of a packet ends at its valley; group boundaries,
once every active phase has started, advance the pointer, step the trims and start added phases; a trim at its bound for 100
ms is recorded; burst is entered after 20 ms below 4 percent and runs packets by its charge accumulator; switching starts and
retries where it may. Where the spec leaves a point open the clauses follow the model's choices: notes/assumptions/9, 22, 35,
48. (07_converter.md R206, R209, R211, R212, R213, R214, R215, R216, R217, R218, R219, R220.) -/
def Obligations.ModulatorCycles : Prop :=
  (∀ (t n : Nat) (bits : List Bool) (age : Nat) (s : State),
    (s.conv.st = .off ∨ s.conv.st = .retryWait) →
    exec (.valleyReached t n bits age) s = .next (after t (fun s => s) s)) ∧
  (∀ (t n : Nat) (bits : List Bool) (age : Nat) (s : State),
    s.conv.st = .continuous →
    ((phaseOf s n).active = true ∨ (phaseOf s n).dropping = true) →
    ((phaseOf s n).waiting = true ∨ atValley (clocked t s) (phaseOf s n) (estimate (clocked t s) (phaseOf s n) bits age) = true) →
    (phaseOf s n).dropping = true →
    exec (.valleyReached t n bits age) s = .next (after t (fun s => darkLane n (setPhase n phaseOff s)) s)) ∧
  (∀ (t n : Nat) (bits : List Bool) (age : Nat) (s : State),
    s.conv.st = .continuous →
    ((phaseOf s n).active = true ∨ (phaseOf s n).dropping = true) →
    ((phaseOf s n).waiting = true ∨ atValley (clocked t s) (phaseOf s n) (estimate (clocked t s) (phaseOf s n) bits age) = true) →
    (phaseOf s n).dropping = false →
    exec (.valleyReached t n bits age) s =
      .next (after t (fun s => startCycle n (setPhase n (fun p => { p with ctrlHs := p.ctrlHs != p.swap, swap := false }) s)) s)) ∧
  (∀ (t n : Nat) (bits : List Bool) (age : Nat) (s : State),
    s.conv.st = .burst →
    s.conv.packet ≠ 0 →
    (phaseOf s n).active = true →
    (phaseOf s n).dropping = false →
    (phaseOf s n).cycles = 16 →
    atValley (clocked t s) (phaseOf s n) (estimate (clocked t s) (phaseOf s n) bits age) = true →
    exec (.valleyReached t n bits age) s =
      .next (after t (fun s => let u := darkLane n (setPhase n phaseOff s); if (activePhases u).isEmpty then endPacket u else u) s)) ∧
  (∀ (s : State) (n f ton : Nat),
    nextCycle s (phaseOf s n) = some (f, ton) →
    startGranted s n = true →
    nearerWaits s n = false →
    (s.conv.st = .continuous ∨ s.conv.st = .burst) →
    startCycle n s = sendEdges n (cycleEdges s n (phaseOf s n) ton) (setPhase n (fun p => { p with tOn := ton, freq := f, startAt := s.now, onEnd := controlOn s n (phaseOf s n) + ton, waiting := false, started := true, cycles := p.cycles + 1, hit := false, run := if p.hit then p.run else 0 }) s)) ∧
  (∀ (s : State) (n : Nat),
    nextCycle s (phaseOf s n) = none →
    startCycle n s = faultToHold Ev.voltageRatio [((n + 1 : Nat) : Int)] s) ∧
  (∀ (t n : Nat) (bits : List Bool) (age : Nat) (s : State),
    switching s = true →
    ((phaseOf s n).active = true ∨ (phaseOf s n).dropping = true) →
    level (clocked t s) (prm s Prm.phaseIMax) ≤ ((estimate (clocked t s) (phaseOf s n) bits age).natAbs : Int) →
    (phaseOf s n).hit = false →
    (phaseOf s n).onEnd ≤ 4 * max s.now t + (phaseOf s n).tOn →
    4 * max s.now t < (phaseOf s n).onEnd →
    (phaseOf s n).run < 7 →
    s.conv.st ≠ .burst →
    exec (.limitHit t n bits age) s =
      .next (after t (fun s => let u := sendEdges n [(4 * s.now, 0), (4 * s.now + prmN s Prm.deadTime, switchState (phaseOf s n) false)] (setPhase n (fun p => { p with hits := (p.hits + 1) % 2 ^ 32, run := p.run + 1, hit := true, onEnd := 4 * s.now }) s); u) s)) ∧
  (∀ (t n : Nat) (bits : List Bool) (age : Nat) (s : State),
    switching s = true →
    ((phaseOf s n).active = true ∨ (phaseOf s n).dropping = true) →
    level (clocked t s) (prm s Prm.phaseIMax) ≤ ((estimate (clocked t s) (phaseOf s n) bits age).natAbs : Int) →
    (phaseOf s n).hit = false →
    (phaseOf s n).onEnd ≤ 4 * max s.now t + (phaseOf s n).tOn →
    4 * max s.now t < (phaseOf s n).onEnd →
    (phaseOf s n).run < 7 →
    s.conv.st = .burst →
    (phaseOf s n).cycles = 16 →
    exec (.limitHit t n bits age) s =
      .next (after t (fun s => let u := sendEdges n [(4 * s.now, 0), (4 * s.now + prmN s Prm.deadTime, switchState (phaseOf s n) false)] (setPhase n (fun p => { p with hits := (p.hits + 1) % 2 ^ 32, run := p.run + 1, hit := true, onEnd := 4 * s.now }) s); endPacket u) s)) ∧
  (∀ (t n : Nat) (bits : List Bool) (age : Nat) (s : State),
    switching s = true →
    ((phaseOf s n).active = true ∨ (phaseOf s n).dropping = true) →
    level (clocked t s) (prm s Prm.phaseIMax) ≤ ((estimate (clocked t s) (phaseOf s n) bits age).natAbs : Int) →
    (phaseOf s n).hit = false →
    (phaseOf s n).onEnd ≤ 4 * max s.now t + (phaseOf s n).tOn →
    4 * max s.now t < (phaseOf s n).onEnd →
    7 ≤ (phaseOf s n).run →
    s.conv.st = .softStart →
    exec (.limitHit t n bits age) s =
      .next (after t (fun s => let u := sendEdges n [(4 * s.now, 0), (4 * s.now + prmN s Prm.deadTime, switchState (phaseOf s n) false)] (setPhase n (fun p => { p with hits := (p.hits + 1) % 2 ^ 32, run := p.run + 1, hit := true, onEnd := 4 * s.now }) s); softStartFail 1 u) s)) ∧
  (∀ (t n : Nat) (bits : List Bool) (age : Nat) (s : State),
    switching s = true →
    ((phaseOf s n).active = true ∨ (phaseOf s n).dropping = true) →
    level (clocked t s) (prm s Prm.phaseIMax) ≤ ((estimate (clocked t s) (phaseOf s n) bits age).natAbs : Int) →
    (phaseOf s n).hit = false →
    (phaseOf s n).onEnd ≤ 4 * max s.now t + (phaseOf s n).tOn →
    4 * max s.now t < (phaseOf s n).onEnd →
    7 ≤ (phaseOf s n).run →
    s.conv.st ≠ .softStart →
    exec (.limitHit t n bits age) s =
      .next (after t (fun s => let u := sendEdges n [(4 * s.now, 0), (4 * s.now + prmN s Prm.deadTime, switchState (phaseOf s n) false)] (setPhase n (fun p => { p with hits := (p.hits + 1) % 2 ^ 32, run := p.run + 1, hit := true, onEnd := 4 * s.now }) s); faultToHold Ev.cbcSustained [((n + 1 : Nat) : Int)] u) s)) ∧
  (∀ (t : Nat) (s : State),
    switching s = true →
    groupDone s = true →
    s.conv.st ≠ .burst →
    exec (.cycleGroupBoundary t) s =
      .next (after t (fun s => let u := { s with conv.ptr := nextPointer (activePhases s) s.conv.ptr, conv.ph := (List.range 8).map (fun n => let p := stepTrim s n { phaseOf s n with started := false }; if p.adding && !p.dropping then { p with active := true, adding := false, waiting := true } else p) }; { u with conv.shares := (activePhases u).length }) s)) ∧
  (∀ (t : Nat) (s : State),
    groupDone s = false →
    exec (.cycleGroupBoundary t) s = .next (after t (fun s => s) s)) ∧
  (∀ (t n a : Nat) (s : State),
    (phaseOf s n).active = true →
    (phaseOf s n).limited = false →
    (phaseOf s n).boundSince = some a →
    a + ms 100 ≤ max s.now t →
    exec (.interleaveLimit t n) s =
      .next (after t (fun s => record Ev.interleaveLimit 3 [((n + 1 : Nat) : Int)] (setPhase n (fun p => { p with limited := true }) s)) s)) ∧
  (∀ (t a : Nat) (s : State),
    s.conv.st = .continuous →
    prm s Prm.burstEnable = 1 →
    belowBurst s = true →
    s.conv.lowSince = some a →
    a + ms 20 ≤ max s.now t →
    exec (.burstEntry t) s =
      .next (after t (fun s => impAbort Ev.impConverter (startPhases [] { s with conv.st := .burst, conv.acc := 0, conv.packet := 0, conv.packetN := 0, conv.na := 0, conv.burstExit := false, conv.lowSince := none, conv.frame := (burstGrid s).1 })) s)) ∧
  (∀ (t : Nat) (s : State),
    (s.conv.st ≠ .burst ∨ (burstGrid (clocked t s)).1 = s.conv.frame ∨ 1000 < (burstGrid (clocked t s)).2) →
    exec (.burstFrame t) s = .next (after t (fun s => s) s)) ∧
  (∀ (t : Nat) (s : State),
    s.conv.st = .burst →
    (s.conv.burstExit = true ∨ belowBurst s = false) →
    (burstGrid (clocked t s)).1 ≠ s.conv.frame →
    (burstGrid (clocked t s)).2 ≤ 1000 →
    exec (.burstFrame t) s = .next (after t leaveBurst s)) ∧
  (∀ (t : Nat) (s : State),
    s.conv.st = .burst →
    s.conv.burstExit = false →
    belowBurst s = true →
    (burstGrid (clocked t s)).1 ≠ s.conv.frame →
    (burstGrid (clocked t s)).2 ≤ 1000 →
    exec (.burstFrame t) s =
      .next (after t (fun s => let u := { s with conv.frame := (burstGrid s).1, conv.ph := s.conv.ph.map (fun (p : Phase) => { p with run := 0 }) }; let q := packetCharge u; let acc := clampTo (-q) q (u.conv.acc + u.ctrl.applied * 2000000); if q ≤ 2 * acc then runPacket 1 acc u else if 2 * acc ≤ -q then runPacket (-1) acc u else startPhases [] { u with conv.acc := acc, conv.packet := 0, conv.packetN := 0, conv.na := 0 }) s)) ∧
  (∀ (t : Nat) (vs vl : Int) (s : State),
    s.conv.st = .off →
    mayStart s = true →
    exec (.softStart t vs vl) s = .next (after t (beginSoftStart vs vl) s)) ∧
  (∀ (t : Nat) (vs vl : Int) (s : State),
    mayStart s = false →
    exec (.softStart t vs vl) s = .next (after t (fun s => s) s)) ∧
  (∀ (t : Nat) (vs vl : Int) (s : State),
    s.conv.st = .retryWait →
    s.conv.retryAt ≤ max s.now t →
    mayStart s = true →
    exec (.softStartRetry t vs vl) s = .next (after t (beginSoftStart vs vl) s))

/-- The gate lanes and the modulator's commands do what R222 to R232 say. A sideband frame goes out on every fitted lane; a bad
status frame counts an error; a good one is kept, and the third good frame in a row brings a training lane up; a fault flag of
an active phase turns the gates off; a fitted lane that is down trains; a lane with no valid byte for 2 us goes down, at once
to Hold where its phase was active; a driver without bytes for 2 us turns off; a desaturated driver latches; the status
commands answer; dead-time tables are read and staged, refused at the first entry beyond DEAD_TIME; LANE_RETRAIN trains every
fitted lane unless switching. Where the spec leaves a point open the clauses follow the model's choices: notes/assumptions/9,
22, 35, 48. (07_converter.md R223, R225, R226, R228, R229, R232.) -/
def Obligations.GateLanes : Prop :=
  (∀ (t : Nat) (s : State),
    exec (.sidebandFrame t) s = .next (after t (fun s => eachDo (fittedLanes s) sendSideband s) s)) ∧
  (∀ (t n : Nat) (b : List Byte) (s : State),
    statusValid b = false →
    exec (.gateStatusFrame t n b) s =
      .next (after t (setLane n (fun l => { l with errors := min (l.errors + 1) 65535, good := 0 })) s)) ∧
  (∀ (t n : Nat) (b : List Byte) (s : State),
    statusValid b = true →
    (laneOf s n).up = false →
    (laneOf s n).training = true →
    statusEchoes (laneOf s n) b = true →
    2 ≤ (laneOf s n).good →
    exec (.gateStatusFrame t n b) s =
      .next (after t (fun s => setLane n (fun l => { l with good := 3, training := false, up := true }) (setLane n (fun l => { l with last := some b, drvTimeout := false }) s)) s)) ∧
  (∀ (t n : Nat) (b : List Byte) (s : State),
    statusValid b = true →
    (laneOf s n).up = true →
    (laneOf s n).training = false →
    statusFaults b = false →
    exec (.gateStatusFrame t n b) s =
      .next (after t (setLane n (fun l => { l with last := some b, drvTimeout := false })) s)) ∧
  (∀ (t n : Nat) (b : List Byte) (s : State),
    statusValid b = true →
    (laneOf s n).up = true →
    (laneOf s n).training = false →
    statusFaults b = true →
    (phaseOf s n).active = true →
    switching s = true →
    exec (.gateStatusFrame t n b) s =
      .next (after t (fun s => faultToHold Ev.gateDriverFault [((n + 1 : Nat) : Int), byteAt b 2] (setLane n (fun l => { l with last := some b, drvTimeout := false }) s)) s)) ∧
  (∀ (t n : Nat) (s : State),
    (fittedLanes s).contains n = true →
    (laneOf s n).up = false →
    exec (.laneTrain t n) s =
      .next (after t (fun s => emit (.comma (n + 1) 64) (setLane n (fun l => { l with training := true, good := 0, up := false, clear := true, txOff := false }) s)) s)) ∧
  (∀ (t n q ns : Nat) (br : List Byte) (s : State),
    (laneOf s n).up = true →
    (us 2 ≤ q ∨ us 20 ≤ ns ∨ countersFollow br = false) →
    (phaseOf s n).active = true →
    switching s = true →
    exec (.laneDown t n q ns br) s =
      .next (after t (fun s => faultToHold Ev.laneDown [((n + 1 : Nat) : Int)] (setLane n (fun l => { l with up := false, good := 0 }) s)) s)) ∧
  (∀ (t n q ns : Nat) (br : List Byte) (s : State),
    (laneOf s n).up = true →
    (us 2 ≤ q ∨ us 20 ≤ ns ∨ countersFollow br = false) →
    (phaseOf s n).active = false →
    exec (.laneDown t n q ns br) s =
      .next (after t (fun s => record Ev.laneDown 4 [((n + 1 : Nat) : Int)] (setLane n (fun l => { l with up := false, good := 0 }) s)) s)) ∧
  (∀ (t n q : Nat) (s : State),
    us 2 ≤ q →
    exec (.laneTimeoutOff t n q) s =
      .next (after t (fun s => setLane n (fun l => { l with drvTimeout := true, txOff := l.txOff || !lanesLive s }) s) s)) ∧
  (∀ (t n : Nat) (hs : Bool) (s : State),
    exec (.driverDesat t n hs) s =
      .next (after t (fun s => setLane n (fun l => { l with drvDesat := (l.drvDesat.1 || hs, l.drvDesat.2 || !hs), drvDesatAt := s.now }) s) s)) ∧
  (∀ (t m : Nat) (s : State),
    Pend s m Cmd.modStatus [] →
    exec (.modStatus t m) s = .next (read t m modStatus s)) ∧
  (∀ (t m : Nat) (s : State),
    Pend s m Cmd.laneStatus [] →
    exec (.laneStatus t m) s = .next (read t m laneStatus s)) ∧
  (∀ (t m : Nat) (s : State),
    Pend s m Cmd.dtTableRead [] →
    exec (.dtTableRead t m) s =
      .next (read t m (fun s => .bytes (s.conv.dt.flatMap (leInt 2) ++ (s.conv.dtStaged.getD s.conv.dt).flatMap (leInt 2))) s)) ∧
  (∀ (t m : Nat) (b : List Byte) (s : State),
    Pend s m Cmd.dtTableWrite b →
    b.length = 64 →
    (∀ k < 32, (((signedOf 16 (leAt b (2 * k) 2)).natAbs : Nat) : Int) ≤ prm s Prm.deadTime) →
    exec (.dtTableWrite t m) s =
      .next (ended t m doneReply (fun s => { s with conv.dtStaged := some ((List.range 32).map (fun k => signedOf 16 (leAt b (2 * k) 2))) }) s)) ∧
  (∀ (t m : Nat) (s : State),
    Pend s m Cmd.laneRetrain [] →
    switching s = false →
    exec (.laneRetrain t m) s = .next (ended t m doneReply (fun s => eachDo (fittedLanes s) trainLane s) s)) ∧
  (∀ (t m : Nat) (s : State),
    Pend s m Cmd.laneRetrain [] →
    switching s = true →
    exec (.laneRetrain t m) s = .next (turnedAway t m (guardReply Ev.impConverter) s))

/-- SP_SET, SP_CANCEL, the queue, the watchdog and DISPATCH_STATUS do what R237 to R251 say. An immediate set-point in range joins
those that become targets at the next string-loop cycle, restarts the watchdog interval and answers an apply time of 0; a
timed one with lead enough is queued in apply-time order, replacing one of its group and time, unless 16 wait; a late one
within the grace is applied at once and flagged, else TOO_LATE; fields out of range, a stopped function, a source bit not set
refuse; SP_CANCEL takes back entries, keeping those already released; a due entry becomes its target; the watchdog sets the
fall-back target once. Where the spec leaves a point open the clauses follow the model's choices: notes/assumptions/23, 36,
49. (08_setpoints.md R234, R237, R238, R240, R241, R242, R243, R248, R251.) -/
def Obligations.SetPointRequests : Prop :=
  (∀ (t m : Nat) (p : List Byte) (s : State),
    Pend s m Cmd.spSet p →
    p.length = 16 →
    spBadField p = none →
    exec (.spSet t m) s =
      .next (going t m (fun s => let o := noteReject (decidePoint Cmd.spSet (⟨byteAt p 0, bitOf (byteAt p 1) 0, bitOf (byteAt p 1) 1, if bitOf (byteAt p 1) 2 then some (leAt p 4 2) else none, signedOf 16 (leAt p 2 2), leAt p 8 8, m⟩ : SpRequest) s); giveAnswer m (.ends o.1) o.2) s)) ∧
  (∀ (t m : Nat) (p : List Byte) (s : State),
    Pend s m Cmd.spSet p →
    p.length ≠ 16 →
    exec (.spSet t m) s =
      .next (going t m (fun s => answerNow m lengthReply { s with disp.lastReject := Status.badArgument }) s)) ∧
  (∀ (s : State) (q : SpRequest),
    q.kind ≠ 2 →
    stopped s 7 = false →
    bitOf (prmN s Prm.spSources) q.src = true →
    q.timed = false →
    decidePoint Cmd.spSet q s = (let u := if q.clear then armNext { s with disp.queue := afterClear s } else s; (doneWith (.bytes (leBytes 8 0 ++ leBytes 1 u.disp.queue.length ++ [0, 0, 0])), noteAccepted { u with disp.imm := u.disp.imm ++ [⟨q.kind, q.value, q.rate, 0, q.src, false⟩] }))) ∧
  (∀ (s : State) (q : SpRequest),
    q.kind ≠ 2 →
    stopped s 7 = true →
    q.timed = false →
    decidePoint Cmd.spSet q s = (guardReply Ev.functionStopped, s)) ∧
  (∀ (s : State) (q : SpRequest),
    q.kind ≠ 2 →
    stopped s 7 = false →
    bitOf (prmN s Prm.spSources) q.src = true →
    q.timed = true →
    timeUnits (us (prmN s Prm.spLeadMin)) ≤ diff48 q.apply (stampNow s) →
    diff48 q.apply (stampNow s) ≤ timeUnits (sec (prmN s Prm.spHorizon)) →
    (withoutSame ⟨q.kind, q.value, q.rate, q.apply, q.src, false⟩ (if q.clear then afterClear s else s.disp.queue)).length < 16 →
    decidePoint Cmd.spSet q s = (let p : SetPoint := ⟨q.kind, q.value, q.rate, q.apply, q.src, false⟩; let u := armNext (noteAccepted { s with disp.queue := insertPoint p (withoutSame p (if q.clear then afterClear s else s.disp.queue)) }); (spPayload q.apply u, u))) ∧
  (∀ (s : State) (q : SpRequest),
    q.kind ≠ 2 →
    stopped s 7 = false →
    bitOf (prmN s Prm.spSources) q.src = true →
    q.timed = true →
    diff48 q.apply (stampNow s) < timeUnits (us (prmN s Prm.spLeadMin)) →
    diff48 q.apply (stampNow s) ≤ timeUnits (sec (prmN s Prm.spHorizon)) →
    diff48 q.apply (stampNow s) < -timeUnits (us (prmN s Prm.spLateGrace)) →
    decidePoint Cmd.spSet q s = ({ status := .tooLate }, s)) ∧
  (∀ (s : State) (q : SpRequest),
    q.kind ≠ 2 →
    stopped s 7 = false →
    bitOf (prmN s Prm.spSources) q.src = true →
    q.timed = true →
    diff48 q.apply (stampNow s) < timeUnits (us (prmN s Prm.spLeadMin)) →
    diff48 q.apply (stampNow s) ≤ timeUnits (sec (prmN s Prm.spHorizon)) →
    -timeUnits (us (prmN s Prm.spLateGrace)) ≤ diff48 q.apply (stampNow s) →
    0 < timeUnits (us (prmN s Prm.spLateGrace)) →
    decidePoint Cmd.spSet q s = applyNow q true s) ∧
  (∀ (t : Nat) (p : SetPoint) (l : List SetPoint) (s : State),
    s.disp.queue = p :: l →
    diff48 p.apply (stampNow (clocked t s)) ≤ 0 →
    (∀ q ∈ l, 0 < diff48 q.apply (stampNow (clocked t s))) →
    exec (.setpointApply t) s =
      .next (after t (fun s => armNext { takeTarget p s with disp.queue := l, disp.watchdog := false, disp.watchAt := s.now }) s)) ∧
  (∀ (t : Nat) (s : State),
    s.disp.queue = [] →
    exec (.setpointApply t) s = .next (after t (fun s => s) s)) ∧
  (∀ (t : Nat) (s : State),
    prmN s Prm.spWatchdog ≠ 0 →
    s.disp.watchdog = false →
    stopped s 7 = false →
    s.disp.watchAt + ms (prmN s Prm.spWatchdog) ≤ max s.now t →
    s.core.mode ≠ .shelf →
    exec (.dispatchWatchdog t) s =
      .next (after t (fun s => record Ev.dispatchWatchdog 3 [prm s Prm.spFallback] { s with disp.target := ⟨0, prm s Prm.spFallback, none, 0, 9, false⟩, disp.watchdog := true, disp.imm := s.disp.imm.filter (·.kind == 2) }) s)) ∧
  (∀ (t : Nat) (s : State),
    s.disp.watchdog = true →
    exec (.dispatchWatchdog t) s = .next (after t (fun s => s) s)) ∧
  (∀ (t m : Nat) (b : List Byte) (s : State),
    Pend s m Cmd.spCancel b →
    b.length = 8 →
    stopped s 7 = false →
    (∀ p ∈ s.disp.queue, (leAt b 0 8 == 0 || low48 p.apply == low48 (leAt b 0 8)) = true → released (begun t m s) p = false) →
    exec (.spCancel t m) s =
      .next (ended t m doneReply (fun s => armNext { s with disp.queue := s.disp.queue.filter (fun p => !(leAt b 0 8 == 0 || low48 p.apply == low48 (leAt b 0 8)) || released s p) }) s)) ∧
  (∀ (t m : Nat) (b : List Byte) (s : State),
    Pend s m Cmd.spCancel b →
    b.length = 8 →
    stopped s 7 = true →
    exec (.spCancel t m) s = .next (turnedAway t m (guardReply Ev.functionStopped) s)) ∧
  (∀ (t m : Nat) (s : State),
    Pend s m Cmd.spQueueRead [] →
    exec (.spQueueRead t m) s =
      .next (read t m (fun s => .fields (s.disp.queue.map (fun p => ("entry", pointInts p)))) s)) ∧
  (∀ (t m : Nat) (s : State),
    Pend s m Cmd.dispatchStatus [] →
    exec (.dispatchStatus t m) s = .next (read t m (fun s => .bytes (dispatchStatus s)) s))

/-- Safety functions SF1 to SF4, SF8 and SF9, the demand waves and the fault loops act as R255 to R269 say. A safety-processor
wave silent for 300 us, an alive wave silent for 2 ms, Dome's demand, a delivered sweep, an open or shorted fault loop,
over-current for its time, an absent temperature, the end of the SF8 delay and stale samples each have the effect of their
rule: a trip under their own code while the safety function runs, a record while it is stopped; a demand already present does
nothing again. Where the spec leaves a point open the clauses follow the model's choices: notes/assumptions/25, 37, 49.
(09_safety_functions.md R255, R261, R262, R263, R264, R265, R268, R269, R298.) -/
def Obligations.SafetyDemands : Prop :=
  (∀ (code : Nat) (who : Finder) (data : List Int) (s : State),
    s.saf.present.contains code = false →
    stopped s 8 = false →
    sfDemand code who data s = tripHeld code who data s) ∧
  (∀ (code : Nat) (who : Finder) (data : List Int) (s : State),
    s.saf.present.contains code = false →
    stopped s 8 = true →
    sfDemand code who data s = record code 3 data (notePresent code s)) ∧
  (∀ (code : Nat) (who : Finder) (data : List Int) (s : State),
    s.saf.present.contains code = true →
    sfDemand code who data s = s) ∧
  (∀ (t held : Nat) (s : State),
    us 300 ≤ held →
    s.saf.domeDemand = false →
    s.saf.spDemand = false →
    stopped s 8 = false →
    exec (.spSilent t held) s = .next (after t (trip Ev.spSilent .dome []) s)) ∧
  (∀ (t held : Nat) (s : State),
    us 300 ≤ held →
    s.saf.domeDemand = false →
    s.saf.spDemand = true →
    exec (.spSilent t held) s = .next (after t (fun s => domeDemands s.saf.demandAt.isSome s) s)) ∧
  (∀ (t held : Nat) (s : State),
    (held < us 300 ∨ s.saf.domeDemand = true) →
    exec (.spSilent t held) s = .next (after t (fun s => s) s)) ∧
  (∀ (t held : Nat) (s : State),
    ms 2 ≤ held →
    s.saf.present.contains Ev.domeFault = false →
    stopped s 8 = false →
    exec (.domeFault t held) s = .next (after t (tripHeld Ev.domeFault .sp []) s)) ∧
  (∀ (t held : Nat) (s : State),
    held < ms 2 →
    exec (.domeFault t held) s = .next (after t (clearPresent Ev.domeFault) s)) ∧
  (∀ (t : Nat) (s : State),
    s.saf.domeDemand = true →
    exec (.domeDemand t) s = .next (after t (fun s => spDemands s.saf.domeOpenAt.isSome s) s)) ∧
  (∀ (t : Nat) (s : State),
    s.saf.domeDemand = false →
    exec (.domeDemand t) s = .next (after t (fun s => s) s)) ∧
  (∀ (o : Bool) (s : State),
    (spDemands o s).saf.spDemand = true ∧ (spDemands o s).saf.gateInhibit = true ∧ (spDemands o s).saf.ceilChg = 0 ∧ (spDemands o s).saf.ceilDis = 0) ∧
  (∀ (o : Bool) (s : State),
    (domeDemands o s).saf.domeDemand = true ∧ (domeDemands o s).saf.laneEnable = false) ∧
  (∀ (t : Nat) (s : State),
    exec (.sweepCheck t) s = .next (after t sweepCheck s)) ∧
  (∀ (t loop ma held : Nat) (s : State),
    loop < 2 →
    ma < 20 →
    us 40 ≤ held →
    s.saf.fltOpen.getD loop false = false →
    exec (.fltLoopOpen t loop ma held) s =
      .next (after t (fun s => let u := captureEdge (0x0C + loop) false (stampNow s) { s with saf.fltOpen := s.saf.fltOpen.set loop true, saf.classify := some s.now }; if stopped u 8 then notePresent Ev.fltLoop u else tripCore Ev.fltLoop .dome (notePresent Ev.fltLoop u)) s)) ∧
  (∀ (t loop ma held : Nat) (s : State),
    loop < 2 →
    20 ≤ ma →
    s.saf.fltOpen = [false, false] →
    exec (.fltLoopOpen t loop ma held) s = .next (after t (clearPresent Ev.fltLoop) s)) ∧
  (∀ (t loop ma held : Nat) (s : State),
    loop < 2 →
    20 ≤ ma →
    s.saf.fltOpen.getD loop false = true →
    exec (.fltLoopOpen t loop ma held) s =
      .next (after t (fun s => let u := captureEdge (0x0C + loop) true (stampNow s) s; let u := { u with saf.fltOpen := u.saf.fltOpen.set loop false, rings.ring := u.rings.ring.modify loop (fun (r : Ring) => { r with loopClosedAt := u.now }) }; if u.saf.fltOpen.all (! ·) then clearPresent Ev.fltLoop u else u) s)) ∧
  (∀ (t loop ma held : Nat) (s : State),
    60 < ma →
    ms 100 ≤ held →
    exec (.fltShort t loop ma held) s = .next (after t (sfDemand Ev.fltShort .dome [(loop : Int)]) s)) ∧
  (∀ (t loop ma held : Nat) (s : State),
    ma ≤ 60 →
    exec (.fltShort t loop ma held) s = .next (after t (clearPresent Ev.fltShort) s)) ∧
  (∀ (t x : Nat) (i : Int) (held : Nat) (s : State),
    prm s Prm.safeOcFast ≤ (i.natAbs : Int) →
    us 10 ≤ held →
    stopped s 8 = false →
    exec (.ocFastTrip t x i held) s = .next (after t (trip Ev.sf3 .dome [(x : Int), i]) s)) ∧
  (∀ (t x : Nat) (i : Int) (held : Nat) (s : State),
    ((i.natAbs : Int) < prm s Prm.safeOcFast ∨ held < us 10) →
    exec (.ocFastTrip t x i held) s = .next (after t (fun s => s) s)) ∧
  (∀ (t a : Nat) (s : State),
    s.saf.ocSince = some a →
    a + ms (prmN s Prm.safeOcTime) ≤ max s.now t →
    (s.ctrl.shuntFail = false ∨ s.ctrl.hallFail = false) →
    stopped s 8 = false →
    exec (.ocSlowTrip t) s =
      .next (after t (fun s => trip Ev.sf3 .sp [s.saf.iNow] { s with saf.ocSince := none }) s)) ∧
  (∀ (t : Nat) (s : State),
    s.saf.ocSince = none →
    exec (.ocSlowTrip t) s = .next (after t (fun s => s) s)) ∧
  (∀ (t c a : Nat) (s : State),
    cellFitted s c = true →
    s.saf.tAbsent.getD c none = some a →
    a + sec (prmN s Prm.safeTAbsentTime) ≤ max s.now t →
    exec (.sf4TAbsent t c) s = .next (after t (sfDemand Ev.sf4 .sp [(c : Int)]) s)) ∧
  (∀ (t a : Nat) (i : Int) (s : State),
    s.saf.sf8 = some (a, i) →
    a + sec (prmN s Prm.sf8Delay) ≤ max s.now t →
    ((siOf s 3).a.demand = true ∨ (siOf s 3).b.demand = true) →
    exec (.sf8DelayEnd t) s = .next (after t (fun s => sfDemand Ev.sf8 .both [] { s with saf.sf8 := none }) s)) ∧
  (∀ (t a : Nat) (i : Int) (s : State),
    s.saf.sf8 = some (a, i) →
    a + sec (prmN s Prm.sf8Delay) ≤ max s.now t →
    (siOf s 3).a.demand = false →
    (siOf s 3).b.demand = false →
    stopped s 8 = false →
    exec (.sf8DelayEnd t) s = .next (after t (fun s => trip Ev.sf8 .both [] { s with saf.sf8 := none }) s)) ∧
  (∀ (t : Nat) (s : State),
    s.saf.sf8 = none →
    exec (.sf8DelayEnd t) s = .next (after t (fun s => s) s)) ∧
  (∀ (t : Nat) (s : State),
    sf9Trigger (clocked t s) = true →
    exec (.sf9Stale t) s = .next (after t (sfDemand Ev.sf9 .sp []) s)) ∧
  (∀ (t : Nat) (s : State),
    sf9Trigger (clocked t s) = false →
    exec (.sf9Stale t) s = .next (after t (clearPresent Ev.sf9) s))

/-- The dual-channel inputs, test pulses and TRIP-IN act as R266 and R275 to R280 say. A channel at its demand level for 1 ms
demands, on the first channel already; below 1 ms or already demanding it does not; 10 ms out of demand release it, unless a
wiring fault holds it; channels that differ for the discrepancy time less 1 ms latch the input; a test pulse goes out and each
enabled channel is checked; an open TRIP-IN loop of 1 ms demands, a closed one clears. Where the spec leaves a point open the
clauses follow the model's choices: notes/assumptions/25, 37, 49. (09_safety_functions.md R266, R275, R276, R277, R278, R279,
R280.) -/
def Obligations.SafetyInputs : Prop :=
  (∀ (t i : Nat) (b : Bool) (held : Nat) (s : State),
    i < 4 →
    siEnabled s i = true →
    ms 1 ≤ held →
    ((siOf s i).chan b).demand = false →
    exec (.siChannelDemand t i b held) s =
      .next (after t (fun s => let lvl := demandLevel s i b; let stamp := stampAt s (s.now - held); channelDemand i b stamp (setSi i (fun x => x.setChan b (fun c => { c with high := lvl })) (captureEdge (2 * i + (if b then 1 else 0)) lvl stamp s))) s)) ∧
  (∀ (t i : Nat) (b : Bool) (held : Nat) (s : State),
    (held < ms 1 ∨ ((siOf s i).chan b).demand = true) →
    exec (.siChannelDemand t i b held) s = .next (after t (fun s => s) s)) ∧
  (∀ (t i : Nat) (b : Bool) (held : Nat) (s : State),
    i < 4 →
    siEnabled s i = true →
    ms 10 ≤ held →
    ((siOf s i).chan b).demand = true →
    (((siOf s i).chan b).wiring = false ∨ (siOf s i).bothDemanded = true) →
    exec (.siChannelRelease t i b held) s =
      .next (after t (fun s => let lvl := !demandLevel s i b; let u := captureEdge (2 * i + (if b then 1 else 0)) lvl (stampAt s (s.now - held)) s; let u := setSi i (fun x => timeDiscrepancy u.now (x.setChan b (fun c => { c with demand := false, high := lvl }))) u; if !(siOf u i).a.demand && !(siOf u i).b.demand then inputReleased i u else u) s)) ∧
  (∀ (t i : Nat) (b : Bool) (held : Nat) (s : State),
    ((siOf s i).chan b).wiring = true →
    (siOf s i).bothDemanded = false →
    exec (.siChannelRelease t i b held) s = .next (after t (fun s => s) s)) ∧
  (∀ (t i a : Nat) (s : State),
    i < 4 →
    (siOf s i).discSince = some a →
    (siOf s i).disc = false →
    a + ms (prmN s Prm.siDiscTime - 1) ≤ max s.now t →
    exec (.siDiscrepancy t i) s =
      .next (after t (fun s => record (Ev.si1Discrepancy + i) 3 [] (setSi i (fun x => { x with disc := true, bothDemanded := false }) s)) s)) ∧
  (∀ (t i : Nat) (s : State),
    (siOf s i).discSince = none →
    exec (.siDiscrepancy t i) s = .next (after t (fun s => s) s)) ∧
  (∀ (t tp : Nat) (low : List Bool) (s : State),
    tp < 2 →
    s.core.mode ≠ .shelf →
    s.con.supplyLow = false →
    s.thm.held = false →
    exec (.tpPulse t tp low) s =
      .next (after t (fun s => eachDo (List.range 8) (fun k => pulseCheck (k / 2) (k % 2 = 1) (k % 2 = tp) (low.getD k false)) (if s.pair.standby then s else emit (.pulse (if tp = 0 then "TP1" else "TP2") (us 200)) s)) s)) ∧
  (∀ (t ma held : Nat) (s : State),
    ma < 20 →
    ms 1 ≤ held →
    s.saf.tripInOpen = false →
    stopped s 8 = false →
    exec (.tripInOpen t ma held) s =
      .next (after t (fun s => let stamp := stampAt s (s.now - held); tripEdge 0x0E stamp Ev.tripInOpen .both [] (captureEdge 0x0E false stamp { s with saf.tripInOpen := true })) s)) ∧
  (∀ (t ma held : Nat) (s : State),
    20 ≤ ma →
    s.saf.tripInOpen = false →
    exec (.tripInOpen t ma held) s = .next (after t (clearPresent Ev.tripInOpen) s)) ∧
  (∀ (t ma held : Nat) (s : State),
    20 ≤ ma →
    s.saf.tripInOpen = true →
    exec (.tripInOpen t ma held) s =
      .next (after t (fun s => clearPresent Ev.tripInOpen { captureEdge 0x0E true (stampNow s) s with saf.tripInOpen := false }) s))

/-- The opening in the safe state and the twin-plane safety messages act as R259, R266 and R281 to R286 say. K3, K4 and K1 open
together once the current is low or 50 ms have passed since the demand; K2 after the gap, or at 50 ms; Dome opens its low-side
switches from 48 ms after its demand; a message that is not formed or not for this module changes nothing, one that is not
formed counts as stale; two equal copies of one message on both planes within 2 ms are accepted, unequal ones are a mismatch;
an accepted PLANT_STOP demands, its release by every master that sent it clears, a keep-alive restarts the watchdog, a trip
notice trips; a copy without a partner for 2 ms is an orphan; a silent link demands; one plane failed for 1 s is single-plane
operation, which ends 1 s after its return. Where the spec leaves a point open the clauses follow the model's choices:
notes/assumptions/25, 37, 49. (09_safety_functions.md R259, R260, R266, R281, R282, R283, R284, R285, R286;
10_contactors_precharge.md R315.) -/
def Obligations.SafeOpeningAndMessages : Prop :=
  (∀ (t a : Nat) (s : State),
    openingFrom s = some a →
    s.saf.spOpened = false →
    (currentLow s = true ∨ a + ms 50 ≤ max s.now t) →
    exec (.safeStateOpen t) s =
      .next (after t (fun s => { openCoil 0 (openCoil 3 (openCoil 2 s)) with saf.spOpened := true, saf.spOpenedAt := s.now }) s)) ∧
  (∀ (t a : Nat) (s : State),
    openingFrom s = some a →
    s.saf.spOpened = true →
    exec (.safeStateOpen t) s = .next (after t (fun s => s) s)) ∧
  (∀ (t a : Nat) (s : State),
    openingFrom s = some a →
    s.saf.spOpened = true →
    (s.saf.spOpenedAt + ms (prmN s Prm.kOrderGap) ≤ max s.now t ∨ a + ms 50 ≤ max s.now t) →
    exec (.k2OrderGap t) s = .next (after t (fun s => endOpening (openCoil 1 s)) s)) ∧
  (∀ (t : Nat) (s : State),
    openingFrom s = none →
    exec (.k2OrderGap t) s = .next (after t (fun s => s) s)) ∧
  (∀ (t a : Nat) (s : State),
    s.saf.domeDemand = true →
    s.saf.domeOpenAt = some a →
    a + ms 48 ≤ max s.now t →
    exec (.domeOpen t) s = .next (after t domeOpens s)) ∧
  (∀ (t : Nat) (s : State),
    s.saf.domeOpenAt = none →
    exec (.domeOpen t) s = .next (after t (fun s => s) s)) ∧
  (∀ (t pl : Nat) (b : List Byte) (s : State),
    messageFormed b = true →
    messageFor s b = false →
    exec (.plantStop t pl b) s = .next (after t (fun s => s) s)) ∧
  (∀ (t pl : Nat) (b : List Byte) (s : State),
    s.core.mode ≠ .shelf →
    s.thm.held = false →
    byteAt b 1 = 1 →
    messageFormed b = false →
    exec (.plantStop t pl b) s = .next (after t (fun s => { s with saf.stale := s.saf.stale + 1 }) s)) ∧
  (∀ (t pl : Nat) (b : List Byte) (s : State),
    messageFormed b = true →
    messageFor s b = false →
    exec (.plantStopRelease t pl b) s = .next (after t (fun s => s) s)) ∧
  (∀ (t pl : Nat) (b : List Byte) (s : State),
    s.core.mode ≠ .shelf →
    s.thm.held = false →
    byteAt b 1 = 2 →
    messageFormed b = false →
    exec (.plantStopRelease t pl b) s = .next (after t (fun s => { s with saf.stale := s.saf.stale + 1 }) s)) ∧
  (∀ (t pl : Nat) (b : List Byte) (s : State),
    messageFormed b = true →
    messageFor s b = false →
    exec (.safetyKeepalive t pl b) s = .next (after t (fun s => s) s)) ∧
  (∀ (t pl : Nat) (b : List Byte) (s : State),
    s.core.mode ≠ .shelf →
    s.thm.held = false →
    byteAt b 1 = 3 →
    messageFormed b = false →
    exec (.safetyKeepalive t pl b) s = .next (after t (fun s => { s with saf.stale := s.saf.stale + 1 }) s)) ∧
  (∀ (t pl : Nat) (b : List Byte) (s u : State),
    byteAt b 1 = 1 →
    takeCopy pl b (clocked t s) = (u, true) →
    exec (.plantStop t pl b) s =
      .next (after t (fun _ => if byteAt b 24 = 1 ∧ leAt b 4 2 = 0xFFFF then u else sfDemand Ev.plantStop .sp [(leAt b 2 2 : Int), leAt b 25 2] { u with saf.plantStop := if u.saf.plantStop.contains (leAt b 2 2) then u.saf.plantStop else u.saf.plantStop ++ [leAt b 2 2] }) s)) ∧
  (∀ (t pl : Nat) (b : List Byte) (s u : State),
    byteAt b 1 = 2 →
    takeCopy pl b (clocked t s) = (u, true) →
    exec (.plantStopRelease t pl b) s =
      .next (after t (fun _ => let l := u.saf.plantStop.filter (· ≠ leAt b 2 2); if l.isEmpty then clearPresent Ev.plantStop { u with saf.plantStop := l } else { u with saf.plantStop := l }) s)) ∧
  (∀ (t pl : Nat) (b : List Byte) (s u : State),
    byteAt b 1 = 3 →
    takeCopy pl b (clocked t s) = (u, true) →
    exec (.safetyKeepalive t pl b) s = .next (after t (fun _ => u) s)) ∧
  (∀ (b : List Byte) (r : Bool) (s : State),
    byteAt b 1 ≠ 4 →
    (acceptMessage b r s).saf.watchAt = s.now) ∧
  (∀ (pl : Nat) (b : List Byte) (s : State) (r : Bool) (c : SafeCopy),
    s.core.mode ≠ .shelf →
    s.thm.held = false →
    messageFormed b = true →
    messageFor s b = true →
    messageTimely s b = true →
    sequenceTest s (leAt b 2 2) (leAt b 8 4) (leAt b 12 8) = some r →
    s.saf.singlePlane = none →
    s.saf.copies = [c] →
    c.src = leAt b 2 2 →
    c.seq = leAt b 8 4 →
    c.plane ≠ pl →
    s.now ≤ c.at_ + ms 2 →
    c.bytes = b →
    takeCopy pl b s = (acceptMessage b r { s with saf.copies := [] }, true)) ∧
  (∀ (pl : Nat) (b : List Byte) (s : State) (r : Bool) (c : SafeCopy),
    s.core.mode ≠ .shelf →
    s.thm.held = false →
    messageFormed b = true →
    messageFor s b = true →
    messageTimely s b = true →
    sequenceTest s (leAt b 2 2) (leAt b 8 4) (leAt b 12 8) = some r →
    s.saf.singlePlane = none →
    s.saf.copies = [c] →
    c.src = leAt b 2 2 →
    c.seq = leAt b 8 4 →
    c.plane ≠ pl →
    s.now ≤ c.at_ + ms 2 →
    c.bytes ≠ b →
    takeCopy pl b s = (record Ev.safeMsgMismatch 3 [(leAt b 2 2 : Int), leAt b 8 4] { s with saf.copies := [], saf.mismatch := s.saf.mismatch + 1 }, false)) ∧
  (∀ (t pl : Nat) (b : List Byte) (s u : State),
    byteAt b 1 = 4 →
    pl < 2 →
    takeCopy pl b (clocked t s) = (u, true) →
    u.core.mode ≠ .tripped →
    insideCause (leAt b 26 2) = false →
    stopped u 8 = false →
    exec (.tripNotice t pl b) s =
      .next (after t (fun _ => trip Ev.tripNotice .sp [(leAt b 24 2 : Int), leAt b 26 2] u) s)) ∧
  (∀ (t src seq : Nat) (s : State) (c : SafeCopy),
    s.saf.copies = [c] →
    c.src = src →
    c.seq = seq →
    c.at_ + ms 2 < max s.now t →
    exec (.safeMsgOrphan t src seq) s =
      .next (after t (fun s => { s with saf.copies := [], saf.orphan := s.saf.orphan + 1 }) s)) ∧
  (∀ (t : Nat) (s : State),
    linkLost (clocked t s) = true →
    exec (.safeLinkLost t) s = .next (after t (sfDemand Ev.safeLinkLost .sp []) s)) ∧
  (∀ (t : Nat) (s : State),
    linkLost (clocked t s) = false →
    exec (.safeLinkLost t) s = .next (after t (fun s => s) s)) ∧
  (∀ (t p : Nat) (s : State),
    p < 2 →
    s.saf.singlePlane = none →
    (planeOf s p).failed = true →
    (planeOf s (1 - p)).failed = false →
    (planeOf s p).declaredAt + sec 1 ≤ max s.now t →
    exec (.singlePlane t p) s =
      .next (after t (fun s => record Ev.singlePlane 3 [(p : Int)] { s with saf.singlePlane := some p }) s)) ∧
  (∀ (t p : Nat) (s : State),
    s.saf.singlePlane = some p →
    (planeOf s p).failed = false →
    (planeOf s p).declaredAt + sec 1 ≤ max s.now t →
    exec (.matchedCopyReturn t) s = .next (after t (fun s => { s with saf.singlePlane := none }) s)) ∧
  (∀ (t : Nat) (s : State),
    s.saf.singlePlane = none →
    exec (.matchedCopyReturn t) s = .next (after t (fun s => s) s))

/-- Resetting safety, the seals and the safety sets follow R271 to R274, R287 to R292 and R297. SAFE_STATUS and SAFE_COUNTERS
answer; SAFE_RESET is refused with its first blocking cause, else it resets at once or, where TRIP-OUT is to be closed first,
waits 20 ms and reads TRIP-IN again; a reset releases every latch and demand and goes to Watch; a local acknowledgement lasts
10 minutes; a seal that changes is taken, SS5 and SS6 recorded as such, any other as a seal change; a set is read by its
number and confirmed by its CRC. Where the spec leaves a point open the clauses follow the model's choices:
notes/assumptions/25, 37, 49. (09_safety_functions.md R271, R272, R273, R287, R288, R289, R292, R297;
10_contactors_precharge.md R320.) -/
def Obligations.SafetyResetAndSets : Prop :=
  (∀ (t m : Nat) (s : State),
    Pend s m Cmd.safeStatus [] →
    exec (.safeStatus t m) s = .next (read t m safeStatus s)) ∧
  (∀ (t m : Nat) (s : State),
    Pend s m Cmd.safeCounters [] →
    exec (.safeCounters t m) s =
      .next (read t m (fun s => .fields ([("trips 24 h", s.saf.sf.map (fun (f : SfRec) => ((within s (sec 86400) f.trips24h).length : Int))), ("trips", s.saf.sf.map (fun (f : SfRec) => (f.tripsBoot : Int))), ("messages", [(s.saf.stale : Int), s.saf.mismatch, s.saf.orphan]), ("WIRING_FAULT", s.saf.si.flatMap (fun (x : SiInput) => [(x.a.wiringCount : Int), x.b.wiringCount]))])) s)) ∧
  (∀ (t m c : Nat) (s : State),
    Pend s m Cmd.safeReset [] →
    resetBlock (begun t m s) = some c →
    exec (.safeReset t m) s = .next (turnedAway t m (guardReply c) s)) ∧
  (∀ (t m : Nat) (s : State),
    Pend s m Cmd.safeReset [] →
    resetBlock (begun t m s) = none →
    s.saf.recheck = none →
    tripOutClosed s = true →
    s.saf.tripInOpen = false →
    s.saf.latched.contains Ev.tripInOpen = false →
    exec (.safeReset t m) s = .next (ended t m doneReply doReset s)) ∧
  (∀ (t m : Nat) (s : State),
    Pend s m Cmd.safeReset [] →
    resetBlock (begun t m s) = none →
    s.saf.recheck = none →
    tripOutClosed s = false →
    exec (.safeReset t m) s =
      .next (going t m (fun s => { s with saf.tripOutSp := true, saf.tripOutDome := true, saf.recheck := some (s.now, m) }) s)) ∧
  (∀ (t a m : Nat) (s : State),
    s.saf.recheck = some (a, m) →
    max s.now t < a + ms 20 →
    exec (.tripInRecheck t) s = .next (after t (fun s => s) s)) ∧
  (∀ (t a m c : Nat) (s : State),
    s.saf.recheck = some (a, m) →
    a + ms 20 ≤ max s.now t →
    resetBlock { (clocked t s) with saf.recheck := none } = some c →
    exec (.tripInRecheck t) s =
      .next (after t (fun s => let u := { s with saf.recheck := none }; finishJob (some m) Cmd.safeReset (guardReply c) u) s)) ∧
  (∀ (t a m : Nat) (s : State),
    s.saf.recheck = some (a, m) →
    a + ms 20 ≤ max s.now t →
    resetBlock { (clocked t s) with saf.recheck := none } = none →
    s.saf.tripInOpen = true →
    exec (.tripInRecheck t) s =
      .next (after t (fun s => let u := { s with saf.recheck := none }; finishJob (some m) Cmd.safeReset (guardReply Ev.tripInOpen) u) s)) ∧
  (∀ (t a m : Nat) (s : State),
    s.saf.recheck = some (a, m) →
    a + ms 20 ≤ max s.now t →
    resetBlock { (clocked t s) with saf.recheck := none } = none →
    s.saf.tripInOpen = false →
    exec (.tripInRecheck t) s =
      .next (after t (fun s => let u := { s with saf.recheck := none }; finishJob (some m) Cmd.safeReset doneReply (doReset u)) s)) ∧
  (∀ (s : State),
    (doReset s).saf.latched = [] ∧ (doReset s).saf.spDemand = false ∧ (doReset s).saf.domeDemand = false ∧ (doReset s).saf.gateInhibit = !(s.saf.loaded && running s 8) ∧ (doReset s).saf.demandAt = none ∧ (doReset s).core.mode = .watch) ∧
  (∀ (t a : Nat) (s : State),
    s.saf.ackAt = some a →
    a + sec 600 ≤ max s.now t →
    exec (.localAckExpiry t) s = .next (after t (fun s => { s with saf.ackAt := none }) s)) ∧
  (∀ (t : Nat) (s : State),
    s.saf.ackAt = none →
    exec (.localAckExpiry t) s = .next (after t (fun s => s) s)) ∧
  (∀ (t n : Nat) (on : Bool) (s : State),
    n < 8 →
    s.saf.sealsNow.getLsbD n ≠ on →
    n ≠ 4 →
    n ≠ 5 →
    exec (.sealChanged t n on) s =
      .next (after t (fun s => let m := BitVec.ofNat 8 (2 ^ n); let u := { s with saf.sealsNow := if on then s.saf.sealsNow ||| m else s.saf.sealsNow &&& ~~~ m }; record Ev.sealChanged 6 [((n + 1 : Nat) : Int), flag on] { u with saf.sealChanged := true }) s)) ∧
  (∀ (t : Nat) (on : Bool) (s : State),
    s.saf.sealsNow.getLsbD 4 ≠ on →
    exec (.sealChanged t 4 on) s =
      .next (after t (fun s => let m := BitVec.ofNat 8 (2 ^ 4); record Ev.ss5 1 [flag on] { s with saf.sealsNow := if on then s.saf.sealsNow ||| m else s.saf.sealsNow &&& ~~~ m }) s)) ∧
  (∀ (t : Nat) (on : Bool) (s : State),
    s.saf.sealsNow.getLsbD 5 ≠ on →
    exec (.sealChanged t 5 on) s =
      .next (after t (fun s => let m := BitVec.ofNat 8 (2 ^ 5); record Ev.ss6 1 [flag on] { s with saf.sealsNow := if on then s.saf.sealsNow ||| m else s.saf.sealsNow &&& ~~~ m }) s)) ∧
  (∀ (t n : Nat) (on : Bool) (s : State),
    s.saf.sealsNow.getLsbD n = on →
    exec (.sealChanged t n on) s = .next (after t (fun s => s) s)) ∧
  (∀ (t m : Nat) (b : List Byte) (s : State),
    Pend s m Cmd.safeSetRead b →
    b.length = 1 →
    byteAt b 0 ≤ 15 →
    exec (.safeSetRead t m) s =
      .next (read t m (fun s => let x := setOf s (byteAt b 0); .fields [("values", x.vals), ("CRC", [(setCrc x : Int)]), ("confirmed", [flag x.confirmed])]) s)) ∧
  (∀ (t m : Nat) (b : List Byte) (s : State),
    Pend s m Cmd.safeSetConfirm b →
    b.length = 5 →
    byteAt b 0 ≤ 15 →
    leAt b 1 4 = setCrc (setOf s (byteAt b 0)) →
    exec (.safeSetConfirm t m) s =
      .next (ended t m doneReply (fun s => { s with saf.sets := s.saf.sets.modify (byteAt b 0) (fun x => { x with confirmed := true }) }) s)) ∧
  (∀ (t m : Nat) (b : List Byte) (s : State),
    Pend s m Cmd.safeSetConfirm b →
    b.length = 5 →
    byteAt b 0 ≤ 15 →
    leAt b 1 4 ≠ setCrc (setOf s (byteAt b 0)) →
    exec (.safeSetConfirm t m) s = .next (turnedAway t m (argReply Cmd.safeSetConfirm 1) s))

/-- Auxiliary feedback, coil currents and test pulses act as R300 to R308 say. A feedback edge is taken, confirms a closing that
was requested or ends a weld, and moves a Connect or an opening on; an energised and confirmed contactor that reads open for 5
ms trips, K3 ends the Connect in its precharge; one not closed in its time ends the Connect; one closed too long after opening
is welded; pull-in ends at its time; over-current opens the output, an open coil and a low coil supply are recorded; a test
pulse runs in its slot alone and its end is judged. Where the spec leaves a point open the clauses follow the model's choices:
notes/assumptions/25, 38, 49. (10_contactors_precharge.md R300, R301, R302, R303, R304, R305, R306, R307.) -/
def Obligations.ContactorFeedback : Prop :=
  (∀ (t n : Nat) (lv : Bool) (vs vl : Int) (s : State),
    n < 4 →
    lv ≠ bitOf (prmN s Prm.kfPolarity) n →
    (coil s n).kf = false →
    exec (.kfEdge t n lv vs vl) s =
      .next (after t (fun s => let u := captureEdge (0x08 + n) lv (stampNow s) { s with con.vStr := vs, con.vLnk := vl }; let u := setCoil n (fun c => { c with kf := true, kfStamp := stampNow u }) u; endOpening (advance (kfClosed n u))) s)) ∧
  (∀ (t n : Nat) (lv : Bool) (vs vl : Int) (s : State),
    n < 4 →
    lv = bitOf (prmN s Prm.kfPolarity) n →
    (coil s n).kf = true →
    exec (.kfEdge t n lv vs vl) s =
      .next (after t (fun s => let u := captureEdge (0x08 + n) lv (stampNow s) { s with con.vStr := vs, con.vLnk := vl }; let u := setCoil n (fun c => { c with kf := false, kfStamp := stampNow u }) u; endOpening (advance (kfOpened n u))) s)) ∧
  (∀ (t n held : Nat) (s : State),
    kfUnchecked s n = false →
    s.pair.standby = false →
    ms 5 ≤ held →
    (coil s n).request = true →
    (coil s n).confirmed = true →
    (coil s n).kf = false →
    (coil s n).hs = (coil s n).ls →
    n ≠ 2 →
    exec (.kDropout t n held) s =
      .next (after t (fun s => tripEdge (0x08 + n) (coil s n).kfStamp Ev.kDropout .sp [((n + 1 : Nat) : Int)] s) s)) ∧
  (∀ (t held : Nat) (j : ConnJob) (s : State),
    kfUnchecked s 2 = false →
    s.pair.standby = false →
    ms 5 ≤ held →
    (coil s 2).request = true →
    (coil s 2).confirmed = true →
    (coil s 2).kf = false →
    (coil s 2).hs = (coil s 2).ls →
    s.con.conn = some j →
    j.step = .precharge →
    exec (.kDropout t 2 held) s = .next (after t (connFail Ev.kDropout [3]) s)) ∧
  (∀ (t n held : Nat) (s : State),
    (held < ms 5 ∨ (coil s n).kf = true ∨ (coil s n).pulse = none ∧ (coil s n).hs ≠ (coil s n).ls) →
    exec (.kDropout t n held) s = .next (after t (fun s => s) s)) ∧
  (∀ (t n : Nat) (s : State),
    kfUnchecked s n = false →
    (coil s n).request = true →
    (coil s n).confirmed = false →
    (coil s n).kf = false →
    (coil s n).onAt + ms (prmN s Prm.kfCloseTime) ≤ max s.now t →
    s.con.conn.isSome = true →
    exec (.kFailClose t n) s = .next (after t (connFail Ev.kFailClose [((n + 1 : Nat) : Int)]) s)) ∧
  (∀ (t n : Nat) (s : State),
    kfUnchecked s n = false →
    (coil s n).request = true →
    (coil s n).confirmed = false →
    (coil s n).kf = false →
    (coil s n).onAt + ms (prmN s Prm.kfCloseTime) ≤ max s.now t →
    s.con.conn = none →
    exec (.kFailClose t n) s = .next (after t (record Ev.kFailClose 3 [((n + 1 : Nat) : Int)]) s)) ∧
  (∀ (t n held : Nat) (s : State),
    kfUnchecked s n = false →
    checksContactors s = true →
    (coil s n).welded = false →
    (coil s n).request = false →
    energised (coil s n) = false →
    (coil s n).kf = true →
    (coil s n).ever = true →
    (coil s n).offAt + ms (prmN s Prm.kfOpenTime) ≤ max s.now t →
    exec (.kWelded t n held) s =
      .next (after t (fun s => tripHeld Ev.kWelded .sp [((n + 1 : Nat) : Int)] (setCoil n (fun c => { c with welded := true }) s)) s)) ∧
  (∀ (t n held : Nat) (s : State),
    kfUnchecked s n = false →
    checksContactors s = true →
    (coil s n).welded = false →
    (coil s n).request = false →
    energised (coil s n) = false →
    (coil s n).kf = true →
    (coil s n).ever = false →
    ms 5 ≤ held →
    otherClosed s n = false →
    exec (.kWelded t n held) s =
      .next (after t (fun s => record Ev.kWelded 3 [((n + 1 : Nat) : Int)] (setCoil n (fun c => { c with welded := true }) s)) s)) ∧
  (∀ (t n : Nat) (s : State),
    (coil s n).pullIn = true →
    (coil s n).onAt + ms (prmN s Prm.kPullin) ≤ max s.now t →
    exec (.kPullinEnd t n) s =
      .next (after t (fun s => advance (setCoil n (fun c => { c with pullIn := false }) s)) s)) ∧
  (∀ (t n ma held : Nat) (s : State),
    n < 4 →
    6000 ≤ ma →
    ms 1 ≤ held →
    (coil s n).overcurrent = false →
    exec (.outputOvercurrent t n ma held) s =
      .next (after t (fun s => let u := setCoil n (fun c => { c with coilMa := ma }) s; setCoil n (fun c => { c with request := (coil s n).request, overcurrent := true }) (openCoil n (record Ev.outputOvercurrent 4 [((n + 1 : Nat) : Int)] u))) s)) ∧
  (∀ (t n ma held : Nat) (s : State),
    n < 4 →
    ma < 6000 →
    exec (.outputOvercurrent t n ma held) s = .next (after t (setCoil n (fun c => { c with coilMa := ma })) s)) ∧
  (∀ (t n ma held : Nat) (s : State),
    n < 4 →
    driven (coil (setCoil n (fun c => { c with coilMa := ma }) s) n) = true →
    (coil (setCoil n (fun c => { c with coilMa := ma }) s) n).pullIn = false →
    (coil (setCoil n (fun c => { c with coilMa := ma }) s) n).coilOpen = false →
    ma < 50 →
    ms 100 ≤ held →
    exec (.coilOpen t n ma held) s =
      .next (after t (fun s => record Ev.coilOpen 3 [((n + 1 : Nat) : Int)] (setCoil n (fun c => { c with coilOpen := true }) (setCoil n (fun c => { c with coilMa := ma }) s))) s)) ∧
  (∀ (t mv held : Nat) (s : State),
    mv < 18000 →
    ms 10 ≤ held →
    s.con.supplyLow = false →
    exec (.coilSupplyLow t mv held) s =
      .next (after t (fun s => gatesOff Ev.coilSupplyLow (record Ev.coilSupplyLow 4 [(mv : Int)] { s with con.supplyLow := true })) s)) ∧
  (∀ (t mv held : Nat) (s : State),
    18000 ≤ mv →
    exec (.coilSupplyLow t mv held) s = .next (after t (fun s => { s with con.supplyLow := false }) s)) ∧
  (∀ (t n : Nat) (s : State),
    (pulseBarred (clocked t s) n = true ∨ atSlot (clocked t s) n = false) →
    exec (.outputTestPulse t n) s = .next (after t (fun s => s) s)) ∧
  (∀ (t n : Nat) (s : State),
    pulseBarred (clocked t s) n = false →
    atSlot (clocked t s) n = true →
    (coil s n).hs = true →
    (coil s n).ls = true →
    exec (.outputTestPulse t n) s =
      .next (after t (fun s => let high := decide (stampNow s / 2 ^ 32 % 2 = 0); setCoil n (fun c => { c with hs := c.hs && !high, ls := c.ls && high, pulse := some ⟨high, true, s.now⟩ }) s) s)) ∧
  (∀ (t n : Nat) (s : State),
    pulseBarred (clocked t s) n = false →
    atSlot (clocked t s) n = true →
    (coil s n).hs = false →
    (coil s n).ls = false →
    (coil s n).request = false →
    s.saf.spDemand = false →
    s.saf.domeDemand = false →
    (coil s n).faultHs = false →
    (coil s n).faultLs = false →
    exec (.outputTestPulse t n) s =
      .next (after t (fun s => let high := decide (stampNow s / 2 ^ 32 % 2 = 0); setCoil n (fun c => { c with hs := high, ls := !high, pulse := some ⟨high, false, s.now⟩ }) s) s)) ∧
  (∀ (t n mv ma : Nat) (p : OutPulse) (s : State),
    (coil s n).pulse = some p →
    p.off = true →
    max s.now t ≤ p.since + us 200 →
    pulseConfirmed s p mv ma = true →
    exec (.outputPulseEnd t n mv ma) s =
      .next (after t (setCoil n (fun c => countPulse p true (discardPulse c))) s)) ∧
  (∀ (t n mv ma : Nat) (p : OutPulse) (s : State),
    (coil s n).pulse = some p →
    p.off = false →
    p.since + us 100 ≤ max s.now t →
    pulseConfirmed s p mv ma = false →
    exec (.outputPulseEnd t n mv ma) s =
      .next (after t (fun s => record Ev.outputTestFail 3 [((n + 1 : Nat) : Int), flag p.high] (setCoil n (fun c => countPulse p false (discardPulse c)) s)) s)) ∧
  (∀ (t n mv ma : Nat) (p : OutPulse) (s : State),
    (coil s n).pulse = some p →
    p.off = true →
    p.since + us 300 ≤ max s.now t →
    pulseConfirmed s p mv ma = false →
    exec (.outputPulseEnd t n mv ma) s =
      .next (after t (fun s => let u := record Ev.outputTestFail 3 [((n + 1 : Nat) : Int), flag p.high] (setCoil n (fun c => countPulse p false (discardPulse c)) s); if 2 ≤ offFailures p (coil u n) then trip Ev.outputSwitchFault .sp [((n + 1 : Nat) : Int), flag p.high] u else u) s)) ∧
  (∀ (t n a b : Nat) (s : State),
    n < 4 →
    (coil s n).hs = false →
    (coil s n).ls = false →
    (coil s n).pulse = none →
    12000 ≤ a →
    12000 ≤ b →
    exec (.outputSwitchFault t n a b) s =
      .next (after t (setCoil n (fun c => { c with faultHs := false, faultLs := false })) s)) ∧
  (∀ (t n a b : Nat) (s : State),
    n < 4 →
    (coil s n).hs = false →
    (coil s n).ls = false →
    (coil s n).pulse = none →
    a ≤ 2000 →
    (coil s n).faultHs = false →
    exec (.outputSwitchFault t n a b) s =
      .next (after t (fun s => record Ev.outputSwitchFault 3 [((n + 1 : Nat) : Int), flag true, flag (decide (b ≤ 2000))] (setCoil n (fun c => { c with faultHs := c.faultHs || true, faultLs := c.faultLs || decide (b ≤ 2000) }) s)) s))

/-- Connect, the precharge and its model, and the orderly opening act as R309 to R316 say. CONNECT is refused with its first
failing guard and the time until an attempt would be admitted, else Connect begins; at half a time constant the closed
fraction must be 25 percent and at three 90 percent, else the Connect fails with its cause; each millisecond with K3 closed
adds its energy; the overlap ends by opening K3; DISCONNECT begins an orderly opening, refused while one runs; gates turn off
when the current is low or after 10 s; the status commands answer and the model can be reset. Where the spec leaves a point
open the clauses follow the model's choices: notes/assumptions/25, 38, 49. (10_contactors_precharge.md R309, R310, R311, R313,
R314, R316, R322.) -/
def Obligations.ConnectAndPrecharge : Prop :=
  (∀ (t m : Nat) (vs vl : Int) (b : List Byte) (g : Reply) (s : State),
    Pend s m Cmd.connect b →
    b.length = 1 →
    (byteAt b 0 = 4 ∨ byteAt b 0 = 5) →
    connectBlock { (begun t m s) with con.vStr := vs, con.vLnk := vl } = some g →
    exec (.connect t m vs vl) s =
      .next (going t m (fun s => let u := { s with con.vStr := vs, con.vLnk := vl }; giveAnswer m (.ends { g with payload := .fields [("time until admitted", [(admitTime u : Int)])] }) u) s)) ∧
  (∀ (t m : Nat) (vs vl : Int) (b : List Byte) (s : State),
    Pend s m Cmd.connect b →
    b.length = 1 →
    (byteAt b 0 = 4 ∨ byteAt b 0 = 5) →
    connectBlock { (begun t m s) with con.vStr := vs, con.vLnk := vl } = none →
    exec (.connect t m vs vl) s =
      .next (going t m (fun s => beginConnect (byteAt b 0 = 4) (some m) { s with con.vStr := vs, con.vLnk := vl }) s)) ∧
  (∀ (t m : Nat) (vs vl : Int) (b : List Byte) (s : State),
    Pend s m Cmd.connect b →
    b.length = 1 →
    byteAt b 0 ≠ 4 →
    byteAt b 0 ≠ 5 →
    exec (.connect t m vs vl) s =
      .next (going t m (fun s => answerNow m (argReply Cmd.connect 0) { s with con.vStr := vs, con.vLnk := vl }) s)) ∧
  (∀ (t : Nat) (vl : Int) (j : ConnJob) (s : State),
    s.con.conn = some j →
    j.step = .precharge →
    j.half = false →
    j.origin + preTau s / 2 ≤ max s.now t →
    fractionAtLeast j vl 25 = true →
    exec (.prechargeHalfTau t vl) s =
      .next (after t (fun s => let u := setConn (fun k => { k with half := true, gHalf := some (fractionClosed j vl) }) { s with con.vLnk := vl, con.attempt := s.con.attempt.map (fun (a : PreAttempt) => { a with gHalf := some (fractionClosed j vl) }) }; u) s)) ∧
  (∀ (t : Nat) (vl : Int) (j : ConnJob) (s : State),
    s.con.conn = some j →
    j.step = .precharge →
    j.half = false →
    j.origin + preTau s / 2 ≤ max s.now t →
    fractionAtLeast j vl 25 = false →
    exec (.prechargeHalfTau t vl) s =
      .next (after t (fun s => let u := setConn (fun k => { k with half := true, gHalf := some (fractionClosed j vl) }) { s with con.vLnk := vl, con.attempt := s.con.attempt.map (fun (a : PreAttempt) => { a with gHalf := some (fractionClosed j vl) }) }; connFail (if fractionAtLeast j vl 5 then Ev.prechargeSlow else Ev.prechargeShort) [fractionClosed j vl] u) s)) ∧
  (∀ (t : Nat) (vl : Int) (j : ConnJob) (s : State),
    s.con.conn = some j →
    j.step = .precharge →
    j.half = true →
    j.origin + 3 * preTau s ≤ max s.now t →
    fractionAtLeast j vl 90 = true →
    exec (.prechargeThreeTau t vl) s =
      .next (after t (fun s => let u := setConn (fun k => { k with gThree := some (fractionClosed j vl) }) { s with con.vLnk := vl, con.attempt := s.con.attempt.map (fun (a : PreAttempt) => { a with gThree := some (fractionClosed j vl) }) }; enterStep .k1 u) s)) ∧
  (∀ (t : Nat) (vl : Int) (j : ConnJob) (s : State),
    s.con.conn = some j →
    j.step = .precharge →
    j.half = true →
    j.origin + 3 * preTau s ≤ max s.now t →
    fractionAtLeast j vl 90 = false →
    exec (.prechargeThreeTau t vl) s =
      .next (after t (fun s => let u := setConn (fun k => { k with gThree := some (fractionClosed j vl) }) { s with con.vLnk := vl, con.attempt := s.con.attempt.map (fun (a : PreAttempt) => { a with gThree := some (fractionClosed j vl) }) }; connFail Ev.prechargeSlow [fractionClosed j vl] u) s)) ∧
  (∀ (t : Nat) (vs vl : Int) (s : State),
    (coil s 2).kf = true →
    exec (.preEnergyTick t vs vl) s =
      .next (after t (fun s => let e := energyAt s s.now + ((vs - vl) * (vs - vl) * 390625 / (prm s Prm.preRes * 10000)).toNat; let u := { s with con.energy := e, con.eAt := s.now, con.vStr := vs, con.vLnk := vl }; if prmN u Prm.preEMax * 1000000 ≤ e ∧ u.con.attempt.isSome = true then connFail Ev.prechargeEnergy [(e : Int)] u else u) s)) ∧
  (∀ (t : Nat) (vs vl : Int) (s : State),
    (coil s 2).kf = false →
    exec (.preEnergyTick t vs vl) s = .next (after t (fun s => s) s)) ∧
  (∀ (t : Nat) (j : ConnJob) (s : State),
    s.con.conn = some j →
    j.step = .overlap →
    j.since + ms (prmN s Prm.k3Overlap) ≤ max s.now t →
    exec (.k3OverlapEnd t) s =
      .next (after t (fun s => advance (setConn (fun k => { k with step := .k3Opening, since := s.now }) (openCoil 2 s))) s)) ∧
  (∀ (t : Nat) (s : State),
    s.disp.ending ≠ 0 →
    currentBelow s = true →
    exec (.orderlyGatesOff t) s = .next (after t orderlyOff s)) ∧
  (∀ (t : Nat) (s : State),
    s.disp.ending = 0 →
    exec (.orderlyGatesOff t) s = .next (after t (fun s => s) s)) ∧
  (∀ (t m : Nat) (s : State),
    Pend s m Cmd.disconnect [] →
    s.con.opening = none →
    s.disp.ending = 0 →
    exec (.disconnect t m) s = .next (going t m (fun s => beginOpening (some m) 0 s) s)) ∧
  (∀ (t m : Nat) (s : State),
    Pend s m Cmd.disconnect [] →
    (s.con.opening ≠ none ∨ s.disp.ending ≠ 0) →
    exec (.disconnect t m) s = .next (turnedAway t m (guardReply Ev.functionBusy) s)) ∧
  (∀ (t m : Nat) (s : State),
    Pend s m Cmd.outStatus [] →
    exec (.outStatus t m) s = .next (read t m outStatus s)) ∧
  (∀ (t m : Nat) (s : State),
    Pend s m Cmd.preHistory [] →
    exec (.preHistory t m) s =
      .next (read t m (fun s => .fields ([("E", [(energyAt s s.now : Int)]), ("time until admitted", [(admitTime s : Int)])] ++ s.con.history.map (fun (a : PreAttempt) => ("attempt", [(a.origin : Int), codeS16 (some a.v0), codeS16 (some a.vs)] ++ optInts a.gHalf ++ optInts a.gThree ++ [(a.energy : Int), a.result])))) s)) ∧
  (∀ (t m : Nat) (s : State),
    Pend s m Cmd.preModelReset [] →
    s.thm.forbid = false →
    exec (.preModelReset t m) s =
      .next (ended t m doneReply (fun s => record Ev.preModelReset 6 [] { s with con.energy := 0, con.eAt := s.now, con.eNvm := 0, con.eNvmAt := s.now }) s))

/-- Requests, reads, acknowledgements and completions move a mailbox as R371 to R383 say. An envelope not addressed to this
module, or for a mailbox not served, changes nothing but the note whether it named the string; one whose path or operation
does not match is discarded and counted; a request to an unbound mailbox binds it and is taken; a request from a foreign
source is answered and not passed on; a request to a busy mailbox answers MAILBOX_BUSY; the checks of R382 answer at once or
leave the request pending; a READ delivers the held response with its count; an ACK of its sequence empties the mailbox;
COMMAND_DONE forms the response of the ended command; idle bindings and old staged sets are released; a Spire restart ends
pending requests. Where the spec leaves a point open the clauses follow the model's choices: notes/assumptions/6, 12, 41, 42.
(13_mailbox.md R371, R372, R373, R375, R376, R377, R378, R379, R380, R382, R383, R389.) -/
def Obligations.MailboxEnvelopes : Prop :=
  (∀ (t : Nat) (src : Source) (dst : Nat) (env : List Byte) (s : State),
    reaches s src dst = false →
    exec (.request t src dst env) s = .next (after t (fun s => { s with mbx.viaStr := viaString s src dst }) s)) ∧
  (∀ (t : Nat) (src : Source) (dst : Nat) (env : List Byte) (s : State),
    mbxServed s (countedOn src (byteAt env 1)) = false →
    exec (.request t src dst env) s = .next (after t (fun s => { s with mbx.viaStr := viaString s src dst }) s)) ∧
  (∀ (t : Nat) (src : Source) (dst : Nat) (env : List Byte) (s : State),
    reaches s src dst = true →
    mbxServed s (countedOn src (byteAt env 1)) = true →
    (pathServes src (byteAt env 1) = false ∨ env.length < 2 ∨ byteAt env 0 ≠ 1) →
    exec (.request t src dst env) s =
      .next (after t (fun s => discardEnvelope (countedOn src (byteAt env 1)) { s with mbx.viaStr := viaString s src dst }) s)) ∧
  (∀ (t : Nat) (src : Source) (dst : Nat) (env : List Byte) (s : State),
    reaches s src dst = false →
    exec (.read t src dst env) s = .next (after t (fun s => { s with mbx.viaStr := viaString s src dst }) s)) ∧
  (∀ (t : Nat) (src : Source) (dst : Nat) (env : List Byte) (s : State),
    mbxServed s (countedOn src (byteAt env 1)) = false →
    exec (.read t src dst env) s = .next (after t (fun s => { s with mbx.viaStr := viaString s src dst }) s)) ∧
  (∀ (t : Nat) (src : Source) (dst : Nat) (env : List Byte) (s : State),
    reaches s src dst = true →
    mbxServed s (countedOn src (byteAt env 1)) = true →
    (pathServes src (byteAt env 1) = false ∨ env.length < 2 ∨ byteAt env 0 ≠ 2) →
    exec (.read t src dst env) s =
      .next (after t (fun s => discardEnvelope (countedOn src (byteAt env 1)) { s with mbx.viaStr := viaString s src dst }) s)) ∧
  (∀ (t : Nat) (src : Source) (dst : Nat) (env : List Byte) (s : State),
    reaches s src dst = false →
    exec (.ack t src dst env) s = .next (after t (fun s => { s with mbx.viaStr := viaString s src dst }) s)) ∧
  (∀ (t : Nat) (src : Source) (dst : Nat) (env : List Byte) (s : State),
    mbxServed s (countedOn src (byteAt env 1)) = false →
    exec (.ack t src dst env) s = .next (after t (fun s => { s with mbx.viaStr := viaString s src dst }) s)) ∧
  (∀ (t : Nat) (src : Source) (dst : Nat) (env : List Byte) (s : State),
    reaches s src dst = true →
    mbxServed s (countedOn src (byteAt env 1)) = true →
    (pathServes src (byteAt env 1) = false ∨ env.length < 2 ∨ byteAt env 0 ≠ 3) →
    exec (.ack t src dst env) s =
      .next (after t (fun s => discardEnvelope (countedOn src (byteAt env 1)) { s with mbx.viaStr := viaString s src dst }) s)) ∧
  (∀ (t : Nat) (src : Source) (dst : Nat) (env : List Byte) (s : State),
    reaches s src dst = true →
    mbxServed s (countedOn src (byteAt env 1)) = true →
    pathServes src (byteAt env 1) = true →
    2 ≤ env.length →
    byteAt env 0 = 1 →
    fixedAddr s (byteAt env 1) = 0 →
    (mbxOf s (byteAt env 1)).bound = none →
    (mbxOf s (byteAt env 1)).phase ≠ .pending →
    exec (.request t src dst env) s =
      .next (after t (fun s => let u := { s with mbx.viaStr := viaString s src dst }; takeRequest (byteAt env 1) (env.drop 2) (bindTo src (byteAt env 1) { u with core.quietSince := u.now })) s)) ∧
  (∀ (t : Nat) (src b : Source) (dst : Nat) (env : List Byte) (s : State),
    reaches s src dst = true →
    mbxServed s (countedOn src (byteAt env 1)) = true →
    pathServes src (byteAt env 1) = true →
    2 ≤ env.length →
    byteAt env 0 = 1 →
    boundSource s (byteAt env 1) = some b →
    b ≠ src →
    exec (.request t src dst env) s =
      .next (after t (fun s => let u := { s with mbx.viaStr := viaString s src dst }; foreignRequest (byteAt env 1) src (env.drop 2) { u with core.quietSince := u.now }) s)) ∧
  (∀ (t : Nat) (src : Source) (dst : Nat) (env : List Byte) (s : State),
    reaches s src dst = true →
    mbxServed s (countedOn src (byteAt env 1)) = true →
    pathServes src (byteAt env 1) = true →
    2 ≤ env.length →
    byteAt env 0 = 1 →
    (mbxOf s (byteAt env 1)).bound.map (·.1) = some src →
    boundSource s (byteAt env 1) = some src →
    (mbxOf s (byteAt env 1)).phase = .pending →
    isRepeat (mbxOf s (byteAt env 1)) (parseRequest (env.drop 2)) = false →
    exec (.request t src dst env) s =
      .next (after t (fun s => let u := { s with mbx.viaStr := viaString s src dst }; busyRequest (byteAt env 1) src (parseRequest (env.drop 2)) { u with core.quietSince := u.now }) s)) ∧
  (∀ (m : Nat) (src : Source) (r : Request) (s : State),
    m < 7 →
    r.command ≠ Cmd.spSet →
    r.flags = 0 →
    busyRequest m src r s = deliver m src { reply := { status := .mailboxBusy }, mode := s.core.mode, seq := r.seq, readCount := 1, str := s.mbx.viaStr } s) ∧
  (∀ (m : Nat) (body : List Byte) (s : State),
    checkRequest s m body { parseRequest body with str := s.mbx.viaStr } = none →
    takeRequest m body s = (let r := { parseRequest body with str := s.mbx.viaStr }; setMbx m (fun b => { b with phase := .pending, req := some r, role := if r.flags = 1 then roleOfByte (byteAt r.auth 0) else .none, held := none, result := none, started := false, challenge := if r.flags % 2 = 1 ∧ r.auth.length = 44 then none else b.challenge }) s)) ∧
  (∀ (m : Nat) (body : List Byte) (x : Reply) (s : State),
    checkRequest s m body { parseRequest body with str := s.mbx.viaStr } = some x →
    (parseRequest body).command ≠ Cmd.spSet →
    takeRequest m body s = (let r := { parseRequest body with str := s.mbx.viaStr }; answerNow m x (setMbx m (fun b => { b with phase := .pending, req := some r, role := .none, held := none, result := none, started := false, challenge := if r.flags % 2 = 1 ∧ r.auth.length = 44 then none else b.challenge }) s))) ∧
  (∀ (t : Nat) (src : Source) (dst : Nat) (env : List Byte) (h : Response) (s : State),
    reaches s src dst = true →
    mbxServed s (countedOn src (byteAt env 1)) = true →
    pathServes src (byteAt env 1) = true →
    2 ≤ env.length →
    byteAt env 0 = 2 →
    boundSource s (byteAt env 1) = some src →
    (mbxOf s (byteAt env 1)).phase = .holding →
    (mbxOf s (byteAt env 1)).held = some h →
    exec (.read t src dst env) s =
      .next (after t (fun s => let h := { h with readCount := min 255 (h.readCount + 1) }; deliver (byteAt env 1) src h (setMbx (byteAt env 1) (fun b => { b with held := some h }) { s with mbx.viaStr := viaString s src dst })) s)) ∧
  (∀ (t : Nat) (src b : Source) (dst : Nat) (env : List Byte) (s : State),
    reaches s src dst = true →
    mbxServed s (countedOn src (byteAt env 1)) = true →
    pathServes src (byteAt env 1) = true →
    2 ≤ env.length →
    byteAt env 0 = 2 →
    boundSource s (byteAt env 1) = some b →
    b ≠ src →
    exec (.read t src dst env) s =
      .next (after t (fun s => sendOnce (byteAt env 1) src 0 (causeReply .notAuthorised Ev.mailboxBound) (countRefused (byteAt env 1) { s with mbx.viaStr := viaString s src dst })) s)) ∧
  (∀ (t : Nat) (src : Source) (dst : Nat) (env : List Byte) (h : Response) (s : State),
    reaches s src dst = true →
    mbxServed s (countedOn src (byteAt env 1)) = true →
    pathServes src (byteAt env 1) = true →
    2 ≤ env.length →
    byteAt env 0 = 3 →
    boundSource s (byteAt env 1) = some src →
    (mbxOf s (byteAt env 1)).phase = .holding →
    (mbxOf s (byteAt env 1)).held = some h →
    h.seq = leAt env 2 2 →
    exec (.ack t src dst env) s =
      .next (after t (fun s => let u := { s with mbx.viaStr := viaString s src dst }; setMbx (byteAt env 1) (fun b => { b with phase := .empty, held := none, req := none, emptySince := u.now }) u) s)) ∧
  (∀ (t m : Nat) (r : Reply) (q : Request) (s : State),
    (mbxOf s m).phase = .pending →
    (mbxOf s m).result = some r →
    (mbxOf s m).req = some q →
    s.core.spireUp = true →
    exec (.commandDone t m) s =
      .next (after t (fun s => afterResponse m q (formResponse m r (record Ev.commandDone (doneClass r) [(m : Int), q.command, r.status.code] s))) s)) ∧
  (∀ (m : Nat) (q : Request) (s : State),
    q.command ≠ Cmd.mbxRelease →
    s.fab.nextNode = none →
    afterResponse m q s = (if q.command = Cmd.commit then { s with mbx.svcPath := svcPathOf s } else s)) ∧
  (∀ (t m : Nat) (s : State),
    m < 7 →
    fixedAddr s m = 0 →
    (mbxOf s m).phase = .empty →
    (mbxOf s m).bound.isSome = true →
    (mbxOf s m).emptySince + sec (prmN s Prm.mbxIdleRelease) ≤ max s.now t →
    exec (.mbxIdleRelease t m) s = .next (after t (endBinding m) s)) ∧
  (∀ (t f : Nat) (s : State),
    (fnOf s f).owner.isSome = true →
    (fnOf s f).stagedAt + sec 600 ≤ max s.now t →
    exec (.stageTimeout t f) s = .next (after t (setFn f dropStaged) s)) ∧
  (∀ (t : Nat) (s : State),
    exec (.spireRestart t) s =
      .next (after t (fun s => let u := record Ev.spireRestart 4 [] s; let u := flushCrossings 1 { u with mbx.fns := u.mbx.fns.map dropStaged, upd.job := u.upd.job.map (fun (j : Install) => { j with mb := none }) }; eachDo (List.range 8) (fun m s => if (mbxOf s m).phase == .pending then formResponse m (causeReply .execFault Ev.spireRestart) s else s) u) s))

/-- Staging, reading, discarding, stopping, restarting and committing functions follow R385 to R394. GET_STATUS answers the
function status block; STAGE with 1 to 64 entries in range stages them all and takes the set's ownership, and is refused at
the first entry out of range; READ_PARAM answers its entries; DISCARD_STAGED drops the set, refused while another mailbox owns
it; STOP of a stopped function is DONE, is refused by its guard, else stops now or goes on to the end of a step; RESTART
validates the whole set, applies it and starts the function; COMMIT applies to a running function, refused at a parameter that
needs a stop. Where the spec leaves a point open the clauses follow the model's choices: notes/assumptions/6, 12, 41, 42.
(13_mailbox.md R385, R386, R388, R389, R390, R391, R392, R393, R394.) -/
def Obligations.StagingAndFunctions : Prop :=
  (∀ (t m f : Nat) (s : State),
    Pend s m (256 * f + 0) [] →
    exec (.getStatus t m) s = .next (read t m (fun s => .bytes (statusBlock (fnOf s f))) s)) ∧
  (∀ (t m f : Nat) (p : List Byte) (s : State),
    Pend s m (256 * f + 2) p →
    p.length = 1 + 6 * byteAt p 0 →
    (f ≠ 8 ∨ stopped s 8 = true) →
    1 ≤ byteAt p 0 →
    byteAt p 0 ≤ 64 →
    (∀ e ∈ stageEntries p, e.1 / 256 = f ∧ inRange e.1 (valueOf e.1 e.2) = true) →
    commonGuard s f m true = none →
    exec (.stage t m) s =
      .next (ended t m (doneWith (.bytes (leBytes 1 (byteAt p 0)))) (fun s => setFn f (fun x => { x with staged := (stageEntries p).foldl (fun l e => assocSet l e.1 (valueOf e.1 e.2)) (fnOf s f).staged, owner := some m, ownerBinding := (bindingOf s m).getD 0, stagedAt := s.now }) s) s)) ∧
  (∀ (t m f : Nat) (p : List Byte) (e : Nat × Nat) (l : List (Nat × Nat)) (s : State),
    Pend s m (256 * f + 2) p →
    p.length = 1 + 6 * byteAt p 0 →
    (f ≠ 8 ∨ stopped s 8 = true) →
    1 ≤ byteAt p 0 →
    byteAt p 0 ≤ 64 →
    stageEntries p = e :: l →
    (e.1 / 256 ≠ f ∨ inRange e.1 (valueOf e.1 e.2) = false) →
    exec (.stage t m) s = .next (turnedAway t m (paramReply .badArgument Ev.paramRange e.1) s)) ∧
  (∀ (t m f : Nat) (p : List Byte) (s : State),
    Pend s m (256 * f + 4) p →
    p.length = 2 + 2 * byteAt p 1 →
    byteAt p 0 ≤ 1 →
    1 ≤ byteAt p 1 →
    byteAt p 1 ≤ 64 →
    exec (.readParam t m) s =
      .next (read t m (fun s => .bytes (leBytes 1 (byteAt p 0) ++ leBytes 1 (byteAt p 1) ++ (List.range (byteAt p 1)).flatMap (fun i => readEntry s f (byteAt p 0) (leAt p (2 + 2 * i) 2)))) s)) ∧
  (∀ (t m f : Nat) (s : State),
    Pend s m (256 * f + 5) [] →
    commonGuard s f m true = none →
    exec (.discardStaged t m) s = .next (ended t m doneReply (setFn f dropStaged) s)) ∧
  (∀ (t m f : Nat) (g : Reply) (s : State),
    Pend s m (256 * f + 5) [] →
    commonGuard s f m true = some g →
    exec (.discardStaged t m) s = .next (going t m (giveAnswer m (.ends g)) s)) ∧
  (∀ (t m f : Nat) (s : State),
    Pend s m (256 * f + 1) [] →
    stopped s f = true →
    exec (.stop t m) s = .next (ended t m doneReply (fun s => s) s)) ∧
  (∀ (t m f : Nat) (g : Reply) (s : State),
    Pend s m (256 * f + 1) [] →
    stopped s f = false →
    stopGuard (begun t m s) m f = some g →
    exec (.stop t m) s = .next (going t m (giveAnswer m (.ends g)) s)) ∧
  (∀ (t m f : Nat) (s : State),
    Pend s m (256 * f + 1) [] →
    stopped s f = false →
    stopGuard (begun t m s) m f = none →
    f ≠ 2 →
    f ≠ 0x14 →
    f ≠ 0x0F →
    f ≠ 0x10 →
    exec (.stop t m) s = .next (ended t m doneReply (stopNow f) s)) ∧
  (∀ (t m f : Nat) (s : State),
    Pend s m (256 * f + 3) [] →
    running s f = false →
    validate f (begun t m s) = none →
    commonGuard (begun t m s) f m true = none →
    f ≠ 1 →
    f ≠ 8 →
    exec (.restart t m) s =
      .next (ended t m doneReply (fun s => resumeFunction f (setFn f (fun x => { x with state := .running }) (noteCommit f doneReply (applyStaged f m s)))) s)) ∧
  (∀ (t m f : Nat) (s : State),
    Pend s m (256 * f + 3) [] →
    running s f = true →
    exec (.restart t m) s =
      .next (going t m (fun s => answerNow m { status := .functionRunning } (noteCommit f { status := .functionRunning } s)) s)) ∧
  (∀ (t m f : Nat) (g : Reply) (s : State),
    Pend s m (256 * f + 3) [] →
    running s f = false →
    validate f (begun t m s) = some g →
    exec (.restart t m) s = .next (going t m (fun s => giveAnswer m (.ends g) (noteCommit f g s)) s)) ∧
  (∀ (t m f : Nat) (p : List Byte) (s : State),
    Pend s m Cmd.commit p →
    p.length = 1 →
    byteAt p 0 = f →
    f ≤ 0x14 →
    running s f = true →
    stopNeeded (begun t m s) f = none →
    validate f (begun t m s) = none →
    commonGuard (begun t m s) f m true = none →
    exec (.commit t m) s = .next (ended t m doneReply (fun s => noteCommit f doneReply (applyStaged f m s)) s)) ∧
  (∀ (t m f id : Nat) (p : List Byte) (s : State),
    Pend s m Cmd.commit p →
    p.length = 1 →
    byteAt p 0 = f →
    f ≤ 0x14 →
    running s f = true →
    stopNeeded (begun t m s) f = some id →
    exec (.commit t m) s =
      .next (going t m (fun s => answerNow m (paramReply .functionRunning Ev.stopNeeded id) (noteCommit f (paramReply .functionRunning Ev.stopNeeded id) s)) s))

/-- The core commands of R397 to R400 do what they say. IDENTIFY and MBX_STATUS answer; GET_CHALLENGE answers eight random bytes
and notes them with their time, refused during the lockout; MBX_RELEASE ends another mailbox's dynamic binding at once and its
own after the response; KEY_SET stores the key, unmasked with the owner key where one is stored, and counts its generation;
OWNER_LOCK sets or clears the lock; both are refused under a write-forbid. Where the spec leaves a point open the clauses
follow the model's choices: notes/assumptions/6, 12, 41, 42. (13_mailbox.md R397, R398, R399, R400.) -/
def Obligations.CoreCommands : Prop :=
  (∀ (t m : Nat) (s : State),
    Pend s m Cmd.identify [] →
    exec (.identify t m) s = .next (read t m (fun s => .bytes (identityBytes s)) s)) ∧
  (∀ (t m : Nat) (s : State),
    Pend s m Cmd.mbxStatus [] →
    exec (.mbxStatus t m) s = .next (read t m (fun s => .fields ((List.range 8).map (mbxFields s))) s)) ∧
  (∀ (t m : Nat) (s : State),
    Pend s m Cmd.getChallenge [] →
    (mbxOf (begun t m s) m).lockedUntil ≤ max s.now t →
    exec (.getChallenge t m) s =
      .next (going t m (fun s => let c := (List.range 8).map (Config.randomByte s.core.draws); finish m (doneWith (.bytes c)) (setMbx m (fun b => { b with challenge := some (c, s.now) }) { s with core.draws := s.core.draws + 1 })) s)) ∧
  (∀ (t m : Nat) (p : List Byte) (s : State),
    Pend s m Cmd.mbxRelease p →
    p.length = 1 →
    byteAt p 0 < 7 →
    fixedAddr s (byteAt p 0) = 0 →
    byteAt p 0 ≠ m →
    exec (.mbxRelease t m) s = .next (ended t m doneReply (endBinding (byteAt p 0)) s)) ∧
  (∀ (t m : Nat) (p : List Byte) (s : State),
    Pend s m Cmd.mbxRelease p →
    p.length = 1 →
    byteAt p 0 < 7 →
    fixedAddr s (byteAt p 0) = 0 →
    byteAt p 0 = m →
    exec (.mbxRelease t m) s = .next (ended t m doneReply (fun s => s) s)) ∧
  (∀ (t m : Nat) (p : List Byte) (s : State),
    Pend s m Cmd.keySet p →
    p.length = 33 →
    1 ≤ byteAt p 0 →
    byteAt p 0 ≤ 3 →
    s.core.keyOwner.key = none →
    ((p.drop 1).take 32).all (· == 0) = false →
    s.thm.forbid = false →
    exec (.keySet t m) s =
      .next (ended t m doneReply (fun s => record Ev.keySet 6 [(byteAt p 0 : Int)] (storeKey (byteAt p 0) (some ((p.drop 1).take 32)) s)) s)) ∧
  (∀ (t m : Nat) (p : List Byte) (s : State),
    Pend s m Cmd.ownerLock p →
    p.length = 1 →
    byteAt p 0 ≤ 1 →
    s.thm.forbid = false →
    exec (.ownerLock t m) s = .next (ended t m doneReply (fun s => { s with core.ownerLock := byteAt p 0 = 1 }) s)) ∧
  (∀ (t m : Nat) (p : List Byte) (s : State),
    Pend s m Cmd.ownerLock p →
    p.length = 1 →
    byteAt p 0 ≤ 1 →
    s.thm.forbid = true →
    exec (.ownerLock t m) s = .next (turnedAway t m (guardReply Ev.nvmTemp) s))

/-- Heartbeats, their silence and the checkpoints act as R403 to R408, R419 and R420 say. A heartbeat goes out on every path with
its sequence, and a waiting swap step is repeated; one that is not of the right form or source changes nothing; one of a
foreign product is recorded; one with RELINQUISH fails the partner; both paths silent for 30 ms fail the partner, one degrades
the pair; a checkpoint goes out each second; a standby collects good blocks, discards at a gap or a bad block, and takes a
whole checkpoint whose CRC passes. Where the spec leaves a point open the clauses follow the model's choices:
notes/assumptions/10, 26, 43. (14_pair_redundancy.md R403, R405, R406, R407, R408, R419, R420.) -/
def Obligations.PairHeartbeatsAndCheckpoints : Prop :=
  (∀ (t : Nat) (s : State),
    pairMode s = true →
    s.core.mode ≠ .shelf →
    s.thm.held = false →
    dueAfter (clocked t s) s.pair.hbAt (ms 5) = true →
    exec (.heartbeatSend t) s =
      .next (after t (fun s => let u := sendPair 0 (heartbeatBytes s) s; let u := { u with pair.hbSeq := (u.pair.hbSeq + 1) % 65536, pair.hbAt := some u.now }; u.pair.swap.elim u (fun w => if w.ramping then u else sendSwap w.step 0 w u)) s)) ∧
  (∀ (t : Nat) (s : State),
    (pairMode s = false ∨ s.core.mode = .shelf ∨ dueAfter (clocked t s) s.pair.hbAt (ms 5) = false) →
    exec (.heartbeatSend t) s = .next (after t (fun s => s) s)) ∧
  (∀ (t path src : Nat) (id : Bool) (mism : List Nat) (b : List Byte) (s : State),
    (pairMode s = false ∨ b.length ≠ 32 ∨ byteAt b 0 ≠ 1 ∨ (path ≠ 0 ∧ src ≠ partnerNode s)) →
    exec (.heartbeat t path src id mism b) s = .next (after t (fun s => s) s)) ∧
  (∀ (t path src : Nat) (mism : List Nat) (b : List Byte) (s : State),
    pairMode s = true →
    s.core.mode ≠ .shelf →
    s.thm.held = false →
    b.length = 32 →
    byteAt b 0 = 1 →
    (path = 0 ∨ src = partnerNode s) →
    s.pair.incompatible = false →
    exec (.heartbeat t path src false mism b) s =
      .next (after t (fun s => record Ev.pairIncompatible 3 [] { s with pair.incompatible := true }) s)) ∧
  (∀ (t path src : Nat) (mism : List Nat) (b : List Byte) (s : State),
    pairMode s = true →
    s.core.mode ≠ .shelf →
    s.thm.held = false →
    b.length = 32 →
    byteAt b 0 = 1 →
    (path = 0 ∨ src = partnerNode s) →
    exec (.heartbeat t path src true mism b) s =
      .next (after t (fun s => let u := judgePosition (noteHeartbeat path b mism { s with pair.incompatible := false }); let u := if pathsHealthy u then { u with pair.degraded := false } else u; let u := if bitOf (byteAt b 1) 1 then (if u.pair.stopped then u else record Ev.partnerStopped 3 [] { u with pair.stopped := true }) else { u with pair.stopped := false }; if bitOf (byteAt b 1) 0 && !bitOf (byteAt b 1) 1 && running u 0x0B then failPartner u else u) s)) ∧
  (∀ (t : Nat) (s : State),
    pairRuns s = true →
    s.pair.incompatible = false →
    pairSilent (clocked t s) = true →
    fabSilent (clocked t s) = true →
    s.pair.failed = false →
    exec (.heartbeatTimeout t) s = .next (after t failPartner s)) ∧
  (∀ (t : Nat) (s : State),
    pairRuns s = true →
    s.pair.incompatible = false →
    pairSilent (clocked t s) = true →
    fabSilent (clocked t s) = false →
    s.pair.degraded = false →
    exec (.heartbeatTimeout t) s =
      .next (after t (fun s => record Ev.pairDegraded 3 [1] { s with pair.degraded := true }) s)) ∧
  (∀ (t : Nat) (s : State),
    pairRuns s = true →
    s.pair.incompatible = false →
    pairSilent (clocked t s) = false →
    fabSilent (clocked t s) = false →
    exec (.heartbeatTimeout t) s = .next (after t (fun s => s) s)) ∧
  (∀ (t : Nat) (s : State),
    pushes s = true →
    dueAfter (clocked t s) s.pair.ckptAt (sec 1) = true →
    exec (.checkpointPush t) s = .next (after t pushCheckpoint s)) ∧
  (∀ (t : Nat) (s : State),
    dueAfter (clocked t s) s.pair.ckptAt (sec 1) = false →
    exec (.checkpointPush t) s = .next (after t (fun s => s) s)) ∧
  (∀ (t : Nat) (b : List Byte) (s : State),
    pairRuns s = true →
    s.pair.standby = true →
    s.pair.incompatible = false →
    exec (.checkpointBlock t b) s = .next (after t (collectBlock b) s)) ∧
  (∀ (b : List Byte) (s : State),
    blockGood b = false →
    collectBlock b s = { s with pair.partialCkpt := none }) ∧
  (∀ (b l : List Byte) (s : State),
    blockGood b = true →
    bitOf (byteAt b 1) 0 = false →
    bitOf (byteAt b 1) 1 = false →
    s.pair.partialCkpt = some (leAt b 4 4, l) →
    l.length = leAt b 8 4 →
    collectBlock b s = { s with pair.partialCkpt := some (leAt b 4 4, l ++ b.drop 24) }) ∧
  (∀ (q : Nat) (b : List Byte) (s : State),
    crc32 (b.take 116240) ≠ leAt b 116240 4 →
    takeCheckpoint q b s = s)

/-- The planned hand-over steps act as R407 and R424 say, and end in order or by ABORT. PREPARE wakes a following standby and
answers READY; READY makes the active ramp its request to 0 A; HAND gives the standby mark N and the checkpoint pushed for the
swap, one it does not hold ends the swap; TAKEN makes the former active standby and PAIR_SWAP done; ABORT, or a step not
answered in time, ends the swap with the old active in charge; PAIR_SWAP is refused with its first failing condition, else the
checkpoint goes out and PREPARE follows. Where the spec leaves a point open the clauses follow the model's choices:
notes/assumptions/10, 26, 43. (14_pair_redundancy.md R407, R424.) -/
def Obligations.PairSwapSteps : Prop :=
  (∀ (t : Nat) (b : List Byte) (s : State),
    swapStep 1 b = true →
    pairRuns s = true →
    following s = true →
    s.pair.swap = none →
    s.pair.takeover = none →
    exec (.swapPrepare t b) s =
      .next (after t (fun s => let w : Swap := ⟨false, leAt b 2 2, leAt b 4 2, 2, s.now, false, 0, leAt b 24 4, none, s.disp.target⟩; let u := setMode .watch 0 { s with pair.swap := some w, pair.swapReady := true, core.pairStandbyProfile := false }; sendSwap 2 0 w (eachDo (fittedLanes u) trainLane (openPorts 1 (openPorts 0 u)))) s)) ∧
  (∀ (t : Nat) (b : List Byte) (w : Swap) (s : State),
    s.pair.swap = some w →
    swapStep 2 b = true →
    w.active = true →
    w.step = 1 →
    leAt b 2 2 = w.id →
    exec (.swapReady t b) s =
      .next (after t (fun s => let u := rampToZero { s with pair.swap := some { w with step := 2, since := s.now, ramping := true }, disp.ending := 3, disp.endAt := s.now }; let u := { u with disp.target := { u.disp.target with rate := some (prmN u Prm.swapRamp) } }; if !switching u && currentBelow u then orderlyOff u else u) s)) ∧
  (∀ (t : Nat) (b d : List Byte) (w : Swap) (a : Nat) (s : State),
    s.pair.swap = some w →
    swapStep 3 b = true →
    w.active = false →
    w.step = 2 →
    leAt b 2 2 = w.id →
    s.pair.held = some (leAt b 24 4, a, d) →
    exec (.swapHand t b) s =
      .next (after t (fun s => loadCheckpoint a d { s with pair.swap := some { w with step := 3, since := s.now, mark := leAt b 8 8 } }) s)) ∧
  (∀ (t : Nat) (b : List Byte) (w : Swap) (s : State),
    s.pair.swap = some w →
    swapStep 3 b = true →
    w.active = false →
    w.step = 2 →
    leAt b 2 2 = w.id →
    s.pair.held = none →
    exec (.swapHand t b) s = .next (after t (fun s => failSwap (sendSwap 5 Ev.ckptStale w s)) s)) ∧
  (∀ (t : Nat) (b : List Byte) (w : Swap) (s : State),
    s.pair.swap = some w →
    swapStep 4 b = true →
    w.active = true →
    w.step = 3 →
    leAt b 2 2 = w.id →
    exec (.swapTaken t b) s =
      .next (after t (fun s => becomeStandby (finishJob w.mb Cmd.pairSwap doneReply { s with pair.swap := none, disp.ending := 0 })) s)) ∧
  (∀ (t : Nat) (b : List Byte) (w : Swap) (s : State),
    s.pair.swap = some w →
    swapStep 5 b = true →
    leAt b 2 2 = w.id →
    exec (.swapAbort t b) s = .next (after t failSwap s)) ∧
  (∀ (t : Nat) (w : Swap) (s : State),
    s.pair.swap = some w →
    w.ramping = false →
    w.since + swapLimit (clocked t s) w ≤ max s.now t →
    exec (.swapStepTimeout t) s = .next (after t (fun s => failSwap (sendSwap 5 Ev.swapFailed w s)) s)) ∧
  (∀ (s : State) (w : Swap),
    s.pair.swap = some w →
    w.active = false →
    failSwap s = becomeStandby (record Ev.swapFailed 3 [(w.step : Int)] { s with pair.swap := none, pair.swapReady := false })) ∧
  (∀ (t m : Nat) (s : State),
    Pend s m Cmd.pairSwap [] →
    swapBlock (begun t m s) = none →
    exec (.pairSwap t m) s =
      .next (going t m (fun s => let u := pushCheckpoint s; let id := (u.pair.swapId + 1) % 65536; let w : Swap := ⟨true, id, u.pair.highest + 1, 1, u.now, false, 0, u.pair.ckptSeq, some m, u.disp.target⟩; sendSwap 1 0 w { u with pair.swap := some w, pair.swapId := id }) s)) ∧
  (∀ (t m c : Nat) (s : State),
    Pend s m Cmd.pairSwap [] →
    swapBlock (begun t m s) = some c →
    exec (.pairSwap t m) s = .next (turnedAway t m (guardReply c) s))

/-- Claim rounds, start-up, the standby self-test, the override and the pair commands act as R409 to R430 say. Before a round a
hand-over past its mark changes roles; a module that takes part drives its code and its output field; a faulted round changes
no token and is recorded once; a valid round is won when no other code reaches this one; two seconds without a holder open the
followed outputs; a module that listened 100 rounds becomes standby or claims role 8; the self-test judges its four items; the
override lasts its time; the health report goes out and is read; PAIR_CKPT_NOW pushes a checkpoint. Where the spec leaves a
point open the clauses follow the model's choices: notes/assumptions/10, 26, 43. (14_pair_redundancy.md R409, R410, R412,
R413, R414, R415, R416, R418, R421, R425, R427, R430.) -/
def Obligations.PairClaimAndCommands : Prop :=
  (∀ (t o : Nat) (lo fr : Bool) (fld : Nat) (fol : Bool) (s : State),
    (pairMode s = false ∨ s.core.mode = .shelf ∨ roundStarts (clocked t s) o = false) →
    exec (.claimRound t o lo fr fld fol) s = .next (after t (fun s => s) s)) ∧
  (∀ (t o : Nat) (lo fr : Bool) (fld : Nat) (fol : Bool) (s : State),
    pairMode s = true →
    s.core.mode ≠ .shelf →
    s.thm.held = false →
    s.pair.swap = none →
    takesPart s = true →
    roundFaulted lo fr fld = false →
    roundStarts (clocked t s) o = true →
    (s.pair.role ≠ 8 ∨ inMode s [.watch, .connect, .run, .hold] = true) →
    exec (.claimRound t o lo fr fld fol) s =
      .next (after t (fun s => afterRound true (decide (o < claimCode s)) (max (claimCode s) o) fld (fol || following s) (emit (.claim (claimCode s) (ownField s)) s)) s)) ∧
  (∀ (t o : Nat) (lo fr : Bool) (fld : Nat) (fol : Bool) (s : State),
    pairMode s = true →
    s.core.mode ≠ .shelf →
    s.thm.held = false →
    s.pair.swap = none →
    takesPart s = true →
    s.pair.role ≠ 8 →
    roundFaulted lo fr fld = true →
    s.pair.lineFault = false →
    roundStarts (clocked t s) o = true →
    exec (.claimRound t o lo fr fld fol) s =
      .next (after t (fun s => let u := emit (.claim (claimCode s) (ownField s)) s; record Ev.claimLineFault 3 [] { u with pair.lineFault := true }) s)) ∧
  (∀ (t a : Nat) (s : State),
    pairMode s = true →
    s.pair.token = false →
    s.pair.holderAt = some a →
    a + sec 2 ≤ max s.now t →
    anyEnergised s = true →
    s.pair.takeover = none →
    exec (.holdFollowExpiry t) s =
      .next (after t (fun s => { eachDo (List.range 4) openCoil s with pair.follow := List.replicate 4 false }) s)) ∧
  (∀ (t n : Nat) (s : State),
    pairRuns s = true →
    s.core.mode = .watch →
    s.pair.takeover = none →
    s.pair.listening = some n →
    100 ≤ n →
    s.pair.heard8 = true →
    exec (.pairStartup t) s = .next (after t becomeStandby s)) ∧
  (∀ (t n : Nat) (s : State),
    pairRuns s = true →
    s.core.mode = .watch →
    s.pair.takeover = none →
    s.pair.listening = some n →
    100 ≤ n →
    s.pair.heard8 = false →
    150 ≤ n →
    exec (.pairStartup t) s =
      .next (after t (fun s => { s with pair.role := 8, pair.listening := none, pair.losingSince := none }) s)) ∧
  (∀ (t a : Nat) (s : State),
    pairRuns s = true →
    s.pair.losingSince = some a →
    a + sec 2 ≤ max s.now t →
    s.pair.standby = false →
    s.pair.heard8 = false →
    s.pair.startFault = false →
    exec (.pairStartFault t) s =
      .next (after t (fun s => record Ev.pairStartFault 3 [] { s with pair.startFault := true }) s)) ∧
  (∀ (t : Nat) (ce ee : List Bool) (rb : Bool) (s : State),
    pairRuns s = true →
    s.pair.standby = true →
    s.pair.takeover = none →
    s.core.mode = .dormant →
    dueAfter (clocked t s) s.pair.selfTestAt (sec 60) = true →
    exec (.standbySelfTest t ce ee rb) s =
      .next (after t (fun s => (let it := bit (ce.all id && ee.all id) 0 + bit (ckptFit s) 1 + bit rb 2 + bit ((s.pair.probedAt.map (fun a => decide (s.now ≤ a + sec 60))).getD false) 3; let u := judgeCapacity { s with ctrl.eng := s.ctrl.eng.mapIdx (fun i (e : Engine) => if ce.getD i true then { e with test := some (ce.getD i true) } else { e with test := some (ce.getD i true), role := .out }), est.engines := min s.est.engines ((ee.filter id).length + (4 - ee.length)), pair.testItems := it, pair.testOk := it = 15, pair.selfTestAt := some s.now }; if it = 15 then { u with pair.unfit := false } else if u.pair.unfit then u else record Ev.standbyUnfit 3 [(15 : Int) - it] { u with pair.unfit := true })) s)) ∧
  (∀ (t : Nat) (ce ee : List Bool) (rb : Bool) (s : State),
    dueAfter (clocked t s) s.pair.selfTestAt (sec 60) = false →
    exec (.standbySelfTest t ce ee rb) s = .next (after t (fun s => s) s)) ∧
  (∀ (t e : Nat) (s : State),
    s.pair.override = some e →
    e ≤ max s.now t →
    exec (.pairOverrideEnd t) s = .next (after t endOverride s)) ∧
  (∀ (t : Nat) (s : State),
    s.pair.override = none →
    exec (.pairOverrideEnd t) s = .next (after t (fun s => s) s)) ∧
  (∀ (t m : Nat) (b : List Byte) (s : State),
    Pend s m Cmd.pairOverride b →
    b.length = 2 →
    leAt b 0 2 = 0 →
    exec (.pairOverride t m) s =
      .next (ended t m doneReply (fun s => if s.pair.override.isSome then endOverride s else s) s)) ∧
  (∀ (t m : Nat) (b : List Byte) (s : State),
    Pend s m Cmd.pairOverride b →
    b.length = 2 →
    leAt b 0 2 ≠ 0 →
    leAt b 0 2 ≤ 600 →
    contactorsClosed s = false →
    pairMode s = true →
    s.pair.role8At = none →
    exec (.pairOverride t m) s =
      .next (ended t m doneReply (fun s => { s with pair.role := 15, pair.override := some (s.now + sec (leAt b 0 2)), pair.listening := none }) s)) ∧
  (∀ (t m : Nat) (b : List Byte) (s : State),
    Pend s m Cmd.pairOverride b →
    b.length = 2 →
    leAt b 0 2 ≠ 0 →
    leAt b 0 2 ≤ 600 →
    contactorsClosed s = true →
    exec (.pairOverride t m) s = .next (turnedAway t m (guardReply Ev.contactors) s)) ∧
  (∀ (t : Nat) (sfp : List (List Nat)) (s : State),
    s.core.mode ≠ .shelf →
    s.thm.held = false →
    dueAfter (clocked t s) s.pair.healthAt (sec 10) = true →
    exec (.healthReport t sfp) s =
      .next (after t (fun s => let u := eachDo (allPorts.zip sfp) (fun e s => setPort e.1.1 e.1.2 (fun x => { x with sfp := e.2 }) s) s; let b := healthBytes u; let u := { u with pair.health := some b, pair.healthAt := some u.now }; if prmN u Prm.healthDest = 0 then u else sendFlow 7 4 false (prmN u Prm.healthDest) b u) s)) ∧
  (∀ (t m : Nat) (s : State),
    Pend s m Cmd.pairStatus [] →
    exec (.pairStatus t m) s = .next (read t m pairStatus s)) ∧
  (∀ (t m : Nat) (s : State),
    Pend s m Cmd.healthRead [] →
    exec (.healthRead t m) s = .next (read t m (fun s => .bytes (fixLen 128 (s.pair.health.getD []))) s)) ∧
  (∀ (t m : Nat) (s : State),
    Pend s m Cmd.pairCkptNow [] →
    pushes s = true →
    exec (.pairCkptNow t m) s = .next (ended t m doneReply pushCheckpoint s)) ∧
  (∀ (t m : Nat) (s : State),
    Pend s m Cmd.pairCkptNow [] →
    pushes s = false →
    exec (.pairCkptNow t m) s = .next (turnedAway t m (guardReply Ev.pairRole) s))

/-- Hellos, adjacencies, advertisements, routes and planes act as R440 to R450 say. HELLO_SEND sends the hello of a port; a
malformed hello or one of this node itself changes nothing, one of another claimant of this address is a duplicate, any other
is taken; a port without a hello for its dead time, or without synchronisation, stops being adjacent and forgets its
neighbour; a due advertisement is numbered, stored and flooded; a received one is stored and flooded on when it is newer, an
old copy of this node's own makes it send anew; a copy of 3.5 s is removed; routes are computed and the flows follow; a plane
fails and comes up 100 ms after its condition. Where the spec leaves a point open the clauses follow the model's choices:
notes/assumptions/29, 44. (15_fabric.md R440, R442, R443, R445, R446, R450, R451, R455.) -/
def Obligations.FabricAdjacencyAndAdvertisements : Prop :=
  (∀ (t p k : Nat) (s : State),
    exec (.helloSend t p k) s = .next (after t (fun s => sendHello p k false s) s)) ∧
  (∀ (t p k : Nat) (h : List Byte) (s : State),
    (portOn s p k = false ∨ helloFormed p h = false ∨ (leAt h 0 2 = s.fab.node ∧ leAt h 4 8 = s.core.serial)) →
    exec (.hello t p k h) s = .next (after t (fun s => s) s)) ∧
  (∀ (t p k : Nat) (h : List Byte) (s : State),
    portOn s p k = true →
    helloFormed p h = true →
    leAt h 0 2 = s.fab.node →
    leAt h 4 8 ≠ s.core.serial →
    exec (.hello t p k h) s = .next (after t (duplicateAddress p (leAt h 4 8)) s)) ∧
  (∀ (t p k : Nat) (h : List Byte) (s : State),
    portOn s p k = true →
    helloFormed p h = true →
    leAt h 0 2 ≠ s.fab.node →
    leAt h 4 8 ≠ s.core.serial →
    exec (.hello t p k h) s = .next (after t (takeHello p k h) s)) ∧
  (∀ (t p k a : Nat) (s : State),
    isPort p k = true →
    (portOf s p k).helloAt = some a →
    a + ms 100 * prmN s (Prm.helloDead + 256 * p) ≤ max s.now t →
    exec (.helloDead t p k) s =
      .next (after t (fun s => dropAdj p k (setPort p k (fun x => { x with nbr := none, rcvd := [], delays := [], halfOut := none }) s)) s)) ∧
  (∀ (t p k : Nat) (s : State),
    isPort p k = true →
    exec (.pcsSyncLoss t p k) s =
      .next (after t (fun s => dropAdj p k (setPort p k (fun x => { x with link := false, nbr := none, rcvd := [], delays := [], halfOut := none }) s)) s)) ∧
  (∀ (t p : Nat) (s : State),
    p < 2 →
    planeOn s p = true →
    floodDue (clocked t s) p = true →
    exec (.lsaSend t p) s =
      .next (after t (fun s => let n := ((planeOf s p).lsaSeq + 1) % 2 ^ 32; let a := ownLsa s p n; flood p 0 a (storeLsa p a (setPlane p (fun x => { x with lsaSeq := n, floodAt := some s.now, changed := false }) s))) s)) ∧
  (∀ (t p : Nat) (s : State),
    floodDue (clocked t s) p = false →
    exec (.lsaSend t p) s = .next (after t (fun s => s) s)) ∧
  (∀ (t p k : Nat) (a : Lsa) (s : State),
    (portOn s p k = false ∨ (portOf s p k).adj = false) →
    exec (.lsa t p k a) s = .next (after t (fun s => s) s)) ∧
  (∀ (t p k : Nat) (a : Lsa) (s : State),
    portOn s p k = true →
    (portOf s p k).adj = true →
    a.origin = s.fab.node →
    a.serial = s.core.serial →
    newerSeq a.seq (planeOf s p).lsaSeq = true →
    exec (.lsa t p k a) s = .next (after t (setPlane p (fun x => { x with lsaSeq := a.seq, changed := true })) s)) ∧
  (∀ (t p k : Nat) (a : Lsa) (s : State),
    portOn s p k = true →
    (portOf s p k).adj = true →
    a.origin ≠ s.fab.node →
    (planeOf s p).lsdb = [] →
    exec (.lsa t p k a) s = .next (after t (fun s => flood p k a (storeLsa p a (judgeString p a.origin s))) s)) ∧
  (∀ (t p k : Nat) (a b : Lsa) (c : Nat) (s : State),
    portOn s p k = true →
    (portOf s p k).adj = true →
    a.origin ≠ s.fab.node →
    (planeOf s p).lsdb = [(b, c)] →
    b.origin = a.origin →
    newerSeq a.seq b.seq = false →
    exec (.lsa t p k a) s = .next (after t (fun s => s) s)) ∧
  (∀ (t p o : Nat) (s : State),
    exec (.lsaAgeOut t p o) s =
      .next (after t (fun s => setPlane p (fun x => { x with lsdb := x.lsdb.filter (fun e => e.1.origin ≠ o || s.now < e.2 + ms 3500) }) s) s)) ∧
  (∀ (t p : Nat) (s : State),
    p < 2 →
    running s (0x0C + p) = true →
    exec (.routeCompute t p) s =
      .next (after t (fun s => pinRoute p (moveFlows (judgePlane p (setPlane p (fun x => { x with routes := routesOf s p }) s)))) s)) ∧
  (∀ (t a c b : Nat) (f : Flow) (s : State),
    s.fab.flows = [f] →
    f.addr = a →
    f.cls = c →
    f.backSince = some b →
    b + sec 1 ≤ max s.now t →
    (routeTo s (prmN s Prm.fabricPref) a).isSome = true →
    exec (.flowReturn t a c) s =
      .next (after t (fun s => { s with fab.flows := [{ f with plane := prmN s Prm.fabricPref, backSince := none }] }) s)) ∧
  (∀ (t p : Nat) (s : State),
    p < 2 →
    s.core.mode ≠ .shelf →
    (planeOf (judgePlane p (clocked t s)) p).cond.1 = true →
    (planeOf (judgePlane p (clocked t s)) p).failed = false →
    heldFor (judgePlane p (clocked t s)) (planeOf (judgePlane p (clocked t s)) p).cond.2 (ms 100) = true →
    exec (.planeFailed t p) s =
      .next (after t (fun s => record (Ev.planeFailed + 256 * p) 3 [] (setPlane p (fun x => { x with failed := true, declaredAt := s.now }) (judgePlane p s))) s)) ∧
  (∀ (t p : Nat) (s : State),
    p < 2 →
    (planeOf (judgePlane p (clocked t s)) p).failed = true →
    exec (.planeFailed t p) s = .next (after t (judgePlane p) s)) ∧
  (∀ (t p : Nat) (s : State),
    p < 2 →
    (planeOf (judgePlane p (clocked t s)) p).cond.1 = false →
    (planeOf (judgePlane p (clocked t s)) p).failed = true →
    heldFor (judgePlane p (clocked t s)) (planeOf (judgePlane p (clocked t s)) p).cond.2 (ms 100) = true →
    exec (.planeUp t p) s =
      .next (after t (fun s => setPlane p (fun x => { x with failed := false, declaredAt := s.now }) (judgePlane p s)) s)) ∧
  (∀ (s : State) (p : Nat),
    (planeOf s p).cond.1 ≠ planeFailing s p →
    p < s.fab.plane.length →
    (planeOf (judgePlane p s) p).cond = (planeFailing s p, s.now)) ∧
  (∀ (p k : Nat) (s : State),
    (portOf s p k).adj = false →
    3 ≤ (portOf s p k).good →
    (portOf s p k).multi = false →
    judgeAdj p k s = judgePlane p (planeChanged p (setPort p k (fun x => { x with adj := true }) s))) ∧
  (∀ (p k : Nat) (s : State),
    (portOf s p k).good < 3 →
    judgeAdj p k s = s)

/-- Received frames are checked, counted, delivered and passed on as R432 to R437 and R447 say. A frame at a closed port changes
nothing; a wrong FCS or length, a tag, a foreign address or EtherType and a bad header are each counted and end there; a frame
for this node counts in its flow; any other is passed on with one hop less and the link added to its trace, or dropped and
counted without a route or hops; FAB_STATUS, FAB_ROUTES, FAB_LSDB and FAB_FLOWS read, FAB_CLEAR_COUNTERS clears the counters
of its plane. Where the spec leaves a point open the clauses follow the model's choices: notes/assumptions/29, 44.
(15_fabric.md R432, R433, R435, R437, R447, R456, R462.) -/
def Obligations.FabricFramesFlowsAndCommands : Prop :=
  (∀ (t p k : Nat) (f : FabFrame) (s : State),
    portOn s p k = false →
    exec (.fabricFrameReceive t p k f) s = .next (after t (fun s => s) s)) ∧
  (∀ (t p k : Nat) (f : FabFrame) (s : State),
    portOn s p k = true →
    (f.fcsOk = false ∨ f.body.length + 18 < 64 ∨ 1266 < f.body.length + 18) →
    exec (.fabricFrameReceive t p k f) s =
      .next (after t (setPort p k (fun x => { x with crcErrors := x.crcErrors + 1 })) s)) ∧
  (∀ (t p k : Nat) (f : FabFrame) (s : State),
    portOn s p k = true →
    f.fcsOk = true →
    64 ≤ f.body.length + 18 →
    f.body.length + 18 ≤ 1266 →
    f.tagged = true →
    exec (.fabricFrameReceive t p k f) s =
      .next (after t (setPort p k (fun x => { x with tagged := x.tagged + 1 })) s)) ∧
  (∀ (t p k : Nat) (f : FabFrame) (s : State),
    portOn s p k = true →
    f.fcsOk = true →
    64 ≤ f.body.length + 18 →
    f.body.length + 18 ≤ 1266 →
    f.tagged = false →
    (f.addressed = false ∨ f.ethertype ≠ prmN s Prm.fabricEthertype) →
    exec (.fabricFrameReceive t p k f) s =
      .next (after t (setPort p k (fun x => { x with foreign := x.foreign + 1 })) s)) ∧
  (∀ (t p k : Nat) (f : FabFrame) (s : State),
    portOn s p k = true →
    f.fcsOk = true →
    64 ≤ f.body.length + 18 →
    f.body.length + 18 ≤ 1266 →
    f.tagged = false →
    f.addressed = true →
    f.ethertype = prmN s Prm.fabricEthertype →
    headerGood f.body = false →
    exec (.fabricFrameReceive t p k f) s =
      .next (after t (setPort p k (fun x => { x with badHeader := x.badHeader.modify (min 4 (byteAt f.body 1 % 8)) (· + 1) })) s)) ∧
  (∀ (t p k : Nat) (f : FabFrame) (s : State),
    portOn s p k = true →
    f.fcsOk = true →
    64 ≤ f.body.length + 18 →
    f.body.length + 18 ≤ 1266 →
    f.tagged = false →
    f.addressed = true →
    f.ethertype = prmN s Prm.fabricEthertype →
    headerGood f.body = true →
    (portOf s p k).multi = false →
    leAt f.body 4 2 = s.fab.node →
    s.fab.node ≠ 0xFFFF →
    exec (.fabricFrameReceive t p k f) s = .next (after t (receiveFrame f.body) s)) ∧
  (∀ (t p k : Nat) (f : FabFrame) (s : State),
    portOn s p k = true →
    f.fcsOk = true →
    64 ≤ f.body.length + 18 →
    f.body.length + 18 ≤ 1266 →
    f.tagged = false →
    f.addressed = true →
    f.ethertype = prmN s Prm.fabricEthertype →
    headerGood f.body = true →
    (portOf s p k).multi = false →
    forThisNode s (leAt f.body 4 2) = false →
    exec (.fabricFrameReceive t p k f) s = .next (after t (forwardFrame p k f.residence f.body) s)) ∧
  (∀ (p k n : Nat) (b : List Byte) (s : State),
    carriesTransit s = true →
    byteAt b 3 ≠ 1 →
    byteAt b 3 ≠ 2 →
    leAt b 4 2 ≠ 0xFFFF →
    byteAt b 2 = 0 →
    forwardFrame p k n b s = setPort p k (fun x => { x with hopExpired := x.hopExpired + 1 }) s) ∧
  (∀ (p k n : Nat) (b : List Byte) (r : Route) (s : State),
    carriesTransit s = true →
    byteAt b 3 ≠ 1 →
    byteAt b 3 ≠ 2 →
    leAt b 4 2 ≠ 0xFFFF →
    byteAt b 2 ≠ 0 →
    routeTo s p (leAt b 4 2) = some r →
    forwardFrame p k n b s = transitOn p r.port k n b s) ∧
  (∀ (p k n : Nat) (b : List Byte) (s : State),
    carriesTransit s = true →
    byteAt b 3 ≠ 1 →
    byteAt b 3 ≠ 2 →
    leAt b 4 2 ≠ 0xFFFF →
    byteAt b 2 ≠ 0 →
    routeTo s p (leAt b 4 2) = none →
    forwardFrame p k n b s = setPort p k (fun x => { x with drops := x.drops.modify (byteAt b 1 % 8) (· + 1) }) s) ∧
  (∀ (p k n : Nat) (b : List Byte) (s : State),
    s.core.mode = .dormant →
    forwardFrame p k n b s = s) ∧
  (∀ (t m q : Nat) (s : State),
    Pend s m (0x0C00 + 16 + 256 * q) [] →
    q < 2 →
    exec (.fabStatus t m) s =
      .next (read t m (fun s => .fields ([("node", [(s.fab.node : Int), flag s.fab.provisional]), ("plane", [flag (planeOf s q).failed])] ++ [1, 2, 3].map (portFields s q))) s)) ∧
  (∀ (t m q : Nat) (b : List Byte) (s : State),
    Pend s m (0x0C00 + 0x11 + 256 * q) b →
    q < 2 →
    b.length = 3 →
    byteAt b 2 ≠ 0 →
    byteAt b 2 ≤ 64 →
    exec (.fabRoutes t m) s =
      .next (read t m (fun s => .fields ((List.range (byteAt b 2)).filterMap (fun i => routeFields s q (leAt b 0 2 + i)))) s)) ∧
  (∀ (t m q : Nat) (b : List Byte) (e : Lsa × Nat) (s : State),
    Pend s m (0x0C00 + 0x12 + 256 * q) b →
    q < 2 →
    b.length = 2 →
    (planeOf s q).lsdb.find? (fun e => e.1.origin = leAt b 0 2) = some e →
    exec (.fabLsdb t m) s =
      .next (read t m (fun s => .fields [("age", [((s.now - e.2 : Nat) : Int)]), ("lsa", (lsaBytes e.1).map (fun x => (x.toNat : Int)))]) s)) ∧
  (∀ (t m q : Nat) (s : State),
    Pend s m (0x0C00 + 19 + 256 * q) [] →
    q < 2 →
    exec (.fabFlows t m) s =
      .next (read t m (fun s => .fields (("full", [(s.fab.full : Int)]) :: s.fab.flows.map flowFields)) s)) ∧
  (∀ (t m q : Nat) (s : State),
    Pend s m (0x0C00 + 20 + 256 * q) [] →
    q < 2 →
    exec (.fabClearCounters t m) s =
      .next (ended t m doneReply (fun s => setPlane q (fun x => { x with port := x.port.map clearPort }) s) s))

/-- CAN reception, attempts and their ends, and bus-off act as R490 to R496, R354 and R355 say. A frame that ends on a hearing
port is stored when a filter takes it, or lost with RX_OVERRUN when 64 entries are owned; with the map in force CAN1 stores
none; a SOF commits the express frame before the queue; a completed frame leaves its entry sent with its instant, a lost or
faulty attempt leaves it in place and lets a waiting cancel remove it; bus-off freezes the queue, is recorded, and recovers at
once with CAN_AUTO_RECOVER; a recovered controller is error active with counters 0. Where the spec leaves a point open the
clauses follow the model's choices: notes/assumptions/9, 28, 46. (17_field_buses.md R490, R491, R492, R494, R495, R496, R497.) -/
def Obligations.CanFramesAndBusOff : Prop :=
  (∀ (t c : Nat) (f : CanFrame) (s : State),
    (2 ≤ c ∨ canHears s c = false) →
    exec (.canFrameReceive t c f) s = .next (after t (fun s => s) s)) ∧
  (∀ (t c : Nat) (f : CanFrame) (s : State),
    c < 2 →
    canHears s c = true →
    f.id ≠ prmN s Prm.wakeCanId →
    (c = 1 ∨ mapMode s = false) →
    accepted s c f = true →
    exec (.canFrameReceive t c f) s =
      .next (after t (fun s => setCan c (storeFrame f (stampNow s)) (setCan c (fun x => confine { x with rec_ := if 127 < x.rec_ then 127 else x.rec_ - 1 }) s)) s)) ∧
  (∀ (t c : Nat) (f : CanFrame) (s : State),
    c = 0 →
    canHears s c = true →
    f.id ≠ prmN s Prm.wakeCanId →
    mapMode s = true →
    exec (.canFrameReceive t c f) s =
      .next (after t (setCan c (fun x => confine { x with rec_ := if 127 < x.rec_ then 127 else x.rec_ - 1 })) s)) ∧
  (∀ (t c : Nat) (f : CanFrame) (s : State),
    c = 0 →
    s.core.mode = .dormant →
    canHears s c = true →
    f.ide = false →
    f.id = prmN s Prm.wakeCanId →
    mapMode (wakeNow 0 (clocked t s)) = true →
    exec (.canFrameReceive t c f) s =
      .next (after t (fun s => setCan c (fun x => confine { x with rec_ := if 127 < x.rec_ then 127 else x.rec_ - 1 }) (wakeNow 0 s)) s)) ∧
  (∀ (f : CanFrame) (n : Nat) (c : Can),
    64 ≤ c.rx.length →
    storeFrame f n c = { c with overrun := (c.overrun + 1) % 2 ^ 32, gapped := true }) ∧
  (∀ (f : CanFrame) (n : Nat) (c : Can),
    c.rx.length < 64 →
    storeFrame f n c = { c with rx := c.rx ++ [⟨c.seq, c.gapped, n, f⟩], seq := (c.seq + 1) % 65536, gapped := false }) ∧
  (∀ (t c : Nat) (e : CanTxEntry) (x : Bool) (s : State),
    c < 2 →
    canSends s c = true →
    (canOf s c).onBus = none →
    nextEntry (canOf s c) = some (e, x) →
    exec (.canTxAttempt t c) s = .next (after t (setCan c (fun y => { y with onBus := some (e.handle, x) })) s)) ∧
  (∀ (c : Can) (e : CanTxEntry),
    c.express = some e →
    nextEntry c = some (e, true)) ∧
  (∀ (c : Can) (e : CanTxEntry) (l : List CanTxEntry),
    c.express = none →
    c.tx = e :: l →
    nextEntry c = some (e, false)) ∧
  (∀ (t c h : Nat) (x : Bool) (e : CanTxEntry) (s : State),
    c < 2 →
    (canOf s c).onBus = some (h, x) →
    queuedEntry (canOf s c) h = some e →
    (canOf s c).cancel = none →
    (fnOf s (0x0F + c)).state = .running →
    exec (.canTxEnd t c 0) s =
      .next (after t (fun s => setCan c (fun x => confine { settle h (some (stampNow s)) x with onBus := none, cancel := none, tec := x.tec - 1 }) (emit (.can (c + 1) e.frame) s)) s)) ∧
  (∀ (t c h : Nat) (x : Bool) (s : State),
    c < 2 →
    (canOf s c).onBus = some (h, x) →
    exec (.canTxEnd t c 1) s = .next (after t (fun s => leaveBus c (attemptLost c h s)) s)) ∧
  (∀ (t c h : Nat) (x : Bool) (s : State),
    c < 2 →
    (canOf s c).onBus = some (h, x) →
    exec (.canTxEnd t c 2) s =
      .next (after t (fun s => leaveBus c (setCan c (fun x => confine { x with tec := min 255 (x.tec + 8) }) (attemptLost c h s))) s)) ∧
  (∀ (c h : Nat) (s : State),
    (canOf s c).cancel = none →
    attemptLost c h s = setCan c (fun x => { x with onBus := none, cancel := none }) s) ∧
  (∀ (c h m : Nat) (s : State),
    (canOf s c).cancel = some m →
    attemptLost c h s = finishJob (some m) (Cmd.canTxCancel + 256 * c) doneReply (setCan c (settle h none) (setCan c (fun x => { x with onBus := none, cancel := none }) s))) ∧
  (∀ (t c : Nat) (s : State),
    c < 2 →
    canSends s c = true →
    (canOf s c).onBus = none →
    exec (.busOff t c) s =
      .next (after t (fun s => let u := record (Ev.busOff + 256 * c) 3 [] s; leaveBus c (setCan c (fun x => { x with tec := 256, recoverAt := u.now, bus := if canPrm u c Prm.canAutoRecover = 1 then .recovering else .off }) u)) s)) ∧
  (∀ (t c : Nat) (s : State),
    c < 2 →
    (canOf s c).bus = .recovering →
    (canOf s c).recoverAt + recoverTime s c ≤ max s.now t →
    exec (.busOffRecovered t c) s =
      .next (after t (setCan c (fun x => { x with bus := .active, tec := 0, rec_ := 0 })) s))

/-- The CAN commands act as R490 to R495, R497 and R513 say, on either controller. CAN_TX queues a well-formed frame with a fresh
handle, express apart from the queue, and is refused while the function is stopped, the map holds CAN1, the express place or
the 32 places are taken; a cancel removes a queued entry, waits for one on the bus, is TOO_LATE for one sent; a query tells
where a handle stands; reading leaves the entries and a release drops those up to its sequence; CAN_RECOVER starts the
recovery of a bus-off controller and is refused to any other; CAN_STATUS reads. Where the spec leaves a point open the clauses
follow the model's choices: notes/assumptions/9, 28, 46. (17_field_buses.md R490, R491, R492, R493, R495, R497, R513.) -/
def Obligations.CanCommands : Prop :=
  (∀ (t m q n : Nat) (b : List Byte) (s : State),
    Pend s m (0x0F00 + 0x11 + 256 * q) b →
    q < 2 →
    b.length = 80 →
    txBadField (begun t m s) q (0x0F11 + 256 * q) b = none →
    canStopped s q = false →
    (q = 1 ∨ mapMode s = false) →
    bitOf (byteAt b 2) 6 = false →
    (canOf s q).tx.length < 32 →
    freshHandle (canOf s q) = n →
    exec (.canTx t m) s =
      .next (ended t m (doneWith (.bytes (leBytes 2 n))) (fun s => setCan q (fun y => { y with next := (n + 1) % 65536, settled := y.settled.filter (·.1 ≠ n), tx := y.tx ++ [⟨n, frameOf b⟩] }) s) s)) ∧
  (∀ (t m q n : Nat) (b : List Byte) (s : State),
    Pend s m (0x0F00 + 0x11 + 256 * q) b →
    q < 2 →
    b.length = 80 →
    txBadField (begun t m s) q (0x0F11 + 256 * q) b = none →
    canStopped s q = false →
    (q = 1 ∨ mapMode s = false) →
    bitOf (byteAt b 2) 6 = true →
    (canOf s q).express = none →
    freshHandle (canOf s q) = n →
    exec (.canTx t m) s =
      .next (ended t m (doneWith (.bytes (leBytes 2 n))) (fun s => setCan q (fun y => { y with next := (n + 1) % 65536, settled := y.settled.filter (·.1 ≠ n), express := some ⟨n, frameOf b⟩ }) s) s)) ∧
  (∀ (t m q : Nat) (b : List Byte) (s : State),
    Pend s m (0x0F00 + 0x11 + 256 * q) b →
    q < 2 →
    b.length = 80 →
    txBadField (begun t m s) q (0x0F11 + 256 * q) b = none →
    canStopped s q = false →
    (q = 1 ∨ mapMode s = false) →
    bitOf (byteAt b 2) 6 = true →
    (canOf s q).express.isSome = true →
    exec (.canTx t m) s = .next (turnedAway t m (guardReply (Ev.expressBusy + 256 * q)) s)) ∧
  (∀ (t m q : Nat) (b : List Byte) (s : State),
    Pend s m (0x0F00 + 0x11 + 256 * q) b →
    q < 2 →
    b.length = 80 →
    txBadField (begun t m s) q (0x0F11 + 256 * q) b = none →
    canStopped s q = false →
    (q = 1 ∨ mapMode s = false) →
    bitOf (byteAt b 2) 6 = false →
    32 ≤ (canOf s q).tx.length →
    exec (.canTx t m) s = .next (turnedAway t m (guardReply (Ev.txFull + 256 * q)) s)) ∧
  (∀ (t m q : Nat) (b : List Byte) (x : Reply) (s : State),
    Pend s m (0x0F00 + 0x11 + 256 * q) b →
    q < 2 →
    b.length = 80 →
    txBadField (begun t m s) q (0x0F11 + 256 * q) b = some x →
    x.status = .badArgument →
    exec (.canTx t m) s = .next (turnedAway t m x s)) ∧
  (∀ (t m q : Nat) (b : List Byte) (s : State),
    Pend s m (0x0F00 + 0x12 + 256 * q) b →
    q < 2 →
    b.length = 2 →
    (canOf s q).onBus.map (·.1) = some (leAt b 0 2) →
    (canOf s q).cancel = none →
    exec (.canTxCancel t m) s = .next (going t m (fun s => setCan q (fun y => { y with cancel := some m }) s) s)) ∧
  (∀ (t m q : Nat) (b : List Byte) (s : State),
    Pend s m (0x0F00 + 0x12 + 256 * q) b →
    q < 2 →
    b.length = 2 →
    (canOf s q).onBus = none →
    (queuedEntry (canOf s q) (leAt b 0 2)).isSome = true →
    exec (.canTxCancel t m) s = .next (ended t m doneReply (fun s => setCan q (settle (leAt b 0 2) none) s) s)) ∧
  (∀ (t m q a : Nat) (b : List Byte) (s : State),
    Pend s m (0x0F00 + 0x12 + 256 * q) b →
    q < 2 →
    b.length = 2 →
    (canOf s q).onBus = none →
    queuedEntry (canOf s q) (leAt b 0 2) = none →
    (canOf s q).settled.find? (·.1 = (leAt b 0 2)) = some ((leAt b 0 2), some a) →
    exec (.canTxCancel t m) s = .next (turnedAway t m { status := .tooLate } s)) ∧
  (∀ (t m q : Nat) (b : List Byte) (s : State),
    Pend s m (0x0F00 + 0x13 + 256 * q) b →
    q < 2 →
    b.length = 2 →
    exec (.canTxQuery t m) s = .next (read t m (fun s => txState (canOf s q) (leAt b 0 2)) s)) ∧
  (∀ (t m q : Nat) (b : List Byte) (s : State),
    Pend s m (0x0F00 + 0x14 + 256 * q) b →
    q < 2 →
    b.length = 1 →
    byteAt b 0 ≠ 0 →
    byteAt b 0 ≤ 14 →
    exec (.canRxRead t m) s =
      .next (read t m (fun s => .bytes (((canOf s q).rx.take (byteAt b 0)).flatMap rxBytes)) s)) ∧
  (∀ (t m q : Nat) (b : List Byte) (l : List CanRxEntry) (s : State),
    Pend s m (0x0F00 + 0x15 + 256 * q) b →
    q < 2 →
    b.length = 2 →
    releaseTo (leAt b 0 2) (canOf s q).rx = some l →
    exec (.canRxRelease t m) s = .next (ended t m doneReply (fun s => setCan q (fun x => { x with rx := l }) s) s)) ∧
  (∀ (t m q : Nat) (b : List Byte) (s : State),
    Pend s m (0x0F00 + 0x15 + 256 * q) b →
    q < 2 →
    b.length = 2 →
    releaseTo (leAt b 0 2) (canOf s q).rx = none →
    exec (.canRxRelease t m) s = .next (turnedAway t m (argReply (0x0F15 + 256 * q) 0) s)) ∧
  (∀ (t m q : Nat) (s : State),
    Pend s m (0x0F00 + 0x16 + 256 * q) [] →
    q < 2 →
    (canOf s q).bus = .off →
    exec (.canRecover t m) s =
      .next (ended t m doneReply (fun s => setCan q (fun x => { x with bus := .recovering, recoverAt := s.now }) s) s)) ∧
  (∀ (t m q : Nat) (s : State),
    Pend s m (0x0F00 + 0x16 + 256 * q) [] →
    q < 2 →
    (canOf s q).bus ≠ .off →
    exec (.canRecover t m) s = .next (turnedAway t m (causeReply .refusedGuard 0) s)) ∧
  (∀ (t m q : Nat) (s : State),
    Pend s m (0x0F00 + 0x10 + 256 * q) [] →
    q < 2 →
    exec (.canStatus t m) s = .next (read t m (canStatus q) s))

/-- The forerunner map and the two-wire buses act as R497 to R509 say. With the map in force a due map frame goes out from the
module that acts for the string; a set-point or command frame with a new counter acts and leaves its status, one with the
counter of the last is counted only; an address byte selects the window or ends the transfer; written bytes set the pointer
and then the window; a doorbell OP acts on mailbox 7; an attention message is delivered, lost or retried; a late byte is
counted and not acknowledged; TW-ACC transfers end with their data or their fault, and a low SDA is cleared in at most nine
pulses or the bus is stuck. Where the spec leaves a point open the clauses follow the model's choices: notes/assumptions/9,
28, 46. (17_field_buses.md R497, R498, R499, R500, R501, R503, R504, R505, R506, R507, R508, R509.) -/
def Obligations.ForerunnerMapAndTwoWire : Prop :=
  (∀ (t k : Nat) (v : Option Int) (s : State),
    mapMode s = true →
    claimsActive s = true →
    canSends s 0 = true →
    k < 5 →
    dueAfter (clocked t s) ((canOf s 0).mapAt.getD k none) (mapPeriod k) = true →
    exec (.frMapSend t k v) s =
      .next (after t (fun s => let u := emit (.can 1 (mapFrame (prmN s Prm.frBaseId + k) (mapBytes s k v))) s; setCan 0 (fun x => { x with mapTx := (x.mapTx + 1) % 2 ^ 32, mapAt := x.mapAt.set k (some u.now), page := if k = 4 then (x.page + 1) % 171 else x.page }) u) s)) ∧
  (∀ (t : Nat) (d : List Byte) (s : State),
    mapMode s = false →
    exec (.frSetpointFrame t d) s = .next (after t (fun s => s) s)) ∧
  (∀ (t : Nat) (d : List Byte) (s : State),
    mapMode s = true →
    canHears s 0 = true →
    mapActs s (canOf s 0).ctr10 (byteAt d 4) = true →
    exec (.frSetpointFrame t d) s =
      .next (after t (fun s => let u := setCan 0 (fun x => { x with mapRx := (x.mapRx + 1) % 2 ^ 32 }) (setCan 0 (fun x => { x with ctr10 := some (byteAt d 4) }) s); setCan 0 (fun x => { x with mapStatus := (mapSetPoint d u).1, mapCmd := Cmd.spSet }) (mapSetPoint d u).2) s)) ∧
  (∀ (t : Nat) (d : List Byte) (s : State),
    mapMode s = true →
    canHears s 0 = true →
    claimsActive s = true →
    (canOf s 0).ctr10 = some (byteAt d 4) →
    exec (.frSetpointFrame t d) s =
      .next (after t (fun s => setCan 0 (fun x => { x with mapIgnored := (x.mapIgnored + 1) % 2 ^ 32 }) (setCan 0 (fun x => { x with ctr10 := some (byteAt d 4) }) s)) s)) ∧
  (∀ (t : Nat) (d : List Byte) (vs vl : Int) (s : State),
    mapMode s = true →
    canHears s 0 = true →
    mapActs s (canOf s 0).ctr11 (byteAt d 1) = true →
    exec (.frCommandFrame t d vs vl) s =
      .next (after t (fun s => mapExec d vs vl (setCan 0 (fun x => { x with mapRx := (x.mapRx + 1) % 2 ^ 32 }) (setCan 0 (fun x => { x with ctr11 := some (byteAt d 1) }) s))) s)) ∧
  (∀ (d : List Byte) (vs vl : Int) (c : Nat) (p : List Byte) (s : State),
    mapCommand (byteAt d 0) = some (c, p) →
    prm s Prm.frCmdEnable ≠ 1 →
    mapExec d vs vl s = noteMap c .refusedGuard (record Ev.frMap 3 [(c : Int), Status.refusedGuard.code] s)) ∧
  (∀ (t a : Nat) (r : Option Nat) (s : State),
    svcAlive s = true →
    a ≠ s.bus.svc.addr →
    exec (.twAddressMatch t a r) s =
      .next (after t (setSvc (fun x => { x with selected := false, refuse := false })) s)) ∧
  (∀ (t a : Nat) (s : State),
    svcAlive s = true →
    s.bus.svc.addr = a →
    exec (.twAddressMatch t a none) s =
      .next (after t (fun s => setSvc (fun x => { x with selected := true, ptrNext := true, refuse := false }) (setIsland 10 (fun i => { i with sleep := .awake, wakeAt := none }) s)) s)) ∧
  (∀ (t a n : Nat) (s : State),
    svcAlive s = true →
    s.bus.svc.addr = a →
    exec (.twAddressMatch t a (some n)) s =
      .next (after t (fun s => let u := setIsland 10 (fun i => { i with sleep := .awake, wakeAt := none }) s; setSvc (fun x => { x with selected := true, ptrNext := false, refuse := false, ptr := (u.bus.svc.ptr + n) % 256 }) (emit (.window ((List.range n).map (fun i => windowByte u ((u.bus.svc.ptr + i) % 256)))) u)) s)) ∧
  (∀ (t : Nat) (b : List Byte) (s : State),
    svcAlive s = true →
    exec (.twWindowWrite t b) s = .next (after t (fun s => b.foldl writeByte s) s)) ∧
  (∀ (v : Byte) (s : State),
    s.bus.svc.selected = true →
    s.bus.svc.refuse = false →
    s.bus.svc.ptrNext = true →
    writeByte s v = setSvc (fun x => { x with ptr := v.toNat, ptrNext := false }) s) ∧
  (∀ (v : Byte) (s : State),
    s.bus.svc.selected = true →
    s.bus.svc.refuse = false →
    s.bus.svc.ptrNext = false →
    writeByte s v = writeAt s.bus.svc.ptr v (setSvc (fun x => { x with ptr := (x.ptr + 1) % 256 }) s)) ∧
  (∀ (v : Byte) (s : State),
    s.bus.svc.selected = true →
    s.bus.svc.refuse = true →
    writeByte s v = setSvc (fun x => { x with refuse := false, selected := false }) s) ∧
  (∀ (t : Nat) (s : State),
    svcAlive s = true →
    s.bus.svc.selected = true →
    s.bus.svc.refuse = false →
    s.bus.svc.ptrNext = false →
    s.bus.svc.ptr = 12 →
    mbxServed s 7 = true →
    exec (.twDoorbellRequest t) s =
      .next (after t (fun s => bellRequest (setSvc (fun x => { x with ptr := 13 }) s)) s)) ∧
  (∀ (t : Nat) (s : State),
    svcAlive s = true →
    s.bus.svc.selected = true →
    s.bus.svc.refuse = false →
    s.bus.svc.ptrNext = false →
    s.bus.svc.ptr = 12 →
    mbxServed s 7 = true →
    exec (.twDoorbellRead t) s = .next (after t (fun s => bellRead (setSvc (fun x => { x with ptr := 13 }) s)) s)) ∧
  (∀ (t : Nat) (s : State),
    svcAlive s = true →
    s.bus.svc.selected = true →
    s.bus.svc.refuse = false →
    s.bus.svc.ptrNext = false →
    s.bus.svc.ptr = 12 →
    mbxServed s 7 = true →
    exec (.twDoorbellAck t) s = .next (after t (fun s => bellAck (setSvc (fun x => { x with ptr := 13 }) s)) s)) ∧
  (∀ (s : State),
    (s.bus.svc.reqLen < 8 ∨ 1204 < s.bus.svc.reqLen) →
    bellRequest s = discardEnvelope 7 (setSvc (fun x => { x with bell := 1 }) s)) ∧
  (∀ (s : State),
    8 ≤ s.bus.svc.reqLen →
    s.bus.svc.reqLen ≤ 1204 →
    (mbxOf s 7).phase = .pending →
    bellRequest s = setSvc (fun x => { x with bell := 2 }) s) ∧
  (∀ (t : Nat) (s : State),
    exec (.twTransferAbort t) s =
      .next (after t (setSvc (fun x => { x with selected := false, refuse := false })) s)) ∧
  (∀ (t : Nat) (s : State),
    svcAlive s = true →
    s.bus.svc.selected = true →
    exec (.twLate t false) s =
      .next (after t (fun s => setSvc (fun x => { x with refuse := true }) (setSvc (fun x => { x with late := (x.late + 1) % 2 ^ 32 }) s)) s)) ∧
  (∀ (t : Nat) (s : State),
    svcAlive s = true →
    s.bus.svc.selected = true →
    exec (.twLate t true) s =
      .next (after t (fun s => emit (.window [0xFF]) (setSvc (fun x => { x with late := (x.late + 1) % 2 ^ 32 }) s)) s)) ∧
  (∀ (t : Nat) (s : State),
    attnDue s = true →
    s.bus.svc.attnAt = none →
    exec (.twAttention t 0) s =
      .next (after t (fun s => setSvc (fun x => { x with attn := 0, attnAt := none, selected := false }) (emit (.twoWire 2 (prmN s Prm.twAttnAddr) (attnBytes s)) s)) s)) ∧
  (∀ (t : Nat) (s : State),
    attnDue s = true →
    s.bus.svc.attnAt = none →
    exec (.twAttention t 1) s =
      .next (after t (fun s => setSvc (fun x => { x with attnAt := none, selected := false }) (emit (.twoWire 2 (prmN s Prm.twAttnAddr) (attnBytes s)) s)) s)) ∧
  (∀ (t : Nat) (s : State),
    attnDue s = true →
    s.bus.svc.attnAt = none →
    exec (.twAttention t 2) s =
      .next (after t (fun s => setSvc (fun x => { x with attnAt := some (s.now + ms (prmN s Prm.twAttnRetry)), retries := (x.retries + 1) % 2 ^ 32, selected := false }) (emit (.twoWire 2 (prmN s Prm.twAttnAddr) (attnBytes s)) s)) s)) ∧
  (∀ (t a o : Nat) (s : State),
    attnDue s = true →
    s.bus.svc.attnAt = some a →
    a ≤ max s.now t →
    exec (.twAttnRetry t o) s = .next (after t (attempt o) s)) ∧
  (∀ (t m : Nat) (s : State),
    Pend s m Cmd.twSvcStatus [] →
    exec (.twSvcStatus t m) s =
      .next (read t m (fun s => .fields [("address", [(s.bus.svc.addr : Int)]), ("attention", [(s.bus.svc.attn : Int), s.bus.svc.retries]), ("TW_LATE", [(s.bus.svc.late : Int)]), ("TW_RO_WRITE", [(s.bus.svc.roWrite : Int)])]) s)) ∧
  (∀ (t m : Nat) (s : State),
    Pend s m Cmd.twAccStatus [] →
    exec (.twAccStatus t m) s =
      .next (read t m (fun s => .fields [("BUS_STUCK", [flag s.bus.acc.stuck]), ("clears", [(s.bus.acc.clears : Int)]), ("faults", [(s.bus.acc.nacks : Int), s.bus.acc.timeouts])]) s)) ∧
  (∀ (t k : Nat) (s : State),
    s.bus.acc.stuck = false →
    s.bus.acc.clearDue = true →
    s.core.mode ≠ .shelf →
    s.core.booting = false →
    s.thm.held = false →
    running s 0x11 = true →
    k ≤ 9 →
    exec (.twBusClear t (some k)) s =
      .next (after t (fun s => setAcc (fun x => { x with stuck := false, clearDue := false, clearAt := s.now, clears := (x.clears + 1) % 2 ^ 32 }) (emit (.pulse "TW-ACC SCL" (k * us 100)) s)) s)) ∧
  (∀ (t : Nat) (s : State),
    s.bus.acc.stuck = false →
    s.bus.acc.clearDue = true →
    s.core.mode ≠ .shelf →
    s.core.booting = false →
    s.thm.held = false →
    running s 0x11 = true →
    exec (.twBusClear t none) s =
      .next (after t (fun s => let u := record Ev.busStuck 3 [] (emit (.pulse "TW-ACC SCL" (9 * us 100)) s); setAcc (fun x => { x with stuck := true, clearDue := true, clearAt := u.now, clears := (x.clears + 1) % 2 ^ 32 }) u) s)) ∧
  (∀ (t m st : Nat) (rd b : List Byte) (s : State),
    Pend s m Cmd.twAccXfer b →
    3 ≤ b.length →
    b.length = 3 + byteAt b 1 →
    byteAt b 0 ≤ 127 →
    byteAt b 1 ≤ 64 →
    byteAt b 2 ≤ 64 →
    stopped s 0x11 = false →
    s.bus.acc.stuck = false →
    st ≤ ms (prmN s Prm.twAccStretchMax) →
    exec (.twAccXfer t m none st rd) s =
      .next (ended t m (doneWith (.bytes (fixLen (byteAt b 2) rd))) (fun s => setAcc (fun x => { x with clearDue := false }) (emit (.twoWire 1 (byteAt b 0) (b.drop 3)) s)) s)) ∧
  (∀ (t m st n : Nat) (rd b : List Byte) (s : State),
    Pend s m Cmd.twAccXfer b →
    3 ≤ b.length →
    b.length = 3 + byteAt b 1 →
    byteAt b 0 ≤ 127 →
    byteAt b 1 ≤ 64 →
    byteAt b 2 ≤ 64 →
    stopped s 0x11 = false →
    s.bus.acc.stuck = false →
    st ≤ ms (prmN s Prm.twAccStretchMax) →
    exec (.twAccXfer t m (some n) st rd) s =
      .next (ended t m { causeReply .execFault Ev.twNack with payload := .fields [("byte count", [(n : Int)])] } (fun s => setAcc (fun x => { x with nacks := (x.nacks + 1) % 2 ^ 32, clearDue := false }) (emit (.twoWire 1 (byteAt b 0) ((b.drop 3).take n)) s)) s)) ∧
  (∀ (t m st : Nat) (na : Option Nat) (rd b : List Byte) (s : State),
    Pend s m Cmd.twAccXfer b →
    3 ≤ b.length →
    b.length = 3 + byteAt b 1 →
    byteAt b 0 ≤ 127 →
    byteAt b 1 ≤ 64 →
    byteAt b 2 ≤ 64 →
    stopped s 0x11 = false →
    s.bus.acc.stuck = false →
    ms (prmN s Prm.twAccStretchMax) < st →
    exec (.twAccXfer t m na st rd) s =
      .next (ended t m (causeReply .execFault Ev.twTimeout) (fun s => setAcc (fun x => { x with timeouts := (x.timeouts + 1) % 2 ^ 32, clearDue := true }) (emit (.twoWire 1 (byteAt b 0) (match na with | some n => (b.drop 3).take n | none => b.drop 3)) s)) s)) ∧
  (∀ (t m st : Nat) (na : Option Nat) (rd b : List Byte) (s : State),
    Pend s m Cmd.twAccXfer b →
    3 ≤ b.length →
    b.length = 3 + byteAt b 1 →
    byteAt b 0 ≤ 127 →
    byteAt b 1 ≤ 64 →
    byteAt b 2 ≤ 64 →
    stopped s 0x11 = false →
    s.bus.acc.stuck = true →
    exec (.twAccXfer t m na st rd) s = .next (turnedAway t m (guardReply Ev.busStuck) s))

/-- Pages, flushes and cursors of the event recorder act as R516 to R523 say. A flush period that has passed starts a flush; a
page is taken from the buffer, the urgent record first, and committed to the store, which wraps over its oldest block and
retires a failed one; a page is not started while writes are forbidden; a cursor unused for 600 s is free; REC_SEEK places a
cursor and REC_READ answers with the records from there, both refused at another binding's cursor; REC_RELEASE frees it;
REC_FLUSH starts a flush unless writes are forbidden; REC_STATUS and REC_CODES read. Where the spec leaves a point open the
clauses follow the model's choices: notes/assumptions/7, 11, 47. (18_recorder.md R515, R516, R518, R520, R522, R523, R528.) -/
def Obligations.RecorderFlushAndCursors : Prop :=
  (∀ (t : Nat) (s : State),
    s.well.lastFlush + sec (prmN s Prm.recFlushPeriod) ≤ max s.now t →
    s.core.mode ≠ .shelf →
    exec (.recFlushPeriod t) s = .next (after t beginFlush s)) ∧
  (∀ (t : Nat) (s : State),
    max s.now t < s.well.lastFlush + sec (prmN s Prm.recFlushPeriod) →
    exec (.recFlushPeriod t) s = .next (after t (fun s => s) s)) ∧
  (∀ (s : State),
    flushAllowed s = true →
    beginFlush s = { startFlush s with tim.edges := [] }) ∧
  (∀ (t : Nat) (s : State),
    s.well.flushing = true →
    s.well.page = none →
    flushAllowed s = true →
    s.thm.shutdown = none →
    s.well.clear = none →
    s.well.buf ≠ [] →
    exec (.recordFlush t) s = .next (after t (fun s => { s with well.page := some (nextPage s.well) }) s)) ∧
  (∀ (t : Nat) (s : State),
    flushAllowed s = false →
    exec (.recordFlush t) s = .next (after t (fun s => s) s)) ∧
  (∀ (t : Nat) (rt : Bool) (p : List Nat) (s : State),
    s.well.page = some p →
    exec (.nvmPageCommit t rt) s =
      .next (after t (fun s => let u := wrapStore (if rt then retireBlock s else s); let w := commitPage p u.well; { u with well := { w with flushing := w.flushing && !w.buf.isEmpty } }) s)) ∧
  (∀ (s : State),
    s.well.store.length + 64 ≤ 2097152 →
    wrapStore s = s) ∧
  (∀ (s : State),
    9 < s.well.spare →
    retireBlock s = { s with well.spare := s.well.spare - 1 }) ∧
  (∀ (s : State),
    s.well.spare ≤ 9 →
    retireBlock s = record Ev.recSpareLow 4 [((s.well.spare - 1 : Nat) : Int)] { s with well.spare := s.well.spare - 1 }) ∧
  (∀ (t c : Nat) (s : State),
    (cursorOf s c).owner.isSome = true →
    (cursorOf s c).usedAt + sec 600 ≤ max s.now t →
    exec (.cursorExpiry t c) s = .next (after t (setCursor c (fun _ => {})) s)) ∧
  (∀ (t m : Nat) (b : List Byte) (s : State),
    Pend s m Cmd.recSeek b →
    b.length = 11 →
    byteAt b 0 ≤ 3 →
    byteAt b 1 ≤ 6 →
    byteAt b 2 ≤ 3 →
    (byteAt b 2 ≠ 0 ∨ leAt b 3 8 < 2 ^ 32) →
    cursorTaken (begun t m s) (byteAt b 0) m = false →
    exec (.recSeek t m) s =
      .next (ended t m doneReply (fun s => setCursor (byteAt b 0) (fun _ => { owner := bindingOf s m, mb := m, pos := seekPosition s (byteAt b 2) (leAt b 3 8), minSev := byteAt b 1, usedAt := s.now }) s) s)) ∧
  (∀ (t m : Nat) (b : List Byte) (s : State),
    Pend s m Cmd.recSeek b →
    b.length = 11 →
    byteAt b 0 ≤ 3 →
    byteAt b 1 ≤ 6 →
    byteAt b 2 ≤ 3 →
    (byteAt b 2 ≠ 0 ∨ leAt b 3 8 < 2 ^ 32) →
    cursorTaken (begun t m s) (byteAt b 0) m = true →
    exec (.recSeek t m) s = .next (turnedAway t m (guardReply Ev.cursorOwned) s)) ∧
  (∀ (t m : Nat) (b : List Byte) (s : State),
    Pend s m Cmd.recRead b →
    b.length = 2 →
    byteAt b 0 ≤ 3 →
    byteAt b 1 ≠ 0 →
    byteAt b 1 ≤ 16 →
    (cursorOf s (byteAt b 0)).owner = none →
    exec (.recRead t m) s = .next (turnedAway t m (guardReply Ev.cursorFree) s)) ∧
  (∀ (t m : Nat) (b : List Byte) (s : State),
    Pend s m Cmd.recRead b →
    b.length = 2 →
    byteAt b 0 ≤ 3 →
    byteAt b 1 ≠ 0 →
    byteAt b 1 ≤ 16 →
    (cursorOf s (byteAt b 0)).owner.isSome = true →
    cursorTaken (begun t m s) (byteAt b 0) m = true →
    exec (.recRead t m) s = .next (turnedAway t m (guardReply Ev.cursorOwned) s)) ∧
  (∀ (t m n k : Nat) (b : List Byte) (l : List EventRec) (s : State),
    Pend s m Cmd.recRead b →
    b.length = 2 →
    byteAt b 0 ≤ 3 →
    byteAt b 1 ≠ 0 →
    byteAt b 1 ≤ 16 →
    (cursorOf s (byteAt b 0)).owner.isSome = true →
    cursorTaken (begun t m s) (byteAt b 0) m = false →
    heldRecords s.well = l →
    (cursorOf s (byteAt b 0)).pos = n →
    (cursorOf s (byteAt b 0)).gap = false →
    l.filter (fun r => seqAtMost n r.seq && (cursorOf s (byteAt b 0)).minSev ≤ r.sev) = [] →
    s.well.nextSeq = k →
    exec (.recRead t m) s =
      .next (ended t m (doneWith (.bytes (leBytes 1 (byteAt b 0) ++ leBytes 1 0 ++ leBytes 2 2 ++ leBytes 4 n ++ leBytes 4 ((l.head?.map (·.seq)).getD k)))) (fun s => setCursor (byteAt b 0) (fun x => { x with pos := n, usedAt := s.now, gap := false }) s) s)) ∧
  (∀ (t m : Nat) (b : List Byte) (s : State),
    Pend s m Cmd.recRelease b →
    b.length = 1 →
    byteAt b 0 ≤ 3 →
    (cursorOf s (byteAt b 0)).owner.isSome = true →
    cursorTaken (begun t m s) (byteAt b 0) m = false →
    exec (.recRelease t m) s = .next (ended t m doneReply (setCursor (byteAt b 0) (fun _ => {})) s)) ∧
  (∀ (t m : Nat) (s : State),
    Pend s m Cmd.recFlush [] →
    s.thm.forbid = false →
    exec (.recFlush t m) s = .next (ended t m doneReply beginFlush s)) ∧
  (∀ (t m : Nat) (s : State),
    Pend s m Cmd.recFlush [] →
    s.thm.forbid = true →
    exec (.recFlush t m) s = .next (turnedAway t m (guardReply Ev.nvmTemp) s)) ∧
  (∀ (t m : Nat) (s : State),
    Pend s m Cmd.recStatus [] →
    exec (.recStatus t m) s = .next (read t m recStatus s)) ∧
  (∀ (t m : Nat) (b : List Byte) (s : State),
    Pend s m Cmd.recCodes b →
    b.length = 2 →
    exec (.recCodes t m) s =
      .next (read t m (fun _ => .fields (((codeTable.filter (fun e => leAt b 0 2 ≤ e.1)).take 16).map codeEntry)) s))

/-- A clear removes the records up to its bound and ends with its own record, as R524 to R526 say. REC_CLEAR is refused while
clearing is disabled, another clear runs or writes are forbidden; else the buffered records up to the bound go at once, the
cursors inside move past it with a gap noted, and the store is cleared block by block while writes are allowed; when nothing
remains the CLEAR record is made, kept in the reserved area of 64 and the command ends DONE. Where the spec leaves a point
open the clauses follow the model's choices: notes/assumptions/7, 11, 47. (18_recorder.md R520, R524, R525, R526.) -/
def Obligations.RecorderClearing : Prop :=
  (∀ (t m : Nat) (b : List Byte) (s : State),
    Pend s m Cmd.recClear b →
    b.length = 4 →
    prm s Prm.recClearMode = 0 →
    exec (.recClear t m) s = .next (turnedAway t m (guardReply Ev.clearDisabled) s)) ∧
  (∀ (t m : Nat) (b : List Byte) (s : State),
    Pend s m Cmd.recClear b →
    b.length = 4 →
    prm s Prm.recClearMode ≠ 0 →
    s.well.clear.isSome = true →
    exec (.recClear t m) s = .next (turnedAway t m (guardReply Ev.functionBusy) s)) ∧
  (∀ (t m : Nat) (b : List Byte) (s : State),
    Pend s m Cmd.recClear b →
    b.length = 4 →
    prm s Prm.recClearMode ≠ 0 →
    s.well.clear = none →
    s.thm.forbid = true →
    exec (.recClear t m) s = .next (turnedAway t m (guardReply Ev.nvmTemp) s)) ∧
  (∀ (t m bound : Nat) (q : Request) (s : State),
    requestOf s m Cmd.recClear = some q →
    q.payload.length = 4 →
    prm s Prm.recClearMode ≠ 0 →
    s.well.clear = none →
    s.thm.forbid = false →
    (let last := (s.well.nextSeq + 2 ^ 32 - 1) % 2 ^ 32; if leAt q.payload 0 4 = 0xFFFFFFFF || seqBefore last (leAt q.payload 0 4) then last else leAt q.payload 0 4) = bound →
    exec (.recClear t m) s =
      .next (after t (fun s => let u := startCommand m s; checkClear { u with well.clear := some (noteCleared (u.well.buf.filter (clearable bound)) ⟨bound, none, bound, 0, m, byteAt q.auth 0, byteAt q.auth 1, (((heldRecords u.well).head?).map (·.seq)).getD u.well.nextSeq⟩), well.buf := u.well.buf.filter (fun r => !clearable bound r), well.cursors := u.well.cursors.map (fun c => if c.owner.isSome && seqAtMost c.pos bound then { c with pos := (bound + 1) % 2 ^ 32, gap := true } else c) }) s)) ∧
  (∀ (t : Nat) (rt : Bool) (s : State),
    s.well.clear = none →
    exec (.recClearBlock t rt) s = .next (after t (fun s => s) s)) ∧
  (∀ (t : Nat) (rt : Bool) (j : ClearJob) (s : State),
    s.well.clear = some j →
    s.thm.forbid = true →
    exec (.recClearBlock t rt) s = .next (after t (fun s => s) s)) ∧
  (∀ (t : Nat) (rt : Bool) (j : ClearJob) (s : State),
    s.well.clear = some j →
    s.thm.forbid = false →
    exec (.recClearBlock t rt) s =
      .next (after t (fun s => let block := (s.well.store.filter (clearable j.bound)).take 1024; let u := if rt then retireBlock s else s; checkClear { u with well.clear := some (noteCleared block j), well.store := u.well.store.filter (fun r => !block.contains r), well.erases := if block.length = 1024 then u.well.erases + 1 else u.well.erases }) s)) ∧
  (∀ (s : State) (j : ClearJob),
    s.well.clear = some j →
    s.well.store.any (clearable j.bound) = true →
    checkClear s = s) ∧
  (∀ (s : State) (j : ClearJob),
    s.well.clear = some j →
    s.well.store.any (clearable j.bound) = false →
    checkClear s = finishClear j s)

/-- Image slots are opened, filled, checked and given up as R529 to R535 say. IMG_OPEN erases the slot, which the caller's binding
then owns, unless the slot is being installed; a block is stored once, a repeat is DONE, other content is BLOCK_CONFLICT and
the last block completes the slot; IMG_CHECK makes a slot CHECKED or erases it with the first fault found; IMG_ABORT erases; a
guard of the slot refuses each of them; an owner without a block for 3,600 s is gone; IMG_STATUS reads. Where the spec leaves
a point open the clauses follow the model's choices: notes/assumptions/11, 27. (19_update.md R529, R534, R535, R547.) -/
def Obligations.ImageTransferAndCheck : Prop :=
  (∀ (t m : Nat) (b : List Byte) (s : State),
    Pend s m Cmd.imgOpen b →
    b.length = 5 →
    isImage (byteAt b 0) = true →
    leAt b 1 4 ≠ 0 →
    leAt b 1 4 ≤ largestImage (byteAt b 0) + 256 →
    slotGuard m (byteAt b 0) true (begun t m s) = none →
    slotBusy s (byteAt b 0) = false →
    exec (.imgOpen t m) s =
      .next (ended t m doneReply (fun s => setImg (byteAt b 0) (fun (i : ImgSlot) => { erased i with st := .writing, len := leAt b 1 4, owner := (bindingOf s m).map (fun n => (n, m)), usedAt := s.now }) s) s)) ∧
  (∀ (t m c : Nat) (b : List Byte) (s : State),
    Pend s m Cmd.imgOpen b →
    b.length = 5 →
    isImage (byteAt b 0) = true →
    leAt b 1 4 ≠ 0 →
    leAt b 1 4 ≤ largestImage (byteAt b 0) + 256 →
    slotGuard m (byteAt b 0) true (begun t m s) = some c →
    exec (.imgOpen t m) s = .next (turnedAway t m (guardReply c) s)) ∧
  (∀ (t m : Nat) (b : List Byte) (s : State),
    Pend s m Cmd.imgOpen b →
    b.length = 5 →
    isImage (byteAt b 0) = true →
    leAt b 1 4 ≠ 0 →
    leAt b 1 4 ≤ largestImage (byteAt b 0) + 256 →
    slotGuard m (byteAt b 0) true (begun t m s) = none →
    slotBusy s (byteAt b 0) = true →
    exec (.imgOpen t m) s = .next (turnedAway t m (guardReply Ev.installBusy) s)) ∧
  (∀ (t m : Nat) (b : List Byte) (i : ImgSlot) (s : State),
    Pend s m Cmd.imgBlock b →
    9 ≤ b.length →
    b.length ≤ 1032 →
    leAt b 1 3 = 0 →
    blockBad (begun t m s) b = none →
    imgOf s (byteAt b 0) = i →
    i.blocks.find? (fun x => x.1 = leAt b 4 4) = none →
    slotGuard m (byteAt b 0) true (begun t m s) = none →
    exec (.imgBlock t m) s =
      .next (ended t m doneReply (fun s => let l := insertBlock (leAt b 4 4) (b.drop 8) i.blocks; setImg (byteAt b 0) (fun (i : ImgSlot) => { i with blocks := l, st := if 1024 * l.length ≥ (imgOf s (byteAt b 0)).len then .complete else i.st, usedAt := s.now }) s) s)) ∧
  (∀ (t m : Nat) (b : List Byte) (s : State),
    Pend s m Cmd.imgBlock b →
    9 ≤ b.length →
    b.length ≤ 1032 →
    leAt b 1 3 = 0 →
    blockBad (begun t m s) b = none →
    ((imgOf s (byteAt b 0)).blocks.find? (fun x => x.1 = leAt b 4 4)).map (·.2) = some (b.drop 8) →
    slotGuard m (byteAt b 0) true (begun t m s) = none →
    exec (.imgBlock t m) s =
      .next (ended t m doneReply (fun s => setImg (byteAt b 0) (fun (i : ImgSlot) => { i with usedAt := s.now }) s) s)) ∧
  (∀ (t m : Nat) (b c : List Byte) (s : State),
    Pend s m Cmd.imgBlock b →
    9 ≤ b.length →
    b.length ≤ 1032 →
    leAt b 1 3 = 0 →
    blockBad (begun t m s) b = none →
    ((imgOf s (byteAt b 0)).blocks.find? (fun x => x.1 = leAt b 4 4)).map (·.2) = some c →
    c ≠ b.drop 8 →
    exec (.imgBlock t m) s = .next (turnedAway t m (causeReply .badArgument Ev.blockConflict) s)) ∧
  (∀ (t m c : Nat) (b : List Byte) (s : State),
    Pend s m Cmd.imgBlock b →
    9 ≤ b.length →
    b.length ≤ 1032 →
    leAt b 1 3 = 0 →
    blockBad (begun t m s) b = none →
    ((imgOf s (byteAt b 0)).blocks.find? (fun x => x.1 = leAt b 4 4)).map (·.2) = none →
    slotGuard m (byteAt b 0) true (begun t m s) = some c →
    exec (.imgBlock t m) s = .next (turnedAway t m (guardReply c) s)) ∧
  (∀ (t m : Nat) (pn : Option Nat) (b : List Byte) (s : State),
    Pend s m Cmd.imgCheck b →
    b.length = 1 →
    isImage (byteAt b 0) = true →
    ((imgOf s (byteAt b 0)).st = .complete ∨ (imgOf s (byteAt b 0)).st = .checked) →
    slotGuard m (byteAt b 0) false (begun t m s) = none →
    slotBusy s (byteAt b 0) = false →
    exec (.imgCheck t m pn) s =
      .next (going t m (fun s => (checkImage (byteAt b 0) pn s).elim (finish m doneReply (setImg (byteAt b 0) (fun (i : ImgSlot) => { i with st := .checked }) s)) (fun a => giveAnswer m (.ends a) (setImg (byteAt b 0) erased s))) s)) ∧
  (∀ (t m c : Nat) (pn : Option Nat) (b : List Byte) (s : State),
    Pend s m Cmd.imgCheck b →
    b.length = 1 →
    isImage (byteAt b 0) = true →
    ((imgOf s (byteAt b 0)).st = .complete ∨ (imgOf s (byteAt b 0)).st = .checked) →
    slotGuard m (byteAt b 0) false (begun t m s) = some c →
    exec (.imgCheck t m pn) s = .next (turnedAway t m (guardReply c) s)) ∧
  (∀ (i : Nat) (p : Option Nat) (s : State),
    headerOk i (imgOf s i).len (stagedHeader s i) = false →
    checkImage i p s = some (causeReply .badArgument Ev.imgHeader)) ∧
  (∀ (t m : Nat) (b : List Byte) (s : State),
    Pend s m Cmd.imgAbort b →
    b.length = 1 →
    isImage (byteAt b 0) = true →
    slotGuard m (byteAt b 0) false (begun t m s) = none →
    slotBusy s (byteAt b 0) = false →
    exec (.imgAbort t m) s = .next (ended t m doneReply (setImg (byteAt b 0) erased) s)) ∧
  (∀ (t m : Nat) (b : List Byte) (s : State),
    Pend s m Cmd.imgAbort b →
    b.length = 1 →
    isImage (byteAt b 0) = true →
    slotGuard m (byteAt b 0) false (begun t m s) = none →
    slotBusy s (byteAt b 0) = true →
    exec (.imgAbort t m) s = .next (turnedAway t m (guardReply Ev.installBusy) s)) ∧
  (∀ (t i : Nat) (s : State),
    (imgOf s i).owner.isSome = true →
    (imgOf s i).usedAt + sec 3600 ≤ max s.now t →
    exec (.imgOwnerTimeout t i) s = .next (after t (setImg i (fun (i : ImgSlot) => { i with owner := none })) s)) ∧
  (∀ (t i : Nat) (s : State),
    max s.now t < (imgOf s i).usedAt + sec 3600 →
    exec (.imgOwnerTimeout t i) s = .next (after t (fun s => s) s)) ∧
  (∀ (t m : Nat) (s : State),
    Pend s m Cmd.imgStatus [] →
    exec (.imgStatus t m) s = .next (read t m imgStatus s))

/-- Installs go engine by engine, pause, resume and end as R536 to R547 say. IMG_INSTALL of a CHECKED slot that nothing refuses
sets the marker and stops the first engine, TAP_INSTALL of taps that fit begins the transfer; each is refused with its first
failing condition; a wrong copy is made once more and then ends the install with IMG_VERIFY_FAIL; a good one brings the engine
back and the install goes on, ends, or pauses for a STOP; a pause ends 1 s after its condition is clear, and after 600 s ends
the install with its cause. Where the spec leaves a point open the clauses follow the model's choices: notes/assumptions/11,
27. (19_update.md R533, R536, R537, R538, R539, R540, R544, R545, R546, R547.) -/
def Obligations.InstallSteps : Prop :=
  (∀ (t m : Nat) (pn : Option Nat) (b : List Byte) (s : State),
    Pend s m Cmd.imgInstall b →
    b.length = 1 →
    byteAt b 0 ≠ 0 →
    byteAt b 0 ≤ 8 →
    (imgOf s (byteAt b 0)).st = .checked →
    startRefusal (byteAt b 0) pn (begun t m s) = none →
    exec (.imgInstall t m pn) s =
      .next (going t m (fun s => beginStep { setImg (byteAt b 0) (fun (i : ImgSlot) => { i with marker := true }) s with upd.job := some (newJob (byteAt b 0) m (enginesOf (byteAt b 0) s) s) }) s)) ∧
  (∀ (t m : Nat) (pn : Option Nat) (b : List Byte) (a : Reply) (s : State),
    Pend s m Cmd.imgInstall b →
    b.length = 1 →
    byteAt b 0 ≠ 0 →
    byteAt b 0 ≤ 8 →
    (imgOf s (byteAt b 0)).st = .checked →
    startRefusal (byteAt b 0) pn (begun t m s) = some a →
    (a.status = .refusedGuard ∨ a.status = .incompatible) →
    exec (.imgInstall t m pn) s = .next (turnedAway t m a s)) ∧
  (∀ (t m : Nat) (b : List Byte) (l : List Nat) (s : State),
    Pend s m Cmd.tapInstall b →
    b.length = 2 →
    byteAt b 0 ≤ 2 →
    (imgOf s 9).st = .checked →
    byteAt b 1 ≤ 16 →
    (tapTargets s (byteAt b 0) (byteAt b 1)).isEmpty = false →
    tapTargets s (byteAt b 0) (byteAt b 1) = l →
    startRefusal 9 none (begun t m s) = none →
    l.all (tapFits (stagedHeader (begun t m s) 9) (begun t m s)) = true →
    exec (.tapInstall t m) s =
      .next (going t m (fun s => { s with upd.job := some (newJob 9 m l s), upd.tapFail := false }) s)) ∧
  (∀ (t m : Nat) (b : List Byte) (l : List Nat) (s : State),
    Pend s m Cmd.tapInstall b →
    b.length = 2 →
    byteAt b 0 ≤ 2 →
    (imgOf s 9).st = .checked →
    byteAt b 1 ≤ 16 →
    (tapTargets s (byteAt b 0) (byteAt b 1)).isEmpty = false →
    tapTargets s (byteAt b 0) (byteAt b 1) = l →
    startRefusal 9 none (begun t m s) = none →
    l.all (tapFits (stagedHeader (begun t m s) 9) (begun t m s)) = false →
    exec (.tapInstall t m) s =
      .next (turnedAway t m { causeReply .incompatible Ev.imgCompat 9 with fn := 0x14 } s)) ∧
  (∀ (t : Nat) (ok ps : Bool) (s : State),
    s.upd.job = none →
    exec (.installStepDone t ok ps) s = .next (after t (fun s => s) s)) ∧
  (∀ (t e : Nat) (l : List Nat) (ps : Bool) (j : Install) (s : State),
    s.upd.job = some j →
    j.todo = e :: l →
    j.busy = true →
    j.id ≠ 9 →
    j.failed = 0 →
    exec (.installStepDone t false ps) s = .next (after t (setJob (fun j => { j with failed := 1 })) s)) ∧
  (∀ (t e : Nat) (l : List Nat) (ps : Bool) (j : Install) (s : State),
    s.upd.job = some j →
    j.todo = e :: l →
    j.busy = true →
    j.id ≠ 9 →
    j.failed ≠ 0 →
    exec (.installStepDone t false ps) s =
      .next (after t (fun s => (fun (u : State) => if u.pair.failed && u.pair.standby && !((u.upd.job.map (·.busy)).getD false) then startTakeover u else u) (verifyFail j e s)) s)) ∧
  (∀ (t e : Nat) (l : List Nat) (ps : Bool) (j : Install) (s : State),
    s.upd.job = some j →
    j.todo = e :: l →
    j.busy = true →
    j.id ≠ 9 →
    exec (.installStepDone t true ps) s =
      .next (after t (fun s => (fun (u : State) => if u.pair.failed && u.pair.standby && !((u.upd.job.map (·.busy)).getD false) then startTakeover u else u) (stepEnded (let u := engineBack j.id e ps (setJob (fun j => { j with busy := false, todo := l }) s); if (fnOf u 0x14).state == .stopping && !l.isEmpty then stepEnded u else nextEngine u))) s)) ∧
  (∀ (s : State),
    s.upd.job = none →
    nextEngine s = s) ∧
  (∀ (s : State) (j : Install),
    s.upd.job = some j →
    j.todo = [] →
    nextEngine s = endInstall doneReply (installed j.id s)) ∧
  (∀ (s : State) (j : Install) (e c : Nat) (l : List Nat),
    s.upd.job = some j →
    j.todo = e :: l →
    j.id ≠ 4 →
    installBlock j s = some c →
    nextEngine s = pauseJob c s) ∧
  (∀ (s : State) (j : Install) (e : Nat) (l : List Nat),
    s.upd.job = some j →
    j.todo = e :: l →
    j.id ≠ 4 →
    installBlock j s = none →
    nextEngine s = beginStep s) ∧
  (∀ (t c : Nat) (j : Install) (s : State),
    s.upd.job = some j →
    j.paused.isSome = true →
    installBlock j (clocked t s) = none →
    sec 1 ≤ c →
    j.id ≠ 9 →
    exec (.installResume t c) s =
      .next (after t (fun s => nextEngine (setJob (fun j => { j with paused := none, hold := false }) s)) s)) ∧
  (∀ (t c : Nat) (j : Install) (s : State),
    s.upd.job = some j →
    c < sec 1 →
    exec (.installResume t c) s = .next (after t (fun s => s) s)) ∧
  (∀ (t c a : Nat) (j : Install) (s : State),
    s.upd.job = some j →
    j.paused = some (c, a) →
    a + sec 600 ≤ max s.now t →
    j.id ≠ 9 →
    exec (.installPauseTimeout t) s =
      .next (after t (fun s => endInstall (guardReply c) (setImg j.id (fun (i : ImgSlot) => { i with marker := false }) s)) s)) ∧
  (∀ (t c a : Nat) (j : Install) (s : State),
    s.upd.job = some j →
    j.paused = some (c, a) →
    max s.now t < a + sec 600 →
    exec (.installPauseTimeout t) s = .next (after t (fun s => s) s))

/-- Shelf, boot, the loss of supply and the Cistern sequence act as R347 to R359 say. Shelf wakes on PWR-AUX above 16 V while the
comparator is armed, or on HVS-STR at or above 150 V after a Shelf for lack of power; the comparator is armed after 1 s below
16 V; a failed boot is counted and retried after 10 s; a boot ends in Watch or Tripped; PWR-AUX below 15 V for 2 ms hands over
to harvest with an orderly opening, or to Cistern; its return above 16 V for 100 ms ends that; the Cistern sequence ends every
job, opens every coil, saves and removes power. Where the spec leaves a point open the clauses follow the model's choices:
notes/assumptions/9, 40, 49. (12_modes_and_wake.md R347, R351, R352, R353, R358, R359, R368.) -/
def Obligations.PowerAndBoot : Prop :=
  (∀ (t a st ha hs : Nat) (s : State),
    s.core.mode = .shelf →
    s.core.booting = false →
    s.core.bootRetryAt ≤ max s.now t →
    s.core.wakeArmed = true →
    16000 < a →
    ms 100 ≤ ha →
    exec (.shelfWake t a st ha hs) s =
      .next (after t (fun s => { s with core.booting := true, core.power := .auxiliary, core.auxOk := true, core.auxLost := false, core.powerCycles := (s.core.powerCycles + 1) % 2 ^ 24, core.bootAt := s.now }) s)) ∧
  (∀ (t a st ha hs : Nat) (s : State),
    s.core.mode = .shelf →
    s.core.booting = false →
    s.core.bootRetryAt ≤ max s.now t →
    s.core.wakeArmed = false →
    s.core.shelfPowerFail = true →
    150000 ≤ st →
    ms 100 ≤ hs →
    exec (.shelfWake t a st ha hs) s =
      .next (after t (fun s => { s with core.booting := true, core.power := .harvest, core.auxOk := false, core.auxLost := true, core.powerCycles := (s.core.powerCycles + 1) % 2 ^ 24, core.bootAt := s.now }) s)) ∧
  (∀ (t a st ha hs : Nat) (s : State),
    (s.core.mode ≠ .shelf ∨ (ha < ms 100 ∧ hs < ms 100)) →
    exec (.shelfWake t a st ha hs) s = .next (after t (fun s => s) s)) ∧
  (∀ (t mv h : Nat) (s : State),
    s.core.mode = .shelf →
    mv < 16000 →
    sec 1 ≤ h →
    exec (.wakeComparatorArm t mv h) s = .next (after t (fun s => { s with core.wakeArmed := true }) s)) ∧
  (∀ (t : Nat) (s : State),
    s.core.booting = true →
    s.core.mode = .shelf →
    exec (.bootFail t) s =
      .next (after t (fun s => { s with core.booting := false, core.bootFails := s.core.bootFails + 1, core.bootRetryAt := s.now + sec 10, core.power := .absent, core.auxOk := false, core.auxLost := false }) s)) ∧
  (∀ (t : Nat) (o : BootObs) (s : State),
    s.core.booting = true →
    s.thm.held = false →
    exec (.boot t o) s = .next (after t (boot o) s)) ∧
  (∀ (o : BootObs) (s : State),
    (boot o s).core.mode = .watch ∨ (boot o s).core.mode = .tripped) ∧
  (∀ (t : Nat) (o : BootObs) (s : State),
    s.core.booting = false →
    exec (.boot t o) s = .next (after t (fun s => s) s)) ∧
  (∀ (t mv h st : Nat) (s : State),
    s.core.mode ≠ .shelf →
    s.core.auxOk = true →
    mv < 15000 →
    ms 2 ≤ h →
    st < 150000 →
    exec (.pwrAuxLoss t mv h st) s =
      .next (after t (fun s => { s with core.auxOk := false, core.power := .cistern }) s)) ∧
  (∀ (t mv h st : Nat) (s : State),
    s.core.mode ≠ .shelf →
    s.core.auxOk = true →
    mv < 15000 →
    ms 2 ≤ h →
    150000 ≤ st →
    s.thm.held = false →
    (s.core.mode = .watch ∨ s.core.mode = .dormant ∨ s.core.mode = .service ∨ s.core.mode = .tripped) →
    exec (.pwrAuxLoss t mv h st) s =
      .next (after t (fun s => record Ev.auxLost 3 [] { s with core.auxOk := false, core.power := .harvest, core.auxLost := true }) s)) ∧
  (∀ (t mv h st : Nat) (s : State),
    s.core.mode ≠ .shelf →
    s.core.auxOk = true →
    mv < 15000 →
    ms 2 ≤ h →
    150000 ≤ st →
    s.thm.held = false →
    (s.core.mode = .run ∨ s.core.mode = .hold) →
    (record Ev.auxLost 3 [] { (clocked t s) with core.auxOk := false, core.power := .harvest, core.auxLost := true }).con.opening = none →
    exec (.pwrAuxLoss t mv h st) s =
      .next (after t (fun s => let u := record Ev.auxLost 3 [] { s with core.auxOk := false, core.power := .harvest, core.auxLost := true }; beginOpening none Ev.auxLost (endJobs Ev.auxLost u)) s)) ∧
  (∀ (t mv h : Nat) (s : State),
    s.core.mode ≠ .shelf →
    s.core.auxOk = false →
    s.core.power ≠ .cistern →
    16000 < mv →
    ms 100 ≤ h →
    exec (.pwrAuxReturn t mv h) s =
      .next (after t (fun s => { s with core.auxOk := true, core.auxLost := false, core.power := .auxiliary }) s)) ∧
  (∀ (t mv h : Nat) (s : State),
    (mv ≤ 16000 ∨ s.core.power = .cistern) →
    exec (.pwrAuxReturn t mv h) s = .next (after t (fun s => s) s)) ∧
  (∀ (t st : Nat) (x : Option Int) (s : State),
    s.core.mode ≠ .shelf →
    s.core.auxOk = false →
    (s.core.power = .cistern ∨ st < 150000) →
    s.thm.held = false →
    exec (.cisternSequence t st x) s =
      .next (after t (fun s => let lost : Int := ((if s.core.power == .cistern then Power.auxiliary.code else s.core.power.code : Nat) : Int); let u := eachDo [0, 2, 3, 1] openCoil (endJobs Ev.powerFail (gatesOff Ev.powerFail { s with core.power := .cistern, core.shelfPowerFail := true })); let v := saveAll u; let w := setMode .shelf Ev.powerFail (if v.thm.forbid then v else record Ev.powerFail 4 [lost, (u.well.buf.length : Int)] v); powerOff (if w.thm.forbid then { w with well.lostRecords := w.well.buf.length } else flushAll w)) s)) ∧
  (∀ (s : State),
    (powerOff s).core.mode = .shelf ∧ (powerOff s).well.buf = [] ∧ (powerOff s).mbx.params = s.mbx.nvm ∧ (powerOff s).saf.sets = s.saf.sets ∧ (powerOff s).pair.epoch = s.pair.epoch ∧ (powerOff s).well.store = s.well.store)

/-- Dormant, its wake events and the mode commands act as R349 to R357, R366 and R370 say. A slow sweep of a Dormant module
sweeps, runs the loop and wakes it when a cell is near a limit; a reached wake time wakes it; a quiet Watch of single mode
drops to Dormant after DORMANT_QUIET; ENTER_SERVICE, LEAVE_SERVICE, RUN, HOLD, ENTER_DORMANT, WAKE, WAKE_AT and ENTER_SHELF
enter the mode they name, or are refused with contactors closed, a stopped function, a latched trip, in pair mode or under a
write-forbid; MODE_STATUS reads. Where the spec leaves a point open the clauses follow the model's choices:
notes/assumptions/9, 40, 49. (12_modes_and_wake.md R349, R350, R353, R354, R355, R356, R357, R370.) -/
def Obligations.DormantAndModeCommands : Prop :=
  (∀ (t : Nat) (rts : List (List (Option Nat × Option Nat))) (fr : List (Nat × Bool × List Byte)) (tc : List (Option Int)) (sh hl : Option Int) (s : State),
    s.core.mode ≠ .dormant →
    exec (.slowSweep t rts fr tc sh hl) s = .next (after t (fun s => s) s)) ∧
  (∀ (t : Nat) (rts : List (List (Option Nat × Option Nat))) (fr : List (Nat × Bool × List Byte)) (tc : List (Option Int)) (sh hl : Option Int) (s : State),
    s.core.mode = .dormant →
    s.thm.held = false →
    s.core.pairStandbyProfile = true →
    loopRuns s = true →
    exec (.slowSweep t rts fr tc sh hl) s = .next (after t (containerLoop tc) s)) ∧
  (∀ (t : Nat) (rts : List (List (Option Nat × Option Nat))) (fr : List (Nat × Bool × List Byte)) (tc : List (Option Int)) (sh hl : Option Int) (s : State),
    s.core.mode = .dormant →
    s.thm.held = false →
    s.core.pairStandbyProfile = false →
    [0, 1].filter (ringServed (clocked t s)) = [] →
    loopRuns s = true →
    exec (.slowSweep t rts fr tc sh hl) s =
      .next (after t (fun s => let u := containerLoop tc s; if nearLimits u || spreadWide u then wakeNow 0 u else u) s)) ∧
  (∀ (t : Nat) (rts : List (List (Option Nat × Option Nat))) (fr : List (Nat × Bool × List Byte)) (tc : List (Option Int)) (sh hl : Option Int) (s : State),
    s.core.mode = .dormant →
    s.thm.held = false →
    s.core.pairStandbyProfile = false →
    [0, 1].filter (ringServed (clocked t s)) ≠ [] →
    exec (.slowSweep t rts fr tc sh hl) s =
      .next (after t (fun s => let T := nextGrid s (sec (prmN s Prm.dormantSweep)); let u := sweepCheck (eachDo ([0, 1].filter (ringServed s)) (fun r v => slowRing T r (rts.getD r []) fr v) (beginSweep T (sh, hl) s)); let u := if estRuns u then updatePeriod [] u else u; let u := if loopRuns u then containerLoop tc u else u; if nearLimits u || spreadWide u then wakeNow 0 u else u) s)) ∧
  (∀ (t : Nat) (rts : List (List (Option Nat × Option Nat))) (fr : List (Nat × Bool × List Byte)) (tc : List (Option Int)) (sh hl : Option Int) (s : State),
    s.core.mode = .dormant →
    s.thm.held = false →
    s.core.pairStandbyProfile = true →
    loopRuns s = false →
    exec (.slowSweep t rts fr tc sh hl) s = .next (after t (fun s => s) s)) ∧
  (∀ (t a : Nat) (s : State),
    s.core.wakeAt = some a →
    untilStamp (clocked t s) a ≤ 0 →
    exec (.wakeAtReached t) s = .next (after t (fun s => wakeNow 0 { s with core.wakeAt := none }) s)) ∧
  (∀ (c : Nat) (s : State),
    s.core.mode = .dormant →
    (wakeNow c s).core.mode = .watch) ∧
  (∀ (t : Nat) (s : State),
    s.core.mode = .watch →
    pairMode s = false →
    prm s Prm.dormantAuto = 1 →
    s.core.booting = false →
    s.thm.held = false →
    quietNow (clocked t s) = false →
    exec (.dormantAuto t) s = .next (after t (fun s => { s with core.quietSince := s.now }) s)) ∧
  (∀ (t : Nat) (s : State),
    s.core.mode = .watch →
    pairMode s = false →
    prm s Prm.dormantAuto = 1 →
    s.core.booting = false →
    s.thm.held = false →
    quietNow (clocked t s) = true →
    s.core.quietSince + sec (prmN s Prm.dormantQuiet) ≤ max s.now t →
    eventFar (clocked t s) = true →
    exec (.dormantAuto t) s = .next (after t enterIsolated s)) ∧
  (∀ (s : State),
    (enterIsolated s).core.mode = .dormant) ∧
  (∀ (t m : Nat) (s : State),
    Pend s m Cmd.modeStatus [] →
    exec (.modeStatus t m) s = .next (read t m modeStatus s)) ∧
  (∀ (t m : Nat) (s : State),
    Pend s m Cmd.enterService [] →
    stringConnected s = false →
    stoppedFor .service s = none →
    exec (.enterService t m) s = .next (ended t m doneReply (setMode .service 0) s)) ∧
  (∀ (t m : Nat) (s : State),
    Pend s m Cmd.enterService [] →
    stringConnected s = true →
    exec (.enterService t m) s = .next (turnedAway t m (guardReply Ev.contactors) s)) ∧
  (∀ (t m : Nat) (s : State),
    Pend s m Cmd.leaveService [] →
    s.saf.latched = [] →
    (List.range 21).find? (stopped s) = none →
    exec (.leaveService t m) s = .next (ended t m doneReply (setMode .watch 0) s)) ∧
  (∀ (t m f : Nat) (s : State),
    Pend s m Cmd.leaveService [] →
    s.saf.latched = [] →
    (List.range 21).find? (stopped s) = some f →
    exec (.leaveService t m) s = .next (turnedAway t m { guardReply Ev.functionStopped with fn := f } s)) ∧
  (∀ (t m c : Nat) (l : List Nat) (s : State),
    Pend s m Cmd.leaveService [] →
    s.saf.latched = c :: l →
    stoppedFor .tripped s = none →
    exec (.leaveService t m) s = .next (ended t m doneReply (setMode .tripped c) s)) ∧
  (∀ (t m : Nat) (s : State),
    Pend s m Cmd.run [] →
    stoppedFor .run s = none →
    runBlock s = none →
    exec (.run t m) s =
      .next (ended t m doneReply (fun s => setMode .run 0 (if s.conv.st == .off then s else gatesOff 0 s)) s)) ∧
  (∀ (t m c : Nat) (s : State),
    Pend s m Cmd.run [] →
    stoppedFor .run s = none →
    runBlock s = some c →
    exec (.run t m) s = .next (turnedAway t m (guardReply c) s)) ∧
  (∀ (t m : Nat) (s : State),
    Pend s m Cmd.hold [] →
    s.con.opening = none →
    s.disp.ending = 0 →
    stoppedFor .hold s = none →
    exec (.hold t m) s = .next (going t m (beginHold (some m)) s)) ∧
  (∀ (t m : Nat) (s : State),
    Pend s m Cmd.hold [] →
    s.disp.ending ≠ 0 →
    exec (.hold t m) s = .next (turnedAway t m (guardReply Ev.functionBusy) s)) ∧
  (∀ (t m : Nat) (s : State),
    Pend s m Cmd.enterDormant [] →
    pairMode s = false →
    stringConnected s = false →
    s.saf.latched = [] →
    stoppedFor .dormant s = none →
    exec (.enterDormant t m) s = .next (ended t m doneReply enterIsolated s)) ∧
  (∀ (t m : Nat) (s : State),
    Pend s m Cmd.enterDormant [] →
    pairMode s = true →
    exec (.enterDormant t m) s = .next (turnedAway t m (guardReply Ev.pairRole) s)) ∧
  (∀ (t m : Nat) (s : State),
    Pend s m Cmd.enterDormant [] →
    pairMode s = false →
    stringConnected s = true →
    exec (.enterDormant t m) s = .next (turnedAway t m (guardReply Ev.contactors) s)) ∧
  (∀ (t m c : Nat) (l : List Nat) (s : State),
    Pend s m Cmd.enterDormant [] →
    pairMode s = false →
    stringConnected s = false →
    s.saf.latched = c :: l →
    exec (.enterDormant t m) s = .next (turnedAway t m (guardReply c) s)) ∧
  (∀ (t m : Nat) (s : State),
    Pend s m Cmd.wake [] →
    s.core.pairStandbyProfile = false →
    exec (.wake t m) s = .next (ended t m doneReply (wakeNow 0) s)) ∧
  (∀ (t m : Nat) (s : State),
    Pend s m Cmd.wake [] →
    s.core.pairStandbyProfile = true →
    exec (.wake t m) s = .next (turnedAway t m (guardReply Ev.pairRole) s)) ∧
  (∀ (t m : Nat) (b : List Byte) (s : State),
    Pend s m Cmd.wakeAt b →
    b.length = 8 →
    leAt b 0 8 = 0 →
    exec (.wakeAt t m) s = .next (ended t m doneReply (fun s => { s with core.wakeAt := none }) s)) ∧
  (∀ (t m : Nat) (b : List Byte) (s : State),
    Pend s m Cmd.wakeAt b →
    b.length = 8 →
    leAt b 0 8 ≠ 0 →
    untilStamp (clocked t s) (leAt b 0 8) ≤ ((2592000 * 2 ^ 32 : Nat) : Int) →
    exec (.wakeAt t m) s = .next (ended t m doneReply (fun s => { s with core.wakeAt := some (leAt b 0 8) }) s)) ∧
  (∀ (t m : Nat) (s : State),
    Pend s m Cmd.enterShelf [] →
    stringConnected s = false →
    s.thm.forbid = false →
    exec (.enterShelf t m) s =
      .next (going t m (fun s => let u := withdrawFor false (formResponse m doneReply (record Ev.commandDone 1 [(m : Int), Cmd.enterShelf, 0] s)); { powerOff (saveAll (setMode .shelf 0 u)) with core.wakeArmed := false, core.shelfPowerFail := false }) s)) ∧
  (∀ (t m : Nat) (s : State),
    Pend s m Cmd.enterShelf [] →
    stringConnected s = true →
    exec (.enterShelf t m) s = .next (turnedAway t m (guardReply Ev.contactors) s)) ∧
  (∀ (t m : Nat) (s : State),
    Pend s m Cmd.enterShelf [] →
    stringConnected s = false →
    s.thm.forbid = true →
    exec (.enterShelf t m) s = .next (turnedAway t m (guardReply Ev.nvmTemp) s))

/-- The module sensors, the write-forbid and Dome's thermal shutdown act as R324 to R336 say. A sample stores the nine readings,
marks the ones out of range, records a new TS_FAULT, and judges MODULE_HOT, the write-forbid and the next rate; the forbid
lifts 10 s after the board temperature is back and what waited is written; a comparator of a sensor in service switched for 1
ms shuts the module down; 20 ms later the coils open and the engines are held in reset; 30 s below 95 degC the reset ends; a
connected module reconnects once. Where the spec leaves a point open the clauses follow the model's choices:
notes/assumptions/25, 39, 49. (11_thermal.md R325, R326, R327, R328, R329, R330, R331, R333, R334, R336.) -/
def Obligations.ThermalSensorsAndShutdown : Prop :=
  (∀ (t : Nat) (ts : List (Option Int)) (s : State),
    (s.core.mode = .shelf ∨ s.thm.held = true) →
    exec (.thermalSample t ts) s = .next (after t (fun s => s) s)) ∧
  (∀ (t : Nat) (ts v : List (Option Int)) (s : State),
    s.core.mode ≠ .shelf →
    s.thm.held = false →
    supReloading s = false →
    v = (List.range 9).map (fun k => sensorValue (ts.getD k none)) →
    exec (.thermalSample t ts) s =
      .next (after t (fun s => let u := eachDo ((List.range 9).filter (fun k => (v.map (·.isNone)).getD k false && !s.thm.tsFault.getD k false)) (fun k s => record Ev.tsFault 4 [((k + 1 : Nat) : Int)] s) { s with thm.ts := v, thm.tsFault := v.map (·.isNone) }; let u := nextRate (limitDistance u v) (judgeForbid (judgeHot u)); setIsland 0 (fun (i : Island) => { i with nextEvent := some (u.now + 1000000000 / max u.thm.rate 1) }) u) s)) ∧
  (∀ (s : State),
    boardTemps s.thm.ts = none →
    judgeForbid s = { s with thm.forbidOk := none }) ∧
  (∀ (s : State) (hi lo : Int),
    boardTemps s.thm.ts = some (hi, lo) →
    (9500 < hi ∨ lo < -3000) →
    s.thm.forbid = false →
    judgeForbid s = (let u := record Ev.nvmWriteForbid 3 [hi, lo] { s with thm.forbid := true, thm.forbidOk := none }; { u with thm.forbidOk := none })) ∧
  (∀ (s : State) (hi lo : Int),
    boardTemps s.thm.ts = some (hi, lo) →
    -2800 ≤ lo →
    hi ≤ 9300 →
    judgeForbid s = { s with thm.forbidOk := some (s.thm.forbidOk.getD s.now) }) ∧
  (∀ (s : State) (v : Int) (n : Nat),
    tsMax s.thm.ts = some (v, n) →
    prm s Prm.tempWarn ≤ v →
    s.thm.hot = false →
    judgeHot s = record Ev.moduleHot 3 [v, (n : Int)] { s with thm.hot := true }) ∧
  (∀ (s : State) (v : Int) (n : Nat),
    tsMax s.thm.ts = some (v, n) →
    v ≤ prm s Prm.tempWarn - 200 →
    judgeHot s = { s with thm.hot := false }) ∧
  (∀ (t a : Nat) (s : State),
    s.thm.forbid = true →
    s.thm.forbidOk = some a →
    a + sec 10 ≤ max s.now t →
    exec (.nvmForbidLift t) s = .next (after t (fun s => writeWaiting { s with thm.forbid := false }) s)) ∧
  (∀ (t mk h m : Nat) (s : State),
    maskOf ((List.range 9).map (fun k => bitOf mk k && !s.thm.tsFault.getD k false)) = m →
    m ≠ 0 →
    ms 1 ≤ h →
    s.core.mode ≠ .shelf →
    s.thm.shutdown = none →
    partnerFollows (clocked t s) = false →
    exec (.thermalShutdown t mk h) s =
      .next (after t (fun s => (let past := within s (sec 86400) s.thm.shutdowns; let u := { s with thm.shutdown := some (s.now, BitVec.ofNat 9 m), thm.wasConnected := inMode s [.run, .hold], thm.coolSince := none, thm.shutdowns := past ++ [s.now], thm.shutdownCount := s.thm.shutdownCount + 1 }; dropClaim (domeDemands true (endJobs Ev.thermalShutdown (gatesOff Ev.thermalShutdown u))))) s)) ∧
  (∀ (t mk h m : Nat) (s : State),
    maskOf ((List.range 9).map (fun k => bitOf mk k && !s.thm.tsFault.getD k false)) = m →
    m ≠ 0 →
    ms 1 ≤ h →
    s.core.mode ≠ .shelf →
    s.thm.shutdown = none →
    partnerFollows (clocked t s) = true →
    exec (.thermalShutdown t mk h) s =
      .next (after t (fun s => (let past := within s (sec 86400) s.thm.shutdowns; let u := { s with thm.shutdown := some (s.now, BitVec.ofNat 9 m), thm.wasConnected := inMode s [.run, .hold], thm.coolSince := none, thm.shutdowns := past ++ [s.now], thm.shutdownCount := s.thm.shutdownCount + 1 }; dropClaim (domeDemands false (endJobs Ev.thermalShutdown (gatesOff Ev.thermalShutdown u))))) s)) ∧
  (∀ (t mk h : Nat) (s : State),
    (h < ms 1 ∨ maskOf ((List.range 9).map (fun k => bitOf mk k && !s.thm.tsFault.getD k false)) = 0) →
    exec (.thermalShutdown t mk h) s = .next (after t (fun s => s) s)) ∧
  (∀ (t a : Nat) (q : BitVec 9) (s : State),
    s.thm.shutdown = some (a, q) →
    a + ms 19 ≤ max s.now t →
    s.thm.held = false →
    exec (.thermalResetHold t) s =
      .next (after t (fun s => { resetEngines (clearDispatch (eachDo [0, 1, 2, 3] openCoil s)) with thm.held := true }) s)) ∧
  (∀ (t b : Nat) (s : State),
    s.thm.held = true →
    sec 30 ≤ b →
    s.core.mode ≠ .shelf →
    exec (.thermalRelease t b) s =
      .next (after t (fun s => { s with thm.held := false, thm.coolSince := some (s.now - b), core.booting := true }) s)) ∧
  (∀ (t b : Nat) (s : State),
    b < sec 30 →
    exec (.thermalRelease t b) s = .next (after t (fun s => s) s)) ∧
  (∀ (t : Nat) (vs vl : Int) (s : State),
    s.thm.reconnect = true →
    s.core.mode = .watch →
    s.thm.held = false →
    s.core.booting = false →
    connectBlock { (clocked t s) with con.vStr := vs, con.vLnk := vl } = none →
    exec (.thermalAutoReconnect t vs vl) s =
      .next (after t (fun s => beginConnect false none { s with con.vStr := vs, con.vLnk := vl, thm.reconnect := false }) s)) ∧
  (∀ (t : Nat) (vs vl : Int) (s : State),
    s.thm.reconnect = true →
    s.core.mode = .watch →
    s.thm.held = false →
    s.core.booting = false →
    (connectBlock { (clocked t s) with con.vStr := vs, con.vLnk := vl }).isSome = true →
    exec (.thermalAutoReconnect t vs vl) s =
      .next (after t (fun s => { s with con.vStr := vs, con.vLnk := vl }) s))

/-- The container loop reads its inputs, takes its state and sets PMP, VLV and HTR as R338 to R341 say. A run of the loop reads
TC1 to TC4, T_hi and T_lo, acts on them and notes its outputs. A bad input leaves PMP and VLV as they stand with HTR off,
COOLANT_SENSOR_FAULT recorded as it comes up and not again while it lasts; without one the fault and the fallback end. COOL
comes above COOL_TARGET and stays until T_hi is 1 degC below it; without COOL, HEAT comes below HEAT_ON and stays up to
HEAT_ON + HEAT_HYST; else IDLE. In HEAT and IDLE PMP is PMP_MIN and VLV 0; in COOL PMP is its PI term of T_hi, at least
PMP_MIN, and VLV its PI term of TC1; a change of state or a return sets the integrators from the present outputs first. HTR
goes off at once when a condition fails, on only with all conditions and HTR_MIN_CYCLE since its last change. That VLV keeps
its output while TC1 has had no value is the choice of the model (log 49). Where the spec leaves a point open the clauses
follow the model's choices: notes/assumptions/25, 39, 49. (11_thermal.md R338, R339, R340, R341; 06_control_engines.md R169.) -/
def Obligations.ContainerLoopLaw : Prop :=
  (∀ (tc : List (Option Int)) (s : State),
    containerLoop tc s = noteOutputs (loopAct (s.thm.coolFault || s.thm.fallback || s.thm.watchdog || s.thm.stoodStill) (loopInputs tc s))) ∧
  (∀ (tc : List (Option Int)) (s : State),
    (loopInputs tc s).thm.tc = (List.range 4).map (fun k => nextCoolant s (tc.getD k none) (s.thm.tc.getD k {})) ∧ (loopInputs tc s).thm.lastUpdate = s.now ∧ (loopInputs tc s).thm.watchdog = false ∧ (loopInputs tc s).thm.pmp = s.thm.pmp ∧ (loopInputs tc s).thm.vlv = s.thm.vlv) ∧
  (∀ (r : Bool) (c : Nat) (s : State),
    loopFault s = some c →
    manualNow s = false →
    s.thm.coolFault = false →
    loopAct r s = setHtr false (record Ev.coolantSensorFault 4 [(c : Int)] { s with thm.coolFault := true, thm.coolFaultAt := s.now })) ∧
  (∀ (r : Bool) (c : Nat) (s : State),
    loopFault s = some c →
    manualNow s = false →
    s.thm.coolFault = true →
    loopAct r s = setHtr false s) ∧
  (∀ (r : Bool) (c : Nat) (s : State),
    loopFault s = some c →
    manualNow s = true →
    s.thm.coolFault = true →
    loopAct r s = manualOutputs s) ∧
  (∀ (r : Bool) (s : State),
    loopFault s = none →
    manualNow s = false →
    loopAct r s = loopOutputs r (s.thm.tHi.getD 0) (s.thm.tLo.getD 0) { s with thm.coolFault := false, thm.fallback := false }) ∧
  (∀ (r : Bool) (s : State),
    loopFault s = none →
    manualNow s = true →
    loopAct r s = manualOutputs { s with thm.coolFault := false, thm.fallback := false }) ∧
  (∀ (s : State),
    ((s.thm.tc.getD 0 {}).bad = true ∨ (s.thm.tc.getD 1 {}).bad = true ∨ s.thm.cellsBad = true) →
    (loopFault s).isSome = true) ∧
  (∀ (s : State) (hi lo : Int),
    prm s Prm.coolTarget < hi →
    loopNext s hi lo = .cool) ∧
  (∀ (s : State) (hi lo : Int),
    prm s Prm.coolTarget - 100 < hi →
    s.thm.loop = .cool →
    loopNext s hi lo = .cool) ∧
  (∀ (s : State) (hi lo : Int),
    hi ≤ prm s Prm.coolTarget - 100 →
    lo < prm s Prm.heatOn →
    0 ≤ prm s Prm.heatHyst →
    loopNext s hi lo = .heat) ∧
  (∀ (s : State) (hi lo : Int),
    hi ≤ prm s Prm.coolTarget - 100 →
    lo < prm s Prm.heatOn + prm s Prm.heatHyst →
    s.thm.loop = .heat →
    loopNext s hi lo = .heat) ∧
  (∀ (s : State) (hi lo : Int),
    hi ≤ prm s Prm.coolTarget - 100 →
    prm s Prm.heatOn ≤ lo →
    (prm s Prm.heatOn + prm s Prm.heatHyst ≤ lo ∨ s.thm.loop ≠ .heat) →
    loopNext s hi lo = .idle) ∧
  (∀ (fresh : Bool) (hi lo : Int) (s u : State),
    loopNext s hi lo = .heat →
    u = (if fresh || loopNext s hi lo != s.thm.loop then bumpless { s with thm.loop := loopNext s hi lo } hi else s) →
    loopOutputs fresh hi lo s = runHtr true { u with thm.pmp := prm u Prm.pmpMin, thm.vlv := 0 }) ∧
  (∀ (fresh : Bool) (hi lo : Int) (s u : State),
    loopNext s hi lo = .idle →
    u = (if fresh || loopNext s hi lo != s.thm.loop then bumpless { s with thm.loop := loopNext s hi lo } hi else s) →
    loopOutputs fresh hi lo s = runHtr false { u with thm.pmp := prm u Prm.pmpMin, thm.vlv := 0 }) ∧
  (∀ (fresh : Bool) (hi lo : Int) (s u : State),
    loopNext s hi lo = .cool →
    u = (if fresh || loopNext s hi lo != s.thm.loop then bumpless { s with thm.loop := loopNext s hi lo } hi else s) →
    loopOutputs fresh hi lo s = runHtr false (coolValve (coolPump hi u))) ∧
  (∀ (hi i : Int) (s : State),
    clampTo 0 (32767 * 65536) (s.thm.intPmp + loopStep s (hi - prm s Prm.coolTarget)) = i →
    coolPump hi s = let r := loopOut (loopProp s (hi - prm s Prm.coolTarget)) i { s with thm.intPmp := i }; { r.1 with thm.pmp := max (prm r.1 Prm.pmpMin) r.2 }) ∧
  (∀ (v i : Int) (s : State),
    (s.thm.tc.getD 0 {}).val = some v →
    clampTo 0 (32767 * 65536) (s.thm.intVlv + loopStep s (v - (prm s Prm.coolTarget - 500))) = i →
    coolValve s = let r := loopOut (loopProp s (v - (prm s Prm.coolTarget - 500))) i { s with thm.intVlv := i }; { r.1 with thm.vlv := r.2 }) ∧
  (∀ (s : State),
    (s.thm.tc.getD 0 {}).val = none →
    coolValve s = s) ∧
  (∀ (want : Bool) (s : State),
    htrMay want s = (want && decide (prm s Prm.pmpMin ≤ s.thm.pmp) && !(s.thm.tc.getD 0 {}).bad && !(s.thm.tc.getD 1 {}).bad && (s.thm.tc.getD 1 {}).val.isSome && ((s.thm.tc.getD 0 {}).val.map (fun v => decide (v < prm s Prm.heatSupplyMax))).getD false)) ∧
  (∀ (want : Bool) (s : State),
    htrMay want s = false →
    runHtr want s = setHtr false s) ∧
  (∀ (want : Bool) (s : State),
    htrMay want s = true →
    s.thm.htrAt = none →
    runHtr want s = setHtr true s) ∧
  (∀ (want : Bool) (a : Nat) (s : State),
    htrMay want s = true →
    s.thm.htrAt = some a →
    a + sec (prmN s Prm.htrMinCycle) ≤ s.now →
    runHtr want s = setHtr true s) ∧
  (∀ (want : Bool) (a : Nat) (s : State),
    htrMay want s = true →
    s.thm.htrAt = some a →
    s.now < a + sec (prmN s Prm.htrMinCycle) →
    runHtr want s = s)

/-- The container loop rows and the thermal commands act as R338, R341 to R343 and R346 say. Role C runs the loop once per second,
in every mode but Dormant and Shelf; 300 s after a coolant fault arose the fallback outputs apply and LOOP_FALLBACK is
recorded; without an update for 3 s the output hardware applies them and LOOP_WATCHDOG is recorded; a valve current below 3.6
mA for 1 s records VLV_OPEN and holds PMP at PMP_MIN at least, and one not below clears it; THERM_MANUAL takes its outputs and
its time, sets them while role C runs, and is refused for a value out of range; THERM_AUTO or the end of that time ends it: a
coolant fault that stands applies then, else the integrators are set from the present outputs; THERM_STATUS reads. Where the
spec leaves a point open the clauses follow the model's choices: notes/assumptions/25, 39, 49. (11_thermal.md R342, R343,
R344, R346.) -/
def Obligations.ContainerLoopAndThermalCommands : Prop :=
  (∀ (t : Nat) (tc : List (Option Int)) (s : State),
    loopRuns s = true →
    s.core.mode ≠ .dormant →
    s.thm.lastUpdate + sec 1 ≤ max s.now t →
    exec (.containerLoop t tc) s = .next (after t (containerLoop tc) s)) ∧
  (∀ (t : Nat) (tc : List (Option Int)) (s : State),
    (max s.now t < s.thm.lastUpdate + sec 1 ∨ loopRuns s = false ∨ s.core.mode = .dormant) →
    exec (.containerLoop t tc) s = .next (after t (fun s => s) s)) ∧
  (∀ (t : Nat) (s : State),
    s.thm.coolFault = true →
    s.thm.fallback = false →
    manualNow (clocked t s) = false →
    loopRuns s = true →
    s.thm.coolFaultAt + sec 300 ≤ max s.now t →
    exec (.loopFallback t) s =
      .next (after t (fun s => record Ev.loopFallback 3 [] (setHtr false { s with thm.fallback := true, thm.pmp := 32767, thm.vlv := prm s Prm.vlvFallback })) s)) ∧
  (∀ (t : Nat) (s : State),
    s.thm.coolFault = false →
    exec (.loopFallback t) s = .next (after t (fun s => s) s)) ∧
  (∀ (t : Nat) (s : State),
    s.core.mode ≠ .dormant →
    s.core.mode ≠ .shelf →
    s.thm.lastUpdate + sec 3 ≤ max s.now t →
    s.thm.watchdog = false →
    exec (.loopWatchdog t) s =
      .next (after t (fun s => record Ev.loopWatchdog 4 [] (setHtr false { s with thm.watchdog := true, thm.stoodStill := true, thm.pmp := 32767, thm.vlv := prm s Prm.vlvFallback })) s)) ∧
  (∀ (t : Nat) (s : State),
    (s.thm.watchdog = true ∨ max s.now t < s.thm.lastUpdate + sec 3) →
    exec (.loopWatchdog t) s = .next (after t (fun s => s) s)) ∧
  (∀ (t u h : Nat) (s : State),
    s.core.mode ≠ .shelf →
    3600 ≤ u →
    exec (.vlvOpen t u h) s = .next (after t (fun s => { s with thm.vlvOpen := false }) s)) ∧
  (∀ (t u h : Nat) (s : State),
    s.core.mode ≠ .shelf →
    u < 3600 →
    sec 1 ≤ h →
    s.thm.vlvOpen = false →
    exec (.vlvOpen t u h) s =
      .next (after t (fun s => record Ev.vlvOpen 3 [(u : Int)] { s with thm.vlvOpen := true, thm.pmp := max s.thm.pmp (prm s Prm.pmpMin) }) s)) ∧
  (∀ (t u h : Nat) (s : State),
    u < 3600 →
    (h < sec 1 ∨ s.thm.vlvOpen = true) →
    exec (.vlvOpen t u h) s = .next (after t (fun s => s) s)) ∧
  (∀ (t m : Nat) (s : State),
    Pend s m Cmd.thermStatus [] →
    exec (.thermStatus t m) s = .next (read t m thermStatus s)) ∧
  (∀ (t m : Nat) (b : List Byte) (s : State),
    Pend s m Cmd.thermManual b →
    b.length = 7 →
    leAt b 0 1 ≤ 1 →
    leAt b 1 2 ≤ 32767 →
    leAt b 3 2 ≤ 32767 →
    leAt b 5 2 ≠ 0 →
    leAt b 5 2 ≤ 600 →
    exec (.thermManual t m) s =
      .next (ended t m doneReply (fun s => let u := { s with thm.manualEnd := some (s.now + sec (leAt b 5 2)), thm.manualHtr := leAt b 0 1 == 1, thm.manualPmp := (leAt b 1 2 : Int), thm.manualVlv := (leAt b 3 2 : Int) }; if loopRuns u && !u.thm.stoodStill then manualOutputs u else u) s)) ∧
  (∀ (s : State),
    s.thm.vlvOpen = false →
    manualOutputs s = runHtr s.thm.manualHtr { s with thm.pmp := s.thm.manualPmp, thm.vlv := s.thm.manualVlv }) ∧
  (∀ (s : State),
    s.thm.vlvOpen = true →
    manualOutputs s = runHtr s.thm.manualHtr { s with thm.pmp := max s.thm.manualPmp (prm s Prm.pmpMin), thm.vlv := s.thm.manualVlv }) ∧
  (∀ (t m : Nat) (b : List Byte) (s : State),
    Pend s m Cmd.thermManual b →
    b.length = 7 →
    1 < leAt b 0 1 →
    exec (.thermManual t m) s = .next (turnedAway t m (argReply Cmd.thermManual 0) s)) ∧
  (∀ (t m : Nat) (b : List Byte) (s : State),
    Pend s m Cmd.thermManual b →
    b.length = 7 →
    leAt b 0 1 ≤ 1 →
    32767 < leAt b 1 2 →
    exec (.thermManual t m) s = .next (turnedAway t m (argReply Cmd.thermManual 1) s)) ∧
  (∀ (t m : Nat) (b : List Byte) (s : State),
    Pend s m Cmd.thermManual b →
    b.length = 7 →
    leAt b 0 1 ≤ 1 →
    leAt b 1 2 ≤ 32767 →
    32767 < leAt b 3 2 →
    exec (.thermManual t m) s = .next (turnedAway t m (argReply Cmd.thermManual 3) s)) ∧
  (∀ (t m : Nat) (b : List Byte) (s : State),
    Pend s m Cmd.thermManual b →
    b.length = 7 →
    leAt b 0 1 ≤ 1 →
    leAt b 1 2 ≤ 32767 →
    leAt b 3 2 ≤ 32767 →
    (leAt b 5 2 = 0 ∨ 600 < leAt b 5 2) →
    exec (.thermManual t m) s = .next (turnedAway t m (argReply Cmd.thermManual 5) s)) ∧
  (∀ (t a : Nat) (s : State),
    s.thm.manualEnd = some a →
    a ≤ max s.now t →
    exec (.thermManualEnd t) s = .next (after t endManual s)) ∧
  (∀ (t m : Nat) (s : State),
    Pend s m Cmd.thermAuto [] →
    exec (.thermAuto t m) s =
      .next (ended t m doneReply (fun s => if s.thm.manualEnd.isSome then endManual s else s) s)) ∧
  (∀ (s : State),
    s.thm.coolFault = true →
    endManual s = setHtr false { s with thm.manualEnd := none, thm.manualHtr := false, thm.coolFaultAt := s.now }) ∧
  (∀ (s : State),
    s.thm.coolFault = false →
    endManual s = bumpless { s with thm.manualEnd := none, thm.manualHtr := false } (s.thm.tHi.getD 0))

/-- The CRC has polynomial 0x1021, initial value 0xFFFF, no reflection and no final XOR; of "123456789" it is 0x29B1. The CRC of
no bytes is 0xFFFF. One more byte is XORed into the high byte of the register, which is then shifted left eight times, most
significant bit first, with 0x1021 XORed in whenever a one leaves it; nothing is XORed at the end. The CRC of the nine bytes
"123456789" is 0x29B1, and the CRC of a ring frame is this CRC of its ADDR, CMD, LEN and payload. (02_cell_ring.md R45.) -/
def Obligations.FrameCrcIsTheOneStated : Prop :=
  (crc16 [] = 0xFFFF) ∧
  (∀ (b : Byte) (l : List Byte),
    crc16 (l ++ [b]) = (List.range 8).foldl (fun c _ => if c < 0x8000 then 2 * c else Nat.xor (2 * c % 0x10000) 0x1021) (Nat.xor (crc16 l) (b.toNat * 256))) ∧
  (crc16 [0x31, 0x32, 0x33, 0x34, 0x35, 0x36, 0x37, 0x38, 0x39] = 0x29B1) ∧
  (∀ (a cmd : Nat) (p : List Byte),
    frameCrc a cmd p = crc16 ([BitVec.ofNat 8 a, BitVec.ofNat 8 cmd, BitVec.ofNat 8 p.length] ++ p))

/-- T_NEAR is the input of the cell's channel halved, else the lower valid neighbour with T_SUBST, else the no-value code. For
cell c with channel c mod 16: where input (channel ÷ 2) of its own tap has a value, T_NEAR is that value and is no substitute;
where it has none, T_NEAR is the lower of the valid inputs directly on either side of it in the same tap and T_SUBST is set;
where neither has a value, T_NEAR has none. (04_estimation.md R112.) -/
def Obligations.NearestTemperatureRule : Prop :=
  (∀ (temps : List (Option Int)) (c : Nat) (v : Int),
    tapTemp temps (c / 16) (c % 16 / 2) = some v →
    tNearOf temps c = (some v, false)) ∧
  (∀ (temps : List (Option Int)) (c : Nat) (v : Int),
    tapTemp temps (c / 16) (c % 16 / 2) = none →
    ([if c % 16 / 2 = 0 then none else tapTemp temps (c / 16) (c % 16 / 2 - 1), if c % 16 / 2 = 7 then none else tapTemp temps (c / 16) (c % 16 / 2 + 1)].filterMap id).min? = some v →
    tNearOf temps c = (some v, true)) ∧
  (∀ (temps : List (Option Int)) (c : Nat),
    tapTemp temps (c / 16) (c % 16 / 2) = none →
    ([if c % 16 / 2 = 0 then none else tapTemp temps (c / 16) (c % 16 / 2 - 1), if c % 16 / 2 = 7 then none else tapTemp temps (c / 16) (c % 16 / 2 + 1)].filterMap id) = [] →
    tNearOf temps c = (none, false))

/-- A frame is stored when it matches an enabled acceptance filter; with no filter enabled every frame is stored. For a frame that
a listening controller receives with room in its FIFO and no map in force on the port: with an enabled filter whose ID and
mask give (ID XOR CAN_FILT_ID) AND CAN_FILT_MASK = 0 and whose IDE bit agrees, or with no filter enabled, the frame is stored
behind the entries held; with filters enabled of which none matches, the entries stay as they were. (17_field_buses.md R494.) -/
def Obligations.AcceptanceFilters : Prop :=
  (∀ (t c i : Nat) (f : CanFrame) (s : State),
    c < 2 →
    canHears (clocked t s) c = true →
    (c = 0 → mapMode s = false) →
    s.bus.can.length = 2 →
    (canOf s c).rx.length < 64 →
    i < 4 →
    bitOf (canPrm s c (Prm.canFiltId0 + i)) 31 = true →
    ((Nat.land (Nat.xor f.id (canPrm s c (Prm.canFiltId0 + i) % 2 ^ 29)) (canPrm s c (Prm.canFiltMask0 + i) % 2 ^ 29) = 0 ∧ bitOf (canPrm s c (Prm.canFiltId0 + i)) 29 = f.ide)) →
    ∃ u e, exec (.canFrameReceive t c f) s = .next u ∧ (canOf u c).rx = (canOf s c).rx ++ [e] ∧ e.frame = f) ∧
  (∀ (t c : Nat) (f : CanFrame) (s : State),
    c < 2 →
    canHears (clocked t s) c = true →
    (c = 0 → mapMode s = false) →
    s.bus.can.length = 2 →
    (canOf s c).rx.length < 64 →
    (∀ i < 4, bitOf (canPrm s c (Prm.canFiltId0 + i)) 31 = false) →
    ∃ u e, exec (.canFrameReceive t c f) s = .next u ∧ (canOf u c).rx = (canOf s c).rx ++ [e] ∧ e.frame = f) ∧
  (∀ (t c : Nat) (f : CanFrame) (s : State),
    c < 2 →
    canHears (clocked t s) c = true →
    (c = 0 → mapMode s = false) →
    s.bus.can.length = 2 →
    (∃ i < 4, bitOf (canPrm s c (Prm.canFiltId0 + i)) 31 = true) →
    (∀ i < 4, bitOf (canPrm s c (Prm.canFiltId0 + i)) 31 = true → ¬(Nat.land (Nat.xor f.id (canPrm s c (Prm.canFiltId0 + i) % 2 ^ 29)) (canPrm s c (Prm.canFiltMask0 + i) % 2 ^ 29) = 0 ∧ bitOf (canPrm s c (Prm.canFiltId0 + i)) 29 = f.ide)) →
    ∃ u, exec (.canFrameReceive t c f) s = .next u ∧ (canOf u c).rx = (canOf s c).rx)

/-- A frame that meets a full FIFO is dropped and counted, overwrites nothing, and the next frame stored carries OVERRUN_BEFORE.
For an accepted frame that a listening controller receives with no map in force on the port: while all 64 entries are owned
the entries stay as they were, RX_OVERRUN counts one more and the controller notes that frames were dropped; with fewer than
64 entries the frame is stored behind the entries held, and its OVERRUN_BEFORE says whether frames were dropped since the last
one stored. (17_field_buses.md R496.) -/
def Obligations.FullFifoDropsAndMarks : Prop :=
  (∀ (t c : Nat) (f : CanFrame) (s : State),
    c < 2 →
    canHears (clocked t s) c = true →
    (c = 0 → mapMode s = false) →
    s.bus.can.length = 2 →
    accepted s c f = true →
    (canOf s c).rx.length = 64 →
    ∃ u, exec (.canFrameReceive t c f) s =
      .next u ∧ (canOf u c).rx = (canOf s c).rx ∧ (canOf u c).overrun = ((canOf s c).overrun + 1) % 2 ^ 32 ∧ (canOf u c).gapped = true) ∧
  (∀ (t c : Nat) (f : CanFrame) (s : State),
    c < 2 →
    canHears (clocked t s) c = true →
    (c = 0 → mapMode s = false) →
    s.bus.can.length = 2 →
    accepted s c f = true →
    (canOf s c).rx.length < 64 →
    ∃ u e, exec (.canFrameReceive t c f) s =
      .next u ∧ (canOf u c).rx = (canOf s c).rx ++ [e] ∧ e.frame = f ∧ e.overrun = (canOf s c).gapped ∧ (canOf u c).gapped = false)

/-- An aborted two-wire transfer leaves the pointer and what was acknowledged; the next transfer begins with its address byte.
After TW_TRANSFER_ABORT, which is a START where an acknowledge bit was due or a STOP inside a byte, the target is not
addressed and everything else is as it was: the partial byte wrote nothing, the pointer, the buffers and every byte
acknowledged before stand. While the target is not addressed, further bytes written on the bus change nothing. A new transfer
begins when its address byte matches, with the pointer where it was. (17_field_buses.md R505.) -/
def Obligations.AbortedTransferStands : Prop :=
  (∀ (t : Nat) (s : State),
    exec (.twTransferAbort t) s = .next { clocked t s with bus.svc.selected := false, bus.svc.refuse := false }) ∧
  (∀ (t : Nat) (b : List Byte) (s : State),
    s.bus.svc.selected = false →
    exec (.twWindowWrite t b) s = .next (clocked t s)) ∧
  (∀ (t a : Nat) (s : State),
    svcAlive (clocked t s) = true →
    s.bus.svc.addr = a →
    exec (.twAddressMatch t a none) s =
      .next (after t (fun s => setSvc (fun x => { x with selected := true, ptrNext := true, refuse := false }) (setIsland 10 (fun i => { i with sleep := .awake, wakeAt := none }) s)) s))
end

