-- ==== Sys2Proof/Laws/Bounds.lean ====
section
/-!
SUPPORT. Laws/Bounds.lean: every operation of the machine keeps its queues and tables inside the sizes of the spec, one lemma for
each operation, in the order of the definitions.
-/

set_option linter.all false

namespace Sys2Proof.Machine

open Sys2Proof

theorem keeps_have {P Q : Prop} (h : P) (k : P → Q) : Q := k h

theorem keeps_lit {s u : State} (h : Bounds s) (h1 : u.bus.can = s.bus.can) (h2 : u.bus.svc.ptr = s.bus.svc.ptr)
    (h3 : u.fab.flows = s.fab.flows) (h4 : u.disp.queue = s.disp.queue) (h5 : u.well.buf = s.well.buf)
    (h6 : u.well.clears = s.well.clears) (h7 : u.mbx.mbx = s.mbx.mbx) : Bounds u := by
  unfold Bounds at *
  rw [h1, h2, h3, h4, h5, h6, h7]
  exact h

/-- The bounds, said of the five parts of the state that they speak of. -/
def BoundsOf (mbx : Mailboxes) (well : Well) (disp : Disp) (fab : Fabric) (bus : Buses) : Prop :=
  bus.can.length = 2 ∧ (∀ c ∈ bus.can, CanBounds c) ∧ bus.svc.ptr < 256 ∧ fab.flows.length ≤ 64 ∧
    disp.queue.length ≤ 16 ∧ well.buf.length ≤ 4096 ∧ well.clears.length ≤ 64 ∧ mbx.mbx.length = 8

theorem bounds_mk {p : List Instr} {t : Nat} {o : List Emission} {core : Core} {isl : Islands} {mbx : Mailboxes} {well : Well}
    {rings : Rings} {est : Est} {imp : Imp} {ctrl : Ctrl} {conv : Conv} {disp : Disp} {saf : Safety} {con : Contactors}
    {thm : Thermal} {pair : Pair} {fab : Fabric} {tim : TimeUnit} {bus : Buses} {upd : Update} :
    Bounds (State.mk p t o core isl mbx well rings est imp ctrl conv disp saf con thm pair fab tim bus upd) =
      BoundsOf mbx well disp fab bus := rfl

theorem keeps_of {s : State} {mbx : Mailboxes} {well : Well} {disp : Disp} {fab : Fabric} {bus : Buses} (h : Bounds s) (h7 : mbx.mbx = s.mbx.mbx) (h5 : well.buf = s.well.buf)
    (h6 : well.clears = s.well.clears) (h4 : disp.queue = s.disp.queue) (h3 : fab.flows = s.fab.flows) (h1 : bus.can = s.bus.can)
    (h2 : bus.svc.ptr = s.bus.svc.ptr) : BoundsOf mbx well disp fab bus := by
  unfold BoundsOf
  rw [h1, h2, h3, h4, h5, h6, h7]
  exact h

/-- The same with a queue of set-points that is no longer than 16. -/
theorem keeps_queue {s : State} {mbx : Mailboxes} {well : Well} {disp : Disp} {fab : Fabric} {bus : Buses} (h : Bounds s)
    (h7 : mbx.mbx = s.mbx.mbx) (h5 : well.buf = s.well.buf) (h6 : well.clears = s.well.clears) (h4 : disp.queue.length ≤ 16)
    (h3 : fab.flows = s.fab.flows) (h1 : bus.can = s.bus.can) (h2 : bus.svc.ptr = s.bus.svc.ptr) : BoundsOf mbx well disp fab bus := by
  unfold BoundsOf
  rw [h1, h2, h3, h5, h6, h7]
  exact ⟨h.1, h.2.1, h.2.2.1, h.2.2.2.1, h4, h.2.2.2.2.2⟩

theorem keeps_ite {c : Prop} [Decidable c] {a b : State} (ha : Bounds a) (hb : Bounds b) : Bounds (if c then a else b) := by
  split
  · exact ha
  · exact hb

theorem keeps_ite2 {α : Type} {c : Prop} [Decidable c] {a b : α × State} (ha : Bounds a.2) (hb : Bounds b.2) :
    Bounds (if c then a else b).2 := by
  split
  · exact ha
  · exact hb

theorem keeps_fold {α : Type} {g : State → α → State} {l : List α} {s : State} (hg : ∀ s x, Bounds s → Bounds (g s x)) (h : Bounds s) :
    Bounds (l.foldl g s) := by
  induction l generalizing s with
  | nil => exact h
  | cons a l ih => exact ih (hg s a h)

/-- A change of one element keeps a bound that all elements meet. -/
theorem keeps_modify {α : Type} {P : α → Prop} {l : List α} {n : Nat} {g : α → α} (hl : ∀ x ∈ l, P x) (hg : ∀ x, P x → P (g x)) :
    ∀ x ∈ l.modify n g, P x := by
  induction l generalizing n with
  | nil => simp
  | cons a l ih =>
    cases n with
    | zero =>
      intro x hx
      simp only [List.modify_zero_cons, List.mem_cons] at hx
      rcases hx with rfl | hx
      · exact hg _ (hl a (by simp))
      · exact hl x (by simp [hx])
    | succ n =>
      intro x hx
      simp only [List.modify_succ_cons, List.mem_cons] at hx
      rcases hx with rfl | hx
      · exact hl _ (by simp)
      · exact ih (fun y hy => hl y (by simp [hy])) x hx

theorem timed_keeps {t : Nat} {f : State → State} {s u : State} (hf : ∀ s, Bounds s → Bounds (f s)) (hu : timed t f s = .next u)
    (h : Bounds s) : Bounds u := by
  unfold timed at hu
  cases hu
  exact hf { s with now := max s.now t, out := [] } h

theorem emit_keeps {e : Emission} {s : State} (h : Bounds s) :
    Bounds (emit e s) := by
  unfold emit
  repeat' (first
    | with_reducible assumption
    | (simp only [↓bounds_mk]; refine keeps_of ?_ rfl rfl rfl rfl rfl rfl rfl)
    )

theorem onlyIf_keeps {c : Bool} {f : State → State} {s : State} (hf : ∀ x0, Bounds x0 → Bounds (f x0)) (h : Bounds s) :
    Bounds (onlyIf c f s) := by
  unfold onlyIf
  repeat' (first
    | with_reducible assumption
    | extract_lets +onlyGivenNames x
    | with_reducible apply keeps_ite
    | apply hf
    )

theorem eachDo_keeps {α : Type} {l : List α} {f : α → State → State} {s : State} (hf : ∀ x s, Bounds s → Bounds (f x s))
    (h : Bounds s) : Bounds (eachDo l f s) := by
  unfold eachDo
  exact keeps_fold (fun s x hs => hf x s hs) h

theorem setFn_keeps {f : Nat} {g : Func → Func} {s : State} (h : Bounds s) :
    Bounds (setFn f g s) := by
  unfold setFn
  repeat' (first
    | with_reducible assumption
    | extract_lets +onlyGivenNames x
    | (simp only [↓bounds_mk]; refine keeps_of ?_ rfl rfl rfl rfl rfl rfl rfl)
    )

theorem overwritten_mem {sev : Nat} {l : List EventRec} {o : EventRec} (h : overwritten sev l = some o) : o ∈ l := by
  have k : ∀ (l : List EventRec) (b : Option EventRec) (o : EventRec), l.foldl (fun b r => match b with
      | none => some r
      | some c => if r.sev < c.sev then some r else b) b = some o → o ∈ l ∨ b = some o := by
    intro l
    induction l with
    | nil => intro b o h; exact .inr h
    | cons a l ih =>
      intro b o h
      rcases ih _ o h with h | h
      · exact .inl (by simp [h])
      · cases b with
        | none => simp at h; simp [h]
        | some c =>
          simp only at h
          split at h
          · simp at h; simp [h]
          · exact .inr h
  unfold overwritten at h
  rw [Option.filter_eq_some_iff] at h
  rcases k _ _ _ h.1 with h | h
  · exact h
  · simp at h

/-- A list without one of its elements is shorter. -/
theorem filter_lt {α : Type} {l : List α} {p : α → Bool} {a : α} (h : a ∈ l) (hp : p a = false) : (l.filter p).length < l.length := by
  rw [← List.countP_eq_length_filter]
  have := List.length_eq_countP_add_countP p (l := l)
  have : 0 < l.countP (fun a => ¬p a = true) := List.countP_pos_iff.mpr ⟨a, h, by simp [hp]⟩
  omega

theorem bufferRecord_keeps (r : EventRec) {w : Well} (h : w.buf.length ≤ 4096) :
    (bufferRecord r w).buf.length ≤ 4096 ∧ (bufferRecord r w).clears = w.clears := by
  unfold bufferRecord
  simp only
  split
  · simp only [List.length_append, List.length_singleton, and_true]
    omega
  · split
    · rename_i o ho
      have := filter_lt (p := fun x => decide (x.seq ≠ o.seq)) (overwritten_mem ho) (by simp)
      simp only [noteDrop, List.length_append, List.length_singleton, and_true]
      omega
    · exact ⟨h, rfl⟩

theorem pushRecord_keeps {code sev : Nat} {data : List Int} {s : State} (h : Bounds s) : Bounds (pushRecord code sev data s) := by
  unfold pushRecord
  split
  · exact h
  · obtain ⟨h1, h2, h3, h4, h5, h6, h7, h8⟩ := h
    have k := bufferRecord_keeps (makeRecord s code sev (stampNow s) data) h6
    exact ⟨h1, h2, h3, h4, h5, k.1, by rw [show ({ s with well := bufferRecord (makeRecord s code sev (stampNow s) data) s.well } : State).well.clears = _ from k.2]; exact h7, h8⟩

theorem startFlush_keeps {s : State} (h : Bounds s) :
    Bounds (startFlush s) := by
  unfold startFlush
  split
  · have k : Bounds (match s.well.drops with
        | none => s
        | some (lo, hi, n) => pushRecord Ev.nvmDrop 3 [(lo : Int), hi, n] { s with well.drops := none }) := by
      split
      · exact h
      · exact pushRecord_keeps h
    exact k
  · exact h

theorem recordAt_keeps {time : Nat} {code : Nat} {sev : Nat} {data : List Int} {s : State} (h : Bounds s) :
    Bounds (recordAt time code sev data s) := by
  have k : ∀ r : EventRec, Bounds { s with well := bufferRecord r s.well } := by
    intro r
    obtain ⟨h1, h2, h3, h4, h5, h6, h7, h8⟩ := h
    have k := bufferRecord_keeps r h6
    exact ⟨h1, h2, h3, h4, h5, k.1, by rw [show ({ s with well := bufferRecord r s.well } : State).well.clears = _ from k.2]; exact h7, h8⟩
  unfold recordAt
  split
  · exact h
  · repeat' (first
      | with_reducible assumption
      | (extract_lets +onlyGivenNames x; refine keeps_have (P := Bounds x) ?_ ?_; rotate_left; clear_value x; intro hx; rotate_left; unfold x; clear x)
      | extract_lets +onlyGivenNames x
      | exact k _
      | with_reducible apply startFlush_keeps
      | with_reducible apply keeps_ite
      | (simp only [↓bounds_mk]; refine keeps_of ?_ rfl rfl rfl rfl rfl rfl rfl)
      )

theorem record_keeps {code : Nat} {sev : Nat} {data : List Int} {s : State} (h : Bounds s) :
    Bounds (record code sev data s) := by
  unfold record
  repeat' (first
    | with_reducible assumption
    | with_reducible apply recordAt_keeps
    )

theorem setPlane_keeps {p : Nat} {g : Plane → Plane} {s : State} (h : Bounds s) :
    Bounds (setPlane p g s) := by
  unfold setPlane
  repeat' (first
    | with_reducible assumption
    | extract_lets +onlyGivenNames x
    | (simp only [↓bounds_mk]; refine keeps_of ?_ rfl rfl rfl rfl rfl rfl rfl)
    )

theorem setPort_keeps {p : Nat} {k : Nat} {g : Port → Port} {s : State} (h : Bounds s) :
    Bounds (setPort p k g s) := by
  unfold setPort
  repeat' (first
    | with_reducible assumption
    | with_reducible apply setPlane_keeps
    )

theorem idleFlow_mem {s : State} {o : Flow} (h : idleFlow s = some o) : o ∈ s.fab.flows := by
  have k : ∀ (l : List Flow) (b : Option Flow) (o : Flow), l.foldl (fun b f => match b with
      | none => some f
      | some g => if f.usedAt < g.usedAt then some f else some g) b = some o → o ∈ l ∨ b = some o := by
    intro l
    induction l with
    | nil => intro b o h; exact .inr h
    | cons a l ih =>
      intro b o h
      rcases ih _ o h with h | h
      · exact .inl (by simp [h])
      · cases b with
        | none => simp at h; simp [h]
        | some c =>
          simp only at h
          split at h
          · simp at h; simp [h]
          · exact .inr h
  unfold idleFlow at h
  rcases k _ _ _ h with h | h
  · exact (List.mem_filter.mp h).1
  · simp at h

theorem useFlow_keeps {a c : Nat} {g : Flow → Flow} {s : State} (h : Bounds s) : Bounds (useFlow a c g s).2 := by
  obtain ⟨h1, h2, h3, h4, h5⟩ := h
  unfold useFlow
  simp only
  split
  · exact ⟨h1, h2, h3, by simpa using h4, h5⟩
  · split
    · exact ⟨h1, h2, h3, by simp only [List.length_append, List.length_singleton]; omega, h5⟩
    · split
      · rename_i o ho
        have := filter_lt (p := fun f => decide (f.addr ≠ o.addr) || decide (f.cls ≠ o.cls)) (idleFlow_mem ho) (by simp)
        exact ⟨h1, h2, h3, by simp only [List.length_append, List.length_singleton]; omega, h5⟩
      · exact ⟨h1, h2, h3, h4, h5⟩

theorem sendInFlow_keeps {a : Nat} {c : Nat} {f : Nat → State → State} {s : State} (hf : ∀ x0 x1, Bounds x1 → Bounds (f x0 x1)) (h : Bounds s) :
    Bounds (sendInFlow a c f s) := by
  unfold sendInFlow
  repeat' (first
    | with_reducible assumption
    | (extract_lets +onlyGivenNames x; refine keeps_have (P := Bounds x.2) ?_ ?_; rotate_left; clear_value x; intro hx; rotate_left; unfold x; clear x)
    | extract_lets +onlyGivenNames x
    | with_reducible apply useFlow_keeps
    | with_reducible apply keeps_ite
    | apply hf
    )

theorem sendOnPair_keeps {b : List Byte} {s : State} (h : Bounds s) :
    Bounds (sendOnPair b s) := by
  unfold sendOnPair
  repeat' (first
    | with_reducible assumption
    | with_reducible apply emit_keeps
    )

theorem shapeTc0_keeps {p : Nat} {k : Nat} {len : Nat} {s : State} (h : Bounds s) :
    Bounds (shapeTc0 p k len s).2 := by
  unfold shapeTc0
  repeat' (first
    | with_reducible assumption
    | extract_lets +onlyGivenNames x
    | with_reducible apply setPort_keeps
    | with_reducible apply keeps_ite2
    )

theorem onPort_keeps {p : Nat} {k : Nat} {cls : Nat} {body : List Byte} {s : State} (h : Bounds s) :
    Bounds (onPort p k cls body s) := by
  unfold onPort
  repeat' (first
    | with_reducible assumption
    | (extract_lets +onlyGivenNames x; refine keeps_have (P := Bounds x.2) ?_ ?_; rotate_left; clear_value x; intro hx; rotate_left; unfold x; clear x)
    | extract_lets +onlyGivenNames x
    | with_reducible apply emit_keeps
    | with_reducible apply shapeTc0_keeps
    | with_reducible apply keeps_ite
    )

theorem placeOnPlane_keeps {p : Nat} {type : Nat} {cls : Nat} {dual : Bool} {str : Bool} {dest : Nat} {b : List Byte} {seq : Nat} {s : State} (h : Bounds s) :
    Bounds (placeOnPlane p type cls dual str dest b seq s) := by
  unfold placeOnPlane
  repeat' (first
    | with_reducible assumption
    | (intro y)
    | extract_lets +onlyGivenNames x
    | with_reducible apply onPort_keeps
    | with_reducible apply eachDo_keeps
    | with_reducible apply keeps_ite
    | split
    )

theorem sendOnPlane_keeps {p : Nat} {type : Nat} {cls : Nat} {dest : Nat} {b : List Byte} {a5 : State} (h : Bounds a5) :
    Bounds (sendOnPlane p type cls dest b a5) := by
  unfold sendOnPlane
  repeat' (first
    | with_reducible assumption
    | (intro y)
    | extract_lets +onlyGivenNames x
    | with_reducible apply placeOnPlane_keeps
    | with_reducible apply sendInFlow_keeps
    )

theorem sendDual_keeps {type : Nat} {cls : Nat} {dest : Nat} {b : List Byte} {a4 : State} (h : Bounds a4) :
    Bounds (sendDual type cls dest b a4) := by
  unfold sendDual
  repeat' (first
    | with_reducible assumption
    | (intro y)
    | extract_lets +onlyGivenNames x
    | with_reducible apply placeOnPlane_keeps
    | with_reducible apply sendInFlow_keeps
    )

theorem sendFlow_keeps {type : Nat} {cls : Nat} {str : Bool} {dest : Nat} {b : List Byte} {a5 : State} (h : Bounds a5) :
    Bounds (sendFlow type cls str dest b a5) := by
  unfold sendFlow
  repeat' (first
    | with_reducible assumption
    | (intro y)
    | extract_lets +onlyGivenNames x
    | with_reducible apply placeOnPlane_keeps
    | with_reducible apply sendInFlow_keeps
    )

theorem sendHello_keeps {p : Nat} {k : Nat} {withdraw : Bool} {s : State} (h : Bounds s) :
    Bounds (sendHello p k withdraw s) := by
  unfold sendHello
  repeat' (first
    | with_reducible assumption
    | (intro y)
    | (extract_lets +onlyGivenNames x; refine keeps_have (P := Bounds x) ?_ ?_; rotate_left; clear_value x; intro hx; rotate_left; unfold x; clear x)
    | extract_lets +onlyGivenNames x
    | with_reducible apply setPort_keeps
    | with_reducible apply onPort_keeps
    | with_reducible apply sendInFlow_keeps
    | with_reducible apply keeps_ite
    )

theorem markChanged_keeps {s : State} (h : Bounds s) :
    Bounds (markChanged s) := by
  unfold markChanged
  repeat' (first
    | with_reducible assumption
    | extract_lets +onlyGivenNames x
    | with_reducible apply setPlane_keeps
    )

theorem changeNode_keeps {a : Nat} {s : State} (h : Bounds s) :
    Bounds (changeNode a s) := by
  unfold changeNode
  repeat' (first
    | with_reducible assumption
    | (intro y)
    | (extract_lets +onlyGivenNames x; refine keeps_have (P := Bounds x) ?_ ?_; rotate_left; clear_value x; intro hx; rotate_left; unfold x; clear x)
    | extract_lets +onlyGivenNames x
    | with_reducible apply markChanged_keeps
    | with_reducible apply sendHello_keeps
    | with_reducible apply eachDo_keeps
    | (simp only [↓bounds_mk]; refine keeps_of ?_ rfl rfl rfl rfl rfl rfl rfl)
    )

theorem setMbx_keeps {m : Nat} {g : Mailbox → Mailbox} {s : State} (h : Bounds s) :
    Bounds (setMbx m g s) := by
  obtain ⟨h1, h2, h3, h4, h5, h6, h7, h8⟩ := h
  exact ⟨h1, h2, h3, h4, h5, h6, h7, by simpa [setMbx] using h8⟩

theorem attention_keeps {causes : Nat} {s : State} (h : Bounds s) :
    Bounds (attention causes s) := by
  unfold attention
  repeat' (first
    | with_reducible assumption
    | extract_lets +onlyGivenNames x
    | with_reducible apply keeps_ite
    | (simp only [↓bounds_mk]; refine keeps_of ?_ rfl rfl rfl rfl rfl rfl rfl)
    )

theorem sendDatagram_keeps {ip : Nat} {port : Nat} {b : List Byte} {s : State} (h : Bounds s) :
    Bounds (sendDatagram ip port b s) := by
  unfold sendDatagram
  repeat' (first
    | with_reducible assumption
    | extract_lets +onlyGivenNames x
    | with_reducible apply emit_keeps
    )

theorem deliver_keeps {m : Nat} {src : Source} {r : Response} {s : State} (h : Bounds s) :
    Bounds (deliver m src r s) := by
  unfold deliver
  repeat' (first
    | with_reducible assumption
    | with_reducible apply emit_keeps
    | with_reducible apply sendDatagram_keeps
    | with_reducible apply sendFlow_keeps
    | split
    )

theorem formResponse_keeps {m : Nat} {r : Reply} {s : State} (h : Bounds s) :
    Bounds (formResponse m r s) := by
  unfold formResponse
  repeat' (first
    | with_reducible assumption
    | (extract_lets +onlyGivenNames x; refine keeps_have (P := Bounds x) ?_ ?_; rotate_left; clear_value x; intro hx; rotate_left; unfold x; clear x)
    | extract_lets +onlyGivenNames x
    | with_reducible apply attention_keeps
    | with_reducible apply deliver_keeps
    | with_reducible apply setMbx_keeps
    | with_reducible apply keeps_ite
    | (simp only [↓bounds_mk]; refine keeps_of ?_ rfl rfl rfl rfl rfl rfl rfl)
    | split
    )

theorem countRefused_keeps {m : Nat} {s : State} (h : Bounds s) :
    Bounds (countRefused m s) := by
  unfold countRefused
  repeat' (first
    | with_reducible assumption
    | (extract_lets +onlyGivenNames x; refine keeps_have (P := Bounds x) ?_ ?_; rotate_left; clear_value x; intro hx; rotate_left; unfold x; clear x)
    | extract_lets +onlyGivenNames x
    | with_reducible apply record_keeps
    | with_reducible apply setMbx_keeps
    | with_reducible apply keeps_ite
    )

theorem answerNow_keeps {m : Nat} {r : Reply} {s : State} (h : Bounds s) :
    Bounds (answerNow m r s) := by
  unfold answerNow
  repeat' (first
    | with_reducible assumption
    | (extract_lets +onlyGivenNames x; refine keeps_have (P := Bounds x) ?_ ?_; rotate_left; clear_value x; intro hx; rotate_left; unfold x; clear x)
    | extract_lets +onlyGivenNames x
    | with_reducible apply formResponse_keeps
    | with_reducible apply countRefused_keeps
    | with_reducible apply keeps_ite
    )

theorem finish_keeps {m : Nat} {r : Reply} {s : State} (h : Bounds s) :
    Bounds (finish m r s) := by
  unfold finish
  repeat' (first
    | with_reducible assumption
    | with_reducible apply setMbx_keeps
    )

theorem finishJob_keeps {m : Option Nat} {cmd : Nat} {r : Reply} {s : State} (h : Bounds s) :
    Bounds (finishJob m cmd r s) := by
  unfold finishJob
  split
  · exact h
  · obtain ⟨h1, h2, h3⟩ := h
    refine ⟨by simpa using h1, keeps_modify h2 ?_, h3⟩
    intro x hx
    split <;> exact hx
  · extract_lets b
    split
    · split
      · exact finish_keeps h
      · exact answerNow_keeps h
    · exact h

theorem startCommand_keeps {m : Nat} {s : State} (h : Bounds s) :
    Bounds (startCommand m s) := by
  unfold startCommand
  repeat' (first
    | with_reducible assumption
    | with_reducible apply setMbx_keeps
    )

theorem giveAnswer_keeps {m : Nat} {a : Answer} {s : State} (h : Bounds s) :
    Bounds (giveAnswer m a s) := by
  unfold giveAnswer
  repeat' (first
    | with_reducible assumption
    | extract_lets +onlyGivenNames x
    | with_reducible apply answerNow_keeps
    | with_reducible apply finish_keeps
    | with_reducible apply keeps_ite
    | split
    )

theorem serve_keeps {m : Nat} {cmd : Nat} {a2 : Request → State → Answer × State} {s : State} (ha2 : ∀ x0 x1, Bounds x1 → Bounds (a2 x0 x1).2) (h : Bounds s) :
    Bounds (serve m cmd a2 s) := by
  unfold serve
  repeat' (first
    | with_reducible assumption
    | extract_lets +onlyGivenNames x
    | with_reducible apply giveAnswer_keeps
    | with_reducible apply startCommand_keeps
    | apply ha2
    | (simp only [↓bounds_mk]; refine keeps_of ?_ rfl rfl rfl rfl rfl rfl rfl)
    | split
    )

theorem withLength_keeps {n : Nat} {a1 : List Byte → State → Answer × State} {r : Request} {s : State} (ha1 : ∀ x0 x1, Bounds x1 → Bounds (a1 x0 x1).2) (h : Bounds s) :
    Bounds (withLength n a1 r s).2 := by
  unfold withLength
  repeat' (first
    | with_reducible assumption
    | extract_lets +onlyGivenNames x
    | with_reducible apply keeps_ite2
    | apply ha1
    )

theorem refuse_keeps {r : Reply} {s : State} (h : Bounds s) :
    Bounds (refuse r s).2 := by
  unfold refuse
  repeat' (first
    | with_reducible assumption
    )

theorem answerWith_keeps {r : Reply} {s : State} (h : Bounds s) :
    Bounds (answerWith r s).2 := by
  unfold answerWith
  repeat' (first
    | with_reducible assumption
    )

theorem ok_keeps {s : State} (h : Bounds s) :
    Bounds (ok s).2 := by
  unfold ok
  repeat' (first
    | with_reducible assumption
    )

theorem okWith_keeps {p : Payload} {s : State} (h : Bounds s) :
    Bounds (okWith p s).2 := by
  unfold okWith
  repeat' (first
    | with_reducible assumption
    )

theorem statusHandler_keeps {p : State → Payload} {a1 : Request} {a2 : State} (h : Bounds a2) :
    Bounds (statusHandler p a1 a2).2 := by
  unfold statusHandler
  repeat' (first
    | with_reducible assumption
    | (intro y)
    | extract_lets +onlyGivenNames x
    | with_reducible apply okWith_keeps
    | with_reducible apply withLength_keeps
    )

theorem setCoil_keeps {n : Nat} {g : CoilOut → CoilOut} {s : State} (h : Bounds s) :
    Bounds (setCoil n g s) := by
  unfold setCoil
  repeat' (first
    | with_reducible assumption
    | extract_lets +onlyGivenNames x
    | (simp only [↓bounds_mk]; refine keeps_of ?_ rfl rfl rfl rfl rfl rfl rfl)
    )

theorem setRing_keeps {r : Nat} {g : Ring → Ring} {s : State} (h : Bounds s) :
    Bounds (setRing r g s) := by
  unfold setRing
  repeat' (first
    | with_reducible assumption
    | extract_lets +onlyGivenNames x
    | (simp only [↓bounds_mk]; refine keeps_of ?_ rfl rfl rfl rfl rfl rfl rfl)
    )

theorem setTap_keeps {i : Nat} {g : Tap → Tap} {s : State} (h : Bounds s) :
    Bounds (setTap i g s) := by
  unfold setTap
  repeat' (first
    | with_reducible assumption
    | extract_lets +onlyGivenNames x
    | (simp only [↓bounds_mk]; refine keeps_of ?_ rfl rfl rfl rfl rfl rfl rfl)
    )

theorem setPos_keeps {r : Nat} {p : Nat} {g : RingPos → RingPos} {s : State} (h : Bounds s) :
    Bounds (setPos r p g s) := by
  unfold setPos
  repeat' (first
    | with_reducible assumption
    | with_reducible apply setRing_keeps
    )

theorem setIsland_keeps {k : Nat} {g : Island → Island} {s : State} (h : Bounds s) :
    Bounds (setIsland k g s) := by
  unfold setIsland
  repeat' (first
    | with_reducible assumption
    | extract_lets +onlyGivenNames x
    | (simp only [↓bounds_mk]; refine keeps_of ?_ rfl rfl rfl rfl rfl rfl rfl)
    )

theorem valuesAbsent_keeps {k : Nat} {s : State} (h : Bounds s) :
    Bounds (valuesAbsent k s) := by
  unfold valuesAbsent
  repeat' (first
    | with_reducible assumption
    | extract_lets +onlyGivenNames x
    | with_reducible apply keeps_ite
    | (simp only [↓bounds_mk]; refine keeps_of ?_ rfl rfl rfl rfl rfl rfl rfl)
    )

theorem flushMarkers_keeps {k : Nat} {s : State} (h : Bounds s) :
    Bounds (flushMarkers k s) := by
  unfold flushMarkers
  repeat' (first
    | with_reducible assumption
    | extract_lets +onlyGivenNames x
    | with_reducible apply valuesAbsent_keeps
    | with_reducible apply setIsland_keeps
    )

theorem flushCrossings_keeps {k : Nat} {s : State} (h : Bounds s) :
    Bounds (flushCrossings k s) := by
  unfold flushCrossings
  repeat' (first
    | with_reducible assumption
    | extract_lets +onlyGivenNames x
    | with_reducible apply flushMarkers_keeps
    | with_reducible apply record_keeps
    )

theorem impAbort_keeps {cause : Nat} {s : State} (h : Bounds s) :
    Bounds (impAbort cause s) := by
  unfold impAbort
  repeat' (first
    | with_reducible assumption
    | extract_lets +onlyGivenNames x
    | with_reducible apply record_keeps
    | with_reducible apply keeps_ite
    | (simp only [↓bounds_mk]; refine keeps_of ?_ rfl rfl rfl rfl rfl rfl rfl)
    )

theorem clearDispatch_keeps {s : State} (h : Bounds s) :
    Bounds (clearDispatch s) := by
  obtain ⟨h1, h2, h3, h4, h5, h6⟩ := h
  exact ⟨h1, h2, h3, h4, Nat.zero_le _, h6⟩

theorem dispatchReset_keeps {s : State} (h : Bounds s) :
    Bounds (dispatchReset s) := by
  unfold dispatchReset
  repeat' (first
    | with_reducible assumption
    | extract_lets +onlyGivenNames x
    | with_reducible apply clearDispatch_keeps
    | with_reducible apply record_keeps
    )

theorem setLane_keeps {n : Nat} {g : Lane → Lane} {s : State} (h : Bounds s) :
    Bounds (setLane n g s) := by
  unfold setLane
  repeat' (first
    | with_reducible assumption
    | extract_lets +onlyGivenNames x
    | (simp only [↓bounds_mk]; refine keeps_of ?_ rfl rfl rfl rfl rfl rfl rfl)
    )

theorem setPhase_keeps {n : Nat} {g : Phase → Phase} {s : State} (h : Bounds s) :
    Bounds (setPhase n g s) := by
  unfold setPhase
  repeat' (first
    | with_reducible assumption
    | extract_lets +onlyGivenNames x
    | (simp only [↓bounds_mk]; refine keeps_of ?_ rfl rfl rfl rfl rfl rfl rfl)
    )

theorem sendEdges_keeps {n : Nat} {l : List (Nat × Nat)} {s : State} (h : Bounds s) :
    Bounds (sendEdges n l s) := by
  unfold sendEdges
  repeat' (first
    | with_reducible assumption
    | (extract_lets +onlyGivenNames x; refine keeps_have (P := Bounds x) ?_ ?_; rotate_left; clear_value x; intro hx; rotate_left; unfold x; clear x)
    | extract_lets +onlyGivenNames x
    | with_reducible apply emit_keeps
    | with_reducible apply setLane_keeps
    | with_reducible apply keeps_ite
    )

theorem darkLane_keeps {n : Nat} {s : State} (h : Bounds s) :
    Bounds (darkLane n s) := by
  unfold darkLane
  repeat' (first
    | with_reducible assumption
    | with_reducible apply sendEdges_keeps
    )

theorem darkLanes_keeps {s : State} (h : Bounds s) :
    Bounds (darkLanes s) := by
  unfold darkLanes
  repeat' (first
    | with_reducible assumption
    | (intro y)
    | extract_lets +onlyGivenNames x
    | with_reducible apply darkLane_keeps
    | with_reducible apply eachDo_keeps
    )

theorem dropEnable_keeps {s : State} (h : Bounds s) :
    Bounds (dropEnable s) := by
  unfold dropEnable
  repeat' (first
    | with_reducible assumption
    | extract_lets +onlyGivenNames x
    | with_reducible apply darkLanes_keeps
    | (simp only [↓bounds_mk]; refine keeps_of ?_ rfl rfl rfl rfl rfl rfl rfl)
    )

theorem inhibitGates_keeps {s : State} (h : Bounds s) :
    Bounds (inhibitGates s) := by
  unfold inhibitGates
  repeat' (first
    | with_reducible assumption
    | extract_lets +onlyGivenNames x
    | with_reducible apply darkLanes_keeps
    | (simp only [↓bounds_mk]; refine keeps_of ?_ rfl rfl rfl rfl rfl rfl rfl)
    )

theorem releaseGates_keeps {s : State} (h : Bounds s) :
    Bounds (releaseGates s) := by
  unfold releaseGates
  repeat' (first
    | with_reducible assumption
    | extract_lets +onlyGivenNames x
    | (simp only [↓bounds_mk]; refine keeps_of ?_ rfl rfl rfl rfl rfl rfl rfl)
    )

theorem gatesOff_keeps {cause : Nat} {s : State} (h : Bounds s) :
    Bounds (gatesOff cause s) := by
  unfold gatesOff
  repeat' (first
    | with_reducible assumption
    | (extract_lets +onlyGivenNames x; refine keeps_have (P := Bounds x) ?_ ?_; rotate_left; clear_value x; intro hx; rotate_left; unfold x; clear x)
    | extract_lets +onlyGivenNames x
    | with_reducible apply darkLanes_keeps
    | with_reducible apply impAbort_keeps
    | (simp only [↓bounds_mk]; refine keeps_of ?_ rfl rfl rfl rfl rfl rfl rfl)
    )

theorem judgeWear_keeps {n : Nat} {s : State} (h : Bounds s) :
    Bounds (judgeWear n s) := by
  unfold judgeWear
  repeat' (first
    | with_reducible assumption
    | extract_lets +onlyGivenNames x
    | with_reducible apply setCoil_keeps
    | with_reducible apply record_keeps
    | with_reducible apply keeps_ite
    )

theorem endAttempt_keeps {s : State} (h : Bounds s) :
    Bounds (endAttempt s) := by
  unfold endAttempt
  repeat' (first
    | with_reducible assumption
    | extract_lets +onlyGivenNames x
    | (simp only [↓bounds_mk]; refine keeps_of ?_ rfl rfl rfl rfl rfl rfl rfl)
    | split
    )

theorem openedUnderLoad_keeps {n : Nat} {s : State} (h : Bounds s) :
    Bounds (openedUnderLoad n s) := by
  unfold openedUnderLoad
  repeat' (first
    | with_reducible assumption
    | extract_lets +onlyGivenNames x
    | with_reducible apply setCoil_keeps
    | with_reducible apply record_keeps
    | with_reducible apply judgeWear_keeps
    )

theorem openSwitches_keeps {high : Bool} {low : Bool} {n : Nat} {s : State} (h : Bounds s) :
    Bounds (openSwitches high low n s) := by
  unfold openSwitches
  repeat' (first
    | with_reducible assumption
    | (extract_lets +onlyGivenNames x; refine keeps_have (P := Bounds x) ?_ ?_; rotate_left; clear_value x; intro hx; rotate_left; unfold x; clear x)
    | extract_lets +onlyGivenNames x
    | with_reducible apply openedUnderLoad_keeps
    | with_reducible apply endAttempt_keeps
    | with_reducible apply setCoil_keeps
    | with_reducible apply keeps_ite
    )

theorem openCoil_keeps {n : Nat} {s : State} (h : Bounds s) :
    Bounds (openCoil n s) := by
  unfold openCoil
  repeat' (first
    | with_reducible assumption
    | extract_lets +onlyGivenNames x
    | with_reducible apply setCoil_keeps
    | with_reducible apply openSwitches_keeps
    )

theorem domeOpens_keeps {s : State} (h : Bounds s) :
    Bounds (domeOpens s) := by
  unfold domeOpens
  repeat' (first
    | with_reducible assumption
    | (intro y)
    | extract_lets +onlyGivenNames x
    | with_reducible apply openSwitches_keeps
    | with_reducible apply eachDo_keeps
    )

theorem energiseCoil_keeps {n : Nat} {s : State} (h : Bounds s) :
    Bounds (energiseCoil n s) := by
  unfold energiseCoil
  repeat' (first
    | with_reducible assumption
    | with_reducible apply setCoil_keeps
    )

theorem setMode_keeps {m : Mode} {cause : Nat} {s : State} (h : Bounds s) :
    Bounds (setMode m cause s) := by
  unfold setMode
  repeat' (first
    | with_reducible assumption
    | (extract_lets +onlyGivenNames x; refine keeps_have (P := Bounds x) ?_ ?_; rotate_left; clear_value x; intro hx; rotate_left; unfold x; clear x)
    | extract_lets +onlyGivenNames x
    | with_reducible apply record_keeps
    | with_reducible apply attention_keeps
    | with_reducible apply impAbort_keeps
    | with_reducible apply dispatchReset_keeps
    | with_reducible apply keeps_ite
    | (simp only [↓bounds_mk]; refine keeps_of ?_ rfl rfl rfl rfl rfl rfl rfl)
    )

theorem faultToHold_keeps {cause : Nat} {data : List Int} {s : State} (h : Bounds s) :
    Bounds (faultToHold cause data s) := by
  unfold faultToHold
  repeat' (first
    | with_reducible assumption
    | (extract_lets +onlyGivenNames x; refine keeps_have (P := Bounds x) ?_ ?_; rotate_left; clear_value x; intro hx; rotate_left; unfold x; clear x)
    | extract_lets +onlyGivenNames x
    | with_reducible apply setMode_keeps
    | with_reducible apply record_keeps
    | with_reducible apply gatesOff_keeps
    | with_reducible apply keeps_ite
    )

theorem sendTripNotice_keeps {cause : Nat} {s : State} (h : Bounds s) :
    Bounds (sendTripNotice cause s) := by
  unfold sendTripNotice
  repeat' (first
    | with_reducible assumption
    | (extract_lets +onlyGivenNames x; refine keeps_have (P := Bounds x) ?_ ?_; rotate_left; clear_value x; intro hx; rotate_left; unfold x; clear x)
    | extract_lets +onlyGivenNames x
    | with_reducible apply sendOnPair_keeps
    | with_reducible apply sendDual_keeps
    | with_reducible apply keeps_ite
    | (simp only [↓bounds_mk]; refine keeps_of ?_ rfl rfl rfl rfl rfl rfl rfl)
    )

theorem sendPair_keeps {cls : Nat} {b : List Byte} {s : State} (h : Bounds s) :
    Bounds (sendPair cls b s) := by
  unfold sendPair
  repeat' (first
    | with_reducible assumption
    | (extract_lets +onlyGivenNames x; refine keeps_have (P := Bounds x) ?_ ?_; rotate_left; clear_value x; intro hx; rotate_left; unfold x; clear x)
    | extract_lets +onlyGivenNames x
    | with_reducible apply sendOnPlane_keeps
    | with_reducible apply sendOnPair_keeps
    | with_reducible apply keeps_ite
    )

theorem sendSwap_keeps {step : Nat} {cause : Nat} {w : Swap} {a3 : State} (h : Bounds a3) :
    Bounds (sendSwap step cause w a3) := by
  unfold sendSwap
  repeat' (first
    | with_reducible assumption
    | with_reducible apply sendPair_keeps
    )

theorem sendHand_keeps {s : State} (h : Bounds s) :
    Bounds (sendHand s) := by
  unfold sendHand
  repeat' (first
    | with_reducible assumption
    | extract_lets +onlyGivenNames x
    | with_reducible apply sendSwap_keeps
    | (simp only [↓bounds_mk]; refine keeps_of ?_ rfl rfl rfl rfl rfl rfl rfl)
    | split
    )

theorem latchCode_keeps {code : Nat} {s : State} (h : Bounds s) :
    Bounds (latchCode code s) := by
  unfold latchCode
  repeat' (first
    | with_reducible assumption
    | extract_lets +onlyGivenNames x
    | with_reducible apply keeps_ite
    | (simp only [↓bounds_mk]; refine keeps_of ?_ rfl rfl rfl rfl rfl rfl rfl)
    )

theorem notePresent_keeps {code : Nat} {s : State} (h : Bounds s) :
    Bounds (notePresent code s) := by
  unfold notePresent
  repeat' (first
    | with_reducible assumption
    | extract_lets +onlyGivenNames x
    | with_reducible apply keeps_ite
    | (simp only [↓bounds_mk]; refine keeps_of ?_ rfl rfl rfl rfl rfl rfl rfl)
    )

theorem clearPresent_keeps {code : Nat} {s : State} (h : Bounds s) :
    Bounds (clearPresent code s) := by
  unfold clearPresent
  repeat' (first
    | with_reducible assumption
    | extract_lets +onlyGivenNames x
    | (simp only [↓bounds_mk]; refine keeps_of ?_ rfl rfl rfl rfl rfl rfl rfl)
    )

theorem latchSf_keeps {n : Nat} {dome : Bool} {s : State} (h : Bounds s) :
    Bounds (latchSf n dome s) := by
  unfold latchSf
  repeat' (first
    | with_reducible assumption
    | extract_lets +onlyGivenNames x
    | (simp only [↓bounds_mk]; refine keeps_of ?_ rfl rfl rfl rfl rfl rfl rfl)
    )

theorem endJobs_keeps {cause : Nat} {s : State} (h : Bounds s) :
    Bounds (endJobs cause s) := by
  unfold endJobs
  repeat' (first
    | with_reducible assumption
    | (extract_lets +onlyGivenNames x; refine keeps_have (P := Bounds x) ?_ ?_; rotate_left; clear_value x; intro hx; rotate_left; unfold x; clear x)
    | extract_lets +onlyGivenNames x
    | with_reducible apply finishJob_keeps
    | (simp only [↓bounds_mk]; refine keeps_of ?_ rfl rfl rfl rfl rfl rfl rfl)
    | split
    )

theorem openTripOut_keeps {f : Finder} {sf : Option Nat} {code : Nat} {s : State} (h : Bounds s) :
    Bounds (openTripOut f sf code s) := by
  unfold openTripOut
  repeat' (first
    | with_reducible assumption
    | extract_lets +onlyGivenNames x
    | with_reducible apply keeps_ite
    | (simp only [↓bounds_mk]; refine keeps_of ?_ rfl rfl rfl rfl rfl rfl rfl)
    | split
    )

theorem demandOutputs_keeps {s : State} (h : Bounds s) :
    Bounds (demandOutputs s) := by
  unfold demandOutputs
  repeat' (first
    | with_reducible assumption
    | (intro y)
    | (extract_lets +onlyGivenNames x; refine keeps_have (P := Bounds x) ?_ ?_; rotate_left; clear_value x; intro hx; rotate_left; unfold x; clear x)
    | extract_lets +onlyGivenNames x
    | with_reducible apply openCoil_keeps
    | with_reducible apply eachDo_keeps
    | with_reducible apply keeps_ite
    | (simp only [↓bounds_mk]; refine keeps_of ?_ rfl rfl rfl rfl rfl rfl rfl)
    )

theorem spDemands_keeps {opens : Bool} {s : State} (h : Bounds s) :
    Bounds (spDemands opens s) := by
  unfold spDemands
  repeat' (first
    | with_reducible assumption
    | (extract_lets +onlyGivenNames x; refine keeps_have (P := Bounds x) ?_ ?_; rotate_left; clear_value x; intro hx; rotate_left; unfold x; clear x)
    | extract_lets +onlyGivenNames x
    | with_reducible apply inhibitGates_keeps
    | with_reducible apply demandOutputs_keeps
    | with_reducible apply keeps_ite
    | (simp only [↓bounds_mk]; refine keeps_of ?_ rfl rfl rfl rfl rfl rfl rfl)
    )

theorem domeDemands_keeps {opens : Bool} {s : State} (h : Bounds s) :
    Bounds (domeDemands opens s) := by
  unfold domeDemands
  repeat' (first
    | with_reducible assumption
    | (extract_lets +onlyGivenNames x; refine keeps_have (P := Bounds x) ?_ ?_; rotate_left; clear_value x; intro hx; rotate_left; unfold x; clear x)
    | extract_lets +onlyGivenNames x
    | with_reducible apply dropEnable_keeps
    | with_reducible apply demandOutputs_keeps
    | with_reducible apply keeps_ite
    | (simp only [↓bounds_mk]; refine keeps_of ?_ rfl rfl rfl rfl rfl rfl rfl)
    )

theorem demandBy_keeps {f : Finder} {opens : Bool} {s : State} (h : Bounds s) :
    Bounds (demandBy f opens s) := by
  unfold demandBy
  repeat' (first
    | with_reducible assumption
    | (intro y)
    | extract_lets +onlyGivenNames x
    | with_reducible apply spDemands_keeps
    | with_reducible apply domeDemands_keeps
    | with_reducible apply onlyIf_keeps
    )

theorem dropClaim_keeps {s : State} (h : Bounds s) :
    Bounds (dropClaim s) := by
  unfold dropClaim
  repeat' (first
    | with_reducible assumption
    | extract_lets +onlyGivenNames x
    | (simp only [↓bounds_mk]; refine keeps_of ?_ rfl rfl rfl rfl rfl rfl rfl)
    )

theorem tripCore_keeps {code : Nat} {f : Finder} {s : State} (h : Bounds s) :
    Bounds (tripCore code f s) := by
  unfold tripCore
  repeat' (first
    | with_reducible assumption
    | (extract_lets +onlyGivenNames x; refine keeps_have (P := Bounds x) ?_ ?_; rotate_left; clear_value x; intro hx; rotate_left; unfold x; clear x)
    | extract_lets +onlyGivenNames x
    | with_reducible apply setMode_keeps
    | with_reducible apply dropClaim_keeps
    | with_reducible apply sendTripNotice_keeps
    | with_reducible apply openTripOut_keeps
    | with_reducible apply gatesOff_keeps
    | with_reducible apply endJobs_keeps
    | with_reducible apply demandBy_keeps
    | with_reducible apply latchSf_keeps
    | with_reducible apply latchCode_keeps
    | with_reducible apply keeps_ite
    | (simp only [↓bounds_mk]; refine keeps_of ?_ rfl rfl rfl rfl rfl rfl rfl)
    | split
    )

theorem trip_keeps {code : Nat} {f : Finder} {data : List Int} {s : State} (h : Bounds s) :
    Bounds (trip code f data s) := by
  unfold trip
  repeat' (first
    | with_reducible assumption
    | extract_lets +onlyGivenNames x
    | with_reducible apply record_keeps
    | with_reducible apply tripCore_keeps
    | with_reducible apply keeps_ite
    )

theorem tripHeld_keeps {code : Nat} {f : Finder} {data : List Int} {s : State} (h : Bounds s) :
    Bounds (tripHeld code f data s) := by
  unfold tripHeld
  repeat' (first
    | with_reducible assumption
    | extract_lets +onlyGivenNames x
    | with_reducible apply notePresent_keeps
    | with_reducible apply trip_keeps
    )

theorem captureEdge_keeps {src : Nat} {rising : Bool} {stamp : Nat} {s : State} (h : Bounds s) :
    Bounds (captureEdge src rising stamp s) := by
  unfold captureEdge
  repeat' (first
    | with_reducible assumption
    | extract_lets +onlyGivenNames x
    | with_reducible apply keeps_ite
    | (simp only [↓bounds_mk]; refine keeps_of ?_ rfl rfl rfl rfl rfl rfl rfl)
    )

theorem recordEdge_keeps {src : Nat} {stamp : Nat} {code : Nat} {sev : Nat} {data : List Int} {s : State} (h : Bounds s) :
    Bounds (recordEdge src stamp code sev data s) := by
  obtain ⟨h1, h2, h3, h4, h5, h6, h7⟩ := recordAt_keeps (time := if s.tim.lostMark.getD src false then stampNow s else stamp) (code := code) (sev := sev) (data := data) h
  exact ⟨h1, h2, h3, h4, h5, by simpa [recordEdge] using h6, h7⟩

theorem tripEdge_keeps {src : Nat} {stamp : Nat} {code : Nat} {f : Finder} {data : List Int} {s : State} (h : Bounds s) :
    Bounds (tripEdge src stamp code f data s) := by
  unfold tripEdge
  repeat' (first
    | with_reducible assumption
    | extract_lets +onlyGivenNames x
    | with_reducible apply notePresent_keeps
    | with_reducible apply recordEdge_keeps
    | with_reducible apply tripCore_keeps
    | with_reducible apply keeps_ite
    )

theorem registerOneShot_keeps {n : Nat} {island : Nat} {time : Nat} {s : State} (h : Bounds s) :
    Bounds (registerOneShot n island time s) := by
  unfold registerOneShot
  repeat' (first
    | with_reducible assumption
    | (extract_lets +onlyGivenNames x; refine keeps_have (P := Bounds x) ?_ ?_; rotate_left; clear_value x; intro hx; rotate_left; unfold x; clear x)
    | extract_lets +onlyGivenNames x
    | with_reducible apply record_keeps
    | with_reducible apply emit_keeps
    | with_reducible apply keeps_ite
    | (simp only [↓bounds_mk]; refine keeps_of ?_ rfl rfl rfl rfl rfl rfl rfl)
    )

theorem setPeriodic_keeps {n : Nat} {island : Nat} {period : Nat} {phase : Nat} {s : State} (h : Bounds s) :
    Bounds (setPeriodic n island period phase s) := by
  unfold setPeriodic
  repeat' (first
    | with_reducible assumption
    | extract_lets +onlyGivenNames x
    | (simp only [↓bounds_mk]; refine keeps_of ?_ rfl rfl rfl rfl rfl rfl rfl)
    )

theorem setCtx_keeps {c : Nat} {g : Ctx → Ctx} {s : State} (h : Bounds s) :
    Bounds (setCtx c g s) := by
  unfold setCtx
  repeat' (first
    | with_reducible assumption
    | extract_lets +onlyGivenNames x
    | (simp only [↓bounds_mk]; refine keeps_of ?_ rfl rfl rfl rfl rfl rfl rfl)
    )

theorem tapSend_keeps {q : TapReq} {up : Bool} {bytes : List Byte} {a3 : State} (h : Bounds a3) :
    Bounds (tapSend q up bytes a3) := by
  unfold tapSend
  repeat' (first
    | with_reducible assumption
    | with_reducible apply emit_keeps
    )

theorem forwardRequest_keeps {cmd : Nat} {good : Bool} {q : TapReq} {s : State} (h : Bounds s) :
    Bounds (forwardRequest cmd good q s) := by
  unfold forwardRequest
  repeat' (first
    | with_reducible assumption
    | extract_lets +onlyGivenNames x
    | with_reducible apply setTap_keeps
    | with_reducible apply tapSend_keeps
    | with_reducible apply keeps_ite
    )

theorem passResponse_keeps {cmd : Nat} {q : TapReq} {s : State} (h : Bounds s) :
    Bounds (passResponse cmd q s) := by
  unfold passResponse
  repeat' (first
    | with_reducible assumption
    | (extract_lets +onlyGivenNames x; refine keeps_have (P := Bounds x) ?_ ?_; rotate_left; clear_value x; intro hx; rotate_left; unfold x; clear x)
    | extract_lets +onlyGivenNames x
    | with_reducible apply tapSend_keeps
    | with_reducible apply setTap_keeps
    | with_reducible apply keeps_ite
    )

theorem countPorts_keeps {r : Nat} {up : Bool} {lo : Nat} {hi : Nat} {k : Nat} {a5 : State} (h : Bounds a5) :
    Bounds (countPorts r up lo hi k a5) := by
  unfold countPorts
  repeat' (first
    | with_reducible assumption
    | with_reducible apply setRing_keeps
    )

theorem countResponse_keeps {r : Nat} {p : Nat} {up : Bool} {s : State} (h : Bounds s) :
    Bounds (countResponse r p up s) := by
  unfold countResponse
  repeat' (first
    | with_reducible assumption
    | extract_lets +onlyGivenNames x
    | with_reducible apply countPorts_keeps
    | with_reducible apply keeps_ite
    )

theorem respond_keeps {q : TapReq} {cmd : Nat} {bytes : List Byte} {s : State} (h : Bounds s) :
    Bounds (respond q cmd bytes s) := by
  unfold respond
  repeat' (first
    | with_reducible assumption
    | (extract_lets +onlyGivenNames x; refine keeps_have (P := Bounds x) ?_ ?_; rotate_left; clear_value x; intro hx; rotate_left; unfold x; clear x)
    | extract_lets +onlyGivenNames x
    | with_reducible apply countResponse_keeps
    | with_reducible apply tapSend_keeps
    | with_reducible apply keeps_ite
    )

/-- The state after a tap answered. -/
def tapAfter (a : TapAnswer) (s : State) : State := match a with
  | .reject => s
  | .silent s => s
  | .reply s _ => s

theorem withPayload_keeps {n i : Nat} {b : List Byte} {h : Nat → List Byte → State → TapAnswer} {s u : State} (hu : Bounds u)
    (k : Bounds (tapAfter (h i b s) u)) : Bounds (tapAfter (withPayload n h i b s) u) := by
  unfold withPayload
  split
  · exact k
  · exact hu

theorem tapAfter_silent {s u : State} (h : Bounds u) : Bounds (tapAfter (.silent u) s) := h

theorem tapAfter_reply {s u : State} {b : List Byte} (h : Bounds u) : Bounds (tapAfter (.reply u b) s) := h

theorem tapAfter_reject {s : State} (h : Bounds s) : Bounds (tapAfter .reject s) := h

theorem tapAfter_ite {c : Prop} [Decidable c] {a b : TapAnswer} {s : State} (ha : Bounds (tapAfter a s)) (hb : Bounds (tapAfter b s)) :
    Bounds (tapAfter (if c then a else b) s) := by
  split
  · exact ha
  · exact hb

theorem meetRequest_keeps {cmd : Nat} {q : TapReq} {a : Nat → List Byte → State → TapAnswer} {s : State}
    (ha : ∀ i b s, Bounds s → Bounds (tapAfter (a i b s) s)) (h : Bounds s) : Bounds (meetRequest cmd q a s) := by
  unfold meetRequest
  dsimp only
  generalize tapIndex q.ring q.pos = i
  split
  · exact forwardRequest_keeps (setTap_keeps h)
  · have hx : Bounds (forwardRequest cmd true q s) := forwardRequest_keeps h
    generalize forwardRequest cmd true q s = x at *
    split
    · have k := ha i q.payload x hx
      split
      · exact record_keeps (respond_keeps hx)
      · rename_i e
        rw [e] at k
        exact k
      · rename_i e
        rw [e] at k
        exact respond_keeps k
    · exact hx

theorem atTap_keeps {cmd : Nat} {q : TapReq} {a : Nat → List Byte → State → TapAnswer} {s : State}
    (ha : ∀ i b s, Bounds s → Bounds (tapAfter (a i b s) s)) (h : Bounds s) : Bounds (atTap cmd q a s) := by
  unfold atTap
  split
  · split
    · exact tapSend_keeps h
    · exact h
  · split
    · exact h
    · split
      · exact meetRequest_keeps ha h
      · split
        · exact passResponse_keeps h
        · split
          · exact h
          · exact meetRequest_keeps (fun _ _ _ h => h) h

theorem execNop_keeps {t : Nat} {q : TapReq} {s : State} (h : Bounds s) :
    ∀ u, execNop t q s = .next u → Bounds u := by
  intro u hu
  unfold execNop at hu
  refine timed_keeps ?_ hu h
  clear hu h
  intro s h
  repeat' (first
    | with_reducible assumption
    | (intro y)
    | extract_lets +onlyGivenNames x
    | with_reducible apply atTap_keeps
    | with_reducible apply withPayload_keeps
    | with_reducible apply tapAfter_silent
    )

theorem execEcho_keeps {t : Nat} {q : TapReq} {s : State} (h : Bounds s) :
    ∀ u, execEcho t q s = .next u → Bounds u := by
  intro u hu
  unfold execEcho at hu
  refine timed_keeps ?_ hu h
  clear hu h
  intro s h
  repeat' (first
    | with_reducible assumption
    | (intro y)
    | extract_lets +onlyGivenNames x
    | with_reducible apply atTap_keeps
    | with_reducible apply withPayload_keeps
    | with_reducible apply tapAfter_reply
    )

theorem execSetDelay_keeps {t : Nat} {q : TapReq} {s : State} (h : Bounds s) :
    ∀ u, execSetDelay t q s = .next u → Bounds u := by
  intro u hu
  unfold execSetDelay at hu
  refine timed_keeps ?_ hu h
  clear hu h
  intro s h
  repeat' (first
    | with_reducible assumption
    | (intro y)
    | extract_lets +onlyGivenNames x
    | with_reducible apply setTap_keeps
    | with_reducible apply atTap_keeps
    | with_reducible apply withPayload_keeps
    | with_reducible apply tapAfter_reply
    )

theorem execSetThresh_keeps {t : Nat} {q : TapReq} {s : State} (h : Bounds s) :
    ∀ u, execSetThresh t q s = .next u → Bounds u := by
  intro u hu
  unfold execSetThresh at hu
  refine timed_keeps ?_ hu h
  clear hu h
  intro s h
  repeat' (first
    | with_reducible assumption
    | (intro y)
    | (extract_lets +onlyGivenNames x; refine keeps_have (P := Bounds x) ?_ ?_; rotate_left; clear_value x; intro hx; rotate_left; unfold x; clear x)
    | extract_lets +onlyGivenNames x
    | with_reducible apply record_keeps
    | with_reducible apply setPos_keeps
    | with_reducible apply setTap_keeps
    | with_reducible apply atTap_keeps
    | with_reducible apply withPayload_keeps
    | with_reducible apply tapAfter_reply
    | with_reducible apply keeps_ite
    )

theorem execSetMarkCount_keeps {t : Nat} {q : TapReq} {s : State} (h : Bounds s) :
    ∀ u, execSetMarkCount t q s = .next u → Bounds u := by
  intro u hu
  unfold execSetMarkCount at hu
  refine timed_keeps ?_ hu h
  clear hu h
  intro s h
  repeat' (first
    | with_reducible assumption
    | (intro y)
    | extract_lets +onlyGivenNames x
    | with_reducible apply setTap_keeps
    | with_reducible apply atTap_keeps
    | with_reducible apply withPayload_keeps
    | with_reducible apply tapAfter_reply
    )

theorem execReadStatus_keeps {t : Nat} {q : TapReq} {loopMa : Nat} {supply : Option Int} {quiet : Bool} {s : State} (h : Bounds s) :
    ∀ u, execReadStatus t q loopMa supply quiet s = .next u → Bounds u := by
  intro u hu
  unfold execReadStatus at hu
  refine timed_keeps ?_ hu h
  clear hu h
  intro s h
  repeat' (first
    | with_reducible assumption
    | (intro y)
    | (extract_lets +onlyGivenNames x; refine keeps_have (P := Bounds x) ?_ ?_; rotate_left; clear_value x; intro hx; rotate_left; unfold x; clear x)
    | extract_lets +onlyGivenNames x
    | with_reducible apply record_keeps
    | with_reducible apply setTap_keeps
    | with_reducible apply atTap_keeps
    | with_reducible apply withPayload_keeps
    | with_reducible apply tapAfter_reply
    | with_reducible apply keeps_ite
    )

theorem execClearTrip_keeps {t : Nat} {q : TapReq} {volts : List (Option Int)} {s : State} (h : Bounds s) :
    ∀ u, execClearTrip t q volts s = .next u → Bounds u := by
  intro u hu
  unfold execClearTrip at hu
  refine timed_keeps ?_ hu h
  clear hu h
  intro s h
  repeat' (first
    | with_reducible assumption
    | (intro y)
    | (extract_lets +onlyGivenNames x; refine keeps_have (P := Bounds x) ?_ ?_; rotate_left; clear_value x; intro hx; rotate_left; unfold x; clear x)
    | extract_lets +onlyGivenNames x
    | with_reducible apply setTap_keeps
    | with_reducible apply atTap_keeps
    | with_reducible apply withPayload_keeps
    | with_reducible apply tapAfter_reply
    )

theorem judgeDip_keeps {r : Nat} {p : Nat} {dip : Option Nat} {s : State} (h : Bounds s) :
    Bounds (judgeDip r p dip s) := by
  unfold judgeDip
  repeat' (first
    | with_reducible assumption
    | (extract_lets +onlyGivenNames x; refine keeps_have (P := Bounds x) ?_ ?_; rotate_left; clear_value x; intro hx; rotate_left; unfold x; clear x)
    | extract_lets +onlyGivenNames x
    | with_reducible apply record_keeps
    | with_reducible apply setRing_keeps
    | with_reducible apply captureEdge_keeps
    | with_reducible apply setPos_keeps
    | with_reducible apply keeps_ite
    )

theorem execFltTest_keeps {t : Nat} {q : TapReq} {dip : Option Nat} {s : State} (h : Bounds s) :
    ∀ u, execFltTest t q dip s = .next u → Bounds u := by
  intro u hu
  unfold execFltTest at hu
  refine timed_keeps ?_ hu h
  clear hu h
  intro s h
  repeat' (first
    | with_reducible assumption
    | (intro y)
    | (extract_lets +onlyGivenNames x; refine keeps_have (P := Bounds x) ?_ ?_; rotate_left; clear_value x; intro hx; rotate_left; unfold x; clear x)
    | extract_lets +onlyGivenNames x
    | with_reducible apply judgeDip_keeps
    | with_reducible apply setTap_keeps
    | with_reducible apply atTap_keeps
    | with_reducible apply withPayload_keeps
    | with_reducible apply tapAfter_silent
    | with_reducible apply keeps_ite
    )

theorem execTapReset_keeps {t : Nat} {q : TapReq} {leads : List Nat} {testFail : Bool} {calFail : Bool} {s : State} (h : Bounds s) :
    ∀ u, execTapReset t q leads testFail calFail s = .next u → Bounds u := by
  intro u hu
  unfold execTapReset at hu
  refine timed_keeps ?_ hu h
  clear hu h
  intro s h
  repeat' (first
    | with_reducible assumption
    | (intro y)
    | extract_lets +onlyGivenNames x
    | with_reducible apply setTap_keeps
    | with_reducible apply atTap_keeps
    | with_reducible apply withPayload_keeps
    | with_reducible apply tapAfter_silent
    )

theorem execPtProbe_keeps {t : Nat} {q : TapReq} {rt : Option Nat} {s : State} (h : Bounds s) :
    ∀ u, execPtProbe t q rt s = .next u → Bounds u := by
  intro u hu
  unfold execPtProbe at hu
  refine timed_keeps ?_ hu h
  clear hu h
  intro s h
  repeat' (first
    | with_reducible assumption
    | (intro y)
    | extract_lets +onlyGivenNames x
    | with_reducible apply setRing_keeps
    | with_reducible apply respond_keeps
    | with_reducible apply atTap_keeps
    | with_reducible apply withPayload_keeps
    | with_reducible apply tapAfter_silent
    | with_reducible apply keeps_ite
    | (simp only [↓bounds_mk]; refine keeps_of ?_ rfl rfl rfl rfl rfl rfl rfl)
    | split
    )

theorem execSetCollect_keeps {t : Nat} {q : TapReq} {s : State} (h : Bounds s) :
    ∀ u, execSetCollect t q s = .next u → Bounds u := by
  intro u hu
  unfold execSetCollect at hu
  refine timed_keeps ?_ hu h
  clear hu h
  intro s h
  repeat' (first
    | with_reducible assumption
    | (intro y)
    | extract_lets +onlyGivenNames x
    | with_reducible apply setTap_keeps
    | with_reducible apply atTap_keeps
    | with_reducible apply withPayload_keeps
    | with_reducible apply tapAfter_ite
    | with_reducible apply tapAfter_reply
    | with_reducible apply tapAfter_reject
    )

theorem execCollect_keeps {t : Nat} {q : TapReq} {quiet : Bool} {s : State} (h : Bounds s) :
    ∀ u, execCollect t q quiet s = .next u → Bounds u := by
  intro u hu
  unfold execCollect at hu
  refine timed_keeps ?_ hu h
  clear hu h
  intro s h
  repeat' (first
    | with_reducible assumption
    | (intro y)
    | (extract_lets +onlyGivenNames x; refine keeps_have (P := Bounds x) ?_ ?_; rotate_left; clear_value x; intro hx; rotate_left; unfold x; clear x)
    | extract_lets +onlyGivenNames x
    | with_reducible apply setTap_keeps
    | with_reducible apply atTap_keeps
    | with_reducible apply withPayload_keeps
    | with_reducible apply tapAfter_reply
    )

theorem execMarkReceived_keeps {t : Nat} {i : Nat} {rev : Bool} {volts : List (Option Int)} {temps : List (Option Int)} {loopLow : Bool} {grid : List (List Int)} {s : State} (h : Bounds s) :
    ∀ u, execMarkReceived t i rev volts temps loopLow grid s = .next u → Bounds u := by
  intro u hu
  unfold execMarkReceived at hu
  refine timed_keeps ?_ hu h
  clear hu h
  intro s h
  repeat' (first
    | with_reducible assumption
    | extract_lets +onlyGivenNames x
    | with_reducible apply setTap_keeps
    | with_reducible apply emit_keeps
    | with_reducible apply keeps_ite
    )

theorem execTapSlotSend_keeps {t : Nat} {i : Nat} {quiet : Bool} {s : State} (h : Bounds s) :
    ∀ u, execTapSlotSend t i quiet s = .next u → Bounds u := by
  intro u hu
  unfold execTapSlotSend at hu
  refine timed_keeps ?_ hu h
  clear hu h
  intro s h
  repeat' (first
    | with_reducible assumption
    | (extract_lets +onlyGivenNames x; refine keeps_have (P := Bounds x) ?_ ?_; rotate_left; clear_value x; intro hx; rotate_left; unfold x; clear x)
    | extract_lets +onlyGivenNames x
    | with_reducible apply emit_keeps
    | with_reducible apply setTap_keeps
    | with_reducible apply keeps_ite
    | (simp only [↓bounds_mk]; refine keeps_of ?_ rfl rfl rfl rfl rfl rfl rfl)
    | split
    )

theorem execCellComparatorTrip_keeps {t : Nat} {i : Nat} {c : Nat} {ov : Bool} {v : Int} {held : Nat} {s : State} (h : Bounds s) :
    ∀ u, execCellComparatorTrip t i c ov v held s = .next u → Bounds u := by
  intro u hu
  unfold execCellComparatorTrip at hu
  refine timed_keeps ?_ hu h
  clear hu h
  intro s h
  repeat' (first
    | with_reducible assumption
    | extract_lets +onlyGivenNames x
    | with_reducible apply setTap_keeps
    | with_reducible apply keeps_ite
    )

theorem execClkLockLost_keeps {t : Nat} {i : Nat} {s : State} (h : Bounds s) :
    ∀ u, execClkLockLost t i s = .next u → Bounds u := by
  intro u hu
  unfold execClkLockLost at hu
  refine timed_keeps ?_ hu h
  clear hu h
  intro s h
  repeat' (first
    | with_reducible assumption
    | extract_lets +onlyGivenNames x
    | with_reducible apply setTap_keeps
    | with_reducible apply keeps_ite
    )

theorem execTapSleep_keeps {t : Nat} {i : Nat} {quiet : Nat} {s : State} (h : Bounds s) :
    ∀ u, execTapSleep t i quiet s = .next u → Bounds u := by
  intro u hu
  unfold execTapSleep at hu
  refine timed_keeps ?_ hu h
  clear hu h
  intro s h
  repeat' (first
    | with_reducible assumption
    | extract_lets +onlyGivenNames x
    | with_reducible apply setTap_keeps
    | with_reducible apply keeps_ite
    )

theorem execTapWake_keeps {t : Nat} {i : Nat} {s : State} (h : Bounds s) :
    ∀ u, execTapWake t i s = .next u → Bounds u := by
  intro u hu
  unfold execTapWake at hu
  refine timed_keeps ?_ hu h
  clear hu h
  intro s h
  repeat' (first
    | with_reducible assumption
    | extract_lets +onlyGivenNames x
    | with_reducible apply setTap_keeps
    | with_reducible apply keeps_ite
    )

theorem ringSend_keeps {r : Nat} {low : Bool} {rb : Bool} {launch : Nat} {times : Nat} {hop : Nat} {cmd : Nat} {p : List Byte} {s : State} (h : Bounds s) :
    Bounds (ringSend r low rb launch times hop cmd p s) := by
  unfold ringSend
  repeat' (first
    | with_reducible assumption
    | (extract_lets +onlyGivenNames x; refine keeps_have (P := Bounds x) ?_ ?_; rotate_left; clear_value x; intro hx; rotate_left; unfold x; clear x)
    | extract_lets +onlyGivenNames x
    | with_reducible apply emit_keeps
    | with_reducible apply countPorts_keeps
    | with_reducible apply keeps_ite
    )

theorem sendTap_keeps {r : Nat} {p : Nat} {cmd : Nat} {payload : List Byte} {s : State} (h : Bounds s) :
    Bounds (sendTap r p cmd payload s) := by
  unfold sendTap
  repeat' (first
    | with_reducible assumption
    | with_reducible apply ringSend_keeps
    | split
    )

theorem sendAll_keeps {r : Nat} {cmd : Nat} {payload : List Byte} {s : State} (h : Bounds s) :
    Bounds (sendAll r cmd payload s) := by
  unfold sendAll
  repeat' (first
    | with_reducible assumption
    | (extract_lets +onlyGivenNames x; refine keeps_have (P := Bounds x) ?_ ?_; rotate_left; clear_value x; intro hx; rotate_left; unfold x; clear x)
    | extract_lets +onlyGivenNames x
    | with_reducible apply ringSend_keeps
    | with_reducible apply keeps_ite
    )

theorem sendProbes_keeps {r : Nat} {p : Nat} {low : Bool} {times : Nat} {s : State} (h : Bounds s) :
    Bounds (sendProbes r p low times s) := by
  unfold sendProbes
  repeat' (first
    | with_reducible assumption
    | with_reducible apply ringSend_keeps
    )

theorem setEng_keeps {e : Nat} {g : Engine → Engine} {s : State} (h : Bounds s) :
    Bounds (setEng e g s) := by
  unfold setEng
  repeat' (first
    | with_reducible assumption
    | extract_lets +onlyGivenNames x
    | (simp only [↓bounds_mk]; refine keeps_of ?_ rfl rfl rfl rfl rfl rfl rfl)
    )

theorem endPhase_keeps {n : Nat} {s : State} (h : Bounds s) :
    Bounds (endPhase n s) := by
  unfold endPhase
  repeat' (first
    | with_reducible assumption
    | extract_lets +onlyGivenNames x
    | with_reducible apply setPhase_keeps
    | with_reducible apply darkLane_keeps
    )

theorem startPhases_keeps {l : List Nat} {s : State} (h : Bounds s) :
    Bounds (startPhases l s) := by
  unfold startPhases
  repeat' (first
    | with_reducible assumption
    | (intro y)
    | (extract_lets +onlyGivenNames x; refine keeps_have (P := Bounds x) ?_ ?_; rotate_left; clear_value x; intro hx; rotate_left; unfold x; clear x)
    | extract_lets +onlyGivenNames x
    | with_reducible apply setPhase_keeps
    | with_reducible apply endPhase_keeps
    | with_reducible apply eachDo_keeps
    | (simp only [↓bounds_mk]; refine keeps_of ?_ rfl rfl rfl rfl rfl rfl rfl)
    )

theorem beginSoftStart_keeps {vs : Int} {vl : Int} {s : State} (h : Bounds s) :
    Bounds (beginSoftStart vs vl s) := by
  unfold beginSoftStart
  repeat' (first
    | with_reducible assumption
    | (extract_lets +onlyGivenNames x; refine keeps_have (P := Bounds x) ?_ ?_; rotate_left; clear_value x; intro hx; rotate_left; unfold x; clear x)
    | extract_lets +onlyGivenNames x
    | with_reducible apply startPhases_keeps
    | (simp only [↓bounds_mk]; refine keeps_of ?_ rfl rfl rfl rfl rfl rfl rfl)
    )

theorem softStartFail_keeps {cause : Int} {s : State} (h : Bounds s) :
    Bounds (softStartFail cause s) := by
  unfold softStartFail
  repeat' (first
    | with_reducible assumption
    | (extract_lets +onlyGivenNames x; refine keeps_have (P := Bounds x) ?_ ?_; rotate_left; clear_value x; intro hx; rotate_left; unfold x; clear x)
    | extract_lets +onlyGivenNames x
    | with_reducible apply gatesOff_keeps
    | with_reducible apply trip_keeps
    | with_reducible apply record_keeps
    | with_reducible apply keeps_ite
    | (simp only [↓bounds_mk]; refine keeps_of ?_ rfl rfl rfl rfl rfl rfl rfl)
    )

theorem execSoftStart_keeps {t : Nat} {vStr : Int} {vLnk : Int} {s : State} (h : Bounds s) :
    ∀ u, execSoftStart t vStr vLnk s = .next u → Bounds u := by
  intro u hu
  unfold execSoftStart at hu
  refine timed_keeps ?_ hu h
  clear hu h
  intro s h
  repeat' (first
    | with_reducible assumption
    | extract_lets +onlyGivenNames x
    | with_reducible apply beginSoftStart_keeps
    | with_reducible apply keeps_ite
    )

theorem execSoftStartRetry_keeps {t : Nat} {vStr : Int} {vLnk : Int} {s : State} (h : Bounds s) :
    ∀ u, execSoftStartRetry t vStr vLnk s = .next u → Bounds u := by
  intro u hu
  unfold execSoftStartRetry at hu
  refine timed_keeps ?_ hu h
  clear hu h
  intro s h
  repeat' (first
    | with_reducible assumption
    | extract_lets +onlyGivenNames x
    | with_reducible apply beginSoftStart_keeps
    | with_reducible apply keeps_ite
    )

theorem startCycle_keeps {n : Nat} {s : State} (h : Bounds s) :
    Bounds (startCycle n s) := by
  unfold startCycle
  repeat' (first
    | with_reducible assumption
    | extract_lets +onlyGivenNames x
    | with_reducible apply setPhase_keeps
    | with_reducible apply sendEdges_keeps
    | with_reducible apply faultToHold_keeps
    | with_reducible apply keeps_ite
    | (simp only [↓bounds_mk]; refine keeps_of ?_ rfl rfl rfl rfl rfl rfl rfl)
    | split
    )

theorem leaveBurst_keeps {s : State} (h : Bounds s) :
    Bounds (leaveBurst s) := by
  unfold leaveBurst
  repeat' (first
    | with_reducible assumption
    | extract_lets +onlyGivenNames x
    | with_reducible apply startPhases_keeps
    | (simp only [↓bounds_mk]; refine keeps_of ?_ rfl rfl rfl rfl rfl rfl rfl)
    )

theorem endPacket_keeps {s : State} (h : Bounds s) :
    Bounds (endPacket s) := by
  unfold endPacket
  repeat' (first
    | with_reducible assumption
    | extract_lets +onlyGivenNames x
    | with_reducible apply startPhases_keeps
    | with_reducible apply leaveBurst_keeps
    | with_reducible apply keeps_ite
    | (simp only [↓bounds_mk]; refine keeps_of ?_ rfl rfl rfl rfl rfl rfl rfl)
    )

theorem packetPhaseEnds_keeps {n : Nat} {s : State} (h : Bounds s) :
    Bounds (packetPhaseEnds n s) := by
  unfold packetPhaseEnds
  repeat' (first
    | with_reducible assumption
    | (extract_lets +onlyGivenNames x; refine keeps_have (P := Bounds x) ?_ ?_; rotate_left; clear_value x; intro hx; rotate_left; unfold x; clear x)
    | extract_lets +onlyGivenNames x
    | with_reducible apply endPacket_keeps
    | with_reducible apply endPhase_keeps
    | with_reducible apply keeps_ite
    )

theorem execValleyReached_keeps {t : Nat} {n : Nat} {bits : List Bool} {age : Nat} {s : State} (h : Bounds s) :
    ∀ u, execValleyReached t n bits age s = .next u → Bounds u := by
  intro u hu
  unfold execValleyReached at hu
  refine timed_keeps ?_ hu h
  clear hu h
  intro s h
  repeat' (first
    | with_reducible assumption
    | extract_lets +onlyGivenNames x
    | with_reducible apply setPhase_keeps
    | with_reducible apply startCycle_keeps
    | with_reducible apply packetPhaseEnds_keeps
    | with_reducible apply endPhase_keeps
    | with_reducible apply keeps_ite
    )

theorem execLimitHit_keeps {t : Nat} {n : Nat} {bits : List Bool} {age : Nat} {s : State} (h : Bounds s) :
    ∀ u, execLimitHit t n bits age s = .next u → Bounds u := by
  intro u hu
  unfold execLimitHit at hu
  refine timed_keeps ?_ hu h
  clear hu h
  intro s h
  repeat' (first
    | with_reducible assumption
    | (extract_lets +onlyGivenNames x; refine keeps_have (P := Bounds x) ?_ ?_; rotate_left; clear_value x; intro hx; rotate_left; unfold x; clear x)
    | extract_lets +onlyGivenNames x
    | with_reducible apply endPacket_keeps
    | with_reducible apply faultToHold_keeps
    | with_reducible apply softStartFail_keeps
    | with_reducible apply setPhase_keeps
    | with_reducible apply sendEdges_keeps
    | with_reducible apply keeps_ite
    )

theorem execCycleGroupBoundary_keeps {t : Nat} {s : State} (h : Bounds s) :
    ∀ u, execCycleGroupBoundary t s = .next u → Bounds u := by
  intro u hu
  unfold execCycleGroupBoundary at hu
  refine timed_keeps ?_ hu h
  clear hu h
  intro s h
  repeat' (first
    | with_reducible assumption
    | (extract_lets +onlyGivenNames x; refine keeps_have (P := Bounds x) ?_ ?_; rotate_left; clear_value x; intro hx; rotate_left; unfold x; clear x)
    | extract_lets +onlyGivenNames x
    | with_reducible apply keeps_ite
    | (simp only [↓bounds_mk]; refine keeps_of ?_ rfl rfl rfl rfl rfl rfl rfl)
    )

theorem execInterleaveLimit_keeps {t : Nat} {n : Nat} {s : State} (h : Bounds s) :
    ∀ u, execInterleaveLimit t n s = .next u → Bounds u := by
  intro u hu
  unfold execInterleaveLimit at hu
  refine timed_keeps ?_ hu h
  clear hu h
  intro s h
  repeat' (first
    | with_reducible assumption
    | extract_lets +onlyGivenNames x
    | with_reducible apply setPhase_keeps
    | with_reducible apply record_keeps
    | with_reducible apply keeps_ite
    )

theorem execBurstEntry_keeps {t : Nat} {s : State} (h : Bounds s) :
    ∀ u, execBurstEntry t s = .next u → Bounds u := by
  intro u hu
  unfold execBurstEntry at hu
  refine timed_keeps ?_ hu h
  clear hu h
  intro s h
  repeat' (first
    | with_reducible assumption
    | extract_lets +onlyGivenNames x
    | with_reducible apply startPhases_keeps
    | with_reducible apply impAbort_keeps
    | with_reducible apply keeps_ite
    | (simp only [↓bounds_mk]; refine keeps_of ?_ rfl rfl rfl rfl rfl rfl rfl)
    )

theorem runPacket_keeps {dir : Int} {acc : Int} {s : State} (h : Bounds s) :
    Bounds (runPacket dir acc s) := by
  unfold runPacket
  repeat' (first
    | with_reducible assumption
    | extract_lets +onlyGivenNames x
    | with_reducible apply startPhases_keeps
    | (simp only [↓bounds_mk]; refine keeps_of ?_ rfl rfl rfl rfl rfl rfl rfl)
    )

theorem execBurstFrame_keeps {t : Nat} {s : State} (h : Bounds s) :
    ∀ u, execBurstFrame t s = .next u → Bounds u := by
  intro u hu
  unfold execBurstFrame at hu
  refine timed_keeps ?_ hu h
  clear hu h
  intro s h
  repeat' (first
    | with_reducible assumption
    | (extract_lets +onlyGivenNames x; refine keeps_have (P := Bounds x) ?_ ?_; rotate_left; clear_value x; intro hx; rotate_left; unfold x; clear x)
    | extract_lets +onlyGivenNames x
    | with_reducible apply startPhases_keeps
    | with_reducible apply runPacket_keeps
    | with_reducible apply leaveBurst_keeps
    | with_reducible apply keeps_ite
    | (simp only [↓bounds_mk]; refine keeps_of ?_ rfl rfl rfl rfl rfl rfl rfl)
    )

theorem burstCycle_keeps {s : State} (h : Bounds s) :
    Bounds (burstCycle s) := by
  unfold burstCycle
  repeat' (first
    | with_reducible assumption
    | extract_lets +onlyGivenNames x
    | with_reducible apply keeps_ite
    | (simp only [↓bounds_mk]; refine keeps_of ?_ rfl rfl rfl rfl rfl rfl rfl)
    )

theorem changeCount_keeps {n : Nat} {s : State} (h : Bounds s) :
    Bounds (changeCount n s) := by
  unfold changeCount
  repeat' (first
    | with_reducible assumption
    | (intro y)
    | (extract_lets +onlyGivenNames x; refine keeps_have (P := Bounds x) ?_ ?_; rotate_left; clear_value x; intro hx; rotate_left; unfold x; clear x)
    | extract_lets +onlyGivenNames x
    | with_reducible apply impAbort_keeps
    | with_reducible apply setPhase_keeps
    | with_reducible apply eachDo_keeps
    | with_reducible apply keeps_ite
    | (simp only [↓bounds_mk]; refine keeps_of ?_ rfl rfl rfl rfl rfl rfl rfl)
    )

theorem shedDecision_keeps {s : State} (h : Bounds s) :
    Bounds (shedDecision s) := by
  unfold shedDecision
  repeat' (first
    | with_reducible assumption
    | extract_lets +onlyGivenNames x
    | with_reducible apply changeCount_keeps
    | with_reducible apply keeps_ite
    )

theorem sendSideband_keeps {n : Nat} {s : State} (h : Bounds s) :
    Bounds (sendSideband n s) := by
  unfold sendSideband
  repeat' (first
    | with_reducible assumption
    | extract_lets +onlyGivenNames x
    | with_reducible apply emit_keeps
    | with_reducible apply setLane_keeps
    | with_reducible apply keeps_ite
    )

theorem execSidebandFrame_keeps {t : Nat} {s : State} (h : Bounds s) :
    ∀ u, execSidebandFrame t s = .next u → Bounds u := by
  intro u hu
  unfold execSidebandFrame at hu
  refine timed_keeps ?_ hu h
  clear hu h
  intro s h
  repeat' (first
    | with_reducible assumption
    | (intro y)
    | extract_lets +onlyGivenNames x
    | with_reducible apply sendSideband_keeps
    | with_reducible apply eachDo_keeps
    )

theorem execGateStatusFrame_keeps {t : Nat} {n : Nat} {b : List Byte} {s : State} (h : Bounds s) :
    ∀ u, execGateStatusFrame t n b s = .next u → Bounds u := by
  intro u hu
  unfold execGateStatusFrame at hu
  refine timed_keeps ?_ hu h
  clear hu h
  intro s h
  repeat' (first
    | with_reducible assumption
    | (extract_lets +onlyGivenNames x; refine keeps_have (P := Bounds x) ?_ ?_; rotate_left; clear_value x; intro hx; rotate_left; unfold x; clear x)
    | extract_lets +onlyGivenNames x
    | with_reducible apply faultToHold_keeps
    | with_reducible apply setLane_keeps
    | with_reducible apply keeps_ite
    )

theorem trainLane_keeps {n : Nat} {s : State} (h : Bounds s) :
    Bounds (trainLane n s) := by
  unfold trainLane
  repeat' (first
    | with_reducible assumption
    | extract_lets +onlyGivenNames x
    | with_reducible apply setLane_keeps
    | with_reducible apply emit_keeps
    )

theorem execLaneTrain_keeps {t : Nat} {n : Nat} {s : State} (h : Bounds s) :
    ∀ u, execLaneTrain t n s = .next u → Bounds u := by
  intro u hu
  unfold execLaneTrain at hu
  refine timed_keeps ?_ hu h
  clear hu h
  intro s h
  repeat' (first
    | with_reducible assumption
    | extract_lets +onlyGivenNames x
    | with_reducible apply trainLane_keeps
    | with_reducible apply keeps_ite
    )

theorem execLaneDown_keeps {t : Nat} {n : Nat} {quiet : Nat} {noStatus : Nat} {b : List Byte} {s : State} (h : Bounds s) :
    ∀ u, execLaneDown t n quiet noStatus b s = .next u → Bounds u := by
  intro u hu
  unfold execLaneDown at hu
  refine timed_keeps ?_ hu h
  clear hu h
  intro s h
  repeat' (first
    | with_reducible assumption
    | (extract_lets +onlyGivenNames x; refine keeps_have (P := Bounds x) ?_ ?_; rotate_left; clear_value x; intro hx; rotate_left; unfold x; clear x)
    | extract_lets +onlyGivenNames x
    | with_reducible apply record_keeps
    | with_reducible apply faultToHold_keeps
    | with_reducible apply setLane_keeps
    | with_reducible apply keeps_ite
    )

theorem execLaneTimeoutOff_keeps {t : Nat} {n : Nat} {quiet : Nat} {s : State} (h : Bounds s) :
    ∀ u, execLaneTimeoutOff t n quiet s = .next u → Bounds u := by
  intro u hu
  unfold execLaneTimeoutOff at hu
  refine timed_keeps ?_ hu h
  clear hu h
  intro s h
  repeat' (first
    | with_reducible assumption
    | extract_lets +onlyGivenNames x
    | with_reducible apply setLane_keeps
    | with_reducible apply keeps_ite
    )

theorem execDriverDesat_keeps {t : Nat} {n : Nat} {hs : Bool} {s : State} (h : Bounds s) :
    ∀ u, execDriverDesat t n hs s = .next u → Bounds u := by
  intro u hu
  unfold execDriverDesat at hu
  refine timed_keeps ?_ hu h
  clear hu h
  intro s h
  repeat' (first
    | with_reducible assumption
    | extract_lets +onlyGivenNames x
    | with_reducible apply setLane_keeps
    )

theorem execModStatus_keeps {t : Nat} {m : Nat} {s : State} (h : Bounds s) :
    ∀ u, execModStatus t m s = .next u → Bounds u := by
  intro u hu
  unfold execModStatus at hu
  refine timed_keeps ?_ hu h
  clear hu h
  intro s h
  repeat' (first
    | with_reducible assumption
    | (intro y)
    | extract_lets +onlyGivenNames x
    | with_reducible apply statusHandler_keeps
    | with_reducible apply serve_keeps
    )

theorem execLaneStatus_keeps {t : Nat} {m : Nat} {s : State} (h : Bounds s) :
    ∀ u, execLaneStatus t m s = .next u → Bounds u := by
  intro u hu
  unfold execLaneStatus at hu
  refine timed_keeps ?_ hu h
  clear hu h
  intro s h
  repeat' (first
    | with_reducible assumption
    | (intro y)
    | extract_lets +onlyGivenNames x
    | with_reducible apply statusHandler_keeps
    | with_reducible apply serve_keeps
    )

theorem execDtTableRead_keeps {t : Nat} {m : Nat} {s : State} (h : Bounds s) :
    ∀ u, execDtTableRead t m s = .next u → Bounds u := by
  intro u hu
  unfold execDtTableRead at hu
  refine timed_keeps ?_ hu h
  clear hu h
  intro s h
  repeat' (first
    | with_reducible assumption
    | (intro y)
    | extract_lets +onlyGivenNames x
    | with_reducible apply statusHandler_keeps
    | with_reducible apply serve_keeps
    )

theorem dtWriteHandler_keeps {r : Request} {a1 : State} (h : Bounds a1) :
    Bounds (dtWriteHandler r a1).2 := by
  unfold dtWriteHandler
  repeat' (first
    | with_reducible assumption
    | (intro y)
    | extract_lets +onlyGivenNames x
    | with_reducible apply ok_keeps
    | with_reducible apply refuse_keeps
    | with_reducible apply withLength_keeps
    | (simp only [↓bounds_mk]; refine keeps_of ?_ rfl rfl rfl rfl rfl rfl rfl)
    | split
    )

theorem execDtTableWrite_keeps {t : Nat} {m : Nat} {s : State} (h : Bounds s) :
    ∀ u, execDtTableWrite t m s = .next u → Bounds u := by
  intro u hu
  unfold execDtTableWrite at hu
  refine timed_keeps ?_ hu h
  clear hu h
  intro s h
  repeat' (first
    | with_reducible assumption
    | (intro y)
    | extract_lets +onlyGivenNames x
    | with_reducible apply dtWriteHandler_keeps
    | with_reducible apply serve_keeps
    )

theorem execLaneRetrain_keeps {t : Nat} {m : Nat} {s : State} (h : Bounds s) :
    ∀ u, execLaneRetrain t m s = .next u → Bounds u := by
  intro u hu
  unfold execLaneRetrain at hu
  refine timed_keeps ?_ hu h
  clear hu h
  intro s h
  repeat' (first
    | with_reducible assumption
    | (intro y)
    | extract_lets +onlyGivenNames x
    | with_reducible apply trainLane_keeps
    | with_reducible apply eachDo_keeps
    | with_reducible apply ok_keeps
    | with_reducible apply refuse_keeps
    | with_reducible apply withLength_keeps
    | with_reducible apply serve_keeps
    | with_reducible apply keeps_ite2
    )

end Sys2Proof.Machine
end

