-- ==== Sys2Proof/Laws/BoundsControl.lean ====
section
/-!
SUPPORT. Laws/BoundsControl.lean: the operations of MailboxOps, TapFirmware, Control, Balance, SetPoints keep the bounds, as Laws/Bounds.lean says it of the earlier ones.
-/

set_option linter.all false

namespace Sys2Proof.Machine

open Sys2Proof

theorem endBinding_keeps {m : Nat} {s : State} (h : Bounds s) :
    Bounds (endBinding m s) := by
  unfold endBinding
  repeat' (first
    | with_reducible assumption
    | (extract_lets +onlyGivenNames x; refine keeps_have (P := Bounds x) ?_ ?_; rotate_left; clear_value x; intro hx; rotate_left; unfold x; clear x)
    | extract_lets +onlyGivenNames x
    | with_reducible apply setMbx_keeps
    | (simp only [↓bounds_mk]; refine keeps_of ?_ rfl rfl rfl rfl rfl rfl rfl)
    | split
    )

theorem bindTo_keeps {src : Source} {m : Nat} {s : State} (h : Bounds s) :
    Bounds (bindTo src m s) := by
  unfold bindTo
  repeat' (first
    | with_reducible assumption
    | (extract_lets +onlyGivenNames x; refine keeps_have (P := Bounds x) ?_ ?_; rotate_left; clear_value x; intro hx; rotate_left; unfold x; clear x)
    | extract_lets +onlyGivenNames x
    | with_reducible apply setMbx_keeps
    | with_reducible apply endBinding_keeps
    | with_reducible apply keeps_ite
    | (simp only [↓bounds_mk]; refine keeps_of ?_ rfl rfl rfl rfl rfl rfl rfl)
    )

theorem sendOnce_keeps {m : Nat} {src : Source} {seq : Nat} {r : Reply} {s : State} (h : Bounds s) :
    Bounds (sendOnce m src seq r s) := by
  unfold sendOnce
  repeat' (first
    | with_reducible assumption
    | extract_lets +onlyGivenNames x
    | with_reducible apply deliver_keeps
    | with_reducible apply keeps_ite
    )

theorem discardEnvelope_keeps {m : Nat} {s : State} (h : Bounds s) :
    Bounds (discardEnvelope m s) := by
  unfold discardEnvelope
  repeat' (first
    | with_reducible assumption
    | with_reducible apply setMbx_keeps
    )

theorem readMailbox_keeps {m : Nat} {s : State} (h : Bounds s) :
    Bounds (readMailbox m s).2 := by
  unfold readMailbox
  repeat' (first
    | with_reducible assumption
    | extract_lets +onlyGivenNames x
    | with_reducible apply setMbx_keeps
    | (simp only [↓bounds_mk]; refine keeps_of ?_ rfl rfl rfl rfl rfl rfl rfl)
    | split
    )

theorem readAndSend_keeps {m : Nat} {src : Source} {s : State} (h : Bounds s) :
    Bounds (readAndSend m src s) := by
  unfold readAndSend
  repeat' (first
    | with_reducible assumption
    | (extract_lets +onlyGivenNames x; refine keeps_have (P := Bounds x.2) ?_ ?_; rotate_left; clear_value x; intro hx; rotate_left; unfold x; clear x)
    | with_reducible apply deliver_keeps
    | with_reducible apply readMailbox_keeps
    )

theorem takeRequest_keeps {m : Nat} {body : List Byte} {s : State} (h : Bounds s) :
    Bounds (takeRequest m body s) := by
  unfold takeRequest
  repeat' (first
    | with_reducible assumption
    | (extract_lets +onlyGivenNames x; (have _k : Option Reply := x); clear_value x)
    | (extract_lets +onlyGivenNames x; refine keeps_have (P := Bounds x) ?_ ?_; rotate_left; clear_value x; intro hx; rotate_left; unfold x; clear x)
    | extract_lets +onlyGivenNames x
    | with_reducible apply answerNow_keeps
    | with_reducible apply setMbx_keeps
    | with_reducible apply keeps_ite
    | (simp only [↓bounds_mk]; refine keeps_of ?_ rfl rfl rfl rfl rfl rfl rfl)
    | split
    )

theorem requestOn_keeps {m : Nat} {body : List Byte} {s : State} (h : Bounds s) :
    Bounds (requestOn m body s).2 := by
  unfold requestOn
  repeat' (first
    | with_reducible assumption
    | extract_lets +onlyGivenNames x
    | with_reducible apply takeRequest_keeps
    | with_reducible apply keeps_ite2
    )

theorem consumeChallenge_keeps {m : Nat} {r : Request} {s : State} (h : Bounds s) :
    Bounds (consumeChallenge m r s) := by
  unfold consumeChallenge
  repeat' (first
    | with_reducible assumption
    | extract_lets +onlyGivenNames x
    | with_reducible apply setMbx_keeps
    | with_reducible apply keeps_ite
    )

theorem busyRequest_keeps {m : Nat} {src : Source} {r : Request} {s : State} (h : Bounds s) :
    Bounds (busyRequest m src r s) := by
  unfold busyRequest
  repeat' (first
    | with_reducible assumption
    | (extract_lets +onlyGivenNames x; refine keeps_have (P := Bounds x) ?_ ?_; rotate_left; clear_value x; intro hx; rotate_left; unfold x; clear x)
    | extract_lets +onlyGivenNames x
    | with_reducible apply consumeChallenge_keeps
    | with_reducible apply sendOnce_keeps
    | with_reducible apply keeps_ite
    | (simp only [↓bounds_mk]; refine keeps_of ?_ rfl rfl rfl rfl rfl rfl rfl)
    )

theorem foreignRequest_keeps {m : Nat} {src : Source} {body : List Byte} {s : State} (h : Bounds s) :
    Bounds (foreignRequest m src body s) := by
  unfold foreignRequest
  repeat' (first
    | with_reducible assumption
    | (extract_lets +onlyGivenNames x; refine keeps_have (P := Bounds x) ?_ ?_; rotate_left; clear_value x; intro hx; rotate_left; unfold x; clear x)
    | extract_lets +onlyGivenNames x
    | with_reducible apply countRefused_keeps
    | with_reducible apply sendOnce_keeps
    | with_reducible apply consumeChallenge_keeps
    | with_reducible apply keeps_ite
    | (simp only [↓bounds_mk]; refine keeps_of ?_ rfl rfl rfl rfl rfl rfl rfl)
    )

theorem handleRequest_keeps {m : Nat} {src : Source} {body : List Byte} {s : State} (h : Bounds s) :
    Bounds (handleRequest m src body s) := by
  unfold handleRequest
  repeat' (first
    | with_reducible assumption
    | (extract_lets +onlyGivenNames x; refine keeps_have (P := Bounds x) ?_ ?_; rotate_left; clear_value x; intro hx; rotate_left; unfold x; clear x)
    | (extract_lets +onlyGivenNames x; refine keeps_have (P := Bounds x.2) ?_ ?_; rotate_left; clear_value x; intro hx; rotate_left; unfold x; clear x)
    | extract_lets +onlyGivenNames x
    | with_reducible apply busyRequest_keeps
    | with_reducible apply requestOn_keeps
    | with_reducible apply readAndSend_keeps
    | with_reducible apply bindTo_keeps
    | with_reducible apply foreignRequest_keeps
    | with_reducible apply keeps_ite
    | (simp only [↓bounds_mk]; refine keeps_of ?_ rfl rfl rfl rfl rfl rfl rfl)
    | split
    )

theorem withEnvelope_keeps {op : Nat} {src : Source} {dst : Nat} {env : List Byte} {f : Nat → List Byte → State → State} {s : State} (hf : ∀ x0 x1 x2, Bounds x2 → Bounds (f x0 x1 x2)) (h : Bounds s) :
    Bounds (withEnvelope op src dst env f s) := by
  unfold withEnvelope
  repeat' (first
    | with_reducible assumption
    | (extract_lets +onlyGivenNames x; refine keeps_have (P := Bounds x) ?_ ?_; rotate_left; clear_value x; intro hx; rotate_left; unfold x; clear x)
    | extract_lets +onlyGivenNames x
    | with_reducible apply discardEnvelope_keeps
    | with_reducible apply keeps_ite
    | apply hf
    | (simp only [↓bounds_mk]; refine keeps_of ?_ rfl rfl rfl rfl rfl rfl rfl)
    )

theorem execRequest_keeps {t : Nat} {src : Source} {dst : Nat} {env : List Byte} {s : State} (h : Bounds s) :
    ∀ u, execRequest t src dst env s = .next u → Bounds u := by
  intro u hu
  unfold execRequest at hu
  refine timed_keeps ?_ hu h
  clear hu h
  intro s h
  repeat' (first
    | with_reducible assumption
    | (intro y)
    | extract_lets +onlyGivenNames x
    | with_reducible apply handleRequest_keeps
    | with_reducible apply withEnvelope_keeps
    )

theorem execRead_keeps {t : Nat} {src : Source} {dst : Nat} {env : List Byte} {s : State} (h : Bounds s) :
    ∀ u, execRead t src dst env s = .next u → Bounds u := by
  intro u hu
  unfold execRead at hu
  refine timed_keeps ?_ hu h
  clear hu h
  intro s h
  repeat' (first
    | with_reducible assumption
    | (intro y)
    | extract_lets +onlyGivenNames x
    | with_reducible apply readAndSend_keeps
    | with_reducible apply countRefused_keeps
    | with_reducible apply sendOnce_keeps
    | with_reducible apply withEnvelope_keeps
    | with_reducible apply keeps_ite
    )

theorem ackMailbox_keeps {m : Nat} {seq : Nat} {s : State} (h : Bounds s) :
    Bounds (ackMailbox m seq s) := by
  unfold ackMailbox
  repeat' (first
    | with_reducible assumption
    | extract_lets +onlyGivenNames x
    | with_reducible apply setMbx_keeps
    | with_reducible apply keeps_ite
    )

theorem execAck_keeps {t : Nat} {src : Source} {dst : Nat} {env : List Byte} {s : State} (h : Bounds s) :
    ∀ u, execAck t src dst env s = .next u → Bounds u := by
  intro u hu
  unfold execAck at hu
  refine timed_keeps ?_ hu h
  clear hu h
  intro s h
  repeat' (first
    | with_reducible assumption
    | (intro y)
    | extract_lets +onlyGivenNames x
    | with_reducible apply ackMailbox_keeps
    | with_reducible apply withEnvelope_keeps
    | with_reducible apply keeps_ite
    )

theorem afterResponse_keeps {m : Nat} {r : Request} {s : State} (h : Bounds s) :
    Bounds (afterResponse m r s) := by
  unfold afterResponse
  repeat' (first
    | with_reducible assumption
    | (extract_lets +onlyGivenNames x; refine keeps_have (P := Bounds x) ?_ ?_; rotate_left; clear_value x; intro hx; rotate_left; unfold x; clear x)
    | extract_lets +onlyGivenNames x
    | with_reducible apply changeNode_keeps
    | with_reducible apply endBinding_keeps
    | with_reducible apply keeps_ite
    | (simp only [↓bounds_mk]; refine keeps_of ?_ rfl rfl rfl rfl rfl rfl rfl)
    | split
    )

theorem execCommandDone_keeps {t : Nat} {m : Nat} {s : State} (h : Bounds s) :
    ∀ u, execCommandDone t m s = .next u → Bounds u := by
  intro u hu
  unfold execCommandDone at hu
  refine timed_keeps ?_ hu h
  clear hu h
  intro s h
  repeat' (first
    | with_reducible assumption
    | extract_lets +onlyGivenNames x
    | with_reducible apply record_keeps
    | with_reducible apply formResponse_keeps
    | with_reducible apply afterResponse_keeps
    | with_reducible apply keeps_ite
    | split
    )

theorem execMbxIdleRelease_keeps {t : Nat} {m : Nat} {s : State} (h : Bounds s) :
    ∀ u, execMbxIdleRelease t m s = .next u → Bounds u := by
  intro u hu
  unfold execMbxIdleRelease at hu
  refine timed_keeps ?_ hu h
  clear hu h
  intro s h
  repeat' (first
    | with_reducible assumption
    | extract_lets +onlyGivenNames x
    | with_reducible apply endBinding_keeps
    | with_reducible apply keeps_ite
    )

theorem execStageTimeout_keeps {t : Nat} {f : Nat} {s : State} (h : Bounds s) :
    ∀ u, execStageTimeout t f s = .next u → Bounds u := by
  intro u hu
  unfold execStageTimeout at hu
  refine timed_keeps ?_ hu h
  clear hu h
  intro s h
  repeat' (first
    | with_reducible assumption
    | extract_lets +onlyGivenNames x
    | with_reducible apply setFn_keeps
    | with_reducible apply keeps_ite
    )

theorem execSpireRestart_keeps {t : Nat} {s : State} (h : Bounds s) :
    ∀ u, execSpireRestart t s = .next u → Bounds u := by
  intro u hu
  unfold execSpireRestart at hu
  refine timed_keeps ?_ hu h
  clear hu h
  intro s h
  repeat' (first
    | with_reducible assumption
    | (intro y)
    | (extract_lets +onlyGivenNames x; refine keeps_have (P := Bounds x) ?_ ?_; rotate_left; clear_value x; intro hx; rotate_left; unfold x; clear x)
    | extract_lets +onlyGivenNames x
    | with_reducible apply formResponse_keeps
    | with_reducible apply eachDo_keeps
    | with_reducible apply flushCrossings_keeps
    | with_reducible apply record_keeps
    | with_reducible apply keeps_ite
    | (simp only [↓bounds_mk]; refine keeps_of ?_ rfl rfl rfl rfl rfl rfl rfl)
    )

theorem serveCommon_keeps {m : Nat} {op : Nat} {a2 : Nat → Request → State → Answer × State} {s : State} (ha2 : ∀ x0 x1 x2, Bounds x2 → Bounds (a2 x0 x1 x2).2) (h : Bounds s) :
    Bounds (serveCommon m op a2 s) := by
  unfold serveCommon
  repeat' (first
    | with_reducible assumption
    | (intro y)
    | extract_lets +onlyGivenNames x
    | with_reducible apply serve_keeps
    | with_reducible apply keeps_ite
    | apply ha2
    | split
    )

theorem execGetStatus_keeps {t : Nat} {m : Nat} {s : State} (h : Bounds s) :
    ∀ u, execGetStatus t m s = .next u → Bounds u := by
  intro u hu
  unfold execGetStatus at hu
  refine timed_keeps ?_ hu h
  clear hu h
  intro s h
  repeat' (first
    | with_reducible assumption
    | (intro y)
    | extract_lets +onlyGivenNames x
    | with_reducible apply statusHandler_keeps
    | with_reducible apply serveCommon_keeps
    )

theorem stageHandler_keeps {m : Nat} {f : Nat} {r : Request} {s : State} (h : Bounds s) :
    Bounds (stageHandler m f r s).2 := by
  unfold stageHandler
  repeat' (first
    | with_reducible assumption
    | extract_lets +onlyGivenNames x
    | with_reducible apply setFn_keeps
    | with_reducible apply answerWith_keeps
    | with_reducible apply refuse_keeps
    | with_reducible apply keeps_ite2
    | split
    )

theorem execStage_keeps {t : Nat} {m : Nat} {s : State} (h : Bounds s) :
    ∀ u, execStage t m s = .next u → Bounds u := by
  intro u hu
  unfold execStage at hu
  refine timed_keeps ?_ hu h
  clear hu h
  intro s h
  repeat' (first
    | with_reducible assumption
    | (intro y)
    | extract_lets +onlyGivenNames x
    | with_reducible apply stageHandler_keeps
    | with_reducible apply serveCommon_keeps
    )

theorem readParamHandler_keeps {f : Nat} {r : Request} {s : State} (h : Bounds s) :
    Bounds (readParamHandler f r s).2 := by
  unfold readParamHandler
  repeat' (first
    | with_reducible assumption
    | extract_lets +onlyGivenNames x
    | with_reducible apply okWith_keeps
    | with_reducible apply refuse_keeps
    | with_reducible apply keeps_ite2
    )

theorem execReadParam_keeps {t : Nat} {m : Nat} {s : State} (h : Bounds s) :
    ∀ u, execReadParam t m s = .next u → Bounds u := by
  intro u hu
  unfold execReadParam at hu
  refine timed_keeps ?_ hu h
  clear hu h
  intro s h
  repeat' (first
    | with_reducible assumption
    | (intro y)
    | extract_lets +onlyGivenNames x
    | with_reducible apply readParamHandler_keeps
    | with_reducible apply serveCommon_keeps
    )

theorem discardHandler_keeps {m : Nat} {f : Nat} {a2 : Request} {a3 : State} (h : Bounds a3) :
    Bounds (discardHandler m f a2 a3).2 := by
  unfold discardHandler
  repeat' (first
    | with_reducible assumption
    | (intro y)
    | extract_lets +onlyGivenNames x
    | with_reducible apply setFn_keeps
    | with_reducible apply ok_keeps
    | with_reducible apply refuse_keeps
    | with_reducible apply withLength_keeps
    | split
    )

theorem execDiscardStaged_keeps {t : Nat} {m : Nat} {s : State} (h : Bounds s) :
    ∀ u, execDiscardStaged t m s = .next u → Bounds u := by
  intro u hu
  unfold execDiscardStaged at hu
  refine timed_keeps ?_ hu h
  clear hu h
  intro s h
  repeat' (first
    | with_reducible assumption
    | (intro y)
    | extract_lets +onlyGivenNames x
    | with_reducible apply discardHandler_keeps
    | with_reducible apply serveCommon_keeps
    )

theorem execIdentify_keeps {t : Nat} {m : Nat} {s : State} (h : Bounds s) :
    ∀ u, execIdentify t m s = .next u → Bounds u := by
  intro u hu
  unfold execIdentify at hu
  refine timed_keeps ?_ hu h
  clear hu h
  intro s h
  repeat' (first
    | with_reducible assumption
    | (intro y)
    | extract_lets +onlyGivenNames x
    | with_reducible apply statusHandler_keeps
    | with_reducible apply serve_keeps
    )

theorem execGetChallenge_keeps {t : Nat} {m : Nat} {s : State} (h : Bounds s) :
    ∀ u, execGetChallenge t m s = .next u → Bounds u := by
  intro u hu
  unfold execGetChallenge at hu
  refine timed_keeps ?_ hu h
  clear hu h
  intro s h
  repeat' (first
    | with_reducible assumption
    | (intro y)
    | extract_lets +onlyGivenNames x
    | with_reducible apply setMbx_keeps
    | with_reducible apply answerWith_keeps
    | with_reducible apply refuse_keeps
    | with_reducible apply withLength_keeps
    | with_reducible apply serve_keeps
    | with_reducible apply keeps_ite2
    | (simp only [↓bounds_mk]; refine keeps_of ?_ rfl rfl rfl rfl rfl rfl rfl)
    )

theorem execMbxStatus_keeps {t : Nat} {m : Nat} {s : State} (h : Bounds s) :
    ∀ u, execMbxStatus t m s = .next u → Bounds u := by
  intro u hu
  unfold execMbxStatus at hu
  refine timed_keeps ?_ hu h
  clear hu h
  intro s h
  repeat' (first
    | with_reducible assumption
    | (intro y)
    | extract_lets +onlyGivenNames x
    | with_reducible apply statusHandler_keeps
    | with_reducible apply serve_keeps
    )

theorem execMbxRelease_keeps {t : Nat} {m : Nat} {s : State} (h : Bounds s) :
    ∀ u, execMbxRelease t m s = .next u → Bounds u := by
  intro u hu
  unfold execMbxRelease at hu
  refine timed_keeps ?_ hu h
  clear hu h
  intro s h
  repeat' (first
    | with_reducible assumption
    | (intro y)
    | extract_lets +onlyGivenNames x
    | with_reducible apply endBinding_keeps
    | with_reducible apply ok_keeps
    | with_reducible apply refuse_keeps
    | with_reducible apply withLength_keeps
    | with_reducible apply serve_keeps
    | with_reducible apply keeps_ite
    | with_reducible apply keeps_ite2
    )

theorem storeKey_keeps {role : Nat} {k : Option (List Byte)} {s : State} (h : Bounds s) :
    Bounds (storeKey role k s) := by
  unfold storeKey
  repeat' (first
    | with_reducible assumption
    | extract_lets +onlyGivenNames x
    | with_reducible apply keeps_ite
    | (simp only [↓bounds_mk]; refine keeps_of ?_ rfl rfl rfl rfl rfl rfl rfl)
    )

theorem keySetHandler_keeps {r : Request} {s : State} (h : Bounds s) :
    Bounds (keySetHandler r s).2 := by
  unfold keySetHandler
  repeat' (first
    | with_reducible assumption
    | extract_lets +onlyGivenNames x
    | with_reducible apply storeKey_keeps
    | with_reducible apply record_keeps
    | with_reducible apply ok_keeps
    | with_reducible apply refuse_keeps
    | with_reducible apply keeps_ite2
    )

theorem execKeySet_keeps {t : Nat} {m : Nat} {s : State} (h : Bounds s) :
    ∀ u, execKeySet t m s = .next u → Bounds u := by
  intro u hu
  unfold execKeySet at hu
  refine timed_keeps ?_ hu h
  clear hu h
  intro s h
  repeat' (first
    | with_reducible assumption
    | (intro y)
    | extract_lets +onlyGivenNames x
    | with_reducible apply keySetHandler_keeps
    | with_reducible apply serve_keeps
    )

theorem execOwnerLock_keeps {t : Nat} {m : Nat} {s : State} (h : Bounds s) :
    ∀ u, execOwnerLock t m s = .next u → Bounds u := by
  intro u hu
  unfold execOwnerLock at hu
  refine timed_keeps ?_ hu h
  clear hu h
  intro s h
  repeat' (first
    | with_reducible assumption
    | (intro y)
    | extract_lets +onlyGivenNames x
    | with_reducible apply ok_keeps
    | with_reducible apply refuse_keeps
    | with_reducible apply withLength_keeps
    | with_reducible apply serve_keeps
    | with_reducible apply keeps_ite2
    | (simp only [↓bounds_mk]; refine keeps_of ?_ rfl rfl rfl rfl rfl rfl rfl)
    )

theorem setImg_keeps {id : Nat} {g : ImgSlot → ImgSlot} {s : State} (h : Bounds s) :
    Bounds (setImg id g s) := by
  unfold setImg
  repeat' (first
    | with_reducible assumption
    | extract_lets +onlyGivenNames x
    | (simp only [↓bounds_mk]; refine keeps_of ?_ rfl rfl rfl rfl rfl rfl rfl)
    )

theorem endInstall_keeps {r : Reply} {s : State} (h : Bounds s) :
    Bounds (endInstall r s) := by
  unfold endInstall
  repeat' (first
    | with_reducible assumption
    | extract_lets +onlyGivenNames x
    | with_reducible apply finishJob_keeps
    | (simp only [↓bounds_mk]; refine keeps_of ?_ rfl rfl rfl rfl rfl rfl rfl)
    | split
    )

theorem setJob_keeps {g : Install → Install} {s : State} (h : Bounds s) :
    Bounds (setJob g s) := by
  unfold setJob
  repeat' (first
    | with_reducible assumption
    | extract_lets +onlyGivenNames x
    | (simp only [↓bounds_mk]; refine keeps_of ?_ rfl rfl rfl rfl rfl rfl rfl)
    )

theorem pauseJob_keeps {cause : Nat} {s : State} (h : Bounds s) :
    Bounds (pauseJob cause s) := by
  unfold pauseJob
  repeat' (first
    | with_reducible assumption
    | with_reducible apply setJob_keeps
    )

theorem stepEnded_keeps {s : State} (h : Bounds s) :
    Bounds (stepEnded s) := by
  unfold stepEnded
  repeat' (first
    | with_reducible assumption
    | extract_lets +onlyGivenNames x
    | with_reducible apply setFn_keeps
    | with_reducible apply finishJob_keeps
    | with_reducible apply pauseJob_keeps
    | with_reducible apply keeps_ite
    )

theorem installed_keeps {id : Nat} {s : State} (h : Bounds s) :
    Bounds (installed id s) := by
  unfold installed
  repeat' (first
    | with_reducible assumption
    | extract_lets +onlyGivenNames x
    | with_reducible apply setImg_keeps
    | with_reducible apply record_keeps
    )

theorem execFwOpen_keeps {t : Nat} {q : TapReq} {s : State} (h : Bounds s) :
    ∀ u, execFwOpen t q s = .next u → Bounds u := by
  intro u hu
  unfold execFwOpen at hu
  refine timed_keeps ?_ hu h
  clear hu h
  intro s h
  repeat' (first
    | with_reducible assumption
    | (intro y)
    | extract_lets +onlyGivenNames x
    | with_reducible apply setTap_keeps
    | with_reducible apply atTap_keeps
    | with_reducible apply withPayload_keeps
    | with_reducible apply tapAfter_ite
    | with_reducible apply tapAfter_reply
    | with_reducible apply tapAfter_reject
    )

theorem execFwBlock_keeps {t : Nat} {q : TapReq} {s : State} (h : Bounds s) :
    ∀ u, execFwBlock t q s = .next u → Bounds u := by
  intro u hu
  unfold execFwBlock at hu
  refine timed_keeps ?_ hu h
  clear hu h
  intro s h
  repeat' (first
    | with_reducible assumption
    | (intro y)
    | extract_lets +onlyGivenNames x
    | with_reducible apply setTap_keeps
    | with_reducible apply atTap_keeps
    | with_reducible apply withPayload_keeps
    | with_reducible apply tapAfter_ite
    | with_reducible apply tapAfter_silent
    | with_reducible apply tapAfter_reject
    | (simp only [↓bounds_mk]; refine keeps_of ?_ rfl rfl rfl rfl rfl rfl rfl)
    | split
    )

theorem tookCheck_keeps {i : Nat} {s : State} (h : Bounds s) :
    Bounds (tookCheck i s) := by
  unfold tookCheck
  repeat' (first
    | with_reducible assumption
    | extract_lets +onlyGivenNames x
    | with_reducible apply setJob_keeps
    | with_reducible apply record_keeps
    | with_reducible apply endInstall_keeps
    | with_reducible apply keeps_ite
    | (simp only [↓bounds_mk]; refine keeps_of ?_ rfl rfl rfl rfl rfl rfl rfl)
    | split
    )

theorem execFwCheck_keeps {t : Nat} {q : TapReq} {s : State} (h : Bounds s) :
    ∀ u, execFwCheck t q s = .next u → Bounds u := by
  intro u hu
  unfold execFwCheck at hu
  refine timed_keeps ?_ hu h
  clear hu h
  intro s h
  repeat' (first
    | with_reducible assumption
    | (intro y)
    | (extract_lets +onlyGivenNames x; refine keeps_have (P := Bounds x) ?_ ?_; rotate_left; clear_value x; intro hx; rotate_left; unfold x; clear x)
    | extract_lets +onlyGivenNames x
    | with_reducible apply tookCheck_keeps
    | with_reducible apply setTap_keeps
    | with_reducible apply atTap_keeps
    | with_reducible apply withPayload_keeps
    | with_reducible apply tapAfter_reply
    )

theorem execFwSwap_keeps {t : Nat} {q : TapReq} {ver : Nat} {leads : List Nat} {testFail : Bool} {calFail : Bool} {s : State} (h : Bounds s) :
    ∀ u, execFwSwap t q ver leads testFail calFail s = .next u → Bounds u := by
  intro u hu
  unfold execFwSwap at hu
  refine timed_keeps ?_ hu h
  clear hu h
  intro s h
  repeat' (first
    | with_reducible assumption
    | (intro y)
    | extract_lets +onlyGivenNames x
    | with_reducible apply setTap_keeps
    | with_reducible apply atTap_keeps
    | with_reducible apply withPayload_keeps
    | with_reducible apply tapAfter_silent
    )

theorem tookIdentity_keeps {i : Nat} {s : State} (h : Bounds s) :
    Bounds (tookIdentity i s) := by
  unfold tookIdentity
  repeat' (first
    | with_reducible assumption
    | (extract_lets +onlyGivenNames x; refine keeps_have (P := Bounds x) ?_ ?_; rotate_left; clear_value x; intro hx; rotate_left; unfold x; clear x)
    | extract_lets +onlyGivenNames x
    | with_reducible apply setJob_keeps
    | with_reducible apply setPos_keeps
    | with_reducible apply keeps_ite
    | split
    )

theorem execTapIdentify_keeps {t : Nat} {q : TapReq} {s : State} (h : Bounds s) :
    ∀ u, execTapIdentify t q s = .next u → Bounds u := by
  intro u hu
  unfold execTapIdentify at hu
  refine timed_keeps ?_ hu h
  clear hu h
  intro s h
  repeat' (first
    | with_reducible assumption
    | (intro y)
    | extract_lets +onlyGivenNames x
    | with_reducible apply tookIdentity_keeps
    | with_reducible apply atTap_keeps
    | with_reducible apply withPayload_keeps
    | with_reducible apply tapAfter_reply
    )

theorem transferFrame_keeps {r : Nat} {j : Install} {s : State} (h : Bounds s) :
    Bounds (transferFrame r j s) := by
  unfold transferFrame
  repeat' (first
    | with_reducible assumption
    | (intro y)
    | (extract_lets +onlyGivenNames x; refine keeps_have (P := Bounds x) ?_ ?_; rotate_left; clear_value x; intro hx; rotate_left; unfold x; clear x)
    | extract_lets +onlyGivenNames x
    | with_reducible apply sendAll_keeps
    | with_reducible apply sendTap_keeps
    | with_reducible apply eachDo_keeps
    | with_reducible apply setJob_keeps
    | with_reducible apply keeps_ite
    )

theorem checkFrame_keeps {r : Nat} {j : Install} {s : State} (h : Bounds s) :
    Bounds (checkFrame r j s) := by
  unfold checkFrame
  repeat' (first
    | with_reducible assumption
    | (extract_lets +onlyGivenNames x; refine keeps_have (P := Bounds x) ?_ ?_; rotate_left; clear_value x; intro hx; rotate_left; unfold x; clear x)
    | extract_lets +onlyGivenNames x
    | with_reducible apply setJob_keeps
    | with_reducible apply sendTap_keeps
    | with_reducible apply keeps_ite
    | (simp only [↓bounds_mk]; refine keeps_of ?_ rfl rfl rfl rfl rfl rfl rfl)
    | split
    )

theorem swapFrame_keeps {r : Nat} {j : Install} {s : State} (h : Bounds s) :
    Bounds (swapFrame r j s) := by
  unfold swapFrame
  repeat' (first
    | with_reducible assumption
    | extract_lets +onlyGivenNames x
    | with_reducible apply sendTap_keeps
    | with_reducible apply pauseJob_keeps
    | with_reducible apply setJob_keeps
    | with_reducible apply installed_keeps
    | with_reducible apply endInstall_keeps
    | with_reducible apply keeps_ite
    | (simp only [↓bounds_mk]; refine keeps_of ?_ rfl rfl rfl rfl rfl rfl rfl)
    | split
    )

theorem settleFrame_keeps {r : Nat} {j : Install} {s : State} (h : Bounds s) :
    Bounds (settleFrame r j s) := by
  unfold settleFrame
  repeat' (first
    | with_reducible assumption
    | extract_lets +onlyGivenNames x
    | with_reducible apply stepEnded_keeps
    | with_reducible apply setJob_keeps
    | with_reducible apply sendTap_keeps
    | with_reducible apply keeps_ite
    | (simp only [↓bounds_mk]; refine keeps_of ?_ rfl rfl rfl rfl rfl rfl rfl)
    | split
    )

theorem fwFrames_keeps {r : Nat} {s : State} (h : Bounds s) :
    Bounds (fwFrames r s) := by
  unfold fwFrames
  repeat' (first
    | with_reducible assumption
    | extract_lets +onlyGivenNames x
    | with_reducible apply settleFrame_keeps
    | with_reducible apply swapFrame_keeps
    | with_reducible apply checkFrame_keeps
    | with_reducible apply transferFrame_keeps
    | with_reducible apply setJob_keeps
    | with_reducible apply pauseJob_keeps
    | with_reducible apply keeps_ite
    | split
    )

theorem execTapSwapTimeout_keeps {t : Nat} {ver : Option Nat} {s : State} (h : Bounds s) :
    ∀ u, execTapSwapTimeout t ver s = .next u → Bounds u := by
  intro u hu
  unfold execTapSwapTimeout at hu
  refine timed_keeps ?_ hu h
  clear hu h
  intro s h
  repeat' (first
    | with_reducible assumption
    | extract_lets +onlyGivenNames x
    | with_reducible apply record_keeps
    | with_reducible apply sendTap_keeps
    | with_reducible apply endInstall_keeps
    | with_reducible apply stepEnded_keeps
    | with_reducible apply keeps_ite
    | (simp only [↓bounds_mk]; refine keeps_of ?_ rfl rfl rfl rfl rfl rfl rfl)
    | split
    )

theorem setLoop_keeps {k : Nat} {g : LoopRec → LoopRec} {s : State} (h : Bounds s) :
    Bounds (setLoop k g s) := by
  unfold setLoop
  repeat' (first
    | with_reducible assumption
    | extract_lets +onlyGivenNames x
    | (simp only [↓bounds_mk]; refine keeps_of ?_ rfl rfl rfl rfl rfl rfl rfl)
    )

theorem countStore_keeps {k : Nat} {results : List Int} {s : State} (h : Bounds s) :
    Bounds (countStore k results s) := by
  unfold countStore
  repeat' (first
    | with_reducible assumption
    | with_reducible apply setLoop_keeps
    )

theorem storeResult_keeps {k : Nat} {a : Int} {s : State} (h : Bounds s) :
    Bounds (storeResult k a s).1 := by
  unfold storeResult
  repeat' (first
    | with_reducible assumption
    | with_reducible apply countStore_keeps
    )

theorem runLoop_keeps {k : Nat} {gain : Nat} {kits : Int} {e : Int} {chg : Bool} {s : State} (h : Bounds s) :
    Bounds (runLoop k gain kits e chg s).1 := by
  unfold runLoop
  repeat' (first
    | with_reducible assumption
    | (extract_lets +onlyGivenNames x; refine keeps_have (P := Bounds x) ?_ ?_; rotate_left; clear_value x; intro hx; rotate_left; unfold x; clear x)
    | extract_lets +onlyGivenNames x
    | with_reducible apply setLoop_keeps
    | with_reducible apply countStore_keeps
    )

theorem cellLoops_keeps {s : State} (h : Bounds s) :
    Bounds (cellLoops s) := by
  unfold cellLoops
  repeat' (first
    | with_reducible assumption
    | extract_lets +onlyGivenNames x
    | with_reducible apply runLoop_keeps
    | (simp only [↓bounds_mk]; refine keeps_of ?_ rfl rfl rfl rfl rfl rfl rfl)
    | split
    )

theorem derating_keeps {s : State} (h : Bounds s) :
    Bounds (derating s) := by
  unfold derating
  repeat' (first
    | with_reducible assumption
    | extract_lets +onlyGivenNames x
    | with_reducible apply record_keeps
    | with_reducible apply storeResult_keeps
    | with_reducible apply keeps_ite
    | (simp only [↓bounds_mk]; refine keeps_of ?_ rfl rfl rfl rfl rfl rfl rfl)
    )

theorem noteFallback_keeps {c : Nat} {s : State} (h : Bounds s) :
    Bounds (noteFallback c s) := by
  unfold noteFallback
  repeat' (first
    | with_reducible assumption
    | (extract_lets +onlyGivenNames x; refine keeps_have (P := Bounds x) ?_ ?_; rotate_left; clear_value x; intro hx; rotate_left; unfold x; clear x)
    | extract_lets +onlyGivenNames x
    | with_reducible apply record_keeps
    | with_reducible apply setCtx_keeps
    | with_reducible apply keeps_ite
    )

theorem plating_keeps {s : State} (h : Bounds s) :
    Bounds (plating s) := by
  unfold plating
  repeat' (first
    | with_reducible assumption
    | (intro y)
    | extract_lets +onlyGivenNames x
    | with_reducible apply noteFallback_keeps
    | with_reducible apply eachDo_keeps
    | (simp only [↓bounds_mk]; refine keeps_of ?_ rfl rfl rfl rfl rfl rfl rfl)
    )

theorem keepC_keeps {s : State} (h : Bounds s) :
    Bounds (keepC s) := by
  unfold keepC
  repeat' (first
    | with_reducible assumption
    | extract_lets +onlyGivenNames x
    | (simp only [↓bounds_mk]; refine keeps_of ?_ rfl rfl rfl rfl rfl rfl rfl)
    )

theorem execRoleCSweep_keeps {t : Nat} {s : State} (h : Bounds s) :
    ∀ u, execRoleCSweep t s = .next u → Bounds u := by
  intro u hu
  unfold execRoleCSweep at hu
  refine timed_keeps ?_ hu h
  clear hu h
  intro s h
  repeat' (first
    | with_reducible assumption
    | extract_lets +onlyGivenNames x
    | with_reducible apply keepC_keeps
    | with_reducible apply cellLoops_keeps
    | with_reducible apply derating_keeps
    | with_reducible apply plating_keeps
    | with_reducible apply keeps_ite
    )

theorem takeTarget_keeps {p : SetPoint} {s : State} (h : Bounds s) :
    Bounds (takeTarget p s) := by
  unfold takeTarget
  repeat' (first
    | with_reducible assumption
    | extract_lets +onlyGivenNames x
    | with_reducible apply keeps_ite
    | (simp only [↓bounds_mk]; refine keeps_of ?_ rfl rfl rfl rfl rfl rfl rfl)
    )

theorem convertTarget_keeps {s : State} (h : Bounds s) :
    Bounds (convertTarget s) := by
  unfold convertTarget
  repeat' (first
    | with_reducible assumption
    | extract_lets +onlyGivenNames x
    | with_reducible apply record_keeps
    | with_reducible apply storeResult_keeps
    | with_reducible apply keeps_ite
    | (simp only [↓bounds_mk]; refine keeps_of ?_ rfl rfl rfl rfl rfl rfl rfl)
    )

theorem rampStep_keeps {s : State} (h : Bounds s) :
    Bounds (rampStep s) := by
  unfold rampStep
  repeat' (first
    | with_reducible assumption
    | extract_lets +onlyGivenNames x
    | (simp only [↓bounds_mk]; refine keeps_of ?_ rfl rfl rfl rfl rfl rfl rfl)
    )

theorem linkRegulation_keeps {s : State} (h : Bounds s) :
    Bounds (linkRegulation s) := by
  unfold linkRegulation
  repeat' (first
    | with_reducible assumption
    | extract_lets +onlyGivenNames x
    | with_reducible apply countStore_keeps
    | with_reducible apply setLoop_keeps
    | with_reducible apply keeps_ite
    | (simp only [↓bounds_mk]; refine keeps_of ?_ rfl rfl rfl rfl rfl rfl rfl)
    | split
    )

theorem currentCorrection_keeps {s : State} (h : Bounds s) :
    Bounds (currentCorrection s) := by
  unfold currentCorrection
  repeat' (first
    | with_reducible assumption
    | extract_lets +onlyGivenNames x
    | with_reducible apply countStore_keeps
    | with_reducible apply setLoop_keeps
    | (simp only [↓bounds_mk]; refine keeps_of ?_ rfl rfl rfl rfl rfl rfl rfl)
    | split
    )

theorem linkLimits_keeps {s : State} (h : Bounds s) :
    Bounds (linkLimits s) := by
  unfold linkLimits
  repeat' (first
    | with_reducible assumption
    | extract_lets +onlyGivenNames x
    | with_reducible apply runLoop_keeps
    | (simp only [↓bounds_mk]; refine keeps_of ?_ rfl rfl rfl rfl rfl rfl rfl)
    | split
    )

theorem thermalModel_keeps {s : State} (h : Bounds s) :
    Bounds (thermalModel s) := by
  unfold thermalModel
  repeat' (first
    | with_reducible assumption
    | extract_lets +onlyGivenNames x
    | with_reducible apply countStore_keeps
    | with_reducible apply storeResult_keeps
    | (simp only [↓bounds_mk]; refine keeps_of ?_ rfl rfl rfl rfl rfl rfl rfl)
    | split
    )

theorem slewMargin_keeps {s : State} (h : Bounds s) :
    Bounds (slewMargin s) := by
  unfold slewMargin
  repeat' (first
    | with_reducible assumption
    | (extract_lets +onlyGivenNames x; refine keeps_have (P := Bounds x) ?_ ?_; rotate_left; clear_value x; intro hx; rotate_left; unfold x; clear x)
    | extract_lets +onlyGivenNames x
    | with_reducible apply record_keeps
    | with_reducible apply keeps_ite
    | (simp only [↓bounds_mk]; refine keeps_of ?_ rfl rfl rfl rfl rfl rfl rfl)
    )

theorem keepS_keeps {s : State} (h : Bounds s) :
    Bounds (keepS s) := by
  unfold keepS
  repeat' (first
    | with_reducible assumption
    | extract_lets +onlyGivenNames x
    | (simp only [↓bounds_mk]; refine keeps_of ?_ rfl rfl rfl rfl rfl rfl rfl)
    )

theorem execStringLoopCycle_keeps {t : Nat} {vStr : Option Int} {vLnk : Option Int} {s : State} (h : Bounds s) :
    ∀ u, execStringLoopCycle t vStr vLnk s = .next u → Bounds u := by
  intro u hu
  unfold execStringLoopCycle at hu
  refine timed_keeps ?_ hu h
  clear hu h
  intro s h
  repeat' (first
    | with_reducible assumption
    | (intro y)
    | (extract_lets +onlyGivenNames x; refine keeps_have (P := Bounds x) ?_ ?_; rotate_left; clear_value x; intro hx; rotate_left; unfold x; clear x)
    | extract_lets +onlyGivenNames x
    | with_reducible apply linkLimits_keeps
    | with_reducible apply thermalModel_keeps
    | with_reducible apply slewMargin_keeps
    | with_reducible apply currentCorrection_keeps
    | with_reducible apply linkRegulation_keeps
    | with_reducible apply rampStep_keeps
    | with_reducible apply convertTarget_keeps
    | with_reducible apply takeTarget_keeps
    | with_reducible apply eachDo_keeps
    | with_reducible apply keepS_keeps
    | with_reducible apply keeps_ite
    | (simp only [↓bounds_mk]; refine keeps_of ?_ rfl rfl rfl rfl rfl rfl rfl)
    )

theorem noteWinner_keeps {code : Nat} {limited : Bool} {s : State} (h : Bounds s) :
    Bounds (noteWinner code limited s) := by
  unfold noteWinner
  repeat' (first
    | with_reducible assumption
    | extract_lets +onlyGivenNames x
    | (simp only [↓bounds_mk]; refine keeps_of ?_ rfl rfl rfl rfl rfl rfl rfl)
    )

theorem softStartCycle_keeps {sel : Int} {limit : Int} {s : State} (h : Bounds s) :
    Bounds (softStartCycle sel limit s) := by
  unfold softStartCycle
  repeat' (first
    | with_reducible assumption
    | extract_lets +onlyGivenNames x
    | with_reducible apply softStartFail_keeps
    | with_reducible apply keeps_ite
    | (simp only [↓bounds_mk]; refine keeps_of ?_ rfl rfl rfl rfl rfl rfl rfl)
    )

theorem switchingCycle_keeps {s : State} (h : Bounds s) :
    Bounds (switchingCycle s) := by
  unfold switchingCycle
  repeat' (first
    | with_reducible assumption
    | (extract_lets +onlyGivenNames x; refine keeps_have (P := Bounds x) ?_ ?_; rotate_left; clear_value x; intro hx; rotate_left; unfold x; clear x)
    | extract_lets +onlyGivenNames x
    | with_reducible apply softStartCycle_keeps
    | with_reducible apply shedDecision_keeps
    | with_reducible apply burstCycle_keeps
    | with_reducible apply impAbort_keeps
    | with_reducible apply noteWinner_keeps
    | with_reducible apply keeps_ite
    | (simp only [↓bounds_mk]; refine keeps_of ?_ rfl rfl rfl rfl rfl rfl rfl)
    | split
    )

theorem idleCycle_keeps {s : State} (h : Bounds s) :
    Bounds (idleCycle s) := by
  unfold idleCycle
  repeat' (first
    | with_reducible assumption
    | (extract_lets +onlyGivenNames x; refine keeps_have (P := Bounds x) ?_ ?_; rotate_left; clear_value x; intro hx; rotate_left; unfold x; clear x)
    | extract_lets +onlyGivenNames x
    | with_reducible apply noteWinner_keeps
    | (simp only [↓bounds_mk]; refine keeps_of ?_ rfl rfl rfl rfl rfl rfl rfl)
    )

theorem countCharge_keeps {s : State} (h : Bounds s) :
    Bounds (countCharge s) := by
  unfold countCharge
  repeat' (first
    | with_reducible assumption
    | extract_lets +onlyGivenNames x
    | (simp only [↓bounds_mk]; refine keeps_of ?_ rfl rfl rfl rfl rfl rfl rfl)
    )

theorem safetyCurrent_keeps {o : CycleObs} {s : State} (h : Bounds s) :
    Bounds (safetyCurrent o s) := by
  unfold safetyCurrent
  repeat' (first
    | with_reducible assumption
    | extract_lets +onlyGivenNames x
    | (simp only [↓bounds_mk]; refine keeps_of ?_ rfl rfl rfl rfl rfl rfl rfl)
    )

theorem takeSamples_keeps {o : CycleObs} {s : State} (h : Bounds s) :
    Bounds (takeSamples o s) := by
  unfold takeSamples
  repeat' (first
    | with_reducible assumption
    | (extract_lets +onlyGivenNames x; refine keeps_have (P := Bounds x) ?_ ?_; rotate_left; clear_value x; intro hx; rotate_left; unfold x; clear x)
    | extract_lets +onlyGivenNames x
    | with_reducible apply countCharge_keeps
    | with_reducible apply safetyCurrent_keeps
    | (simp only [↓bounds_mk]; refine keeps_of ?_ rfl rfl rfl rfl rfl rfl rfl)
    )

theorem keepP_keeps {s : State} (h : Bounds s) :
    Bounds (keepP s) := by
  unfold keepP
  repeat' (first
    | with_reducible assumption
    | extract_lets +onlyGivenNames x
    | (simp only [↓bounds_mk]; refine keeps_of ?_ rfl rfl rfl rfl rfl rfl rfl)
    )

theorem followCycle_keeps {s : State} (h : Bounds s) :
    Bounds (followCycle s) := by
  unfold followCycle
  repeat' (first
    | with_reducible assumption
    | extract_lets +onlyGivenNames x
    | with_reducible apply keeps_ite
    | (simp only [↓bounds_mk]; refine keeps_of ?_ rfl rfl rfl rfl rfl rfl rfl)
    | split
    )

theorem execPhaseCurrentCycle_keeps {t : Nat} {shunt : Option Int} {hall : Option Int} {lanes : List (List Byte)} {vStr : Option Int} {vLnk : Option Int} {s : State} (h : Bounds s) :
    ∀ u, execPhaseCurrentCycle t shunt hall lanes vStr vLnk s = .next u → Bounds u := by
  intro u hu
  unfold execPhaseCurrentCycle at hu
  refine timed_keeps ?_ hu h
  clear hu h
  intro s h
  repeat' (first
    | with_reducible assumption
    | (extract_lets +onlyGivenNames x; refine keeps_have (P := Bounds x) ?_ ?_; rotate_left; clear_value x; intro hx; rotate_left; unfold x; clear x)
    | extract_lets +onlyGivenNames x
    | with_reducible apply idleCycle_keeps
    | with_reducible apply switchingCycle_keeps
    | with_reducible apply followCycle_keeps
    | with_reducible apply impAbort_keeps
    | with_reducible apply takeSamples_keeps
    | with_reducible apply keepP_keeps
    | with_reducible apply keeps_ite
    | split
    )

theorem judgeCapacity_keeps {s : State} (h : Bounds s) :
    Bounds (judgeCapacity s) := by
  unfold judgeCapacity
  repeat' (first
    | with_reducible assumption
    | (extract_lets +onlyGivenNames x; refine keeps_have (P := Bounds x) ?_ ?_; rotate_left; clear_value x; intro hx; rotate_left; unfold x; clear x)
    | extract_lets +onlyGivenNames x
    | with_reducible apply record_keeps
    | with_reducible apply faultToHold_keeps
    | with_reducible apply keeps_ite
    | (simp only [↓bounds_mk]; refine keeps_of ?_ rfl rfl rfl rfl rfl rfl rfl)
    )

theorem raiseShadowAbsent_keeps {s : State} (h : Bounds s) :
    Bounds (raiseShadowAbsent s) := by
  unfold raiseShadowAbsent
  repeat' (first
    | with_reducible assumption
    | extract_lets +onlyGivenNames x
    | with_reducible apply record_keeps
    | with_reducible apply keeps_ite
    | (simp only [↓bounds_mk]; refine keeps_of ?_ rfl rfl rfl rfl rfl rfl rfl)
    )

theorem removeEngine_keeps {e : Nat} {s : State} (h : Bounds s) :
    Bounds (removeEngine e s) := by
  unfold removeEngine
  repeat' (first
    | with_reducible assumption
    | extract_lets +onlyGivenNames x
    | with_reducible apply setEng_keeps
    | with_reducible apply record_keeps
    )

theorem giveRole_keeps {e : Nat} {r : EngRole} {a2 : State} (h : Bounds a2) :
    Bounds (giveRole e r a2) := by
  unfold giveRole
  repeat' (first
    | with_reducible assumption
    | with_reducible apply setEng_keeps
    )

theorem setMissRun_keeps {e : Nat} {x : Nat} {n : Nat} {a3 : State} (h : Bounds a3) :
    Bounds (setMissRun e x n a3) := by
  unfold setMissRun
  repeat' (first
    | with_reducible assumption
    | with_reducible apply setEng_keeps
    )

theorem markMissed_keeps {late : List Nat} {s : State} (h : Bounds s) :
    Bounds (markMissed late s) := by
  unfold markMissed
  repeat' (first
    | with_reducible assumption
    | (intro y)
    | (extract_lets +onlyGivenNames x; refine keeps_have (P := Bounds x) ?_ ?_; rotate_left; clear_value x; intro hx; rotate_left; unfold x; clear x)
    | extract_lets +onlyGivenNames x
    | with_reducible apply setLoop_keeps
    | with_reducible apply record_keeps
    | with_reducible apply eachDo_keeps
    | with_reducible apply keeps_ite
    )

theorem handOver_keeps {x : Nat} {a : Nat} {shadowLate : Bool} {s : State} (h : Bounds s) :
    Bounds (handOver x a shadowLate s) := by
  unfold handOver
  repeat' (first
    | with_reducible assumption
    | extract_lets +onlyGivenNames x
    | with_reducible apply faultToHold_keeps
    | with_reducible apply removeEngine_keeps
    | with_reducible apply giveRole_keeps
    | with_reducible apply raiseShadowAbsent_keeps
    | split
    )

theorem keepOldP_keeps {s : State} (h : Bounds s) :
    Bounds (keepOldP s) := by
  unfold keepOldP
  repeat' (first
    | with_reducible assumption
    | extract_lets +onlyGivenNames x
    | with_reducible apply keeps_ite
    | (simp only [↓bounds_mk]; refine keeps_of ?_ rfl rfl rfl rfl rfl rfl rfl)
    )

theorem keepOld_keeps {x : Nat} {late : List Nat} {s : State} (h : Bounds s) :
    Bounds (keepOld x late s) := by
  unfold keepOld
  repeat' (first
    | with_reducible assumption
    | (extract_lets +onlyGivenNames x; refine keeps_have (P := Bounds x) ?_ ?_; rotate_left; clear_value x; intro hx; rotate_left; unfold x; clear x)
    | extract_lets +onlyGivenNames x
    | with_reducible apply keepOldP_keeps
    | with_reducible apply keeps_ite
    | (simp only [↓bounds_mk]; refine keeps_of ?_ rfl rfl rfl rfl rfl rfl rfl)
    )

theorem activeDeadline_keeps {x : Nat} {late : List Nat} {shadowLate : Bool} {s : State} (h : Bounds s) :
    Bounds (activeDeadline x late shadowLate s) := by
  unfold activeDeadline
  repeat' (first
    | with_reducible assumption
    | (intro y)
    | extract_lets +onlyGivenNames x
    | with_reducible apply keepOld_keeps
    | with_reducible apply handOver_keeps
    | with_reducible apply markMissed_keeps
    | with_reducible apply setLoop_keeps
    | with_reducible apply eachDo_keeps
    | with_reducible apply setMissRun_keeps
    | with_reducible apply keeps_ite
    | (simp only [↓bounds_mk]; refine keeps_of ?_ rfl rfl rfl rfl rfl rfl rfl)
    | split
    )

theorem shadowDeadline_keeps {x : Nat} {shadowLate : Bool} {s : State} (h : Bounds s) :
    Bounds (shadowDeadline x shadowLate s) := by
  unfold shadowDeadline
  repeat' (first
    | with_reducible assumption
    | extract_lets +onlyGivenNames x
    | with_reducible apply removeEngine_keeps
    | with_reducible apply raiseShadowAbsent_keeps
    | with_reducible apply setMissRun_keeps
    | with_reducible apply keeps_ite
    | (simp only [↓bounds_mk]; refine keeps_of ?_ rfl rfl rfl rfl rfl rfl rfl)
    | split
    )

theorem compareShadow_keeps {x : Nat} {differ : Bool} {s : State} (h : Bounds s) :
    Bounds (compareShadow x differ s) := by
  unfold compareShadow
  repeat' (first
    | with_reducible assumption
    | (extract_lets +onlyGivenNames x; refine keeps_have (P := Bounds x) ?_ ?_; rotate_left; clear_value x; intro hx; rotate_left; unfold x; clear x)
    | extract_lets +onlyGivenNames x
    | with_reducible apply record_keeps
    | with_reducible apply setEng_keeps
    | with_reducible apply keeps_ite
    | (simp only [↓bounds_mk]; refine keeps_of ?_ rfl rfl rfl rfl rfl rfl rfl)
    | split
    )

theorem execRoleDeadline_keeps {t : Nat} {x : Nat} {late : List Nat} {shadowLate : Bool} {differ : Bool} {s : State} (h : Bounds s) :
    ∀ u, execRoleDeadline t x late shadowLate differ s = .next u → Bounds u := by
  intro u hu
  unfold execRoleDeadline at hu
  refine timed_keeps ?_ hu h
  clear hu h
  intro s h
  repeat' (first
    | with_reducible assumption
    | (extract_lets +onlyGivenNames x; refine keeps_have (P := Bounds x) ?_ ?_; rotate_left; clear_value x; intro hx; rotate_left; unfold x; clear x)
    | extract_lets +onlyGivenNames x
    | with_reducible apply compareShadow_keeps
    | with_reducible apply shadowDeadline_keeps
    | with_reducible apply activeDeadline_keeps
    | with_reducible apply keeps_ite
    )

theorem resolveTest_keeps {e : Nat} {x : Nat} {former : Option Nat} {pass : Bool} {s : State} (h : Bounds s) :
    Bounds (resolveTest e x former pass s) := by
  unfold resolveTest
  repeat' (first
    | with_reducible assumption
    | (extract_lets +onlyGivenNames x; refine keeps_have (P := Bounds x) ?_ ?_; rotate_left; clear_value x; intro hx; rotate_left; unfold x; clear x)
    | extract_lets +onlyGivenNames x
    | with_reducible apply record_keeps
    | with_reducible apply removeEngine_keeps
    | with_reducible apply raiseShadowAbsent_keeps
    | with_reducible apply giveRole_keeps
    | with_reducible apply keeps_ite
    | (simp only [↓bounds_mk]; refine keeps_of ?_ rfl rfl rfl rfl rfl rfl rfl)
    | split
    )

theorem execEngineSelfTestDone_keeps {t : Nat} {e : Nat} {pass : Bool} {s : State} (h : Bounds s) :
    ∀ u, execEngineSelfTestDone t e pass s = .next u → Bounds u := by
  intro u hu
  unfold execEngineSelfTestDone at hu
  refine timed_keeps ?_ hu h
  clear hu h
  intro s h
  repeat' (first
    | with_reducible assumption
    | (extract_lets +onlyGivenNames x; refine keeps_have (P := Bounds x) ?_ ?_; rotate_left; clear_value x; intro hx; rotate_left; unfold x; clear x)
    | extract_lets +onlyGivenNames x
    | with_reducible apply removeEngine_keeps
    | with_reducible apply raiseShadowAbsent_keeps
    | with_reducible apply giveRole_keeps
    | with_reducible apply resolveTest_keeps
    | with_reducible apply judgeCapacity_keeps
    | with_reducible apply setEng_keeps
    | with_reducible apply keeps_ite
    | split
    )

theorem rotate_keeps {s : State} (h : Bounds s) :
    Bounds (rotate s) := by
  unfold rotate
  repeat' (first
    | with_reducible assumption
    | extract_lets +onlyGivenNames x
    | with_reducible apply record_keeps
    | with_reducible apply giveRole_keeps
    | (simp only [↓bounds_mk]; refine keeps_of ?_ rfl rfl rfl rfl rfl rfl rfl)
    | split
    )

theorem promoteReady_keeps {s : State} (h : Bounds s) :
    Bounds (promoteReady s) := by
  unfold promoteReady
  repeat' (first
    | with_reducible assumption
    | extract_lets +onlyGivenNames x
    | with_reducible apply setEng_keeps
    | (simp only [↓bounds_mk]; refine keeps_of ?_ rfl rfl rfl rfl rfl rfl rfl)
    | split
    )

theorem installRotation_keeps {j : Install} {s : State} (h : Bounds s) :
    Bounds (installRotation j s) := by
  unfold installRotation
  repeat' (first
    | with_reducible assumption
    | extract_lets +onlyGivenNames x
    | with_reducible apply rotate_keeps
    | with_reducible apply setEng_keeps
    | with_reducible apply setJob_keeps
    | with_reducible apply pauseJob_keeps
    | split
    )

theorem execRoleRotation_keeps {t : Nat} {s : State} (h : Bounds s) :
    ∀ u, execRoleRotation t s = .next u → Bounds u := by
  intro u hu
  unfold execRoleRotation at hu
  refine timed_keeps ?_ hu h
  clear hu h
  intro s h
  repeat' (first
    | with_reducible assumption
    | extract_lets +onlyGivenNames x
    | with_reducible apply rotate_keeps
    | with_reducible apply promoteReady_keeps
    | with_reducible apply installRotation_keeps
    | with_reducible apply keeps_ite
    | split
    )

theorem execFollowingError_keeps {t : Nat} {s : State} (h : Bounds s) :
    ∀ u, execFollowingError t s = .next u → Bounds u := by
  intro u hu
  unfold execFollowingError at hu
  refine timed_keeps ?_ hu h
  clear hu h
  intro s h
  repeat' (first
    | with_reducible assumption
    | (extract_lets +onlyGivenNames x; refine keeps_have (P := Bounds x) ?_ ?_; rotate_left; clear_value x; intro hx; rotate_left; unfold x; clear x)
    | extract_lets +onlyGivenNames x
    | with_reducible apply faultToHold_keeps
    | with_reducible apply trip_keeps
    | with_reducible apply keeps_ite
    | (simp only [↓bounds_mk]; refine keeps_of ?_ rfl rfl rfl rfl rfl rfl rfl)
    )

theorem failSensor_keeps {x : Nat} {s : State} (h : Bounds s) :
    Bounds (failSensor x s) := by
  unfold failSensor
  repeat' (first
    | with_reducible assumption
    | (extract_lets +onlyGivenNames x; refine keeps_have (P := Bounds x) ?_ ?_; rotate_left; clear_value x; intro hx; rotate_left; unfold x; clear x)
    | extract_lets +onlyGivenNames x
    | with_reducible apply faultToHold_keeps
    | with_reducible apply impAbort_keeps
    | with_reducible apply record_keeps
    | with_reducible apply keeps_ite
    | (simp only [↓bounds_mk]; refine keeps_of ?_ rfl rfl rfl rfl rfl rfl rfl)
    )

theorem execSensorDisagree_keeps {t : Nat} {shunt : Int} {hall : Int} {sum : Option Int} {held : Nat} {s : State} (h : Bounds s) :
    ∀ u, execSensorDisagree t shunt hall sum held s = .next u → Bounds u := by
  intro u hu
  unfold execSensorDisagree at hu
  refine timed_keeps ?_ hu h
  clear hu h
  intro s h
  repeat' (first
    | with_reducible assumption
    | extract_lets +onlyGivenNames x
    | with_reducible apply failSensor_keeps
    | with_reducible apply keeps_ite
    | (simp only [↓bounds_mk]; refine keeps_of ?_ rfl rfl rfl rfl rfl rfl rfl)
    | split
    )

theorem execSensorFrozen_keeps {t : Nat} {x : Nat} {spread : Nat} {cycles : Nat} {duty : Nat} {fault : Bool} {s : State} (h : Bounds s) :
    ∀ u, execSensorFrozen t x spread cycles duty fault s = .next u → Bounds u := by
  intro u hu
  unfold execSensorFrozen at hu
  refine timed_keeps ?_ hu h
  clear hu h
  intro s h
  repeat' (first
    | with_reducible assumption
    | extract_lets +onlyGivenNames x
    | with_reducible apply failSensor_keeps
    | with_reducible apply keeps_ite
    )

theorem execCurrentFeedbackLost_keeps {t : Nat} {s : State} (h : Bounds s) :
    ∀ u, execCurrentFeedbackLost t s = .next u → Bounds u := by
  intro u hu
  unfold execCurrentFeedbackLost at hu
  refine timed_keeps ?_ hu h
  clear hu h
  intro s h
  repeat' (first
    | with_reducible assumption
    | extract_lets +onlyGivenNames x
    | with_reducible apply tripHeld_keeps
    | with_reducible apply keeps_ite
    )

theorem execSensorRecover_keeps {t : Nat} {x : Nat} {passed : Nat} {agrees : Bool} {s : State} (h : Bounds s) :
    ∀ u, execSensorRecover t x passed agrees s = .next u → Bounds u := by
  intro u hu
  unfold execSensorRecover at hu
  refine timed_keeps ?_ hu h
  clear hu h
  intro s h
  repeat' (first
    | with_reducible assumption
    | (extract_lets +onlyGivenNames x; refine keeps_have (P := Bounds x) ?_ ?_; rotate_left; clear_value x; intro hx; rotate_left; unfold x; clear x)
    | extract_lets +onlyGivenNames x
    | with_reducible apply clearPresent_keeps
    | with_reducible apply keeps_ite
    | (simp only [↓bounds_mk]; refine keeps_of ?_ rfl rfl rfl rfl rfl rfl rfl)
    )

theorem execCtrlStatus_keeps {t : Nat} {m : Nat} {s : State} (h : Bounds s) :
    ∀ u, execCtrlStatus t m s = .next u → Bounds u := by
  intro u hu
  unfold execCtrlStatus at hu
  refine timed_keeps ?_ hu h
  clear hu h
  intro s h
  repeat' (first
    | with_reducible assumption
    | (intro y)
    | extract_lets +onlyGivenNames x
    | with_reducible apply statusHandler_keeps
    | with_reducible apply serve_keeps
    )

theorem execCtrlEngines_keeps {t : Nat} {m : Nat} {s : State} (h : Bounds s) :
    ∀ u, execCtrlEngines t m s = .next u → Bounds u := by
  intro u hu
  unfold execCtrlEngines at hu
  refine timed_keeps ?_ hu h
  clear hu h
  intro s h
  repeat' (first
    | with_reducible assumption
    | (intro y)
    | extract_lets +onlyGivenNames x
    | with_reducible apply statusHandler_keeps
    | with_reducible apply serve_keeps
    )

theorem engineReturn_keeps {pass : Bool} {r : Request} {a2 : State} (h : Bounds a2) :
    Bounds (engineReturn pass r a2).2 := by
  unfold engineReturn
  repeat' (first
    | with_reducible assumption
    | (intro y)
    | (extract_lets +onlyGivenNames x; refine keeps_have (P := Bounds x) ?_ ?_; rotate_left; clear_value x; intro hx; rotate_left; unfold x; clear x)
    | extract_lets +onlyGivenNames x
    | with_reducible apply judgeCapacity_keeps
    | with_reducible apply ok_keeps
    | with_reducible apply answerWith_keeps
    | with_reducible apply setEng_keeps
    | with_reducible apply refuse_keeps
    | with_reducible apply withLength_keeps
    | with_reducible apply keeps_ite2
    | (simp only [↓bounds_mk]; refine keeps_of ?_ rfl rfl rfl rfl rfl rfl rfl)
    )

theorem execCtrlEngineReturn_keeps {t : Nat} {m : Nat} {pass : Bool} {s : State} (h : Bounds s) :
    ∀ u, execCtrlEngineReturn t m pass s = .next u → Bounds u := by
  intro u hu
  unfold execCtrlEngineReturn at hu
  refine timed_keeps ?_ hu h
  clear hu h
  intro s h
  repeat' (first
    | with_reducible assumption
    | (intro y)
    | extract_lets +onlyGivenNames x
    | with_reducible apply engineReturn_keeps
    | with_reducible apply serve_keeps
    )

theorem execCtrlRotateNow_keeps {t : Nat} {m : Nat} {s : State} (h : Bounds s) :
    ∀ u, execCtrlRotateNow t m s = .next u → Bounds u := by
  intro u hu
  unfold execCtrlRotateNow at hu
  refine timed_keeps ?_ hu h
  clear hu h
  intro s h
  repeat' (first
    | with_reducible assumption
    | (intro y)
    | extract_lets +onlyGivenNames x
    | with_reducible apply rotate_keeps
    | with_reducible apply ok_keeps
    | with_reducible apply refuse_keeps
    | with_reducible apply withLength_keeps
    | with_reducible apply serve_keeps
    | split
    )

theorem sensorRestore_keeps {r : Request} {a1 : State} (h : Bounds a1) :
    Bounds (sensorRestore r a1).2 := by
  unfold sensorRestore
  repeat' (first
    | with_reducible assumption
    | (intro y)
    | extract_lets +onlyGivenNames x
    | with_reducible apply clearPresent_keeps
    | with_reducible apply ok_keeps
    | with_reducible apply refuse_keeps
    | with_reducible apply withLength_keeps
    | with_reducible apply keeps_ite
    | with_reducible apply keeps_ite2
    | (simp only [↓bounds_mk]; refine keeps_of ?_ rfl rfl rfl rfl rfl rfl rfl)
    )

theorem execSensorRestore_keeps {t : Nat} {m : Nat} {s : State} (h : Bounds s) :
    ∀ u, execSensorRestore t m s = .next u → Bounds u := by
  intro u hu
  unfold execSensorRestore at hu
  refine timed_keeps ?_ hu h
  clear hu h
  intro s h
  repeat' (first
    | with_reducible assumption
    | (intro y)
    | extract_lets +onlyGivenNames x
    | with_reducible apply sensorRestore_keeps
    | with_reducible apply serve_keeps
    )

theorem execWinTotals_keeps {t : Nat} {m : Nat} {s : State} (h : Bounds s) :
    ∀ u, execWinTotals t m s = .next u → Bounds u := by
  intro u hu
  unfold execWinTotals at hu
  refine timed_keeps ?_ hu h
  clear hu h
  intro s h
  repeat' (first
    | with_reducible assumption
    | (intro y)
    | extract_lets +onlyGivenNames x
    | with_reducible apply statusHandler_keeps
    | with_reducible apply serve_keeps
    )

theorem countBalance_keeps {r : Nat} {p : Nat} {s : State} (h : Bounds s) :
    Bounds (countBalance r p s) := by
  unfold countBalance
  repeat' (first
    | with_reducible assumption
    | (intro y)
    | (extract_lets +onlyGivenNames x; refine keeps_have (P := Bounds x) ?_ ?_; rotate_left; clear_value x; intro hx; rotate_left; unfold x; clear x)
    | extract_lets +onlyGivenNames x
    | with_reducible apply setPos_keeps
    | with_reducible apply setCtx_keeps
    | with_reducible apply eachDo_keeps
    | (simp only [↓bounds_mk]; refine keeps_of ?_ rfl rfl rfl rfl rfl rfl rfl)
    | split
    )

theorem noteRun_keeps {r : Nat} {p : Nat} {s : State} (h : Bounds s) :
    Bounds (noteRun r p s) := by
  unfold noteRun
  repeat' (first
    | with_reducible assumption
    | extract_lets +onlyGivenNames x
    | with_reducible apply countBalance_keeps
    | with_reducible apply setPos_keeps
    )

theorem execBalLease_keeps {t : Nat} {q : TapReq} {temp : Int} {s : State} (h : Bounds s) :
    ∀ u, execBalLease t q temp s = .next u → Bounds u := by
  intro u hu
  unfold execBalLease at hu
  refine timed_keeps ?_ hu h
  clear hu h
  intro s h
  repeat' (first
    | with_reducible assumption
    | (intro y)
    | (extract_lets +onlyGivenNames x; refine keeps_have (P := Bounds x) ?_ ?_; rotate_left; clear_value x; intro hx; rotate_left; unfold x; clear x)
    | extract_lets +onlyGivenNames x
    | with_reducible apply record_keeps
    | with_reducible apply noteRun_keeps
    | with_reducible apply setPos_keeps
    | with_reducible apply setTap_keeps
    | with_reducible apply atTap_keeps
    | with_reducible apply withPayload_keeps
    | with_reducible apply tapAfter_reply
    | with_reducible apply keeps_ite
    )

theorem execBalStop_keeps {t : Nat} {q : TapReq} {s : State} (h : Bounds s) :
    ∀ u, execBalStop t q s = .next u → Bounds u := by
  intro u hu
  unfold execBalStop at hu
  refine timed_keeps ?_ hu h
  clear hu h
  intro s h
  repeat' (first
    | with_reducible assumption
    | (intro y)
    | extract_lets +onlyGivenNames x
    | with_reducible apply setTap_keeps
    | with_reducible apply noteRun_keeps
    | with_reducible apply atTap_keeps
    | with_reducible apply withPayload_keeps
    | with_reducible apply tapAfter_ite
    | with_reducible apply tapAfter_reply
    | with_reducible apply tapAfter_reject
    )

theorem execBalMode_keeps {t : Nat} {q : TapReq} {s : State} (h : Bounds s) :
    ∀ u, execBalMode t q s = .next u → Bounds u := by
  intro u hu
  unfold execBalMode at hu
  refine timed_keeps ?_ hu h
  clear hu h
  intro s h
  repeat' (first
    | with_reducible assumption
    | (intro y)
    | extract_lets +onlyGivenNames x
    | with_reducible apply setTap_keeps
    | with_reducible apply noteRun_keeps
    | with_reducible apply atTap_keeps
    | with_reducible apply withPayload_keeps
    | with_reducible apply tapAfter_ite
    | with_reducible apply tapAfter_reply
    | with_reducible apply tapAfter_reject
    )

theorem setSlot_keeps {i : Nat} {k : Nat} {g : Slot → Slot} {a3 : State} (h : Bounds a3) :
    Bounds (setSlot i k g a3) := by
  unfold setSlot
  repeat' (first
    | with_reducible assumption
    | with_reducible apply setTap_keeps
    )

theorem execBalLeaseExpiry_keeps {t : Nat} {i : Nat} {k : Nat} {s : State} (h : Bounds s) :
    ∀ u, execBalLeaseExpiry t i k s = .next u → Bounds u := by
  intro u hu
  unfold execBalLeaseExpiry at hu
  refine timed_keeps ?_ hu h
  clear hu h
  intro s h
  repeat' (first
    | with_reducible assumption
    | extract_lets +onlyGivenNames x
    | with_reducible apply setSlot_keeps
    | with_reducible apply keeps_ite
    )

theorem execBalConverterOvertemp_keeps {t : Nat} {i : Nat} {temp : Int} {s : State} (h : Bounds s) :
    ∀ u, execBalConverterOvertemp t i temp s = .next u → Bounds u := by
  intro u hu
  unfold execBalConverterOvertemp at hu
  refine timed_keeps ?_ hu h
  clear hu h
  intro s h
  repeat' (first
    | with_reducible assumption
    | (extract_lets +onlyGivenNames x; refine keeps_have (P := Bounds x) ?_ ?_; rotate_left; clear_value x; intro hx; rotate_left; unfold x; clear x)
    | extract_lets +onlyGivenNames x
    | with_reducible apply setTap_keeps
    | with_reducible apply keeps_ite
    )

theorem execBalGatedSuspend_keeps {t : Nat} {i : Nat} {s : State} (h : Bounds s) :
    ∀ u, execBalGatedSuspend t i s = .next u → Bounds u := by
  intro u hu
  unfold execBalGatedSuspend at hu
  refine timed_keeps ?_ hu h
  clear hu h
  intro s h
  repeat' (first
    | with_reducible assumption
    | extract_lets +onlyGivenNames x
    | with_reducible apply setTap_keeps
    | with_reducible apply keeps_ite
    )

theorem execBalResume_keeps {t : Nat} {i : Nat} {s : State} (h : Bounds s) :
    ∀ u, execBalResume t i s = .next u → Bounds u := by
  intro u hu
  unfold execBalResume at hu
  refine timed_keeps ?_ hu h
  clear hu h
  intro s h
  repeat' (first
    | with_reducible assumption
    | extract_lets +onlyGivenNames x
    | with_reducible apply setTap_keeps
    )

theorem execImpWindowSuspend_keeps {t : Nat} {i : Nat} {s : State} (h : Bounds s) :
    ∀ u, execImpWindowSuspend t i s = .next u → Bounds u := by
  intro u hu
  unfold execImpWindowSuspend at hu
  refine timed_keeps ?_ hu h
  clear hu h
  intro s h
  repeat' (first
    | with_reducible assumption
    | extract_lets +onlyGivenNames x
    | with_reducible apply setTap_keeps
    )

theorem sendLeases_keeps {r : Nat} {s : State} (h : Bounds s) :
    Bounds (sendLeases r s) := by
  unfold sendLeases
  repeat' (first
    | with_reducible assumption
    | (intro y)
    | extract_lets +onlyGivenNames x
    | with_reducible apply sendTap_keeps
    | with_reducible apply setPos_keeps
    | with_reducible apply eachDo_keeps
    | with_reducible apply keeps_ite
    )

theorem execBalRenew_keeps {t : Nat} {s : State} (h : Bounds s) :
    ∀ u, execBalRenew t s = .next u → Bounds u := by
  intro u hu
  unfold execBalRenew at hu
  refine timed_keeps ?_ hu h
  clear hu h
  intro s h
  repeat' (first
    | with_reducible assumption
    | (intro y)
    | (extract_lets +onlyGivenNames x; refine keeps_have (P := Bounds x) ?_ ?_; rotate_left; clear_value x; intro hx; rotate_left; unfold x; clear x)
    | extract_lets +onlyGivenNames x
    | with_reducible apply sendLeases_keeps
    | with_reducible apply setPos_keeps
    | with_reducible apply countBalance_keeps
    | with_reducible apply eachDo_keeps
    | with_reducible apply keeps_ite
    | (simp only [↓bounds_mk]; refine keeps_of ?_ rfl rfl rfl rfl rfl rfl rfl)
    )

theorem execBalStatus_keeps {t : Nat} {m : Nat} {s : State} (h : Bounds s) :
    ∀ u, execBalStatus t m s = .next u → Bounds u := by
  intro u hu
  unfold execBalStatus at hu
  refine timed_keeps ?_ hu h
  clear hu h
  intro s h
  repeat' (first
    | with_reducible assumption
    | (intro y)
    | extract_lets +onlyGivenNames x
    | with_reducible apply statusHandler_keeps
    | with_reducible apply serve_keeps
    )

theorem execBalTotals_keeps {t : Nat} {m : Nat} {s : State} (h : Bounds s) :
    ∀ u, execBalTotals t m s = .next u → Bounds u := by
  intro u hu
  unfold execBalTotals at hu
  refine timed_keeps ?_ hu h
  clear hu h
  intro s h
  repeat' (first
    | with_reducible assumption
    | (intro y)
    | extract_lets +onlyGivenNames x
    | with_reducible apply okWith_keeps
    | with_reducible apply refuse_keeps
    | with_reducible apply withLength_keeps
    | with_reducible apply serve_keeps
    | (simp only [↓bounds_mk]; refine keeps_of ?_ rfl rfl rfl rfl rfl rfl rfl)
    | split
    )

theorem balForceHandler_keeps {r : Request} {s : State} (h : Bounds s) :
    Bounds (balForceHandler r s).2 := by
  unfold balForceHandler
  repeat' (first
    | with_reducible assumption
    | extract_lets +onlyGivenNames x
    | with_reducible apply record_keeps
    | with_reducible apply ok_keeps
    | with_reducible apply refuse_keeps
    | with_reducible apply keeps_ite2
    | (simp only [↓bounds_mk]; refine keeps_of ?_ rfl rfl rfl rfl rfl rfl rfl)
    )

theorem execBalForce_keeps {t : Nat} {m : Nat} {s : State} (h : Bounds s) :
    ∀ u, execBalForce t m s = .next u → Bounds u := by
  intro u hu
  unfold execBalForce at hu
  refine timed_keeps ?_ hu h
  clear hu h
  intro s h
  repeat' (first
    | with_reducible assumption
    | (intro y)
    | extract_lets +onlyGivenNames x
    | with_reducible apply balForceHandler_keeps
    | with_reducible apply serve_keeps
    )

theorem execBalForceEnd_keeps {t : Nat} {c : Nat} {s : State} (h : Bounds s) :
    ∀ u, execBalForceEnd t c s = .next u → Bounds u := by
  intro u hu
  unfold execBalForceEnd at hu
  refine timed_keeps ?_ hu h
  clear hu h
  intro s h
  repeat' (first
    | with_reducible assumption
    | extract_lets +onlyGivenNames x
    | with_reducible apply record_keeps
    | with_reducible apply keeps_ite
    | (simp only [↓bounds_mk]; refine keeps_of ?_ rfl rfl rfl rfl rfl rfl rfl)
    )

theorem execBalRelease_keeps {t : Nat} {m : Nat} {s : State} (h : Bounds s) :
    ∀ u, execBalRelease t m s = .next u → Bounds u := by
  intro u hu
  unfold execBalRelease at hu
  refine timed_keeps ?_ hu h
  clear hu h
  intro s h
  repeat' (first
    | with_reducible assumption
    | (intro y)
    | extract_lets +onlyGivenNames x
    | with_reducible apply record_keeps
    | with_reducible apply ok_keeps
    | with_reducible apply withLength_keeps
    | with_reducible apply serve_keeps
    | (simp only [↓bounds_mk]; refine keeps_of ?_ rfl rfl rfl rfl rfl rfl rfl)
    )

theorem armNext_keeps {s : State} (h : Bounds s) :
    Bounds (armNext s) := by
  unfold armNext
  repeat' (first
    | with_reducible assumption
    | extract_lets +onlyGivenNames x
    | with_reducible apply registerOneShot_keeps
    | (simp only [↓bounds_mk]; refine keeps_of ?_ rfl rfl rfl rfl rfl rfl rfl)
    | split
    )

theorem noteAccepted_keeps {s : State} (h : Bounds s) :
    Bounds (noteAccepted s) := by
  unfold noteAccepted
  repeat' (first
    | with_reducible assumption
    | extract_lets +onlyGivenNames x
    | (simp only [↓bounds_mk]; refine keeps_of ?_ rfl rfl rfl rfl rfl rfl rfl)
    )

theorem applyNow_keeps {q : SpRequest} {late : Bool} {s : State} (h : Bounds s) :
    Bounds (applyNow q late s).2 := by
  unfold applyNow
  repeat' (first
    | with_reducible assumption
    | (simp only [↓bounds_mk]; refine keeps_queue h rfl rfl rfl ?_ rfl rfl rfl; unfold afterClear; exact Nat.le_trans (List.length_filter_le _ _) h.2.2.2.2.1)
    | (extract_lets +onlyGivenNames x; refine keeps_have (P := Bounds x) ?_ ?_; rotate_left; clear_value x; intro hx; rotate_left; unfold x; clear x)
    | extract_lets +onlyGivenNames x
    | with_reducible apply noteAccepted_keeps
    | with_reducible apply record_keeps
    | with_reducible apply armNext_keeps
    | with_reducible apply keeps_ite
    | (simp only [↓bounds_mk]; refine keeps_of ?_ rfl rfl rfl rfl rfl rfl rfl)
    )

theorem insertPoint_length (p : SetPoint) (l : List SetPoint) : (insertPoint p l).length = l.length + 1 := by
  induction l with
  | nil => rfl
  | cons a l ih =>
    unfold insertPoint
    split
    · rfl
    · simp [ih]

theorem enqueuePoint_keeps {q : SpRequest} {s : State} (h : Bounds s) :
    Bounds (enqueuePoint q s).2 := by
  unfold enqueuePoint
  repeat' (first
    | with_reducible assumption
    | (simp only [↓bounds_mk]; refine keeps_queue h rfl rfl rfl ?_ rfl rfl rfl; show (insertPoint _ _).length ≤ 16; rw [insertPoint_length]; omega)
    | split
    | (extract_lets +onlyGivenNames x; refine keeps_have (P := Bounds x) ?_ ?_; rotate_left; clear_value x; intro hx; rotate_left; unfold x; clear x)
    | extract_lets +onlyGivenNames x
    | with_reducible apply noteAccepted_keeps
    | with_reducible apply armNext_keeps
    )

theorem decidePoint_keeps {cmd : Nat} {q : SpRequest} {s : State} (h : Bounds s) :
    Bounds (decidePoint cmd q s).2 := by
  unfold decidePoint
  repeat' (first
    | with_reducible assumption
    | extract_lets +onlyGivenNames x
    | with_reducible apply enqueuePoint_keeps
    | with_reducible apply applyNow_keeps
    | with_reducible apply keeps_ite2
    )

theorem noteReject_keeps {p : Reply × State} (h : Bounds p.2) : Bounds (noteReject p).2 := by
  unfold noteReject
  split
  · exact h
  · exact h

theorem spSetHandler_keeps {m : Nat} {r : Request} {s : State} (h : Bounds s) :
    Bounds (spSetHandler m r s).2 := by
  unfold spSetHandler
  repeat' (first
    | with_reducible assumption
    | with_reducible apply noteReject_keeps
    | extract_lets +onlyGivenNames x
    | with_reducible apply decidePoint_keeps
    | with_reducible apply keeps_ite2
    | split
    )

theorem execSpSet_keeps {t : Nat} {m : Nat} {s : State} (h : Bounds s) :
    ∀ u, execSpSet t m s = .next u → Bounds u := by
  intro u hu
  unfold execSpSet at hu
  refine timed_keeps ?_ hu h
  clear hu h
  intro s h
  repeat' (first
    | with_reducible assumption
    | (intro y)
    | extract_lets +onlyGivenNames x
    | with_reducible apply spSetHandler_keeps
    | with_reducible apply serve_keeps
    )

theorem takeDue_keeps {s : State} (h : Bounds s) :
    Bounds (takeDue s) := by
  unfold takeDue
  repeat' (first
    | with_reducible assumption
    | (intro y)
    | (simp only [↓bounds_mk]; refine keeps_queue (by assumption) rfl rfl rfl ?_ rfl rfl rfl; refine Nat.le_trans ?_ h.2.2.2.2.1; show (dueEntries s).2.length ≤ _; unfold dueEntries; rw [List.partition_eq_filter_filter]; exact List.length_filter_le _ _)
    | (extract_lets +onlyGivenNames x; refine keeps_have (P := Bounds x) ?_ ?_; rotate_left; clear_value x; intro hx; rotate_left; unfold x; clear x)
    | extract_lets +onlyGivenNames x
    | with_reducible apply takeTarget_keeps
    | with_reducible apply eachDo_keeps
    | with_reducible apply armNext_keeps
    | with_reducible apply keeps_ite
    )

theorem execSetpointApply_keeps {t : Nat} {s : State} (h : Bounds s) :
    ∀ u, execSetpointApply t s = .next u → Bounds u := by
  intro u hu
  unfold execSetpointApply at hu
  refine timed_keeps ?_ hu h
  clear hu h
  intro s h
  repeat' (first
    | with_reducible assumption
    | extract_lets +onlyGivenNames x
    | with_reducible apply takeDue_keeps
    )

theorem execDispatchWatchdog_keeps {t : Nat} {s : State} (h : Bounds s) :
    ∀ u, execDispatchWatchdog t s = .next u → Bounds u := by
  intro u hu
  unfold execDispatchWatchdog at hu
  refine timed_keeps ?_ hu h
  clear hu h
  intro s h
  repeat' (first
    | with_reducible assumption
    | extract_lets +onlyGivenNames x
    | with_reducible apply record_keeps
    | with_reducible apply keeps_ite
    | (simp only [↓bounds_mk]; refine keeps_of ?_ rfl rfl rfl rfl rfl rfl rfl)
    )

theorem spCancelHandler_keeps {r : Request} {s : State} (h : Bounds s) :
    Bounds (spCancelHandler r s).2 := by
  unfold spCancelHandler
  repeat' (first
    | with_reducible assumption
    | (simp only [↓bounds_mk]; refine keeps_queue h rfl rfl rfl ?_ rfl rfl rfl; exact Nat.le_trans (List.length_filter_le _ _) h.2.2.2.2.1)
    | (extract_lets +onlyGivenNames x; refine keeps_have (P := Bounds x) ?_ ?_; rotate_left; clear_value x; intro hx; rotate_left; unfold x; clear x)
    | extract_lets +onlyGivenNames x
    | with_reducible apply ok_keeps
    | with_reducible apply answerWith_keeps
    | with_reducible apply armNext_keeps
    | with_reducible apply refuse_keeps
    | with_reducible apply keeps_ite2
    )

theorem execSpCancel_keeps {t : Nat} {m : Nat} {s : State} (h : Bounds s) :
    ∀ u, execSpCancel t m s = .next u → Bounds u := by
  intro u hu
  unfold execSpCancel at hu
  refine timed_keeps ?_ hu h
  clear hu h
  intro s h
  repeat' (first
    | with_reducible assumption
    | (intro y)
    | extract_lets +onlyGivenNames x
    | with_reducible apply spCancelHandler_keeps
    | with_reducible apply serve_keeps
    )

theorem execSpQueueRead_keeps {t : Nat} {m : Nat} {s : State} (h : Bounds s) :
    ∀ u, execSpQueueRead t m s = .next u → Bounds u := by
  intro u hu
  unfold execSpQueueRead at hu
  refine timed_keeps ?_ hu h
  clear hu h
  intro s h
  repeat' (first
    | with_reducible assumption
    | (intro y)
    | extract_lets +onlyGivenNames x
    | with_reducible apply statusHandler_keeps
    | with_reducible apply serve_keeps
    )

theorem execDispatchStatus_keeps {t : Nat} {m : Nat} {s : State} (h : Bounds s) :
    ∀ u, execDispatchStatus t m s = .next u → Bounds u := by
  intro u hu
  unfold execDispatchStatus at hu
  refine timed_keeps ?_ hu h
  clear hu h
  intro s h
  repeat' (first
    | with_reducible assumption
    | (intro y)
    | extract_lets +onlyGivenNames x
    | with_reducible apply statusHandler_keeps
    | with_reducible apply serve_keeps
    )

end Sys2Proof.Machine
end

