-- ==== Sys2Proof/Laws/BoundsSafety.lean ====
section
/-!
SUPPORT. Laws/BoundsSafety.lean: the operations of SafetyFn, TimeUnit, Fabric, Estimation, Impedance keep the bounds, as Laws/Bounds.lean says it of the earlier ones.
-/

set_option linter.all false

namespace Sys2Proof.Machine

open Sys2Proof

theorem sfDemand_keeps {code : Nat} {f : Finder} {data : List Int} {s : State} (h : Bounds s) :
    Bounds (sfDemand code f data s) := by
  unfold sfDemand
  repeat' (first
    | with_reducible assumption
    | extract_lets +onlyGivenNames x
    | with_reducible apply tripHeld_keeps
    | with_reducible apply notePresent_keeps
    | with_reducible apply record_keeps
    | with_reducible apply keeps_ite
    )

theorem updateCeil_keeps {s : State} (h : Bounds s) :
    Bounds (updateCeil s) := by
  unfold updateCeil
  repeat' (first
    | with_reducible assumption
    | extract_lets +onlyGivenNames x
    | with_reducible apply keeps_ite
    | (simp only [↓bounds_mk]; refine keeps_of ?_ rfl rfl rfl rfl rfl rfl rfl)
    )

theorem sfEvent_keeps {code : Nat} {f : Finder} {data : List Int} {s : State} (h : Bounds s) :
    Bounds (sfEvent code f data s) := by
  unfold sfEvent
  repeat' (first
    | with_reducible assumption
    | extract_lets +onlyGivenNames x
    | with_reducible apply trip_keeps
    | with_reducible apply record_keeps
    | with_reducible apply keeps_ite
    )

theorem execSpSilent_keeps {t : Nat} {held : Nat} {s : State} (h : Bounds s) :
    ∀ u, execSpSilent t held s = .next u → Bounds u := by
  intro u hu
  unfold execSpSilent at hu
  refine timed_keeps ?_ hu h
  clear hu h
  intro s h
  repeat' (first
    | with_reducible assumption
    | extract_lets +onlyGivenNames x
    | with_reducible apply sfEvent_keeps
    | with_reducible apply domeDemands_keeps
    | with_reducible apply keeps_ite
    )

theorem execDomeFault_keeps {t : Nat} {held : Nat} {s : State} (h : Bounds s) :
    ∀ u, execDomeFault t held s = .next u → Bounds u := by
  intro u hu
  unfold execDomeFault at hu
  refine timed_keeps ?_ hu h
  clear hu h
  intro s h
  repeat' (first
    | with_reducible assumption
    | extract_lets +onlyGivenNames x
    | with_reducible apply clearPresent_keeps
    | with_reducible apply sfDemand_keeps
    | with_reducible apply keeps_ite
    )

theorem execDomeDemand_keeps {t : Nat} {s : State} (h : Bounds s) :
    ∀ u, execDomeDemand t s = .next u → Bounds u := by
  intro u hu
  unfold execDomeDemand at hu
  refine timed_keeps ?_ hu h
  clear hu h
  intro s h
  repeat' (first
    | with_reducible assumption
    | extract_lets +onlyGivenNames x
    | with_reducible apply spDemands_keeps
    | with_reducible apply keeps_ite
    )

theorem judgeStale_keeps {s : State} (h : Bounds s) :
    Bounds (judgeStale s) := by
  unfold judgeStale
  repeat' (first
    | with_reducible assumption
    | extract_lets +onlyGivenNames x
    | with_reducible apply clearPresent_keeps
    | with_reducible apply sfDemand_keeps
    | with_reducible apply keeps_ite
    )

theorem noteCells_keeps {s : State} (h : Bounds s) :
    Bounds (noteCells s) := by
  unfold noteCells
  repeat' (first
    | with_reducible assumption
    | extract_lets +onlyGivenNames x
    | (simp only [↓bounds_mk]; refine keeps_of ?_ rfl rfl rfl rfl rfl rfl rfl)
    | split
    )

theorem classifyTrip_keeps {s : State} (h : Bounds s) :
    Bounds (classifyTrip s) := by
  unfold classifyTrip
  repeat' (first
    | with_reducible assumption
    | (extract_lets +onlyGivenNames x; refine keeps_have (P := Bounds x) ?_ ?_; rotate_left; clear_value x; intro hx; rotate_left; unfold x; clear x)
    | extract_lets +onlyGivenNames x
    | with_reducible apply latchCode_keeps
    | with_reducible apply latchSf_keeps
    | with_reducible apply record_keeps
    | with_reducible apply keeps_ite
    | (simp only [↓bounds_mk]; refine keeps_of ?_ rfl rfl rfl rfl rfl rfl rfl)
    )

theorem sweepCheck_keeps {s : State} (h : Bounds s) :
    Bounds (sweepCheck s) := by
  unfold sweepCheck
  repeat' (first
    | with_reducible assumption
    | (extract_lets +onlyGivenNames x; refine keeps_have (P := Bounds x) ?_ ?_; rotate_left; clear_value x; intro hx; rotate_left; unfold x; clear x)
    | extract_lets +onlyGivenNames x
    | with_reducible apply updateCeil_keeps
    | with_reducible apply record_keeps
    | with_reducible apply judgeStale_keeps
    | with_reducible apply classifyTrip_keeps
    | with_reducible apply clearPresent_keeps
    | with_reducible apply sfDemand_keeps
    | with_reducible apply noteCells_keeps
    | with_reducible apply keeps_ite
    | (simp only [↓bounds_mk]; refine keeps_of ?_ rfl rfl rfl rfl rfl rfl rfl)
    )

theorem execSweepCheck_keeps {t : Nat} {s : State} (h : Bounds s) :
    ∀ u, execSweepCheck t s = .next u → Bounds u := by
  intro u hu
  unfold execSweepCheck at hu
  refine timed_keeps ?_ hu h
  clear hu h
  intro s h
  repeat' (first
    | with_reducible assumption
    | extract_lets +onlyGivenNames x
    | with_reducible apply sweepCheck_keeps
    )

theorem execFltLoopOpen_keeps {t : Nat} {loop : Nat} {ma : Nat} {held : Nat} {s : State} (h : Bounds s) :
    ∀ u, execFltLoopOpen t loop ma held s = .next u → Bounds u := by
  intro u hu
  unfold execFltLoopOpen at hu
  refine timed_keeps ?_ hu h
  clear hu h
  intro s h
  repeat' (first
    | with_reducible assumption
    | (extract_lets +onlyGivenNames x; refine keeps_have (P := Bounds x) ?_ ?_; rotate_left; clear_value x; intro hx; rotate_left; unfold x; clear x)
    | extract_lets +onlyGivenNames x
    | with_reducible apply clearPresent_keeps
    | with_reducible apply tripCore_keeps
    | with_reducible apply notePresent_keeps
    | with_reducible apply captureEdge_keeps
    | with_reducible apply keeps_ite
    | (simp only [↓bounds_mk]; refine keeps_of ?_ rfl rfl rfl rfl rfl rfl rfl)
    )

theorem execFltShort_keeps {t : Nat} {loop : Nat} {ma : Nat} {held : Nat} {s : State} (h : Bounds s) :
    ∀ u, execFltShort t loop ma held s = .next u → Bounds u := by
  intro u hu
  unfold execFltShort at hu
  refine timed_keeps ?_ hu h
  clear hu h
  intro s h
  repeat' (first
    | with_reducible assumption
    | extract_lets +onlyGivenNames x
    | with_reducible apply sfDemand_keeps
    | with_reducible apply clearPresent_keeps
    | with_reducible apply keeps_ite
    )

theorem execOcFastTrip_keeps {t : Nat} {sensor : Nat} {i : Int} {held : Nat} {s : State} (h : Bounds s) :
    ∀ u, execOcFastTrip t sensor i held s = .next u → Bounds u := by
  intro u hu
  unfold execOcFastTrip at hu
  refine timed_keeps ?_ hu h
  clear hu h
  intro s h
  repeat' (first
    | with_reducible assumption
    | extract_lets +onlyGivenNames x
    | with_reducible apply sfEvent_keeps
    | with_reducible apply keeps_ite
    )

theorem execOcSlowTrip_keeps {t : Nat} {s : State} (h : Bounds s) :
    ∀ u, execOcSlowTrip t s = .next u → Bounds u := by
  intro u hu
  unfold execOcSlowTrip at hu
  refine timed_keeps ?_ hu h
  clear hu h
  intro s h
  repeat' (first
    | with_reducible assumption
    | extract_lets +onlyGivenNames x
    | with_reducible apply sfEvent_keeps
    | with_reducible apply keeps_ite
    | (simp only [↓bounds_mk]; refine keeps_of ?_ rfl rfl rfl rfl rfl rfl rfl)
    )

theorem execSf4TAbsent_keeps {t : Nat} {c : Nat} {s : State} (h : Bounds s) :
    ∀ u, execSf4TAbsent t c s = .next u → Bounds u := by
  intro u hu
  unfold execSf4TAbsent at hu
  refine timed_keeps ?_ hu h
  clear hu h
  intro s h
  repeat' (first
    | with_reducible assumption
    | extract_lets +onlyGivenNames x
    | with_reducible apply sfDemand_keeps
    | with_reducible apply keeps_ite
    )

theorem setSi_keeps {i : Nat} {g : SiInput → SiInput} {s : State} (h : Bounds s) :
    Bounds (setSi i g s) := by
  unfold setSi
  repeat' (first
    | with_reducible assumption
    | extract_lets +onlyGivenNames x
    | (simp only [↓bounds_mk]; refine keeps_of ?_ rfl rfl rfl rfl rfl rfl rfl)
    )

theorem inputDemand_keeps {i : Nat} {stamp : Nat} {src : Nat} {s : State} (h : Bounds s) :
    Bounds (inputDemand i stamp src s) := by
  unfold inputDemand
  repeat' (first
    | with_reducible assumption
    | extract_lets +onlyGivenNames x
    | with_reducible apply tripEdge_keeps
    | with_reducible apply notePresent_keeps
    | with_reducible apply record_keeps
    | with_reducible apply keeps_ite
    | (simp only [↓bounds_mk]; refine keeps_of ?_ rfl rfl rfl rfl rfl rfl rfl)
    )

theorem channelDemand_keeps {i : Nat} {b : Bool} {stamp : Nat} {s : State} (h : Bounds s) :
    Bounds (channelDemand i b stamp s) := by
  unfold channelDemand
  repeat' (first
    | with_reducible assumption
    | (extract_lets +onlyGivenNames x; refine keeps_have (P := Bounds x) ?_ ?_; rotate_left; clear_value x; intro hx; rotate_left; unfold x; clear x)
    | extract_lets +onlyGivenNames x
    | with_reducible apply inputDemand_keeps
    | with_reducible apply setSi_keeps
    | with_reducible apply keeps_ite
    | (simp only [↓bounds_mk]; refine keeps_of ?_ rfl rfl rfl rfl rfl rfl rfl)
    )

theorem execSiChannelDemand_keeps {t : Nat} {i : Nat} {b : Bool} {held : Nat} {s : State} (h : Bounds s) :
    ∀ u, execSiChannelDemand t i b held s = .next u → Bounds u := by
  intro u hu
  unfold execSiChannelDemand at hu
  refine timed_keeps ?_ hu h
  clear hu h
  intro s h
  repeat' (first
    | with_reducible assumption
    | (extract_lets +onlyGivenNames x; refine keeps_have (P := Bounds x) ?_ ?_; rotate_left; clear_value x; intro hx; rotate_left; unfold x; clear x)
    | extract_lets +onlyGivenNames x
    | with_reducible apply setSi_keeps
    | with_reducible apply channelDemand_keeps
    | with_reducible apply captureEdge_keeps
    | with_reducible apply keeps_ite
    )

theorem inputReleased_keeps {i : Nat} {s : State} (h : Bounds s) :
    Bounds (inputReleased i s) := by
  unfold inputReleased
  repeat' (first
    | with_reducible assumption
    | (extract_lets +onlyGivenNames x; refine keeps_have (P := Bounds x) ?_ ?_; rotate_left; clear_value x; intro hx; rotate_left; unfold x; clear x)
    | extract_lets +onlyGivenNames x
    | with_reducible apply clearPresent_keeps
    | with_reducible apply setSi_keeps
    | with_reducible apply keeps_ite
    | (simp only [↓bounds_mk]; refine keeps_of ?_ rfl rfl rfl rfl rfl rfl rfl)
    )

theorem execSiChannelRelease_keeps {t : Nat} {i : Nat} {b : Bool} {held : Nat} {s : State} (h : Bounds s) :
    ∀ u, execSiChannelRelease t i b held s = .next u → Bounds u := by
  intro u hu
  unfold execSiChannelRelease at hu
  refine timed_keeps ?_ hu h
  clear hu h
  intro s h
  repeat' (first
    | with_reducible assumption
    | (extract_lets +onlyGivenNames x; refine keeps_have (P := Bounds x) ?_ ?_; rotate_left; clear_value x; intro hx; rotate_left; unfold x; clear x)
    | extract_lets +onlyGivenNames x
    | with_reducible apply inputReleased_keeps
    | with_reducible apply setSi_keeps
    | with_reducible apply captureEdge_keeps
    | with_reducible apply keeps_ite
    )

theorem execSiDiscrepancy_keeps {t : Nat} {i : Nat} {s : State} (h : Bounds s) :
    ∀ u, execSiDiscrepancy t i s = .next u → Bounds u := by
  intro u hu
  unfold execSiDiscrepancy at hu
  refine timed_keeps ?_ hu h
  clear hu h
  intro s h
  repeat' (first
    | with_reducible assumption
    | extract_lets +onlyGivenNames x
    | with_reducible apply setSi_keeps
    | with_reducible apply record_keeps
    | with_reducible apply keeps_ite
    | split
    )

theorem wiringFault_keeps {i : Nat} {b : Bool} {s : State} (h : Bounds s) :
    Bounds (wiringFault i b s) := by
  unfold wiringFault
  repeat' (first
    | with_reducible assumption
    | (extract_lets +onlyGivenNames x; refine keeps_have (P := Bounds x) ?_ ?_; rotate_left; clear_value x; intro hx; rotate_left; unfold x; clear x)
    | extract_lets +onlyGivenNames x
    | with_reducible apply record_keeps
    | with_reducible apply channelDemand_keeps
    | with_reducible apply setSi_keeps
    | with_reducible apply keeps_ite
    )

theorem pulseCheck_keeps {i : Nat} {b : Bool} {own : Bool} {low : Bool} {s : State} (h : Bounds s) :
    Bounds (pulseCheck i b own low s) := by
  unfold pulseCheck
  repeat' (first
    | with_reducible assumption
    | (extract_lets +onlyGivenNames x; refine keeps_have (P := Bounds x) ?_ ?_; rotate_left; clear_value x; intro hx; rotate_left; unfold x; clear x)
    | extract_lets +onlyGivenNames x
    | with_reducible apply setSi_keeps
    | with_reducible apply wiringFault_keeps
    | with_reducible apply keeps_ite
    )

theorem execTpPulse_keeps {t : Nat} {tp : Nat} {low : List Bool} {s : State} (h : Bounds s) :
    ∀ u, execTpPulse t tp low s = .next u → Bounds u := by
  intro u hu
  unfold execTpPulse at hu
  refine timed_keeps ?_ hu h
  clear hu h
  intro s h
  repeat' (first
    | with_reducible assumption
    | (intro y)
    | (extract_lets +onlyGivenNames x; refine keeps_have (P := Bounds x) ?_ ?_; rotate_left; clear_value x; intro hx; rotate_left; unfold x; clear x)
    | extract_lets +onlyGivenNames x
    | with_reducible apply pulseCheck_keeps
    | with_reducible apply eachDo_keeps
    | with_reducible apply emit_keeps
    | with_reducible apply keeps_ite
    )

theorem execTripInOpen_keeps {t : Nat} {ma : Nat} {held : Nat} {s : State} (h : Bounds s) :
    ∀ u, execTripInOpen t ma held s = .next u → Bounds u := by
  intro u hu
  unfold execTripInOpen at hu
  refine timed_keeps ?_ hu h
  clear hu h
  intro s h
  repeat' (first
    | with_reducible assumption
    | (extract_lets +onlyGivenNames x; refine keeps_have (P := Bounds x) ?_ ?_; rotate_left; clear_value x; intro hx; rotate_left; unfold x; clear x)
    | extract_lets +onlyGivenNames x
    | with_reducible apply tripEdge_keeps
    | with_reducible apply notePresent_keeps
    | with_reducible apply record_keeps
    | with_reducible apply clearPresent_keeps
    | with_reducible apply captureEdge_keeps
    | with_reducible apply keeps_ite
    | (simp only [↓bounds_mk]; refine keeps_of ?_ rfl rfl rfl rfl rfl rfl rfl)
    )

theorem execSf8DelayEnd_keeps {t : Nat} {s : State} (h : Bounds s) :
    ∀ u, execSf8DelayEnd t s = .next u → Bounds u := by
  intro u hu
  unfold execSf8DelayEnd at hu
  refine timed_keeps ?_ hu h
  clear hu h
  intro s h
  repeat' (first
    | with_reducible assumption
    | (extract_lets +onlyGivenNames x; refine keeps_have (P := Bounds x) ?_ ?_; rotate_left; clear_value x; intro hx; rotate_left; unfold x; clear x)
    | extract_lets +onlyGivenNames x
    | with_reducible apply sfEvent_keeps
    | with_reducible apply sfDemand_keeps
    | with_reducible apply keeps_ite
    | (simp only [↓bounds_mk]; refine keeps_of ?_ rfl rfl rfl rfl rfl rfl rfl)
    | split
    )

theorem execSf9Stale_keeps {t : Nat} {s : State} (h : Bounds s) :
    ∀ u, execSf9Stale t s = .next u → Bounds u := by
  intro u hu
  unfold execSf9Stale at hu
  refine timed_keeps ?_ hu h
  clear hu h
  intro s h
  repeat' (first
    | with_reducible assumption
    | extract_lets +onlyGivenNames x
    | with_reducible apply judgeStale_keeps
    )

theorem execSafeStateOpen_keeps {t : Nat} {s : State} (h : Bounds s) :
    ∀ u, execSafeStateOpen t s = .next u → Bounds u := by
  intro u hu
  unfold execSafeStateOpen at hu
  refine timed_keeps ?_ hu h
  clear hu h
  intro s h
  repeat' (first
    | with_reducible assumption
    | (extract_lets +onlyGivenNames x; refine keeps_have (P := Bounds x) ?_ ?_; rotate_left; clear_value x; intro hx; rotate_left; unfold x; clear x)
    | extract_lets +onlyGivenNames x
    | with_reducible apply openCoil_keeps
    | with_reducible apply keeps_ite
    | (simp only [↓bounds_mk]; refine keeps_of ?_ rfl rfl rfl rfl rfl rfl rfl)
    | split
    )

theorem endOpening_keeps {s : State} (h : Bounds s) :
    Bounds (endOpening s) := by
  unfold endOpening
  repeat' (first
    | with_reducible assumption
    | (extract_lets +onlyGivenNames x; refine keeps_have (P := Bounds x) ?_ ?_; rotate_left; clear_value x; intro hx; rotate_left; unfold x; clear x)
    | extract_lets +onlyGivenNames x
    | with_reducible apply finishJob_keeps
    | with_reducible apply setMode_keeps
    | with_reducible apply keeps_ite
    | (simp only [↓bounds_mk]; refine keeps_of ?_ rfl rfl rfl rfl rfl rfl rfl)
    | split
    )

theorem execK2OrderGap_keeps {t : Nat} {s : State} (h : Bounds s) :
    ∀ u, execK2OrderGap t s = .next u → Bounds u := by
  intro u hu
  unfold execK2OrderGap at hu
  refine timed_keeps ?_ hu h
  clear hu h
  intro s h
  repeat' (first
    | with_reducible assumption
    | extract_lets +onlyGivenNames x
    | with_reducible apply openCoil_keeps
    | with_reducible apply endOpening_keeps
    | with_reducible apply keeps_ite
    | split
    )

theorem execDomeOpen_keeps {t : Nat} {s : State} (h : Bounds s) :
    ∀ u, execDomeOpen t s = .next u → Bounds u := by
  intro u hu
  unfold execDomeOpen at hu
  refine timed_keeps ?_ hu h
  clear hu h
  intro s h
  repeat' (first
    | with_reducible assumption
    | extract_lets +onlyGivenNames x
    | with_reducible apply domeOpens_keeps
    | with_reducible apply keeps_ite
    )

theorem acceptMessage_keeps {b : List Byte} {restarted : Bool} {s : State} (h : Bounds s) :
    Bounds (acceptMessage b restarted s) := by
  unfold acceptMessage
  repeat' (first
    | with_reducible assumption
    | (extract_lets +onlyGivenNames x; refine keeps_have (P := Bounds x) ?_ ?_; rotate_left; clear_value x; intro hx; rotate_left; unfold x; clear x)
    | extract_lets +onlyGivenNames x
    | with_reducible apply clearPresent_keeps
    | with_reducible apply record_keeps
    | with_reducible apply keeps_ite
    | (simp only [↓bounds_mk]; refine keeps_of ?_ rfl rfl rfl rfl rfl rfl rfl)
    )

theorem takeCopy_keeps {plane : Nat} {b : List Byte} {s : State} (h : Bounds s) :
    Bounds (takeCopy plane b s).1 := by
  unfold takeCopy
  repeat' (first
    | with_reducible assumption
    | (extract_lets +onlyGivenNames x; refine keeps_have (P := Bounds x) ?_ ?_; rotate_left; clear_value x; intro hx; rotate_left; unfold x; clear x)
    | extract_lets +onlyGivenNames x
    | with_reducible apply record_keeps
    | with_reducible apply acceptMessage_keeps
    | (simp only [↓bounds_mk]; refine keeps_of ?_ rfl rfl rfl rfl rfl rfl rfl)
    | split
    )

theorem onMessage_keeps {type : Nat} {plane : Nat} {b : List Byte} {act : State → State} {s : State} (hact : ∀ x0, Bounds x0 → Bounds (act x0)) (h : Bounds s) :
    Bounds (onMessage type plane b act s) := by
  unfold onMessage
  repeat' (first
    | with_reducible assumption
    | extract_lets +onlyGivenNames x
    | with_reducible apply takeCopy_keeps
    | with_reducible apply keeps_ite
    | apply hact
    )

theorem execPlantStop_keeps {t : Nat} {plane : Nat} {b : List Byte} {s : State} (h : Bounds s) :
    ∀ u, execPlantStop t plane b s = .next u → Bounds u := by
  intro u hu
  unfold execPlantStop at hu
  refine timed_keeps ?_ hu h
  clear hu h
  intro s h
  repeat' (first
    | with_reducible assumption
    | (intro y)
    | (extract_lets +onlyGivenNames x; refine keeps_have (P := Bounds x) ?_ ?_; rotate_left; clear_value x; intro hx; rotate_left; unfold x; clear x)
    | extract_lets +onlyGivenNames x
    | with_reducible apply sfDemand_keeps
    | with_reducible apply onMessage_keeps
    | with_reducible apply keeps_ite
    | (simp only [↓bounds_mk]; refine keeps_of ?_ rfl rfl rfl rfl rfl rfl rfl)
    )

theorem execPlantStopRelease_keeps {t : Nat} {plane : Nat} {b : List Byte} {s : State} (h : Bounds s) :
    ∀ u, execPlantStopRelease t plane b s = .next u → Bounds u := by
  intro u hu
  unfold execPlantStopRelease at hu
  refine timed_keeps ?_ hu h
  clear hu h
  intro s h
  repeat' (first
    | with_reducible assumption
    | (intro y)
    | (extract_lets +onlyGivenNames x; refine keeps_have (P := Bounds x) ?_ ?_; rotate_left; clear_value x; intro hx; rotate_left; unfold x; clear x)
    | extract_lets +onlyGivenNames x
    | with_reducible apply clearPresent_keeps
    | with_reducible apply onMessage_keeps
    | with_reducible apply keeps_ite
    | (simp only [↓bounds_mk]; refine keeps_of ?_ rfl rfl rfl rfl rfl rfl rfl)
    )

theorem execSafetyKeepalive_keeps {t : Nat} {plane : Nat} {b : List Byte} {s : State} (h : Bounds s) :
    ∀ u, execSafetyKeepalive t plane b s = .next u → Bounds u := by
  intro u hu
  unfold execSafetyKeepalive at hu
  refine timed_keeps ?_ hu h
  clear hu h
  intro s h
  repeat' (first
    | with_reducible assumption
    | (intro y)
    | extract_lets +onlyGivenNames x
    | with_reducible apply onMessage_keeps
    | assumption
    )

theorem execTripNotice_keeps {t : Nat} {plane : Nat} {b : List Byte} {s : State} (h : Bounds s) :
    ∀ u, execTripNotice t plane b s = .next u → Bounds u := by
  intro u hu
  unfold execTripNotice at hu
  refine timed_keeps ?_ hu h
  clear hu h
  intro s h
  repeat' (first
    | with_reducible assumption
    | (intro y)
    | extract_lets +onlyGivenNames x
    | with_reducible apply onMessage_keeps
    | with_reducible apply acceptMessage_keeps
    | with_reducible apply sfEvent_keeps
    | with_reducible apply keeps_ite
    | split
    )

theorem execSafeMsgOrphan_keeps {t : Nat} {src : Nat} {seq : Nat} {s : State} (h : Bounds s) :
    ∀ u, execSafeMsgOrphan t src seq s = .next u → Bounds u := by
  intro u hu
  unfold execSafeMsgOrphan at hu
  refine timed_keeps ?_ hu h
  clear hu h
  intro s h
  repeat' (first
    | with_reducible assumption
    | extract_lets +onlyGivenNames x
    | with_reducible apply keeps_ite
    | (simp only [↓bounds_mk]; refine keeps_of ?_ rfl rfl rfl rfl rfl rfl rfl)
    )

theorem execSafeLinkLost_keeps {t : Nat} {s : State} (h : Bounds s) :
    ∀ u, execSafeLinkLost t s = .next u → Bounds u := by
  intro u hu
  unfold execSafeLinkLost at hu
  refine timed_keeps ?_ hu h
  clear hu h
  intro s h
  repeat' (first
    | with_reducible assumption
    | extract_lets +onlyGivenNames x
    | with_reducible apply sfDemand_keeps
    | with_reducible apply keeps_ite
    )

theorem execSinglePlane_keeps {t : Nat} {p : Nat} {s : State} (h : Bounds s) :
    ∀ u, execSinglePlane t p s = .next u → Bounds u := by
  intro u hu
  unfold execSinglePlane at hu
  refine timed_keeps ?_ hu h
  clear hu h
  intro s h
  repeat' (first
    | with_reducible assumption
    | extract_lets +onlyGivenNames x
    | with_reducible apply record_keeps
    | with_reducible apply keeps_ite
    | (simp only [↓bounds_mk]; refine keeps_of ?_ rfl rfl rfl rfl rfl rfl rfl)
    )

theorem execMatchedCopyReturn_keeps {t : Nat} {s : State} (h : Bounds s) :
    ∀ u, execMatchedCopyReturn t s = .next u → Bounds u := by
  intro u hu
  unfold execMatchedCopyReturn at hu
  refine timed_keeps ?_ hu h
  clear hu h
  intro s h
  repeat' (first
    | with_reducible assumption
    | extract_lets +onlyGivenNames x
    | with_reducible apply keeps_ite
    | (simp only [↓bounds_mk]; refine keeps_of ?_ rfl rfl rfl rfl rfl rfl rfl)
    | split
    )

theorem execSealChanged_keeps {t : Nat} {n : Nat} {on : Bool} {s : State} (h : Bounds s) :
    ∀ u, execSealChanged t n on s = .next u → Bounds u := by
  intro u hu
  unfold execSealChanged at hu
  refine timed_keeps ?_ hu h
  clear hu h
  intro s h
  repeat' (first
    | with_reducible assumption
    | (extract_lets +onlyGivenNames x; refine keeps_have (P := Bounds x) ?_ ?_; rotate_left; clear_value x; intro hx; rotate_left; unfold x; clear x)
    | extract_lets +onlyGivenNames x
    | with_reducible apply record_keeps
    | with_reducible apply keeps_ite
    | (simp only [↓bounds_mk]; refine keeps_of ?_ rfl rfl rfl rfl rfl rfl rfl)
    )

theorem execSafeSetRead_keeps {t : Nat} {m : Nat} {s : State} (h : Bounds s) :
    ∀ u, execSafeSetRead t m s = .next u → Bounds u := by
  intro u hu
  unfold execSafeSetRead at hu
  refine timed_keeps ?_ hu h
  clear hu h
  intro s h
  repeat' (first
    | with_reducible assumption
    | (intro y)
    | extract_lets +onlyGivenNames x
    | with_reducible apply okWith_keeps
    | with_reducible apply refuse_keeps
    | with_reducible apply withLength_keeps
    | with_reducible apply serve_keeps
    | with_reducible apply keeps_ite2
    )

theorem execSafeSetConfirm_keeps {t : Nat} {m : Nat} {s : State} (h : Bounds s) :
    ∀ u, execSafeSetConfirm t m s = .next u → Bounds u := by
  intro u hu
  unfold execSafeSetConfirm at hu
  refine timed_keeps ?_ hu h
  clear hu h
  intro s h
  repeat' (first
    | with_reducible assumption
    | (intro y)
    | extract_lets +onlyGivenNames x
    | with_reducible apply ok_keeps
    | with_reducible apply refuse_keeps
    | with_reducible apply withLength_keeps
    | with_reducible apply serve_keeps
    | with_reducible apply keeps_ite2
    | (simp only [↓bounds_mk]; refine keeps_of ?_ rfl rfl rfl rfl rfl rfl rfl)
    )

theorem execSafeStatus_keeps {t : Nat} {m : Nat} {s : State} (h : Bounds s) :
    ∀ u, execSafeStatus t m s = .next u → Bounds u := by
  intro u hu
  unfold execSafeStatus at hu
  refine timed_keeps ?_ hu h
  clear hu h
  intro s h
  repeat' (first
    | with_reducible assumption
    | (intro y)
    | extract_lets +onlyGivenNames x
    | with_reducible apply statusHandler_keeps
    | with_reducible apply serve_keeps
    )

theorem execSafeCounters_keeps {t : Nat} {m : Nat} {s : State} (h : Bounds s) :
    ∀ u, execSafeCounters t m s = .next u → Bounds u := by
  intro u hu
  unfold execSafeCounters at hu
  refine timed_keeps ?_ hu h
  clear hu h
  intro s h
  repeat' (first
    | with_reducible assumption
    | (intro y)
    | extract_lets +onlyGivenNames x
    | with_reducible apply statusHandler_keeps
    | with_reducible apply serve_keeps
    )

theorem doReset_keeps {s : State} (h : Bounds s) :
    Bounds (doReset s) := by
  unfold doReset
  repeat' (first
    | with_reducible assumption
    | (extract_lets +onlyGivenNames x; refine keeps_have (P := Bounds x) ?_ ?_; rotate_left; clear_value x; intro hx; rotate_left; unfold x; clear x)
    | extract_lets +onlyGivenNames x
    | with_reducible apply releaseGates_keeps
    | with_reducible apply record_keeps
    | with_reducible apply updateCeil_keeps
    | with_reducible apply setMode_keeps
    | (simp only [↓bounds_mk]; refine keeps_of ?_ rfl rfl rfl rfl rfl rfl rfl)
    )

theorem safeResetHandler_keeps {m : Nat} {a1 : Request} {a2 : State} (h : Bounds a2) :
    Bounds (safeResetHandler m a1 a2).2 := by
  unfold safeResetHandler
  repeat' (first
    | with_reducible assumption
    | (intro y)
    | extract_lets +onlyGivenNames x
    | with_reducible apply doReset_keeps
    | with_reducible apply ok_keeps
    | with_reducible apply refuse_keeps
    | with_reducible apply withLength_keeps
    | with_reducible apply keeps_ite2
    | (simp only [↓bounds_mk]; refine keeps_of ?_ rfl rfl rfl rfl rfl rfl rfl)
    | split
    )

theorem execSafeReset_keeps {t : Nat} {m : Nat} {s : State} (h : Bounds s) :
    ∀ u, execSafeReset t m s = .next u → Bounds u := by
  intro u hu
  unfold execSafeReset at hu
  refine timed_keeps ?_ hu h
  clear hu h
  intro s h
  repeat' (first
    | with_reducible assumption
    | (intro y)
    | extract_lets +onlyGivenNames x
    | with_reducible apply safeResetHandler_keeps
    | with_reducible apply serve_keeps
    )

theorem execTripInRecheck_keeps {t : Nat} {s : State} (h : Bounds s) :
    ∀ u, execTripInRecheck t s = .next u → Bounds u := by
  intro u hu
  unfold execTripInRecheck at hu
  refine timed_keeps ?_ hu h
  clear hu h
  intro s h
  repeat' (first
    | with_reducible assumption
    | (extract_lets +onlyGivenNames x; refine keeps_have (P := Bounds x) ?_ ?_; rotate_left; clear_value x; intro hx; rotate_left; unfold x; clear x)
    | extract_lets +onlyGivenNames x
    | with_reducible apply doReset_keeps
    | with_reducible apply finishJob_keeps
    | with_reducible apply keeps_ite
    | (simp only [↓bounds_mk]; refine keeps_of ?_ rfl rfl rfl rfl rfl rfl rfl)
    | split
    )

theorem execLocalAckExpiry_keeps {t : Nat} {s : State} (h : Bounds s) :
    ∀ u, execLocalAckExpiry t s = .next u → Bounds u := by
  intro u hu
  unfold execLocalAckExpiry at hu
  refine timed_keeps ?_ hu h
  clear hu h
  intro s h
  repeat' (first
    | with_reducible assumption
    | extract_lets +onlyGivenNames x
    | with_reducible apply keeps_ite
    | (simp only [↓bounds_mk]; refine keeps_of ?_ rfl rfl rfl rfl rfl rfl rfl)
    )

theorem setDom_keeps {d : Nat} {g : Domain → Domain} {s : State} (h : Bounds s) :
    Bounds (setDom d g s) := by
  unfold setDom
  repeat' (first
    | with_reducible assumption
    | extract_lets +onlyGivenNames x
    | (simp only [↓bounds_mk]; refine keeps_of ?_ rfl rfl rfl rfl rfl rfl rfl)
    )

theorem setPps_keeps {n : Nat} {g : Pps → Pps} {s : State} (h : Bounds s) :
    Bounds (setPps n g s) := by
  unfold setPps
  repeat' (first
    | with_reducible assumption
    | extract_lets +onlyGivenNames x
    | (simp only [↓bounds_mk]; refine keeps_of ?_ rfl rfl rfl rfl rfl rfl rfl)
    )

theorem setTime_keeps {x : TimeState} {s : State} (h : Bounds s) :
    Bounds (setTime x s) := by
  unfold setTime
  repeat' (first
    | with_reducible assumption
    | extract_lets +onlyGivenNames x
    | with_reducible apply record_keeps
    | with_reducible apply keeps_ite
    | (simp only [↓bounds_mk]; refine keeps_of ?_ rfl rfl rfl rfl rfl rfl rfl)
    )

theorem judgeTrace_keeps {s : State} (h : Bounds s) :
    Bounds (judgeTrace s) := by
  unfold judgeTrace
  repeat' (first
    | with_reducible assumption
    | extract_lets +onlyGivenNames x
    | with_reducible apply record_keeps
    | with_reducible apply keeps_ite
    | (simp only [↓bounds_mk]; refine keeps_of ?_ rfl rfl rfl rfl rfl rfl rfl)
    )

theorem setTrim_keeps {v : Int} {s : State} (h : Bounds s) :
    Bounds (setTrim v s) := by
  unfold setTrim
  repeat' (first
    | with_reducible assumption
    | extract_lets +onlyGivenNames x
    | (simp only [↓bounds_mk]; refine keeps_of ?_ rfl rfl rfl rfl rfl rfl rfl)
    )

theorem loseSource_keeps {s : State} (h : Bounds s) :
    Bounds (loseSource s) := by
  unfold loseSource
  repeat' (first
    | with_reducible assumption
    | (extract_lets +onlyGivenNames x; refine keeps_have (P := Bounds x) ?_ ?_; rotate_left; clear_value x; intro hx; rotate_left; unfold x; clear x)
    | extract_lets +onlyGivenNames x
    | with_reducible apply setTime_keeps
    | with_reducible apply setTrim_keeps
    | with_reducible apply keeps_ite
    | (simp only [↓bounds_mk]; refine keeps_of ?_ rfl rfl rfl rfl rfl rfl rfl)
    )

theorem selectSource_keeps {s : State} (h : Bounds s) :
    Bounds (selectSource s) := by
  unfold selectSource
  repeat' (first
    | with_reducible assumption
    | (extract_lets +onlyGivenNames x; refine keeps_have (P := Bounds x) ?_ ?_; rotate_left; clear_value x; intro hx; rotate_left; unfold x; clear x)
    | extract_lets +onlyGivenNames x
    | with_reducible apply loseSource_keeps
    | with_reducible apply judgeTrace_keeps
    | with_reducible apply keeps_ite
    | (simp only [↓bounds_mk]; refine keeps_of ?_ rfl rfl rfl rfl rfl rfl rfl)
    )

theorem judgeDomain_keeps {d : Nat} {s : State} (h : Bounds s) :
    Bounds (judgeDomain d s) := by
  unfold judgeDomain
  repeat' (first
    | with_reducible assumption
    | with_reducible apply setDom_keeps
    )

theorem judgeTime_keeps {s : State} (h : Bounds s) :
    Bounds (judgeTime s) := by
  unfold judgeTime
  repeat' (first
    | with_reducible assumption
    | extract_lets +onlyGivenNames x
    | with_reducible apply judgeDomain_keeps
    | with_reducible apply selectSource_keeps
    )

theorem servoStep_keeps {off : Int} {s : State} (h : Bounds s) :
    Bounds (servoStep off s) := by
  unfold servoStep
  repeat' (first
    | with_reducible assumption
    | extract_lets +onlyGivenNames x
    | with_reducible apply setTrim_keeps
    | (simp only [↓bounds_mk]; refine keeps_of ?_ rfl rfl rfl rfl rfl rfl rfl)
    )

theorem acceptOffset_keeps {off : Int} {s : State} (h : Bounds s) :
    Bounds (acceptOffset off s) := by
  unfold acceptOffset
  repeat' (first
    | with_reducible assumption
    | (extract_lets +onlyGivenNames x; refine keeps_have (P := Bounds x) ?_ ?_; rotate_left; clear_value x; intro hx; rotate_left; unfold x; clear x)
    | extract_lets +onlyGivenNames x
    | with_reducible apply servoStep_keeps
    | with_reducible apply judgeTrace_keeps
    | with_reducible apply setTime_keeps
    | with_reducible apply keeps_ite
    | (simp only [↓bounds_mk]; refine keeps_of ?_ rfl rfl rfl rfl rfl rfl rfl)
    )

theorem stepCounter_keeps {c : Int} {s : State} (h : Bounds s) :
    Bounds (stepCounter c s) := by
  unfold stepCounter
  repeat' (first
    | with_reducible assumption
    | (extract_lets +onlyGivenNames x; refine keeps_have (P := Bounds x) ?_ ?_; rotate_left; clear_value x; intro hx; rotate_left; unfold x; clear x)
    | extract_lets +onlyGivenNames x
    | with_reducible apply impAbort_keeps
    | with_reducible apply record_keeps
    | with_reducible apply takeDue_keeps
    | (simp only [↓bounds_mk]; refine keeps_of ?_ rfl rfl rfl rfl rfl rfl rfl)
    )

theorem bigOffset_keeps {src : Nat} {off : Int} {s : State} (h : Bounds s) :
    Bounds (bigOffset src off s).2 := by
  unfold bigOffset
  repeat' (first
    | with_reducible assumption
    | (extract_lets +onlyGivenNames x; refine keeps_have (P := Bounds x) ?_ ?_; rotate_left; clear_value x; intro hx; rotate_left; unfold x; clear x)
    | extract_lets +onlyGivenNames x
    | with_reducible apply record_keeps
    | with_reducible apply setTime_keeps
    | with_reducible apply stepCounter_keeps
    | with_reducible apply keeps_ite2
    | (simp only [↓bounds_mk]; refine keeps_of ?_ rfl rfl rfl rfl rfl rfl rfl)
    )

theorem routeChanged_keeps {d : Nat} {s : State} (h : Bounds s) :
    Bounds (routeChanged d s) := by
  unfold routeChanged
  repeat' (first
    | with_reducible assumption
    | (extract_lets +onlyGivenNames x; refine keeps_have (P := Bounds x) ?_ ?_; rotate_left; clear_value x; intro hx; rotate_left; unfold x; clear x)
    | extract_lets +onlyGivenNames x
    | with_reducible apply record_keeps
    | with_reducible apply judgeTime_keeps
    | with_reducible apply setDom_keeps
    )

theorem pinRoute_keeps {d : Nat} {s : State} (h : Bounds s) :
    Bounds (pinRoute d s) := by
  unfold pinRoute
  repeat' (first
    | with_reducible assumption
    | (extract_lets +onlyGivenNames x; refine keeps_have (P := Bounds x) ?_ ?_; rotate_left; clear_value x; intro hx; rotate_left; unfold x; clear x)
    | extract_lets +onlyGivenNames x
    | with_reducible apply setPlane_keeps
    | with_reducible apply routeChanged_keeps
    | with_reducible apply keeps_ite
    | split
    )

theorem judgeTraces_keeps {d : Nat} {s : State} (h : Bounds s) :
    Bounds (judgeTraces d s) := by
  unfold judgeTraces
  repeat' (first
    | with_reducible assumption
    | extract_lets +onlyGivenNames x
    | with_reducible apply record_keeps
    | with_reducible apply routeChanged_keeps
    | with_reducible apply setPlane_keeps
    | with_reducible apply keeps_ite
    | (simp only [↓bounds_mk]; refine keeps_of ?_ rfl rfl rfl rfl rfl rfl rfl)
    | split
    )

theorem completeSync_keeps {d : Nat} {t1 : Int} {t2 : Int} {s : State} (h : Bounds s) :
    Bounds (completeSync d t1 t2 s) := by
  unfold completeSync
  repeat' (first
    | with_reducible assumption
    | (extract_lets +onlyGivenNames x; refine keeps_have (P := Bounds x) ?_ ?_; rotate_left; clear_value x; intro hx; rotate_left; unfold x; clear x)
    | extract_lets +onlyGivenNames x
    | with_reducible apply acceptOffset_keeps
    | with_reducible apply bigOffset_keeps
    | with_reducible apply judgeTime_keeps
    | with_reducible apply setDom_keeps
    | with_reducible apply keeps_ite
    | (simp only [↓bounds_mk]; refine keeps_of ?_ rfl rfl rfl rfl rfl rfl rfl)
    | split
    )

theorem execAnnounce_keeps {t : Nat} {d : Nat} {num : Nat} {gm : Nat} {data : List Nat} {utc : Int} {s : State} (h : Bounds s) :
    ∀ u, execAnnounce t d num gm data utc s = .next u → Bounds u := by
  intro u hu
  unfold execAnnounce at hu
  refine timed_keeps ?_ hu h
  clear hu h
  intro s h
  repeat' (first
    | with_reducible assumption
    | extract_lets +onlyGivenNames x
    | with_reducible apply setDom_keeps
    | with_reducible apply pinRoute_keeps
    | with_reducible apply keeps_ite
    )

theorem execSync_keeps {t : Nat} {d : Nat} {num : Nat} {seq : Nat} {origin : Int} {rx : Int} {corr : Int} {twoStep : Bool} {trace : Nat} {s : State} (h : Bounds s) :
    ∀ u, execSync t d num seq origin rx corr twoStep trace s = .next u → Bounds u := by
  intro u hu
  unfold execSync at hu
  refine timed_keeps ?_ hu h
  clear hu h
  intro s h
  repeat' (first
    | with_reducible assumption
    | (extract_lets +onlyGivenNames x; refine keeps_have (P := Bounds x) ?_ ?_; rotate_left; clear_value x; intro hx; rotate_left; unfold x; clear x)
    | extract_lets +onlyGivenNames x
    | with_reducible apply completeSync_keeps
    | with_reducible apply setDom_keeps
    | with_reducible apply setPlane_keeps
    | with_reducible apply judgeTraces_keeps
    | with_reducible apply keeps_ite
    )

theorem execFollowUp_keeps {t : Nat} {d : Nat} {num : Nat} {seq : Nat} {origin : Int} {corr : Int} {s : State} (h : Bounds s) :
    ∀ u, execFollowUp t d num seq origin corr s = .next u → Bounds u := by
  intro u hu
  unfold execFollowUp at hu
  refine timed_keeps ?_ hu h
  clear hu h
  intro s h
  repeat' (first
    | with_reducible assumption
    | extract_lets +onlyGivenNames x
    | with_reducible apply completeSync_keeps
    | with_reducible apply keeps_ite
    | split
    )

theorem execDelayReq_keeps {t : Nat} {d : Nat} {num : Nat} {seq : Nat} {own : Bool} {src : Nat} {corr : Int} {s : State} (h : Bounds s) :
    ∀ u, execDelayReq t d num seq own src corr s = .next u → Bounds u := by
  intro u hu
  unfold execDelayReq at hu
  refine timed_keeps ?_ hu h
  clear hu h
  intro s h
  repeat' (first
    | with_reducible assumption
    | extract_lets +onlyGivenNames x
    | with_reducible apply setDom_keeps
    | with_reducible apply emit_keeps
    | with_reducible apply keeps_ite
    )

theorem execDelayResp_keeps {t : Nat} {d : Nat} {num : Nat} {seq : Nat} {rx : Int} {corr : Int} {trace : Nat} {s : State} (h : Bounds s) :
    ∀ u, execDelayResp t d num seq rx corr trace s = .next u → Bounds u := by
  intro u hu
  unfold execDelayResp at hu
  refine timed_keeps ?_ hu h
  clear hu h
  intro s h
  repeat' (first
    | with_reducible assumption
    | (extract_lets +onlyGivenNames x; refine keeps_have (P := Bounds x) ?_ ?_; rotate_left; clear_value x; intro hx; rotate_left; unfold x; clear x)
    | extract_lets +onlyGivenNames x
    | with_reducible apply setDom_keeps
    | with_reducible apply judgeTime_keeps
    | with_reducible apply setPlane_keeps
    | with_reducible apply judgeTraces_keeps
    | with_reducible apply keeps_ite
    | (simp only [↓bounds_mk]; refine keeps_of ?_ rfl rfl rfl rfl rfl rfl rfl)
    | split
    )

theorem execDomainLoss_keeps {t : Nat} {d : Nat} {s : State} (h : Bounds s) :
    ∀ u, execDomainLoss t d s = .next u → Bounds u := by
  intro u hu
  unfold execDomainLoss at hu
  refine timed_keeps ?_ hu h
  clear hu h
  intro s h
  repeat' (first
    | with_reducible assumption
    | extract_lets +onlyGivenNames x
    | with_reducible apply judgeTime_keeps
    | with_reducible apply keeps_ite
    )

theorem execDomainDegradedEnd_keeps {t : Nat} {d : Nat} {s : State} (h : Bounds s) :
    ∀ u, execDomainDegradedEnd t d s = .next u → Bounds u := by
  intro u hu
  unfold execDomainDegradedEnd at hu
  refine timed_keeps ?_ hu h
  clear hu h
  intro s h
  repeat' (first
    | with_reducible assumption
    | extract_lets +onlyGivenNames x
    | with_reducible apply setDom_keeps
    | with_reducible apply judgeTime_keeps
    | with_reducible apply keeps_ite
    | split
    )

theorem execTimePrefReturn_keeps {t : Nat} {s : State} (h : Bounds s) :
    ∀ u, execTimePrefReturn t s = .next u → Bounds u := by
  intro u hu
  unfold execTimePrefReturn at hu
  refine timed_keeps ?_ hu h
  clear hu h
  intro s h
  repeat' (first
    | with_reducible assumption
    | extract_lets +onlyGivenNames x
    | with_reducible apply judgeTime_keeps
    )

theorem execPpsEdge_keeps {t : Nat} {n : Nat} {s : State} (h : Bounds s) :
    ∀ u, execPpsEdge t n s = .next u → Bounds u := by
  intro u hu
  unfold execPpsEdge at hu
  refine timed_keeps ?_ hu h
  clear hu h
  intro s h
  repeat' (first
    | with_reducible assumption
    | (extract_lets +onlyGivenNames x; refine keeps_have (P := Bounds x) ?_ ?_; rotate_left; clear_value x; intro hx; rotate_left; unfold x; clear x)
    | (extract_lets +onlyGivenNames x; refine keeps_have (P := Bounds x.2) ?_ ?_; rotate_left; clear_value x; intro hx; rotate_left; unfold x; clear x)
    | extract_lets +onlyGivenNames x
    | with_reducible apply acceptOffset_keeps
    | with_reducible apply bigOffset_keeps
    | with_reducible apply judgeTime_keeps
    | with_reducible apply setPps_keeps
    | with_reducible apply captureEdge_keeps
    | with_reducible apply keeps_ite
    )

theorem execPpsInvalid_keeps {t : Nat} {n : Nat} {s : State} (h : Bounds s) :
    ∀ u, execPpsInvalid t n s = .next u → Bounds u := by
  intro u hu
  unfold execPpsInvalid at hu
  refine timed_keeps ?_ hu h
  clear hu h
  intro s h
  repeat' (first
    | with_reducible assumption
    | extract_lets +onlyGivenNames x
    | with_reducible apply setPps_keeps
    | with_reducible apply judgeTime_keeps
    | with_reducible apply keeps_ite
    )

theorem execPpsOut_keeps {t : Nat} {s : State} (h : Bounds s) :
    ∀ u, execPpsOut t s = .next u → Bounds u := by
  intro u hu
  unfold execPpsOut at hu
  refine timed_keeps ?_ hu h
  clear hu h
  intro s h
  repeat' (first
    | with_reducible assumption
    | (extract_lets +onlyGivenNames x; refine keeps_have (P := Bounds x) ?_ ?_; rotate_left; clear_value x; intro hx; rotate_left; unfold x; clear x)
    | extract_lets +onlyGivenNames x
    | with_reducible apply emit_keeps
    | with_reducible apply judgeTrace_keeps
    | with_reducible apply keeps_ite
    | (simp only [↓bounds_mk]; refine keeps_of ?_ rfl rfl rfl rfl rfl rfl rfl)
    )

theorem ptpSend_keeps {n : Nat} {s : State} (h : Bounds s) :
    Bounds (ptpSend n s) := by
  unfold ptpSend
  repeat' (first
    | with_reducible assumption
    | (extract_lets +onlyGivenNames x; refine keeps_have (P := Bounds x) ?_ ?_; rotate_left; clear_value x; intro hx; rotate_left; unfold x; clear x)
    | extract_lets +onlyGivenNames x
    | with_reducible apply emit_keeps
    | with_reducible apply keeps_ite
    )

theorem execTriggerFire_keeps {t : Nat} {n : Nat} {s : State} (h : Bounds s) :
    ∀ u, execTriggerFire t n s = .next u → Bounds u := by
  intro u hu
  unfold execTriggerFire at hu
  refine timed_keeps ?_ hu h
  clear hu h
  intro s h
  repeat' (first
    | with_reducible assumption
    | (extract_lets +onlyGivenNames x; refine keeps_have (P := Bounds x) ?_ ?_; rotate_left; clear_value x; intro hx; rotate_left; unfold x; clear x)
    | extract_lets +onlyGivenNames x
    | with_reducible apply emit_keeps
    | with_reducible apply ptpSend_keeps
    | with_reducible apply keeps_ite
    | (simp only [↓bounds_mk]; refine keeps_of ?_ rfl rfl rfl rfl rfl rfl rfl)
    )

theorem execTimeStatus_keeps {t : Nat} {m : Nat} {s : State} (h : Bounds s) :
    ∀ u, execTimeStatus t m s = .next u → Bounds u := by
  intro u hu
  unfold execTimeStatus at hu
  refine timed_keeps ?_ hu h
  clear hu h
  intro s h
  repeat' (first
    | with_reducible assumption
    | (intro y)
    | extract_lets +onlyGivenNames x
    | with_reducible apply statusHandler_keeps
    | with_reducible apply serve_keeps
    )

theorem execTimeEdges_keeps {t : Nat} {m : Nat} {s : State} (h : Bounds s) :
    ∀ u, execTimeEdges t m s = .next u → Bounds u := by
  intro u hu
  unfold execTimeEdges at hu
  refine timed_keeps ?_ hu h
  clear hu h
  intro s h
  repeat' (first
    | with_reducible assumption
    | (intro y)
    | extract_lets +onlyGivenNames x
    | with_reducible apply okWith_keeps
    | with_reducible apply refuse_keeps
    | with_reducible apply withLength_keeps
    | with_reducible apply serve_keeps
    | with_reducible apply keeps_ite2
    )

theorem execTimeResync_keeps {t : Nat} {m : Nat} {s : State} (h : Bounds s) :
    ∀ u, execTimeResync t m s = .next u → Bounds u := by
  intro u hu
  unfold execTimeResync at hu
  refine timed_keeps ?_ hu h
  clear hu h
  intro s h
  repeat' (first
    | with_reducible assumption
    | (intro y)
    | extract_lets +onlyGivenNames x
    | with_reducible apply ok_keeps
    | with_reducible apply setPps_keeps
    | with_reducible apply setDom_keeps
    | with_reducible apply stepCounter_keeps
    | with_reducible apply refuse_keeps
    | with_reducible apply withLength_keeps
    | with_reducible apply serve_keeps
    | with_reducible apply keeps_ite
    | (simp only [↓bounds_mk]; refine keeps_of ?_ rfl rfl rfl rfl rfl rfl rfl)
    | split
    )

theorem execTimeSet_keeps {t : Nat} {m : Nat} {s : State} (h : Bounds s) :
    ∀ u, execTimeSet t m s = .next u → Bounds u := by
  intro u hu
  unfold execTimeSet at hu
  refine timed_keeps ?_ hu h
  clear hu h
  intro s h
  repeat' (first
    | with_reducible assumption
    | (intro y)
    | extract_lets +onlyGivenNames x
    | with_reducible apply stepCounter_keeps
    | with_reducible apply ok_keeps
    | with_reducible apply refuse_keeps
    | with_reducible apply withLength_keeps
    | with_reducible apply serve_keeps
    | with_reducible apply keeps_ite2
    | split
    )

theorem timeStop_keeps {s : State} (h : Bounds s) :
    Bounds (timeStop s) := by
  unfold timeStop
  repeat' (first
    | with_reducible assumption
    | extract_lets +onlyGivenNames x
    | with_reducible apply selectSource_keeps
    | (simp only [↓bounds_mk]; refine keeps_of ?_ rfl rfl rfl rfl rfl rfl rfl)
    )

theorem timeRestart_keeps {s : State} (h : Bounds s) :
    Bounds (timeRestart s) := by
  unfold timeRestart
  repeat' (first
    | with_reducible assumption
    | extract_lets +onlyGivenNames x
    | with_reducible apply judgeTime_keeps
    | (simp only [↓bounds_mk]; refine keeps_of ?_ rfl rfl rfl rfl rfl rfl rfl)
    )

theorem judgePlane_keeps {p : Nat} {s : State} (h : Bounds s) :
    Bounds (judgePlane p s) := by
  unfold judgePlane
  repeat' (first
    | with_reducible assumption
    | extract_lets +onlyGivenNames x
    | with_reducible apply setPlane_keeps
    )

theorem planeChanged_keeps {p : Nat} {s : State} (h : Bounds s) :
    Bounds (planeChanged p s) := by
  unfold planeChanged
  repeat' (first
    | with_reducible assumption
    | with_reducible apply setPlane_keeps
    )

theorem dropAdj_keeps {p : Nat} {k : Nat} {s : State} (h : Bounds s) :
    Bounds (dropAdj p k s) := by
  unfold dropAdj
  repeat' (first
    | with_reducible assumption
    | (extract_lets +onlyGivenNames x; refine keeps_have (P := Bounds x) ?_ ?_; rotate_left; clear_value x; intro hx; rotate_left; unfold x; clear x)
    | extract_lets +onlyGivenNames x
    | with_reducible apply planeChanged_keeps
    | with_reducible apply judgePlane_keeps
    | with_reducible apply setPort_keeps
    | with_reducible apply keeps_ite
    )

theorem judgeAdj_keeps {p : Nat} {k : Nat} {s : State} (h : Bounds s) :
    Bounds (judgeAdj p k s) := by
  unfold judgeAdj
  repeat' (first
    | with_reducible assumption
    | extract_lets +onlyGivenNames x
    | with_reducible apply setPort_keeps
    | with_reducible apply planeChanged_keeps
    | with_reducible apply judgePlane_keeps
    | with_reducible apply keeps_ite
    )

theorem duplicateAddress_keeps {p : Nat} {serial : Nat} {s : State} (h : Bounds s) :
    Bounds (duplicateAddress p serial s) := by
  unfold duplicateAddress
  repeat' (first
    | with_reducible assumption
    | (intro y)
    | (extract_lets +onlyGivenNames x; refine keeps_have (P := Bounds x) ?_ ?_; rotate_left; clear_value x; intro hx; rotate_left; unfold x; clear x)
    | extract_lets +onlyGivenNames x
    | with_reducible apply changeNode_keeps
    | with_reducible apply endBinding_keeps
    | with_reducible apply eachDo_keeps
    | with_reducible apply record_keeps
    | with_reducible apply keeps_ite
    | (simp only [↓bounds_mk]; refine keeps_of ?_ rfl rfl rfl rfl rfl rfl rfl)
    )

theorem judgeString_keeps {p : Nat} {node : Nat} {s : State} (h : Bounds s) :
    Bounds (judgeString p node s) := by
  unfold judgeString
  repeat' (first
    | with_reducible assumption
    | extract_lets +onlyGivenNames x
    | with_reducible apply record_keeps
    | with_reducible apply markChanged_keeps
    | with_reducible apply keeps_ite
    | (simp only [↓bounds_mk]; refine keeps_of ?_ rfl rfl rfl rfl rfl rfl rfl)
    )

theorem noteHeard_keeps {p : Nat} {k : Nat} {node : Nat} {s : State} (h : Bounds s) :
    Bounds (noteHeard p k node s) := by
  unfold noteHeard
  repeat' (first
    | with_reducible assumption
    | (extract_lets +onlyGivenNames x; refine keeps_have (P := Bounds x) ?_ ?_; rotate_left; clear_value x; intro hx; rotate_left; unfold x; clear x)
    | extract_lets +onlyGivenNames x
    | with_reducible apply record_keeps
    | with_reducible apply dropAdj_keeps
    | with_reducible apply setPort_keeps
    | with_reducible apply keeps_ite
    )

theorem takeHello_keeps {p : Nat} {k : Nat} {a2 : List Byte} {s : State} (h : Bounds s) :
    Bounds (takeHello p k a2 s) := by
  unfold takeHello
  repeat' (first
    | with_reducible assumption
    | (extract_lets +onlyGivenNames x; refine keeps_have (P := Bounds x) ?_ ?_; rotate_left; clear_value x; intro hx; rotate_left; unfold x; clear x)
    | extract_lets +onlyGivenNames x
    | with_reducible apply judgeAdj_keeps
    | with_reducible apply setPort_keeps
    | with_reducible apply dropAdj_keeps
    | with_reducible apply noteHeard_keeps
    | with_reducible apply judgeString_keeps
    | with_reducible apply keeps_ite
    )

theorem execHelloSend_keeps {t : Nat} {p : Nat} {k : Nat} {s : State} (h : Bounds s) :
    ∀ u, execHelloSend t p k s = .next u → Bounds u := by
  intro u hu
  unfold execHelloSend at hu
  refine timed_keeps ?_ hu h
  clear hu h
  intro s h
  repeat' (first
    | with_reducible assumption
    | extract_lets +onlyGivenNames x
    | with_reducible apply sendHello_keeps
    )

theorem execHello_keeps {t : Nat} {p : Nat} {k : Nat} {a3 : List Byte} {s : State} (h : Bounds s) :
    ∀ u, execHello t p k a3 s = .next u → Bounds u := by
  intro u hu
  unfold execHello at hu
  refine timed_keeps ?_ hu h
  clear hu h
  intro s h
  repeat' (first
    | with_reducible assumption
    | extract_lets +onlyGivenNames x
    | with_reducible apply takeHello_keeps
    | with_reducible apply duplicateAddress_keeps
    | with_reducible apply keeps_ite
    )

theorem execHelloDead_keeps {t : Nat} {p : Nat} {k : Nat} {s : State} (h : Bounds s) :
    ∀ u, execHelloDead t p k s = .next u → Bounds u := by
  intro u hu
  unfold execHelloDead at hu
  refine timed_keeps ?_ hu h
  clear hu h
  intro s h
  repeat' (first
    | with_reducible assumption
    | extract_lets +onlyGivenNames x
    | with_reducible apply setPort_keeps
    | with_reducible apply dropAdj_keeps
    | with_reducible apply keeps_ite
    )

theorem execPcsSyncLoss_keeps {t : Nat} {p : Nat} {k : Nat} {s : State} (h : Bounds s) :
    ∀ u, execPcsSyncLoss t p k s = .next u → Bounds u := by
  intro u hu
  unfold execPcsSyncLoss at hu
  refine timed_keeps ?_ hu h
  clear hu h
  intro s h
  repeat' (first
    | with_reducible assumption
    | extract_lets +onlyGivenNames x
    | with_reducible apply setPort_keeps
    | with_reducible apply dropAdj_keeps
    | with_reducible apply keeps_ite
    )

theorem flood_keeps {p : Nat} {not : Nat} {a : Lsa} {s : State} (h : Bounds s) :
    Bounds (flood p not a s) := by
  unfold flood
  repeat' (first
    | with_reducible assumption
    | (intro y)
    | extract_lets +onlyGivenNames x
    | with_reducible apply onPort_keeps
    | with_reducible apply eachDo_keeps
    | with_reducible apply sendInFlow_keeps
    | with_reducible apply keeps_ite
    )

theorem storeLsa_keeps {p : Nat} {a : Lsa} {s : State} (h : Bounds s) :
    Bounds (storeLsa p a s) := by
  unfold storeLsa
  repeat' (first
    | with_reducible assumption
    | with_reducible apply setPlane_keeps
    )

theorem execLsaSend_keeps {t : Nat} {p : Nat} {s : State} (h : Bounds s) :
    ∀ u, execLsaSend t p s = .next u → Bounds u := by
  intro u hu
  unfold execLsaSend at hu
  refine timed_keeps ?_ hu h
  clear hu h
  intro s h
  repeat' (first
    | with_reducible assumption
    | extract_lets +onlyGivenNames x
    | with_reducible apply setPlane_keeps
    | with_reducible apply storeLsa_keeps
    | with_reducible apply flood_keeps
    | with_reducible apply keeps_ite
    )

theorem execLsa_keeps {t : Nat} {p : Nat} {k : Nat} {a : Lsa} {s : State} (h : Bounds s) :
    ∀ u, execLsa t p k a s = .next u → Bounds u := by
  intro u hu
  unfold execLsa at hu
  refine timed_keeps ?_ hu h
  clear hu h
  intro s h
  repeat' (first
    | with_reducible assumption
    | extract_lets +onlyGivenNames x
    | with_reducible apply judgeString_keeps
    | with_reducible apply storeLsa_keeps
    | with_reducible apply flood_keeps
    | with_reducible apply setPlane_keeps
    | with_reducible apply duplicateAddress_keeps
    | with_reducible apply keeps_ite
    )

theorem execLsaAgeOut_keeps {t : Nat} {p : Nat} {origin : Nat} {s : State} (h : Bounds s) :
    ∀ u, execLsaAgeOut t p origin s = .next u → Bounds u := by
  intro u hu
  unfold execLsaAgeOut at hu
  refine timed_keeps ?_ hu h
  clear hu h
  intro s h
  repeat' (first
    | with_reducible assumption
    | extract_lets +onlyGivenNames x
    | with_reducible apply setPlane_keeps
    )

/-- The same with a flow table that is no longer than 64. -/
theorem keeps_flows {s : State} {mbx : Mailboxes} {well : Well} {disp : Disp} {fab : Fabric} {bus : Buses} (h : Bounds s)
    (h7 : mbx.mbx = s.mbx.mbx) (h5 : well.buf = s.well.buf) (h6 : well.clears = s.well.clears) (h4 : disp.queue = s.disp.queue)
    (h3 : fab.flows.length = s.fab.flows.length) (h1 : bus.can = s.bus.can) (h2 : bus.svc.ptr = s.bus.svc.ptr) :
    BoundsOf mbx well disp fab bus := by
  unfold BoundsOf
  rw [h1, h2, h3, h4, h5, h6, h7]
  exact h

theorem moveFlows_keeps {s : State} (h : Bounds s) :
    Bounds (moveFlows s) := by
  unfold moveFlows
  repeat' (first
    | with_reducible assumption
    | (simp only [↓bounds_mk]; refine keeps_flows ?_ rfl rfl rfl rfl ?_ rfl rfl; rotate_left; exact List.length_map _; rotate_left)
    )

theorem execRouteCompute_keeps {t : Nat} {p : Nat} {s : State} (h : Bounds s) :
    ∀ u, execRouteCompute t p s = .next u → Bounds u := by
  intro u hu
  unfold execRouteCompute at hu
  refine timed_keeps ?_ hu h
  clear hu h
  intro s h
  repeat' (first
    | with_reducible assumption
    | extract_lets +onlyGivenNames x
    | with_reducible apply setPlane_keeps
    | with_reducible apply judgePlane_keeps
    | with_reducible apply moveFlows_keeps
    | with_reducible apply pinRoute_keeps
    | with_reducible apply keeps_ite
    )

theorem execFlowReturn_keeps {t : Nat} {addr : Nat} {cls : Nat} {s : State} (h : Bounds s) :
    ∀ u, execFlowReturn t addr cls s = .next u → Bounds u := by
  intro u hu
  unfold execFlowReturn at hu
  refine timed_keeps ?_ hu h
  clear hu h
  intro s h
  repeat' (first
    | with_reducible assumption
    | (simp only [↓bounds_mk]; refine keeps_flows ?_ rfl rfl rfl rfl ?_ rfl rfl; rotate_left; exact List.length_map _; rotate_left)
    )

theorem execPlaneFailed_keeps {t : Nat} {p : Nat} {s : State} (h : Bounds s) :
    ∀ u, execPlaneFailed t p s = .next u → Bounds u := by
  intro u hu
  unfold execPlaneFailed at hu
  refine timed_keeps ?_ hu h
  clear hu h
  intro s h
  repeat' (first
    | with_reducible assumption
    | (extract_lets +onlyGivenNames x; refine keeps_have (P := Bounds x) ?_ ?_; rotate_left; clear_value x; intro hx; rotate_left; unfold x; clear x)
    | extract_lets +onlyGivenNames x
    | with_reducible apply setPlane_keeps
    | with_reducible apply record_keeps
    | with_reducible apply judgePlane_keeps
    | with_reducible apply keeps_ite
    )

theorem execPlaneUp_keeps {t : Nat} {p : Nat} {s : State} (h : Bounds s) :
    ∀ u, execPlaneUp t p s = .next u → Bounds u := by
  intro u hu
  unfold execPlaneUp at hu
  refine timed_keeps ?_ hu h
  clear hu h
  intro s h
  repeat' (first
    | with_reducible assumption
    | (extract_lets +onlyGivenNames x; refine keeps_have (P := Bounds x) ?_ ?_; rotate_left; clear_value x; intro hx; rotate_left; unfold x; clear x)
    | extract_lets +onlyGivenNames x
    | with_reducible apply setPlane_keeps
    | with_reducible apply judgePlane_keeps
    | with_reducible apply keeps_ite
    )

theorem countPtp_keeps {b : List Byte} {s : State} (h : Bounds s) :
    Bounds (countPtp b s) := by
  unfold countPtp
  repeat' (first
    | with_reducible assumption
    | extract_lets +onlyGivenNames x
    | with_reducible apply keeps_ite
    | (simp only [↓bounds_mk]; refine keeps_of ?_ rfl rfl rfl rfl rfl rfl rfl)
    )

theorem receiveFrame_keeps {b : List Byte} {s : State} (h : Bounds s) :
    Bounds (receiveFrame b s) := by
  unfold receiveFrame
  repeat' (first
    | with_reducible assumption
    | (extract_lets +onlyGivenNames x; refine keeps_have (P := Bounds x) ?_ ?_; rotate_left; clear_value x; intro hx; rotate_left; unfold x; clear x)
    | with_reducible apply useFlow_keeps
    | with_reducible apply countPtp_keeps
    )

theorem transitOn_keeps {p : Nat} {out : Nat} {k : Nat} {residence : Nat} {b : List Byte} {s : State} (h : Bounds s) :
    Bounds (transitOn p out k residence b s) := by
  unfold transitOn
  repeat' (first
    | with_reducible assumption
    | with_reducible apply onPort_keeps
    )

theorem forwardFrame_keeps {p : Nat} {k : Nat} {residence : Nat} {b : List Byte} {s : State} (h : Bounds s) :
    Bounds (forwardFrame p k residence b s) := by
  unfold forwardFrame
  repeat' (first
    | with_reducible assumption
    | (intro y)
    | extract_lets +onlyGivenNames x
    | with_reducible apply setPort_keeps
    | with_reducible apply transitOn_keeps
    | with_reducible apply eachDo_keeps
    | with_reducible apply keeps_ite
    | split
    )

theorem execFabricFrameReceive_keeps {t : Nat} {p : Nat} {k : Nat} {f : FabFrame} {s : State} (h : Bounds s) :
    ∀ u, execFabricFrameReceive t p k f s = .next u → Bounds u := by
  intro u hu
  unfold execFabricFrameReceive at hu
  refine timed_keeps ?_ hu h
  clear hu h
  intro s h
  repeat' (first
    | with_reducible assumption
    | (extract_lets +onlyGivenNames x; refine keeps_have (P := Bounds x) ?_ ?_; rotate_left; clear_value x; intro hx; rotate_left; unfold x; clear x)
    | extract_lets +onlyGivenNames x
    | with_reducible apply forwardFrame_keeps
    | with_reducible apply receiveFrame_keeps
    | with_reducible apply setPort_keeps
    | with_reducible apply keeps_ite
    )

theorem servePlane_keeps {m : Nat} {op : Nat} {a2 : Nat → Request → State → Answer × State} {s : State} (ha2 : ∀ x0 x1 x2, Bounds x2 → Bounds (a2 x0 x1 x2).2) (h : Bounds s) :
    Bounds (servePlane m op a2 s) := by
  unfold servePlane
  repeat' (first
    | with_reducible assumption
    | (intro y)
    | extract_lets +onlyGivenNames x
    | with_reducible apply serve_keeps
    | apply ha2
    )

theorem execFabStatus_keeps {t : Nat} {m : Nat} {s : State} (h : Bounds s) :
    ∀ u, execFabStatus t m s = .next u → Bounds u := by
  intro u hu
  unfold execFabStatus at hu
  refine timed_keeps ?_ hu h
  clear hu h
  intro s h
  repeat' (first
    | with_reducible assumption
    | (intro y)
    | extract_lets +onlyGivenNames x
    | with_reducible apply statusHandler_keeps
    | with_reducible apply servePlane_keeps
    )

theorem execFabRoutes_keeps {t : Nat} {m : Nat} {s : State} (h : Bounds s) :
    ∀ u, execFabRoutes t m s = .next u → Bounds u := by
  intro u hu
  unfold execFabRoutes at hu
  refine timed_keeps ?_ hu h
  clear hu h
  intro s h
  repeat' (first
    | with_reducible assumption
    | (intro y)
    | extract_lets +onlyGivenNames x
    | with_reducible apply okWith_keeps
    | with_reducible apply refuse_keeps
    | with_reducible apply withLength_keeps
    | with_reducible apply servePlane_keeps
    | with_reducible apply keeps_ite2
    )

theorem execFabLsdb_keeps {t : Nat} {m : Nat} {s : State} (h : Bounds s) :
    ∀ u, execFabLsdb t m s = .next u → Bounds u := by
  intro u hu
  unfold execFabLsdb at hu
  refine timed_keeps ?_ hu h
  clear hu h
  intro s h
  repeat' (first
    | with_reducible assumption
    | (intro y)
    | extract_lets +onlyGivenNames x
    | with_reducible apply refuse_keeps
    | with_reducible apply okWith_keeps
    | with_reducible apply withLength_keeps
    | with_reducible apply servePlane_keeps
    | split
    )

theorem execFabFlows_keeps {t : Nat} {m : Nat} {s : State} (h : Bounds s) :
    ∀ u, execFabFlows t m s = .next u → Bounds u := by
  intro u hu
  unfold execFabFlows at hu
  refine timed_keeps ?_ hu h
  clear hu h
  intro s h
  repeat' (first
    | with_reducible assumption
    | (intro y)
    | extract_lets +onlyGivenNames x
    | with_reducible apply statusHandler_keeps
    | with_reducible apply servePlane_keeps
    )

theorem execFabClearCounters_keeps {t : Nat} {m : Nat} {s : State} (h : Bounds s) :
    ∀ u, execFabClearCounters t m s = .next u → Bounds u := by
  intro u hu
  unfold execFabClearCounters at hu
  refine timed_keeps ?_ hu h
  clear hu h
  intro s h
  repeat' (first
    | with_reducible assumption
    | (intro y)
    | extract_lets +onlyGivenNames x
    | with_reducible apply setPlane_keeps
    | with_reducible apply ok_keeps
    | with_reducible apply withLength_keeps
    | with_reducible apply servePlane_keeps
    )

theorem withdrawPort_keeps {p : Nat} {k : Nat} {s : State} (h : Bounds s) :
    Bounds (withdrawPort p k s) := by
  unfold withdrawPort
  repeat' (first
    | with_reducible assumption
    | extract_lets +onlyGivenNames x
    | with_reducible apply sendHello_keeps
    | with_reducible apply dropAdj_keeps
    | with_reducible apply setPort_keeps
    )

theorem closePlane_keeps {p : Nat} {s : State} (h : Bounds s) :
    Bounds (closePlane p s) := by
  unfold closePlane
  repeat' (first
    | with_reducible assumption
    | (intro y)
    | (extract_lets +onlyGivenNames x; refine keeps_have (P := Bounds x) ?_ ?_; rotate_left; clear_value x; intro hx; rotate_left; unfold x; clear x)
    | extract_lets +onlyGivenNames x
    | with_reducible apply setPlane_keeps
    | with_reducible apply judgePlane_keeps
    | with_reducible apply moveFlows_keeps
    | with_reducible apply withdrawPort_keeps
    | with_reducible apply eachDo_keeps
    )

theorem openPorts_keeps {p : Nat} {s : State} (h : Bounds s) :
    Bounds (openPorts p s) := by
  unfold openPorts
  repeat' (first
    | with_reducible assumption
    | with_reducible apply setPlane_keeps
    )

theorem withdrawFor_keeps {standby : Bool} {s : State} (h : Bounds s) :
    Bounds (withdrawFor standby s) := by
  unfold withdrawFor
  repeat' (first
    | with_reducible assumption
    | (intro y)
    | extract_lets +onlyGivenNames x
    | with_reducible apply withdrawPort_keeps
    | with_reducible apply eachDo_keeps
    | with_reducible apply keeps_ite
    )

theorem loseCtx_keeps {c : Nat} {s : State} (h : Bounds s) :
    Bounds (loseCtx c s) := by
  unfold loseCtx
  repeat' (first
    | with_reducible assumption
    | extract_lets +onlyGivenNames x
    | with_reducible apply setCtx_keeps
    | with_reducible apply record_keeps
    )

theorem choosePeriod_keeps {updated : Nat} {extra : Nat} {s : State} (h : Bounds s) :
    Bounds (choosePeriod updated extra s) := by
  unfold choosePeriod
  repeat' (first
    | with_reducible assumption
    | extract_lets +onlyGivenNames x
    | (simp only [↓bounds_mk]; refine keeps_of ?_ rfl rfl rfl rfl rfl rfl rfl)
    )

theorem serveDeferred_keeps {l : List Nat} {s : State} (h : Bounds s) :
    Bounds (serveDeferred l s) := by
  unfold serveDeferred
  repeat' (first
    | with_reducible assumption
    | (intro y)
    | extract_lets +onlyGivenNames x
    | with_reducible apply finishJob_keeps
    | with_reducible apply eachDo_keeps
    | (simp only [↓bounds_mk]; refine keeps_of ?_ rfl rfl rfl rfl rfl rfl rfl)
    | split
    )

theorem applyStaging_keeps {set : List Byte} {work : Nat} {s : State} (h : Bounds s) :
    Bounds (applyStaging set work s).1 := by
  unfold applyStaging
  repeat' (first
    | with_reducible assumption
    | extract_lets +onlyGivenNames x
    | (simp only [↓bounds_mk]; refine keeps_of ?_ rfl rfl rfl rfl rfl rfl rfl)
    | split
    )

theorem updatePeriod_keeps {errs : List Nat} {s : State} (h : Bounds s) :
    Bounds (updatePeriod errs s) := by
  unfold updatePeriod
  repeat' (first
    | with_reducible assumption
    | (intro y)
    | (extract_lets +onlyGivenNames x; refine keeps_have (P := Bounds x) ?_ ?_; rotate_left; clear_value x; intro hx; rotate_left; unfold x; clear x)
    | extract_lets +onlyGivenNames x
    | with_reducible apply record_keeps
    | with_reducible apply applyStaging_keeps
    | with_reducible apply serveDeferred_keeps
    | with_reducible apply choosePeriod_keeps
    | with_reducible apply loseCtx_keeps
    | with_reducible apply eachDo_keeps
    | with_reducible apply keeps_ite
    | (simp only [↓bounds_mk]; refine keeps_of ?_ rfl rfl rfl rfl rfl rfl rfl)
    )

theorem execEstUpdatePeriod_keeps {t : Nat} {errs : List Nat} {s : State} (h : Bounds s) :
    ∀ u, execEstUpdatePeriod t errs s = .next u → Bounds u := by
  intro u hu
  unfold execEstUpdatePeriod at hu
  refine timed_keeps ?_ hu h
  clear hu h
  intro s h
  repeat' (first
    | with_reducible assumption
    | extract_lets +onlyGivenNames x
    | with_reducible apply updatePeriod_keeps
    | with_reducible apply keeps_ite
    )

theorem saveContexts_keeps {s : State} (h : Bounds s) :
    Bounds (saveContexts s) := by
  unfold saveContexts
  repeat' (first
    | with_reducible assumption
    | extract_lets +onlyGivenNames x
    | with_reducible apply keeps_ite
    | (simp only [↓bounds_mk]; refine keeps_of ?_ rfl rfl rfl rfl rfl rfl rfl)
    )

theorem execCtxSave_keeps {t : Nat} {s : State} (h : Bounds s) :
    ∀ u, execCtxSave t s = .next u → Bounds u := by
  intro u hu
  unfold execCtxSave at hu
  refine timed_keeps ?_ hu h
  clear hu h
  intro s h
  repeat' (first
    | with_reducible assumption
    | extract_lets +onlyGivenNames x
    | with_reducible apply saveContexts_keeps
    | with_reducible apply keeps_ite
    )

theorem chargeRead_keeps {cycles : Nat} {s : State} (h : Bounds s) :
    Bounds (chargeRead cycles s) := by
  unfold chargeRead
  repeat' (first
    | with_reducible assumption
    | extract_lets +onlyGivenNames x
    | (simp only [↓bounds_mk]; refine keeps_of ?_ rfl rfl rfl rfl rfl rfl rfl)
    )

theorem ctxReadHandler_keeps {m : Nat} {a1 : Request} {a2 : State} (h : Bounds a2) :
    Bounds (ctxReadHandler m a1 a2).2 := by
  unfold ctxReadHandler
  repeat' (first
    | with_reducible assumption
    | (intro y)
    | extract_lets +onlyGivenNames x
    | with_reducible apply chargeRead_keeps
    | with_reducible apply okWith_keeps
    | with_reducible apply refuse_keeps
    | with_reducible apply withLength_keeps
    | with_reducible apply keeps_ite2
    | (simp only [↓bounds_mk]; refine keeps_of ?_ rfl rfl rfl rfl rfl rfl rfl)
    )

theorem execCtxRead_keeps {t : Nat} {m : Nat} {s : State} (h : Bounds s) :
    ∀ u, execCtxRead t m s = .next u → Bounds u := by
  intro u hu
  unfold execCtxRead at hu
  refine timed_keeps ?_ hu h
  clear hu h
  intro s h
  repeat' (first
    | with_reducible assumption
    | (intro y)
    | extract_lets +onlyGivenNames x
    | with_reducible apply ctxReadHandler_keeps
    | with_reducible apply serve_keeps
    )

theorem execCtxSummary_keeps {t : Nat} {m : Nat} {s : State} (h : Bounds s) :
    ∀ u, execCtxSummary t m s = .next u → Bounds u := by
  intro u hu
  unfold execCtxSummary at hu
  refine timed_keeps ?_ hu h
  clear hu h
  intro s h
  repeat' (first
    | with_reducible assumption
    | (intro y)
    | extract_lets +onlyGivenNames x
    | with_reducible apply statusHandler_keeps
    | with_reducible apply serve_keeps
    )

theorem eachCell_keeps {b : List Byte} {g : Ctx → Ctx} {s : State} (h : Bounds s) :
    Bounds (eachCell b g s) := by
  unfold eachCell
  repeat' (first
    | with_reducible assumption
    | extract_lets +onlyGivenNames x
    | (simp only [↓bounds_mk]; refine keeps_of ?_ rfl rfl rfl rfl rfl rfl rfl)
    )

theorem ctxReinitHandler_keeps {a0 : Request} {a1 : State} (h : Bounds a1) :
    Bounds (ctxReinitHandler a0 a1).2 := by
  unfold ctxReinitHandler
  repeat' (first
    | with_reducible assumption
    | (intro y)
    | extract_lets +onlyGivenNames x
    | with_reducible apply eachCell_keeps
    | with_reducible apply record_keeps
    | with_reducible apply ok_keeps
    | with_reducible apply refuse_keeps
    | with_reducible apply withLength_keeps
    | with_reducible apply keeps_ite2
    | split
    )

theorem execCtxReinit_keeps {t : Nat} {m : Nat} {s : State} (h : Bounds s) :
    ∀ u, execCtxReinit t m s = .next u → Bounds u := by
  intro u hu
  unfold execCtxReinit at hu
  refine timed_keeps ?_ hu h
  clear hu h
  intro s h
  repeat' (first
    | with_reducible assumption
    | (intro y)
    | extract_lets +onlyGivenNames x
    | with_reducible apply ctxReinitHandler_keeps
    | with_reducible apply serve_keeps
    )

theorem ctxCellsHandler_keeps {a0 : Request} {a1 : State} (h : Bounds a1) :
    Bounds (ctxCellsHandler a0 a1).2 := by
  unfold ctxCellsHandler
  repeat' (first
    | with_reducible assumption
    | (intro y)
    | (extract_lets +onlyGivenNames x; refine keeps_have (P := Bounds x) ?_ ?_; rotate_left; clear_value x; intro hx; rotate_left; unfold x; clear x)
    | extract_lets +onlyGivenNames x
    | with_reducible apply ok_keeps
    | with_reducible apply setPos_keeps
    | with_reducible apply refuse_keeps
    | with_reducible apply withLength_keeps
    | with_reducible apply keeps_ite2
    | (simp only [↓bounds_mk]; refine keeps_of ?_ rfl rfl rfl rfl rfl rfl rfl)
    )

theorem execCtxCells_keeps {t : Nat} {m : Nat} {s : State} (h : Bounds s) :
    ∀ u, execCtxCells t m s = .next u → Bounds u := by
  intro u hu
  unfold execCtxCells at hu
  refine timed_keeps ?_ hu h
  clear hu h
  intro s h
  repeat' (first
    | with_reducible assumption
    | (intro y)
    | extract_lets +onlyGivenNames x
    | with_reducible apply ctxCellsHandler_keeps
    | with_reducible apply serve_keeps
    )

theorem capSetHandler_keeps {a0 : Request} {a1 : State} (h : Bounds a1) :
    Bounds (capSetHandler a0 a1).2 := by
  unfold capSetHandler
  repeat' (first
    | with_reducible assumption
    | (intro y)
    | extract_lets +onlyGivenNames x
    | with_reducible apply eachCell_keeps
    | with_reducible apply ok_keeps
    | with_reducible apply refuse_keeps
    | with_reducible apply withLength_keeps
    | split
    )

theorem execCapSet_keeps {t : Nat} {m : Nat} {s : State} (h : Bounds s) :
    ∀ u, execCapSet t m s = .next u → Bounds u := by
  intro u hu
  unfold execCapSet at hu
  refine timed_keeps ?_ hu h
  clear hu h
  intro s h
  repeat' (first
    | with_reducible assumption
    | (intro y)
    | extract_lets +onlyGivenNames x
    | with_reducible apply capSetHandler_keeps
    | with_reducible apply serve_keeps
    )

theorem chemReadHandler_keeps {a0 : Request} {a1 : State} (h : Bounds a1) :
    Bounds (chemReadHandler a0 a1).2 := by
  unfold chemReadHandler
  repeat' (first
    | with_reducible assumption
    | (intro y)
    | extract_lets +onlyGivenNames x
    | with_reducible apply okWith_keeps
    | with_reducible apply refuse_keeps
    | with_reducible apply withLength_keeps
    | with_reducible apply keeps_ite2
    )

theorem execChemRead_keeps {t : Nat} {m : Nat} {s : State} (h : Bounds s) :
    ∀ u, execChemRead t m s = .next u → Bounds u := by
  intro u hu
  unfold execChemRead at hu
  refine timed_keeps ?_ hu h
  clear hu h
  intro s h
  repeat' (first
    | with_reducible assumption
    | (intro y)
    | extract_lets +onlyGivenNames x
    | with_reducible apply chemReadHandler_keeps
    | with_reducible apply serve_keeps
    )

theorem chemWriteHandler_keeps {r : Request} {s : State} (h : Bounds s) :
    Bounds (chemWriteHandler r s).2 := by
  unfold chemWriteHandler
  repeat' (first
    | with_reducible assumption
    | extract_lets +onlyGivenNames x
    | with_reducible apply ok_keeps
    | with_reducible apply refuse_keeps
    | with_reducible apply keeps_ite2
    | (simp only [↓bounds_mk]; refine keeps_of ?_ rfl rfl rfl rfl rfl rfl rfl)
    )

theorem execChemWrite_keeps {t : Nat} {m : Nat} {s : State} (h : Bounds s) :
    ∀ u, execChemWrite t m s = .next u → Bounds u := by
  intro u hu
  unfold execChemWrite at hu
  refine timed_keeps ?_ hu h
  clear hu h
  intro s h
  repeat' (first
    | with_reducible assumption
    | (intro y)
    | extract_lets +onlyGivenNames x
    | with_reducible apply chemWriteHandler_keeps
    | with_reducible apply serve_keeps
    )

theorem ctxClearFlagsHandler_keeps {a0 : Request} {a1 : State} (h : Bounds a1) :
    Bounds (ctxClearFlagsHandler a0 a1).2 := by
  unfold ctxClearFlagsHandler
  repeat' (first
    | with_reducible assumption
    | (intro y)
    | extract_lets +onlyGivenNames x
    | with_reducible apply eachCell_keeps
    | with_reducible apply ok_keeps
    | with_reducible apply refuse_keeps
    | with_reducible apply withLength_keeps
    | with_reducible apply keeps_ite2
    | split
    )

theorem execCtxClearFlags_keeps {t : Nat} {m : Nat} {s : State} (h : Bounds s) :
    ∀ u, execCtxClearFlags t m s = .next u → Bounds u := by
  intro u hu
  unfold execCtxClearFlags at hu
  refine timed_keeps ?_ hu h
  clear hu h
  intro s h
  repeat' (first
    | with_reducible assumption
    | (intro y)
    | extract_lets +onlyGivenNames x
    | with_reducible apply ctxClearFlagsHandler_keeps
    | with_reducible apply serve_keeps
    )

theorem restoreContexts_keeps {rtcOk : Bool} {s : State} (h : Bounds s) :
    Bounds (restoreContexts rtcOk s) := by
  unfold restoreContexts
  repeat' (first
    | with_reducible assumption
    | extract_lets +onlyGivenNames x
    | (simp only [↓bounds_mk]; refine keeps_of ?_ rfl rfl rfl rfl rfl rfl rfl)
    | split
    )

theorem execImpSetup_keeps {t : Nat} {q : TapReq} {s : State} (h : Bounds s) :
    ∀ u, execImpSetup t q s = .next u → Bounds u := by
  intro u hu
  unfold execImpSetup at hu
  refine timed_keeps ?_ hu h
  clear hu h
  intro s h
  repeat' (first
    | with_reducible assumption
    | (intro y)
    | (extract_lets +onlyGivenNames x; refine keeps_have (P := Bounds x) ?_ ?_; rotate_left; clear_value x; intro hx; rotate_left; unfold x; clear x)
    | extract_lets +onlyGivenNames x
    | with_reducible apply setTap_keeps
    | with_reducible apply atTap_keeps
    | with_reducible apply withPayload_keeps
    | with_reducible apply tapAfter_ite
    | with_reducible apply tapAfter_reply
    | with_reducible apply tapAfter_reject
    | with_reducible apply keeps_ite
    )

theorem execImpWindow_keeps {t : Nat} {q : TapReq} {s : State} (h : Bounds s) :
    ∀ u, execImpWindow t q s = .next u → Bounds u := by
  intro u hu
  unfold execImpWindow at hu
  refine timed_keeps ?_ hu h
  clear hu h
  intro s h
  repeat' (first
    | with_reducible assumption
    | (intro y)
    | (extract_lets +onlyGivenNames x; refine keeps_have (P := Bounds x) ?_ ?_; rotate_left; clear_value x; intro hx; rotate_left; unfold x; clear x)
    | extract_lets +onlyGivenNames x
    | with_reducible apply setTap_keeps
    | with_reducible apply atTap_keeps
    | with_reducible apply withPayload_keeps
    | with_reducible apply tapAfter_ite
    | with_reducible apply tapAfter_reply
    | with_reducible apply keeps_ite
    | (simp only [↓bounds_mk]; refine keeps_of ?_ rfl rfl rfl rfl rfl rfl rfl)
    )

theorem deliverPhasors_keeps {s : State} (h : Bounds s) :
    Bounds (deliverPhasors s) := by
  unfold deliverPhasors
  repeat' (first
    | with_reducible assumption
    | (extract_lets +onlyGivenNames x; refine keeps_have (P := Bounds x) ?_ ?_; rotate_left; clear_value x; intro hx; rotate_left; unfold x; clear x)
    | extract_lets +onlyGivenNames x
    | with_reducible apply record_keeps
    | with_reducible apply keeps_ite
    | (simp only [↓bounds_mk]; refine keeps_of ?_ rfl rfl rfl rfl rfl rfl rfl)
    )

theorem readDone_keeps {i : Nat} {s : State} (h : Bounds s) :
    Bounds (readDone i s) := by
  unfold readDone
  repeat' (first
    | with_reducible assumption
    | (extract_lets +onlyGivenNames x; refine keeps_have (P := Bounds x) ?_ ?_; rotate_left; clear_value x; intro hx; rotate_left; unfold x; clear x)
    | extract_lets +onlyGivenNames x
    | with_reducible apply deliverPhasors_keeps
    | with_reducible apply keeps_ite
    | (simp only [↓bounds_mk]; refine keeps_of ?_ rfl rfl rfl rfl rfl rfl rfl)
    )

theorem collectPhasors_keeps {i : Nat} {valid : Nat} {ph : List (List (Int × Int))} {s : State} (h : Bounds s) :
    Bounds (collectPhasors i valid ph s) := by
  unfold collectPhasors
  repeat' (first
    | with_reducible assumption
    | extract_lets +onlyGivenNames x
    | (simp only [↓bounds_mk]; refine keeps_of ?_ rfl rfl rfl rfl rfl rfl rfl)
    )

theorem execImpRead_keeps {t : Nat} {q : TapReq} {s : State} (h : Bounds s) :
    ∀ u, execImpRead t q s = .next u → Bounds u := by
  intro u hu
  unfold execImpRead at hu
  refine timed_keeps ?_ hu h
  clear hu h
  intro s h
  repeat' (first
    | with_reducible assumption
    | (intro y)
    | (extract_lets +onlyGivenNames x; refine keeps_have (P := Bounds x) ?_ ?_; rotate_left; clear_value x; intro hx; rotate_left; unfold x; clear x)
    | extract_lets +onlyGivenNames x
    | with_reducible apply collectPhasors_keeps
    | with_reducible apply readDone_keeps
    | with_reducible apply atTap_keeps
    | with_reducible apply withPayload_keeps
    | with_reducible apply tapAfter_reply
    | with_reducible apply keeps_ite
    )

theorem execTapImpLineLoss_keeps {t : Nat} {i : Nat} {quiet : Nat} {s : State} (h : Bounds s) :
    ∀ u, execTapImpLineLoss t i quiet s = .next u → Bounds u := by
  intro u hu
  unfold execTapImpLineLoss at hu
  refine timed_keeps ?_ hu h
  clear hu h
  intro s h
  repeat' (first
    | with_reducible assumption
    | extract_lets +onlyGivenNames x
    | with_reducible apply setTap_keeps
    | with_reducible apply keeps_ite
    )

theorem judgeSpectrum_keeps {s : State} (h : Bounds s) :
    Bounds (judgeSpectrum s) := by
  have k : ∀ q : Bool, Bounds (let s := if q && !s.imp.blocked then record Ev.impSpectrumBlocked 3 [] s else s
    ({ s with imp.blocked := q } : State)) := by
    intro q
    generalize hh : (if q && !s.imp.blocked then record Ev.impSpectrumBlocked 3 [] s else s) = z
    have : Bounds z := by
      rw [← hh]
      split
      · exact record_keeps h
      · exact h
    exact this
  exact k _

theorem keeps_imp {s : State} (h : Bounds s) (c : Bool) (i : Imp) : Bounds (if c = true then s else { s with imp := i }) := by
  split
  · exact h
  · exact h

theorem execImpLeadStart_keeps {t : Nat} {s : State} (h : Bounds s) :
    ∀ u, execImpLeadStart t s = .next u → Bounds u := by
  intro u hu
  unfold execImpLeadStart at hu
  refine timed_keeps ?_ hu h
  clear hu h
  intro s h
  split
  · exact h
  · have k := judgeSpectrum_keeps h
    generalize judgeSpectrum s = z at k ⊢
    exact keeps_imp k _ _

theorem execImpWindowStart_keeps {t : Nat} {s : State} (h : Bounds s) :
    ∀ u, execImpWindowStart t s = .next u → Bounds u := by
  intro u hu
  unfold execImpWindowStart at hu
  refine timed_keeps ?_ hu h
  clear hu h
  intro s h
  repeat' (first
    | with_reducible assumption
    | extract_lets +onlyGivenNames x
    | with_reducible apply impAbort_keeps
    | with_reducible apply keeps_ite
    | (simp only [↓bounds_mk]; refine keeps_of ?_ rfl rfl rfl rfl rfl rfl rfl)
    | split
    )

theorem execImpWindowEnd_keeps {t : Nat} {xs : List Int} {s : State} (h : Bounds s) :
    ∀ u, execImpWindowEnd t xs s = .next u → Bounds u := by
  intro u hu
  unfold execImpWindowEnd at hu
  refine timed_keeps ?_ hu h
  clear hu h
  intro s h
  repeat' (first
    | with_reducible assumption
    | (extract_lets +onlyGivenNames x; refine keeps_have (P := Bounds x) ?_ ?_; rotate_left; clear_value x; intro hx; rotate_left; unfold x; clear x)
    | extract_lets +onlyGivenNames x
    | with_reducible apply keeps_ite
    | (simp only [↓bounds_mk]; refine keeps_of ?_ rfl rfl rfl rfl rfl rfl rfl)
    )

theorem impFrames_keeps {r : Nat} {s : State} (h : Bounds s) :
    Bounds (impFrames r s) := by
  unfold impFrames
  repeat' (first
    | with_reducible assumption
    | (intro y)
    | (extract_lets +onlyGivenNames x; refine keeps_have (P := Bounds x) ?_ ?_; rotate_left; clear_value x; intro hx; rotate_left; unfold x; clear x)
    | extract_lets +onlyGivenNames x
    | with_reducible apply readDone_keeps
    | with_reducible apply sendTap_keeps
    | with_reducible apply eachDo_keeps
    | with_reducible apply keeps_ite
    | (simp only [↓bounds_mk]; refine keeps_of ?_ rfl rfl rfl rfl rfl rfl rfl)
    | split
    )

theorem execImpStatus_keeps {t : Nat} {m : Nat} {s : State} (h : Bounds s) :
    ∀ u, execImpStatus t m s = .next u → Bounds u := by
  intro u hu
  unfold execImpStatus at hu
  refine timed_keeps ?_ hu h
  clear hu h
  intro s h
  repeat' (first
    | with_reducible assumption
    | (intro y)
    | extract_lets +onlyGivenNames x
    | with_reducible apply statusHandler_keeps
    | with_reducible apply serve_keeps
    )

theorem impResultsHandler_keeps {a0 : Request} {a1 : State} (h : Bounds a1) :
    Bounds (impResultsHandler a0 a1).2 := by
  unfold impResultsHandler
  repeat' (first
    | with_reducible assumption
    | (intro y)
    | extract_lets +onlyGivenNames x
    | with_reducible apply okWith_keeps
    | with_reducible apply refuse_keeps
    | with_reducible apply withLength_keeps
    | with_reducible apply keeps_ite2
    )

theorem execImpResults_keeps {t : Nat} {m : Nat} {s : State} (h : Bounds s) :
    ∀ u, execImpResults t m s = .next u → Bounds u := by
  intro u hu
  unfold execImpResults at hu
  refine timed_keeps ?_ hu h
  clear hu h
  intro s h
  repeat' (first
    | with_reducible assumption
    | (intro y)
    | extract_lets +onlyGivenNames x
    | with_reducible apply impResultsHandler_keeps
    | with_reducible apply serve_keeps
    )

theorem execImpSpectrumNow_keeps {t : Nat} {m : Nat} {s : State} (h : Bounds s) :
    ∀ u, execImpSpectrumNow t m s = .next u → Bounds u := by
  intro u hu
  unfold execImpSpectrumNow at hu
  refine timed_keeps ?_ hu h
  clear hu h
  intro s h
  repeat' (first
    | with_reducible assumption
    | (intro y)
    | extract_lets +onlyGivenNames x
    | with_reducible apply ok_keeps
    | with_reducible apply refuse_keeps
    | with_reducible apply withLength_keeps
    | with_reducible apply serve_keeps
    | with_reducible apply keeps_ite2
    | (simp only [↓bounds_mk]; refine keeps_of ?_ rfl rfl rfl rfl rfl rfl rfl)
    )

end Sys2Proof.Machine
end

