-- ==== Sys2Proof/Laws/BoundsRing.lean ====
section
/-!
SUPPORT. Laws/BoundsRing.lean: the operations of Ring, Contactors, Islands, Recorder, Thermal keep the bounds, as Laws/Bounds.lean says it of the earlier ones.
-/

set_option linter.all false

namespace Sys2Proof.Machine

open Sys2Proof

theorem judgeChem_keeps {s : State} (h : Bounds s) :
    Bounds (judgeChem s) := by
  unfold judgeChem
  repeat' (first
    | with_reducible assumption
    | (extract_lets +onlyGivenNames x; refine keeps_have (P := Bounds x) ?_ ?_; rotate_left; clear_value x; intro hx; rotate_left; unfold x; clear x)
    | extract_lets +onlyGivenNames x
    | with_reducible apply record_keeps
    | with_reducible apply keeps_ite
    | (simp only [↓bounds_mk]; refine keeps_of ?_ rfl rfl rfl rfl rfl rfl rfl)
    )

theorem judgeEff_keeps {s : State} (h : Bounds s) :
    Bounds (judgeEff s) := by
  unfold judgeEff
  repeat' (first
    | with_reducible assumption
    | extract_lets +onlyGivenNames x
    | (simp only [↓bounds_mk]; refine keeps_of ?_ rfl rfl rfl rfl rfl rfl rfl)
    )

theorem sendThresholds_keeps {r : Nat} {s : State} (h : Bounds s) :
    Bounds (sendThresholds r s) := by
  unfold sendThresholds
  repeat' (first
    | with_reducible assumption
    | (intro y)
    | extract_lets +onlyGivenNames x
    | with_reducible apply record_keeps
    | with_reducible apply setPos_keeps
    | with_reducible apply sendTap_keeps
    | with_reducible apply setTap_keeps
    | with_reducible apply eachDo_keeps
    | with_reducible apply keeps_ite
    | (simp only [↓bounds_mk]; refine keeps_of ?_ rfl rfl rfl rfl rfl rfl rfl)
    | split
    )

theorem applyThresholds_keeps {s : State} (h : Bounds s) :
    Bounds (applyThresholds s) := by
  unfold applyThresholds
  repeat' (first
    | with_reducible assumption
    | extract_lets +onlyGivenNames x
    | with_reducible apply judgeEff_keeps
    | (simp only [↓bounds_mk]; refine keeps_of ?_ rfl rfl rfl rfl rfl rfl rfl)
    )

theorem replaceTap_keeps {r : Nat} {p : Nat} {s : State} (h : Bounds s) :
    Bounds (replaceTap r p s) := by
  unfold replaceTap
  repeat' (first
    | with_reducible assumption
    | (extract_lets +onlyGivenNames x; refine keeps_have (P := Bounds x) ?_ ?_; rotate_left; clear_value x; intro hx; rotate_left; unfold x; clear x)
    | extract_lets +onlyGivenNames x
    | with_reducible apply setPos_keeps
    | with_reducible apply record_keeps
    | (simp only [↓bounds_mk]; refine keeps_of ?_ rfl rfl rfl rfl rfl rfl rfl)
    )

theorem meetTap_keeps {r : Nat} {p : Nat} {low : Bool} {o : TapObs} {s : State} (h : Bounds s) :
    Bounds (meetTap r p low o s) := by
  unfold meetTap
  repeat' (first
    | with_reducible assumption
    | (intro y)
    | (extract_lets +onlyGivenNames x; refine keeps_have (P := Bounds x) ?_ ?_; rotate_left; clear_value x; intro hx; rotate_left; unfold x; clear x)
    | extract_lets +onlyGivenNames x
    | with_reducible apply record_keeps
    | with_reducible apply eachDo_keeps
    | with_reducible apply replaceTap_keeps
    | with_reducible apply setPos_keeps
    | with_reducible apply setTap_keeps
    | with_reducible apply keeps_ite
    )

theorem setWaits_keeps {r : Nat} {s : State} (h : Bounds s) :
    Bounds (setWaits r s) := by
  unfold setWaits
  repeat' (first
    | with_reducible assumption
    | (intro y)
    | extract_lets +onlyGivenNames x
    | with_reducible apply setPos_keeps
    | with_reducible apply setTap_keeps
    | with_reducible apply eachDo_keeps
    )

theorem markUnreachable_keeps {r : Nat} {s : State} (h : Bounds s) :
    Bounds (markUnreachable r s) := by
  unfold markUnreachable
  repeat' (first
    | with_reducible assumption
    | (intro y)
    | extract_lets +onlyGivenNames x
    | with_reducible apply setPos_keeps
    | with_reducible apply eachDo_keeps
    )

theorem markFitted_keeps {s : State} (h : Bounds s) :
    Bounds (markFitted s) := by
  unfold markFitted
  repeat' (first
    | with_reducible assumption
    | extract_lets +onlyGivenNames x
    | (simp only [↓bounds_mk]; refine keeps_of ?_ rfl rfl rfl rfl rfl rfl rfl)
    )

theorem identifyOutward_keeps {r : Nat} {low : Bool} {answered : Nat} {n : Nat} {s : State} (h : Bounds s) :
    Bounds (identifyOutward r low answered n s) := by
  unfold identifyOutward
  repeat' (first
    | with_reducible assumption
    | (intro y)
    | extract_lets +onlyGivenNames x
    | with_reducible apply ringSend_keeps
    | with_reducible apply eachDo_keeps
    )

theorem enumIdentify_keeps {r : Nat} {n : Nat} {whole : Bool} {o : RingObs} {s : State} (h : Bounds s) :
    Bounds (enumIdentify r n whole o s) := by
  unfold enumIdentify
  repeat' (first
    | with_reducible assumption
    | (intro y)
    | (extract_lets +onlyGivenNames x; refine keeps_have (P := Bounds x) ?_ ?_; rotate_left; clear_value x; intro hx; rotate_left; unfold x; clear x)
    | extract_lets +onlyGivenNames x
    | with_reducible apply sendProbes_keeps
    | with_reducible apply identifyOutward_keeps
    | with_reducible apply sendTap_keeps
    | with_reducible apply eachDo_keeps
    | with_reducible apply keeps_ite
    )

theorem enumSetUp_keeps {r : Nat} {s : State} (h : Bounds s) :
    Bounds (enumSetUp r s) := by
  unfold enumSetUp
  repeat' (first
    | with_reducible assumption
    | (intro y)
    | (extract_lets +onlyGivenNames x; refine keeps_have (P := Bounds x) ?_ ?_; rotate_left; clear_value x; intro hx; rotate_left; unfold x; clear x)
    | extract_lets +onlyGivenNames x
    | with_reducible apply sendThresholds_keeps
    | with_reducible apply sendAll_keeps
    | with_reducible apply sendTap_keeps
    | with_reducible apply eachDo_keeps
    )

theorem blankBeyond_keeps {r : Nat} {n : Nat} {s : State} (h : Bounds s) :
    Bounds (blankBeyond r n s) := by
  unfold blankBeyond
  repeat' (first
    | with_reducible assumption
    | extract_lets +onlyGivenNames x
    | (simp only [↓bounds_mk]; refine keeps_of ?_ rfl rfl rfl rfl rfl rfl rfl)
    )

theorem enumerate_keeps {r : Nat} {o : RingObs} {s : State} (h : Bounds s) :
    Bounds (enumerate r o s) := by
  unfold enumerate
  repeat' (first
    | with_reducible assumption
    | (intro y)
    | (extract_lets +onlyGivenNames x; refine keeps_have (P := Bounds x) ?_ ?_; rotate_left; clear_value x; intro hx; rotate_left; unfold x; clear x)
    | extract_lets +onlyGivenNames x
    | with_reducible apply markFitted_keeps
    | with_reducible apply judgeChem_keeps
    | with_reducible apply markUnreachable_keeps
    | with_reducible apply setWaits_keeps
    | with_reducible apply applyThresholds_keeps
    | with_reducible apply enumSetUp_keeps
    | with_reducible apply meetTap_keeps
    | with_reducible apply eachDo_keeps
    | with_reducible apply enumIdentify_keeps
    | with_reducible apply blankBeyond_keeps
    | with_reducible apply record_keeps
    | with_reducible apply ringSend_keeps
    | with_reducible apply setRing_keeps
    | with_reducible apply keeps_ite
    | (simp only [↓bounds_mk]; refine keeps_of ?_ rfl rfl rfl rfl rfl rfl rfl)
    | split
    | clear_value *
    )

theorem ringRestarted_keeps {s : State} (h : Bounds s) :
    Bounds (ringRestarted s) := by
  unfold ringRestarted
  repeat' (first
    | with_reducible assumption
    | extract_lets +onlyGivenNames x
    | with_reducible apply setFn_keeps
    | with_reducible apply finishJob_keeps
    | with_reducible apply keeps_ite
    )

theorem execEnumeration_keeps {t : Nat} {r : Nat} {o : RingObs} {lost : List Nat} {s : State} (h : Bounds s) :
    ∀ u, execEnumeration t r o lost s = .next u → Bounds u := by
  intro u hu
  unfold execEnumeration at hu
  refine timed_keeps ?_ hu h
  clear hu h
  intro s h
  repeat' (first
    | with_reducible assumption
    | (intro y)
    | (extract_lets +onlyGivenNames x; refine keeps_have (P := Bounds x) ?_ ?_; rotate_left; clear_value x; intro hx; rotate_left; unfold x; clear x)
    | extract_lets +onlyGivenNames x
    | with_reducible apply ringRestarted_keeps
    | with_reducible apply enumerate_keeps
    | with_reducible apply loseCtx_keeps
    | with_reducible apply eachDo_keeps
    | with_reducible apply keeps_ite
    | (simp only [↓bounds_mk]; refine keeps_of ?_ rfl rfl rfl rfl rfl rfl rfl)
    )

theorem execReEnumerate_keeps {t : Nat} {m : Nat} {a : RingObs} {b : RingObs} {s : State} (h : Bounds s) :
    ∀ u, execReEnumerate t m a b s = .next u → Bounds u := by
  intro u hu
  unfold execReEnumerate at hu
  refine timed_keeps ?_ hu h
  clear hu h
  intro s h
  repeat' (first
    | with_reducible assumption
    | (intro y)
    | extract_lets +onlyGivenNames x
    | with_reducible apply impAbort_keeps
    | with_reducible apply enumerate_keeps
    | with_reducible apply ok_keeps
    | with_reducible apply refuse_keeps
    | with_reducible apply withLength_keeps
    | with_reducible apply serve_keeps
    | with_reducible apply keeps_ite2
    )

theorem stretch_keeps {T : Nat} {s : State} (h : Bounds s) :
    Bounds (stretch T s) := by
  unfold stretch
  repeat' (first
    | with_reducible assumption
    | extract_lets +onlyGivenNames x
    | (simp only [↓bounds_mk]; refine keeps_of ?_ rfl rfl rfl rfl rfl rfl rfl)
    )

theorem markRing_keeps {r : Nat} {T : Nat} {s : State} (h : Bounds s) :
    Bounds (markRing r T s) := by
  unfold markRing
  repeat' (first
    | with_reducible assumption
    | (extract_lets +onlyGivenNames x; refine keeps_have (P := Bounds x) ?_ ?_; rotate_left; clear_value x; intro hx; rotate_left; unfold x; clear x)
    | extract_lets +onlyGivenNames x
    | with_reducible apply ringSend_keeps
    | with_reducible apply emit_keeps
    | with_reducible apply setRing_keeps
    | with_reducible apply keeps_ite
    | (simp only [↓bounds_mk]; refine keeps_of ?_ rfl rfl rfl rfl rfl rfl rfl)
    )

theorem takePeriod_keeps {s : State} (h : Bounds s) :
    Bounds (takePeriod s) := by
  unfold takePeriod
  repeat' (first
    | with_reducible assumption
    | (extract_lets +onlyGivenNames x; refine keeps_have (P := Bounds x) ?_ ?_; rotate_left; clear_value x; intro hx; rotate_left; unfold x; clear x)
    | extract_lets +onlyGivenNames x
    | with_reducible apply impAbort_keeps
    | with_reducible apply setPeriodic_keeps
    | with_reducible apply keeps_ite
    | (simp only [↓bounds_mk]; refine keeps_of ?_ rfl rfl rfl rfl rfl rfl rfl)
    | split
    )

theorem beginSweep_keeps {T : Nat} {i2 : Option Int × Option Int} {s : State} (h : Bounds s) :
    Bounds (beginSweep T i2 s) := by
  unfold beginSweep
  repeat' (first
    | with_reducible assumption
    | extract_lets +onlyGivenNames x
    | (simp only [↓bounds_mk]; refine keeps_of ?_ rfl rfl rfl rfl rfl rfl rfl)
    )

theorem startSweep_keeps {T : Nat} {i2 : Option Int × Option Int} {rs : List Nat} {s : State} (h : Bounds s) :
    Bounds (startSweep T i2 rs s) := by
  unfold startSweep
  repeat' (first
    | with_reducible assumption
    | (intro y)
    | extract_lets +onlyGivenNames x
    | with_reducible apply beginSweep_keeps
    | with_reducible apply markRing_keeps
    | with_reducible apply eachDo_keeps
    )

theorem execSweepMark_keeps {t : Nat} {shunt2 : Option Int} {hall2 : Option Int} {s : State} (h : Bounds s) :
    ∀ u, execSweepMark t shunt2 hall2 s = .next u → Bounds u := by
  intro u hu
  unfold execSweepMark at hu
  refine timed_keeps ?_ hu h
  clear hu h
  intro s h
  repeat' (first
    | with_reducible assumption
    | (extract_lets +onlyGivenNames x; refine keeps_have (P := Bounds x) ?_ ?_; rotate_left; clear_value x; intro hx; rotate_left; unfold x; clear x)
    | extract_lets +onlyGivenNames x
    | with_reducible apply startSweep_keeps
    | with_reducible apply takePeriod_keeps
    | with_reducible apply stretch_keeps
    | with_reducible apply keeps_ite
    )

theorem execSweepStretched_keeps {t : Nat} {r : Nat} {s : State} (h : Bounds s) :
    ∀ u, execSweepStretched t r s = .next u → Bounds u := by
  intro u hu
  unfold execSweepStretched at hu
  refine timed_keeps ?_ hu h
  clear hu h
  intro s h
  repeat' (first
    | with_reducible assumption
    | extract_lets +onlyGivenNames x
    | with_reducible apply setRing_keeps
    | with_reducible apply record_keeps
    | with_reducible apply keeps_ite
    | split
    )

theorem assemble_keeps {s : State} (h : Bounds s) :
    Bounds (assemble s) := by
  unfold assemble
  repeat' (first
    | with_reducible assumption
    | extract_lets +onlyGivenNames x
    | with_reducible apply keeps_ite
    | (simp only [↓bounds_mk]; refine keeps_of ?_ rfl rfl rfl rfl rfl rfl rfl)
    | split
    )

theorem endCollection_keeps {r : Nat} {s : State} (h : Bounds s) :
    Bounds (endCollection r s) := by
  unfold endCollection
  repeat' (first
    | with_reducible assumption
    | (extract_lets +onlyGivenNames x; refine keeps_have (P := Bounds x) ?_ ?_; rotate_left; clear_value x; intro hx; rotate_left; unfold x; clear x)
    | extract_lets +onlyGivenNames x
    | with_reducible apply assemble_keeps
    | with_reducible apply setRing_keeps
    | with_reducible apply keeps_ite
    | (simp only [↓bounds_mk]; refine keeps_of ?_ rfl rfl rfl rfl rfl rfl rfl)
    )

theorem locate_keeps {r : Nat} {s : State} (h : Bounds s) :
    Bounds (locate r s) := by
  unfold locate
  repeat' (first
    | with_reducible assumption
    | (extract_lets +onlyGivenNames x; refine keeps_have (P := Bounds x) ?_ ?_; rotate_left; clear_value x; intro hx; rotate_left; unfold x; clear x)
    | extract_lets +onlyGivenNames x
    | with_reducible apply markUnreachable_keeps
    | with_reducible apply record_keeps
    | with_reducible apply setRing_keeps
    | with_reducible apply keeps_ite
    )

theorem pollsEnded_keeps {r : Nat} {s : State} (h : Bounds s) :
    Bounds (pollsEnded r s) := by
  unfold pollsEnded
  repeat' (first
    | with_reducible assumption
    | (extract_lets +onlyGivenNames x; refine keeps_have (P := Bounds x) ?_ ?_; rotate_left; clear_value x; intro hx; rotate_left; unfold x; clear x)
    | extract_lets +onlyGivenNames x
    | with_reducible apply endCollection_keeps
    | with_reducible apply locate_keeps
    | with_reducible apply keeps_ite
    )

theorem declareBreak_keeps {r : Nat} {resend : Bool} {s : State} (h : Bounds s) :
    Bounds (declareBreak r resend s) := by
  unfold declareBreak
  repeat' (first
    | with_reducible assumption
    | (extract_lets +onlyGivenNames x; refine keeps_have (P := Bounds x) ?_ ?_; rotate_left; clear_value x; intro hx; rotate_left; unfold x; clear x)
    | extract_lets +onlyGivenNames x
    | with_reducible apply ringSend_keeps
    | with_reducible apply emit_keeps
    | with_reducible apply setRing_keeps
    | with_reducible apply keeps_ite
    )

theorem execRingBreak_keeps {t : Nat} {r : Nat} {waited : Nat} {isMark : Bool} {s : State} (h : Bounds s) :
    ∀ u, execRingBreak t r waited isMark s = .next u → Bounds u := by
  intro u hu
  unfold execRingBreak at hu
  refine timed_keeps ?_ hu h
  clear hu h
  intro s h
  repeat' (first
    | with_reducible assumption
    | extract_lets +onlyGivenNames x
    | with_reducible apply declareBreak_keeps
    | with_reducible apply keeps_ite
    )

theorem nextPoll_keeps {r : Nat} {high : Bool} {s : State} (h : Bounds s) :
    Bounds (nextPoll r high s) := by
  unfold nextPoll
  repeat' (first
    | with_reducible assumption
    | (extract_lets +onlyGivenNames x; refine keeps_have (P := Bounds x) ?_ ?_; rotate_left; clear_value x; intro hx; rotate_left; unfold x; clear x)
    | extract_lets +onlyGivenNames x
    | with_reducible apply pollsEnded_keeps
    | with_reducible apply ringSend_keeps
    | with_reducible apply setRing_keeps
    | with_reducible apply keeps_ite
    )

theorem keepData_keeps {r : Nat} {p : Nat} {b : List Byte} {late : Bool} {s : State} (h : Bounds s) :
    Bounds (keepData r p b late s) := by
  unfold keepData
  repeat' (first
    | with_reducible assumption
    | extract_lets +onlyGivenNames x
    | (simp only [↓bounds_mk]; refine keeps_of ?_ rfl rfl rfl rfl rfl rfl rfl)
    )

theorem judgeData_keeps {r : Nat} {p : Nat} {b : List Byte} {s : State} (h : Bounds s) :
    Bounds (judgeData r p b s) := by
  unfold judgeData
  repeat' (first
    | with_reducible assumption
    | (extract_lets +onlyGivenNames x; refine keeps_have (P := Bounds x) ?_ ?_; rotate_left; clear_value x; intro hx; rotate_left; unfold x; clear x)
    | extract_lets +onlyGivenNames x
    | with_reducible apply keepData_keeps
    | with_reducible apply setPos_keeps
    | with_reducible apply record_keeps
    | with_reducible apply keeps_ite
    | (simp only [↓bounds_mk]; refine keeps_of ?_ rfl rfl rfl rfl rfl rfl rfl)
    )

theorem deliverData_keeps {r : Nat} {p : Nat} {up : Bool} {good : Bool} {b : List Byte} {s : State} (h : Bounds s) :
    Bounds (deliverData r p up good b s) := by
  unfold deliverData
  repeat' (first
    | with_reducible assumption
    | (extract_lets +onlyGivenNames x; refine keeps_have (P := Bounds x) ?_ ?_; rotate_left; clear_value x; intro hx; rotate_left; unfold x; clear x)
    | extract_lets +onlyGivenNames x
    | with_reducible apply setPos_keeps
    | with_reducible apply judgeData_keeps
    | with_reducible apply countResponse_keeps
    | with_reducible apply keeps_ite
    )

theorem sweepData_keeps {r : Nat} {high : Bool} {f : List Byte} {s : State} (h : Bounds s) :
    Bounds (sweepData r high f s) := by
  unfold sweepData
  repeat' (first
    | with_reducible assumption
    | (extract_lets +onlyGivenNames x; refine keeps_have (P := Bounds x) ?_ ?_; rotate_left; clear_value x; intro hx; rotate_left; unfold x; clear x)
    | extract_lets +onlyGivenNames x
    | with_reducible apply endCollection_keeps
    | with_reducible apply declareBreak_keeps
    | with_reducible apply setRing_keeps
    | with_reducible apply nextPoll_keeps
    | with_reducible apply deliverData_keeps
    | with_reducible apply keeps_ite
    | (simp only [↓bounds_mk]; refine keeps_of ?_ rfl rfl rfl rfl rfl rfl rfl)
    | split
    )

theorem execSweepDataReceive_keeps {t : Nat} {r : Nat} {high : Bool} {f : List Byte} {s : State} (h : Bounds s) :
    ∀ u, execSweepDataReceive t r high f s = .next u → Bounds u := by
  intro u hu
  unfold execSweepDataReceive at hu
  refine timed_keeps ?_ hu h
  clear hu h
  intro s h
  repeat' (first
    | with_reducible assumption
    | extract_lets +onlyGivenNames x
    | with_reducible apply sweepData_keeps
    | with_reducible apply keeps_ite
    )

theorem execCollectPollTimeout_keeps {t : Nat} {r : Nat} {high : Bool} {a3 : Nat} {waited : Nat} {s : State} (h : Bounds s) :
    ∀ u, execCollectPollTimeout t r high a3 waited s = .next u → Bounds u := by
  intro u hu
  unfold execCollectPollTimeout at hu
  refine timed_keeps ?_ hu h
  clear hu h
  intro s h
  repeat' (first
    | with_reducible assumption
    | (extract_lets +onlyGivenNames x; refine keeps_have (P := Bounds x) ?_ ?_; rotate_left; clear_value x; intro hx; rotate_left; unfold x; clear x)
    | extract_lets +onlyGivenNames x
    | with_reducible apply pollsEnded_keeps
    | with_reducible apply setRing_keeps
    | with_reducible apply keeps_ite
    )

theorem noteSilent_keeps {r : Nat} {s : State} (h : Bounds s) :
    Bounds (noteSilent r s) := by
  unfold noteSilent
  repeat' (first
    | with_reducible assumption
    | (intro y)
    | extract_lets +onlyGivenNames x
    | with_reducible apply record_keeps
    | with_reducible apply eachDo_keeps
    | (simp only [↓bounds_mk]; refine keeps_of ?_ rfl rfl rfl rfl rfl rfl rfl)
    )

theorem resetupFrames_keeps {r : Nat} {p : Nat} {s : State} (h : Bounds s) :
    Bounds (resetupFrames r p s) := by
  unfold resetupFrames
  repeat' (first
    | with_reducible assumption
    | (extract_lets +onlyGivenNames x; refine keeps_have (P := Bounds x) ?_ ?_; rotate_left; clear_value x; intro hx; rotate_left; unfold x; clear x)
    | extract_lets +onlyGivenNames x
    | with_reducible apply setPos_keeps
    | with_reducible apply sendTap_keeps
    | split
    )

theorem balStopSent_keeps {s : State} (h : Bounds s) :
    Bounds (balStopSent s) := by
  unfold balStopSent
  repeat' (first
    | with_reducible assumption
    | extract_lets +onlyGivenNames x
    | with_reducible apply setFn_keeps
    | with_reducible apply finishJob_keeps
    | with_reducible apply keeps_ite
    | (simp only [↓bounds_mk]; refine keeps_of ?_ rfl rfl rfl rfl rfl rfl rfl)
    )

theorem balFrames_keeps {r : Nat} {s : State} (h : Bounds s) :
    Bounds (balFrames r s) := by
  unfold balFrames
  repeat' (first
    | with_reducible assumption
    | (extract_lets +onlyGivenNames x; refine keeps_have (P := Bounds x) ?_ ?_; rotate_left; clear_value x; intro hx; rotate_left; unfold x; clear x)
    | extract_lets +onlyGivenNames x
    | with_reducible apply balStopSent_keeps
    | with_reducible apply sendAll_keeps
    | with_reducible apply keeps_ite
    | (simp only [↓bounds_mk]; refine keeps_of ?_ rfl rfl rfl rfl rfl rfl rfl)
    )

theorem setUpFrames_keeps {r : Nat} {s : State} (h : Bounds s) :
    Bounds (setUpFrames r s) := by
  unfold setUpFrames
  repeat' (first
    | with_reducible assumption
    | (intro y)
    | (extract_lets +onlyGivenNames x; refine keeps_have (P := Bounds x) ?_ ?_; rotate_left; clear_value x; intro hx; rotate_left; unfold x; clear x)
    | extract_lets +onlyGivenNames x
    | with_reducible apply sendTap_keeps
    | with_reducible apply setPos_keeps
    | with_reducible apply resetupFrames_keeps
    | with_reducible apply eachDo_keeps
    | with_reducible apply sendThresholds_keeps
    | with_reducible apply keeps_ite
    | (simp only [↓bounds_mk]; refine keeps_of ?_ rfl rfl rfl rfl rfl rfl rfl)
    )

theorem probeFrame_keeps {r : Nat} {j : Nat} {s : State} (h : Bounds s) :
    Bounds (probeFrame r j s) := by
  unfold probeFrame
  repeat' (first
    | with_reducible assumption
    | extract_lets +onlyGivenNames x
    | with_reducible apply sendProbes_keeps
    | with_reducible apply keeps_ite
    | split
    | clear_value *
    )

theorem probeFrames_keeps {r : Nat} {s : State} (h : Bounds s) :
    Bounds (probeFrames r s) := by
  unfold probeFrames
  repeat' (first
    | with_reducible assumption
    | (intro y)
    | (extract_lets +onlyGivenNames x; refine keeps_have (P := Bounds x) ?_ ?_; rotate_left; clear_value x; intro hx; rotate_left; unfold x; clear x)
    | extract_lets +onlyGivenNames x
    | with_reducible apply probeFrame_keeps
    | with_reducible apply eachDo_keeps
    | with_reducible apply setRing_keeps
    )

theorem slotFrames_keeps {r : Nat} {s : State} (h : Bounds s) :
    Bounds (slotFrames r s) := by
  unfold slotFrames
  repeat' (first
    | with_reducible assumption
    | extract_lets +onlyGivenNames x
    | with_reducible apply setRing_keeps
    | with_reducible apply sendAll_keeps
    | with_reducible apply keeps_ite
    )

theorem judgeMargin_keeps {r : Nat} {worse : Bool} {s : State} (h : Bounds s) :
    Bounds (judgeMargin r worse s) := by
  unfold judgeMargin
  repeat' (first
    | with_reducible assumption
    | (extract_lets +onlyGivenNames x; refine keeps_have (P := Bounds x) ?_ ?_; rotate_left; clear_value x; intro hx; rotate_left; unfold x; clear x)
    | extract_lets +onlyGivenNames x
    | with_reducible apply setRing_keeps
    | with_reducible apply record_keeps
    | with_reducible apply keeps_ite
    | (simp only [↓bounds_mk]; refine keeps_of ?_ rfl rfl rfl rfl rfl rfl rfl)
    )

theorem pollStatus_keeps {r : Nat} {p : Nat} {s : State} (h : Bounds s) :
    Bounds (pollStatus r p s) := by
  unfold pollStatus
  repeat' (first
    | with_reducible assumption
    | (extract_lets +onlyGivenNames x; refine keeps_have (P := Bounds x) ?_ ?_; rotate_left; clear_value x; intro hx; rotate_left; unfold x; clear x)
    | extract_lets +onlyGivenNames x
    | with_reducible apply judgeMargin_keeps
    | with_reducible apply setPos_keeps
    | with_reducible apply sendTap_keeps
    )

theorem statusFrames_keeps {r : Nat} {s : State} (h : Bounds s) :
    Bounds (statusFrames r s) := by
  unfold statusFrames
  repeat' (first
    | with_reducible assumption
    | (intro y)
    | extract_lets +onlyGivenNames x
    | with_reducible apply pollStatus_keeps
    | with_reducible apply eachDo_keeps
    )

theorem fltNowFrames_keeps {r : Nat} {s : State} (h : Bounds s) :
    Bounds (fltNowFrames r s) := by
  unfold fltNowFrames
  repeat' (first
    | with_reducible assumption
    | extract_lets +onlyGivenNames x
    | with_reducible apply finishJob_keeps
    | with_reducible apply sendTap_keeps
    | with_reducible apply judgeDip_keeps
    | with_reducible apply keeps_ite
    | (simp only [↓bounds_mk]; refine keeps_of ?_ rfl rfl rfl rfl rfl rfl rfl)
    | split
    )

theorem clearNowFrames_keeps {r : Nat} {s : State} (h : Bounds s) :
    Bounds (clearNowFrames r s) := by
  unfold clearNowFrames
  repeat' (first
    | with_reducible assumption
    | (intro y)
    | extract_lets +onlyGivenNames x
    | with_reducible apply finishJob_keeps
    | with_reducible apply setTap_keeps
    | with_reducible apply eachDo_keeps
    | with_reducible apply sendAll_keeps
    | with_reducible apply keeps_ite
    | (simp only [↓bounds_mk]; refine keeps_of ?_ rfl rfl rfl rfl rfl rfl rfl)
    | split
    )

theorem windowFrames_keeps {r : Nat} {s : State} (h : Bounds s) :
    Bounds (windowFrames r s) := by
  unfold windowFrames
  repeat' (first
    | with_reducible assumption
    | (intro y)
    | (extract_lets +onlyGivenNames x; refine keeps_have (P := Bounds x) ?_ ?_; rotate_left; clear_value x; intro hx; rotate_left; unfold x; clear x)
    | extract_lets +onlyGivenNames x
    | with_reducible apply setUpFrames_keeps
    | with_reducible apply fltNowFrames_keeps
    | with_reducible apply clearNowFrames_keeps
    | with_reducible apply statusFrames_keeps
    | with_reducible apply probeFrames_keeps
    | with_reducible apply slotFrames_keeps
    | with_reducible apply sendTap_keeps
    | with_reducible apply eachDo_keeps
    | with_reducible apply sendLeases_keeps
    | with_reducible apply impFrames_keeps
    | with_reducible apply balFrames_keeps
    | with_reducible apply fwFrames_keeps
    | with_reducible apply setRing_keeps
    | with_reducible apply keeps_ite
    )

theorem execCommandWindow_keeps {t : Nat} {r : Nat} {s : State} (h : Bounds s) :
    ∀ u, execCommandWindow t r s = .next u → Bounds u := by
  intro u hu
  unfold execCommandWindow at hu
  refine timed_keeps ?_ hu h
  clear hu h
  intro s h
  repeat' (first
    | with_reducible assumption
    | (extract_lets +onlyGivenNames x; refine keeps_have (P := Bounds x) ?_ ?_; rotate_left; clear_value x; intro hx; rotate_left; unfold x; clear x)
    | extract_lets +onlyGivenNames x
    | with_reducible apply windowFrames_keeps
    | with_reducible apply noteSilent_keeps
    | with_reducible apply endCollection_keeps
    | with_reducible apply keeps_ite
    )

theorem takeDelays_keeps {r : Nat} {rts : List (Option Nat × Option Nat)} {s : State} (h : Bounds s) :
    Bounds (takeDelays r rts s) := by
  unfold takeDelays
  repeat' (first
    | with_reducible assumption
    | (intro y)
    | extract_lets +onlyGivenNames x
    | with_reducible apply setPos_keeps
    | with_reducible apply eachDo_keeps
    )

theorem refreshDelays_keeps {r : Nat} {s : State} (h : Bounds s) :
    Bounds (refreshDelays r s) := by
  unfold refreshDelays
  repeat' (first
    | with_reducible assumption
    | (intro y)
    | extract_lets +onlyGivenNames x
    | with_reducible apply setPos_keeps
    | with_reducible apply sendTap_keeps
    | with_reducible apply eachDo_keeps
    | with_reducible apply keeps_ite
    )

theorem execDelayTableRefresh_keeps {t : Nat} {r : Nat} {rts : List (Option Nat × Option Nat)} {s : State} (h : Bounds s) :
    ∀ u, execDelayTableRefresh t r rts s = .next u → Bounds u := by
  intro u hu
  unfold execDelayTableRefresh at hu
  refine timed_keeps ?_ hu h
  clear hu h
  intro s h
  repeat' (first
    | with_reducible assumption
    | extract_lets +onlyGivenNames x
    | with_reducible apply setRing_keeps
    | with_reducible apply takeDelays_keeps
    | with_reducible apply refreshDelays_keeps
    | with_reducible apply keeps_ite
    )

theorem execSplitRestoreTest_keeps {t : Nat} {r : Nat} {clean : Bool} {s : State} (h : Bounds s) :
    ∀ u, execSplitRestoreTest t r clean s = .next u → Bounds u := by
  intro u hu
  unfold execSplitRestoreTest at hu
  refine timed_keeps ?_ hu h
  clear hu h
  intro s h
  repeat' (first
    | with_reducible assumption
    | extract_lets +onlyGivenNames x
    | with_reducible apply ringSend_keeps
    | with_reducible apply setRing_keeps
    | with_reducible apply keeps_ite
    )

theorem execReturnToThrough_keeps {t : Nat} {r : Nat} {loop : Nat} {rts : List (Option Nat × Option Nat)} {s : State} (h : Bounds s) :
    ∀ u, execReturnToThrough t r loop rts s = .next u → Bounds u := by
  intro u hu
  unfold execReturnToThrough at hu
  refine timed_keeps ?_ hu h
  clear hu h
  intro s h
  repeat' (first
    | with_reducible assumption
    | (intro y)
    | (extract_lets +onlyGivenNames x; refine keeps_have (P := Bounds x) ?_ ?_; rotate_left; clear_value x; intro hx; rotate_left; unfold x; clear x)
    | extract_lets +onlyGivenNames x
    | with_reducible apply takeDelays_keeps
    | with_reducible apply refreshDelays_keeps
    | with_reducible apply record_keeps
    | with_reducible apply markUnreachable_keeps
    | with_reducible apply setPos_keeps
    | with_reducible apply eachDo_keeps
    | with_reducible apply setRing_keeps
    | with_reducible apply keeps_ite
    )

theorem execFltTestDue_keeps {t : Nat} {r : Nat} {dip : Option Nat} {s : State} (h : Bounds s) :
    ∀ u, execFltTestDue t r dip s = .next u → Bounds u := by
  intro u hu
  unfold execFltTestDue at hu
  refine timed_keeps ?_ hu h
  clear hu h
  intro s h
  repeat' (first
    | with_reducible assumption
    | (extract_lets +onlyGivenNames x; refine keeps_have (P := Bounds x) ?_ ?_; rotate_left; clear_value x; intro hx; rotate_left; unfold x; clear x)
    | extract_lets +onlyGivenNames x
    | with_reducible apply sendTap_keeps
    | with_reducible apply judgeDip_keeps
    | with_reducible apply setRing_keeps
    | with_reducible apply keeps_ite
    )

theorem execFltTestNow_keeps {t : Nat} {m : Nat} {dips : List (List (Option Nat))} {s : State} (h : Bounds s) :
    ∀ u, execFltTestNow t m dips s = .next u → Bounds u := by
  intro u hu
  unfold execFltTestNow at hu
  refine timed_keeps ?_ hu h
  clear hu h
  intro s h
  repeat' (first
    | with_reducible assumption
    | (intro y)
    | extract_lets +onlyGivenNames x
    | with_reducible apply ok_keeps
    | with_reducible apply refuse_keeps
    | with_reducible apply withLength_keeps
    | with_reducible apply serve_keeps
    | with_reducible apply keeps_ite2
    | (simp only [↓bounds_mk]; refine keeps_of ?_ rfl rfl rfl rfl rfl rfl rfl)
    )

theorem execTapStatusPoll_keeps {t : Nat} {i : Nat} {s : State} (h : Bounds s) :
    ∀ u, execTapStatusPoll t i s = .next u → Bounds u := by
  intro u hu
  unfold execTapStatusPoll at hu
  refine timed_keeps ?_ hu h
  clear hu h
  intro s h
  repeat' (first
    | with_reducible assumption
    | extract_lets +onlyGivenNames x
    | with_reducible apply pollStatus_keeps
    | with_reducible apply keeps_ite
    )

theorem execSweepPeriodChange_keeps {t : Nat} {s : State} (h : Bounds s) :
    ∀ u, execSweepPeriodChange t s = .next u → Bounds u := by
  intro u hu
  unfold execSweepPeriodChange at hu
  refine timed_keeps ?_ hu h
  clear hu h
  intro s h
  repeat' (first
    | with_reducible assumption
    | extract_lets +onlyGivenNames x
    | with_reducible apply takePeriod_keeps
    )

theorem execRingMap_keeps {t : Nat} {m : Nat} {s : State} (h : Bounds s) :
    ∀ u, execRingMap t m s = .next u → Bounds u := by
  intro u hu
  unfold execRingMap at hu
  refine timed_keeps ?_ hu h
  clear hu h
  intro s h
  repeat' (first
    | with_reducible assumption
    | (intro y)
    | extract_lets +onlyGivenNames x
    | with_reducible apply statusHandler_keeps
    | with_reducible apply serve_keeps
    )

theorem execRingRestore_keeps {t : Nat} {m : Nat} {s : State} (h : Bounds s) :
    ∀ u, execRingRestore t m s = .next u → Bounds u := by
  intro u hu
  unfold execRingRestore at hu
  refine timed_keeps ?_ hu h
  clear hu h
  intro s h
  repeat' (first
    | with_reducible assumption
    | (intro y)
    | extract_lets +onlyGivenNames x
    | with_reducible apply ok_keeps
    | with_reducible apply refuse_keeps
    | with_reducible apply withLength_keeps
    | with_reducible apply serve_keeps
    | with_reducible apply keeps_ite2
    | (simp only [↓bounds_mk]; refine keeps_of ?_ rfl rfl rfl rfl rfl rfl rfl)
    )

theorem execClearTrips_keeps {t : Nat} {m : Nat} {volts : List (List (Option Int))} {s : State} (h : Bounds s) :
    ∀ u, execClearTrips t m volts s = .next u → Bounds u := by
  intro u hu
  unfold execClearTrips at hu
  refine timed_keeps ?_ hu h
  clear hu h
  intro s h
  repeat' (first
    | with_reducible assumption
    | (intro y)
    | extract_lets +onlyGivenNames x
    | with_reducible apply okWith_keeps
    | with_reducible apply refuse_keeps
    | with_reducible apply withLength_keeps
    | with_reducible apply serve_keeps
    | with_reducible apply keeps_ite2
    | (simp only [↓bounds_mk]; refine keeps_of ?_ rfl rfl rfl rfl rfl rfl rfl)
    )

theorem execReadSweep_keeps {t : Nat} {m : Nat} {s : State} (h : Bounds s) :
    ∀ u, execReadSweep t m s = .next u → Bounds u := by
  intro u hu
  unfold execReadSweep at hu
  refine timed_keeps ?_ hu h
  clear hu h
  intro s h
  repeat' (first
    | with_reducible assumption
    | (intro y)
    | extract_lets +onlyGivenNames x
    | with_reducible apply okWith_keeps
    | with_reducible apply refuse_keeps
    | with_reducible apply withLength_keeps
    | with_reducible apply serve_keeps
    | (simp only [↓bounds_mk]; refine keeps_of ?_ rfl rfl rfl rfl rfl rfl rfl)
    | split
    )

theorem requestCoil_keeps {n : Nat} {s : State} (h : Bounds s) :
    Bounds (requestCoil n s) := by
  unfold requestCoil
  repeat' (first
    | with_reducible assumption
    | extract_lets +onlyGivenNames x
    | with_reducible apply setCoil_keeps
    | with_reducible apply energiseCoil_keeps
    | with_reducible apply keeps_ite
    )

theorem setConn_keeps {g : ConnJob → ConnJob} {s : State} (h : Bounds s) :
    Bounds (setConn g s) := by
  unfold setConn
  repeat' (first
    | with_reducible assumption
    | extract_lets +onlyGivenNames x
    | (simp only [↓bounds_mk]; refine keeps_of ?_ rfl rfl rfl rfl rfl rfl rfl)
    )

theorem beginAttempt_keeps {s : State} (h : Bounds s) :
    Bounds (beginAttempt s) := by
  unfold beginAttempt
  repeat' (first
    | with_reducible assumption
    | extract_lets +onlyGivenNames x
    | (simp only [↓bounds_mk]; refine keeps_of ?_ rfl rfl rfl rfl rfl rfl rfl)
    )

theorem startStep_keeps {j : ConnJob} {s : State} (h : Bounds s) :
    Bounds (startStep j s) := by
  unfold startStep
  repeat' (first
    | with_reducible assumption
    | extract_lets +onlyGivenNames x
    | with_reducible apply requestCoil_keeps
    | with_reducible apply setConn_keeps
    | with_reducible apply beginAttempt_keeps
    | with_reducible apply keeps_ite
    | (simp only [↓bounds_mk]; refine keeps_of ?_ rfl rfl rfl rfl rfl rfl rfl)
    | split
    )

theorem enterStep_keeps {st : ConnStep} {s : State} (h : Bounds s) :
    Bounds (enterStep st s) := by
  unfold enterStep
  repeat' (first
    | with_reducible assumption
    | (extract_lets +onlyGivenNames x; refine keeps_have (P := Bounds x) ?_ ?_; rotate_left; clear_value x; intro hx; rotate_left; unfold x; clear x)
    | with_reducible apply startStep_keeps
    | with_reducible apply setConn_keeps
    | split
    )

theorem finishConnect_keeps {j : ConnJob} {s : State} (h : Bounds s) :
    Bounds (finishConnect j s) := by
  unfold finishConnect
  repeat' (first
    | with_reducible assumption
    | (extract_lets +onlyGivenNames x; refine keeps_have (P := Bounds x) ?_ ?_; rotate_left; clear_value x; intro hx; rotate_left; unfold x; clear x)
    | extract_lets +onlyGivenNames x
    | with_reducible apply finishJob_keeps
    | with_reducible apply setMode_keeps
    | (simp only [↓bounds_mk]; refine keeps_of ?_ rfl rfl rfl rfl rfl rfl rfl)
    )

theorem afterMain_keeps {j : ConnJob} {s : State} (h : Bounds s) :
    Bounds (afterMain j s) := by
  unfold afterMain
  repeat' (first
    | with_reducible assumption
    | extract_lets +onlyGivenNames x
    | with_reducible apply finishConnect_keeps
    | with_reducible apply enterStep_keeps
    | with_reducible apply keeps_ite
    )

theorem nextStep_keeps {j : ConnJob} {s : State} (h : Bounds s) :
    Bounds (nextStep j s) := by
  unfold nextStep
  repeat' (first
    | with_reducible assumption
    | (extract_lets +onlyGivenNames x; refine keeps_have (P := Bounds x) ?_ ?_; rotate_left; clear_value x; intro hx; rotate_left; unfold x; clear x)
    | extract_lets +onlyGivenNames x
    | with_reducible apply finishConnect_keeps
    | with_reducible apply afterMain_keeps
    | with_reducible apply setConn_keeps
    | with_reducible apply enterStep_keeps
    | with_reducible apply keeps_ite
    | (simp only [↓bounds_mk]; refine keeps_of ?_ rfl rfl rfl rfl rfl rfl rfl)
    | split
    )

theorem advance_keeps {s : State} (h : Bounds s) :
    Bounds (advance s) := by
  unfold advance
  repeat' (first
    | with_reducible assumption
    | extract_lets +onlyGivenNames x
    | with_reducible apply afterMain_keeps
    | with_reducible apply nextStep_keeps
    | with_reducible apply startStep_keeps
    | with_reducible apply keeps_ite
    | split
    )

theorem connFail_keeps {cause : Nat} {data : List Int} {s : State} (h : Bounds s) :
    Bounds (connFail cause data s) := by
  unfold connFail
  repeat' (first
    | with_reducible assumption
    | (extract_lets +onlyGivenNames x; refine keeps_have (P := Bounds x) ?_ ?_; rotate_left; clear_value x; intro hx; rotate_left; unfold x; clear x)
    | extract_lets +onlyGivenNames x
    | with_reducible apply endOpening_keeps
    | with_reducible apply finishJob_keeps
    | with_reducible apply openCoil_keeps
    | with_reducible apply record_keeps
    | (simp only [↓bounds_mk]; refine keeps_of ?_ rfl rfl rfl rfl rfl rfl rfl)
    | split
    )

theorem kfClosed_keeps {n : Nat} {s : State} (h : Bounds s) :
    Bounds (kfClosed n s) := by
  unfold kfClosed
  repeat' (first
    | with_reducible assumption
    | extract_lets +onlyGivenNames x
    | with_reducible apply setCoil_keeps
    | with_reducible apply judgeWear_keeps
    | with_reducible apply keeps_ite
    )

theorem kfOpened_keeps {n : Nat} {s : State} (h : Bounds s) :
    Bounds (kfOpened n s) := by
  unfold kfOpened
  repeat' (first
    | with_reducible assumption
    | (extract_lets +onlyGivenNames x; refine keeps_have (P := Bounds x) ?_ ?_; rotate_left; clear_value x; intro hx; rotate_left; unfold x; clear x)
    | extract_lets +onlyGivenNames x
    | with_reducible apply clearPresent_keeps
    | with_reducible apply setCoil_keeps
    | with_reducible apply keeps_ite
    )

theorem execKfEdge_keeps {t : Nat} {n : Nat} {level : Bool} {vStr : Int} {vLnk : Int} {s : State} (h : Bounds s) :
    ∀ u, execKfEdge t n level vStr vLnk s = .next u → Bounds u := by
  intro u hu
  unfold execKfEdge at hu
  refine timed_keeps ?_ hu h
  clear hu h
  intro s h
  repeat' (first
    | with_reducible assumption
    | (extract_lets +onlyGivenNames x; refine keeps_have (P := Bounds x) ?_ ?_; rotate_left; clear_value x; intro hx; rotate_left; unfold x; clear x)
    | extract_lets +onlyGivenNames x
    | with_reducible apply kfOpened_keeps
    | with_reducible apply kfClosed_keeps
    | with_reducible apply advance_keeps
    | with_reducible apply endOpening_keeps
    | with_reducible apply setCoil_keeps
    | with_reducible apply captureEdge_keeps
    | with_reducible apply keeps_ite
    | (simp only [↓bounds_mk]; refine keeps_of ?_ rfl rfl rfl rfl rfl rfl rfl)
    )

theorem execKDropout_keeps {t : Nat} {n : Nat} {held : Nat} {s : State} (h : Bounds s) :
    ∀ u, execKDropout t n held s = .next u → Bounds u := by
  intro u hu
  unfold execKDropout at hu
  refine timed_keeps ?_ hu h
  clear hu h
  intro s h
  repeat' (first
    | with_reducible assumption
    | extract_lets +onlyGivenNames x
    | with_reducible apply tripEdge_keeps
    | with_reducible apply connFail_keeps
    | with_reducible apply keeps_ite
    | split
    )

theorem execKFailClose_keeps {t : Nat} {n : Nat} {s : State} (h : Bounds s) :
    ∀ u, execKFailClose t n s = .next u → Bounds u := by
  intro u hu
  unfold execKFailClose at hu
  refine timed_keeps ?_ hu h
  clear hu h
  intro s h
  repeat' (first
    | with_reducible assumption
    | extract_lets +onlyGivenNames x
    | with_reducible apply record_keeps
    | with_reducible apply connFail_keeps
    | with_reducible apply keeps_ite
    )

theorem execKWelded_keeps {t : Nat} {n : Nat} {held : Nat} {s : State} (h : Bounds s) :
    ∀ u, execKWelded t n held s = .next u → Bounds u := by
  intro u hu
  unfold execKWelded at hu
  refine timed_keeps ?_ hu h
  clear hu h
  intro s h
  repeat' (first
    | with_reducible assumption
    | extract_lets +onlyGivenNames x
    | with_reducible apply record_keeps
    | with_reducible apply tripHeld_keeps
    | with_reducible apply setCoil_keeps
    | with_reducible apply keeps_ite
    )

theorem execKPullinEnd_keeps {t : Nat} {n : Nat} {s : State} (h : Bounds s) :
    ∀ u, execKPullinEnd t n s = .next u → Bounds u := by
  intro u hu
  unfold execKPullinEnd at hu
  refine timed_keeps ?_ hu h
  clear hu h
  intro s h
  repeat' (first
    | with_reducible assumption
    | extract_lets +onlyGivenNames x
    | with_reducible apply setCoil_keeps
    | with_reducible apply advance_keeps
    | with_reducible apply keeps_ite
    )

theorem execOutputOvercurrent_keeps {t : Nat} {n : Nat} {ma : Nat} {held : Nat} {s : State} (h : Bounds s) :
    ∀ u, execOutputOvercurrent t n ma held s = .next u → Bounds u := by
  intro u hu
  unfold execOutputOvercurrent at hu
  refine timed_keeps ?_ hu h
  clear hu h
  intro s h
  repeat' (first
    | with_reducible assumption
    | (extract_lets +onlyGivenNames x; refine keeps_have (P := Bounds x) ?_ ?_; rotate_left; clear_value x; intro hx; rotate_left; unfold x; clear x)
    | extract_lets +onlyGivenNames x
    | with_reducible apply openCoil_keeps
    | with_reducible apply record_keeps
    | with_reducible apply setCoil_keeps
    | with_reducible apply keeps_ite
    )

theorem execCoilOpen_keeps {t : Nat} {n : Nat} {ma : Nat} {held : Nat} {s : State} (h : Bounds s) :
    ∀ u, execCoilOpen t n ma held s = .next u → Bounds u := by
  intro u hu
  unfold execCoilOpen at hu
  refine timed_keeps ?_ hu h
  clear hu h
  intro s h
  repeat' (first
    | with_reducible assumption
    | (extract_lets +onlyGivenNames x; refine keeps_have (P := Bounds x) ?_ ?_; rotate_left; clear_value x; intro hx; rotate_left; unfold x; clear x)
    | extract_lets +onlyGivenNames x
    | with_reducible apply record_keeps
    | with_reducible apply setCoil_keeps
    | with_reducible apply keeps_ite
    )

theorem execCoilSupplyLow_keeps {t : Nat} {mv : Nat} {held : Nat} {s : State} (h : Bounds s) :
    ∀ u, execCoilSupplyLow t mv held s = .next u → Bounds u := by
  intro u hu
  unfold execCoilSupplyLow at hu
  refine timed_keeps ?_ hu h
  clear hu h
  intro s h
  repeat' (first
    | with_reducible assumption
    | extract_lets +onlyGivenNames x
    | with_reducible apply record_keeps
    | with_reducible apply gatesOff_keeps
    | with_reducible apply keeps_ite
    | (simp only [↓bounds_mk]; refine keeps_of ?_ rfl rfl rfl rfl rfl rfl rfl)
    )

theorem execOutputTestPulse_keeps {t : Nat} {n : Nat} {s : State} (h : Bounds s) :
    ∀ u, execOutputTestPulse t n s = .next u → Bounds u := by
  intro u hu
  unfold execOutputTestPulse at hu
  refine timed_keeps ?_ hu h
  clear hu h
  intro s h
  repeat' (first
    | with_reducible assumption
    | extract_lets +onlyGivenNames x
    | with_reducible apply setCoil_keeps
    | with_reducible apply keeps_ite
    )

theorem execOutputPulseEnd_keeps {t : Nat} {n : Nat} {mv : Nat} {ma : Nat} {s : State} (h : Bounds s) :
    ∀ u, execOutputPulseEnd t n mv ma s = .next u → Bounds u := by
  intro u hu
  unfold execOutputPulseEnd at hu
  refine timed_keeps ?_ hu h
  clear hu h
  intro s h
  repeat' (first
    | with_reducible assumption
    | extract_lets +onlyGivenNames x
    | with_reducible apply trip_keeps
    | with_reducible apply record_keeps
    | with_reducible apply setCoil_keeps
    | with_reducible apply keeps_ite
    | (simp only [↓bounds_mk]; refine keeps_of ?_ rfl rfl rfl rfl rfl rfl rfl)
    | split
    )

theorem execOutputSwitchFault_keeps {t : Nat} {n : Nat} {hsMv : Nat} {lsMv : Nat} {s : State} (h : Bounds s) :
    ∀ u, execOutputSwitchFault t n hsMv lsMv s = .next u → Bounds u := by
  intro u hu
  unfold execOutputSwitchFault at hu
  refine timed_keeps ?_ hu h
  clear hu h
  intro s h
  repeat' (first
    | with_reducible assumption
    | (extract_lets +onlyGivenNames x; refine keeps_have (P := Bounds x) ?_ ?_; rotate_left; clear_value x; intro hx; rotate_left; unfold x; clear x)
    | extract_lets +onlyGivenNames x
    | with_reducible apply record_keeps
    | with_reducible apply setCoil_keeps
    | with_reducible apply keeps_ite
    )

theorem execPrechargeHalfTau_keeps {t : Nat} {vLnk : Int} {s : State} (h : Bounds s) :
    ∀ u, execPrechargeHalfTau t vLnk s = .next u → Bounds u := by
  intro u hu
  unfold execPrechargeHalfTau at hu
  refine timed_keeps ?_ hu h
  clear hu h
  intro s h
  repeat' (first
    | with_reducible assumption
    | extract_lets +onlyGivenNames x
    | with_reducible apply connFail_keeps
    | with_reducible apply setConn_keeps
    | with_reducible apply keeps_ite
    | (simp only [↓bounds_mk]; refine keeps_of ?_ rfl rfl rfl rfl rfl rfl rfl)
    | split
    )

theorem execPrechargeThreeTau_keeps {t : Nat} {vLnk : Int} {s : State} (h : Bounds s) :
    ∀ u, execPrechargeThreeTau t vLnk s = .next u → Bounds u := by
  intro u hu
  unfold execPrechargeThreeTau at hu
  refine timed_keeps ?_ hu h
  clear hu h
  intro s h
  repeat' (first
    | with_reducible assumption
    | extract_lets +onlyGivenNames x
    | with_reducible apply connFail_keeps
    | with_reducible apply enterStep_keeps
    | with_reducible apply setConn_keeps
    | with_reducible apply keeps_ite
    | (simp only [↓bounds_mk]; refine keeps_of ?_ rfl rfl rfl rfl rfl rfl rfl)
    | split
    )

theorem execPreEnergyTick_keeps {t : Nat} {vStr : Int} {vLnk : Int} {s : State} (h : Bounds s) :
    ∀ u, execPreEnergyTick t vStr vLnk s = .next u → Bounds u := by
  intro u hu
  unfold execPreEnergyTick at hu
  refine timed_keeps ?_ hu h
  clear hu h
  intro s h
  repeat' (first
    | with_reducible assumption
    | (extract_lets +onlyGivenNames x; refine keeps_have (P := Bounds x) ?_ ?_; rotate_left; clear_value x; intro hx; rotate_left; unfold x; clear x)
    | extract_lets +onlyGivenNames x
    | with_reducible apply connFail_keeps
    | with_reducible apply keeps_ite
    | (simp only [↓bounds_mk]; refine keeps_of ?_ rfl rfl rfl rfl rfl rfl rfl)
    )

theorem execK3OverlapEnd_keeps {t : Nat} {s : State} (h : Bounds s) :
    ∀ u, execK3OverlapEnd t s = .next u → Bounds u := by
  intro u hu
  unfold execK3OverlapEnd at hu
  refine timed_keeps ?_ hu h
  clear hu h
  intro s h
  repeat' (first
    | with_reducible assumption
    | extract_lets +onlyGivenNames x
    | with_reducible apply openCoil_keeps
    | with_reducible apply setConn_keeps
    | with_reducible apply advance_keeps
    | with_reducible apply keeps_ite
    | split
    )

theorem orderlyOff_keeps {s : State} (h : Bounds s) :
    Bounds (orderlyOff s) := by
  unfold orderlyOff
  repeat' (first
    | with_reducible assumption
    | (extract_lets +onlyGivenNames x; refine keeps_have (P := Bounds x) ?_ ?_; rotate_left; clear_value x; intro hx; rotate_left; unfold x; clear x)
    | extract_lets +onlyGivenNames x
    | with_reducible apply endOpening_keeps
    | with_reducible apply sendHand_keeps
    | with_reducible apply setMode_keeps
    | with_reducible apply finishJob_keeps
    | with_reducible apply gatesOff_keeps
    | with_reducible apply keeps_ite
    | (simp only [↓bounds_mk]; refine keeps_of ?_ rfl rfl rfl rfl rfl rfl rfl)
    )

theorem execOrderlyGatesOff_keeps {t : Nat} {s : State} (h : Bounds s) :
    ∀ u, execOrderlyGatesOff t s = .next u → Bounds u := by
  intro u hu
  unfold execOrderlyGatesOff at hu
  refine timed_keeps ?_ hu h
  clear hu h
  intro s h
  repeat' (first
    | with_reducible assumption
    | extract_lets +onlyGivenNames x
    | with_reducible apply orderlyOff_keeps
    | with_reducible apply keeps_ite
    )

theorem rampToZero_keeps {s : State} (h : Bounds s) :
    Bounds (rampToZero s) := by
  unfold rampToZero
  repeat' (first
    | with_reducible assumption
    | extract_lets +onlyGivenNames x
    | (simp only [↓bounds_mk]; refine keeps_of ?_ rfl rfl rfl rfl rfl rfl rfl)
    )

theorem beginOpening_keeps {mb : Option Nat} {cause : Nat} {s : State} (h : Bounds s) :
    Bounds (beginOpening mb cause s) := by
  unfold beginOpening
  repeat' (first
    | with_reducible assumption
    | (extract_lets +onlyGivenNames x; refine keeps_have (P := Bounds x) ?_ ?_; rotate_left; clear_value x; intro hx; rotate_left; unfold x; clear x)
    | extract_lets +onlyGivenNames x
    | with_reducible apply orderlyOff_keeps
    | with_reducible apply rampToZero_keeps
    | with_reducible apply keeps_ite
    | (simp only [↓bounds_mk]; refine keeps_of ?_ rfl rfl rfl rfl rfl rfl rfl)
    )

theorem beginConnect_keeps {toRun : Bool} {mb : Option Nat} {s : State} (h : Bounds s) :
    Bounds (beginConnect toRun mb s) := by
  unfold beginConnect
  repeat' (first
    | with_reducible assumption
    | (extract_lets +onlyGivenNames x; refine keeps_have (P := Bounds x) ?_ ?_; rotate_left; clear_value x; intro hx; rotate_left; unfold x; clear x)
    | extract_lets +onlyGivenNames x
    | with_reducible apply enterStep_keeps
    | with_reducible apply setMode_keeps
    | (simp only [↓bounds_mk]; refine keeps_of ?_ rfl rfl rfl rfl rfl rfl rfl)
    )

theorem connectHandler_keeps {m : Nat} {vStr : Int} {vLnk : Int} {r : Request} {a4 : State} (h : Bounds a4) :
    Bounds (connectHandler m vStr vLnk r a4).2 := by
  unfold connectHandler
  repeat' (first
    | with_reducible assumption
    | (intro y)
    | (extract_lets +onlyGivenNames x; refine keeps_have (P := Bounds x) ?_ ?_; rotate_left; clear_value x; intro hx; rotate_left; unfold x; clear x)
    | extract_lets +onlyGivenNames x
    | with_reducible apply beginConnect_keeps
    | with_reducible apply refuse_keeps
    | with_reducible apply withLength_keeps
    | with_reducible apply keeps_ite2
    | (simp only [↓bounds_mk]; refine keeps_of ?_ rfl rfl rfl rfl rfl rfl rfl)
    | split
    )

theorem execConnect_keeps {t : Nat} {m : Nat} {vStr : Int} {vLnk : Int} {s : State} (h : Bounds s) :
    ∀ u, execConnect t m vStr vLnk s = .next u → Bounds u := by
  intro u hu
  unfold execConnect at hu
  refine timed_keeps ?_ hu h
  clear hu h
  intro s h
  repeat' (first
    | with_reducible assumption
    | (intro y)
    | extract_lets +onlyGivenNames x
    | with_reducible apply connectHandler_keeps
    | with_reducible apply serve_keeps
    )

theorem disconnectHandler_keeps {m : Nat} {a1 : Request} {a2 : State} (h : Bounds a2) :
    Bounds (disconnectHandler m a1 a2).2 := by
  unfold disconnectHandler
  repeat' (first
    | with_reducible assumption
    | (intro y)
    | extract_lets +onlyGivenNames x
    | with_reducible apply beginOpening_keeps
    | with_reducible apply refuse_keeps
    | with_reducible apply withLength_keeps
    | with_reducible apply keeps_ite2
    )

theorem execDisconnect_keeps {t : Nat} {m : Nat} {s : State} (h : Bounds s) :
    ∀ u, execDisconnect t m s = .next u → Bounds u := by
  intro u hu
  unfold execDisconnect at hu
  refine timed_keeps ?_ hu h
  clear hu h
  intro s h
  repeat' (first
    | with_reducible assumption
    | (intro y)
    | extract_lets +onlyGivenNames x
    | with_reducible apply disconnectHandler_keeps
    | with_reducible apply serve_keeps
    )

theorem execOutStatus_keeps {t : Nat} {m : Nat} {s : State} (h : Bounds s) :
    ∀ u, execOutStatus t m s = .next u → Bounds u := by
  intro u hu
  unfold execOutStatus at hu
  refine timed_keeps ?_ hu h
  clear hu h
  intro s h
  repeat' (first
    | with_reducible assumption
    | (intro y)
    | extract_lets +onlyGivenNames x
    | with_reducible apply statusHandler_keeps
    | with_reducible apply serve_keeps
    )

theorem execPreHistory_keeps {t : Nat} {m : Nat} {s : State} (h : Bounds s) :
    ∀ u, execPreHistory t m s = .next u → Bounds u := by
  intro u hu
  unfold execPreHistory at hu
  refine timed_keeps ?_ hu h
  clear hu h
  intro s h
  repeat' (first
    | with_reducible assumption
    | (intro y)
    | extract_lets +onlyGivenNames x
    | with_reducible apply statusHandler_keeps
    | with_reducible apply serve_keeps
    )

theorem execPreModelReset_keeps {t : Nat} {m : Nat} {s : State} (h : Bounds s) :
    ∀ u, execPreModelReset t m s = .next u → Bounds u := by
  intro u hu
  unfold execPreModelReset at hu
  refine timed_keeps ?_ hu h
  clear hu h
  intro s h
  repeat' (first
    | with_reducible assumption
    | (intro y)
    | extract_lets +onlyGivenNames x
    | with_reducible apply record_keeps
    | with_reducible apply ok_keeps
    | with_reducible apply withLength_keeps
    | with_reducible apply serve_keeps
    | (simp only [↓bounds_mk]; refine keeps_of ?_ rfl rfl rfl rfl rfl rfl rfl)
    )

theorem execClockFault_keeps {t : Nat} {ppm : Nat} {held : Nat} {s : State} (h : Bounds s) :
    ∀ u, execClockFault t ppm held s = .next u → Bounds u := by
  intro u hu
  unfold execClockFault at hu
  refine timed_keeps ?_ hu h
  clear hu h
  intro s h
  repeat' (first
    | with_reducible assumption
    | extract_lets +onlyGivenNames x
    | with_reducible apply tripHeld_keeps
    | with_reducible apply clearPresent_keeps
    | with_reducible apply keeps_ite
    | (simp only [↓bounds_mk]; refine keeps_of ?_ rfl rfl rfl rfl rfl rfl rfl)
    )

theorem execCrossingTimeout_keeps {t : Nat} {src : Nat} {dst : Nat} {waited : Nat} {s : State} (h : Bounds s) :
    ∀ u, execCrossingTimeout t src dst waited s = .next u → Bounds u := by
  intro u hu
  unfold execCrossingTimeout at hu
  refine timed_keeps ?_ hu h
  clear hu h
  intro s h
  repeat' (first
    | with_reducible assumption
    | extract_lets +onlyGivenNames x
    | with_reducible apply record_keeps
    | with_reducible apply keeps_ite
    | (simp only [↓bounds_mk]; refine keeps_of ?_ rfl rfl rfl rfl rfl rfl rfl)
    )

theorem execIslandSleep_keeps {t : Nat} {k : Nat} {next : Option Nat} {busy : Bool} {rail : Option Nat} {s : State} (h : Bounds s) :
    ∀ u, execIslandSleep t k next busy rail s = .next u → Bounds u := by
  intro u hu
  unfold execIslandSleep at hu
  refine timed_keeps ?_ hu h
  clear hu h
  intro s h
  repeat' (first
    | with_reducible assumption
    | extract_lets +onlyGivenNames x
    | with_reducible apply setIsland_keeps
    | with_reducible apply keeps_ite
    )

theorem execIslandWake_keeps {t : Nat} {k : Nat} {s : State} (h : Bounds s) :
    ∀ u, execIslandWake t k s = .next u → Bounds u := by
  intro u hu
  unfold execIslandWake at hu
  refine timed_keeps ?_ hu h
  clear hu h
  intro s h
  repeat' (first
    | with_reducible assumption
    | (extract_lets +onlyGivenNames x; refine keeps_have (P := Bounds x) ?_ ?_; rotate_left; clear_value x; intro hx; rotate_left; unfold x; clear x)
    | extract_lets +onlyGivenNames x
    | with_reducible apply record_keeps
    | with_reducible apply flushCrossings_keeps
    | with_reducible apply setIsland_keeps
    | with_reducible apply keeps_ite
    )

theorem execCisternMeasure_keeps {t : Nat} {full : Nat} {present : Nat} {cellMv : Nat} {s : State} (h : Bounds s) :
    ∀ u, execCisternMeasure t full present cellMv s = .next u → Bounds u := by
  intro u hu
  unfold execCisternMeasure at hu
  refine timed_keeps ?_ hu h
  clear hu h
  intro s h
  repeat' (first
    | with_reducible assumption
    | (extract_lets +onlyGivenNames x; refine keeps_have (P := Bounds x) ?_ ?_; rotate_left; clear_value x; intro hx; rotate_left; unfold x; clear x)
    | extract_lets +onlyGivenNames x
    | with_reducible apply record_keeps
    | with_reducible apply keeps_ite
    | (simp only [↓bounds_mk]; refine keeps_of ?_ rfl rfl rfl rfl rfl rfl rfl)
    )

theorem execStFltHoldEnd_keeps {t : Nat} {s : State} (h : Bounds s) :
    ∀ u, execStFltHoldEnd t s = .next u → Bounds u := by
  intro u hu
  unfold execStFltHoldEnd at hu
  refine timed_keeps ?_ hu h
  clear hu h
  intro s h
  repeat' (first
    | with_reducible assumption
    | extract_lets +onlyGivenNames x
    | with_reducible apply keeps_ite
    | (simp only [↓bounds_mk]; refine keeps_of ?_ rfl rfl rfl rfl rfl rfl rfl)
    )

theorem execSupervisorWatchdog_keeps {t : Nat} {served : Bool} {s : State} (h : Bounds s) :
    ∀ u, execSupervisorWatchdog t served s = .next u → Bounds u := by
  intro u hu
  unfold execSupervisorWatchdog at hu
  refine timed_keeps ?_ hu h
  clear hu h
  intro s h
  repeat' (first
    | with_reducible assumption
    | extract_lets +onlyGivenNames x
    | (simp only [↓bounds_mk]; refine keeps_of ?_ rfl rfl rfl rfl rfl rfl rfl)
    )

theorem execRecordFlush_keeps {t : Nat} {s : State} (h : Bounds s) :
    ∀ u, execRecordFlush t s = .next u → Bounds u := by
  intro u hu
  unfold execRecordFlush at hu
  refine timed_keeps ?_ hu h
  clear hu h
  intro s h
  repeat' (first
    | with_reducible assumption
    | extract_lets +onlyGivenNames x
    | with_reducible apply keeps_ite
    | (simp only [↓bounds_mk]; refine keeps_of ?_ rfl rfl rfl rfl rfl rfl rfl)
    )

theorem wrapStore_keeps {s : State} (h : Bounds s) :
    Bounds (wrapStore s) := by
  unfold wrapStore
  repeat' (first
    | with_reducible assumption
    | extract_lets +onlyGivenNames x
    | with_reducible apply record_keeps
    | with_reducible apply keeps_ite
    | (simp only [↓bounds_mk]; refine keeps_of ?_ rfl rfl rfl rfl rfl rfl rfl)
    )

theorem retireBlock_keeps {s : State} (h : Bounds s) :
    Bounds (retireBlock s) := by
  unfold retireBlock
  repeat' (first
    | with_reducible assumption
    | (extract_lets +onlyGivenNames x; refine keeps_have (P := Bounds x) ?_ ?_; rotate_left; clear_value x; intro hx; rotate_left; unfold x; clear x)
    | extract_lets +onlyGivenNames x
    | with_reducible apply record_keeps
    | with_reducible apply keeps_ite
    | (simp only [↓bounds_mk]; refine keeps_of ?_ rfl rfl rfl rfl rfl rfl rfl)
    )

/-- The same with a shorter buffer and a reserved area of at most 64 records. -/
theorem keeps_well {s : State} {mbx : Mailboxes} {well : Well} {disp : Disp} {fab : Fabric} {bus : Buses} (h : Bounds s)
    (h7 : mbx.mbx = s.mbx.mbx) (h5 : well.buf.length ≤ s.well.buf.length) (h6 : well.clears.length ≤ 64)
    (h4 : disp.queue = s.disp.queue) (h3 : fab.flows = s.fab.flows) (h1 : bus.can = s.bus.can)
    (h2 : bus.svc.ptr = s.bus.svc.ptr) : BoundsOf mbx well disp fab bus := by
  unfold BoundsOf
  rw [h1, h2, h3, h4, h7]
  exact ⟨h.1, h.2.1, h.2.2.1, h.2.2.2.1, h.2.2.2.2.1, Nat.le_trans h5 h.2.2.2.2.2.1, h6, h.2.2.2.2.2.2.2⟩

/-- The same with mailboxes that are as many. -/
theorem keeps_boxes {s : State} {mbx : Mailboxes} {well : Well} {disp : Disp} {fab : Fabric} {bus : Buses} (h : Bounds s)
    (h7 : mbx.mbx.length = s.mbx.mbx.length) (h5 : well.buf = s.well.buf) (h6 : well.clears = s.well.clears)
    (h4 : disp.queue = s.disp.queue) (h3 : fab.flows = s.fab.flows) (h1 : bus.can = s.bus.can)
    (h2 : bus.svc.ptr = s.bus.svc.ptr) : BoundsOf mbx well disp fab bus := by
  unfold BoundsOf
  rw [h1, h2, h3, h4, h5, h6, h7]
  exact h

theorem execNvmPageCommit_keeps {t : Nat} {retired : Bool} {s : State} (h : Bounds s) :
    ∀ u, execNvmPageCommit t retired s = .next u → Bounds u := by
  intro u hu
  unfold execNvmPageCommit at hu
  refine timed_keeps ?_ hu h
  clear hu h
  intro s h
  repeat' (first
    | with_reducible assumption
    | (simp only [↓bounds_mk]; refine keeps_well (by assumption) rfl ?_ ?_ rfl rfl rfl rfl; rotate_left; exact (by assumption : Bounds _).2.2.2.2.2.2.1; rotate_left; exact List.length_filter_le _ _)
    | (extract_lets +onlyGivenNames x; refine keeps_have (P := Bounds x) ?_ ?_; rotate_left; clear_value x; intro hx; rotate_left; unfold x; clear x)
    | extract_lets +onlyGivenNames x
    | with_reducible apply wrapStore_keeps
    | with_reducible apply retireBlock_keeps
    | with_reducible apply keeps_ite
    | (simp only [↓bounds_mk]; refine keeps_of ?_ rfl rfl rfl rfl rfl rfl rfl)
    | split
    )

theorem beginFlush_keeps {s : State} (h : Bounds s) :
    Bounds (beginFlush s) := by
  unfold beginFlush
  repeat' (first
    | with_reducible assumption
    | (extract_lets +onlyGivenNames x; refine keeps_have (P := Bounds x) ?_ ?_; rotate_left; clear_value x; intro hx; rotate_left; unfold x; clear x)
    | extract_lets +onlyGivenNames x
    | with_reducible apply startFlush_keeps
    | with_reducible apply keeps_ite
    | (simp only [↓bounds_mk]; refine keeps_of ?_ rfl rfl rfl rfl rfl rfl rfl)
    )

theorem execRecFlushPeriod_keeps {t : Nat} {s : State} (h : Bounds s) :
    ∀ u, execRecFlushPeriod t s = .next u → Bounds u := by
  intro u hu
  unfold execRecFlushPeriod at hu
  refine timed_keeps ?_ hu h
  clear hu h
  intro s h
  repeat' (first
    | with_reducible assumption
    | extract_lets +onlyGivenNames x
    | with_reducible apply beginFlush_keeps
    | with_reducible apply keeps_ite
    )

theorem setCursor_keeps {c : Nat} {g : Cursor → Cursor} {s : State} (h : Bounds s) :
    Bounds (setCursor c g s) := by
  unfold setCursor
  repeat' (first
    | with_reducible assumption
    | extract_lets +onlyGivenNames x
    | (simp only [↓bounds_mk]; refine keeps_of ?_ rfl rfl rfl rfl rfl rfl rfl)
    )

theorem execCursorExpiry_keeps {t : Nat} {c : Nat} {s : State} (h : Bounds s) :
    ∀ u, execCursorExpiry t c s = .next u → Bounds u := by
  intro u hu
  unfold execCursorExpiry at hu
  refine timed_keeps ?_ hu h
  clear hu h
  intro s h
  repeat' (first
    | with_reducible assumption
    | extract_lets +onlyGivenNames x
    | with_reducible apply setCursor_keeps
    | with_reducible apply keeps_ite
    )

theorem recSeekHandler_keeps {m : Nat} {r : Request} {a2 : State} (h : Bounds a2) :
    Bounds (recSeekHandler m r a2).2 := by
  unfold recSeekHandler
  repeat' (first
    | with_reducible assumption
    | (intro y)
    | extract_lets +onlyGivenNames x
    | with_reducible apply setCursor_keeps
    | with_reducible apply ok_keeps
    | with_reducible apply refuse_keeps
    | with_reducible apply withLength_keeps
    | with_reducible apply keeps_ite2
    )

theorem execRecSeek_keeps {t : Nat} {m : Nat} {s : State} (h : Bounds s) :
    ∀ u, execRecSeek t m s = .next u → Bounds u := by
  intro u hu
  unfold execRecSeek at hu
  refine timed_keeps ?_ hu h
  clear hu h
  intro s h
  repeat' (first
    | with_reducible assumption
    | (intro y)
    | extract_lets +onlyGivenNames x
    | with_reducible apply recSeekHandler_keeps
    | with_reducible apply serve_keeps
    )

theorem recReadHandler_keeps {m : Nat} {r : Request} {a2 : State} (h : Bounds a2) :
    Bounds (recReadHandler m r a2).2 := by
  unfold recReadHandler
  repeat' (first
    | with_reducible assumption
    | (intro y)
    | extract_lets +onlyGivenNames x
    | with_reducible apply setCursor_keeps
    | with_reducible apply answerWith_keeps
    | with_reducible apply refuse_keeps
    | with_reducible apply withLength_keeps
    | with_reducible apply keeps_ite2
    )

theorem execRecRead_keeps {t : Nat} {m : Nat} {s : State} (h : Bounds s) :
    ∀ u, execRecRead t m s = .next u → Bounds u := by
  intro u hu
  unfold execRecRead at hu
  refine timed_keeps ?_ hu h
  clear hu h
  intro s h
  repeat' (first
    | with_reducible assumption
    | (intro y)
    | extract_lets +onlyGivenNames x
    | with_reducible apply recReadHandler_keeps
    | with_reducible apply serve_keeps
    )

theorem execRecRelease_keeps {t : Nat} {m : Nat} {s : State} (h : Bounds s) :
    ∀ u, execRecRelease t m s = .next u → Bounds u := by
  intro u hu
  unfold execRecRelease at hu
  refine timed_keeps ?_ hu h
  clear hu h
  intro s h
  repeat' (first
    | with_reducible assumption
    | (intro y)
    | extract_lets +onlyGivenNames x
    | with_reducible apply setCursor_keeps
    | with_reducible apply ok_keeps
    | with_reducible apply refuse_keeps
    | with_reducible apply withLength_keeps
    | with_reducible apply serve_keeps
    | with_reducible apply keeps_ite2
    )

theorem execRecFlush_keeps {t : Nat} {m : Nat} {s : State} (h : Bounds s) :
    ∀ u, execRecFlush t m s = .next u → Bounds u := by
  intro u hu
  unfold execRecFlush at hu
  refine timed_keeps ?_ hu h
  clear hu h
  intro s h
  repeat' (first
    | with_reducible assumption
    | (intro y)
    | extract_lets +onlyGivenNames x
    | with_reducible apply beginFlush_keeps
    | with_reducible apply ok_keeps
    | with_reducible apply refuse_keeps
    | with_reducible apply withLength_keeps
    | with_reducible apply serve_keeps
    | with_reducible apply keeps_ite2
    )

theorem finishClear_keeps {j : ClearJob} {s : State} (h : Bounds s) :
    Bounds (finishClear j s) := by
  unfold finishClear
  repeat' (first
    | with_reducible assumption
    | (simp only [↓bounds_mk]; refine keeps_well (by assumption) rfl ?_ ?_ rfl rfl rfl rfl; rotate_left; (rw [List.length_drop]; omega); rotate_left; exact Nat.le_refl _)
    | (extract_lets +onlyGivenNames x; refine keeps_have (P := Bounds x) ?_ ?_; rotate_left; clear_value x; intro hx; rotate_left; unfold x; clear x)
    | extract_lets +onlyGivenNames x
    | with_reducible apply finishJob_keeps
    | with_reducible apply record_keeps
    | (simp only [↓bounds_mk]; refine keeps_of ?_ rfl rfl rfl rfl rfl rfl rfl)
    )

theorem checkClear_keeps {s : State} (h : Bounds s) :
    Bounds (checkClear s) := by
  unfold checkClear
  repeat' (first
    | with_reducible assumption
    | extract_lets +onlyGivenNames x
    | with_reducible apply finishClear_keeps
    | with_reducible apply keeps_ite
    | split
    )

theorem recClearHandler_keeps {m : Nat} {r : Request} {a2 : State} (h : Bounds a2) :
    Bounds (recClearHandler m r a2).2 := by
  unfold recClearHandler
  repeat' (first
    | with_reducible assumption
    | (intro y)
    | (simp only [↓bounds_mk]; refine keeps_well (by assumption) rfl ?_ ?_ rfl rfl rfl rfl; rotate_left; exact (by assumption : Bounds _).2.2.2.2.2.2.1; rotate_left; exact List.length_filter_le _ _)
    | (extract_lets +onlyGivenNames x; refine keeps_have (P := Bounds x) ?_ ?_; rotate_left; clear_value x; intro hx; rotate_left; unfold x; clear x)
    | extract_lets +onlyGivenNames x
    | with_reducible apply checkClear_keeps
    | with_reducible apply refuse_keeps
    | with_reducible apply withLength_keeps
    | with_reducible apply keeps_ite2
    )

theorem execRecClear_keeps {t : Nat} {m : Nat} {s : State} (h : Bounds s) :
    ∀ u, execRecClear t m s = .next u → Bounds u := by
  intro u hu
  unfold execRecClear at hu
  refine timed_keeps ?_ hu h
  clear hu h
  intro s h
  repeat' (first
    | with_reducible assumption
    | (intro y)
    | extract_lets +onlyGivenNames x
    | with_reducible apply recClearHandler_keeps
    | with_reducible apply serve_keeps
    )

theorem execRecClearBlock_keeps {t : Nat} {retired : Bool} {s : State} (h : Bounds s) :
    ∀ u, execRecClearBlock t retired s = .next u → Bounds u := by
  intro u hu
  unfold execRecClearBlock at hu
  refine timed_keeps ?_ hu h
  clear hu h
  intro s h
  repeat' (first
    | with_reducible assumption
    | (extract_lets +onlyGivenNames x; refine keeps_have (P := Bounds x) ?_ ?_; rotate_left; clear_value x; intro hx; rotate_left; unfold x; clear x)
    | extract_lets +onlyGivenNames x
    | with_reducible apply checkClear_keeps
    | with_reducible apply retireBlock_keeps
    | with_reducible apply keeps_ite
    | (simp only [↓bounds_mk]; refine keeps_of ?_ rfl rfl rfl rfl rfl rfl rfl)
    | split
    )

theorem execRecStatus_keeps {t : Nat} {m : Nat} {s : State} (h : Bounds s) :
    ∀ u, execRecStatus t m s = .next u → Bounds u := by
  intro u hu
  unfold execRecStatus at hu
  refine timed_keeps ?_ hu h
  clear hu h
  intro s h
  repeat' (first
    | with_reducible assumption
    | (intro y)
    | extract_lets +onlyGivenNames x
    | with_reducible apply statusHandler_keeps
    | with_reducible apply serve_keeps
    )

theorem execRecCodes_keeps {t : Nat} {m : Nat} {s : State} (h : Bounds s) :
    ∀ u, execRecCodes t m s = .next u → Bounds u := by
  intro u hu
  unfold execRecCodes at hu
  refine timed_keeps ?_ hu h
  clear hu h
  intro s h
  repeat' (first
    | with_reducible assumption
    | (intro y)
    | extract_lets +onlyGivenNames x
    | with_reducible apply okWith_keeps
    | with_reducible apply withLength_keeps
    | with_reducible apply serve_keeps
    )

theorem nextRate_keeps {d : Option Nat} {s : State} (h : Bounds s) :
    Bounds (nextRate d s) := by
  unfold nextRate
  repeat' (first
    | with_reducible assumption
    | (extract_lets +onlyGivenNames x; refine keeps_have (P := Bounds x) ?_ ?_; rotate_left; clear_value x; intro hx; rotate_left; unfold x; clear x)
    | extract_lets +onlyGivenNames x
    | with_reducible apply keeps_ite
    | (simp only [↓bounds_mk]; refine keeps_of ?_ rfl rfl rfl rfl rfl rfl rfl)
    )

theorem judgeForbid_keeps {s : State} (h : Bounds s) :
    Bounds (judgeForbid s) := by
  unfold judgeForbid
  repeat' (first
    | with_reducible assumption
    | extract_lets +onlyGivenNames x
    | with_reducible apply record_keeps
    | with_reducible apply keeps_ite
    | (simp only [↓bounds_mk]; refine keeps_of ?_ rfl rfl rfl rfl rfl rfl rfl)
    | split
    )

theorem judgeHot_keeps {s : State} (h : Bounds s) :
    Bounds (judgeHot s) := by
  unfold judgeHot
  repeat' (first
    | with_reducible assumption
    | extract_lets +onlyGivenNames x
    | with_reducible apply record_keeps
    | with_reducible apply keeps_ite
    | (simp only [↓bounds_mk]; refine keeps_of ?_ rfl rfl rfl rfl rfl rfl rfl)
    | split
    )

theorem execThermalSample_keeps {t : Nat} {ts : List (Option Int)} {s : State} (h : Bounds s) :
    ∀ u, execThermalSample t ts s = .next u → Bounds u := by
  intro u hu
  unfold execThermalSample at hu
  refine timed_keeps ?_ hu h
  clear hu h
  intro s h
  repeat' (first
    | with_reducible assumption
    | (intro y)
    | (extract_lets +onlyGivenNames x; refine keeps_have (P := Bounds x) ?_ ?_; rotate_left; clear_value x; intro hx; rotate_left; unfold x; clear x)
    | extract_lets +onlyGivenNames x
    | with_reducible apply setIsland_keeps
    | with_reducible apply judgeHot_keeps
    | with_reducible apply judgeForbid_keeps
    | with_reducible apply nextRate_keeps
    | with_reducible apply record_keeps
    | with_reducible apply eachDo_keeps
    | with_reducible apply keeps_ite
    | (simp only [↓bounds_mk]; refine keeps_of ?_ rfl rfl rfl rfl rfl rfl rfl)
    )

theorem writeWaiting_keeps {s : State} (h : Bounds s) :
    Bounds (writeWaiting s) := by
  unfold writeWaiting
  repeat' (first
    | with_reducible assumption
    | extract_lets +onlyGivenNames x
    | with_reducible apply saveContexts_keeps
    | with_reducible apply startFlush_keeps
    | (simp only [↓bounds_mk]; refine keeps_of ?_ rfl rfl rfl rfl rfl rfl rfl)
    )

theorem execNvmForbidLift_keeps {t : Nat} {s : State} (h : Bounds s) :
    ∀ u, execNvmForbidLift t s = .next u → Bounds u := by
  intro u hu
  unfold execNvmForbidLift at hu
  refine timed_keeps ?_ hu h
  clear hu h
  intro s h
  repeat' (first
    | with_reducible assumption
    | extract_lets +onlyGivenNames x
    | with_reducible apply writeWaiting_keeps
    | with_reducible apply keeps_ite
    | (simp only [↓bounds_mk]; refine keeps_of ?_ rfl rfl rfl rfl rfl rfl rfl)
    )

theorem execThermalShutdown_keeps {t : Nat} {mask : Nat} {held : Nat} {s : State} (h : Bounds s) :
    ∀ u, execThermalShutdown t mask held s = .next u → Bounds u := by
  intro u hu
  unfold execThermalShutdown at hu
  refine timed_keeps ?_ hu h
  clear hu h
  intro s h
  repeat' (first
    | with_reducible assumption
    | (extract_lets +onlyGivenNames x; refine keeps_have (P := Bounds x) ?_ ?_; rotate_left; clear_value x; intro hx; rotate_left; unfold x; clear x)
    | extract_lets +onlyGivenNames x
    | with_reducible apply gatesOff_keeps
    | with_reducible apply endJobs_keeps
    | with_reducible apply domeDemands_keeps
    | with_reducible apply dropClaim_keeps
    | with_reducible apply keeps_ite
    | (simp only [↓bounds_mk]; refine keeps_of ?_ rfl rfl rfl rfl rfl rfl rfl)
    )

theorem resetEngines_keeps {s : State} (h : Bounds s) :
    Bounds (resetEngines s) := by
  have k : ∀ (u : State) (m : Mailboxes) (f : Fabric), Bounds u → m.mbx.length = u.mbx.mbx.length → f.flows = [] →
      BoundsOf m u.well u.disp f u.bus := by
    intro u m f hu hm hf
    obtain ⟨h1, h2, h3, h4, h5, h6, h7, h8⟩ := hu
    exact ⟨h1, h2, h3, by simp [hf], h5, h6, h7, by rw [hm]; exact h8⟩
  unfold resetEngines
  extract_lets holdover u
  exact k u _ _ (eachDo_keeps (fun _ _ h => flushMarkers_keeps h) h) (List.length_map _) rfl

theorem execThermalResetHold_keeps {t : Nat} {s : State} (h : Bounds s) :
    ∀ u, execThermalResetHold t s = .next u → Bounds u := by
  intro u hu
  unfold execThermalResetHold at hu
  refine timed_keeps ?_ hu h
  clear hu h
  intro s h
  repeat' (first
    | with_reducible assumption
    | (intro y)
    | (extract_lets +onlyGivenNames x; refine keeps_have (P := Bounds x) ?_ ?_; rotate_left; clear_value x; intro hx; rotate_left; unfold x; clear x)
    | extract_lets +onlyGivenNames x
    | with_reducible apply resetEngines_keeps
    | with_reducible apply openCoil_keeps
    | with_reducible apply eachDo_keeps
    | with_reducible apply clearDispatch_keeps
    | with_reducible apply keeps_ite
    | (simp only [↓bounds_mk]; refine keeps_of ?_ rfl rfl rfl rfl rfl rfl rfl)
    | split
    )

theorem execThermalRelease_keeps {t : Nat} {below : Nat} {s : State} (h : Bounds s) :
    ∀ u, execThermalRelease t below s = .next u → Bounds u := by
  intro u hu
  unfold execThermalRelease at hu
  refine timed_keeps ?_ hu h
  clear hu h
  intro s h
  repeat' (first
    | with_reducible assumption
    | extract_lets +onlyGivenNames x
    | with_reducible apply keeps_ite
    | (simp only [↓bounds_mk]; refine keeps_of ?_ rfl rfl rfl rfl rfl rfl rfl)
    )

theorem execThermalAutoReconnect_keeps {t : Nat} {vStr : Int} {vLnk : Int} {s : State} (h : Bounds s) :
    ∀ u, execThermalAutoReconnect t vStr vLnk s = .next u → Bounds u := by
  intro u hu
  unfold execThermalAutoReconnect at hu
  refine timed_keeps ?_ hu h
  clear hu h
  intro s h
  repeat' (first
    | with_reducible assumption
    | (extract_lets +onlyGivenNames x; refine keeps_have (P := Bounds x) ?_ ?_; rotate_left; clear_value x; intro hx; rotate_left; unfold x; clear x)
    | extract_lets +onlyGivenNames x
    | with_reducible apply beginConnect_keeps
    | with_reducible apply keeps_ite
    | (simp only [↓bounds_mk]; refine keeps_of ?_ rfl rfl rfl rfl rfl rfl rfl)
    )

theorem loopOut_keeps {p : Int} {i : Int} {s : State} (h : Bounds s) :
    Bounds (loopOut p i s).1 := by
  unfold loopOut
  repeat' (first
    | with_reducible assumption
    | with_reducible apply countStore_keeps
    )

theorem nextCells_keeps {s : State} (h : Bounds s) :
    Bounds (nextCells s) := by
  unfold nextCells
  repeat' (first
    | with_reducible assumption
    | extract_lets +onlyGivenNames x
    | with_reducible apply keeps_ite
    | (simp only [↓bounds_mk]; refine keeps_of ?_ rfl rfl rfl rfl rfl rfl rfl)
    )

theorem setHtr_keeps {on : Bool} {s : State} (h : Bounds s) :
    Bounds (setHtr on s) := by
  unfold setHtr
  repeat' (first
    | with_reducible assumption
    | extract_lets +onlyGivenNames x
    | with_reducible apply keeps_ite
    | (simp only [↓bounds_mk]; refine keeps_of ?_ rfl rfl rfl rfl rfl rfl rfl)
    )

theorem runHtr_keeps {want : Bool} {s : State} (h : Bounds s) :
    Bounds (runHtr want s) := by
  unfold runHtr
  repeat' (first
    | with_reducible assumption
    | extract_lets +onlyGivenNames x
    | with_reducible apply setHtr_keeps
    | with_reducible apply keeps_ite
    )

theorem bumpless_keeps {s : State} {hi : Int} (h : Bounds s) :
    Bounds (bumpless s hi) := by
  unfold bumpless
  repeat' (first
    | with_reducible assumption
    | extract_lets +onlyGivenNames x
    | (simp only [↓bounds_mk]; refine keeps_of ?_ rfl rfl rfl rfl rfl rfl rfl)
    )

theorem coolPump_keeps {hi : Int} {s : State} (h : Bounds s) :
    Bounds (coolPump hi s) := by
  unfold coolPump
  repeat' (first
    | with_reducible assumption
    | extract_lets +onlyGivenNames x
    | with_reducible apply loopOut_keeps
    | (simp only [↓bounds_mk]; refine keeps_of ?_ rfl rfl rfl rfl rfl rfl rfl)
    )

theorem coolValve_keeps {s : State} (h : Bounds s) :
    Bounds (coolValve s) := by
  unfold coolValve
  repeat' (first
    | with_reducible assumption
    | extract_lets +onlyGivenNames x
    | with_reducible apply loopOut_keeps
    | (simp only [↓bounds_mk]; refine keeps_of ?_ rfl rfl rfl rfl rfl rfl rfl)
    | split
    )

theorem loopOutputs_keeps {fresh : Bool} {hi : Int} {lo : Int} {s : State} (h : Bounds s) :
    Bounds (loopOutputs fresh hi lo s) := by
  unfold loopOutputs
  repeat' (first
    | with_reducible assumption
    | (extract_lets +onlyGivenNames x; refine keeps_have (P := Bounds x) ?_ ?_; rotate_left; clear_value x; intro hx; rotate_left; unfold x; clear x)
    | extract_lets +onlyGivenNames x
    | with_reducible apply runHtr_keeps
    | with_reducible apply coolPump_keeps
    | with_reducible apply coolValve_keeps
    | with_reducible apply bumpless_keeps
    | with_reducible apply keeps_ite
    | (simp only [↓bounds_mk]; refine keeps_of ?_ rfl rfl rfl rfl rfl rfl rfl)
    | split
    | clear_value *
    )

theorem manualOutputs_keeps {s : State} (h : Bounds s) :
    Bounds (manualOutputs s) := by
  unfold manualOutputs
  repeat' (first
    | with_reducible assumption
    | extract_lets +onlyGivenNames x
    | with_reducible apply runHtr_keeps
    | (simp only [↓bounds_mk]; refine keeps_of ?_ rfl rfl rfl rfl rfl rfl rfl)
    )

theorem loopInputs_keeps {tc : List (Option Int)} {s : State} (h : Bounds s) :
    Bounds (loopInputs tc s) := by
  unfold loopInputs
  repeat' (first
    | with_reducible assumption
    | (intro y)
    | (extract_lets +onlyGivenNames x; refine keeps_have (P := Bounds x) ?_ ?_; rotate_left; clear_value x; intro hx; rotate_left; unfold x; clear x)
    | (extract_lets +onlyGivenNames x; refine keeps_have (P := Bounds x.2) ?_ ?_; rotate_left; clear_value x; intro hx; rotate_left; unfold x; clear x)
    | extract_lets +onlyGivenNames x
    | with_reducible apply nextCells_keeps
    | with_reducible apply keeps_ite
    | with_reducible apply keeps_ite2
    | (simp only [↓bounds_mk]; refine keeps_of ?_ rfl rfl rfl rfl rfl rfl rfl)
    | split
    | dsimp only
    | with_reducible apply keeps_fold
    | assumption
    | clear_value *
    )

theorem noteCoolFault_keeps {cause : Nat} {s : State} (h : Bounds s) :
    Bounds (noteCoolFault cause s) := by
  unfold noteCoolFault
  repeat' (first
    | with_reducible assumption
    | (intro y)
    | (extract_lets +onlyGivenNames x; refine keeps_have (P := Bounds x) ?_ ?_; rotate_left; clear_value x; intro hx; rotate_left; unfold x; clear x)
    | (extract_lets +onlyGivenNames x; refine keeps_have (P := Bounds x.2) ?_ ?_; rotate_left; clear_value x; intro hx; rotate_left; unfold x; clear x)
    | extract_lets +onlyGivenNames x
    | with_reducible apply record_keeps
    | with_reducible apply keeps_ite
    | with_reducible apply keeps_ite2
    | (simp only [↓bounds_mk]; refine keeps_of ?_ rfl rfl rfl rfl rfl rfl rfl)
    | split
    | dsimp only
    | with_reducible apply keeps_fold
    | assumption
    | clear_value *
    )

theorem loopAct_keeps {resumed : Bool} {s : State} (h : Bounds s) :
    Bounds (loopAct resumed s) := by
  unfold loopAct
  repeat' (first
    | with_reducible assumption
    | (intro y)
    | (extract_lets +onlyGivenNames x; refine keeps_have (P := Bounds x) ?_ ?_; rotate_left; clear_value x; intro hx; rotate_left; unfold x; clear x)
    | (extract_lets +onlyGivenNames x; refine keeps_have (P := Bounds x.2) ?_ ?_; rotate_left; clear_value x; intro hx; rotate_left; unfold x; clear x)
    | extract_lets +onlyGivenNames x
    | with_reducible apply loopOutputs_keeps
    | with_reducible apply setHtr_keeps
    | with_reducible apply manualOutputs_keeps
    | with_reducible apply noteCoolFault_keeps
    | with_reducible apply keeps_ite
    | with_reducible apply keeps_ite2
    | (simp only [↓bounds_mk]; refine keeps_of ?_ rfl rfl rfl rfl rfl rfl rfl)
    | split
    | dsimp only
    | with_reducible apply keeps_fold
    | assumption
    | clear_value *
    )

theorem noteOutputs_keeps {s : State} (h : Bounds s) :
    Bounds (noteOutputs s) := by
  unfold noteOutputs
  repeat' (first
    | with_reducible assumption
    | (intro y)
    | (extract_lets +onlyGivenNames x; refine keeps_have (P := Bounds x) ?_ ?_; rotate_left; clear_value x; intro hx; rotate_left; unfold x; clear x)
    | (extract_lets +onlyGivenNames x; refine keeps_have (P := Bounds x.2) ?_ ?_; rotate_left; clear_value x; intro hx; rotate_left; unfold x; clear x)
    | extract_lets +onlyGivenNames x
    | with_reducible apply keeps_ite
    | with_reducible apply keeps_ite2
    | (simp only [↓bounds_mk]; refine keeps_of ?_ rfl rfl rfl rfl rfl rfl rfl)
    | split
    | dsimp only
    | with_reducible apply keeps_fold
    | assumption
    | clear_value *
    )

theorem containerLoop_keeps {tc : List (Option Int)} {s : State} (h : Bounds s) :
    Bounds (containerLoop tc s) := by
  unfold containerLoop
  repeat' (first
    | with_reducible assumption
    | (intro y)
    | (extract_lets +onlyGivenNames x; refine keeps_have (P := Bounds x) ?_ ?_; rotate_left; clear_value x; intro hx; rotate_left; unfold x; clear x)
    | (extract_lets +onlyGivenNames x; refine keeps_have (P := Bounds x.2) ?_ ?_; rotate_left; clear_value x; intro hx; rotate_left; unfold x; clear x)
    | extract_lets +onlyGivenNames x
    | with_reducible apply loopInputs_keeps
    | with_reducible apply loopAct_keeps
    | with_reducible apply noteOutputs_keeps
    | with_reducible apply keeps_ite
    | with_reducible apply keeps_ite2
    | (simp only [↓bounds_mk]; refine keeps_of ?_ rfl rfl rfl rfl rfl rfl rfl)
    | split
    | dsimp only
    | with_reducible apply keeps_fold
    | assumption
    | clear_value *
    )

theorem execContainerLoop_keeps {t : Nat} {tc : List (Option Int)} {s : State} (h : Bounds s) :
    ∀ u, execContainerLoop t tc s = .next u → Bounds u := by
  intro u hu
  unfold execContainerLoop at hu
  refine timed_keeps ?_ hu h
  clear hu h
  intro s h
  repeat' (first
    | with_reducible assumption
    | (intro y)
    | (extract_lets +onlyGivenNames x; refine keeps_have (P := Bounds x) ?_ ?_; rotate_left; clear_value x; intro hx; rotate_left; unfold x; clear x)
    | (extract_lets +onlyGivenNames x; refine keeps_have (P := Bounds x.2) ?_ ?_; rotate_left; clear_value x; intro hx; rotate_left; unfold x; clear x)
    | extract_lets +onlyGivenNames x
    | with_reducible apply containerLoop_keeps
    | with_reducible apply keeps_ite
    | with_reducible apply keeps_ite2
    | (simp only [↓bounds_mk]; refine keeps_of ?_ rfl rfl rfl rfl rfl rfl rfl)
    | split
    | dsimp only
    | with_reducible apply keeps_fold
    | assumption
    | clear_value *
    )

theorem fallbackOutputs_keeps {s : State} (h : Bounds s) :
    Bounds (fallbackOutputs s) := by
  unfold fallbackOutputs
  repeat' (first
    | with_reducible assumption
    | extract_lets +onlyGivenNames x
    | with_reducible apply setHtr_keeps
    | (simp only [↓bounds_mk]; refine keeps_of ?_ rfl rfl rfl rfl rfl rfl rfl)
    )

theorem hardwareFallback_keeps {s : State} (h : Bounds s) :
    Bounds (hardwareFallback s) := by
  unfold hardwareFallback
  repeat' (first
    | with_reducible assumption
    | extract_lets +onlyGivenNames x
    | with_reducible apply fallbackOutputs_keeps
    | (simp only [↓bounds_mk]; refine keeps_of ?_ rfl rfl rfl rfl rfl rfl rfl)
    )

theorem execLoopFallback_keeps {t : Nat} {s : State} (h : Bounds s) :
    ∀ u, execLoopFallback t s = .next u → Bounds u := by
  intro u hu
  unfold execLoopFallback at hu
  refine timed_keeps ?_ hu h
  clear hu h
  intro s h
  repeat' (first
    | with_reducible assumption
    | extract_lets +onlyGivenNames x
    | with_reducible apply fallbackOutputs_keeps
    | with_reducible apply record_keeps
    | with_reducible apply keeps_ite
    | (simp only [↓bounds_mk]; refine keeps_of ?_ rfl rfl rfl rfl rfl rfl rfl)
    )

theorem loopWatchdog_keeps {s : State} (h : Bounds s) :
    Bounds (loopWatchdog s) := by
  unfold loopWatchdog
  repeat' (first
    | with_reducible assumption
    | extract_lets +onlyGivenNames x
    | with_reducible apply hardwareFallback_keeps
    | with_reducible apply record_keeps
    | with_reducible apply keeps_ite
    | (simp only [↓bounds_mk]; refine keeps_of ?_ rfl rfl rfl rfl rfl rfl rfl)
    )

theorem execLoopWatchdog_keeps {t : Nat} {s : State} (h : Bounds s) :
    ∀ u, execLoopWatchdog t s = .next u → Bounds u := by
  intro u hu
  unfold execLoopWatchdog at hu
  refine timed_keeps ?_ hu h
  clear hu h
  intro s h
  repeat' (first
    | with_reducible assumption
    | extract_lets +onlyGivenNames x
    | with_reducible apply loopWatchdog_keeps
    | with_reducible apply keeps_ite
    )

theorem execVlvOpen_keeps {t : Nat} {ua : Nat} {held : Nat} {s : State} (h : Bounds s) :
    ∀ u, execVlvOpen t ua held s = .next u → Bounds u := by
  intro u hu
  unfold execVlvOpen at hu
  refine timed_keeps ?_ hu h
  clear hu h
  intro s h
  repeat' (first
    | with_reducible assumption
    | extract_lets +onlyGivenNames x
    | with_reducible apply record_keeps
    | with_reducible apply keeps_ite
    | (simp only [↓bounds_mk]; refine keeps_of ?_ rfl rfl rfl rfl rfl rfl rfl)
    )

theorem execThermStatus_keeps {t : Nat} {m : Nat} {s : State} (h : Bounds s) :
    ∀ u, execThermStatus t m s = .next u → Bounds u := by
  intro u hu
  unfold execThermStatus at hu
  refine timed_keeps ?_ hu h
  clear hu h
  intro s h
  repeat' (first
    | with_reducible assumption
    | (intro y)
    | extract_lets +onlyGivenNames x
    | with_reducible apply statusHandler_keeps
    | with_reducible apply serve_keeps
    )

theorem thermManualHandler_keeps {a0 : Request} {a1 : State} (h : Bounds a1) :
    Bounds (thermManualHandler a0 a1).2 := by
  unfold thermManualHandler
  repeat' (first
    | with_reducible assumption
    | (intro y)
    | (extract_lets +onlyGivenNames x; refine keeps_have (P := Bounds x) ?_ ?_; rotate_left; clear_value x; intro hx; rotate_left; unfold x; clear x)
    | extract_lets +onlyGivenNames x
    | with_reducible apply manualOutputs_keeps
    | with_reducible apply ok_keeps
    | with_reducible apply refuse_keeps
    | with_reducible apply withLength_keeps
    | with_reducible apply keeps_ite
    | with_reducible apply keeps_ite2
    | (simp only [↓bounds_mk]; refine keeps_of ?_ rfl rfl rfl rfl rfl rfl rfl)
    )

theorem execThermManual_keeps {t : Nat} {m : Nat} {s : State} (h : Bounds s) :
    ∀ u, execThermManual t m s = .next u → Bounds u := by
  intro u hu
  unfold execThermManual at hu
  refine timed_keeps ?_ hu h
  clear hu h
  intro s h
  repeat' (first
    | with_reducible assumption
    | (intro y)
    | extract_lets +onlyGivenNames x
    | with_reducible apply thermManualHandler_keeps
    | with_reducible apply serve_keeps
    )

theorem endManual_keeps {s : State} (h : Bounds s) :
    Bounds (endManual s) := by
  unfold endManual
  repeat' (first
    | with_reducible assumption
    | (extract_lets +onlyGivenNames x; refine keeps_have (P := Bounds x) ?_ ?_; rotate_left; clear_value x; intro hx; rotate_left; unfold x; clear x)
    | extract_lets +onlyGivenNames x
    | with_reducible apply bumpless_keeps
    | with_reducible apply setHtr_keeps
    | with_reducible apply keeps_ite
    | (simp only [↓bounds_mk]; refine keeps_of ?_ rfl rfl rfl rfl rfl rfl rfl)
    )

theorem execThermManualEnd_keeps {t : Nat} {s : State} (h : Bounds s) :
    ∀ u, execThermManualEnd t s = .next u → Bounds u := by
  intro u hu
  unfold execThermManualEnd at hu
  refine timed_keeps ?_ hu h
  clear hu h
  intro s h
  repeat' (first
    | with_reducible assumption
    | extract_lets +onlyGivenNames x
    | with_reducible apply endManual_keeps
    | with_reducible apply keeps_ite
    )

theorem execThermAuto_keeps {t : Nat} {m : Nat} {s : State} (h : Bounds s) :
    ∀ u, execThermAuto t m s = .next u → Bounds u := by
  intro u hu
  unfold execThermAuto at hu
  refine timed_keeps ?_ hu h
  clear hu h
  intro s h
  repeat' (first
    | with_reducible assumption
    | (intro y)
    | extract_lets +onlyGivenNames x
    | with_reducible apply endManual_keeps
    | with_reducible apply ok_keeps
    | with_reducible apply withLength_keeps
    | with_reducible apply serve_keeps
    | with_reducible apply keeps_ite
    )

end Sys2Proof.Machine
end

