-- ==== Sys2Proof/Laws/BoundsPair.lean ====
section
/-!
SUPPORT. Laws/BoundsPair.lean: the operations of Pair, Halts, Update keep the bounds, as Laws/Bounds.lean says it of the earlier ones.
-/

set_option linter.all false

namespace Sys2Proof.Machine

open Sys2Proof

theorem pushCheckpoint_keeps {s : State} (h : Bounds s) :
    Bounds (pushCheckpoint s) := by
  unfold pushCheckpoint
  repeat' (first
    | with_reducible assumption
    | (intro y)
    | (extract_lets +onlyGivenNames x; refine keeps_have (P := Bounds x) ?_ ?_; rotate_left; clear_value x; intro hx; rotate_left; unfold x; clear x)
    | extract_lets +onlyGivenNames x
    | with_reducible apply sendOnPair_keeps
    | with_reducible apply sendFlow_keeps
    | with_reducible apply eachDo_keeps
    | with_reducible apply keeps_ite
    | (simp only [↓bounds_mk]; refine keeps_of ?_ rfl rfl rfl rfl rfl rfl rfl)
    )

theorem execCheckpointPush_keeps {t : Nat} {s : State} (h : Bounds s) :
    ∀ u, execCheckpointPush t s = .next u → Bounds u := by
  intro u hu
  unfold execCheckpointPush at hu
  refine timed_keeps ?_ hu h
  clear hu h
  intro s h
  repeat' (first
    | with_reducible assumption
    | extract_lets +onlyGivenNames x
    | with_reducible apply pushCheckpoint_keeps
    | with_reducible apply keeps_ite
    )

theorem takeCheckpoint_keeps {seq : Nat} {b : List Byte} {s : State} (h : Bounds s) :
    Bounds (takeCheckpoint seq b s) := by
  unfold takeCheckpoint
  repeat' (first
    | with_reducible assumption
    | (intro y)
    | (extract_lets +onlyGivenNames x; refine keeps_have (P := Bounds x) ?_ ?_; rotate_left; clear_value x; intro hx; rotate_left; unfold x; clear x)
    | extract_lets +onlyGivenNames x
    | with_reducible apply record_keeps
    | with_reducible apply eachDo_keeps
    | with_reducible apply keeps_ite
    | (simp only [↓bounds_mk]; refine keeps_of ?_ rfl rfl rfl rfl rfl rfl rfl)
    )

theorem collectBlock_keeps {b : List Byte} {s : State} (h : Bounds s) :
    Bounds (collectBlock b s) := by
  unfold collectBlock
  repeat' (first
    | with_reducible assumption
    | (extract_lets +onlyGivenNames x; refine keeps_have (P := Bounds x) ?_ ?_; rotate_left; clear_value x; intro hx; rotate_left; unfold x; clear x)
    | extract_lets +onlyGivenNames x
    | with_reducible apply takeCheckpoint_keeps
    | with_reducible apply keeps_ite
    | (simp only [↓bounds_mk]; refine keeps_of ?_ rfl rfl rfl rfl rfl rfl rfl)
    )

theorem execCheckpointBlock_keeps {t : Nat} {b : List Byte} {s : State} (h : Bounds s) :
    ∀ u, execCheckpointBlock t b s = .next u → Bounds u := by
  intro u hu
  unfold execCheckpointBlock at hu
  refine timed_keeps ?_ hu h
  clear hu h
  intro s h
  repeat' (first
    | with_reducible assumption
    | extract_lets +onlyGivenNames x
    | with_reducible apply collectBlock_keeps
    | with_reducible apply keeps_ite
    )

theorem entriesOf_length (d : List Byte) : (entriesOf d).length ≤ 16 :=
  Nat.le_trans (List.length_filterMap_le _ _) (Nat.le_of_eq List.length_range)

theorem dispOf_queue (d : List Byte) (x : Disp) : (dispOf d x).queue = entriesOf d := by
  unfold dispOf
  generalize entriesOf d = q
  rfl

theorem loadDispatch_keeps {b : List Byte} {s : State} (h : Bounds s) :
    Bounds (loadDispatch b s) := by
  have k : (dispOf (b.drop 96) s.disp).queue.length ≤ 16 := by
    rw [dispOf_queue]
    exact entriesOf_length _
  have k2 : ∀ d : Disp, d.queue.length ≤ 16 → Bounds { s with disp := d } := by
    intro d hd
    obtain ⟨h1, h2, h3, h4, _, h6⟩ := h
    exact ⟨h1, h2, h3, h4, hd, h6⟩
  exact k2 _ k

theorem loadRing_keeps {b : List Byte} {r : Nat} {s : State} (h : Bounds s) :
    Bounds (loadRing b r s) := by
  unfold loadRing
  repeat' (first
    | with_reducible assumption
    | extract_lets +onlyGivenNames x
    | with_reducible apply setRing_keeps
    )

theorem latchMask_keeps {mask : Nat} {cause : Nat} {s : State} (h : Bounds s) :
    Bounds (latchMask mask cause s) := by
  unfold latchMask
  repeat' (first
    | with_reducible assumption
    | (extract_lets +onlyGivenNames x; refine keeps_have (P := Bounds x) ?_ ?_; rotate_left; clear_value x; intro hx; rotate_left; unfold x; clear x)
    | extract_lets +onlyGivenNames x
    | with_reducible apply latchCode_keeps
    | with_reducible apply keeps_ite
    | (simp only [↓bounds_mk]; refine keeps_of ?_ rfl rfl rfl rfl rfl rfl rfl)
    )

theorem noteStale_keeps {stale : Bool} {s : State} (h : Bounds s) :
    Bounds (noteStale stale s) := by
  unfold noteStale
  repeat' (first
    | with_reducible assumption
    | (extract_lets +onlyGivenNames x; refine keeps_have (P := Bounds x) ?_ ?_; rotate_left; clear_value x; intro hx; rotate_left; unfold x; clear x)
    | extract_lets +onlyGivenNames x
    | with_reducible apply record_keeps
    | with_reducible apply keeps_ite
    | (simp only [↓bounds_mk]; refine keeps_of ?_ rfl rfl rfl rfl rfl rfl rfl)
    )

theorem loadContexts_keeps {b : List Byte} {s : State} (h : Bounds s) :
    Bounds (loadContexts b s) := by
  unfold loadContexts
  repeat' (first
    | with_reducible assumption
    | extract_lets +onlyGivenNames x
    | (simp only [↓bounds_mk]; refine keeps_of ?_ rfl rfl rfl rfl rfl rfl rfl)
    )

theorem loadCounters_keeps {b : List Byte} {s : State} (h : Bounds s) :
    Bounds (loadCounters b s) := by
  unfold loadCounters
  repeat' (first
    | with_reducible assumption
    | extract_lets +onlyGivenNames x
    | (simp only [↓bounds_mk]; refine keeps_of ?_ rfl rfl rfl rfl rfl rfl rfl)
    )

theorem loadCheckpoint_keeps {at_ : Nat} {b : List Byte} {s : State} (h : Bounds s) :
    Bounds (loadCheckpoint at_ b s) := by
  unfold loadCheckpoint
  repeat' (first
    | with_reducible assumption
    | (extract_lets +onlyGivenNames x; refine keeps_have (P := Bounds x) ?_ ?_; rotate_left; clear_value x; intro hx; rotate_left; unfold x; clear x)
    | extract_lets +onlyGivenNames x
    | with_reducible apply latchMask_keeps
    | with_reducible apply loadContexts_keeps
    | with_reducible apply loadDispatch_keeps
    | with_reducible apply loadRing_keeps
    | with_reducible apply loadCounters_keeps
    | with_reducible apply noteStale_keeps
    )

theorem releaseCoils_keeps {s : State} (h : Bounds s) :
    Bounds (releaseCoils s) := by
  unfold releaseCoils
  repeat' (first
    | with_reducible assumption
    | extract_lets +onlyGivenNames x
    | (simp only [↓bounds_mk]; refine keeps_of ?_ rfl rfl rfl rfl rfl rfl rfl)
    )

theorem becomeStandby_keeps {s : State} (h : Bounds s) :
    Bounds (becomeStandby s) := by
  unfold becomeStandby
  repeat' (first
    | with_reducible assumption
    | (extract_lets +onlyGivenNames x; refine keeps_have (P := Bounds x) ?_ ?_; rotate_left; clear_value x; intro hx; rotate_left; unfold x; clear x)
    | extract_lets +onlyGivenNames x
    | with_reducible apply dropEnable_keeps
    | with_reducible apply setMode_keeps
    | with_reducible apply withdrawFor_keeps
    | with_reducible apply markChanged_keeps
    | with_reducible apply releaseCoils_keeps
    | with_reducible apply gatesOff_keeps
    | with_reducible apply endJobs_keeps
    | (simp only [↓bounds_mk]; refine keeps_of ?_ rfl rfl rfl rfl rfl rfl rfl)
    )

theorem headRing_keeps {r : Nat} {s : State} (h : Bounds s) :
    Bounds (headRing r s) := by
  unfold headRing
  repeat' (first
    | with_reducible assumption
    | with_reducible apply setRing_keeps
    )

theorem rehead_keeps {r : Nat} {s : State} (h : Bounds s) :
    Bounds (rehead r s) := by
  unfold rehead
  repeat' (first
    | with_reducible assumption
    | (extract_lets +onlyGivenNames x; refine keeps_have (P := Bounds x) ?_ ?_; rotate_left; clear_value x; intro hx; rotate_left; unfold x; clear x)
    | extract_lets +onlyGivenNames x
    | with_reducible apply sendTap_keeps
    | with_reducible apply headRing_keeps
    | with_reducible apply setRing_keeps
    | with_reducible apply keeps_ite
    )

theorem takeRings_keeps {known : Bool} {s : State} (h : Bounds s) :
    Bounds (takeRings known s) := by
  unfold takeRings
  repeat' (first
    | with_reducible assumption
    | (extract_lets +onlyGivenNames x; refine keeps_have (P := Bounds x) ?_ ?_; rotate_left; clear_value x; intro hx; rotate_left; unfold x; clear x)
    | extract_lets +onlyGivenNames x
    | with_reducible apply setPeriodic_keeps
    | with_reducible apply judgeEff_keeps
    | with_reducible apply rehead_keeps
    | with_reducible apply headRing_keeps
    | with_reducible apply keeps_ite
    | (simp only [↓bounds_mk]; refine keeps_of ?_ rfl rfl rfl rfl rfl rfl rfl)
    )

theorem takeHeld_keeps {a : Nat} {b : List Byte} {s : State} (h : Bounds s) :
    Bounds (takeHeld a b s) := by
  unfold takeHeld
  repeat' (first
    | with_reducible assumption
    | (extract_lets +onlyGivenNames x; refine keeps_have (P := Bounds x) ?_ ?_; rotate_left; clear_value x; intro hx; rotate_left; unfold x; clear x)
    | extract_lets +onlyGivenNames x
    | with_reducible apply loadCheckpoint_keeps
    | (simp only [↓bounds_mk]; refine keeps_of ?_ rfl rfl rfl rfl rfl rfl rfl)
    )

theorem takeNothing_keeps {s : State} (h : Bounds s) :
    Bounds (takeNothing s) := by
  unfold takeNothing
  repeat' (first
    | with_reducible assumption
    | (extract_lets +onlyGivenNames x; refine keeps_have (P := Bounds x) ?_ ?_; rotate_left; clear_value x; intro hx; rotate_left; unfold x; clear x)
    | extract_lets +onlyGivenNames x
    | with_reducible apply restoreContexts_keeps
    | with_reducible apply clearDispatch_keeps
    | with_reducible apply record_keeps
    | (simp only [↓bounds_mk]; refine keeps_of ?_ rfl rfl rfl rfl rfl rfl rfl)
    )

theorem startTakeover_keeps {s : State} (h : Bounds s) :
    Bounds (startTakeover s) := by
  unfold startTakeover
  repeat' (first
    | with_reducible assumption
    | (intro y)
    | (extract_lets +onlyGivenNames x; refine keeps_have (P := Bounds x) ?_ ?_; rotate_left; clear_value x; intro hx; rotate_left; unfold x; clear x)
    | extract_lets +onlyGivenNames x
    | with_reducible apply takeNothing_keeps
    | with_reducible apply takeHeld_keeps
    | with_reducible apply openPorts_keeps
    | with_reducible apply trainLane_keeps
    | with_reducible apply eachDo_keeps
    | with_reducible apply setMode_keeps
    | with_reducible apply record_keeps
    | with_reducible apply keeps_ite
    | (simp only [↓bounds_mk]; refine keeps_of ?_ rfl rfl rfl rfl rfl rfl rfl)
    | split
    )

theorem ownCoils_keeps {s : State} (h : Bounds s) :
    Bounds (ownCoils s) := by
  unfold ownCoils
  repeat' (first
    | with_reducible assumption
    | extract_lets +onlyGivenNames x
    | (simp only [↓bounds_mk]; refine keeps_of ?_ rfl rfl rfl rfl rfl rfl rfl)
    )

theorem takeToken_keeps {s : State} (h : Bounds s) :
    Bounds (takeToken s) := by
  unfold takeToken
  repeat' (first
    | with_reducible assumption
    | extract_lets +onlyGivenNames x
    | with_reducible apply ownCoils_keeps
    | with_reducible apply releaseGates_keeps
    )

theorem completeClaim_keeps {s : State} (h : Bounds s) :
    Bounds (completeClaim s) := by
  unfold completeClaim
  repeat' (first
    | with_reducible assumption
    | (extract_lets +onlyGivenNames x; refine keeps_have (P := Bounds x) ?_ ?_; rotate_left; clear_value x; intro hx; rotate_left; unfold x; clear x)
    | extract_lets +onlyGivenNames x
    | with_reducible apply beginOpening_keeps
    | with_reducible apply demandBy_keeps
    | with_reducible apply setMode_keeps
    | with_reducible apply record_keeps
    | with_reducible apply markChanged_keeps
    | with_reducible apply armNext_keeps
    | with_reducible apply takeDue_keeps
    | with_reducible apply takeRings_keeps
    | with_reducible apply keeps_ite
    | (simp only [↓bounds_mk]; refine keeps_of ?_ rfl rfl rfl rfl rfl rfl rfl)
    | split
    )

theorem execHeartbeatSend_keeps {t : Nat} {s : State} (h : Bounds s) :
    ∀ u, execHeartbeatSend t s = .next u → Bounds u := by
  intro u hu
  unfold execHeartbeatSend at hu
  refine timed_keeps ?_ hu h
  clear hu h
  intro s h
  repeat' (first
    | with_reducible assumption
    | (extract_lets +onlyGivenNames x; refine keeps_have (P := Bounds x) ?_ ?_; rotate_left; clear_value x; intro hx; rotate_left; unfold x; clear x)
    | extract_lets +onlyGivenNames x
    | with_reducible apply sendSwap_keeps
    | with_reducible apply sendPair_keeps
    | with_reducible apply keeps_ite
    | (simp only [↓bounds_mk]; refine keeps_of ?_ rfl rfl rfl rfl rfl rfl rfl)
    | split
    )

theorem failPartner_keeps {s : State} (h : Bounds s) :
    Bounds (failPartner s) := by
  unfold failPartner
  repeat' (first
    | with_reducible assumption
    | (extract_lets +onlyGivenNames x; refine keeps_have (P := Bounds x) ?_ ?_; rotate_left; clear_value x; intro hx; rotate_left; unfold x; clear x)
    | extract_lets +onlyGivenNames x
    | with_reducible apply startTakeover_keeps
    | with_reducible apply record_keeps
    | with_reducible apply keeps_ite
    | (simp only [↓bounds_mk]; refine keeps_of ?_ rfl rfl rfl rfl rfl rfl rfl)
    )

theorem noteHeartbeat_keeps {path : Nat} {b : List Byte} {mism : List Nat} {s : State} (h : Bounds s) :
    Bounds (noteHeartbeat path b mism s) := by
  unfold noteHeartbeat
  repeat' (first
    | with_reducible assumption
    | extract_lets +onlyGivenNames x
    | (simp only [↓bounds_mk]; refine keeps_of ?_ rfl rfl rfl rfl rfl rfl rfl)
    )

theorem judgePosition_keeps {s : State} (h : Bounds s) :
    Bounds (judgePosition s) := by
  unfold judgePosition
  repeat' (first
    | with_reducible assumption
    | (extract_lets +onlyGivenNames x; refine keeps_have (P := Bounds x) ?_ ?_; rotate_left; clear_value x; intro hx; rotate_left; unfold x; clear x)
    | extract_lets +onlyGivenNames x
    | with_reducible apply record_keeps
    | with_reducible apply keeps_ite
    | (simp only [↓bounds_mk]; refine keeps_of ?_ rfl rfl rfl rfl rfl rfl rfl)
    )

theorem execHeartbeat_keeps {t : Nat} {path : Nat} {src : Nat} {ident : Bool} {mism : List Nat} {b : List Byte} {s : State} (h : Bounds s) :
    ∀ u, execHeartbeat t path src ident mism b s = .next u → Bounds u := by
  intro u hu
  unfold execHeartbeat at hu
  refine timed_keeps ?_ hu h
  clear hu h
  intro s h
  repeat' (first
    | with_reducible assumption
    | (extract_lets +onlyGivenNames x; refine keeps_have (P := Bounds x) ?_ ?_; rotate_left; clear_value x; intro hx; rotate_left; unfold x; clear x)
    | extract_lets +onlyGivenNames x
    | with_reducible apply failPartner_keeps
    | with_reducible apply noteHeartbeat_keeps
    | with_reducible apply judgePosition_keeps
    | with_reducible apply record_keeps
    | with_reducible apply keeps_ite
    | (simp only [↓bounds_mk]; refine keeps_of ?_ rfl rfl rfl rfl rfl rfl rfl)
    )

theorem execHeartbeatTimeout_keeps {t : Nat} {s : State} (h : Bounds s) :
    ∀ u, execHeartbeatTimeout t s = .next u → Bounds u := by
  intro u hu
  unfold execHeartbeatTimeout at hu
  refine timed_keeps ?_ hu h
  clear hu h
  intro s h
  repeat' (first
    | with_reducible assumption
    | extract_lets +onlyGivenNames x
    | with_reducible apply record_keeps
    | with_reducible apply failPartner_keeps
    | with_reducible apply keeps_ite
    | (simp only [↓bounds_mk]; refine keeps_of ?_ rfl rfl rfl rfl rfl rfl rfl)
    )

theorem followRound_keeps {field : Nat} {s : State} (h : Bounds s) :
    Bounds (followRound field s) := by
  unfold followRound
  repeat' (first
    | with_reducible assumption
    | extract_lets +onlyGivenNames x
    | (simp only [↓bounds_mk]; refine keeps_of ?_ rfl rfl rfl rfl rfl rfl rfl)
    )

theorem noteEpoch_keeps {code : Nat} {s : State} (h : Bounds s) :
    Bounds (noteEpoch code s) := by
  unfold noteEpoch
  repeat' (first
    | with_reducible assumption
    | extract_lets +onlyGivenNames x
    | with_reducible apply keeps_ite
    | (simp only [↓bounds_mk]; refine keeps_of ?_ rfl rfl rfl rfl rfl rfl rfl)
    )

theorem passMark_keeps {s : State} (h : Bounds s) :
    Bounds (passMark s) := by
  unfold passMark
  repeat' (first
    | with_reducible assumption
    | extract_lets +onlyGivenNames x
    | with_reducible apply keeps_ite
    | (simp only [↓bounds_mk]; refine keeps_of ?_ rfl rfl rfl rfl rfl rfl rfl)
    | split
    )

theorem handTaken_keeps {s : State} (h : Bounds s) :
    Bounds (handTaken s) := by
  unfold handTaken
  repeat' (first
    | with_reducible assumption
    | (extract_lets +onlyGivenNames x; refine keeps_have (P := Bounds x) ?_ ?_; rotate_left; clear_value x; intro hx; rotate_left; unfold x; clear x)
    | extract_lets +onlyGivenNames x
    | with_reducible apply sendSwap_keeps
    | with_reducible apply completeClaim_keeps
    | (simp only [↓bounds_mk]; refine keeps_of ?_ rfl rfl rfl rfl rfl rfl rfl)
    | split
    )

theorem startFollowing_keeps {s : State} (h : Bounds s) :
    Bounds (startFollowing s) := by
  unfold startFollowing
  repeat' (first
    | with_reducible assumption
    | extract_lets +onlyGivenNames x
    | (simp only [↓bounds_mk]; refine keeps_of ?_ rfl rfl rfl rfl rfl rfl rfl)
    )

theorem afterRound_keeps {part : Bool} {won : Bool} {win : Nat} {field : Nat} {follower : Bool} {s : State} (h : Bounds s) :
    Bounds (afterRound part won win field follower s) := by
  unfold afterRound
  repeat' (first
    | with_reducible assumption
    | (intro y)
    | (extract_lets +onlyGivenNames x; refine keeps_have (P := Bounds x) ?_ ?_; rotate_left; clear_value x; intro hx; rotate_left; unfold x; clear x)
    | extract_lets +onlyGivenNames x
    | with_reducible apply followRound_keeps
    | with_reducible apply startFollowing_keeps
    | with_reducible apply openCoil_keeps
    | with_reducible apply eachDo_keeps
    | with_reducible apply becomeStandby_keeps
    | with_reducible apply handTaken_keeps
    | with_reducible apply dropEnable_keeps
    | with_reducible apply takeToken_keeps
    | with_reducible apply noteEpoch_keeps
    | with_reducible apply captureEdge_keeps
    | with_reducible apply keeps_ite
    | (simp only [↓bounds_mk]; refine keeps_of ?_ rfl rfl rfl rfl rfl rfl rfl)
    )

theorem dropRole_keeps {s : State} (h : Bounds s) :
    Bounds (dropRole s) := by
  unfold dropRole
  repeat' (first
    | with_reducible assumption
    | extract_lets +onlyGivenNames x
    | with_reducible apply keeps_ite
    | (simp only [↓bounds_mk]; refine keeps_of ?_ rfl rfl rfl rfl rfl rfl rfl)
    )

theorem execClaimRound_keeps {t : Nat} {other : Nat} {lowAt2 : Bool} {freeAt25 : Bool} {field : Nat} {follower : Bool} {s : State} (h : Bounds s) :
    ∀ u, execClaimRound t other lowAt2 freeAt25 field follower s = .next u → Bounds u := by
  intro u hu
  unfold execClaimRound at hu
  refine timed_keeps ?_ hu h
  clear hu h
  intro s h
  repeat' (first
    | with_reducible assumption
    | (extract_lets +onlyGivenNames x; refine keeps_have (P := Bounds x) ?_ ?_; rotate_left; clear_value x; intro hx; rotate_left; unfold x; clear x)
    | extract_lets +onlyGivenNames x
    | with_reducible apply afterRound_keeps
    | with_reducible apply record_keeps
    | with_reducible apply emit_keeps
    | with_reducible apply passMark_keeps
    | with_reducible apply dropRole_keeps
    | with_reducible apply keeps_ite
    | (simp only [↓bounds_mk]; refine keeps_of ?_ rfl rfl rfl rfl rfl rfl rfl)
    )

theorem execHoldFollowExpiry_keeps {t : Nat} {s : State} (h : Bounds s) :
    ∀ u, execHoldFollowExpiry t s = .next u → Bounds u := by
  intro u hu
  unfold execHoldFollowExpiry at hu
  refine timed_keeps ?_ hu h
  clear hu h
  intro s h
  repeat' (first
    | with_reducible assumption
    | (intro y)
    | (extract_lets +onlyGivenNames x; refine keeps_have (P := Bounds x) ?_ ?_; rotate_left; clear_value x; intro hx; rotate_left; unfold x; clear x)
    | extract_lets +onlyGivenNames x
    | with_reducible apply openCoil_keeps
    | with_reducible apply eachDo_keeps
    | with_reducible apply record_keeps
    | with_reducible apply keeps_ite
    | (simp only [↓bounds_mk]; refine keeps_of ?_ rfl rfl rfl rfl rfl rfl rfl)
    )

theorem execPairStartup_keeps {t : Nat} {s : State} (h : Bounds s) :
    ∀ u, execPairStartup t s = .next u → Bounds u := by
  intro u hu
  unfold execPairStartup at hu
  refine timed_keeps ?_ hu h
  clear hu h
  intro s h
  repeat' (first
    | with_reducible assumption
    | extract_lets +onlyGivenNames x
    | with_reducible apply becomeStandby_keeps
    | with_reducible apply keeps_ite
    | (simp only [↓bounds_mk]; refine keeps_of ?_ rfl rfl rfl rfl rfl rfl rfl)
    | split
    )

theorem execPairStartFault_keeps {t : Nat} {s : State} (h : Bounds s) :
    ∀ u, execPairStartFault t s = .next u → Bounds u := by
  intro u hu
  unfold execPairStartFault at hu
  refine timed_keeps ?_ hu h
  clear hu h
  intro s h
  repeat' (first
    | with_reducible assumption
    | extract_lets +onlyGivenNames x
    | with_reducible apply record_keeps
    | with_reducible apply keeps_ite
    | (simp only [↓bounds_mk]; refine keeps_of ?_ rfl rfl rfl rfl rfl rfl rfl)
    )

theorem execStandbySelfTest_keeps {t : Nat} {ctrl : List Bool} {est : List Bool} {readback : Bool} {s : State} (h : Bounds s) :
    ∀ u, execStandbySelfTest t ctrl est readback s = .next u → Bounds u := by
  intro u hu
  unfold execStandbySelfTest at hu
  refine timed_keeps ?_ hu h
  clear hu h
  intro s h
  repeat' (first
    | with_reducible assumption
    | (extract_lets +onlyGivenNames x; refine keeps_have (P := Bounds x) ?_ ?_; rotate_left; clear_value x; intro hx; rotate_left; unfold x; clear x)
    | extract_lets +onlyGivenNames x
    | with_reducible apply record_keeps
    | with_reducible apply judgeCapacity_keeps
    | with_reducible apply keeps_ite
    | (simp only [↓bounds_mk]; refine keeps_of ?_ rfl rfl rfl rfl rfl rfl rfl)
    )

theorem execPairSwap_keeps {t : Nat} {m : Nat} {s : State} (h : Bounds s) :
    ∀ u, execPairSwap t m s = .next u → Bounds u := by
  intro u hu
  unfold execPairSwap at hu
  refine timed_keeps ?_ hu h
  clear hu h
  intro s h
  repeat' (first
    | with_reducible assumption
    | (intro y)
    | (extract_lets +onlyGivenNames x; refine keeps_have (P := Bounds x) ?_ ?_; rotate_left; clear_value x; intro hx; rotate_left; unfold x; clear x)
    | extract_lets +onlyGivenNames x
    | with_reducible apply sendSwap_keeps
    | with_reducible apply pushCheckpoint_keeps
    | with_reducible apply refuse_keeps
    | with_reducible apply withLength_keeps
    | with_reducible apply serve_keeps
    | (simp only [↓bounds_mk]; refine keeps_of ?_ rfl rfl rfl rfl rfl rfl rfl)
    | split
    )

theorem failSwap_keeps {s : State} (h : Bounds s) :
    Bounds (failSwap s) := by
  unfold failSwap
  repeat' (first
    | with_reducible assumption
    | extract_lets +onlyGivenNames x
    | with_reducible apply becomeStandby_keeps
    | with_reducible apply finishJob_keeps
    | with_reducible apply record_keeps
    | with_reducible apply keeps_ite
    | (simp only [↓bounds_mk]; refine keeps_of ?_ rfl rfl rfl rfl rfl rfl rfl)
    | split
    )

theorem execSwapPrepare_keeps {t : Nat} {b : List Byte} {s : State} (h : Bounds s) :
    ∀ u, execSwapPrepare t b s = .next u → Bounds u := by
  intro u hu
  unfold execSwapPrepare at hu
  refine timed_keeps ?_ hu h
  clear hu h
  intro s h
  repeat' (first
    | with_reducible assumption
    | (intro y)
    | (extract_lets +onlyGivenNames x; refine keeps_have (P := Bounds x) ?_ ?_; rotate_left; clear_value x; intro hx; rotate_left; unfold x; clear x)
    | extract_lets +onlyGivenNames x
    | with_reducible apply openPorts_keeps
    | with_reducible apply trainLane_keeps
    | with_reducible apply eachDo_keeps
    | with_reducible apply sendSwap_keeps
    | with_reducible apply setMode_keeps
    | with_reducible apply keeps_ite
    | (simp only [↓bounds_mk]; refine keeps_of ?_ rfl rfl rfl rfl rfl rfl rfl)
    )

theorem execSwapReady_keeps {t : Nat} {b : List Byte} {s : State} (h : Bounds s) :
    ∀ u, execSwapReady t b s = .next u → Bounds u := by
  intro u hu
  unfold execSwapReady at hu
  refine timed_keeps ?_ hu h
  clear hu h
  intro s h
  repeat' (first
    | with_reducible assumption
    | extract_lets +onlyGivenNames x
    | with_reducible apply orderlyOff_keeps
    | with_reducible apply rampToZero_keeps
    | with_reducible apply keeps_ite
    | (simp only [↓bounds_mk]; refine keeps_of ?_ rfl rfl rfl rfl rfl rfl rfl)
    | split
    )

theorem execSwapHand_keeps {t : Nat} {b : List Byte} {s : State} (h : Bounds s) :
    ∀ u, execSwapHand t b s = .next u → Bounds u := by
  intro u hu
  unfold execSwapHand at hu
  refine timed_keeps ?_ hu h
  clear hu h
  intro s h
  repeat' (first
    | with_reducible assumption
    | extract_lets +onlyGivenNames x
    | with_reducible apply sendSwap_keeps
    | with_reducible apply failSwap_keeps
    | with_reducible apply loadCheckpoint_keeps
    | with_reducible apply keeps_ite
    | (simp only [↓bounds_mk]; refine keeps_of ?_ rfl rfl rfl rfl rfl rfl rfl)
    | split
    )

theorem execSwapTaken_keeps {t : Nat} {b : List Byte} {s : State} (h : Bounds s) :
    ∀ u, execSwapTaken t b s = .next u → Bounds u := by
  intro u hu
  unfold execSwapTaken at hu
  refine timed_keeps ?_ hu h
  clear hu h
  intro s h
  repeat' (first
    | with_reducible assumption
    | extract_lets +onlyGivenNames x
    | with_reducible apply becomeStandby_keeps
    | with_reducible apply finishJob_keeps
    | with_reducible apply keeps_ite
    | (simp only [↓bounds_mk]; refine keeps_of ?_ rfl rfl rfl rfl rfl rfl rfl)
    | split
    )

theorem execSwapAbort_keeps {t : Nat} {b : List Byte} {s : State} (h : Bounds s) :
    ∀ u, execSwapAbort t b s = .next u → Bounds u := by
  intro u hu
  unfold execSwapAbort at hu
  refine timed_keeps ?_ hu h
  clear hu h
  intro s h
  repeat' (first
    | with_reducible assumption
    | extract_lets +onlyGivenNames x
    | with_reducible apply failSwap_keeps
    | with_reducible apply keeps_ite
    | split
    )

theorem execSwapStepTimeout_keeps {t : Nat} {s : State} (h : Bounds s) :
    ∀ u, execSwapStepTimeout t s = .next u → Bounds u := by
  intro u hu
  unfold execSwapStepTimeout at hu
  refine timed_keeps ?_ hu h
  clear hu h
  intro s h
  repeat' (first
    | with_reducible assumption
    | extract_lets +onlyGivenNames x
    | with_reducible apply sendSwap_keeps
    | with_reducible apply failSwap_keeps
    | with_reducible apply keeps_ite
    | split
    )

theorem endOverride_keeps {s : State} (h : Bounds s) :
    Bounds (endOverride s) := by
  unfold endOverride
  repeat' (first
    | with_reducible assumption
    | extract_lets +onlyGivenNames x
    | (simp only [↓bounds_mk]; refine keeps_of ?_ rfl rfl rfl rfl rfl rfl rfl)
    )

theorem execPairOverride_keeps {t : Nat} {m : Nat} {s : State} (h : Bounds s) :
    ∀ u, execPairOverride t m s = .next u → Bounds u := by
  intro u hu
  unfold execPairOverride at hu
  refine timed_keeps ?_ hu h
  clear hu h
  intro s h
  repeat' (first
    | with_reducible assumption
    | (intro y)
    | extract_lets +onlyGivenNames x
    | with_reducible apply endOverride_keeps
    | with_reducible apply ok_keeps
    | with_reducible apply refuse_keeps
    | with_reducible apply withLength_keeps
    | with_reducible apply serve_keeps
    | with_reducible apply keeps_ite
    | with_reducible apply keeps_ite2
    | (simp only [↓bounds_mk]; refine keeps_of ?_ rfl rfl rfl rfl rfl rfl rfl)
    )

theorem execPairOverrideEnd_keeps {t : Nat} {s : State} (h : Bounds s) :
    ∀ u, execPairOverrideEnd t s = .next u → Bounds u := by
  intro u hu
  unfold execPairOverrideEnd at hu
  refine timed_keeps ?_ hu h
  clear hu h
  intro s h
  repeat' (first
    | with_reducible assumption
    | extract_lets +onlyGivenNames x
    | with_reducible apply endOverride_keeps
    | with_reducible apply keeps_ite
    | split
    )

theorem execHealthReport_keeps {t : Nat} {sfp : List (List Nat)} {s : State} (h : Bounds s) :
    ∀ u, execHealthReport t sfp s = .next u → Bounds u := by
  intro u hu
  unfold execHealthReport at hu
  refine timed_keeps ?_ hu h
  clear hu h
  intro s h
  repeat' (first
    | with_reducible assumption
    | (intro y)
    | (extract_lets +onlyGivenNames x; refine keeps_have (P := Bounds x) ?_ ?_; rotate_left; clear_value x; intro hx; rotate_left; unfold x; clear x)
    | extract_lets +onlyGivenNames x
    | with_reducible apply sendFlow_keeps
    | with_reducible apply setPort_keeps
    | with_reducible apply eachDo_keeps
    | with_reducible apply keeps_ite
    | (simp only [↓bounds_mk]; refine keeps_of ?_ rfl rfl rfl rfl rfl rfl rfl)
    )

theorem execPairStatus_keeps {t : Nat} {m : Nat} {s : State} (h : Bounds s) :
    ∀ u, execPairStatus t m s = .next u → Bounds u := by
  intro u hu
  unfold execPairStatus at hu
  refine timed_keeps ?_ hu h
  clear hu h
  intro s h
  repeat' (first
    | with_reducible assumption
    | (intro y)
    | extract_lets +onlyGivenNames x
    | with_reducible apply statusHandler_keeps
    | with_reducible apply serve_keeps
    )

theorem execPairCkptNow_keeps {t : Nat} {m : Nat} {s : State} (h : Bounds s) :
    ∀ u, execPairCkptNow t m s = .next u → Bounds u := by
  intro u hu
  unfold execPairCkptNow at hu
  refine timed_keeps ?_ hu h
  clear hu h
  intro s h
  repeat' (first
    | with_reducible assumption
    | (intro y)
    | extract_lets +onlyGivenNames x
    | with_reducible apply refuse_keeps
    | with_reducible apply pushCheckpoint_keeps
    | with_reducible apply ok_keeps
    | with_reducible apply withLength_keeps
    | with_reducible apply serve_keeps
    | with_reducible apply keeps_ite2
    )

theorem execHealthRead_keeps {t : Nat} {m : Nat} {s : State} (h : Bounds s) :
    ∀ u, execHealthRead t m s = .next u → Bounds u := by
  intro u hu
  unfold execHealthRead at hu
  refine timed_keeps ?_ hu h
  clear hu h
  intro s h
  repeat' (first
    | with_reducible assumption
    | (intro y)
    | extract_lets +onlyGivenNames x
    | with_reducible apply statusHandler_keeps
    | with_reducible apply serve_keeps
    )

theorem setCan_keeps {c : Nat} {g : Can → Can} {s : State} (hg : ∀ x, CanBounds x → CanBounds (g x)) (h : Bounds s) :
    Bounds (setCan c g s) := by
  obtain ⟨h1, h2, h3⟩ := h
  exact ⟨by simpa [setCan] using h1, keeps_modify h2 hg, h3⟩

theorem haltRing_keeps {s : State} (h : Bounds s) :
    Bounds (haltRing s) := by
  unfold haltRing
  repeat' (first
    | with_reducible assumption
    | extract_lets +onlyGivenNames x
    | with_reducible apply impAbort_keeps
    | (simp only [↓bounds_mk]; refine keeps_of ?_ rfl rfl rfl rfl rfl rfl rfl)
    )

theorem haltSafety_keeps {s : State} (h : Bounds s) :
    Bounds (haltSafety s) := by
  unfold haltSafety
  repeat' (first
    | with_reducible assumption
    | (intro y)
    | extract_lets +onlyGivenNames x
    | with_reducible apply openCoil_keeps
    | with_reducible apply eachDo_keeps
    | with_reducible apply gatesOff_keeps
    | with_reducible apply inhibitGates_keeps
    | with_reducible apply dropEnable_keeps
    )

theorem haltPair_keeps {s : State} (h : Bounds s) :
    Bounds (haltPair s) := by
  unfold haltPair
  repeat' (first
    | with_reducible assumption
    | (extract_lets +onlyGivenNames x; refine keeps_have (P := Bounds x) ?_ ?_; rotate_left; clear_value x; intro hx; rotate_left; unfold x; clear x)
    | extract_lets +onlyGivenNames x
    | with_reducible apply releaseCoils_keeps
    | with_reducible apply keeps_ite
    | (simp only [↓bounds_mk]; refine keeps_of ?_ rfl rfl rfl rfl rfl rfl rfl)
    )

theorem haltFunction_keeps {f : Nat} {s : State} (h : Bounds s) :
    Bounds (haltFunction f s) := by
  unfold haltFunction
  repeat' (first
    | with_reducible assumption
    | (intro y)
    | (simp only [↓bounds_mk]; refine keeps_queue (by assumption) rfl rfl rfl ?_ rfl rfl rfl; exact Nat.zero_le _)
    | extract_lets +onlyGivenNames x
    | with_reducible apply setJob_keeps
    | with_reducible apply setCan_keeps
    | with_reducible apply timeStop_keeps
    | with_reducible apply closePlane_keeps
    | with_reducible apply haltPair_keeps
    | with_reducible apply openCoil_keeps
    | with_reducible apply eachDo_keeps
    | with_reducible apply haltSafety_keeps
    | with_reducible apply gatesOff_keeps
    | with_reducible apply hardwareFallback_keeps
    | with_reducible apply impAbort_keeps
    | with_reducible apply haltRing_keeps
    | (simp only [↓bounds_mk]; refine keeps_of ?_ rfl rfl rfl rfl rfl rfl rfl)
    | split
    )

theorem formKits_keeps {s : State} (h : Bounds s) :
    Bounds (formKits s) := by
  unfold formKits
  repeat' (first
    | with_reducible assumption
    | extract_lets +onlyGivenNames x
    | (simp only [↓bounds_mk]; refine keeps_of ?_ rfl rfl rfl rfl rfl rfl rfl)
    )

theorem releaseSafety_keeps {s : State} (h : Bounds s) :
    Bounds (releaseSafety s) := by
  unfold releaseSafety
  repeat' (first
    | with_reducible assumption
    | extract_lets +onlyGivenNames x
    | with_reducible apply releaseGates_keeps
    | with_reducible apply updateCeil_keeps
    )

theorem resumeFunction_keeps {f : Nat} {s : State} (h : Bounds s) :
    Bounds (resumeFunction f s) := by
  unfold resumeFunction
  repeat' (first
    | with_reducible assumption
    | (intro y)
    | extract_lets +onlyGivenNames x
    | with_reducible apply startFlush_keeps
    | with_reducible apply setCan_keeps
    | with_reducible apply timeRestart_keeps
    | with_reducible apply openPorts_keeps
    | with_reducible apply markChanged_keeps
    | with_reducible apply releaseSafety_keeps
    | with_reducible apply trainLane_keeps
    | with_reducible apply eachDo_keeps
    | with_reducible apply formKits_keeps
    | with_reducible apply keeps_ite
    | (simp only [↓bounds_mk]; refine keeps_of ?_ rfl rfl rfl rfl rfl rfl rfl)
    | split
    )

theorem haltFor_keeps {f : Nat} {s : State} (h : Bounds s) :
    Bounds (haltFor f s) := by
  unfold haltFor
  repeat' (first
    | with_reducible assumption
    | extract_lets +onlyGivenNames x
    | with_reducible apply haltFunction_keeps
    | with_reducible apply setFn_keeps
    | with_reducible apply setJob_keeps
    | with_reducible apply keeps_ite
    )

theorem resumeHalted_keeps {s : State} (h : Bounds s) :
    Bounds (resumeHalted s) := by
  unfold resumeHalted
  repeat' (first
    | with_reducible assumption
    | (intro y)
    | extract_lets +onlyGivenNames x
    | with_reducible apply setFn_keeps
    | with_reducible apply resumeFunction_keeps
    | with_reducible apply eachDo_keeps
    | (simp only [↓bounds_mk]; refine keeps_of ?_ rfl rfl rfl rfl rfl rfl rfl)
    | split
    )

theorem imgOpenHandler_keeps {m : Nat} {r : Request} {a2 : State} (h : Bounds a2) :
    Bounds (imgOpenHandler m r a2).2 := by
  unfold imgOpenHandler
  repeat' (first
    | with_reducible assumption
    | (intro y)
    | extract_lets +onlyGivenNames x
    | with_reducible apply setImg_keeps
    | with_reducible apply ok_keeps
    | with_reducible apply refuse_keeps
    | with_reducible apply withLength_keeps
    | with_reducible apply keeps_ite2
    | (simp only [↓bounds_mk]; refine keeps_of ?_ rfl rfl rfl rfl rfl rfl rfl)
    | split
    )

theorem execImgOpen_keeps {t : Nat} {m : Nat} {s : State} (h : Bounds s) :
    ∀ u, execImgOpen t m s = .next u → Bounds u := by
  intro u hu
  unfold execImgOpen at hu
  refine timed_keeps ?_ hu h
  clear hu h
  intro s h
  repeat' (first
    | with_reducible assumption
    | (intro y)
    | extract_lets +onlyGivenNames x
    | with_reducible apply imgOpenHandler_keeps
    | with_reducible apply serve_keeps
    )

theorem imgBlockHandler_keeps {m : Nat} {r : Request} {s : State} (h : Bounds s) :
    Bounds (imgBlockHandler m r s).2 := by
  unfold imgBlockHandler
  repeat' (first
    | with_reducible assumption
    | extract_lets +onlyGivenNames x
    | with_reducible apply setImg_keeps
    | with_reducible apply ok_keeps
    | with_reducible apply refuse_keeps
    | with_reducible apply keeps_ite2
    | split
    )

theorem execImgBlock_keeps {t : Nat} {m : Nat} {s : State} (h : Bounds s) :
    ∀ u, execImgBlock t m s = .next u → Bounds u := by
  intro u hu
  unfold execImgBlock at hu
  refine timed_keeps ?_ hu h
  clear hu h
  intro s h
  repeat' (first
    | with_reducible assumption
    | (intro y)
    | extract_lets +onlyGivenNames x
    | with_reducible apply imgBlockHandler_keeps
    | with_reducible apply serve_keeps
    )

theorem imgCheckHandler_keeps {m : Nat} {partner : Option Nat} {r : Request} {a3 : State} (h : Bounds a3) :
    Bounds (imgCheckHandler m partner r a3).2 := by
  unfold imgCheckHandler
  repeat' (first
    | with_reducible assumption
    | (intro y)
    | extract_lets +onlyGivenNames x
    | with_reducible apply ok_keeps
    | with_reducible apply setImg_keeps
    | with_reducible apply answerWith_keeps
    | with_reducible apply refuse_keeps
    | with_reducible apply withLength_keeps
    | with_reducible apply keeps_ite2
    | split
    )

theorem execImgCheck_keeps {t : Nat} {m : Nat} {partner : Option Nat} {s : State} (h : Bounds s) :
    ∀ u, execImgCheck t m partner s = .next u → Bounds u := by
  intro u hu
  unfold execImgCheck at hu
  refine timed_keeps ?_ hu h
  clear hu h
  intro s h
  repeat' (first
    | with_reducible assumption
    | (intro y)
    | extract_lets +onlyGivenNames x
    | with_reducible apply imgCheckHandler_keeps
    | with_reducible apply serve_keeps
    )

theorem imgAbortHandler_keeps {m : Nat} {r : Request} {a2 : State} (h : Bounds a2) :
    Bounds (imgAbortHandler m r a2).2 := by
  unfold imgAbortHandler
  repeat' (first
    | with_reducible assumption
    | (intro y)
    | extract_lets +onlyGivenNames x
    | with_reducible apply setImg_keeps
    | with_reducible apply ok_keeps
    | with_reducible apply refuse_keeps
    | with_reducible apply withLength_keeps
    | with_reducible apply keeps_ite2
    | split
    )

theorem execImgAbort_keeps {t : Nat} {m : Nat} {s : State} (h : Bounds s) :
    ∀ u, execImgAbort t m s = .next u → Bounds u := by
  intro u hu
  unfold execImgAbort at hu
  refine timed_keeps ?_ hu h
  clear hu h
  intro s h
  repeat' (first
    | with_reducible assumption
    | (intro y)
    | extract_lets +onlyGivenNames x
    | with_reducible apply imgAbortHandler_keeps
    | with_reducible apply serve_keeps
    )

theorem execImgOwnerTimeout_keeps {t : Nat} {id : Nat} {s : State} (h : Bounds s) :
    ∀ u, execImgOwnerTimeout t id s = .next u → Bounds u := by
  intro u hu
  unfold execImgOwnerTimeout at hu
  refine timed_keeps ?_ hu h
  clear hu h
  intro s h
  repeat' (first
    | with_reducible assumption
    | extract_lets +onlyGivenNames x
    | with_reducible apply setImg_keeps
    | with_reducible apply keeps_ite
    )

theorem stopEngine_keeps {id : Nat} {e : Nat} {s : State} (h : Bounds s) :
    Bounds (stopEngine id e s) := by
  unfold stopEngine
  repeat' (first
    | with_reducible assumption
    | (extract_lets +onlyGivenNames x; refine keeps_have (P := Bounds x) ?_ ?_; rotate_left; clear_value x; intro hx; rotate_left; unfold x; clear x)
    | extract_lets +onlyGivenNames x
    | with_reducible apply setEng_keeps
    | with_reducible apply judgeCapacity_keeps
    | with_reducible apply haltFor_keeps
    | with_reducible apply flushCrossings_keeps
    | with_reducible apply keeps_ite
    | (simp only [↓bounds_mk]; refine keeps_of ?_ rfl rfl rfl rfl rfl rfl rfl)
    | split
    )

theorem beginStep_keeps {s : State} (h : Bounds s) :
    Bounds (beginStep s) := by
  unfold beginStep
  repeat' (first
    | with_reducible assumption
    | extract_lets +onlyGivenNames x
    | with_reducible apply setJob_keeps
    | with_reducible apply stopEngine_keeps
    | split
    )

theorem engineBack_keeps {id : Nat} {e : Nat} {pass : Bool} {s : State} (h : Bounds s) :
    Bounds (engineBack id e pass s) := by
  unfold engineBack
  repeat' (first
    | with_reducible assumption
    | (extract_lets +onlyGivenNames x; refine keeps_have (P := Bounds x) ?_ ?_; rotate_left; clear_value x; intro hx; rotate_left; unfold x; clear x)
    | extract_lets +onlyGivenNames x
    | with_reducible apply resumeHalted_keeps
    | with_reducible apply removeEngine_keeps
    | with_reducible apply raiseShadowAbsent_keeps
    | with_reducible apply giveRole_keeps
    | with_reducible apply setEng_keeps
    | with_reducible apply setJob_keeps
    | with_reducible apply keeps_ite
    | (simp only [↓bounds_mk]; refine keeps_of ?_ rfl rfl rfl rfl rfl rfl rfl)
    | split
    )

theorem nextEngine_keeps {s : State} (h : Bounds s) :
    Bounds (nextEngine s) := by
  unfold nextEngine
  repeat' (first
    | with_reducible assumption
    | extract_lets +onlyGivenNames x
    | with_reducible apply beginStep_keeps
    | with_reducible apply pauseJob_keeps
    | with_reducible apply installed_keeps
    | with_reducible apply endInstall_keeps
    | with_reducible apply keeps_ite
    | split
    )

theorem verifyFail_keeps {j : Install} {e : Nat} {s : State} (h : Bounds s) :
    Bounds (verifyFail j e s) := by
  unfold verifyFail
  repeat' (first
    | with_reducible assumption
    | (extract_lets +onlyGivenNames x; refine keeps_have (P := Bounds x) ?_ ?_; rotate_left; clear_value x; intro hx; rotate_left; unfold x; clear x)
    | extract_lets +onlyGivenNames x
    | with_reducible apply endInstall_keeps
    | with_reducible apply setEng_keeps
    | with_reducible apply raiseShadowAbsent_keeps
    | with_reducible apply record_keeps
    | with_reducible apply keeps_ite
    | (simp only [↓bounds_mk]; refine keeps_of ?_ rfl rfl rfl rfl rfl rfl rfl)
    )

theorem execInstallStepDone_keeps {t : Nat} {ok : Bool} {pass : Bool} {s : State} (h : Bounds s) :
    ∀ u, execInstallStepDone t ok pass s = .next u → Bounds u := by
  intro u hu
  unfold execInstallStepDone at hu
  refine timed_keeps ?_ hu h
  clear hu h
  intro s h
  repeat' (first
    | with_reducible assumption
    | extract_lets +onlyGivenNames x
    | with_reducible apply startTakeover_keeps
    | with_reducible apply nextEngine_keeps
    | with_reducible apply stepEnded_keeps
    | with_reducible apply engineBack_keeps
    | with_reducible apply verifyFail_keeps
    | with_reducible apply setJob_keeps
    | with_reducible apply keeps_ite
    | (simp only [↓bounds_mk]; refine keeps_of ?_ rfl rfl rfl rfl rfl rfl rfl)
    | split
    )

theorem execInstallResume_keeps {t : Nat} {clear : Nat} {s : State} (h : Bounds s) :
    ∀ u, execInstallResume t clear s = .next u → Bounds u := by
  intro u hu
  unfold execInstallResume at hu
  refine timed_keeps ?_ hu h
  clear hu h
  intro s h
  repeat' (first
    | with_reducible assumption
    | (extract_lets +onlyGivenNames x; refine keeps_have (P := Bounds x) ?_ ?_; rotate_left; clear_value x; intro hx; rotate_left; unfold x; clear x)
    | extract_lets +onlyGivenNames x
    | with_reducible apply nextEngine_keeps
    | with_reducible apply setJob_keeps
    | with_reducible apply keeps_ite
    | split
    )

theorem execInstallPauseTimeout_keeps {t : Nat} {s : State} (h : Bounds s) :
    ∀ u, execInstallPauseTimeout t s = .next u → Bounds u := by
  intro u hu
  unfold execInstallPauseTimeout at hu
  refine timed_keeps ?_ hu h
  clear hu h
  intro s h
  repeat' (first
    | with_reducible assumption
    | extract_lets +onlyGivenNames x
    | with_reducible apply endInstall_keeps
    | with_reducible apply setImg_keeps
    | with_reducible apply keeps_ite
    | (simp only [↓bounds_mk]; refine keeps_of ?_ rfl rfl rfl rfl rfl rfl rfl)
    | split
    )

theorem imgInstallHandler_keeps {m : Nat} {partner : Option Nat} {r : Request} {a3 : State} (h : Bounds a3) :
    Bounds (imgInstallHandler m partner r a3).2 := by
  unfold imgInstallHandler
  repeat' (first
    | with_reducible assumption
    | (intro y)
    | (extract_lets +onlyGivenNames x; refine keeps_have (P := Bounds x) ?_ ?_; rotate_left; clear_value x; intro hx; rotate_left; unfold x; clear x)
    | extract_lets +onlyGivenNames x
    | with_reducible apply setImg_keeps
    | with_reducible apply beginStep_keeps
    | with_reducible apply refuse_keeps
    | with_reducible apply withLength_keeps
    | with_reducible apply keeps_ite2
    | (simp only [↓bounds_mk]; refine keeps_of ?_ rfl rfl rfl rfl rfl rfl rfl)
    | split
    )

theorem execImgInstall_keeps {t : Nat} {m : Nat} {partner : Option Nat} {s : State} (h : Bounds s) :
    ∀ u, execImgInstall t m partner s = .next u → Bounds u := by
  intro u hu
  unfold execImgInstall at hu
  refine timed_keeps ?_ hu h
  clear hu h
  intro s h
  repeat' (first
    | with_reducible assumption
    | (intro y)
    | extract_lets +onlyGivenNames x
    | with_reducible apply imgInstallHandler_keeps
    | with_reducible apply serve_keeps
    )

theorem tapInstallHandler_keeps {m : Nat} {r : Request} {a2 : State} (h : Bounds a2) :
    Bounds (tapInstallHandler m r a2).2 := by
  unfold tapInstallHandler
  repeat' (first
    | with_reducible assumption
    | (intro y)
    | extract_lets +onlyGivenNames x
    | with_reducible apply refuse_keeps
    | with_reducible apply withLength_keeps
    | with_reducible apply keeps_ite2
    | (simp only [↓bounds_mk]; refine keeps_of ?_ rfl rfl rfl rfl rfl rfl rfl)
    | split
    )

theorem execTapInstall_keeps {t : Nat} {m : Nat} {s : State} (h : Bounds s) :
    ∀ u, execTapInstall t m s = .next u → Bounds u := by
  intro u hu
  unfold execTapInstall at hu
  refine timed_keeps ?_ hu h
  clear hu h
  intro s h
  repeat' (first
    | with_reducible assumption
    | (intro y)
    | extract_lets +onlyGivenNames x
    | with_reducible apply tapInstallHandler_keeps
    | with_reducible apply serve_keeps
    )

theorem execImgStatus_keeps {t : Nat} {m : Nat} {s : State} (h : Bounds s) :
    ∀ u, execImgStatus t m s = .next u → Bounds u := by
  intro u hu
  unfold execImgStatus at hu
  refine timed_keeps ?_ hu h
  clear hu h
  intro s h
  repeat' (first
    | with_reducible assumption
    | (intro y)
    | extract_lets +onlyGivenNames x
    | with_reducible apply statusHandler_keeps
    | with_reducible apply serve_keeps
    )

end Sys2Proof.Machine
end

