-- ==== Sys2Proof/Laws/BoundsModes.lean ====
section
/-!
SUPPORT. Laws/BoundsModes.lean: the operations of Modes, Buses, Functions, Dispatch, Step keep the bounds, as Laws/Bounds.lean says it of the earlier ones.
-/

set_option linter.all false

namespace Sys2Proof.Machine

open Sys2Proof

theorem unloaded_keeps {s : State} (h : Bounds s) :
    Bounds (unloaded s) := by
  obtain ⟨_, _, _, _, _, h6, h7, _⟩ := h
  refine ⟨by rfl, ?_, Nat.zero_lt_succ _, Nat.zero_le _, Nat.zero_le _, h6, h7, by rfl⟩
  intro c hc
  have k : (unloaded s).bus.can = List.replicate 2 {} := by
    unfold unloaded
    rfl
  rw [k, List.mem_replicate] at hc
  rw [hc.2]
  exact ⟨Nat.zero_le _, Nat.zero_le _⟩

theorem powerOff_keeps {s : State} (h : Bounds s) :
    Bounds (powerOff s) := by
  obtain ⟨h1, h2, h3, h4, h5, h6, h7, h8⟩ := unloaded_keeps h
  exact ⟨h1, h2, h3, h4, h5, Nat.zero_le _, h7, h8⟩

theorem commitPage_keeps (p : List Nat) (w : Well) :
    (commitPage p w).buf.length ≤ w.buf.length ∧ (commitPage p w).clears = w.clears :=
  ⟨List.length_filter_le _ _, rfl⟩

theorem flushAll_keeps {s : State} (h : Bounds s) :
    Bounds (flushAll s) := by
  have k1 : ∀ s : State, Bounds s → Bounds { s with well := commitPage (nextPage s.well) s.well } := by
    intro s h
    obtain ⟨h1, h2, h3, h4, h5, h6, h7, h8⟩ := h
    have k := commitPage_keeps (nextPage s.well) s.well
    exact ⟨h1, h2, h3, h4, h5, Nat.le_trans k.1 h6, by rw [k.2]; exact h7, h8⟩
  unfold flushAll
  refine eachDo_keeps ?_ h
  intro _ s h
  split
  · exact h
  · exact k1 _ (wrapStore_keeps h)

theorem saveAll_keeps {s : State} (h : Bounds s) :
    Bounds (saveAll s) := by
  unfold saveAll
  repeat' (first
    | with_reducible assumption
    | extract_lets +onlyGivenNames x
    | with_reducible apply saveContexts_keeps
    | with_reducible apply flushAll_keeps
    | with_reducible apply keeps_ite
    | (simp only [↓bounds_mk]; refine keeps_of ?_ rfl rfl rfl rfl rfl rfl rfl)
    )

theorem execShelfWake_keeps {t : Nat} {aux : Nat} {str : Nat} {heldAux : Nat} {heldStr : Nat} {s : State} (h : Bounds s) :
    ∀ u, execShelfWake t aux str heldAux heldStr s = .next u → Bounds u := by
  intro u hu
  unfold execShelfWake at hu
  refine timed_keeps ?_ hu h
  clear hu h
  intro s h
  repeat' (first
    | with_reducible assumption
    | extract_lets +onlyGivenNames x
    | with_reducible apply keeps_ite
    | (simp only [↓bounds_mk]; refine keeps_of ?_ rfl rfl rfl rfl rfl rfl rfl)
    )

theorem execBootFail_keeps {t : Nat} {s : State} (h : Bounds s) :
    ∀ u, execBootFail t s = .next u → Bounds u := by
  intro u hu
  unfold execBootFail at hu
  refine timed_keeps ?_ hu h
  clear hu h
  intro s h
  repeat' (first
    | with_reducible assumption
    | extract_lets +onlyGivenNames x
    | with_reducible apply keeps_ite
    | (simp only [↓bounds_mk]; refine keeps_of ?_ rfl rfl rfl rfl rfl rfl rfl)
    )

theorem execWakeComparatorArm_keeps {t : Nat} {mv : Nat} {held : Nat} {s : State} (h : Bounds s) :
    ∀ u, execWakeComparatorArm t mv held s = .next u → Bounds u := by
  intro u hu
  unfold execWakeComparatorArm at hu
  refine timed_keeps ?_ hu h
  clear hu h
  intro s h
  repeat' (first
    | with_reducible assumption
    | extract_lets +onlyGivenNames x
    | with_reducible apply keeps_ite
    | (simp only [↓bounds_mk]; refine keeps_of ?_ rfl rfl rfl rfl rfl rfl rfl)
    )

theorem bootImage_keeps {s : State} {id : Nat} (h : Bounds s) :
    Bounds (bootImage s id) := by
  unfold bootImage
  repeat' (first
    | with_reducible assumption
    | extract_lets +onlyGivenNames x
    | with_reducible apply installed_keeps
    | with_reducible apply keeps_ite
    )

theorem bootEngines_keeps {pass : List Bool} {s : State} (h : Bounds s) :
    Bounds (bootEngines pass s) := by
  unfold bootEngines
  repeat' (first
    | with_reducible assumption
    | (extract_lets +onlyGivenNames x; refine keeps_have (P := Bounds x) ?_ ?_; rotate_left; clear_value x; intro hx; rotate_left; unfold x; clear x)
    | extract_lets +onlyGivenNames x
    | with_reducible apply raiseShadowAbsent_keeps
    | with_reducible apply judgeCapacity_keeps
    | with_reducible apply keeps_ite
    | (simp only [↓bounds_mk]; refine keeps_of ?_ rfl rfl rfl rfl rfl rfl rfl)
    )

theorem bootTriggers_keeps {s : State} (h : Bounds s) :
    Bounds (bootTriggers s) := by
  unfold bootTriggers
  repeat' (first
    | with_reducible assumption
    | (intro y)
    | extract_lets +onlyGivenNames x
    | with_reducible apply setPeriodic_keeps
    | with_reducible apply eachDo_keeps
    )

theorem bootSafety_keeps {o : BootObs} {s : State} (h : Bounds s) :
    Bounds (bootSafety o s) := by
  unfold bootSafety
  repeat' (first
    | with_reducible assumption
    | extract_lets +onlyGivenNames x
    | with_reducible apply releaseGates_keeps
    | (simp only [↓bounds_mk]; refine keeps_of ?_ rfl rfl rfl rfl rfl rfl rfl)
    )

theorem bootNode_keeps {s : State} (h : Bounds s) :
    Bounds (bootNode s) := by
  unfold bootNode
  repeat' (first
    | with_reducible assumption
    | extract_lets +onlyGivenNames x
    | (simp only [↓bounds_mk]; refine keeps_of ?_ rfl rfl rfl rfl rfl rfl rfl)
    )

theorem bootShutdown_keeps {s : State} (h : Bounds s) :
    Bounds (bootShutdown s) := by
  unfold bootShutdown
  repeat' (first
    | with_reducible assumption
    | extract_lets +onlyGivenNames x
    | with_reducible apply recordAt_keeps
    | (simp only [↓bounds_mk]; refine keeps_of ?_ rfl rfl rfl rfl rfl rfl rfl)
    | split
    )

theorem bootRecords_keeps {s : State} (h : Bounds s) :
    Bounds (bootRecords s) := by
  unfold bootRecords
  repeat' (first
    | with_reducible assumption
    | (extract_lets +onlyGivenNames x; refine keeps_have (P := Bounds x) ?_ ?_; rotate_left; clear_value x; intro hx; rotate_left; unfold x; clear x)
    | extract_lets +onlyGivenNames x
    | with_reducible apply finishClear_keeps
    | with_reducible apply record_keeps
    | with_reducible apply keeps_ite
    | (simp only [↓bounds_mk]; refine keeps_of ?_ rfl rfl rfl rfl rfl rfl rfl)
    | split
    )

theorem bootTripped_keeps {code : Nat} {s : State} (h : Bounds s) :
    Bounds (bootTripped code s) := by
  unfold bootTripped
  repeat' (first
    | with_reducible assumption
    | extract_lets +onlyGivenNames x
    | with_reducible apply record_keeps
    | with_reducible apply latchCode_keeps
    | with_reducible apply demandBy_keeps
    | with_reducible apply setMode_keeps
    )

theorem bootTime_keeps {cold : Bool} {rtc : Option Nat} {s : State} (h : Bounds s) :
    Bounds (bootTime cold rtc s) := by
  unfold bootTime
  repeat' (first
    | with_reducible assumption
    | extract_lets +onlyGivenNames x
    | with_reducible apply keeps_ite
    | (simp only [↓bounds_mk]; refine keeps_of ?_ rfl rfl rfl rfl rfl rfl rfl)
    )

theorem bootFields_keeps {o : BootObs} {cold : Bool} {ops : Nat} {s : State} (h : Bounds s) :
    Bounds (bootFields o cold ops s) := by
  unfold bootFields
  repeat' (first
    | with_reducible assumption
    | extract_lets +onlyGivenNames x
    | (simp only [↓bounds_mk]; refine keeps_of ?_ rfl rfl rfl rfl rfl rfl rfl)
    )

theorem bootLoad_keeps {o : BootObs} {cold : Bool} {s : State} (h : Bounds s) :
    Bounds (bootLoad o cold s) := by
  unfold bootLoad
  repeat' (first
    | with_reducible assumption
    | (intro y)
    | (extract_lets +onlyGivenNames x; refine keeps_have (P := Bounds x) ?_ ?_; rotate_left; clear_value x; intro hx; rotate_left; unfold x; clear x)
    | extract_lets +onlyGivenNames x
    | with_reducible apply openPorts_keeps
    | with_reducible apply markChanged_keeps
    | with_reducible apply judgeChem_keeps
    | with_reducible apply judgeSpectrum_keeps
    | with_reducible apply startFlush_keeps
    | with_reducible apply enumerate_keeps
    | with_reducible apply loseCtx_keeps
    | with_reducible apply bootTriggers_keeps
    | with_reducible apply trainLane_keeps
    | with_reducible apply restoreContexts_keeps
    | with_reducible apply bootEngines_keeps
    | with_reducible apply formKits_keeps
    | with_reducible apply bootImage_keeps
    | with_reducible apply eachDo_keeps
    | with_reducible apply bootSafety_keeps
    | with_reducible apply bootNode_keeps
    | with_reducible apply bootShutdown_keeps
    | with_reducible apply bootRecords_keeps
    | with_reducible apply keeps_ite
    )

theorem bootEnd_keeps {o : BootObs} {s : State} (h : Bounds s) :
    Bounds (bootEnd o s) := by
  unfold bootEnd
  repeat' (first
    | with_reducible assumption
    | (extract_lets +onlyGivenNames x; refine keeps_have (P := Bounds x) ?_ ?_; rotate_left; clear_value x; intro hx; rotate_left; unfold x; clear x)
    | extract_lets +onlyGivenNames x
    | with_reducible apply setMode_keeps
    | with_reducible apply updateCeil_keeps
    | with_reducible apply bootTripped_keeps
    | (simp only [↓bounds_mk]; refine keeps_of ?_ rfl rfl rfl rfl rfl rfl rfl)
    | split
    )

theorem boot_keeps {o : BootObs} {s : State} (h : Bounds s) :
    Bounds (boot o s) := by
  unfold boot
  repeat' (first
    | with_reducible assumption
    | extract_lets +onlyGivenNames x
    | with_reducible apply unloaded_keeps
    | with_reducible apply bootTime_keeps
    | with_reducible apply bootFields_keeps
    | with_reducible apply bootLoad_keeps
    | with_reducible apply bootEnd_keeps
    )

theorem execBoot_keeps {t : Nat} {o : BootObs} {s : State} (h : Bounds s) :
    ∀ u, execBoot t o s = .next u → Bounds u := by
  intro u hu
  unfold execBoot at hu
  refine timed_keeps ?_ hu h
  clear hu h
  intro s h
  repeat' (first
    | with_reducible assumption
    | extract_lets +onlyGivenNames x
    | with_reducible apply boot_keeps
    | with_reducible apply keeps_ite
    )

theorem execPwrAuxLoss_keeps {t : Nat} {mv : Nat} {held : Nat} {str : Nat} {s : State} (h : Bounds s) :
    ∀ u, execPwrAuxLoss t mv held str s = .next u → Bounds u := by
  intro u hu
  unfold execPwrAuxLoss at hu
  refine timed_keeps ?_ hu h
  clear hu h
  intro s h
  repeat' (first
    | with_reducible assumption
    | (extract_lets +onlyGivenNames x; refine keeps_have (P := Bounds x) ?_ ?_; rotate_left; clear_value x; intro hx; rotate_left; unfold x; clear x)
    | extract_lets +onlyGivenNames x
    | with_reducible apply endJobs_keeps
    | with_reducible apply beginOpening_keeps
    | with_reducible apply connFail_keeps
    | with_reducible apply record_keeps
    | with_reducible apply keeps_ite
    | (simp only [↓bounds_mk]; refine keeps_of ?_ rfl rfl rfl rfl rfl rfl rfl)
    )

theorem execPwrAuxReturn_keeps {t : Nat} {mv : Nat} {held : Nat} {s : State} (h : Bounds s) :
    ∀ u, execPwrAuxReturn t mv held s = .next u → Bounds u := by
  intro u hu
  unfold execPwrAuxReturn at hu
  refine timed_keeps ?_ hu h
  clear hu h
  intro s h
  repeat' (first
    | with_reducible assumption
    | extract_lets +onlyGivenNames x
    | with_reducible apply keeps_ite
    | (simp only [↓bounds_mk]; refine keeps_of ?_ rfl rfl rfl rfl rfl rfl rfl)
    )

theorem heldPowerFail_keeps {ts8 : Option Int} {s : State} (h : Bounds s) :
    Bounds (heldPowerFail ts8 s) := by
  unfold heldPowerFail
  repeat' (first
    | with_reducible assumption
    | extract_lets +onlyGivenNames x
    | with_reducible apply record_keeps
    | with_reducible apply flushAll_keeps
    | with_reducible apply powerOff_keeps
    | with_reducible apply keeps_ite
    | (simp only [↓bounds_mk]; refine keeps_of ?_ rfl rfl rfl rfl rfl rfl rfl)
    )

theorem execCisternSequence_keeps {t : Nat} {str : Nat} {ts8 : Option Int} {s : State} (h : Bounds s) :
    ∀ u, execCisternSequence t str ts8 s = .next u → Bounds u := by
  intro u hu
  unfold execCisternSequence at hu
  refine timed_keeps ?_ hu h
  clear hu h
  intro s h
  repeat' (first
    | with_reducible assumption
    | (intro y)
    | (extract_lets +onlyGivenNames x; refine keeps_have (P := Bounds x) ?_ ?_; rotate_left; clear_value x; intro hx; rotate_left; unfold x; clear x)
    | extract_lets +onlyGivenNames x
    | with_reducible apply flushAll_keeps
    | with_reducible apply powerOff_keeps
    | with_reducible apply record_keeps
    | with_reducible apply setMode_keeps
    | with_reducible apply saveAll_keeps
    | with_reducible apply openCoil_keeps
    | with_reducible apply eachDo_keeps
    | with_reducible apply gatesOff_keeps
    | with_reducible apply endJobs_keeps
    | with_reducible apply heldPowerFail_keeps
    | with_reducible apply keeps_ite
    | (simp only [↓bounds_mk]; refine keeps_of ?_ rfl rfl rfl rfl rfl rfl rfl)
    )

theorem wakeNow_keeps {cause : Nat} {s : State} (h : Bounds s) :
    Bounds (wakeNow cause s) := by
  unfold wakeNow
  repeat' (first
    | with_reducible assumption
    | extract_lets +onlyGivenNames x
    | with_reducible apply setMode_keeps
    | with_reducible apply keeps_ite
    )

theorem enterIsolated_keeps {s : State} (h : Bounds s) :
    Bounds (enterIsolated s) := by
  unfold enterIsolated
  repeat' (first
    | with_reducible assumption
    | (extract_lets +onlyGivenNames x; refine keeps_have (P := Bounds x) ?_ ?_; rotate_left; clear_value x; intro hx; rotate_left; unfold x; clear x)
    | extract_lets +onlyGivenNames x
    | with_reducible apply setMode_keeps
    | with_reducible apply withdrawFor_keeps
    | (simp only [↓bounds_mk]; refine keeps_of ?_ rfl rfl rfl rfl rfl rfl rfl)
    )

theorem wakeRing_keeps {r : Nat} {s : State} (h : Bounds s) :
    Bounds (wakeRing r s) := by
  unfold wakeRing
  repeat' (first
    | with_reducible assumption
    | (intro y)
    | (extract_lets +onlyGivenNames x; refine keeps_have (P := Bounds x) ?_ ?_; rotate_left; clear_value x; intro hx; rotate_left; unfold x; clear x)
    | extract_lets +onlyGivenNames x
    | with_reducible apply sendProbes_keeps
    | with_reducible apply setTap_keeps
    | with_reducible apply eachDo_keeps
    | with_reducible apply emit_keeps
    )

theorem slowRing_keeps {T : Nat} {r : Nat} {rts : List (Option Nat × Option Nat)} {frames : List (Nat × Bool × List Byte)} {s : State} (h : Bounds s) :
    Bounds (slowRing T r rts frames s) := by
  unfold slowRing
  repeat' (first
    | with_reducible assumption
    | (intro y)
    | (extract_lets +onlyGivenNames x; refine keeps_have (P := Bounds x) ?_ ?_; rotate_left; clear_value x; intro hx; rotate_left; unfold x; clear x)
    | extract_lets +onlyGivenNames x
    | with_reducible apply noteSilent_keeps
    | with_reducible apply endCollection_keeps
    | with_reducible apply sweepData_keeps
    | with_reducible apply eachDo_keeps
    | with_reducible apply markRing_keeps
    | with_reducible apply wakeRing_keeps
    | with_reducible apply takeDelays_keeps
    | with_reducible apply refreshDelays_keeps
    | with_reducible apply keeps_ite
    )

theorem execSlowSweep_keeps {t : Nat} {rts : List (List (Option Nat × Option Nat))} {frames : List (Nat × Bool × List Byte)} {tc : List (Option Int)} {shunt2 : Option Int} {hall2 : Option Int} {s : State} (h : Bounds s) :
    ∀ u, execSlowSweep t rts frames tc shunt2 hall2 s = .next u → Bounds u := by
  intro u hu
  unfold execSlowSweep at hu
  refine timed_keeps ?_ hu h
  clear hu h
  intro s h
  repeat' (first
    | with_reducible assumption
    | (intro y)
    | (extract_lets +onlyGivenNames x; refine keeps_have (P := Bounds x) ?_ ?_; rotate_left; clear_value x; intro hx; rotate_left; unfold x; clear x)
    | (extract_lets +onlyGivenNames x; refine keeps_have (P := Bounds x.2) ?_ ?_; rotate_left; clear_value x; intro hx; rotate_left; unfold x; clear x)
    | extract_lets +onlyGivenNames x
    | with_reducible apply wakeNow_keeps
    | with_reducible apply updatePeriod_keeps
    | with_reducible apply sweepCheck_keeps
    | with_reducible apply slowRing_keeps
    | with_reducible apply eachDo_keeps
    | with_reducible apply beginSweep_keeps
    | with_reducible apply containerLoop_keeps
    | with_reducible apply keeps_ite
    | with_reducible apply keeps_ite2
    | (simp only [↓bounds_mk]; refine keeps_of ?_ rfl rfl rfl rfl rfl rfl rfl)
    | split
    | dsimp only
    | with_reducible apply keeps_fold
    | assumption
    | clear_value *
    )

theorem execWakeAtReached_keeps {t : Nat} {s : State} (h : Bounds s) :
    ∀ u, execWakeAtReached t s = .next u → Bounds u := by
  intro u hu
  unfold execWakeAtReached at hu
  refine timed_keeps ?_ hu h
  clear hu h
  intro s h
  repeat' (first
    | with_reducible assumption
    | extract_lets +onlyGivenNames x
    | with_reducible apply wakeNow_keeps
    | with_reducible apply keeps_ite
    | (simp only [↓bounds_mk]; refine keeps_of ?_ rfl rfl rfl rfl rfl rfl rfl)
    | split
    )

theorem execDormantAuto_keeps {t : Nat} {s : State} (h : Bounds s) :
    ∀ u, execDormantAuto t s = .next u → Bounds u := by
  intro u hu
  unfold execDormantAuto at hu
  refine timed_keeps ?_ hu h
  clear hu h
  intro s h
  repeat' (first
    | with_reducible assumption
    | extract_lets +onlyGivenNames x
    | with_reducible apply enterIsolated_keeps
    | with_reducible apply keeps_ite
    | (simp only [↓bounds_mk]; refine keeps_of ?_ rfl rfl rfl rfl rfl rfl rfl)
    )

theorem execModeStatus_keeps {t : Nat} {m : Nat} {s : State} (h : Bounds s) :
    ∀ u, execModeStatus t m s = .next u → Bounds u := by
  intro u hu
  unfold execModeStatus at hu
  refine timed_keeps ?_ hu h
  clear hu h
  intro s h
  repeat' (first
    | with_reducible assumption
    | (intro y)
    | extract_lets +onlyGivenNames x
    | with_reducible apply statusHandler_keeps
    | with_reducible apply serve_keeps
    )

theorem execEnterService_keeps {t : Nat} {m : Nat} {s : State} (h : Bounds s) :
    ∀ u, execEnterService t m s = .next u → Bounds u := by
  intro u hu
  unfold execEnterService at hu
  refine timed_keeps ?_ hu h
  clear hu h
  intro s h
  repeat' (first
    | with_reducible assumption
    | (intro y)
    | extract_lets +onlyGivenNames x
    | with_reducible apply setMode_keeps
    | with_reducible apply ok_keeps
    | with_reducible apply refuse_keeps
    | with_reducible apply withLength_keeps
    | with_reducible apply serve_keeps
    | with_reducible apply keeps_ite2
    | split
    )

theorem execLeaveService_keeps {t : Nat} {m : Nat} {s : State} (h : Bounds s) :
    ∀ u, execLeaveService t m s = .next u → Bounds u := by
  intro u hu
  unfold execLeaveService at hu
  refine timed_keeps ?_ hu h
  clear hu h
  intro s h
  repeat' (first
    | with_reducible assumption
    | (intro y)
    | extract_lets +onlyGivenNames x
    | with_reducible apply setMode_keeps
    | with_reducible apply ok_keeps
    | with_reducible apply refuse_keeps
    | with_reducible apply withLength_keeps
    | with_reducible apply serve_keeps
    | split
    )

theorem runHandler_keeps {a0 : Request} {a1 : State} (h : Bounds a1) :
    Bounds (runHandler a0 a1).2 := by
  unfold runHandler
  repeat' (first
    | with_reducible assumption
    | (intro y)
    | extract_lets +onlyGivenNames x
    | with_reducible apply gatesOff_keeps
    | with_reducible apply setMode_keeps
    | with_reducible apply ok_keeps
    | with_reducible apply refuse_keeps
    | with_reducible apply withLength_keeps
    | with_reducible apply keeps_ite
    | split
    )

theorem execRun_keeps {t : Nat} {m : Nat} {s : State} (h : Bounds s) :
    ∀ u, execRun t m s = .next u → Bounds u := by
  intro u hu
  unfold execRun at hu
  refine timed_keeps ?_ hu h
  clear hu h
  intro s h
  repeat' (first
    | with_reducible assumption
    | (intro y)
    | extract_lets +onlyGivenNames x
    | with_reducible apply runHandler_keeps
    | with_reducible apply serve_keeps
    )

theorem beginHold_keeps {mb : Option Nat} {s : State} (h : Bounds s) :
    Bounds (beginHold mb s) := by
  unfold beginHold
  repeat' (first
    | with_reducible assumption
    | (extract_lets +onlyGivenNames x; refine keeps_have (P := Bounds x) ?_ ?_; rotate_left; clear_value x; intro hx; rotate_left; unfold x; clear x)
    | extract_lets +onlyGivenNames x
    | with_reducible apply orderlyOff_keeps
    | with_reducible apply rampToZero_keeps
    | with_reducible apply keeps_ite
    | (simp only [↓bounds_mk]; refine keeps_of ?_ rfl rfl rfl rfl rfl rfl rfl)
    )

theorem holdHandler_keeps {m : Nat} {a1 : Request} {a2 : State} (h : Bounds a2) :
    Bounds (holdHandler m a1 a2).2 := by
  unfold holdHandler
  repeat' (first
    | with_reducible assumption
    | (intro y)
    | extract_lets +onlyGivenNames x
    | with_reducible apply beginHold_keeps
    | with_reducible apply refuse_keeps
    | with_reducible apply withLength_keeps
    | with_reducible apply keeps_ite2
    | split
    )

theorem execHold_keeps {t : Nat} {m : Nat} {s : State} (h : Bounds s) :
    ∀ u, execHold t m s = .next u → Bounds u := by
  intro u hu
  unfold execHold at hu
  refine timed_keeps ?_ hu h
  clear hu h
  intro s h
  repeat' (first
    | with_reducible assumption
    | (intro y)
    | extract_lets +onlyGivenNames x
    | with_reducible apply holdHandler_keeps
    | with_reducible apply serve_keeps
    )

theorem execEnterDormant_keeps {t : Nat} {m : Nat} {s : State} (h : Bounds s) :
    ∀ u, execEnterDormant t m s = .next u → Bounds u := by
  intro u hu
  unfold execEnterDormant at hu
  refine timed_keeps ?_ hu h
  clear hu h
  intro s h
  repeat' (first
    | with_reducible assumption
    | (intro y)
    | extract_lets +onlyGivenNames x
    | with_reducible apply enterIsolated_keeps
    | with_reducible apply ok_keeps
    | with_reducible apply refuse_keeps
    | with_reducible apply withLength_keeps
    | with_reducible apply serve_keeps
    | with_reducible apply keeps_ite2
    | split
    )

theorem execWake_keeps {t : Nat} {m : Nat} {s : State} (h : Bounds s) :
    ∀ u, execWake t m s = .next u → Bounds u := by
  intro u hu
  unfold execWake at hu
  refine timed_keeps ?_ hu h
  clear hu h
  intro s h
  repeat' (first
    | with_reducible assumption
    | (intro y)
    | extract_lets +onlyGivenNames x
    | with_reducible apply wakeNow_keeps
    | with_reducible apply ok_keeps
    | with_reducible apply refuse_keeps
    | with_reducible apply withLength_keeps
    | with_reducible apply serve_keeps
    | with_reducible apply keeps_ite2
    )

theorem execWakeAt_keeps {t : Nat} {m : Nat} {s : State} (h : Bounds s) :
    ∀ u, execWakeAt t m s = .next u → Bounds u := by
  intro u hu
  unfold execWakeAt at hu
  refine timed_keeps ?_ hu h
  clear hu h
  intro s h
  repeat' (first
    | with_reducible assumption
    | (intro y)
    | extract_lets +onlyGivenNames x
    | with_reducible apply refuse_keeps
    | with_reducible apply ok_keeps
    | with_reducible apply withLength_keeps
    | with_reducible apply serve_keeps
    | with_reducible apply keeps_ite2
    | (simp only [↓bounds_mk]; refine keeps_of ?_ rfl rfl rfl rfl rfl rfl rfl)
    )

theorem execEnterShelf_keeps {t : Nat} {m : Nat} {s : State} (h : Bounds s) :
    ∀ u, execEnterShelf t m s = .next u → Bounds u := by
  intro u hu
  unfold execEnterShelf at hu
  refine timed_keeps ?_ hu h
  clear hu h
  intro s h
  repeat' (first
    | with_reducible assumption
    | (intro y)
    | (extract_lets +onlyGivenNames x; refine keeps_have (P := Bounds x) ?_ ?_; rotate_left; clear_value x; intro hx; rotate_left; unfold x; clear x)
    | extract_lets +onlyGivenNames x
    | with_reducible apply setMode_keeps
    | with_reducible apply saveAll_keeps
    | with_reducible apply powerOff_keeps
    | with_reducible apply withdrawFor_keeps
    | with_reducible apply record_keeps
    | with_reducible apply formResponse_keeps
    | with_reducible apply refuse_keeps
    | with_reducible apply withLength_keeps
    | with_reducible apply serve_keeps
    | with_reducible apply keeps_ite2
    | (simp only [↓bounds_mk]; refine keeps_of ?_ rfl rfl rfl rfl rfl rfl rfl)
    )

theorem confine_keeps {c : Can} (h : CanBounds c) : CanBounds (confine c) := by
  unfold confine
  split <;> exact h

theorem storeFrame_keeps {f : CanFrame} {time : Nat} {c : Can} (h : CanBounds c) : CanBounds (storeFrame f time c) := by
  obtain ⟨h1, h2⟩ := h
  unfold storeFrame
  split
  · exact ⟨h1, h2⟩
  · exact ⟨h1, by simp only [List.length_append, List.length_singleton]; omega⟩

theorem settle_keeps {handle : Nat} {sent : Option Nat} {c : Can} (h : CanBounds c) : CanBounds (settle handle sent c) :=
  ⟨Nat.le_trans (List.length_filter_le _ _) h.1, h.2⟩

theorem canOf_keeps {s : State} {c : Nat} (h : Bounds s) : CanBounds (canOf s c) := by
  unfold canOf List.getD
  cases k : s.bus.can[c]? with
  | none => exact ⟨Nat.zero_le _, Nat.zero_le _⟩
  | some x => exact h.2.1 x (List.mem_of_getElem? k)

theorem releaseTo_length {seq : Nat} {l k : List CanRxEntry} (h : releaseTo seq l = some k) : k.length ≤ l.length := by
  induction l with
  | nil => simp [releaseTo] at h
  | cons a l ih =>
    unfold releaseTo at h
    split at h
    · cases h
      simp
    · have := ih h
      simp only [List.length_cons]
      omega

/-- A change of one element keeps a bound if the new element meets it. -/
theorem keeps_modify_at {α : Type} {P : α → Prop} {l : List α} {n : Nat} {g : α → α} {d : α} (hl : ∀ x ∈ l, P x)
    (hg : P (l.getD n d) → P (g (l.getD n d))) : ∀ x ∈ l.modify n g, P x := by
  induction l generalizing n with
  | nil => simp
  | cons a l ih =>
    cases n with
    | zero =>
      intro x hx
      simp only [List.modify_zero_cons, List.mem_cons] at hx
      rcases hx with rfl | hx
      · exact hg (hl a (by simp))
      · exact hl x (by simp [hx])
    | succ n =>
      intro x hx
      simp only [List.modify_succ_cons, List.mem_cons] at hx
      rcases hx with rfl | hx
      · exact hl _ (by simp)
      · exact ih (fun y hy => hl y (by simp [hy])) (by simpa using hg) x hx

theorem setCan_keeps_at {c : Nat} {g : Can → Can} {s : State} (hg : CanBounds (g (canOf s c))) (h : Bounds s) : Bounds (setCan c g s) := by
  obtain ⟨h1, h2, h3⟩ := h
  exact ⟨by simpa [setCan] using h1, keeps_modify_at (d := {}) h2 (fun _ => hg), h3⟩

theorem execCanFrameReceive_keeps {t : Nat} {c : Nat} {f : CanFrame} {s : State} (h : Bounds s) :
    ∀ u, execCanFrameReceive t c f s = .next u → Bounds u := by
  intro u hu
  unfold execCanFrameReceive at hu
  refine timed_keeps ?_ hu h
  clear hu h
  intro s h
  repeat' (first
    | with_reducible assumption
    | (intro y)
    | with_reducible apply confine_keeps
    | with_reducible apply storeFrame_keeps
    | (extract_lets +onlyGivenNames x; refine keeps_have (P := Bounds x) ?_ ?_; rotate_left; clear_value x; intro hx; rotate_left; unfold x; clear x)
    | extract_lets +onlyGivenNames x
    | with_reducible apply setCan_keeps
    | with_reducible apply wakeNow_keeps
    | with_reducible apply keeps_ite
    )

theorem execCanTxAttempt_keeps {t : Nat} {c : Nat} {s : State} (h : Bounds s) :
    ∀ u, execCanTxAttempt t c s = .next u → Bounds u := by
  intro u hu
  unfold execCanTxAttempt at hu
  refine timed_keeps ?_ hu h
  clear hu h
  intro s h
  repeat' (first
    | with_reducible assumption
    | (intro y)
    | extract_lets +onlyGivenNames x
    | with_reducible apply setCan_keeps
    | with_reducible apply keeps_ite
    | split
    )

theorem leaveBus_keeps {c : Nat} {s : State} (h : Bounds s) :
    Bounds (leaveBus c s) := by
  unfold leaveBus
  repeat' (first
    | with_reducible assumption
    | (intro y)
    | extract_lets +onlyGivenNames x
    | with_reducible apply setCan_keeps
    | with_reducible apply setFn_keeps
    | with_reducible apply finishJob_keeps
    | with_reducible apply keeps_ite
    )

theorem attemptLost_keeps {c : Nat} {handle : Nat} {s : State} (h : Bounds s) :
    Bounds (attemptLost c handle s) := by
  unfold attemptLost
  repeat' (first
    | with_reducible assumption
    | (intro y)
    | with_reducible apply settle_keeps
    | (extract_lets +onlyGivenNames x; refine keeps_have (P := Bounds x) ?_ ?_; rotate_left; clear_value x; intro hx; rotate_left; unfold x; clear x)
    | extract_lets +onlyGivenNames x
    | with_reducible apply finishJob_keeps
    | with_reducible apply setCan_keeps
    | with_reducible apply keeps_ite
    )

theorem execCanTxEnd_keeps {t : Nat} {c : Nat} {outcome : Nat} {s : State} (h : Bounds s) :
    ∀ u, execCanTxEnd t c outcome s = .next u → Bounds u := by
  intro u hu
  unfold execCanTxEnd at hu
  refine timed_keeps ?_ hu h
  clear hu h
  intro s h
  repeat' (first
    | with_reducible assumption
    | (intro y)
    | with_reducible apply confine_keeps
    | with_reducible apply settle_keeps
    | extract_lets +onlyGivenNames x
    | with_reducible apply attemptLost_keeps
    | with_reducible apply finishJob_keeps
    | with_reducible apply leaveBus_keeps
    | with_reducible apply setCan_keeps
    | with_reducible apply emit_keeps
    | with_reducible apply keeps_ite
    | (simp only [↓bounds_mk]; refine keeps_of ?_ rfl rfl rfl rfl rfl rfl rfl)
    | split
    )

theorem execBusOff_keeps {t : Nat} {c : Nat} {s : State} (h : Bounds s) :
    ∀ u, execBusOff t c s = .next u → Bounds u := by
  intro u hu
  unfold execBusOff at hu
  refine timed_keeps ?_ hu h
  clear hu h
  intro s h
  repeat' (first
    | with_reducible assumption
    | (intro y)
    | (extract_lets +onlyGivenNames x; refine keeps_have (P := Bounds x) ?_ ?_; rotate_left; clear_value x; intro hx; rotate_left; unfold x; clear x)
    | extract_lets +onlyGivenNames x
    | with_reducible apply setCan_keeps
    | with_reducible apply leaveBus_keeps
    | with_reducible apply record_keeps
    | with_reducible apply attemptLost_keeps
    | with_reducible apply keeps_ite
    | split
    )

theorem execBusOffRecovered_keeps {t : Nat} {c : Nat} {s : State} (h : Bounds s) :
    ∀ u, execBusOffRecovered t c s = .next u → Bounds u := by
  intro u hu
  unfold execBusOffRecovered at hu
  refine timed_keeps ?_ hu h
  clear hu h
  intro s h
  repeat' (first
    | with_reducible assumption
    | (intro y)
    | extract_lets +onlyGivenNames x
    | with_reducible apply setCan_keeps
    | with_reducible apply keeps_ite
    )

theorem serveCan_keeps {m : Nat} {op : Nat} {a2 : Nat → Request → State → Answer × State} {s : State} (ha2 : ∀ x0 x1 x2, Bounds x2 → Bounds (a2 x0 x1 x2).2) (h : Bounds s) :
    Bounds (serveCan m op a2 s) := by
  unfold serveCan
  repeat' (first
    | with_reducible assumption
    | (intro y)
    | extract_lets +onlyGivenNames x
    | with_reducible apply serve_keeps
    | apply ha2
    )

theorem canTxHandler_keeps {c : Nat} {r : Request} {a2 : State} (h : Bounds a2) :
    Bounds (canTxHandler c r a2).2 := by
  unfold canTxHandler
  refine withLength_keeps ?_ h
  intro p s h
  extract_lets x express
  split
  · exact refuse_keeps h
  · split
    · exact refuse_keeps h
    · split
      · exact refuse_keeps h
      · split
        · exact refuse_keeps h
        · rename_i k1 k2
          split
          · exact refuse_keeps h
          · rename_i k3
            refine answerWith_keeps (setCan_keeps_at ?_ h)
            have k := canOf_keeps (c := c) h
            refine ⟨?_, k.2⟩
            show (if express then (canOf s c).tx else (canOf s c).tx ++ [_]).length ≤ 32
            split
            · exact k.1
            · rename_i k4
              have k5 : ¬ 32 ≤ (canOf s c).tx.length := by
                intro hx
                apply k3
                simp [k4, hx, x]
              simp only [List.length_append, List.length_singleton]
              omega

theorem execCanTx_keeps {t : Nat} {m : Nat} {s : State} (h : Bounds s) :
    ∀ u, execCanTx t m s = .next u → Bounds u := by
  intro u hu
  unfold execCanTx at hu
  refine timed_keeps ?_ hu h
  clear hu h
  intro s h
  repeat' (first
    | with_reducible assumption
    | (intro y)
    | extract_lets +onlyGivenNames x
    | with_reducible apply canTxHandler_keeps
    | with_reducible apply serveCan_keeps
    )

theorem canCancelHandler_keeps {m : Nat} {c : Nat} {r : Request} {a3 : State} (h : Bounds a3) :
    Bounds (canCancelHandler m c r a3).2 := by
  unfold canCancelHandler
  repeat' (first
    | with_reducible assumption
    | (intro y)
    | with_reducible apply settle_keeps
    | extract_lets +onlyGivenNames x
    | with_reducible apply ok_keeps
    | with_reducible apply setCan_keeps
    | with_reducible apply refuse_keeps
    | with_reducible apply withLength_keeps
    | with_reducible apply keeps_ite2
    | split
    )

theorem execCanTxCancel_keeps {t : Nat} {m : Nat} {s : State} (h : Bounds s) :
    ∀ u, execCanTxCancel t m s = .next u → Bounds u := by
  intro u hu
  unfold execCanTxCancel at hu
  refine timed_keeps ?_ hu h
  clear hu h
  intro s h
  repeat' (first
    | with_reducible assumption
    | (intro y)
    | extract_lets +onlyGivenNames x
    | with_reducible apply canCancelHandler_keeps
    | with_reducible apply serveCan_keeps
    )

theorem execCanTxQuery_keeps {t : Nat} {m : Nat} {s : State} (h : Bounds s) :
    ∀ u, execCanTxQuery t m s = .next u → Bounds u := by
  intro u hu
  unfold execCanTxQuery at hu
  refine timed_keeps ?_ hu h
  clear hu h
  intro s h
  repeat' (first
    | with_reducible assumption
    | (intro y)
    | extract_lets +onlyGivenNames x
    | with_reducible apply okWith_keeps
    | with_reducible apply withLength_keeps
    | with_reducible apply serveCan_keeps
    )

theorem execCanRxRead_keeps {t : Nat} {m : Nat} {s : State} (h : Bounds s) :
    ∀ u, execCanRxRead t m s = .next u → Bounds u := by
  intro u hu
  unfold execCanRxRead at hu
  refine timed_keeps ?_ hu h
  clear hu h
  intro s h
  repeat' (first
    | with_reducible assumption
    | (intro y)
    | extract_lets +onlyGivenNames x
    | with_reducible apply okWith_keeps
    | with_reducible apply refuse_keeps
    | with_reducible apply withLength_keeps
    | with_reducible apply serveCan_keeps
    | with_reducible apply keeps_ite2
    )

theorem execCanRxRelease_keeps {t : Nat} {m : Nat} {s : State} (h : Bounds s) :
    ∀ u, execCanRxRelease t m s = .next u → Bounds u := by
  intro u hu
  unfold execCanRxRelease at hu
  refine timed_keeps ?_ hu h
  clear hu h
  intro s h
  repeat' (first
    | with_reducible assumption
    | (intro y)
    | (rename_i hk; refine setCan_keeps_at ⟨(canOf_keeps (by assumption)).1, Nat.le_trans (releaseTo_length hk) (canOf_keeps (by assumption)).2⟩ (by assumption))
    | extract_lets +onlyGivenNames x
    | with_reducible apply refuse_keeps
    | with_reducible apply withLength_keeps
    | with_reducible apply serveCan_keeps
    | split
    )

theorem execCanRecover_keeps {t : Nat} {m : Nat} {s : State} (h : Bounds s) :
    ∀ u, execCanRecover t m s = .next u → Bounds u := by
  intro u hu
  unfold execCanRecover at hu
  refine timed_keeps ?_ hu h
  clear hu h
  intro s h
  repeat' (first
    | with_reducible assumption
    | (intro y)
    | extract_lets +onlyGivenNames x
    | with_reducible apply refuse_keeps
    | with_reducible apply setCan_keeps
    | with_reducible apply ok_keeps
    | with_reducible apply withLength_keeps
    | with_reducible apply serveCan_keeps
    | with_reducible apply keeps_ite2
    )

theorem execCanStatus_keeps {t : Nat} {m : Nat} {s : State} (h : Bounds s) :
    ∀ u, execCanStatus t m s = .next u → Bounds u := by
  intro u hu
  unfold execCanStatus at hu
  refine timed_keeps ?_ hu h
  clear hu h
  intro s h
  repeat' (first
    | with_reducible assumption
    | (intro y)
    | extract_lets +onlyGivenNames x
    | with_reducible apply statusHandler_keeps
    | with_reducible apply serveCan_keeps
    )

theorem execFrMapSend_keeps {t : Nat} {k : Nat} {vStr : Option Int} {s : State} (h : Bounds s) :
    ∀ u, execFrMapSend t k vStr s = .next u → Bounds u := by
  intro u hu
  unfold execFrMapSend at hu
  refine timed_keeps ?_ hu h
  clear hu h
  intro s h
  repeat' (first
    | with_reducible assumption
    | (intro y)
    | (extract_lets +onlyGivenNames x; refine keeps_have (P := Bounds x) ?_ ?_; rotate_left; clear_value x; intro hx; rotate_left; unfold x; clear x)
    | extract_lets +onlyGivenNames x
    | with_reducible apply setCan_keeps
    | with_reducible apply emit_keeps
    | with_reducible apply keeps_ite
    )

theorem mapSetPoint_keeps {d : List Byte} {s : State} (h : Bounds s) :
    Bounds (mapSetPoint d s).2 := by
  unfold mapSetPoint
  repeat' (first
    | with_reducible assumption
    | with_reducible apply noteReject_keeps
    | (extract_lets +onlyGivenNames x; refine keeps_have (P := Bounds x.2) ?_ ?_; rotate_left; clear_value x; intro hx; rotate_left; unfold x; clear x)
    | extract_lets +onlyGivenNames x
    | with_reducible apply decidePoint_keeps
    | with_reducible apply keeps_ite2
    | (simp only [↓bounds_mk]; refine keeps_of ?_ rfl rfl rfl rfl rfl rfl rfl)
    | split
    )

theorem countMap_keeps {s : State} {acts : Bool} (h : Bounds s) :
    Bounds (countMap s acts) := by
  unfold countMap
  repeat' (first
    | with_reducible assumption
    | (intro y)
    | extract_lets +onlyGivenNames x
    | with_reducible apply setCan_keeps
    | with_reducible apply keeps_ite
    )

theorem execFrSetpointFrame_keeps {t : Nat} {d : List Byte} {s : State} (h : Bounds s) :
    ∀ u, execFrSetpointFrame t d s = .next u → Bounds u := by
  intro u hu
  unfold execFrSetpointFrame at hu
  refine timed_keeps ?_ hu h
  clear hu h
  intro s h
  repeat' (first
    | with_reducible assumption
    | (intro y)
    | (extract_lets +onlyGivenNames x; refine keeps_have (P := Bounds x) ?_ ?_; rotate_left; clear_value x; intro hx; rotate_left; unfold x; clear x)
    | (extract_lets +onlyGivenNames x; refine keeps_have (P := Bounds x.2) ?_ ?_; rotate_left; clear_value x; intro hx; rotate_left; unfold x; clear x)
    | extract_lets +onlyGivenNames x
    | with_reducible apply mapSetPoint_keeps
    | with_reducible apply setCan_keeps
    | with_reducible apply countMap_keeps
    | with_reducible apply keeps_ite
    )

theorem mapHandler_keeps {cmd : Nat} {vStr : Int} {vLnk : Int} {a3 : Request} {a4 : State} (h : Bounds a4) :
    Bounds (mapHandler cmd vStr vLnk a3 a4).2 := by
  unfold mapHandler
  repeat' (first
    | with_reducible assumption
    | with_reducible apply holdHandler_keeps
    | with_reducible apply runHandler_keeps
    | with_reducible apply disconnectHandler_keeps
    | with_reducible apply connectHandler_keeps
    | split
    )

theorem noteMap_keeps {cmd : Nat} {st : Status} {s : State} (h : Bounds s) :
    Bounds (noteMap cmd st s) := by
  unfold noteMap
  repeat' (first
    | with_reducible assumption
    | (intro y)
    | with_reducible apply setCan_keeps
    )

theorem mapExec_keeps {d : List Byte} {vStr : Int} {vLnk : Int} {s : State} (h : Bounds s) :
    Bounds (mapExec d vStr vLnk s) := by
  unfold mapExec
  repeat' (first
    | with_reducible assumption
    | extract_lets +onlyGivenNames x
    | with_reducible apply mapHandler_keeps
    | with_reducible apply record_keeps
    | with_reducible apply noteMap_keeps
    | with_reducible apply keeps_ite
    | (simp only [↓bounds_mk]; refine keeps_of ?_ rfl rfl rfl rfl rfl rfl rfl)
    | split
    )

theorem execFrCommandFrame_keeps {t : Nat} {d : List Byte} {vStr : Int} {vLnk : Int} {s : State} (h : Bounds s) :
    ∀ u, execFrCommandFrame t d vStr vLnk s = .next u → Bounds u := by
  intro u hu
  unfold execFrCommandFrame at hu
  refine timed_keeps ?_ hu h
  clear hu h
  intro s h
  repeat' (first
    | with_reducible assumption
    | (intro y)
    | (extract_lets +onlyGivenNames x; refine keeps_have (P := Bounds x) ?_ ?_; rotate_left; clear_value x; intro hx; rotate_left; unfold x; clear x)
    | extract_lets +onlyGivenNames x
    | with_reducible apply mapExec_keeps
    | with_reducible apply setCan_keeps
    | with_reducible apply countMap_keeps
    | with_reducible apply keeps_ite
    )

theorem setSvc_keeps {g : TwSvc → TwSvc} {s : State} (hg : ∀ x, x.ptr < 256 → (g x).ptr < 256) (h : Bounds s) :
    Bounds (setSvc g s) := by
  obtain ⟨h1, h2, h3, h4⟩ := h
  exact ⟨h1, h2, hg _ h3, h4⟩

theorem execTwAddressMatch_keeps {t : Nat} {addr : Nat} {read : Option Nat} {s : State} (h : Bounds s) :
    ∀ u, execTwAddressMatch t addr read s = .next u → Bounds u := by
  intro u hu
  unfold execTwAddressMatch at hu
  refine timed_keeps ?_ hu h
  clear hu h
  intro s h
  repeat' (first
    | with_reducible assumption
    | (intro y)
    | exact Nat.mod_lt _ (Nat.zero_lt_succ _)
    | (extract_lets +onlyGivenNames x; refine keeps_have (P := Bounds x) ?_ ?_; rotate_left; clear_value x; intro hx; rotate_left; unfold x; clear x)
    | extract_lets +onlyGivenNames x
    | with_reducible apply emit_keeps
    | with_reducible apply setIsland_keeps
    | with_reducible apply setSvc_keeps
    | with_reducible apply keeps_ite
    | (simp only [↓bounds_mk]; refine keeps_of ?_ rfl rfl rfl rfl rfl rfl rfl)
    | split
    )

theorem bellRead_keeps {s : State} (h : Bounds s) :
    Bounds (bellRead s) := by
  unfold bellRead
  repeat' (first
    | with_reducible assumption
    | (intro y)
    | (extract_lets +onlyGivenNames x; refine keeps_have (P := Bounds x.2) ?_ ?_; rotate_left; clear_value x; intro hx; rotate_left; unfold x; clear x)
    | extract_lets +onlyGivenNames x
    | with_reducible apply setSvc_keeps
    | with_reducible apply readMailbox_keeps
    )

theorem bellRequest_keeps {s : State} (h : Bounds s) :
    Bounds (bellRequest s) := by
  unfold bellRequest
  repeat' (first
    | with_reducible assumption
    | (intro y)
    | (extract_lets +onlyGivenNames x; refine keeps_have (P := Bounds x) ?_ ?_; rotate_left; clear_value x; intro hx; rotate_left; unfold x; clear x)
    | extract_lets +onlyGivenNames x
    | with_reducible apply bindTo_keeps
    | with_reducible apply requestOn_keeps
    | with_reducible apply bellRead_keeps
    | with_reducible apply setSvc_keeps
    | with_reducible apply discardEnvelope_keeps
    | with_reducible apply keeps_ite
    | (simp only [↓bounds_mk]; refine keeps_of ?_ rfl rfl rfl rfl rfl rfl rfl)
    )

theorem bellAck_keeps {s : State} (h : Bounds s) :
    Bounds (bellAck s) := by
  unfold bellAck
  repeat' (first
    | with_reducible assumption
    | (intro y)
    | extract_lets +onlyGivenNames x
    | with_reducible apply ackMailbox_keeps
    | with_reducible apply setSvc_keeps
    | with_reducible apply discardEnvelope_keeps
    | with_reducible apply keeps_ite
    )

theorem doorbell_keeps {op : Nat} {s : State} (h : Bounds s) :
    Bounds (doorbell op s) := by
  unfold doorbell
  repeat' (first
    | with_reducible assumption
    | extract_lets +onlyGivenNames x
    | with_reducible apply discardEnvelope_keeps
    | with_reducible apply bellAck_keeps
    | with_reducible apply bellRead_keeps
    | with_reducible apply bellRequest_keeps
    | with_reducible apply keeps_ite
    | split
    )

theorem writeAt_keeps {i : Nat} {v : Byte} {s : State} (h : Bounds s) :
    Bounds (writeAt i v s) := by
  unfold writeAt
  repeat' (first
    | with_reducible assumption
    | (intro y)
    | extract_lets +onlyGivenNames x
    | with_reducible apply doorbell_keeps
    | with_reducible apply setSvc_keeps
    | with_reducible apply keeps_ite
    )

theorem writeByte_keeps {s : State} {v : Byte} (h : Bounds s) :
    Bounds (writeByte s v) := by
  unfold writeByte
  repeat' (first
    | with_reducible assumption
    | (intro y)
    | exact Nat.mod_lt _ (Nat.zero_lt_succ _)
    | exact BitVec.isLt _
    | (extract_lets +onlyGivenNames x; refine keeps_have (P := Bounds x) ?_ ?_; rotate_left; clear_value x; intro hx; rotate_left; unfold x; clear x)
    | extract_lets +onlyGivenNames x
    | with_reducible apply writeAt_keeps
    | with_reducible apply setSvc_keeps
    | with_reducible apply keeps_ite
    )

theorem execTwWindowWrite_keeps {t : Nat} {b : List Byte} {s : State} (h : Bounds s) :
    ∀ u, execTwWindowWrite t b s = .next u → Bounds u := by
  intro u hu
  unfold execTwWindowWrite at hu
  refine timed_keeps ?_ hu h
  clear hu h
  intro s h
  repeat' (first
    | with_reducible assumption
    | (intro y)
    | extract_lets +onlyGivenNames x
    | with_reducible apply writeByte_keeps
    | with_reducible apply keeps_ite
    | with_reducible apply keeps_fold
    )

theorem ringBell_keeps {op : Byte} {s : State} (h : Bounds s) :
    Bounds (ringBell op s) := by
  unfold ringBell
  repeat' (first
    | with_reducible assumption
    | extract_lets +onlyGivenNames x
    | with_reducible apply writeByte_keeps
    | with_reducible apply keeps_ite
    )

theorem execTwDoorbellRequest_keeps {t : Nat} {s : State} (h : Bounds s) :
    ∀ u, execTwDoorbellRequest t s = .next u → Bounds u := by
  intro u hu
  unfold execTwDoorbellRequest at hu
  refine timed_keeps ?_ hu h
  clear hu h
  intro s h
  repeat' (first
    | with_reducible assumption
    | extract_lets +onlyGivenNames x
    | with_reducible apply ringBell_keeps
    )

theorem execTwDoorbellRead_keeps {t : Nat} {s : State} (h : Bounds s) :
    ∀ u, execTwDoorbellRead t s = .next u → Bounds u := by
  intro u hu
  unfold execTwDoorbellRead at hu
  refine timed_keeps ?_ hu h
  clear hu h
  intro s h
  repeat' (first
    | with_reducible assumption
    | extract_lets +onlyGivenNames x
    | with_reducible apply ringBell_keeps
    )

theorem execTwDoorbellAck_keeps {t : Nat} {s : State} (h : Bounds s) :
    ∀ u, execTwDoorbellAck t s = .next u → Bounds u := by
  intro u hu
  unfold execTwDoorbellAck at hu
  refine timed_keeps ?_ hu h
  clear hu h
  intro s h
  repeat' (first
    | with_reducible assumption
    | extract_lets +onlyGivenNames x
    | with_reducible apply ringBell_keeps
    )

theorem execTwTransferAbort_keeps {t : Nat} {s : State} (h : Bounds s) :
    ∀ u, execTwTransferAbort t s = .next u → Bounds u := by
  intro u hu
  unfold execTwTransferAbort at hu
  refine timed_keeps ?_ hu h
  clear hu h
  intro s h
  repeat' (first
    | with_reducible assumption
    | (intro y)
    | extract_lets +onlyGivenNames x
    | with_reducible apply setSvc_keeps
    )

theorem execTwLate_keeps {t : Nat} {reading : Bool} {s : State} (h : Bounds s) :
    ∀ u, execTwLate t reading s = .next u → Bounds u := by
  intro u hu
  unfold execTwLate at hu
  refine timed_keeps ?_ hu h
  clear hu h
  intro s h
  repeat' (first
    | with_reducible assumption
    | (intro y)
    | (extract_lets +onlyGivenNames x; refine keeps_have (P := Bounds x) ?_ ?_; rotate_left; clear_value x; intro hx; rotate_left; unfold x; clear x)
    | extract_lets +onlyGivenNames x
    | with_reducible apply emit_keeps
    | with_reducible apply setSvc_keeps
    | with_reducible apply keeps_ite
    )

theorem attempt_keeps {outcome : Nat} {s : State} (h : Bounds s) :
    Bounds (attempt outcome s) := by
  unfold attempt
  repeat' (first
    | with_reducible assumption
    | (intro y)
    | (extract_lets +onlyGivenNames x; refine keeps_have (P := Bounds x) ?_ ?_; rotate_left; clear_value x; intro hx; rotate_left; unfold x; clear x)
    | with_reducible apply setSvc_keeps
    | with_reducible apply emit_keeps
    | split
    )

theorem execTwAttention_keeps {t : Nat} {outcome : Nat} {s : State} (h : Bounds s) :
    ∀ u, execTwAttention t outcome s = .next u → Bounds u := by
  intro u hu
  unfold execTwAttention at hu
  refine timed_keeps ?_ hu h
  clear hu h
  intro s h
  repeat' (first
    | with_reducible assumption
    | extract_lets +onlyGivenNames x
    | with_reducible apply attempt_keeps
    | with_reducible apply keeps_ite
    )

theorem execTwAttnRetry_keeps {t : Nat} {outcome : Nat} {s : State} (h : Bounds s) :
    ∀ u, execTwAttnRetry t outcome s = .next u → Bounds u := by
  intro u hu
  unfold execTwAttnRetry at hu
  refine timed_keeps ?_ hu h
  clear hu h
  intro s h
  repeat' (first
    | with_reducible assumption
    | extract_lets +onlyGivenNames x
    | with_reducible apply attempt_keeps
    | with_reducible apply keeps_ite
    )

theorem execTwSvcStatus_keeps {t : Nat} {m : Nat} {s : State} (h : Bounds s) :
    ∀ u, execTwSvcStatus t m s = .next u → Bounds u := by
  intro u hu
  unfold execTwSvcStatus at hu
  refine timed_keeps ?_ hu h
  clear hu h
  intro s h
  repeat' (first
    | with_reducible assumption
    | (intro y)
    | extract_lets +onlyGivenNames x
    | with_reducible apply statusHandler_keeps
    | with_reducible apply serve_keeps
    )

theorem setAcc_keeps {g : TwAcc → TwAcc} {s : State} (h : Bounds s) :
    Bounds (setAcc g s) := by
  unfold setAcc
  repeat' (first
    | with_reducible assumption
    | extract_lets +onlyGivenNames x
    | (simp only [↓bounds_mk]; refine keeps_of ?_ rfl rfl rfl rfl rfl rfl rfl)
    )

theorem execTwBusClear_keeps {t : Nat} {high : Option Nat} {s : State} (h : Bounds s) :
    ∀ u, execTwBusClear t high s = .next u → Bounds u := by
  intro u hu
  unfold execTwBusClear at hu
  refine timed_keeps ?_ hu h
  clear hu h
  intro s h
  repeat' (first
    | with_reducible assumption
    | (extract_lets +onlyGivenNames x; refine keeps_have (P := Bounds x) ?_ ?_; rotate_left; clear_value x; intro hx; rotate_left; unfold x; clear x)
    | extract_lets +onlyGivenNames x
    | with_reducible apply setAcc_keeps
    | with_reducible apply record_keeps
    | with_reducible apply emit_keeps
    | with_reducible apply keeps_ite
    )

theorem xferHandler_keeps {nack : Option Nat} {stretch : Nat} {rd : List Byte} {r : Request} {s : State} (h : Bounds s) :
    Bounds (xferHandler nack stretch rd r s).2 := by
  unfold xferHandler
  repeat' (first
    | with_reducible assumption
    | (extract_lets +onlyGivenNames x; refine keeps_have (P := Bounds x) ?_ ?_; rotate_left; clear_value x; intro hx; rotate_left; unfold x; clear x)
    | extract_lets +onlyGivenNames x
    | with_reducible apply setAcc_keeps
    | with_reducible apply answerWith_keeps
    | with_reducible apply emit_keeps
    | with_reducible apply refuse_keeps
    | with_reducible apply keeps_ite2
    | split
    )

theorem execTwAccXfer_keeps {t : Nat} {m : Nat} {nack : Option Nat} {stretch : Nat} {rd : List Byte} {s : State} (h : Bounds s) :
    ∀ u, execTwAccXfer t m nack stretch rd s = .next u → Bounds u := by
  intro u hu
  unfold execTwAccXfer at hu
  refine timed_keeps ?_ hu h
  clear hu h
  intro s h
  repeat' (first
    | with_reducible assumption
    | (intro y)
    | extract_lets +onlyGivenNames x
    | with_reducible apply xferHandler_keeps
    | with_reducible apply serve_keeps
    )

theorem execTwAccStatus_keeps {t : Nat} {m : Nat} {s : State} (h : Bounds s) :
    ∀ u, execTwAccStatus t m s = .next u → Bounds u := by
  intro u hu
  unfold execTwAccStatus at hu
  refine timed_keeps ?_ hu h
  clear hu h
  intro s h
  repeat' (first
    | with_reducible assumption
    | (intro y)
    | extract_lets +onlyGivenNames x
    | with_reducible apply statusHandler_keeps
    | with_reducible apply serve_keeps
    )

theorem balStopLapses_keeps {s : State} (h : Bounds s) :
    Bounds (balStopLapses s) := by
  unfold balStopLapses
  repeat' (first
    | with_reducible assumption
    | extract_lets +onlyGivenNames x
    | with_reducible apply setFn_keeps
    | with_reducible apply finishJob_keeps
    | with_reducible apply keeps_ite
    | (simp only [↓bounds_mk]; refine keeps_of ?_ rfl rfl rfl rfl rfl rfl rfl)
    )

theorem stopNow_keeps {f : Nat} {s : State} (h : Bounds s) :
    Bounds (stopNow f s) := by
  unfold stopNow
  repeat' (first
    | with_reducible assumption
    | (extract_lets +onlyGivenNames x; refine keeps_have (P := Bounds x) ?_ ?_; rotate_left; clear_value x; intro hx; rotate_left; unfold x; clear x)
    | extract_lets +onlyGivenNames x
    | with_reducible apply flushCrossings_keeps
    | with_reducible apply balStopLapses_keeps
    | with_reducible apply haltFunction_keeps
    | with_reducible apply setFn_keeps
    | with_reducible apply keeps_ite
    | (simp only [↓bounds_mk]; refine keeps_of ?_ rfl rfl rfl rfl rfl rfl rfl)
    | split
    )

theorem stopLater_keeps {m : Nat} {f : Nat} {s : State} (h : Bounds s) :
    Bounds (stopLater m f s) := by
  unfold stopLater
  repeat' (first
    | with_reducible assumption
    | with_reducible apply setFn_keeps
    )

theorem stopHandler_keeps {m : Nat} {f : Nat} {a2 : Request} {a3 : State} (h : Bounds a3) :
    Bounds (stopHandler m f a2 a3).2 := by
  unfold stopHandler
  repeat' (first
    | with_reducible assumption
    | (intro y)
    | (extract_lets +onlyGivenNames x; refine keeps_have (P := Bounds x) ?_ ?_; rotate_left; clear_value x; intro hx; rotate_left; unfold x; clear x)
    | extract_lets +onlyGivenNames x
    | with_reducible apply stopNow_keeps
    | with_reducible apply stepEnded_keeps
    | with_reducible apply stopLater_keeps
    | with_reducible apply haltFunction_keeps
    | with_reducible apply refuse_keeps
    | with_reducible apply ok_keeps
    | with_reducible apply withLength_keeps
    | with_reducible apply keeps_ite2
    | (simp only [↓bounds_mk]; refine keeps_of ?_ rfl rfl rfl rfl rfl rfl rfl)
    | split
    )

theorem execStop_keeps {t : Nat} {m : Nat} {s : State} (h : Bounds s) :
    ∀ u, execStop t m s = .next u → Bounds u := by
  intro u hu
  unfold execStop at hu
  refine timed_keeps ?_ hu h
  clear hu h
  intro s h
  repeat' (first
    | with_reducible assumption
    | (intro y)
    | extract_lets +onlyGivenNames x
    | with_reducible apply stopHandler_keeps
    | with_reducible apply serveCommon_keeps
    )

theorem putParam_keeps {id : Nat} {v : Int} {s : State} (h : Bounds s) :
    Bounds (putParam id v s) := by
  unfold putParam
  repeat' (first
    | with_reducible assumption
    | extract_lets +onlyGivenNames x
    | (simp only [↓bounds_mk]; refine keeps_of ?_ rfl rfl rfl rfl rfl rfl rfl)
    )

theorem writeSet_keeps {k : Nat} {vals : List (Nat × Int)} {s : State} (h : Bounds s) :
    Bounds (writeSet k vals s) := by
  unfold writeSet
  repeat' (first
    | with_reducible assumption
    | extract_lets +onlyGivenNames x
    | (simp only [↓bounds_mk]; refine keeps_of ?_ rfl rfl rfl rfl rfl rfl rfl)
    )

theorem putStaged_keeps {f : Nat} {s : State} (h : Bounds s) :
    Bounds (putStaged f s) := by
  unfold putStaged
  repeat' (first
    | with_reducible assumption
    | (intro y)
    | (extract_lets +onlyGivenNames x; refine keeps_have (P := Bounds x) ?_ ?_; rotate_left; clear_value x; intro hx; rotate_left; unfold x; clear x)
    | extract_lets +onlyGivenNames x
    | with_reducible apply writeSet_keeps
    | with_reducible apply putParam_keeps
    | with_reducible apply eachDo_keeps
    | with_reducible apply keeps_ite
    )

theorem storeParams_keeps {s : State} (h : Bounds s) :
    Bounds (storeParams s) := by
  unfold storeParams
  repeat' (first
    | with_reducible assumption
    | extract_lets +onlyGivenNames x
    | with_reducible apply keeps_ite
    | (simp only [↓bounds_mk]; refine keeps_of ?_ rfl rfl rfl rfl rfl rfl rfl)
    )

theorem forgetSenders_keeps {old : State} {s : State} (h0 : Bounds old) (h1 : Bounds s) :
    Bounds (forgetSenders old s) := by
  unfold forgetSenders
  repeat' (first
    | with_reducible assumption
    | extract_lets +onlyGivenNames x
    | (simp only [↓bounds_mk]; refine keeps_of ?_ rfl rfl rfl rfl rfl rfl rfl)
    )

theorem follow_keeps {f : Nat} {m : Nat} {old : State} {s : State} (h2 : Bounds old) (h3 : Bounds s) :
    Bounds (follow f m old s) := by
  unfold follow
  repeat' (first
    | with_reducible assumption
    | (extract_lets +onlyGivenNames x; refine keeps_have (P := Bounds x) ?_ ?_; rotate_left; clear_value x; intro hx; rotate_left; unfold x; clear x)
    | extract_lets +onlyGivenNames x
    | with_reducible apply forgetSenders_keeps
    | with_reducible apply gatesOff_keeps
    | with_reducible apply judgeEff_keeps
    | with_reducible apply formKits_keeps
    | with_reducible apply updateCeil_keeps
    | with_reducible apply judgeChem_keeps
    | with_reducible apply judgeSpectrum_keeps
    | with_reducible apply applyThresholds_keeps
    | with_reducible apply markChanged_keeps
    | with_reducible apply keeps_ite
    | (simp only [↓bounds_mk]; refine keeps_of ?_ rfl rfl rfl rfl rfl rfl rfl)
    | split
    )

theorem applyStaged_keeps {f : Nat} {m : Nat} {s : State} (h : Bounds s) :
    Bounds (applyStaged f m s) := by
  unfold applyStaged
  repeat' (first
    | with_reducible assumption
    | (extract_lets +onlyGivenNames x; refine keeps_have (P := Bounds x) ?_ ?_; rotate_left; clear_value x; intro hx; rotate_left; unfold x; clear x)
    | extract_lets +onlyGivenNames x
    | with_reducible apply record_keeps
    | with_reducible apply storeParams_keeps
    | with_reducible apply putStaged_keeps
    | with_reducible apply setFn_keeps
    | with_reducible apply follow_keeps
    | with_reducible apply keeps_ite
    )

theorem noteCommit_keeps {f : Nat} {r : Reply} {s : State} (h : Bounds s) :
    Bounds (noteCommit f r s) := by
  unfold noteCommit
  repeat' (first
    | with_reducible assumption
    | with_reducible apply setFn_keeps
    )

theorem refuseCommit_keeps {f : Nat} {r : Reply} {s : State} (h : Bounds s) :
    Bounds (refuseCommit f r s).2 := by
  unfold refuseCommit
  repeat' (first
    | with_reducible assumption
    | extract_lets +onlyGivenNames x
    | with_reducible apply noteCommit_keeps
    | with_reducible apply refuse_keeps
    )

theorem startFunction_keeps {f : Nat} {m : Nat} {s : State} (h : Bounds s) :
    Bounds (startFunction f m s).2 := by
  unfold startFunction
  repeat' (first
    | with_reducible assumption
    | (extract_lets +onlyGivenNames x; refine keeps_have (P := Bounds x) ?_ ?_; rotate_left; clear_value x; intro hx; rotate_left; unfold x; clear x)
    | extract_lets +onlyGivenNames x
    | with_reducible apply ok_keeps
    | with_reducible apply setPeriodic_keeps
    | with_reducible apply setFn_keeps
    | with_reducible apply resumeFunction_keeps
    | with_reducible apply keeps_ite2
    | (simp only [↓bounds_mk]; refine keeps_of ?_ rfl rfl rfl rfl rfl rfl rfl)
    )

theorem restartHandler_keeps {m : Nat} {f : Nat} {a2 : Request} {a3 : State} (h : Bounds a3) :
    Bounds (restartHandler m f a2 a3).2 := by
  unfold restartHandler
  repeat' (first
    | with_reducible assumption
    | (intro y)
    | extract_lets +onlyGivenNames x
    | with_reducible apply applyStaged_keeps
    | with_reducible apply noteCommit_keeps
    | with_reducible apply startFunction_keeps
    | with_reducible apply refuseCommit_keeps
    | with_reducible apply withLength_keeps
    | with_reducible apply keeps_ite2
    | split
    )

theorem execRestart_keeps {t : Nat} {m : Nat} {s : State} (h : Bounds s) :
    ∀ u, execRestart t m s = .next u → Bounds u := by
  intro u hu
  unfold execRestart at hu
  refine timed_keeps ?_ hu h
  clear hu h
  intro s h
  repeat' (first
    | with_reducible assumption
    | (intro y)
    | extract_lets +onlyGivenNames x
    | with_reducible apply restartHandler_keeps
    | with_reducible apply serveCommon_keeps
    )

theorem commitFunction_keeps {m : Nat} {f : Nat} {s : State} (h : Bounds s) :
    Bounds (commitFunction m f s).2 := by
  unfold commitFunction
  repeat' (first
    | with_reducible assumption
    | extract_lets +onlyGivenNames x
    | with_reducible apply applyStaged_keeps
    | with_reducible apply noteCommit_keeps
    | with_reducible apply ok_keeps
    | with_reducible apply refuseCommit_keeps
    | with_reducible apply keeps_ite2
    | split
    )

theorem execCommit_keeps {t : Nat} {m : Nat} {s : State} (h : Bounds s) :
    ∀ u, execCommit t m s = .next u → Bounds u := by
  intro u hu
  unfold execCommit at hu
  refine timed_keeps ?_ hu h
  clear hu h
  intro s h
  repeat' (first
    | with_reducible assumption
    | (intro y)
    | extract_lets +onlyGivenNames x
    | with_reducible apply commitFunction_keeps
    | with_reducible apply refuse_keeps
    | with_reducible apply withLength_keeps
    | with_reducible apply serve_keeps
    | with_reducible apply keeps_ite2
    )

end Sys2Proof.Machine
end

