-- ==== Sys2Proof/Laws/Dispatch.lean ====
section
/-!
SUPPORT. Laws/Dispatch.lean: what a step does with the command in front, and the meaning each command's arm calls.
-/

namespace Sys2Proof.Machine

open Sys2Proof

theorem exec_clockFault (t : Nat) (ppm : Nat) (held : Nat) (s : State) :
    exec (.clockFault t ppm held) s = execClockFault t ppm held s := rfl

theorem exec_crossingTimeout (t : Nat) (src : Nat) (dst : Nat) (waited : Nat) (s : State) :
    exec (.crossingTimeout t src dst waited) s = execCrossingTimeout t src dst waited s := rfl

theorem exec_islandSleep (t : Nat) (k : Nat) (next : Option Nat) (busy : Bool) (rail : Option Nat) (s : State) :
    exec (.islandSleep t k next busy rail) s = execIslandSleep t k next busy rail s := rfl

theorem exec_islandWake (t : Nat) (k : Nat) (s : State) :
    exec (.islandWake t k) s = execIslandWake t k s := rfl

theorem exec_triggerFire (t : Nat) (n : Nat) (s : State) :
    exec (.triggerFire t n) s = execTriggerFire t n s := rfl

theorem exec_sweepMark (t : Nat) (shunt2 : Option Int) (hall2 : Option Int) (s : State) :
    exec (.sweepMark t shunt2 hall2) s = execSweepMark t shunt2 hall2 s := rfl

theorem exec_markReceived (t : Nat) (i : Nat) (rev : Bool) (volts : List (Option Int)) (temps : List (Option Int)) (loopLow : Bool) (grid : List (List Int)) (s : State) :
    exec (.markReceived t i rev volts temps loopLow grid) s = execMarkReceived t i rev volts temps loopLow grid s := rfl

theorem exec_tapSlotSend (t : Nat) (i : Nat) (quiet : Bool) (s : State) :
    exec (.tapSlotSend t i quiet) s = execTapSlotSend t i quiet s := rfl

theorem exec_sweepDataReceive (t : Nat) (r : Nat) (high : Bool) (f : List Byte) (s : State) :
    exec (.sweepDataReceive t r high f) s = execSweepDataReceive t r high f s := rfl

theorem exec_commandWindow (t : Nat) (r : Nat) (s : State) :
    exec (.commandWindow t r) s = execCommandWindow t r s := rfl

theorem exec_enumeration (t : Nat) (r : Nat) (o : RingObs) (lost : List Nat) (s : State) :
    exec (.enumeration t r o lost) s = execEnumeration t r o lost s := rfl

theorem exec_delayTableRefresh (t : Nat) (r : Nat) (rts : List (Option Nat × Option Nat)) (s : State) :
    exec (.delayTableRefresh t r rts) s = execDelayTableRefresh t r rts s := rfl

theorem exec_ringBreak (t : Nat) (r : Nat) (waited : Nat) (isMark : Bool) (s : State) :
    exec (.ringBreak t r waited isMark) s = execRingBreak t r waited isMark s := rfl

theorem exec_collectPollTimeout (t : Nat) (r : Nat) (high : Bool) (h : Nat) (waited : Nat) (s : State) :
    exec (.collectPollTimeout t r high h waited) s = execCollectPollTimeout t r high h waited s := rfl

theorem exec_sweepStretched (t : Nat) (r : Nat) (s : State) :
    exec (.sweepStretched t r) s = execSweepStretched t r s := rfl

theorem exec_splitRestoreTest (t : Nat) (r : Nat) (clean : Bool) (s : State) :
    exec (.splitRestoreTest t r clean) s = execSplitRestoreTest t r clean s := rfl

theorem exec_returnToThrough (t : Nat) (r : Nat) (loop : Nat) (rts : List (Option Nat × Option Nat)) (s : State) :
    exec (.returnToThrough t r loop rts) s = execReturnToThrough t r loop rts s := rfl

theorem exec_fltTestDue (t : Nat) (r : Nat) (dip : Option Nat) (s : State) :
    exec (.fltTestDue t r dip) s = execFltTestDue t r dip s := rfl

theorem exec_tapStatusPoll (t : Nat) (i : Nat) (s : State) :
    exec (.tapStatusPoll t i) s = execTapStatusPoll t i s := rfl

theorem exec_cellComparatorTrip (t : Nat) (i : Nat) (c : Nat) (ov : Bool) (v : Int) (held : Nat) (s : State) :
    exec (.cellComparatorTrip t i c ov v held) s = execCellComparatorTrip t i c ov v held s := rfl

theorem exec_clkLockLost (t : Nat) (i : Nat) (s : State) :
    exec (.clkLockLost t i) s = execClkLockLost t i s := rfl

theorem exec_tapSleep (t : Nat) (i : Nat) (quiet : Nat) (s : State) :
    exec (.tapSleep t i quiet) s = execTapSleep t i quiet s := rfl

theorem exec_slowSweep (t : Nat) (rts : List (List (Option Nat × Option Nat))) (frames : List (Nat × Bool × List Byte)) (tc : List (Option Int)) (shunt2 : Option Int) (hall2 : Option Int) (s : State) :
    exec (.slowSweep t rts frames tc shunt2 hall2) s = execSlowSweep t rts frames tc shunt2 hall2 s := rfl

theorem exec_sweepPeriodChange (t : Nat) (s : State) :
    exec (.sweepPeriodChange t) s = execSweepPeriodChange t s := rfl

theorem exec_nop (t : Nat) (q : TapReq) (s : State) :
    exec (.nop t q) s = execNop t q s := rfl

theorem exec_tapIdentify (t : Nat) (q : TapReq) (s : State) :
    exec (.tapIdentify t q) s = execTapIdentify t q s := rfl

theorem exec_echo (t : Nat) (q : TapReq) (s : State) :
    exec (.echo t q) s = execEcho t q s := rfl

theorem exec_setDelay (t : Nat) (q : TapReq) (s : State) :
    exec (.setDelay t q) s = execSetDelay t q s := rfl

theorem exec_setThresh (t : Nat) (q : TapReq) (s : State) :
    exec (.setThresh t q) s = execSetThresh t q s := rfl

theorem exec_setMarkCount (t : Nat) (q : TapReq) (s : State) :
    exec (.setMarkCount t q) s = execSetMarkCount t q s := rfl

theorem exec_readStatus (t : Nat) (q : TapReq) (loopMa : Nat) (supply : Option Int) (quiet : Bool) (s : State) :
    exec (.readStatus t q loopMa supply quiet) s = execReadStatus t q loopMa supply quiet s := rfl

theorem exec_clearTrip (t : Nat) (q : TapReq) (volts : List (Option Int)) (s : State) :
    exec (.clearTrip t q volts) s = execClearTrip t q volts s := rfl

theorem exec_fltTest (t : Nat) (q : TapReq) (dip : Option Nat) (s : State) :
    exec (.fltTest t q dip) s = execFltTest t q dip s := rfl

theorem exec_tapReset (t : Nat) (q : TapReq) (leads : List Nat) (testFail : Bool) (calFail : Bool) (s : State) :
    exec (.tapReset t q leads testFail calFail) s = execTapReset t q leads testFail calFail s := rfl

theorem exec_ptProbe (t : Nat) (q : TapReq) (rt : Option Nat) (s : State) :
    exec (.ptProbe t q rt) s = execPtProbe t q rt s := rfl

theorem exec_setCollect (t : Nat) (q : TapReq) (s : State) :
    exec (.setCollect t q) s = execSetCollect t q s := rfl

theorem exec_collect (t : Nat) (q : TapReq) (quiet : Bool) (s : State) :
    exec (.collect t q quiet) s = execCollect t q quiet s := rfl

theorem exec_ringMap (t : Nat) (m : Nat) (s : State) :
    exec (.ringMap t m) s = execRingMap t m s := rfl

theorem exec_ringRestore (t : Nat) (m : Nat) (s : State) :
    exec (.ringRestore t m) s = execRingRestore t m s := rfl

theorem exec_reEnumerate (t : Nat) (m : Nat) (a : RingObs) (b : RingObs) (s : State) :
    exec (.reEnumerate t m a b) s = execReEnumerate t m a b s := rfl

theorem exec_fltTestNow (t : Nat) (m : Nat) (dips : List (List (Option Nat))) (s : State) :
    exec (.fltTestNow t m dips) s = execFltTestNow t m dips s := rfl

theorem exec_clearTrips (t : Nat) (m : Nat) (volts : List (List (Option Int))) (s : State) :
    exec (.clearTrips t m volts) s = execClearTrips t m volts s := rfl

theorem exec_readSweep (t : Nat) (m : Nat) (s : State) :
    exec (.readSweep t m) s = execReadSweep t m s := rfl

theorem exec_balRenew (t : Nat) (s : State) :
    exec (.balRenew t) s = execBalRenew t s := rfl

theorem exec_balLease (t : Nat) (q : TapReq) (temp : Int) (s : State) :
    exec (.balLease t q temp) s = execBalLease t q temp s := rfl

theorem exec_balStop (t : Nat) (q : TapReq) (s : State) :
    exec (.balStop t q) s = execBalStop t q s := rfl

theorem exec_balMode (t : Nat) (q : TapReq) (s : State) :
    exec (.balMode t q) s = execBalMode t q s := rfl

theorem exec_balLeaseExpiry (t : Nat) (i : Nat) (k : Nat) (s : State) :
    exec (.balLeaseExpiry t i k) s = execBalLeaseExpiry t i k s := rfl

theorem exec_balConverterOvertemp (t : Nat) (i : Nat) (temp : Int) (s : State) :
    exec (.balConverterOvertemp t i temp) s = execBalConverterOvertemp t i temp s := rfl

theorem exec_balGatedSuspend (t : Nat) (i : Nat) (s : State) :
    exec (.balGatedSuspend t i) s = execBalGatedSuspend t i s := rfl

theorem exec_balResume (t : Nat) (i : Nat) (s : State) :
    exec (.balResume t i) s = execBalResume t i s := rfl

theorem exec_balStatus (t : Nat) (m : Nat) (s : State) :
    exec (.balStatus t m) s = execBalStatus t m s := rfl

theorem exec_balTotals (t : Nat) (m : Nat) (s : State) :
    exec (.balTotals t m) s = execBalTotals t m s := rfl

theorem exec_balForce (t : Nat) (m : Nat) (s : State) :
    exec (.balForce t m) s = execBalForce t m s := rfl

theorem exec_balForceEnd (t : Nat) (c : Nat) (s : State) :
    exec (.balForceEnd t c) s = execBalForceEnd t c s := rfl

theorem exec_balRelease (t : Nat) (m : Nat) (s : State) :
    exec (.balRelease t m) s = execBalRelease t m s := rfl

theorem exec_estUpdatePeriod (t : Nat) (errs : List Nat) (s : State) :
    exec (.estUpdatePeriod t errs) s = execEstUpdatePeriod t errs s := rfl

theorem exec_ctxSave (t : Nat) (s : State) :
    exec (.ctxSave t) s = execCtxSave t s := rfl

theorem exec_ctxRead (t : Nat) (m : Nat) (s : State) :
    exec (.ctxRead t m) s = execCtxRead t m s := rfl

theorem exec_ctxSummary (t : Nat) (m : Nat) (s : State) :
    exec (.ctxSummary t m) s = execCtxSummary t m s := rfl

theorem exec_ctxReinit (t : Nat) (m : Nat) (s : State) :
    exec (.ctxReinit t m) s = execCtxReinit t m s := rfl

theorem exec_ctxCells (t : Nat) (m : Nat) (s : State) :
    exec (.ctxCells t m) s = execCtxCells t m s := rfl

theorem exec_capSet (t : Nat) (m : Nat) (s : State) :
    exec (.capSet t m) s = execCapSet t m s := rfl

theorem exec_chemRead (t : Nat) (m : Nat) (s : State) :
    exec (.chemRead t m) s = execChemRead t m s := rfl

theorem exec_chemWrite (t : Nat) (m : Nat) (s : State) :
    exec (.chemWrite t m) s = execChemWrite t m s := rfl

theorem exec_ctxClearFlags (t : Nat) (m : Nat) (s : State) :
    exec (.ctxClearFlags t m) s = execCtxClearFlags t m s := rfl

theorem exec_impLeadStart (t : Nat) (s : State) :
    exec (.impLeadStart t) s = execImpLeadStart t s := rfl

theorem exec_impWindowStart (t : Nat) (s : State) :
    exec (.impWindowStart t) s = execImpWindowStart t s := rfl

theorem exec_impWindowEnd (t : Nat) (xs : List Int) (s : State) :
    exec (.impWindowEnd t xs) s = execImpWindowEnd t xs s := rfl

theorem exec_impSetup (t : Nat) (q : TapReq) (s : State) :
    exec (.impSetup t q) s = execImpSetup t q s := rfl

theorem exec_impWindow (t : Nat) (q : TapReq) (s : State) :
    exec (.impWindow t q) s = execImpWindow t q s := rfl

theorem exec_impRead (t : Nat) (q : TapReq) (s : State) :
    exec (.impRead t q) s = execImpRead t q s := rfl

theorem exec_tapImpLineLoss (t : Nat) (i : Nat) (quiet : Nat) (s : State) :
    exec (.tapImpLineLoss t i quiet) s = execTapImpLineLoss t i quiet s := rfl

theorem exec_impStatus (t : Nat) (m : Nat) (s : State) :
    exec (.impStatus t m) s = execImpStatus t m s := rfl

theorem exec_impResults (t : Nat) (m : Nat) (s : State) :
    exec (.impResults t m) s = execImpResults t m s := rfl

theorem exec_impSpectrumNow (t : Nat) (m : Nat) (s : State) :
    exec (.impSpectrumNow t m) s = execImpSpectrumNow t m s := rfl

theorem exec_phaseCurrentCycle (t : Nat) (shunt : Option Int) (hall : Option Int) (lanes : List (List Byte)) (vStr : Option Int) (vLnk : Option Int) (s : State) :
    exec (.phaseCurrentCycle t shunt hall lanes vStr vLnk) s = execPhaseCurrentCycle t shunt hall lanes vStr vLnk s := rfl

theorem exec_stringLoopCycle (t : Nat) (vStr : Option Int) (vLnk : Option Int) (s : State) :
    exec (.stringLoopCycle t vStr vLnk) s = execStringLoopCycle t vStr vLnk s := rfl

theorem exec_roleCSweep (t : Nat) (s : State) :
    exec (.roleCSweep t) s = execRoleCSweep t s := rfl

theorem exec_containerLoop (t : Nat) (tc : List (Option Int)) (s : State) :
    exec (.containerLoop t tc) s = execContainerLoop t tc s := rfl

theorem exec_roleDeadline (t : Nat) (x : Nat) (late : List Nat) (shadowLate : Bool) (differ : Bool) (s : State) :
    exec (.roleDeadline t x late shadowLate differ) s = execRoleDeadline t x late shadowLate differ s := rfl

theorem exec_engineSelfTestDone (t : Nat) (e : Nat) (pass : Bool) (s : State) :
    exec (.engineSelfTestDone t e pass) s = execEngineSelfTestDone t e pass s := rfl

theorem exec_roleRotation (t : Nat) (s : State) :
    exec (.roleRotation t) s = execRoleRotation t s := rfl

theorem exec_followingError (t : Nat) (s : State) :
    exec (.followingError t) s = execFollowingError t s := rfl

theorem exec_sensorDisagree (t : Nat) (shunt : Int) (hall : Int) (sum : Option Int) (held : Nat) (s : State) :
    exec (.sensorDisagree t shunt hall sum held) s = execSensorDisagree t shunt hall sum held s := rfl

theorem exec_sensorFrozen (t : Nat) (x : Nat) (spread : Nat) (cycles : Nat) (duty : Nat) (fault : Bool) (s : State) :
    exec (.sensorFrozen t x spread cycles duty fault) s = execSensorFrozen t x spread cycles duty fault s := rfl

theorem exec_currentFeedbackLost (t : Nat) (s : State) :
    exec (.currentFeedbackLost t) s = execCurrentFeedbackLost t s := rfl

theorem exec_sensorRecover (t : Nat) (x : Nat) (passed : Nat) (agrees : Bool) (s : State) :
    exec (.sensorRecover t x passed agrees) s = execSensorRecover t x passed agrees s := rfl

theorem exec_ctrlStatus (t : Nat) (m : Nat) (s : State) :
    exec (.ctrlStatus t m) s = execCtrlStatus t m s := rfl

theorem exec_ctrlEngines (t : Nat) (m : Nat) (s : State) :
    exec (.ctrlEngines t m) s = execCtrlEngines t m s := rfl

theorem exec_ctrlEngineReturn (t : Nat) (m : Nat) (pass : Bool) (s : State) :
    exec (.ctrlEngineReturn t m pass) s = execCtrlEngineReturn t m pass s := rfl

theorem exec_ctrlRotateNow (t : Nat) (m : Nat) (s : State) :
    exec (.ctrlRotateNow t m) s = execCtrlRotateNow t m s := rfl

theorem exec_sensorRestore (t : Nat) (m : Nat) (s : State) :
    exec (.sensorRestore t m) s = execSensorRestore t m s := rfl

theorem exec_winTotals (t : Nat) (m : Nat) (s : State) :
    exec (.winTotals t m) s = execWinTotals t m s := rfl

theorem exec_valleyReached (t : Nat) (n : Nat) (bits : List Bool) (age : Nat) (s : State) :
    exec (.valleyReached t n bits age) s = execValleyReached t n bits age s := rfl

theorem exec_limitHit (t : Nat) (n : Nat) (bits : List Bool) (age : Nat) (s : State) :
    exec (.limitHit t n bits age) s = execLimitHit t n bits age s := rfl

theorem exec_cycleGroupBoundary (t : Nat) (s : State) :
    exec (.cycleGroupBoundary t) s = execCycleGroupBoundary t s := rfl

theorem exec_interleaveLimit (t : Nat) (n : Nat) (s : State) :
    exec (.interleaveLimit t n) s = execInterleaveLimit t n s := rfl

theorem exec_burstEntry (t : Nat) (s : State) :
    exec (.burstEntry t) s = execBurstEntry t s := rfl

theorem exec_burstFrame (t : Nat) (s : State) :
    exec (.burstFrame t) s = execBurstFrame t s := rfl

theorem exec_softStart (t : Nat) (vStr : Int) (vLnk : Int) (s : State) :
    exec (.softStart t vStr vLnk) s = execSoftStart t vStr vLnk s := rfl

theorem exec_softStartRetry (t : Nat) (vStr : Int) (vLnk : Int) (s : State) :
    exec (.softStartRetry t vStr vLnk) s = execSoftStartRetry t vStr vLnk s := rfl

theorem exec_sidebandFrame (t : Nat) (s : State) :
    exec (.sidebandFrame t) s = execSidebandFrame t s := rfl

theorem exec_gateStatusFrame (t : Nat) (n : Nat) (b : List Byte) (s : State) :
    exec (.gateStatusFrame t n b) s = execGateStatusFrame t n b s := rfl

theorem exec_laneTrain (t : Nat) (n : Nat) (s : State) :
    exec (.laneTrain t n) s = execLaneTrain t n s := rfl

theorem exec_laneDown (t : Nat) (n : Nat) (quiet : Nat) (noStatus : Nat) (b : List Byte) (s : State) :
    exec (.laneDown t n quiet noStatus b) s = execLaneDown t n quiet noStatus b s := rfl

theorem exec_laneTimeoutOff (t : Nat) (n : Nat) (quiet : Nat) (s : State) :
    exec (.laneTimeoutOff t n quiet) s = execLaneTimeoutOff t n quiet s := rfl

theorem exec_driverDesat (t : Nat) (n : Nat) (hs : Bool) (s : State) :
    exec (.driverDesat t n hs) s = execDriverDesat t n hs s := rfl

theorem exec_modStatus (t : Nat) (m : Nat) (s : State) :
    exec (.modStatus t m) s = execModStatus t m s := rfl

theorem exec_laneStatus (t : Nat) (m : Nat) (s : State) :
    exec (.laneStatus t m) s = execLaneStatus t m s := rfl

theorem exec_dtTableRead (t : Nat) (m : Nat) (s : State) :
    exec (.dtTableRead t m) s = execDtTableRead t m s := rfl

theorem exec_dtTableWrite (t : Nat) (m : Nat) (s : State) :
    exec (.dtTableWrite t m) s = execDtTableWrite t m s := rfl

theorem exec_laneRetrain (t : Nat) (m : Nat) (s : State) :
    exec (.laneRetrain t m) s = execLaneRetrain t m s := rfl

theorem exec_spSet (t : Nat) (m : Nat) (s : State) :
    exec (.spSet t m) s = execSpSet t m s := rfl

theorem exec_setpointApply (t : Nat) (s : State) :
    exec (.setpointApply t) s = execSetpointApply t s := rfl

theorem exec_dispatchWatchdog (t : Nat) (s : State) :
    exec (.dispatchWatchdog t) s = execDispatchWatchdog t s := rfl

theorem exec_spCancel (t : Nat) (m : Nat) (s : State) :
    exec (.spCancel t m) s = execSpCancel t m s := rfl

theorem exec_spQueueRead (t : Nat) (m : Nat) (s : State) :
    exec (.spQueueRead t m) s = execSpQueueRead t m s := rfl

theorem exec_dispatchStatus (t : Nat) (m : Nat) (s : State) :
    exec (.dispatchStatus t m) s = execDispatchStatus t m s := rfl

theorem exec_spSilent (t : Nat) (held : Nat) (s : State) :
    exec (.spSilent t held) s = execSpSilent t held s := rfl

theorem exec_domeFault (t : Nat) (held : Nat) (s : State) :
    exec (.domeFault t held) s = execDomeFault t held s := rfl

theorem exec_domeDemand (t : Nat) (s : State) :
    exec (.domeDemand t) s = execDomeDemand t s := rfl

theorem exec_sweepCheck (t : Nat) (s : State) :
    exec (.sweepCheck t) s = execSweepCheck t s := rfl

theorem exec_fltLoopOpen (t : Nat) (loop : Nat) (ma : Nat) (held : Nat) (s : State) :
    exec (.fltLoopOpen t loop ma held) s = execFltLoopOpen t loop ma held s := rfl

theorem exec_fltShort (t : Nat) (loop : Nat) (ma : Nat) (held : Nat) (s : State) :
    exec (.fltShort t loop ma held) s = execFltShort t loop ma held s := rfl

theorem exec_ocFastTrip (t : Nat) (sensor : Nat) (i : Int) (held : Nat) (s : State) :
    exec (.ocFastTrip t sensor i held) s = execOcFastTrip t sensor i held s := rfl

theorem exec_ocSlowTrip (t : Nat) (s : State) :
    exec (.ocSlowTrip t) s = execOcSlowTrip t s := rfl

theorem exec_sf4TAbsent (t : Nat) (c : Nat) (s : State) :
    exec (.sf4TAbsent t c) s = execSf4TAbsent t c s := rfl

theorem exec_siChannelDemand (t : Nat) (i : Nat) (b : Bool) (held : Nat) (s : State) :
    exec (.siChannelDemand t i b held) s = execSiChannelDemand t i b held s := rfl

theorem exec_siChannelRelease (t : Nat) (i : Nat) (b : Bool) (held : Nat) (s : State) :
    exec (.siChannelRelease t i b held) s = execSiChannelRelease t i b held s := rfl

theorem exec_siDiscrepancy (t : Nat) (i : Nat) (s : State) :
    exec (.siDiscrepancy t i) s = execSiDiscrepancy t i s := rfl

theorem exec_tpPulse (t : Nat) (tp : Nat) (low : List Bool) (s : State) :
    exec (.tpPulse t tp low) s = execTpPulse t tp low s := rfl

theorem exec_tripInOpen (t : Nat) (ma : Nat) (held : Nat) (s : State) :
    exec (.tripInOpen t ma held) s = execTripInOpen t ma held s := rfl

theorem exec_sf8DelayEnd (t : Nat) (s : State) :
    exec (.sf8DelayEnd t) s = execSf8DelayEnd t s := rfl

theorem exec_sf9Stale (t : Nat) (s : State) :
    exec (.sf9Stale t) s = execSf9Stale t s := rfl

theorem exec_safeStateOpen (t : Nat) (s : State) :
    exec (.safeStateOpen t) s = execSafeStateOpen t s := rfl

theorem exec_k2OrderGap (t : Nat) (s : State) :
    exec (.k2OrderGap t) s = execK2OrderGap t s := rfl

theorem exec_domeOpen (t : Nat) (s : State) :
    exec (.domeOpen t) s = execDomeOpen t s := rfl

theorem exec_plantStop (t : Nat) (plane : Nat) (b : List Byte) (s : State) :
    exec (.plantStop t plane b) s = execPlantStop t plane b s := rfl

theorem exec_plantStopRelease (t : Nat) (plane : Nat) (b : List Byte) (s : State) :
    exec (.plantStopRelease t plane b) s = execPlantStopRelease t plane b s := rfl

theorem exec_safetyKeepalive (t : Nat) (plane : Nat) (b : List Byte) (s : State) :
    exec (.safetyKeepalive t plane b) s = execSafetyKeepalive t plane b s := rfl

theorem exec_tripNotice (t : Nat) (plane : Nat) (b : List Byte) (s : State) :
    exec (.tripNotice t plane b) s = execTripNotice t plane b s := rfl

theorem exec_safeMsgOrphan (t : Nat) (src : Nat) (seq : Nat) (s : State) :
    exec (.safeMsgOrphan t src seq) s = execSafeMsgOrphan t src seq s := rfl

theorem exec_safeLinkLost (t : Nat) (s : State) :
    exec (.safeLinkLost t) s = execSafeLinkLost t s := rfl

theorem exec_singlePlane (t : Nat) (p : Nat) (s : State) :
    exec (.singlePlane t p) s = execSinglePlane t p s := rfl

theorem exec_sealChanged (t : Nat) (n : Nat) (on : Bool) (s : State) :
    exec (.sealChanged t n on) s = execSealChanged t n on s := rfl

theorem exec_safeStatus (t : Nat) (m : Nat) (s : State) :
    exec (.safeStatus t m) s = execSafeStatus t m s := rfl

theorem exec_safeReset (t : Nat) (m : Nat) (s : State) :
    exec (.safeReset t m) s = execSafeReset t m s := rfl

theorem exec_tripInRecheck (t : Nat) (s : State) :
    exec (.tripInRecheck t) s = execTripInRecheck t s := rfl

theorem exec_safeSetRead (t : Nat) (m : Nat) (s : State) :
    exec (.safeSetRead t m) s = execSafeSetRead t m s := rfl

theorem exec_safeSetConfirm (t : Nat) (m : Nat) (s : State) :
    exec (.safeSetConfirm t m) s = execSafeSetConfirm t m s := rfl

theorem exec_safeCounters (t : Nat) (m : Nat) (s : State) :
    exec (.safeCounters t m) s = execSafeCounters t m s := rfl

theorem exec_localAckExpiry (t : Nat) (s : State) :
    exec (.localAckExpiry t) s = execLocalAckExpiry t s := rfl

theorem exec_kfEdge (t : Nat) (n : Nat) (level : Bool) (vStr : Int) (vLnk : Int) (s : State) :
    exec (.kfEdge t n level vStr vLnk) s = execKfEdge t n level vStr vLnk s := rfl

theorem exec_kDropout (t : Nat) (n : Nat) (held : Nat) (s : State) :
    exec (.kDropout t n held) s = execKDropout t n held s := rfl

theorem exec_kFailClose (t : Nat) (n : Nat) (s : State) :
    exec (.kFailClose t n) s = execKFailClose t n s := rfl

theorem exec_kWelded (t : Nat) (n : Nat) (held : Nat) (s : State) :
    exec (.kWelded t n held) s = execKWelded t n held s := rfl

theorem exec_kPullinEnd (t : Nat) (n : Nat) (s : State) :
    exec (.kPullinEnd t n) s = execKPullinEnd t n s := rfl

theorem exec_outputOvercurrent (t : Nat) (n : Nat) (ma : Nat) (held : Nat) (s : State) :
    exec (.outputOvercurrent t n ma held) s = execOutputOvercurrent t n ma held s := rfl

theorem exec_coilOpen (t : Nat) (n : Nat) (ma : Nat) (held : Nat) (s : State) :
    exec (.coilOpen t n ma held) s = execCoilOpen t n ma held s := rfl

theorem exec_coilSupplyLow (t : Nat) (mv : Nat) (held : Nat) (s : State) :
    exec (.coilSupplyLow t mv held) s = execCoilSupplyLow t mv held s := rfl

theorem exec_outputTestPulse (t : Nat) (n : Nat) (s : State) :
    exec (.outputTestPulse t n) s = execOutputTestPulse t n s := rfl

theorem exec_outputSwitchFault (t : Nat) (n : Nat) (hsMv : Nat) (lsMv : Nat) (s : State) :
    exec (.outputSwitchFault t n hsMv lsMv) s = execOutputSwitchFault t n hsMv lsMv s := rfl

theorem exec_prechargeHalfTau (t : Nat) (vLnk : Int) (s : State) :
    exec (.prechargeHalfTau t vLnk) s = execPrechargeHalfTau t vLnk s := rfl

theorem exec_prechargeThreeTau (t : Nat) (vLnk : Int) (s : State) :
    exec (.prechargeThreeTau t vLnk) s = execPrechargeThreeTau t vLnk s := rfl

theorem exec_preEnergyTick (t : Nat) (vStr : Int) (vLnk : Int) (s : State) :
    exec (.preEnergyTick t vStr vLnk) s = execPreEnergyTick t vStr vLnk s := rfl

theorem exec_k3OverlapEnd (t : Nat) (s : State) :
    exec (.k3OverlapEnd t) s = execK3OverlapEnd t s := rfl

theorem exec_orderlyGatesOff (t : Nat) (s : State) :
    exec (.orderlyGatesOff t) s = execOrderlyGatesOff t s := rfl

theorem exec_outStatus (t : Nat) (m : Nat) (s : State) :
    exec (.outStatus t m) s = execOutStatus t m s := rfl

theorem exec_connect (t : Nat) (m : Nat) (vStr : Int) (vLnk : Int) (s : State) :
    exec (.connect t m vStr vLnk) s = execConnect t m vStr vLnk s := rfl

theorem exec_disconnect (t : Nat) (m : Nat) (s : State) :
    exec (.disconnect t m) s = execDisconnect t m s := rfl

theorem exec_preHistory (t : Nat) (m : Nat) (s : State) :
    exec (.preHistory t m) s = execPreHistory t m s := rfl

theorem exec_preModelReset (t : Nat) (m : Nat) (s : State) :
    exec (.preModelReset t m) s = execPreModelReset t m s := rfl

theorem exec_thermalSample (t : Nat) (ts : List (Option Int)) (s : State) :
    exec (.thermalSample t ts) s = execThermalSample t ts s := rfl

theorem exec_nvmForbidLift (t : Nat) (s : State) :
    exec (.nvmForbidLift t) s = execNvmForbidLift t s := rfl

theorem exec_thermalShutdown (t : Nat) (mask : Nat) (held : Nat) (s : State) :
    exec (.thermalShutdown t mask held) s = execThermalShutdown t mask held s := rfl

theorem exec_thermalResetHold (t : Nat) (s : State) :
    exec (.thermalResetHold t) s = execThermalResetHold t s := rfl

theorem exec_thermalRelease (t : Nat) (below : Nat) (s : State) :
    exec (.thermalRelease t below) s = execThermalRelease t below s := rfl

theorem exec_thermalAutoReconnect (t : Nat) (vStr : Int) (vLnk : Int) (s : State) :
    exec (.thermalAutoReconnect t vStr vLnk) s = execThermalAutoReconnect t vStr vLnk s := rfl

theorem exec_loopFallback (t : Nat) (s : State) :
    exec (.loopFallback t) s = execLoopFallback t s := rfl

theorem exec_loopWatchdog (t : Nat) (s : State) :
    exec (.loopWatchdog t) s = execLoopWatchdog t s := rfl

theorem exec_vlvOpen (t : Nat) (ua : Nat) (held : Nat) (s : State) :
    exec (.vlvOpen t ua held) s = execVlvOpen t ua held s := rfl

theorem exec_thermStatus (t : Nat) (m : Nat) (s : State) :
    exec (.thermStatus t m) s = execThermStatus t m s := rfl

theorem exec_thermManual (t : Nat) (m : Nat) (s : State) :
    exec (.thermManual t m) s = execThermManual t m s := rfl

theorem exec_thermManualEnd (t : Nat) (s : State) :
    exec (.thermManualEnd t) s = execThermManualEnd t s := rfl

theorem exec_thermAuto (t : Nat) (m : Nat) (s : State) :
    exec (.thermAuto t m) s = execThermAuto t m s := rfl

theorem exec_boot (t : Nat) (o : BootObs) (s : State) :
    exec (.boot t o) s = execBoot t o s := rfl

theorem exec_shelfWake (t : Nat) (aux : Nat) (str : Nat) (heldAux : Nat) (heldStr : Nat) (s : State) :
    exec (.shelfWake t aux str heldAux heldStr) s = execShelfWake t aux str heldAux heldStr s := rfl

theorem exec_bootFail (t : Nat) (s : State) :
    exec (.bootFail t) s = execBootFail t s := rfl

theorem exec_wakeAtReached (t : Nat) (s : State) :
    exec (.wakeAtReached t) s = execWakeAtReached t s := rfl

theorem exec_dormantAuto (t : Nat) (s : State) :
    exec (.dormantAuto t) s = execDormantAuto t s := rfl

theorem exec_pwrAuxLoss (t : Nat) (mv : Nat) (held : Nat) (str : Nat) (s : State) :
    exec (.pwrAuxLoss t mv held str) s = execPwrAuxLoss t mv held str s := rfl

theorem exec_pwrAuxReturn (t : Nat) (mv : Nat) (held : Nat) (s : State) :
    exec (.pwrAuxReturn t mv held) s = execPwrAuxReturn t mv held s := rfl

theorem exec_cisternSequence (t : Nat) (str : Nat) (ts8 : Option Int) (s : State) :
    exec (.cisternSequence t str ts8) s = execCisternSequence t str ts8 s := rfl

theorem exec_modeStatus (t : Nat) (m : Nat) (s : State) :
    exec (.modeStatus t m) s = execModeStatus t m s := rfl

theorem exec_enterService (t : Nat) (m : Nat) (s : State) :
    exec (.enterService t m) s = execEnterService t m s := rfl

theorem exec_leaveService (t : Nat) (m : Nat) (s : State) :
    exec (.leaveService t m) s = execLeaveService t m s := rfl

theorem exec_run (t : Nat) (m : Nat) (s : State) :
    exec (.run t m) s = execRun t m s := rfl

theorem exec_hold (t : Nat) (m : Nat) (s : State) :
    exec (.hold t m) s = execHold t m s := rfl

theorem exec_enterDormant (t : Nat) (m : Nat) (s : State) :
    exec (.enterDormant t m) s = execEnterDormant t m s := rfl

theorem exec_wake (t : Nat) (m : Nat) (s : State) :
    exec (.wake t m) s = execWake t m s := rfl

theorem exec_wakeAt (t : Nat) (m : Nat) (s : State) :
    exec (.wakeAt t m) s = execWakeAt t m s := rfl

theorem exec_enterShelf (t : Nat) (m : Nat) (s : State) :
    exec (.enterShelf t m) s = execEnterShelf t m s := rfl

theorem exec_request (t : Nat) (src : Source) (dst : Nat) (env : List Byte) (s : State) :
    exec (.request t src dst env) s = execRequest t src dst env s := rfl

theorem exec_read (t : Nat) (src : Source) (dst : Nat) (env : List Byte) (s : State) :
    exec (.read t src dst env) s = execRead t src dst env s := rfl

theorem exec_ack (t : Nat) (src : Source) (dst : Nat) (env : List Byte) (s : State) :
    exec (.ack t src dst env) s = execAck t src dst env s := rfl

theorem exec_commandDone (t : Nat) (m : Nat) (s : State) :
    exec (.commandDone t m) s = execCommandDone t m s := rfl

theorem exec_mbxIdleRelease (t : Nat) (m : Nat) (s : State) :
    exec (.mbxIdleRelease t m) s = execMbxIdleRelease t m s := rfl

theorem exec_stageTimeout (t : Nat) (f : Nat) (s : State) :
    exec (.stageTimeout t f) s = execStageTimeout t f s := rfl

theorem exec_spireRestart (t : Nat) (s : State) :
    exec (.spireRestart t) s = execSpireRestart t s := rfl

theorem exec_getStatus (t : Nat) (m : Nat) (s : State) :
    exec (.getStatus t m) s = execGetStatus t m s := rfl

theorem exec_stop (t : Nat) (m : Nat) (s : State) :
    exec (.stop t m) s = execStop t m s := rfl

theorem exec_stage (t : Nat) (m : Nat) (s : State) :
    exec (.stage t m) s = execStage t m s := rfl

theorem exec_restart (t : Nat) (m : Nat) (s : State) :
    exec (.restart t m) s = execRestart t m s := rfl

theorem exec_readParam (t : Nat) (m : Nat) (s : State) :
    exec (.readParam t m) s = execReadParam t m s := rfl

theorem exec_discardStaged (t : Nat) (m : Nat) (s : State) :
    exec (.discardStaged t m) s = execDiscardStaged t m s := rfl

theorem exec_identify (t : Nat) (m : Nat) (s : State) :
    exec (.identify t m) s = execIdentify t m s := rfl

theorem exec_getChallenge (t : Nat) (m : Nat) (s : State) :
    exec (.getChallenge t m) s = execGetChallenge t m s := rfl

theorem exec_mbxStatus (t : Nat) (m : Nat) (s : State) :
    exec (.mbxStatus t m) s = execMbxStatus t m s := rfl

theorem exec_mbxRelease (t : Nat) (m : Nat) (s : State) :
    exec (.mbxRelease t m) s = execMbxRelease t m s := rfl

theorem exec_commit (t : Nat) (m : Nat) (s : State) :
    exec (.commit t m) s = execCommit t m s := rfl

theorem exec_keySet (t : Nat) (m : Nat) (s : State) :
    exec (.keySet t m) s = execKeySet t m s := rfl

theorem exec_ownerLock (t : Nat) (m : Nat) (s : State) :
    exec (.ownerLock t m) s = execOwnerLock t m s := rfl

theorem exec_heartbeatSend (t : Nat) (s : State) :
    exec (.heartbeatSend t) s = execHeartbeatSend t s := rfl

theorem exec_heartbeat (t : Nat) (path : Nat) (src : Nat) (ident : Bool) (mism : List Nat) (b : List Byte) (s : State) :
    exec (.heartbeat t path src ident mism b) s = execHeartbeat t path src ident mism b s := rfl

theorem exec_heartbeatTimeout (t : Nat) (s : State) :
    exec (.heartbeatTimeout t) s = execHeartbeatTimeout t s := rfl

theorem exec_checkpointPush (t : Nat) (s : State) :
    exec (.checkpointPush t) s = execCheckpointPush t s := rfl

theorem exec_checkpointBlock (t : Nat) (b : List Byte) (s : State) :
    exec (.checkpointBlock t b) s = execCheckpointBlock t b s := rfl

theorem exec_swapPrepare (t : Nat) (b : List Byte) (s : State) :
    exec (.swapPrepare t b) s = execSwapPrepare t b s := rfl

theorem exec_swapReady (t : Nat) (b : List Byte) (s : State) :
    exec (.swapReady t b) s = execSwapReady t b s := rfl

theorem exec_swapHand (t : Nat) (b : List Byte) (s : State) :
    exec (.swapHand t b) s = execSwapHand t b s := rfl

theorem exec_swapTaken (t : Nat) (b : List Byte) (s : State) :
    exec (.swapTaken t b) s = execSwapTaken t b s := rfl

theorem exec_swapAbort (t : Nat) (b : List Byte) (s : State) :
    exec (.swapAbort t b) s = execSwapAbort t b s := rfl

theorem exec_swapStepTimeout (t : Nat) (s : State) :
    exec (.swapStepTimeout t) s = execSwapStepTimeout t s := rfl

theorem exec_claimRound (t : Nat) (other : Nat) (lowAt2 : Bool) (freeAt25 : Bool) (field : Nat) (follower : Bool) (s : State) :
    exec (.claimRound t other lowAt2 freeAt25 field follower) s = execClaimRound t other lowAt2 freeAt25 field follower s := rfl

theorem exec_holdFollowExpiry (t : Nat) (s : State) :
    exec (.holdFollowExpiry t) s = execHoldFollowExpiry t s := rfl

theorem exec_pairStartup (t : Nat) (s : State) :
    exec (.pairStartup t) s = execPairStartup t s := rfl

theorem exec_pairStartFault (t : Nat) (s : State) :
    exec (.pairStartFault t) s = execPairStartFault t s := rfl

theorem exec_standbySelfTest (t : Nat) (ctrl : List Bool) (est : List Bool) (readback : Bool) (s : State) :
    exec (.standbySelfTest t ctrl est readback) s = execStandbySelfTest t ctrl est readback s := rfl

theorem exec_pairOverrideEnd (t : Nat) (s : State) :
    exec (.pairOverrideEnd t) s = execPairOverrideEnd t s := rfl

theorem exec_healthReport (t : Nat) (sfp : List (List Nat)) (s : State) :
    exec (.healthReport t sfp) s = execHealthReport t sfp s := rfl

theorem exec_pairStatus (t : Nat) (m : Nat) (s : State) :
    exec (.pairStatus t m) s = execPairStatus t m s := rfl

theorem exec_pairSwap (t : Nat) (m : Nat) (s : State) :
    exec (.pairSwap t m) s = execPairSwap t m s := rfl

theorem exec_pairOverride (t : Nat) (m : Nat) (s : State) :
    exec (.pairOverride t m) s = execPairOverride t m s := rfl

theorem exec_pairCkptNow (t : Nat) (m : Nat) (s : State) :
    exec (.pairCkptNow t m) s = execPairCkptNow t m s := rfl

theorem exec_healthRead (t : Nat) (m : Nat) (s : State) :
    exec (.healthRead t m) s = execHealthRead t m s := rfl

theorem exec_helloSend (t : Nat) (p : Nat) (k : Nat) (s : State) :
    exec (.helloSend t p k) s = execHelloSend t p k s := rfl

theorem exec_hello (t : Nat) (p : Nat) (k : Nat) (h : List Byte) (s : State) :
    exec (.hello t p k h) s = execHello t p k h s := rfl

theorem exec_helloDead (t : Nat) (p : Nat) (k : Nat) (s : State) :
    exec (.helloDead t p k) s = execHelloDead t p k s := rfl

theorem exec_pcsSyncLoss (t : Nat) (p : Nat) (k : Nat) (s : State) :
    exec (.pcsSyncLoss t p k) s = execPcsSyncLoss t p k s := rfl

theorem exec_lsaSend (t : Nat) (p : Nat) (s : State) :
    exec (.lsaSend t p) s = execLsaSend t p s := rfl

theorem exec_lsa (t : Nat) (p : Nat) (k : Nat) (a : Lsa) (s : State) :
    exec (.lsa t p k a) s = execLsa t p k a s := rfl

theorem exec_lsaAgeOut (t : Nat) (p : Nat) (origin : Nat) (s : State) :
    exec (.lsaAgeOut t p origin) s = execLsaAgeOut t p origin s := rfl

theorem exec_routeCompute (t : Nat) (p : Nat) (s : State) :
    exec (.routeCompute t p) s = execRouteCompute t p s := rfl

theorem exec_fabricFrameReceive (t : Nat) (p : Nat) (k : Nat) (f : FabFrame) (s : State) :
    exec (.fabricFrameReceive t p k f) s = execFabricFrameReceive t p k f s := rfl

theorem exec_planeFailed (t : Nat) (p : Nat) (s : State) :
    exec (.planeFailed t p) s = execPlaneFailed t p s := rfl

theorem exec_planeUp (t : Nat) (p : Nat) (s : State) :
    exec (.planeUp t p) s = execPlaneUp t p s := rfl

theorem exec_flowReturn (t : Nat) (addr : Nat) (cls : Nat) (s : State) :
    exec (.flowReturn t addr cls) s = execFlowReturn t addr cls s := rfl

theorem exec_fabStatus (t : Nat) (m : Nat) (s : State) :
    exec (.fabStatus t m) s = execFabStatus t m s := rfl

theorem exec_fabRoutes (t : Nat) (m : Nat) (s : State) :
    exec (.fabRoutes t m) s = execFabRoutes t m s := rfl

theorem exec_fabLsdb (t : Nat) (m : Nat) (s : State) :
    exec (.fabLsdb t m) s = execFabLsdb t m s := rfl

theorem exec_fabFlows (t : Nat) (m : Nat) (s : State) :
    exec (.fabFlows t m) s = execFabFlows t m s := rfl

theorem exec_fabClearCounters (t : Nat) (m : Nat) (s : State) :
    exec (.fabClearCounters t m) s = execFabClearCounters t m s := rfl

theorem exec_announce (t : Nat) (d : Nat) (num : Nat) (gm : Nat) (data : List Nat) (utc : Int) (s : State) :
    exec (.announce t d num gm data utc) s = execAnnounce t d num gm data utc s := rfl

theorem exec_sync (t : Nat) (d : Nat) (num : Nat) (seq : Nat) (origin : Int) (rx : Int) (corr : Int) (twoStep : Bool) (trace : Nat) (s : State) :
    exec (.sync t d num seq origin rx corr twoStep trace) s = execSync t d num seq origin rx corr twoStep trace s := rfl

theorem exec_followUp (t : Nat) (d : Nat) (num : Nat) (seq : Nat) (origin : Int) (corr : Int) (s : State) :
    exec (.followUp t d num seq origin corr) s = execFollowUp t d num seq origin corr s := rfl

theorem exec_delayReq (t : Nat) (d : Nat) (num : Nat) (seq : Nat) (own : Bool) (src : Nat) (corr : Int) (s : State) :
    exec (.delayReq t d num seq own src corr) s = execDelayReq t d num seq own src corr s := rfl

theorem exec_delayResp (t : Nat) (d : Nat) (num : Nat) (seq : Nat) (rx : Int) (corr : Int) (trace : Nat) (s : State) :
    exec (.delayResp t d num seq rx corr trace) s = execDelayResp t d num seq rx corr trace s := rfl

theorem exec_domainLoss (t : Nat) (d : Nat) (s : State) :
    exec (.domainLoss t d) s = execDomainLoss t d s := rfl

theorem exec_domainDegradedEnd (t : Nat) (d : Nat) (s : State) :
    exec (.domainDegradedEnd t d) s = execDomainDegradedEnd t d s := rfl

theorem exec_timePrefReturn (t : Nat) (s : State) :
    exec (.timePrefReturn t) s = execTimePrefReturn t s := rfl

theorem exec_ppsEdge (t : Nat) (n : Nat) (s : State) :
    exec (.ppsEdge t n) s = execPpsEdge t n s := rfl

theorem exec_ppsInvalid (t : Nat) (n : Nat) (s : State) :
    exec (.ppsInvalid t n) s = execPpsInvalid t n s := rfl

theorem exec_ppsOut (t : Nat) (s : State) :
    exec (.ppsOut t) s = execPpsOut t s := rfl

theorem exec_timeStatus (t : Nat) (m : Nat) (s : State) :
    exec (.timeStatus t m) s = execTimeStatus t m s := rfl

theorem exec_timeEdges (t : Nat) (m : Nat) (s : State) :
    exec (.timeEdges t m) s = execTimeEdges t m s := rfl

theorem exec_timeResync (t : Nat) (m : Nat) (s : State) :
    exec (.timeResync t m) s = execTimeResync t m s := rfl

theorem exec_timeSet (t : Nat) (m : Nat) (s : State) :
    exec (.timeSet t m) s = execTimeSet t m s := rfl

theorem exec_canFrameReceive (t : Nat) (c : Nat) (f : CanFrame) (s : State) :
    exec (.canFrameReceive t c f) s = execCanFrameReceive t c f s := rfl

theorem exec_canTxAttempt (t : Nat) (c : Nat) (s : State) :
    exec (.canTxAttempt t c) s = execCanTxAttempt t c s := rfl

theorem exec_canTxEnd (t : Nat) (c : Nat) (outcome : Nat) (s : State) :
    exec (.canTxEnd t c outcome) s = execCanTxEnd t c outcome s := rfl

theorem exec_busOff (t : Nat) (c : Nat) (s : State) :
    exec (.busOff t c) s = execBusOff t c s := rfl

theorem exec_busOffRecovered (t : Nat) (c : Nat) (s : State) :
    exec (.busOffRecovered t c) s = execBusOffRecovered t c s := rfl

theorem exec_frMapSend (t : Nat) (k : Nat) (vStr : Option Int) (s : State) :
    exec (.frMapSend t k vStr) s = execFrMapSend t k vStr s := rfl

theorem exec_frSetpointFrame (t : Nat) (d : List Byte) (s : State) :
    exec (.frSetpointFrame t d) s = execFrSetpointFrame t d s := rfl

theorem exec_frCommandFrame (t : Nat) (d : List Byte) (vStr : Int) (vLnk : Int) (s : State) :
    exec (.frCommandFrame t d vStr vLnk) s = execFrCommandFrame t d vStr vLnk s := rfl

theorem exec_canStatus (t : Nat) (m : Nat) (s : State) :
    exec (.canStatus t m) s = execCanStatus t m s := rfl

theorem exec_canTx (t : Nat) (m : Nat) (s : State) :
    exec (.canTx t m) s = execCanTx t m s := rfl

theorem exec_canTxCancel (t : Nat) (m : Nat) (s : State) :
    exec (.canTxCancel t m) s = execCanTxCancel t m s := rfl

theorem exec_canTxQuery (t : Nat) (m : Nat) (s : State) :
    exec (.canTxQuery t m) s = execCanTxQuery t m s := rfl

theorem exec_canRxRead (t : Nat) (m : Nat) (s : State) :
    exec (.canRxRead t m) s = execCanRxRead t m s := rfl

theorem exec_canRxRelease (t : Nat) (m : Nat) (s : State) :
    exec (.canRxRelease t m) s = execCanRxRelease t m s := rfl

theorem exec_canRecover (t : Nat) (m : Nat) (s : State) :
    exec (.canRecover t m) s = execCanRecover t m s := rfl

theorem exec_twAddressMatch (t : Nat) (addr : Nat) (read : Option Nat) (s : State) :
    exec (.twAddressMatch t addr read) s = execTwAddressMatch t addr read s := rfl

theorem exec_twWindowWrite (t : Nat) (b : List Byte) (s : State) :
    exec (.twWindowWrite t b) s = execTwWindowWrite t b s := rfl

theorem exec_twDoorbellRequest (t : Nat) (s : State) :
    exec (.twDoorbellRequest t) s = execTwDoorbellRequest t s := rfl

theorem exec_twDoorbellRead (t : Nat) (s : State) :
    exec (.twDoorbellRead t) s = execTwDoorbellRead t s := rfl

theorem exec_twDoorbellAck (t : Nat) (s : State) :
    exec (.twDoorbellAck t) s = execTwDoorbellAck t s := rfl

theorem exec_twTransferAbort (t : Nat) (s : State) :
    exec (.twTransferAbort t) s = execTwTransferAbort t s := rfl

theorem exec_twLate (t : Nat) (reading : Bool) (s : State) :
    exec (.twLate t reading) s = execTwLate t reading s := rfl

theorem exec_twAttention (t : Nat) (outcome : Nat) (s : State) :
    exec (.twAttention t outcome) s = execTwAttention t outcome s := rfl

theorem exec_twAttnRetry (t : Nat) (outcome : Nat) (s : State) :
    exec (.twAttnRetry t outcome) s = execTwAttnRetry t outcome s := rfl

theorem exec_twBusClear (t : Nat) (high : Option Nat) (s : State) :
    exec (.twBusClear t high) s = execTwBusClear t high s := rfl

theorem exec_twAccXfer (t : Nat) (m : Nat) (nack : Option Nat) (stretch : Nat) (rd : List Byte) (s : State) :
    exec (.twAccXfer t m nack stretch rd) s = execTwAccXfer t m nack stretch rd s := rfl

theorem exec_twAccStatus (t : Nat) (m : Nat) (s : State) :
    exec (.twAccStatus t m) s = execTwAccStatus t m s := rfl

theorem exec_twSvcStatus (t : Nat) (m : Nat) (s : State) :
    exec (.twSvcStatus t m) s = execTwSvcStatus t m s := rfl

theorem exec_recFlushPeriod (t : Nat) (s : State) :
    exec (.recFlushPeriod t) s = execRecFlushPeriod t s := rfl

theorem exec_recordFlush (t : Nat) (s : State) :
    exec (.recordFlush t) s = execRecordFlush t s := rfl

theorem exec_nvmPageCommit (t : Nat) (retired : Bool) (s : State) :
    exec (.nvmPageCommit t retired) s = execNvmPageCommit t retired s := rfl

theorem exec_cursorExpiry (t : Nat) (c : Nat) (s : State) :
    exec (.cursorExpiry t c) s = execCursorExpiry t c s := rfl

theorem exec_recClearBlock (t : Nat) (retired : Bool) (s : State) :
    exec (.recClearBlock t retired) s = execRecClearBlock t retired s := rfl

theorem exec_recStatus (t : Nat) (m : Nat) (s : State) :
    exec (.recStatus t m) s = execRecStatus t m s := rfl

theorem exec_recSeek (t : Nat) (m : Nat) (s : State) :
    exec (.recSeek t m) s = execRecSeek t m s := rfl

theorem exec_recRead (t : Nat) (m : Nat) (s : State) :
    exec (.recRead t m) s = execRecRead t m s := rfl

theorem exec_recRelease (t : Nat) (m : Nat) (s : State) :
    exec (.recRelease t m) s = execRecRelease t m s := rfl

theorem exec_recFlush (t : Nat) (m : Nat) (s : State) :
    exec (.recFlush t m) s = execRecFlush t m s := rfl

theorem exec_recClear (t : Nat) (m : Nat) (s : State) :
    exec (.recClear t m) s = execRecClear t m s := rfl

theorem exec_recCodes (t : Nat) (m : Nat) (s : State) :
    exec (.recCodes t m) s = execRecCodes t m s := rfl

theorem exec_imgStatus (t : Nat) (m : Nat) (s : State) :
    exec (.imgStatus t m) s = execImgStatus t m s := rfl

theorem exec_imgOpen (t : Nat) (m : Nat) (s : State) :
    exec (.imgOpen t m) s = execImgOpen t m s := rfl

theorem exec_imgBlock (t : Nat) (m : Nat) (s : State) :
    exec (.imgBlock t m) s = execImgBlock t m s := rfl

theorem exec_imgCheck (t : Nat) (m : Nat) (partner : Option Nat) (s : State) :
    exec (.imgCheck t m partner) s = execImgCheck t m partner s := rfl

theorem exec_imgInstall (t : Nat) (m : Nat) (partner : Option Nat) (s : State) :
    exec (.imgInstall t m partner) s = execImgInstall t m partner s := rfl

theorem exec_imgAbort (t : Nat) (m : Nat) (s : State) :
    exec (.imgAbort t m) s = execImgAbort t m s := rfl

theorem exec_tapInstall (t : Nat) (m : Nat) (s : State) :
    exec (.tapInstall t m) s = execTapInstall t m s := rfl

theorem exec_installStepDone (t : Nat) (ok : Bool) (pass : Bool) (s : State) :
    exec (.installStepDone t ok pass) s = execInstallStepDone t ok pass s := rfl

theorem exec_installResume (t : Nat) (clear : Nat) (s : State) :
    exec (.installResume t clear) s = execInstallResume t clear s := rfl

theorem exec_installPauseTimeout (t : Nat) (s : State) :
    exec (.installPauseTimeout t) s = execInstallPauseTimeout t s := rfl

theorem exec_imgOwnerTimeout (t : Nat) (id : Nat) (s : State) :
    exec (.imgOwnerTimeout t id) s = execImgOwnerTimeout t id s := rfl

theorem exec_fwOpen (t : Nat) (q : TapReq) (s : State) :
    exec (.fwOpen t q) s = execFwOpen t q s := rfl

theorem exec_fwBlock (t : Nat) (q : TapReq) (s : State) :
    exec (.fwBlock t q) s = execFwBlock t q s := rfl

theorem exec_fwCheck (t : Nat) (q : TapReq) (s : State) :
    exec (.fwCheck t q) s = execFwCheck t q s := rfl

theorem exec_fwSwap (t : Nat) (q : TapReq) (ver : Nat) (leads : List Nat) (testFail : Bool) (calFail : Bool) (s : State) :
    exec (.fwSwap t q ver leads testFail calFail) s = execFwSwap t q ver leads testFail calFail s := rfl

theorem exec_tapSwapTimeout (t : Nat) (ver : Option Nat) (s : State) :
    exec (.tapSwapTimeout t ver) s = execTapSwapTimeout t ver s := rfl

theorem exec_cisternMeasure (t : Nat) (full : Nat) (present : Nat) (cellMv : Nat) (s : State) :
    exec (.cisternMeasure t full present cellMv) s = execCisternMeasure t full present cellMv s := rfl

theorem exec_impWindowSuspend (t : Nat) (i : Nat) (s : State) :
    exec (.impWindowSuspend t i) s = execImpWindowSuspend t i s := rfl

theorem exec_matchedCopyReturn (t : Nat) (s : State) :
    exec (.matchedCopyReturn t) s = execMatchedCopyReturn t s := rfl

theorem exec_outputPulseEnd (t : Nat) (n : Nat) (mv : Nat) (ma : Nat) (s : State) :
    exec (.outputPulseEnd t n mv ma) s = execOutputPulseEnd t n mv ma s := rfl

theorem exec_wakeComparatorArm (t : Nat) (mv : Nat) (held : Nat) (s : State) :
    exec (.wakeComparatorArm t mv held) s = execWakeComparatorArm t mv held s := rfl

theorem exec_tapWake (t : Nat) (i : Nat) (s : State) :
    exec (.tapWake t i) s = execTapWake t i s := rfl

theorem exec_stFltHoldEnd (t : Nat) (s : State) :
    exec (.stFltHoldEnd t) s = execStFltHoldEnd t s := rfl

theorem exec_supervisorWatchdog (t : Nat) (served : Bool) (s : State) :
    exec (.supervisorWatchdog t served) s = execSupervisorWatchdog t served s := rfl

end Sys2Proof.Machine
end

