-- ==== Sys2Proof/Laws/Fabric.lean ====
section
/-!
SUPPORT. Laws/Fabric.lean: what sending a frame can do: it changes the fabric's own state and what is on its way out, nothing else.
-/

namespace Sys2Proof.Machine

open Sys2Proof

/-- A state that differs in the fabric's state and in the emissions only. -/
abbrev FabricOnly (s u : State) : Prop := ∃ f o, u = { s with fab := f, out := o }

theorem FabricOnly.refl (s : State) : FabricOnly s s := ⟨s.fab, s.out, rfl⟩

theorem FabricOnly.trans {s u v : State} : FabricOnly s u → FabricOnly u v → FabricOnly s v
  | ⟨_, _, h⟩, ⟨f, o, k⟩ => ⟨f, o, by rw [k, h]⟩

theorem eachDo_fabric {α : Type} {g : α → State → State} (hg : ∀ a s, FabricOnly s (g a s)) :
    ∀ (l : List α) (s : State), FabricOnly s (eachDo l g s)
  | [], s => .refl s
  | a :: l, s => (hg a s).trans (eachDo_fabric hg l (g a s))

theorem shapeTc0_fabric (p k n : Nat) (s : State) : FabricOnly s (shapeTc0 p k n s).2 := by
  unfold shapeTc0
  simp only
  split
  · exact ⟨_, _, rfl⟩
  · split <;> exact ⟨_, _, rfl⟩

theorem onPort_fabric (p k cls : Nat) (body : List Byte) (s : State) : FabricOnly s (onPort p k cls body s) := by
  unfold onPort
  split
  · exact .refl s
  · simp only
    split
    · split
      · exact (shapeTc0_fabric ..).trans ⟨_, _, rfl⟩
      · exact shapeTc0_fabric ..
    · exact ⟨_, _, rfl⟩

theorem placeOnPlane_fabric (p type cls : Nat) (dual str : Bool) (dest : Nat) (b : List Byte) (seq : Nat) (s : State) :
    FabricOnly s (placeOnPlane p type cls dual str dest b seq s) := by
  unfold placeOnPlane
  simp only
  split
  · refine eachDo_fabric (fun k s => ?_) _ s
    split
    · exact onPort_fabric ..
    · exact .refl s
  · split
    · exact onPort_fabric ..
    · exact .refl s

theorem useFlow_fabric (a c : Nat) (g : Flow → Flow) (s : State) : FabricOnly s (useFlow a c g s).2 := by
  unfold useFlow
  simp only
  split
  · exact ⟨_, s.out, rfl⟩
  · split
    · exact ⟨_, s.out, rfl⟩
    · split <;> exact ⟨_, s.out, rfl⟩

theorem sendInFlow_fabric {a c : Nat} {f : Nat → State → State} (hf : ∀ n s, FabricOnly s (f n s)) (s : State) :
    FabricOnly s (sendInFlow a c f s) := by
  unfold sendInFlow
  simp only
  split
  · exact (useFlow_fabric ..).trans (hf ..)
  · exact useFlow_fabric ..

theorem sendOnPlane_fabric (p type cls dest : Nat) (b : List Byte) (s : State) : FabricOnly s (sendOnPlane p type cls dest b s) :=
  sendInFlow_fabric (fun _ s => placeOnPlane_fabric p type cls false false dest b _ s) s

theorem sendDual_fabric (type cls dest : Nat) (b : List Byte) (s : State) : FabricOnly s (sendDual type cls dest b s) :=
  sendInFlow_fabric (fun _ _ => (placeOnPlane_fabric ..).trans (placeOnPlane_fabric ..)) s

theorem sendFlow_fabric (type cls : Nat) (str : Bool) (dest : Nat) (b : List Byte) (s : State) :
    FabricOnly s (sendFlow type cls str dest b s) :=
  sendInFlow_fabric (fun _ s => placeOnPlane_fabric _ type cls false str dest b _ s) s

theorem deliver_fabric (m : Nat) (src : Source) (r : Response) (s : State) : FabricOnly s (deliver m src r s) := by
  unfold deliver
  split
  · exact sendFlow_fabric ..
  · exact ⟨s.fab, _, rfl⟩
  · exact ⟨s.fab, _, rfl⟩

end Sys2Proof.Machine
end

