-- ==== Sys2Proof/Laws/Gates.lean ====
section
/-!
SUPPORT. Laws/Gates.lean: sending edges on gate lanes changes the lanes and what goes out, and nothing else.
-/

namespace Sys2Proof.Machine

open Sys2Proof

/-- A state that differs from another in its gate lanes and its emissions alone. -/
def LanesOnly (s u : State) : Prop := ∃ l o, u = { s with conv.lane := l, out := o }

theorem LanesOnly.refl (s : State) : LanesOnly s s := ⟨_, _, rfl⟩

theorem LanesOnly.trans {s u v : State} : LanesOnly s u → LanesOnly u v → LanesOnly s v
  | ⟨_, _, hu⟩, ⟨l, o, hv⟩ => ⟨l, o, by rw [hv, hu]⟩

/-- Edges go to one lane. -/
theorem sendEdges_lanes (n : Nat) (l : List (Nat × Nat)) (s : State) : LanesOnly s (sendEdges n l s) := by
  simp only [sendEdges]
  split <;> exact ⟨_, _, rfl⟩

theorem darkLane_lanes (n : Nat) (s : State) : LanesOnly s (darkLane n s) := sendEdges_lanes ..

theorem eachDo_darkLane_lanes : ∀ (l : List Nat) (s : State), LanesOnly s (eachDo l darkLane s)
  | [], s => .refl s
  | n :: l, s => (darkLane_lanes n s).trans (eachDo_darkLane_lanes l (darkLane n s))

/-- Every fitted lane goes dark: lanes and emissions alone change. -/
theorem darkLanes_lanes (s : State) : LanesOnly s (darkLanes s) := eachDo_darkLane_lanes ..

@[simp] theorem darkLanes_saf (s : State) : (darkLanes s).saf = s.saf := by
  obtain ⟨l, o, h⟩ := darkLanes_lanes s
  rw [h]

@[simp] theorem darkLanes_core (s : State) : (darkLanes s).core = s.core := by
  obtain ⟨l, o, h⟩ := darkLanes_lanes s
  rw [h]

@[simp] theorem darkLanes_con (s : State) : (darkLanes s).con = s.con := by
  obtain ⟨l, o, h⟩ := darkLanes_lanes s
  rw [h]

@[simp] theorem darkLanes_now (s : State) : (darkLanes s).now = s.now := by
  obtain ⟨l, o, h⟩ := darkLanes_lanes s
  rw [h]

@[simp] theorem darkLanes_phases (s : State) : (darkLanes s).conv.ph = s.conv.ph := by
  obtain ⟨l, o, h⟩ := darkLanes_lanes s
  rw [h]

/-- The safety processor's demand asserts the gate-inhibit line and takes the ceilings to 0 A. -/
theorem spDemands_means (o : Bool) (s : State) :
    (spDemands o s).saf.spDemand = true ∧ (spDemands o s).saf.gateInhibit = true ∧
      (spDemands o s).saf.ceilChg = 0 ∧ (spDemands o s).saf.ceilDis = 0 := by
  unfold spDemands inhibitGates
  rw [darkLanes_saf]
  refine ⟨?_, ?_, ?_, ?_⟩ <;> split <;> rfl

/-- Dome's demand drops the lane enables. -/
theorem domeDemands_means (o : Bool) (s : State) :
    (domeDemands o s).saf.domeDemand = true ∧ (domeDemands o s).saf.laneEnable = false := by
  unfold domeDemands dropEnable
  rw [darkLanes_saf]
  refine ⟨?_, ?_⟩ <;> split <;> rfl

/-- Opening one lane's edges leaves the converter's state. -/
theorem sendEdges_st (n : Nat) (l : List (Nat × Nat)) (s : State) : (sendEdges n l s).conv.st = s.conv.st := by
  obtain ⟨a, b, h⟩ := sendEdges_lanes n l s
  rw [h]

end Sys2Proof.Machine
end

