-- ==== Sys2Proof/Laws/State.lean ====
section
/-!
SUPPORT. Laws/State.lean: which fields of the state the shared operations leave alone, one lemma per operation and field.
-/

namespace Sys2Proof.Machine

open Sys2Proof

/-! ## Emissions and the setters of lists -/

@[simp] theorem emit_pending (e : Emission) (s : State) : (emit e s).pending = s.pending := rfl

@[simp] theorem emit_now (e : Emission) (s : State) : (emit e s).now = s.now := rfl

@[simp] theorem emit_core (e : Emission) (s : State) : (emit e s).core = s.core := rfl

@[simp] theorem emit_isl (e : Emission) (s : State) : (emit e s).isl = s.isl := rfl

@[simp] theorem emit_mbx (e : Emission) (s : State) : (emit e s).mbx = s.mbx := rfl

@[simp] theorem emit_well (e : Emission) (s : State) : (emit e s).well = s.well := rfl

@[simp] theorem emit_rings (e : Emission) (s : State) : (emit e s).rings = s.rings := rfl

@[simp] theorem emit_est (e : Emission) (s : State) : (emit e s).est = s.est := rfl

@[simp] theorem emit_imp (e : Emission) (s : State) : (emit e s).imp = s.imp := rfl

@[simp] theorem emit_ctrl (e : Emission) (s : State) : (emit e s).ctrl = s.ctrl := rfl

@[simp] theorem emit_conv (e : Emission) (s : State) : (emit e s).conv = s.conv := rfl

@[simp] theorem emit_disp (e : Emission) (s : State) : (emit e s).disp = s.disp := rfl

@[simp] theorem emit_saf (e : Emission) (s : State) : (emit e s).saf = s.saf := rfl

@[simp] theorem emit_con (e : Emission) (s : State) : (emit e s).con = s.con := rfl

@[simp] theorem emit_thm (e : Emission) (s : State) : (emit e s).thm = s.thm := rfl

@[simp] theorem emit_pair (e : Emission) (s : State) : (emit e s).pair = s.pair := rfl

@[simp] theorem emit_fab (e : Emission) (s : State) : (emit e s).fab = s.fab := rfl

@[simp] theorem emit_tim (e : Emission) (s : State) : (emit e s).tim = s.tim := rfl

@[simp] theorem emit_bus (e : Emission) (s : State) : (emit e s).bus = s.bus := rfl

@[simp] theorem emit_upd (e : Emission) (s : State) : (emit e s).upd = s.upd := rfl

@[simp] theorem emit_out (e : Emission) (s : State) : (emit e s).out = s.out ++ [e] := rfl

@[simp] theorem setMbx_pending (m : Nat) (g : Mailbox → Mailbox) (s : State) : (setMbx m g s).pending = s.pending := rfl

@[simp] theorem setMbx_now (m : Nat) (g : Mailbox → Mailbox) (s : State) : (setMbx m g s).now = s.now := rfl

@[simp] theorem setMbx_out (m : Nat) (g : Mailbox → Mailbox) (s : State) : (setMbx m g s).out = s.out := rfl

@[simp] theorem setMbx_core (m : Nat) (g : Mailbox → Mailbox) (s : State) : (setMbx m g s).core = s.core := rfl

@[simp] theorem setMbx_isl (m : Nat) (g : Mailbox → Mailbox) (s : State) : (setMbx m g s).isl = s.isl := rfl

@[simp] theorem setMbx_well (m : Nat) (g : Mailbox → Mailbox) (s : State) : (setMbx m g s).well = s.well := rfl

@[simp] theorem setMbx_rings (m : Nat) (g : Mailbox → Mailbox) (s : State) : (setMbx m g s).rings = s.rings := rfl

@[simp] theorem setMbx_est (m : Nat) (g : Mailbox → Mailbox) (s : State) : (setMbx m g s).est = s.est := rfl

@[simp] theorem setMbx_imp (m : Nat) (g : Mailbox → Mailbox) (s : State) : (setMbx m g s).imp = s.imp := rfl

@[simp] theorem setMbx_ctrl (m : Nat) (g : Mailbox → Mailbox) (s : State) : (setMbx m g s).ctrl = s.ctrl := rfl

@[simp] theorem setMbx_conv (m : Nat) (g : Mailbox → Mailbox) (s : State) : (setMbx m g s).conv = s.conv := rfl

@[simp] theorem setMbx_disp (m : Nat) (g : Mailbox → Mailbox) (s : State) : (setMbx m g s).disp = s.disp := rfl

@[simp] theorem setMbx_saf (m : Nat) (g : Mailbox → Mailbox) (s : State) : (setMbx m g s).saf = s.saf := rfl

@[simp] theorem setMbx_con (m : Nat) (g : Mailbox → Mailbox) (s : State) : (setMbx m g s).con = s.con := rfl

@[simp] theorem setMbx_thm (m : Nat) (g : Mailbox → Mailbox) (s : State) : (setMbx m g s).thm = s.thm := rfl

@[simp] theorem setMbx_pair (m : Nat) (g : Mailbox → Mailbox) (s : State) : (setMbx m g s).pair = s.pair := rfl

@[simp] theorem setMbx_fab (m : Nat) (g : Mailbox → Mailbox) (s : State) : (setMbx m g s).fab = s.fab := rfl

@[simp] theorem setMbx_tim (m : Nat) (g : Mailbox → Mailbox) (s : State) : (setMbx m g s).tim = s.tim := rfl

@[simp] theorem setMbx_bus (m : Nat) (g : Mailbox → Mailbox) (s : State) : (setMbx m g s).bus = s.bus := rfl

@[simp] theorem setMbx_upd (m : Nat) (g : Mailbox → Mailbox) (s : State) : (setMbx m g s).upd = s.upd := rfl

@[simp] theorem setMbx_mbx_fns (m : Nat) (g : Mailbox → Mailbox) (s : State) : (setMbx m g s).mbx.fns = s.mbx.fns := rfl

@[simp] theorem setMbx_mbx_params (m : Nat) (g : Mailbox → Mailbox) (s : State) : (setMbx m g s).mbx.params = s.mbx.params := rfl

@[simp] theorem setMbx_mbx_nvm (m : Nat) (g : Mailbox → Mailbox) (s : State) : (setMbx m g s).mbx.nvm = s.mbx.nvm := rfl

@[simp] theorem setMbx_mbx_nextBinding (m : Nat) (g : Mailbox → Mailbox) (s : State) : (setMbx m g s).mbx.nextBinding = s.mbx.nextBinding := rfl

@[simp] theorem setMbx_mbx_paramWriteWaits (m : Nat) (g : Mailbox → Mailbox) (s : State) : (setMbx m g s).mbx.paramWriteWaits = s.mbx.paramWriteWaits := rfl

@[simp] theorem setFn_pending (f : Nat) (g : Func → Func) (s : State) : (setFn f g s).pending = s.pending := rfl

@[simp] theorem setFn_now (f : Nat) (g : Func → Func) (s : State) : (setFn f g s).now = s.now := rfl

@[simp] theorem setFn_out (f : Nat) (g : Func → Func) (s : State) : (setFn f g s).out = s.out := rfl

@[simp] theorem setFn_core (f : Nat) (g : Func → Func) (s : State) : (setFn f g s).core = s.core := rfl

@[simp] theorem setFn_isl (f : Nat) (g : Func → Func) (s : State) : (setFn f g s).isl = s.isl := rfl

@[simp] theorem setFn_well (f : Nat) (g : Func → Func) (s : State) : (setFn f g s).well = s.well := rfl

@[simp] theorem setFn_rings (f : Nat) (g : Func → Func) (s : State) : (setFn f g s).rings = s.rings := rfl

@[simp] theorem setFn_est (f : Nat) (g : Func → Func) (s : State) : (setFn f g s).est = s.est := rfl

@[simp] theorem setFn_imp (f : Nat) (g : Func → Func) (s : State) : (setFn f g s).imp = s.imp := rfl

@[simp] theorem setFn_ctrl (f : Nat) (g : Func → Func) (s : State) : (setFn f g s).ctrl = s.ctrl := rfl

@[simp] theorem setFn_conv (f : Nat) (g : Func → Func) (s : State) : (setFn f g s).conv = s.conv := rfl

@[simp] theorem setFn_disp (f : Nat) (g : Func → Func) (s : State) : (setFn f g s).disp = s.disp := rfl

@[simp] theorem setFn_saf (f : Nat) (g : Func → Func) (s : State) : (setFn f g s).saf = s.saf := rfl

@[simp] theorem setFn_con (f : Nat) (g : Func → Func) (s : State) : (setFn f g s).con = s.con := rfl

@[simp] theorem setFn_thm (f : Nat) (g : Func → Func) (s : State) : (setFn f g s).thm = s.thm := rfl

@[simp] theorem setFn_pair (f : Nat) (g : Func → Func) (s : State) : (setFn f g s).pair = s.pair := rfl

@[simp] theorem setFn_fab (f : Nat) (g : Func → Func) (s : State) : (setFn f g s).fab = s.fab := rfl

@[simp] theorem setFn_tim (f : Nat) (g : Func → Func) (s : State) : (setFn f g s).tim = s.tim := rfl

@[simp] theorem setFn_bus (f : Nat) (g : Func → Func) (s : State) : (setFn f g s).bus = s.bus := rfl

@[simp] theorem setFn_upd (f : Nat) (g : Func → Func) (s : State) : (setFn f g s).upd = s.upd := rfl

@[simp] theorem setFn_mbx_mbx (f : Nat) (g : Func → Func) (s : State) : (setFn f g s).mbx.mbx = s.mbx.mbx := rfl

@[simp] theorem setFn_mbx_params (f : Nat) (g : Func → Func) (s : State) : (setFn f g s).mbx.params = s.mbx.params := rfl

@[simp] theorem setFn_mbx_nvm (f : Nat) (g : Func → Func) (s : State) : (setFn f g s).mbx.nvm = s.mbx.nvm := rfl

@[simp] theorem setFn_mbx_nextBinding (f : Nat) (g : Func → Func) (s : State) : (setFn f g s).mbx.nextBinding = s.mbx.nextBinding := rfl

@[simp] theorem setFn_mbx_paramWriteWaits (f : Nat) (g : Func → Func) (s : State) : (setFn f g s).mbx.paramWriteWaits = s.mbx.paramWriteWaits := rfl

@[simp] theorem setRing_pending (r : Nat) (g : Ring → Ring) (s : State) : (setRing r g s).pending = s.pending := rfl

@[simp] theorem setRing_now (r : Nat) (g : Ring → Ring) (s : State) : (setRing r g s).now = s.now := rfl

@[simp] theorem setRing_out (r : Nat) (g : Ring → Ring) (s : State) : (setRing r g s).out = s.out := rfl

@[simp] theorem setRing_core (r : Nat) (g : Ring → Ring) (s : State) : (setRing r g s).core = s.core := rfl

@[simp] theorem setRing_isl (r : Nat) (g : Ring → Ring) (s : State) : (setRing r g s).isl = s.isl := rfl

@[simp] theorem setRing_mbx (r : Nat) (g : Ring → Ring) (s : State) : (setRing r g s).mbx = s.mbx := rfl

@[simp] theorem setRing_well (r : Nat) (g : Ring → Ring) (s : State) : (setRing r g s).well = s.well := rfl

@[simp] theorem setRing_est (r : Nat) (g : Ring → Ring) (s : State) : (setRing r g s).est = s.est := rfl

@[simp] theorem setRing_imp (r : Nat) (g : Ring → Ring) (s : State) : (setRing r g s).imp = s.imp := rfl

@[simp] theorem setRing_ctrl (r : Nat) (g : Ring → Ring) (s : State) : (setRing r g s).ctrl = s.ctrl := rfl

@[simp] theorem setRing_conv (r : Nat) (g : Ring → Ring) (s : State) : (setRing r g s).conv = s.conv := rfl

@[simp] theorem setRing_disp (r : Nat) (g : Ring → Ring) (s : State) : (setRing r g s).disp = s.disp := rfl

@[simp] theorem setRing_saf (r : Nat) (g : Ring → Ring) (s : State) : (setRing r g s).saf = s.saf := rfl

@[simp] theorem setRing_con (r : Nat) (g : Ring → Ring) (s : State) : (setRing r g s).con = s.con := rfl

@[simp] theorem setRing_thm (r : Nat) (g : Ring → Ring) (s : State) : (setRing r g s).thm = s.thm := rfl

@[simp] theorem setRing_pair (r : Nat) (g : Ring → Ring) (s : State) : (setRing r g s).pair = s.pair := rfl

@[simp] theorem setRing_fab (r : Nat) (g : Ring → Ring) (s : State) : (setRing r g s).fab = s.fab := rfl

@[simp] theorem setRing_tim (r : Nat) (g : Ring → Ring) (s : State) : (setRing r g s).tim = s.tim := rfl

@[simp] theorem setRing_bus (r : Nat) (g : Ring → Ring) (s : State) : (setRing r g s).bus = s.bus := rfl

@[simp] theorem setRing_upd (r : Nat) (g : Ring → Ring) (s : State) : (setRing r g s).upd = s.upd := rfl

@[simp] theorem setRing_rings_tap (r : Nat) (g : Ring → Ring) (s : State) : (setRing r g s).rings.tap = s.rings.tap := rfl

@[simp] theorem setRing_rings_cells (r : Nat) (g : Ring → Ring) (s : State) : (setRing r g s).rings.cells = s.rings.cells := rfl

@[simp] theorem setRing_rings_temps (r : Nat) (g : Ring → Ring) (s : State) : (setRing r g s).rings.temps = s.rings.temps := rfl

@[simp] theorem setRing_rings_mark (r : Nat) (g : Ring → Ring) (s : State) : (setRing r g s).rings.mark = s.rings.mark := rfl

@[simp] theorem setTap_pending (i : Nat) (g : Tap → Tap) (s : State) : (setTap i g s).pending = s.pending := rfl

@[simp] theorem setTap_now (i : Nat) (g : Tap → Tap) (s : State) : (setTap i g s).now = s.now := rfl

@[simp] theorem setTap_out (i : Nat) (g : Tap → Tap) (s : State) : (setTap i g s).out = s.out := rfl

@[simp] theorem setTap_core (i : Nat) (g : Tap → Tap) (s : State) : (setTap i g s).core = s.core := rfl

@[simp] theorem setTap_isl (i : Nat) (g : Tap → Tap) (s : State) : (setTap i g s).isl = s.isl := rfl

@[simp] theorem setTap_mbx (i : Nat) (g : Tap → Tap) (s : State) : (setTap i g s).mbx = s.mbx := rfl

@[simp] theorem setTap_well (i : Nat) (g : Tap → Tap) (s : State) : (setTap i g s).well = s.well := rfl

@[simp] theorem setTap_est (i : Nat) (g : Tap → Tap) (s : State) : (setTap i g s).est = s.est := rfl

@[simp] theorem setTap_imp (i : Nat) (g : Tap → Tap) (s : State) : (setTap i g s).imp = s.imp := rfl

@[simp] theorem setTap_ctrl (i : Nat) (g : Tap → Tap) (s : State) : (setTap i g s).ctrl = s.ctrl := rfl

@[simp] theorem setTap_conv (i : Nat) (g : Tap → Tap) (s : State) : (setTap i g s).conv = s.conv := rfl

@[simp] theorem setTap_disp (i : Nat) (g : Tap → Tap) (s : State) : (setTap i g s).disp = s.disp := rfl

@[simp] theorem setTap_saf (i : Nat) (g : Tap → Tap) (s : State) : (setTap i g s).saf = s.saf := rfl

@[simp] theorem setTap_con (i : Nat) (g : Tap → Tap) (s : State) : (setTap i g s).con = s.con := rfl

@[simp] theorem setTap_thm (i : Nat) (g : Tap → Tap) (s : State) : (setTap i g s).thm = s.thm := rfl

@[simp] theorem setTap_pair (i : Nat) (g : Tap → Tap) (s : State) : (setTap i g s).pair = s.pair := rfl

@[simp] theorem setTap_fab (i : Nat) (g : Tap → Tap) (s : State) : (setTap i g s).fab = s.fab := rfl

@[simp] theorem setTap_tim (i : Nat) (g : Tap → Tap) (s : State) : (setTap i g s).tim = s.tim := rfl

@[simp] theorem setTap_bus (i : Nat) (g : Tap → Tap) (s : State) : (setTap i g s).bus = s.bus := rfl

@[simp] theorem setTap_upd (i : Nat) (g : Tap → Tap) (s : State) : (setTap i g s).upd = s.upd := rfl

@[simp] theorem setTap_rings_ring (i : Nat) (g : Tap → Tap) (s : State) : (setTap i g s).rings.ring = s.rings.ring := rfl

@[simp] theorem setTap_rings_cells (i : Nat) (g : Tap → Tap) (s : State) : (setTap i g s).rings.cells = s.rings.cells := rfl

@[simp] theorem setTap_rings_temps (i : Nat) (g : Tap → Tap) (s : State) : (setTap i g s).rings.temps = s.rings.temps := rfl

@[simp] theorem setTap_rings_mark (i : Nat) (g : Tap → Tap) (s : State) : (setTap i g s).rings.mark = s.rings.mark := rfl

@[simp] theorem setCoil_pending (n : Nat) (g : CoilOut → CoilOut) (s : State) : (setCoil n g s).pending = s.pending := rfl

@[simp] theorem setCoil_now (n : Nat) (g : CoilOut → CoilOut) (s : State) : (setCoil n g s).now = s.now := rfl

@[simp] theorem setCoil_out (n : Nat) (g : CoilOut → CoilOut) (s : State) : (setCoil n g s).out = s.out := rfl

@[simp] theorem setCoil_core (n : Nat) (g : CoilOut → CoilOut) (s : State) : (setCoil n g s).core = s.core := rfl

@[simp] theorem setCoil_isl (n : Nat) (g : CoilOut → CoilOut) (s : State) : (setCoil n g s).isl = s.isl := rfl

@[simp] theorem setCoil_mbx (n : Nat) (g : CoilOut → CoilOut) (s : State) : (setCoil n g s).mbx = s.mbx := rfl

@[simp] theorem setCoil_well (n : Nat) (g : CoilOut → CoilOut) (s : State) : (setCoil n g s).well = s.well := rfl

@[simp] theorem setCoil_rings (n : Nat) (g : CoilOut → CoilOut) (s : State) : (setCoil n g s).rings = s.rings := rfl

@[simp] theorem setCoil_est (n : Nat) (g : CoilOut → CoilOut) (s : State) : (setCoil n g s).est = s.est := rfl

@[simp] theorem setCoil_imp (n : Nat) (g : CoilOut → CoilOut) (s : State) : (setCoil n g s).imp = s.imp := rfl

@[simp] theorem setCoil_ctrl (n : Nat) (g : CoilOut → CoilOut) (s : State) : (setCoil n g s).ctrl = s.ctrl := rfl

@[simp] theorem setCoil_conv (n : Nat) (g : CoilOut → CoilOut) (s : State) : (setCoil n g s).conv = s.conv := rfl

@[simp] theorem setCoil_disp (n : Nat) (g : CoilOut → CoilOut) (s : State) : (setCoil n g s).disp = s.disp := rfl

@[simp] theorem setCoil_saf (n : Nat) (g : CoilOut → CoilOut) (s : State) : (setCoil n g s).saf = s.saf := rfl

@[simp] theorem setCoil_thm (n : Nat) (g : CoilOut → CoilOut) (s : State) : (setCoil n g s).thm = s.thm := rfl

@[simp] theorem setCoil_pair (n : Nat) (g : CoilOut → CoilOut) (s : State) : (setCoil n g s).pair = s.pair := rfl

@[simp] theorem setCoil_fab (n : Nat) (g : CoilOut → CoilOut) (s : State) : (setCoil n g s).fab = s.fab := rfl

@[simp] theorem setCoil_tim (n : Nat) (g : CoilOut → CoilOut) (s : State) : (setCoil n g s).tim = s.tim := rfl

@[simp] theorem setCoil_bus (n : Nat) (g : CoilOut → CoilOut) (s : State) : (setCoil n g s).bus = s.bus := rfl

@[simp] theorem setCoil_upd (n : Nat) (g : CoilOut → CoilOut) (s : State) : (setCoil n g s).upd = s.upd := rfl

@[simp] theorem setCoil_con_attempt (n : Nat) (g : CoilOut → CoilOut) (s : State) : (setCoil n g s).con.attempt = s.con.attempt := rfl

@[simp] theorem setCoil_con_history (n : Nat) (g : CoilOut → CoilOut) (s : State) : (setCoil n g s).con.history = s.con.history := rfl

@[simp] theorem setCoil_con_conn (n : Nat) (g : CoilOut → CoilOut) (s : State) : (setCoil n g s).con.conn = s.con.conn := rfl

@[simp] theorem setCoil_con_opening (n : Nat) (g : CoilOut → CoilOut) (s : State) : (setCoil n g s).con.opening = s.con.opening := rfl

@[simp] theorem setCoil_con_energy (n : Nat) (g : CoilOut → CoilOut) (s : State) : (setCoil n g s).con.energy = s.con.energy := rfl

@[simp] theorem setIsland_pending (k : Nat) (g : Island → Island) (s : State) : (setIsland k g s).pending = s.pending := rfl

@[simp] theorem setIsland_now (k : Nat) (g : Island → Island) (s : State) : (setIsland k g s).now = s.now := rfl

@[simp] theorem setIsland_out (k : Nat) (g : Island → Island) (s : State) : (setIsland k g s).out = s.out := rfl

@[simp] theorem setIsland_core (k : Nat) (g : Island → Island) (s : State) : (setIsland k g s).core = s.core := rfl

@[simp] theorem setIsland_mbx (k : Nat) (g : Island → Island) (s : State) : (setIsland k g s).mbx = s.mbx := rfl

@[simp] theorem setIsland_well (k : Nat) (g : Island → Island) (s : State) : (setIsland k g s).well = s.well := rfl

@[simp] theorem setIsland_rings (k : Nat) (g : Island → Island) (s : State) : (setIsland k g s).rings = s.rings := rfl

@[simp] theorem setIsland_est (k : Nat) (g : Island → Island) (s : State) : (setIsland k g s).est = s.est := rfl

@[simp] theorem setIsland_imp (k : Nat) (g : Island → Island) (s : State) : (setIsland k g s).imp = s.imp := rfl

@[simp] theorem setIsland_ctrl (k : Nat) (g : Island → Island) (s : State) : (setIsland k g s).ctrl = s.ctrl := rfl

@[simp] theorem setIsland_conv (k : Nat) (g : Island → Island) (s : State) : (setIsland k g s).conv = s.conv := rfl

@[simp] theorem setIsland_disp (k : Nat) (g : Island → Island) (s : State) : (setIsland k g s).disp = s.disp := rfl

@[simp] theorem setIsland_saf (k : Nat) (g : Island → Island) (s : State) : (setIsland k g s).saf = s.saf := rfl

@[simp] theorem setIsland_con (k : Nat) (g : Island → Island) (s : State) : (setIsland k g s).con = s.con := rfl

@[simp] theorem setIsland_thm (k : Nat) (g : Island → Island) (s : State) : (setIsland k g s).thm = s.thm := rfl

@[simp] theorem setIsland_pair (k : Nat) (g : Island → Island) (s : State) : (setIsland k g s).pair = s.pair := rfl

@[simp] theorem setIsland_fab (k : Nat) (g : Island → Island) (s : State) : (setIsland k g s).fab = s.fab := rfl

@[simp] theorem setIsland_tim (k : Nat) (g : Island → Island) (s : State) : (setIsland k g s).tim = s.tim := rfl

@[simp] theorem setIsland_bus (k : Nat) (g : Island → Island) (s : State) : (setIsland k g s).bus = s.bus := rfl

@[simp] theorem setIsland_upd (k : Nat) (g : Island → Island) (s : State) : (setIsland k g s).upd = s.upd := rfl

@[simp] theorem setIsland_isl_timeouts (k : Nat) (g : Island → Island) (s : State) : (setIsland k g s).isl.timeouts = s.isl.timeouts := rfl

@[simp] theorem setPlane_pending (p : Nat) (g : Plane → Plane) (s : State) : (setPlane p g s).pending = s.pending := rfl

@[simp] theorem setPlane_now (p : Nat) (g : Plane → Plane) (s : State) : (setPlane p g s).now = s.now := rfl

@[simp] theorem setPlane_out (p : Nat) (g : Plane → Plane) (s : State) : (setPlane p g s).out = s.out := rfl

@[simp] theorem setPlane_core (p : Nat) (g : Plane → Plane) (s : State) : (setPlane p g s).core = s.core := rfl

@[simp] theorem setPlane_isl (p : Nat) (g : Plane → Plane) (s : State) : (setPlane p g s).isl = s.isl := rfl

@[simp] theorem setPlane_mbx (p : Nat) (g : Plane → Plane) (s : State) : (setPlane p g s).mbx = s.mbx := rfl

@[simp] theorem setPlane_well (p : Nat) (g : Plane → Plane) (s : State) : (setPlane p g s).well = s.well := rfl

@[simp] theorem setPlane_rings (p : Nat) (g : Plane → Plane) (s : State) : (setPlane p g s).rings = s.rings := rfl

@[simp] theorem setPlane_est (p : Nat) (g : Plane → Plane) (s : State) : (setPlane p g s).est = s.est := rfl

@[simp] theorem setPlane_imp (p : Nat) (g : Plane → Plane) (s : State) : (setPlane p g s).imp = s.imp := rfl

@[simp] theorem setPlane_ctrl (p : Nat) (g : Plane → Plane) (s : State) : (setPlane p g s).ctrl = s.ctrl := rfl

@[simp] theorem setPlane_conv (p : Nat) (g : Plane → Plane) (s : State) : (setPlane p g s).conv = s.conv := rfl

@[simp] theorem setPlane_disp (p : Nat) (g : Plane → Plane) (s : State) : (setPlane p g s).disp = s.disp := rfl

@[simp] theorem setPlane_saf (p : Nat) (g : Plane → Plane) (s : State) : (setPlane p g s).saf = s.saf := rfl

@[simp] theorem setPlane_con (p : Nat) (g : Plane → Plane) (s : State) : (setPlane p g s).con = s.con := rfl

@[simp] theorem setPlane_thm (p : Nat) (g : Plane → Plane) (s : State) : (setPlane p g s).thm = s.thm := rfl

@[simp] theorem setPlane_pair (p : Nat) (g : Plane → Plane) (s : State) : (setPlane p g s).pair = s.pair := rfl

@[simp] theorem setPlane_tim (p : Nat) (g : Plane → Plane) (s : State) : (setPlane p g s).tim = s.tim := rfl

@[simp] theorem setPlane_bus (p : Nat) (g : Plane → Plane) (s : State) : (setPlane p g s).bus = s.bus := rfl

@[simp] theorem setPlane_upd (p : Nat) (g : Plane → Plane) (s : State) : (setPlane p g s).upd = s.upd := rfl

@[simp] theorem setPlane_fab_node (p : Nat) (g : Plane → Plane) (s : State) : (setPlane p g s).fab.node = s.fab.node := rfl

@[simp] theorem setPlane_fab_flows (p : Nat) (g : Plane → Plane) (s : State) : (setPlane p g s).fab.flows = s.fab.flows := rfl

@[simp] theorem setPlane_fab_provisional (p : Nat) (g : Plane → Plane) (s : State) : (setPlane p g s).fab.provisional = s.fab.provisional := rfl

@[simp] theorem setPlane_fab_nextNode (p : Nat) (g : Plane → Plane) (s : State) : (setPlane p g s).fab.nextNode = s.fab.nextNode := rfl

@[simp] theorem setPlane_fab_duplicate (p : Nat) (g : Plane → Plane) (s : State) : (setPlane p g s).fab.duplicate = s.fab.duplicate := rfl

@[simp] theorem setPlane_fab_full (p : Nat) (g : Plane → Plane) (s : State) : (setPlane p g s).fab.full = s.fab.full := rfl

/-! ## The recorder -/

@[simp] theorem pushRecord_pending (code sev : Nat) (data : List Int) (s : State) : (pushRecord code sev data s).pending = s.pending := by
  unfold pushRecord; split <;> rfl

@[simp] theorem pushRecord_now (code sev : Nat) (data : List Int) (s : State) : (pushRecord code sev data s).now = s.now := by
  unfold pushRecord; split <;> rfl

@[simp] theorem pushRecord_out (code sev : Nat) (data : List Int) (s : State) : (pushRecord code sev data s).out = s.out := by
  unfold pushRecord; split <;> rfl

@[simp] theorem pushRecord_core (code sev : Nat) (data : List Int) (s : State) : (pushRecord code sev data s).core = s.core := by
  unfold pushRecord; split <;> rfl

@[simp] theorem pushRecord_isl (code sev : Nat) (data : List Int) (s : State) : (pushRecord code sev data s).isl = s.isl := by
  unfold pushRecord; split <;> rfl

@[simp] theorem pushRecord_mbx (code sev : Nat) (data : List Int) (s : State) : (pushRecord code sev data s).mbx = s.mbx := by
  unfold pushRecord; split <;> rfl

@[simp] theorem pushRecord_rings (code sev : Nat) (data : List Int) (s : State) : (pushRecord code sev data s).rings = s.rings := by
  unfold pushRecord; split <;> rfl

@[simp] theorem pushRecord_est (code sev : Nat) (data : List Int) (s : State) : (pushRecord code sev data s).est = s.est := by
  unfold pushRecord; split <;> rfl

@[simp] theorem pushRecord_imp (code sev : Nat) (data : List Int) (s : State) : (pushRecord code sev data s).imp = s.imp := by
  unfold pushRecord; split <;> rfl

@[simp] theorem pushRecord_ctrl (code sev : Nat) (data : List Int) (s : State) : (pushRecord code sev data s).ctrl = s.ctrl := by
  unfold pushRecord; split <;> rfl

@[simp] theorem pushRecord_conv (code sev : Nat) (data : List Int) (s : State) : (pushRecord code sev data s).conv = s.conv := by
  unfold pushRecord; split <;> rfl

@[simp] theorem pushRecord_disp (code sev : Nat) (data : List Int) (s : State) : (pushRecord code sev data s).disp = s.disp := by
  unfold pushRecord; split <;> rfl

@[simp] theorem pushRecord_saf (code sev : Nat) (data : List Int) (s : State) : (pushRecord code sev data s).saf = s.saf := by
  unfold pushRecord; split <;> rfl

@[simp] theorem pushRecord_con (code sev : Nat) (data : List Int) (s : State) : (pushRecord code sev data s).con = s.con := by
  unfold pushRecord; split <;> rfl

@[simp] theorem pushRecord_thm (code sev : Nat) (data : List Int) (s : State) : (pushRecord code sev data s).thm = s.thm := by
  unfold pushRecord; split <;> rfl

@[simp] theorem pushRecord_pair (code sev : Nat) (data : List Int) (s : State) : (pushRecord code sev data s).pair = s.pair := by
  unfold pushRecord; split <;> rfl

@[simp] theorem pushRecord_fab (code sev : Nat) (data : List Int) (s : State) : (pushRecord code sev data s).fab = s.fab := by
  unfold pushRecord; split <;> rfl

@[simp] theorem pushRecord_tim (code sev : Nat) (data : List Int) (s : State) : (pushRecord code sev data s).tim = s.tim := by
  unfold pushRecord; split <;> rfl

@[simp] theorem pushRecord_bus (code sev : Nat) (data : List Int) (s : State) : (pushRecord code sev data s).bus = s.bus := by
  unfold pushRecord; split <;> rfl

@[simp] theorem pushRecord_upd (code sev : Nat) (data : List Int) (s : State) : (pushRecord code sev data s).upd = s.upd := by
  unfold pushRecord; split <;> rfl

@[simp] theorem startFlush_pending  (s : State) : (startFlush s).pending = s.pending := by
  unfold startFlush; split
  · cases s.well.drops <;> simp
  · rfl

@[simp] theorem startFlush_now  (s : State) : (startFlush s).now = s.now := by
  unfold startFlush; split
  · cases s.well.drops <;> simp
  · rfl

@[simp] theorem startFlush_out  (s : State) : (startFlush s).out = s.out := by
  unfold startFlush; split
  · cases s.well.drops <;> simp
  · rfl

@[simp] theorem startFlush_core  (s : State) : (startFlush s).core = s.core := by
  unfold startFlush; split
  · cases s.well.drops <;> simp
  · rfl

@[simp] theorem startFlush_isl  (s : State) : (startFlush s).isl = s.isl := by
  unfold startFlush; split
  · cases s.well.drops <;> simp
  · rfl

@[simp] theorem startFlush_mbx  (s : State) : (startFlush s).mbx = s.mbx := by
  unfold startFlush; split
  · cases s.well.drops <;> simp
  · rfl

@[simp] theorem startFlush_rings  (s : State) : (startFlush s).rings = s.rings := by
  unfold startFlush; split
  · cases s.well.drops <;> simp
  · rfl

@[simp] theorem startFlush_est  (s : State) : (startFlush s).est = s.est := by
  unfold startFlush; split
  · cases s.well.drops <;> simp
  · rfl

@[simp] theorem startFlush_imp  (s : State) : (startFlush s).imp = s.imp := by
  unfold startFlush; split
  · cases s.well.drops <;> simp
  · rfl

@[simp] theorem startFlush_ctrl  (s : State) : (startFlush s).ctrl = s.ctrl := by
  unfold startFlush; split
  · cases s.well.drops <;> simp
  · rfl

@[simp] theorem startFlush_conv  (s : State) : (startFlush s).conv = s.conv := by
  unfold startFlush; split
  · cases s.well.drops <;> simp
  · rfl

@[simp] theorem startFlush_disp  (s : State) : (startFlush s).disp = s.disp := by
  unfold startFlush; split
  · cases s.well.drops <;> simp
  · rfl

@[simp] theorem startFlush_saf  (s : State) : (startFlush s).saf = s.saf := by
  unfold startFlush; split
  · cases s.well.drops <;> simp
  · rfl

@[simp] theorem startFlush_con  (s : State) : (startFlush s).con = s.con := by
  unfold startFlush; split
  · cases s.well.drops <;> simp
  · rfl

@[simp] theorem startFlush_thm  (s : State) : (startFlush s).thm = s.thm := by
  unfold startFlush; split
  · cases s.well.drops <;> simp
  · rfl

@[simp] theorem startFlush_pair  (s : State) : (startFlush s).pair = s.pair := by
  unfold startFlush; split
  · cases s.well.drops <;> simp
  · rfl

@[simp] theorem startFlush_fab  (s : State) : (startFlush s).fab = s.fab := by
  unfold startFlush; split
  · cases s.well.drops <;> simp
  · rfl

@[simp] theorem startFlush_tim  (s : State) : (startFlush s).tim = s.tim := by
  unfold startFlush; split
  · cases s.well.drops <;> simp
  · rfl

@[simp] theorem startFlush_bus  (s : State) : (startFlush s).bus = s.bus := by
  unfold startFlush; split
  · cases s.well.drops <;> simp
  · rfl

@[simp] theorem startFlush_upd  (s : State) : (startFlush s).upd = s.upd := by
  unfold startFlush; split
  · cases s.well.drops <;> simp
  · rfl

@[simp] theorem recordAt_pending (time code sev : Nat) (data : List Int) (s : State) : (recordAt time code sev data s).pending = s.pending := by
  unfold recordAt; dsimp only; split
  · rfl
  · split <;> split <;> simp

@[simp] theorem recordAt_now (time code sev : Nat) (data : List Int) (s : State) : (recordAt time code sev data s).now = s.now := by
  unfold recordAt; dsimp only; split
  · rfl
  · split <;> split <;> simp

@[simp] theorem recordAt_out (time code sev : Nat) (data : List Int) (s : State) : (recordAt time code sev data s).out = s.out := by
  unfold recordAt; dsimp only; split
  · rfl
  · split <;> split <;> simp

@[simp] theorem recordAt_isl (time code sev : Nat) (data : List Int) (s : State) : (recordAt time code sev data s).isl = s.isl := by
  unfold recordAt; dsimp only; split
  · rfl
  · split <;> split <;> simp

@[simp] theorem recordAt_mbx (time code sev : Nat) (data : List Int) (s : State) : (recordAt time code sev data s).mbx = s.mbx := by
  unfold recordAt; dsimp only; split
  · rfl
  · split <;> split <;> simp

@[simp] theorem recordAt_rings (time code sev : Nat) (data : List Int) (s : State) : (recordAt time code sev data s).rings = s.rings := by
  unfold recordAt; dsimp only; split
  · rfl
  · split <;> split <;> simp

@[simp] theorem recordAt_est (time code sev : Nat) (data : List Int) (s : State) : (recordAt time code sev data s).est = s.est := by
  unfold recordAt; dsimp only; split
  · rfl
  · split <;> split <;> simp

@[simp] theorem recordAt_imp (time code sev : Nat) (data : List Int) (s : State) : (recordAt time code sev data s).imp = s.imp := by
  unfold recordAt; dsimp only; split
  · rfl
  · split <;> split <;> simp

@[simp] theorem recordAt_ctrl (time code sev : Nat) (data : List Int) (s : State) : (recordAt time code sev data s).ctrl = s.ctrl := by
  unfold recordAt; dsimp only; split
  · rfl
  · split <;> split <;> simp

@[simp] theorem recordAt_conv (time code sev : Nat) (data : List Int) (s : State) : (recordAt time code sev data s).conv = s.conv := by
  unfold recordAt; dsimp only; split
  · rfl
  · split <;> split <;> simp

@[simp] theorem recordAt_disp (time code sev : Nat) (data : List Int) (s : State) : (recordAt time code sev data s).disp = s.disp := by
  unfold recordAt; dsimp only; split
  · rfl
  · split <;> split <;> simp

@[simp] theorem recordAt_saf (time code sev : Nat) (data : List Int) (s : State) : (recordAt time code sev data s).saf = s.saf := by
  unfold recordAt; dsimp only; split
  · rfl
  · split <;> split <;> simp

@[simp] theorem recordAt_con (time code sev : Nat) (data : List Int) (s : State) : (recordAt time code sev data s).con = s.con := by
  unfold recordAt; dsimp only; split
  · rfl
  · split <;> split <;> simp

@[simp] theorem recordAt_thm (time code sev : Nat) (data : List Int) (s : State) : (recordAt time code sev data s).thm = s.thm := by
  unfold recordAt; dsimp only; split
  · rfl
  · split <;> split <;> simp

@[simp] theorem recordAt_pair (time code sev : Nat) (data : List Int) (s : State) : (recordAt time code sev data s).pair = s.pair := by
  unfold recordAt; dsimp only; split
  · rfl
  · split <;> split <;> simp

@[simp] theorem recordAt_fab (time code sev : Nat) (data : List Int) (s : State) : (recordAt time code sev data s).fab = s.fab := by
  unfold recordAt; dsimp only; split
  · rfl
  · split <;> split <;> simp

@[simp] theorem recordAt_tim (time code sev : Nat) (data : List Int) (s : State) : (recordAt time code sev data s).tim = s.tim := by
  unfold recordAt; dsimp only; split
  · rfl
  · split <;> split <;> simp

@[simp] theorem recordAt_bus (time code sev : Nat) (data : List Int) (s : State) : (recordAt time code sev data s).bus = s.bus := by
  unfold recordAt; dsimp only; split
  · rfl
  · split <;> split <;> simp

@[simp] theorem recordAt_upd (time code sev : Nat) (data : List Int) (s : State) : (recordAt time code sev data s).upd = s.upd := by
  unfold recordAt; dsimp only; split
  · rfl
  · split <;> split <;> simp

@[simp] theorem recordAt_core_mode (time code sev : Nat) (data : List Int) (s : State) : (recordAt time code sev data s).core.mode = s.core.mode := by
  unfold recordAt; dsimp only; split
  · rfl
  · split <;> split <;> simp

@[simp] theorem recordAt_core_prevMode (time code sev : Nat) (data : List Int) (s : State) : (recordAt time code sev data s).core.prevMode = s.core.prevMode := by
  unfold recordAt; dsimp only; split
  · rfl
  · split <;> split <;> simp

@[simp] theorem recordAt_core_modeSince (time code sev : Nat) (data : List Int) (s : State) : (recordAt time code sev data s).core.modeSince = s.core.modeSince := by
  unfold recordAt; dsimp only; split
  · rfl
  · split <;> split <;> simp

@[simp] theorem recordAt_core_lastCause (time code sev : Nat) (data : List Int) (s : State) : (recordAt time code sev data s).core.lastCause = s.core.lastCause := by
  unfold recordAt; dsimp only; split
  · rfl
  · split <;> split <;> simp

@[simp] theorem recordAt_core_power (time code sev : Nat) (data : List Int) (s : State) : (recordAt time code sev data s).core.power = s.core.power := by
  unfold recordAt; dsimp only; split
  · rfl
  · split <;> split <;> simp

@[simp] theorem recordAt_core_auxOk (time code sev : Nat) (data : List Int) (s : State) : (recordAt time code sev data s).core.auxOk = s.core.auxOk := by
  unfold recordAt; dsimp only; split
  · rfl
  · split <;> split <;> simp

@[simp] theorem recordAt_core_auxLost (time code sev : Nat) (data : List Int) (s : State) : (recordAt time code sev data s).core.auxLost = s.core.auxLost := by
  unfold recordAt; dsimp only; split
  · rfl
  · split <;> split <;> simp

@[simp] theorem recordAt_core_pairStandbyProfile (time code sev : Nat) (data : List Int) (s : State) : (recordAt time code sev data s).core.pairStandbyProfile = s.core.pairStandbyProfile := by
  unfold recordAt; dsimp only; split
  · rfl
  · split <;> split <;> simp

@[simp] theorem recordAt_core_shelfPowerFail (time code sev : Nat) (data : List Int) (s : State) : (recordAt time code sev data s).core.shelfPowerFail = s.core.shelfPowerFail := by
  unfold recordAt; dsimp only; split
  · rfl
  · split <;> split <;> simp

@[simp] theorem recordAt_core_wakeArmed (time code sev : Nat) (data : List Int) (s : State) : (recordAt time code sev data s).core.wakeArmed = s.core.wakeArmed := by
  unfold recordAt; dsimp only; split
  · rfl
  · split <;> split <;> simp

@[simp] theorem recordAt_core_bootFails (time code sev : Nat) (data : List Int) (s : State) : (recordAt time code sev data s).core.bootFails = s.core.bootFails := by
  unfold recordAt; dsimp only; split
  · rfl
  · split <;> split <;> simp

@[simp] theorem recordAt_core_booting (time code sev : Nat) (data : List Int) (s : State) : (recordAt time code sev data s).core.booting = s.core.booting := by
  unfold recordAt; dsimp only; split
  · rfl
  · split <;> split <;> simp

@[simp] theorem recordAt_core_bootRetryAt (time code sev : Nat) (data : List Int) (s : State) : (recordAt time code sev data s).core.bootRetryAt = s.core.bootRetryAt := by
  unfold recordAt; dsimp only; split
  · rfl
  · split <;> split <;> simp

@[simp] theorem recordAt_core_nvmTripped (time code sev : Nat) (data : List Int) (s : State) : (recordAt time code sev data s).core.nvmTripped = s.core.nvmTripped := by
  unfold recordAt; dsimp only; split
  · rfl
  · split <;> split <;> simp

@[simp] theorem recordAt_core_wakeAt (time code sev : Nat) (data : List Int) (s : State) : (recordAt time code sev data s).core.wakeAt = s.core.wakeAt := by
  unfold recordAt; dsimp only; split
  · rfl
  · split <;> split <;> simp

@[simp] theorem recordAt_core_quietSince (time code sev : Nat) (data : List Int) (s : State) : (recordAt time code sev data s).core.quietSince = s.core.quietSince := by
  unfold recordAt; dsimp only; split
  · rfl
  · split <;> split <;> simp

@[simp] theorem recordAt_core_cisternJ (time code sev : Nat) (data : List Int) (s : State) : (recordAt time code sev data s).core.cisternJ = s.core.cisternJ := by
  unfold recordAt; dsimp only; split
  · rfl
  · split <;> split <;> simp

@[simp] theorem recordAt_core_cisternNow (time code sev : Nat) (data : List Int) (s : State) : (recordAt time code sev data s).core.cisternNow = s.core.cisternNow := by
  unfold recordAt; dsimp only; split
  · rfl
  · split <;> split <;> simp

@[simp] theorem recordAt_core_cisternLow (time code sev : Nat) (data : List Int) (s : State) : (recordAt time code sev data s).core.cisternLow = s.core.cisternLow := by
  unfold recordAt; dsimp only; split
  · rfl
  · split <;> split <;> simp

@[simp] theorem recordAt_core_cisternWorn (time code sev : Nat) (data : List Int) (s : State) : (recordAt time code sev data s).core.cisternWorn = s.core.cisternWorn := by
  unfold recordAt; dsimp only; split
  · rfl
  · split <;> split <;> simp

@[simp] theorem recordAt_core_backupLow (time code sev : Nat) (data : List Int) (s : State) : (recordAt time code sev data s).core.backupLow = s.core.backupLow := by
  unfold recordAt; dsimp only; split
  · rfl
  · split <;> split <;> simp

@[simp] theorem recordAt_core_backupMv (time code sev : Nat) (data : List Int) (s : State) : (recordAt time code sev data s).core.backupMv = s.core.backupMv := by
  unfold recordAt; dsimp only; split
  · rfl
  · split <;> split <;> simp

@[simp] theorem recordAt_core_opSeconds (time code sev : Nat) (data : List Int) (s : State) : (recordAt time code sev data s).core.opSeconds = s.core.opSeconds := by
  unfold recordAt; dsimp only; split
  · rfl
  · split <;> split <;> simp

@[simp] theorem recordAt_core_bootAt (time code sev : Nat) (data : List Int) (s : State) : (recordAt time code sev data s).core.bootAt = s.core.bootAt := by
  unfold recordAt; dsimp only; split
  · rfl
  · split <;> split <;> simp

@[simp] theorem recordAt_core_bootStamp (time code sev : Nat) (data : List Int) (s : State) : (recordAt time code sev data s).core.bootStamp = s.core.bootStamp := by
  unfold recordAt; dsimp only; split
  · rfl
  · split <;> split <;> simp

@[simp] theorem recordAt_core_powerCycles (time code sev : Nat) (data : List Int) (s : State) : (recordAt time code sev data s).core.powerCycles = s.core.powerCycles := by
  unfold recordAt; dsimp only; split
  · rfl
  · split <;> split <;> simp

@[simp] theorem recordAt_core_ownerLock (time code sev : Nat) (data : List Int) (s : State) : (recordAt time code sev data s).core.ownerLock = s.core.ownerLock := by
  unfold recordAt; dsimp only; split
  · rfl
  · split <;> split <;> simp

@[simp] theorem recordAt_core_keyOperator (time code sev : Nat) (data : List Int) (s : State) : (recordAt time code sev data s).core.keyOperator = s.core.keyOperator := by
  unfold recordAt; dsimp only; split
  · rfl
  · split <;> split <;> simp

@[simp] theorem recordAt_core_keyEngineer (time code sev : Nat) (data : List Int) (s : State) : (recordAt time code sev data s).core.keyEngineer = s.core.keyEngineer := by
  unfold recordAt; dsimp only; split
  · rfl
  · split <;> split <;> simp

@[simp] theorem recordAt_core_keyOwner (time code sev : Nat) (data : List Int) (s : State) : (recordAt time code sev data s).core.keyOwner = s.core.keyOwner := by
  unfold recordAt; dsimp only; split
  · rfl
  · split <;> split <;> simp

@[simp] theorem recordAt_core_serial (time code sev : Nat) (data : List Int) (s : State) : (recordAt time code sev data s).core.serial = s.core.serial := by
  unfold recordAt; dsimp only; split
  · rfl
  · split <;> split <;> simp

@[simp] theorem recordAt_core_part (time code sev : Nat) (data : List Int) (s : State) : (recordAt time code sev data s).core.part = s.core.part := by
  unfold recordAt; dsimp only; split
  · rfl
  · split <;> split <;> simp

@[simp] theorem recordAt_core_hwLevel (time code sev : Nat) (data : List Int) (s : State) : (recordAt time code sev data s).core.hwLevel = s.core.hwLevel := by
  unfold recordAt; dsimp only; split
  · rfl
  · split <;> split <;> simp

@[simp] theorem recordAt_core_seals (time code sev : Nat) (data : List Int) (s : State) : (recordAt time code sev data s).core.seals = s.core.seals := by
  unfold recordAt; dsimp only; split
  · rfl
  · split <;> split <;> simp

@[simp] theorem recordAt_core_clockFault (time code sev : Nat) (data : List Int) (s : State) : (recordAt time code sev data s).core.clockFault = s.core.clockFault := by
  unfold recordAt; dsimp only; split
  · rfl
  · split <;> split <;> simp

@[simp] theorem recordAt_core_spireUp (time code sev : Nat) (data : List Int) (s : State) : (recordAt time code sev data s).core.spireUp = s.core.spireUp := by
  unfold recordAt; dsimp only; split
  · rfl
  · split <;> split <;> simp

@[simp] theorem recordAt_core_stOk (time code sev : Nat) (data : List Int) (s : State) : (recordAt time code sev data s).core.stOk = s.core.stOk := by
  unfold recordAt; dsimp only; split
  · rfl
  · split <;> split <;> simp

@[simp] theorem recordAt_core_draws (time code sev : Nat) (data : List Int) (s : State) : (recordAt time code sev data s).core.draws = s.core.draws := by
  unfold recordAt; dsimp only; split
  · rfl
  · split <;> split <;> simp

@[simp] theorem record_pending (code sev : Nat) (data : List Int) (s : State) : (record code sev data s).pending = s.pending := recordAt_pending _ _ _ _ _

@[simp] theorem record_now (code sev : Nat) (data : List Int) (s : State) : (record code sev data s).now = s.now := recordAt_now _ _ _ _ _

@[simp] theorem record_out (code sev : Nat) (data : List Int) (s : State) : (record code sev data s).out = s.out := recordAt_out _ _ _ _ _

@[simp] theorem record_isl (code sev : Nat) (data : List Int) (s : State) : (record code sev data s).isl = s.isl := recordAt_isl _ _ _ _ _

@[simp] theorem record_mbx (code sev : Nat) (data : List Int) (s : State) : (record code sev data s).mbx = s.mbx := recordAt_mbx _ _ _ _ _

@[simp] theorem record_rings (code sev : Nat) (data : List Int) (s : State) : (record code sev data s).rings = s.rings := recordAt_rings _ _ _ _ _

@[simp] theorem record_est (code sev : Nat) (data : List Int) (s : State) : (record code sev data s).est = s.est := recordAt_est _ _ _ _ _

@[simp] theorem record_imp (code sev : Nat) (data : List Int) (s : State) : (record code sev data s).imp = s.imp := recordAt_imp _ _ _ _ _

@[simp] theorem record_ctrl (code sev : Nat) (data : List Int) (s : State) : (record code sev data s).ctrl = s.ctrl := recordAt_ctrl _ _ _ _ _

@[simp] theorem record_conv (code sev : Nat) (data : List Int) (s : State) : (record code sev data s).conv = s.conv := recordAt_conv _ _ _ _ _

@[simp] theorem record_disp (code sev : Nat) (data : List Int) (s : State) : (record code sev data s).disp = s.disp := recordAt_disp _ _ _ _ _

@[simp] theorem record_saf (code sev : Nat) (data : List Int) (s : State) : (record code sev data s).saf = s.saf := recordAt_saf _ _ _ _ _

@[simp] theorem record_con (code sev : Nat) (data : List Int) (s : State) : (record code sev data s).con = s.con := recordAt_con _ _ _ _ _

@[simp] theorem record_thm (code sev : Nat) (data : List Int) (s : State) : (record code sev data s).thm = s.thm := recordAt_thm _ _ _ _ _

@[simp] theorem record_pair (code sev : Nat) (data : List Int) (s : State) : (record code sev data s).pair = s.pair := recordAt_pair _ _ _ _ _

@[simp] theorem record_fab (code sev : Nat) (data : List Int) (s : State) : (record code sev data s).fab = s.fab := recordAt_fab _ _ _ _ _

@[simp] theorem record_tim (code sev : Nat) (data : List Int) (s : State) : (record code sev data s).tim = s.tim := recordAt_tim _ _ _ _ _

@[simp] theorem record_bus (code sev : Nat) (data : List Int) (s : State) : (record code sev data s).bus = s.bus := recordAt_bus _ _ _ _ _

@[simp] theorem record_upd (code sev : Nat) (data : List Int) (s : State) : (record code sev data s).upd = s.upd := recordAt_upd _ _ _ _ _

@[simp] theorem record_core_mode (code sev : Nat) (data : List Int) (s : State) : (record code sev data s).core.mode = s.core.mode := recordAt_core_mode _ _ _ _ _

@[simp] theorem record_core_prevMode (code sev : Nat) (data : List Int) (s : State) : (record code sev data s).core.prevMode = s.core.prevMode := recordAt_core_prevMode _ _ _ _ _

@[simp] theorem record_core_modeSince (code sev : Nat) (data : List Int) (s : State) : (record code sev data s).core.modeSince = s.core.modeSince := recordAt_core_modeSince _ _ _ _ _

@[simp] theorem record_core_lastCause (code sev : Nat) (data : List Int) (s : State) : (record code sev data s).core.lastCause = s.core.lastCause := recordAt_core_lastCause _ _ _ _ _

@[simp] theorem record_core_power (code sev : Nat) (data : List Int) (s : State) : (record code sev data s).core.power = s.core.power := recordAt_core_power _ _ _ _ _

@[simp] theorem record_core_auxOk (code sev : Nat) (data : List Int) (s : State) : (record code sev data s).core.auxOk = s.core.auxOk := recordAt_core_auxOk _ _ _ _ _

@[simp] theorem record_core_auxLost (code sev : Nat) (data : List Int) (s : State) : (record code sev data s).core.auxLost = s.core.auxLost := recordAt_core_auxLost _ _ _ _ _

@[simp] theorem record_core_pairStandbyProfile (code sev : Nat) (data : List Int) (s : State) : (record code sev data s).core.pairStandbyProfile = s.core.pairStandbyProfile := recordAt_core_pairStandbyProfile _ _ _ _ _

@[simp] theorem record_core_shelfPowerFail (code sev : Nat) (data : List Int) (s : State) : (record code sev data s).core.shelfPowerFail = s.core.shelfPowerFail := recordAt_core_shelfPowerFail _ _ _ _ _

@[simp] theorem record_core_wakeArmed (code sev : Nat) (data : List Int) (s : State) : (record code sev data s).core.wakeArmed = s.core.wakeArmed := recordAt_core_wakeArmed _ _ _ _ _

@[simp] theorem record_core_bootFails (code sev : Nat) (data : List Int) (s : State) : (record code sev data s).core.bootFails = s.core.bootFails := recordAt_core_bootFails _ _ _ _ _

@[simp] theorem record_core_booting (code sev : Nat) (data : List Int) (s : State) : (record code sev data s).core.booting = s.core.booting := recordAt_core_booting _ _ _ _ _

@[simp] theorem record_core_bootRetryAt (code sev : Nat) (data : List Int) (s : State) : (record code sev data s).core.bootRetryAt = s.core.bootRetryAt := recordAt_core_bootRetryAt _ _ _ _ _

@[simp] theorem record_core_nvmTripped (code sev : Nat) (data : List Int) (s : State) : (record code sev data s).core.nvmTripped = s.core.nvmTripped := recordAt_core_nvmTripped _ _ _ _ _

@[simp] theorem record_core_wakeAt (code sev : Nat) (data : List Int) (s : State) : (record code sev data s).core.wakeAt = s.core.wakeAt := recordAt_core_wakeAt _ _ _ _ _

@[simp] theorem record_core_quietSince (code sev : Nat) (data : List Int) (s : State) : (record code sev data s).core.quietSince = s.core.quietSince := recordAt_core_quietSince _ _ _ _ _

@[simp] theorem record_core_cisternJ (code sev : Nat) (data : List Int) (s : State) : (record code sev data s).core.cisternJ = s.core.cisternJ := recordAt_core_cisternJ _ _ _ _ _

@[simp] theorem record_core_cisternNow (code sev : Nat) (data : List Int) (s : State) : (record code sev data s).core.cisternNow = s.core.cisternNow := recordAt_core_cisternNow _ _ _ _ _

@[simp] theorem record_core_cisternLow (code sev : Nat) (data : List Int) (s : State) : (record code sev data s).core.cisternLow = s.core.cisternLow := recordAt_core_cisternLow _ _ _ _ _

@[simp] theorem record_core_cisternWorn (code sev : Nat) (data : List Int) (s : State) : (record code sev data s).core.cisternWorn = s.core.cisternWorn := recordAt_core_cisternWorn _ _ _ _ _

@[simp] theorem record_core_backupLow (code sev : Nat) (data : List Int) (s : State) : (record code sev data s).core.backupLow = s.core.backupLow := recordAt_core_backupLow _ _ _ _ _

@[simp] theorem record_core_backupMv (code sev : Nat) (data : List Int) (s : State) : (record code sev data s).core.backupMv = s.core.backupMv := recordAt_core_backupMv _ _ _ _ _

@[simp] theorem record_core_opSeconds (code sev : Nat) (data : List Int) (s : State) : (record code sev data s).core.opSeconds = s.core.opSeconds := recordAt_core_opSeconds _ _ _ _ _

@[simp] theorem record_core_bootAt (code sev : Nat) (data : List Int) (s : State) : (record code sev data s).core.bootAt = s.core.bootAt := recordAt_core_bootAt _ _ _ _ _

@[simp] theorem record_core_bootStamp (code sev : Nat) (data : List Int) (s : State) : (record code sev data s).core.bootStamp = s.core.bootStamp := recordAt_core_bootStamp _ _ _ _ _

@[simp] theorem record_core_powerCycles (code sev : Nat) (data : List Int) (s : State) : (record code sev data s).core.powerCycles = s.core.powerCycles := recordAt_core_powerCycles _ _ _ _ _

@[simp] theorem record_core_ownerLock (code sev : Nat) (data : List Int) (s : State) : (record code sev data s).core.ownerLock = s.core.ownerLock := recordAt_core_ownerLock _ _ _ _ _

@[simp] theorem record_core_keyOperator (code sev : Nat) (data : List Int) (s : State) : (record code sev data s).core.keyOperator = s.core.keyOperator := recordAt_core_keyOperator _ _ _ _ _

@[simp] theorem record_core_keyEngineer (code sev : Nat) (data : List Int) (s : State) : (record code sev data s).core.keyEngineer = s.core.keyEngineer := recordAt_core_keyEngineer _ _ _ _ _

@[simp] theorem record_core_keyOwner (code sev : Nat) (data : List Int) (s : State) : (record code sev data s).core.keyOwner = s.core.keyOwner := recordAt_core_keyOwner _ _ _ _ _

@[simp] theorem record_core_serial (code sev : Nat) (data : List Int) (s : State) : (record code sev data s).core.serial = s.core.serial := recordAt_core_serial _ _ _ _ _

@[simp] theorem record_core_part (code sev : Nat) (data : List Int) (s : State) : (record code sev data s).core.part = s.core.part := recordAt_core_part _ _ _ _ _

@[simp] theorem record_core_hwLevel (code sev : Nat) (data : List Int) (s : State) : (record code sev data s).core.hwLevel = s.core.hwLevel := recordAt_core_hwLevel _ _ _ _ _

@[simp] theorem record_core_seals (code sev : Nat) (data : List Int) (s : State) : (record code sev data s).core.seals = s.core.seals := recordAt_core_seals _ _ _ _ _

@[simp] theorem record_core_clockFault (code sev : Nat) (data : List Int) (s : State) : (record code sev data s).core.clockFault = s.core.clockFault := recordAt_core_clockFault _ _ _ _ _

@[simp] theorem record_core_spireUp (code sev : Nat) (data : List Int) (s : State) : (record code sev data s).core.spireUp = s.core.spireUp := recordAt_core_spireUp _ _ _ _ _

@[simp] theorem record_core_stOk (code sev : Nat) (data : List Int) (s : State) : (record code sev data s).core.stOk = s.core.stOk := recordAt_core_stOk _ _ _ _ _

@[simp] theorem record_core_draws (code sev : Nat) (data : List Int) (s : State) : (record code sev data s).core.draws = s.core.draws := recordAt_core_draws _ _ _ _ _

/-! ## Parameters -/

/-- The parameters in force follow from the mailbox and safety state. -/
theorem prm_of_eq {s u : State} (hm : u.mbx = s.mbx) (hs : u.saf = s.saf) (i : Nat) : prm u i = prm s i := by
  unfold prm; rw [hm, hs]

/-- The same of a natural number. -/
theorem prmN_of_eq {s u : State} (hm : u.mbx = s.mbx) (hs : u.saf = s.saf) (i : Nat) : prmN u i = prmN s i := by
  unfold prmN; rw [prm_of_eq hm hs]

end Sys2Proof.Machine
end

