-- ==== Sys2Proof/Laws/Modes.lean ====
section
/-!
SUPPORT. Laws/Modes.lean: what a record, an attention cause and a mode change leave of the mode.
-/

namespace Sys2Proof.Machine

open Sys2Proof

/-- A state in which something has been held since `a` for `d`. -/
theorem heldOpt_some {s : State} {o : Option Nat} {a d : Nat} (h : o = some a) (h2 : a + d ≤ s.now) : heldOpt s o d = true := by
  subst h
  exact decide_eq_true h2

/-- Attention on TW-SVC changes nothing of the core. -/
@[simp] theorem attention_core (n : Nat) (s : State) : (attention n s).core = s.core := by
  unfold attention
  split <;> rfl

/-- After a mode change the module is in that mode. -/
@[simp] theorem setMode_mode (m : Mode) (cause : Nat) (s : State) : (setMode m cause s).core.mode = m := by
  unfold setMode
  split
  · rename_i h
    simpa using h
  · simp

/-- Attention on TW-SVC changes nothing of the safety function. -/
@[simp] theorem attention_saf (n : Nat) (s : State) : (attention n s).saf = s.saf := by
  unfold attention
  split <;> rfl

/-- The end of an impedance window changes nothing of the safety function. -/
@[simp] theorem impAbort_saf (cause : Nat) (s : State) : (impAbort cause s).saf = s.saf := by
  unfold impAbort
  split <;> simp

/-- A mode change changes nothing of the safety function. -/
@[simp] theorem setMode_saf (m : Mode) (cause : Nat) (s : State) : (setMode m cause s).saf = s.saf := by
  have h1 : ∀ u : State, (if u.core.mode == .run then dispatchReset u else u).saf = u.saf := by
    intro u
    split
    · unfold dispatchReset
      rw [record_saf]
      rfl
    · rfl
  have h2 : ∀ u : State, (if m == .run || m == .hold then u else impAbort Ev.impMode u).saf = u.saf := by
    intro u
    split
    · rfl
    · exact impAbort_saf ..
  unfold setMode
  split
  · rfl
  · simp only [attention_saf, record_saf]
    rw [h2, h1]

/-- A boot ends in Watch or in Tripped (R351). -/
theorem bootEnd_mode (o : BootObs) (s : State) : (bootEnd o s).core.mode = .watch ∨ (bootEnd o s).core.mode = .tripped := by
  unfold bootEnd
  split
  · right
    unfold bootTripped
    rw [setMode_mode]
  · left
    rw [setMode_mode]

/-- The CAN controllers, the mailboxes, the safety values and the seals of two states agree. -/
def CanSame (u s : State) : Prop := u.bus.can = s.bus.can ∧ u.mbx = s.mbx ∧ u.saf = s.saf ∧ u.core.seals = s.core.seals

/-- A mode change changes nothing of the CAN controllers, the mailboxes, the safety values and the seals. -/
theorem setMode_can (m : Mode) (cause : Nat) (s : State) : CanSame (setMode m cause s) s := by
  have h1 : ∀ u : State, CanSame (if u.core.mode == .run then dispatchReset u else u) u := by
    intro u
    split
    · unfold dispatchReset CanSame
      rw [record_bus, record_mbx, record_saf, record_core_seals]
      exact ⟨rfl, rfl, rfl, rfl⟩
    · exact ⟨rfl, rfl, rfl, rfl⟩
  have h2 : ∀ u : State, CanSame (if m == .run || m == .hold then u else impAbort Ev.impMode u) u := by
    intro u
    split
    · exact ⟨rfl, rfl, rfl, rfl⟩
    · unfold impAbort
      split
      · exact ⟨by simp, by simp, by simp, by simp⟩
      · exact ⟨rfl, rfl, rfl, rfl⟩
  have h3 : ∀ (n : Nat) (u : State), CanSame (attention n u) u := by
    intro n u
    unfold attention
    split <;> exact ⟨rfl, rfl, rfl, rfl⟩
  have tr : ∀ {a b c : State}, CanSame a b → CanSame b c → CanSame a c := fun h k => ⟨h.1.trans k.1, h.2.1.trans k.2.1, h.2.2.1.trans k.2.2.1,
    h.2.2.2.trans k.2.2.2⟩
  unfold setMode
  split
  · exact ⟨rfl, rfl, rfl, rfl⟩
  · refine tr (h3 _ _) (tr ?_ (tr (h2 _) (h1 s)))
    exact ⟨by rw [record_bus], by rw [record_mbx], by rw [record_saf], by rw [record_core_seals]⟩

/-- A wake changes nothing of the CAN controllers, the mailboxes, the safety values and the seals. -/
theorem wakeNow_can (cause : Nat) (s : State) : CanSame (wakeNow cause s) s := by
  unfold wakeNow
  split
  · exact setMode_can ..
  · exact ⟨rfl, rfl, rfl, rfl⟩
end Sys2Proof.Machine
end

