-- ==== Sys2Proof/Laws/Ring.lean ====
section
/-!
SUPPORT. Laws/Ring.lean: what a change of one ring or position leaves alone, and that counting a frame at the ports it passes
touches its counts only.
-/

namespace Sys2Proof.Machine

open Sys2Proof

/-- A changed ring is the changed one; every other stays. -/
theorem ringOf_setRing (r k : Nat) (g : Ring → Ring) (s : State) :
    ringOf (setRing r g s) k = if r = k ∧ r < s.rings.ring.length then g (ringOf s k) else ringOf s k := by
  unfold ringOf setRing
  simp only [List.getD_eq_getElem?_getD, List.getElem?_modify]
  by_cases hk : r = k
  · subst hk
    by_cases hl : r < s.rings.ring.length <;> simp [hl]
  · simp [hk]

/-- The frame counts of a ring's positions are all that counting changes in it. -/
theorem ringOf_countPorts (r lo hi k : Nat) (up : Bool) (s : State) (j : Nat) :
    ∃ l, ringOf (countPorts r up lo hi k s) j = { ringOf s j with pos := l } := by
  unfold countPorts
  rw [ringOf_setRing]
  split
  · exact ⟨_, rfl⟩
  · exact ⟨_, rfl⟩

/-- A position's frame counts are all that counting changes in it. -/
theorem posOf_countPorts (r lo hi k : Nat) (up : Bool) (s : State) (j p : Nat) :
    ∃ a b, posOf (countPorts r up lo hi k s) j p = { posOf s j p with frUp := a, frDn := b } := by
  unfold posOf countPorts
  rw [ringOf_setRing]
  split
  · simp only [List.getD_eq_getElem?_getD, List.getElem?_mapIdx]
    cases h : (ringOf s j).pos[p - 1]? with
    | none => exact ⟨0, 0, rfl⟩
    | some y =>
      simp only [Option.map_some, Option.getD_some]
      split
      · split <;> exact ⟨_, _, rfl⟩
      · exact ⟨_, _, rfl⟩
  · exact ⟨_, _, rfl⟩

theorem countResponse_is_count (r p : Nat) (up : Bool) (s : State) :
    ∃ v lo hi, countResponse r p up s = countPorts r v lo hi 1 s := by
  unfold countResponse
  split
  · exact ⟨_, _, _, rfl⟩
  · exact ⟨_, _, _, rfl⟩

theorem ringOf_countResponse (r p : Nat) (up : Bool) (s : State) (j : Nat) :
    ∃ l, ringOf (countResponse r p up s) j = { ringOf s j with pos := l } := by
  obtain ⟨v, lo, hi, h⟩ := countResponse_is_count r p up s
  rw [h]
  exact ringOf_countPorts ..

theorem posOf_countResponse (r p : Nat) (up : Bool) (s : State) (j q : Nat) :
    ∃ a b, posOf (countResponse r p up s) j q = { posOf s j q with frUp := a, frDn := b } := by
  obtain ⟨v, lo, hi, h⟩ := countResponse_is_count r p up s
  rw [h]
  exact posOf_countPorts ..

@[simp] theorem countResponse_got (r p : Nat) (up : Bool) (s : State) (j q : Nat) :
    (posOf (countResponse r p up s) j q).got = (posOf s j q).got := by
  obtain ⟨a, b, h⟩ := posOf_countResponse r p up s j q
  rw [h]

@[simp] theorem countResponse_expect (r p : Nat) (up : Bool) (s : State) (j q : Nat) :
    (posOf (countResponse r p up s) j q).expect = (posOf s j q).expect := by
  obtain ⟨a, b, h⟩ := posOf_countResponse r p up s j q
  rw [h]

@[simp] theorem countResponse_now (r p : Nat) (up : Bool) (s : State) : (countResponse r p up s).now = s.now := by
  unfold countResponse
  split <;> rfl

end Sys2Proof.Machine
end

