-- ==== Sys2Proof/Laws/Serve.lean ====
section
/-!
SUPPORT. Laws/Serve.lean: what the frame of a command leaves alone, and how a served host command ends: one lemma for each way,
so that a statement about a command needs its handler only.
-/

namespace Sys2Proof.Machine

open Sys2Proof

/-! ## The frame of a command -/

@[simp] theorem clocked_pending (t : Nat) (s : State) : (clocked t s).pending = s.pending := rfl

@[simp] theorem clocked_now (t : Nat) (s : State) : (clocked t s).now = max s.now t := rfl

@[simp] theorem clocked_out (t : Nat) (s : State) : (clocked t s).out = [] := rfl

@[simp] theorem clocked_core (t : Nat) (s : State) : (clocked t s).core = s.core := rfl

@[simp] theorem clocked_isl (t : Nat) (s : State) : (clocked t s).isl = s.isl := rfl

@[simp] theorem clocked_mbx (t : Nat) (s : State) : (clocked t s).mbx = s.mbx := rfl

@[simp] theorem clocked_well (t : Nat) (s : State) : (clocked t s).well = s.well := rfl

@[simp] theorem clocked_rings (t : Nat) (s : State) : (clocked t s).rings = s.rings := rfl

@[simp] theorem clocked_est (t : Nat) (s : State) : (clocked t s).est = s.est := rfl

@[simp] theorem clocked_imp (t : Nat) (s : State) : (clocked t s).imp = s.imp := rfl

@[simp] theorem clocked_ctrl (t : Nat) (s : State) : (clocked t s).ctrl = s.ctrl := rfl

@[simp] theorem clocked_conv (t : Nat) (s : State) : (clocked t s).conv = s.conv := rfl

@[simp] theorem clocked_disp (t : Nat) (s : State) : (clocked t s).disp = s.disp := rfl

@[simp] theorem clocked_saf (t : Nat) (s : State) : (clocked t s).saf = s.saf := rfl

@[simp] theorem clocked_con (t : Nat) (s : State) : (clocked t s).con = s.con := rfl

@[simp] theorem clocked_thm (t : Nat) (s : State) : (clocked t s).thm = s.thm := rfl

@[simp] theorem clocked_pair (t : Nat) (s : State) : (clocked t s).pair = s.pair := rfl

@[simp] theorem clocked_fab (t : Nat) (s : State) : (clocked t s).fab = s.fab := rfl

@[simp] theorem clocked_tim (t : Nat) (s : State) : (clocked t s).tim = s.tim := rfl

@[simp] theorem clocked_bus (t : Nat) (s : State) : (clocked t s).bus = s.bus := rfl

@[simp] theorem clocked_upd (t : Nat) (s : State) : (clocked t s).upd = s.upd := rfl

@[simp] theorem startCommand_pending (m : Nat) (s : State) : (startCommand m s).pending = s.pending := rfl

@[simp] theorem finish_pending (m : Nat) (r : Reply) (s : State) : (finish m r s).pending = s.pending := rfl

@[simp] theorem startCommand_now (m : Nat) (s : State) : (startCommand m s).now = s.now := rfl

@[simp] theorem finish_now (m : Nat) (r : Reply) (s : State) : (finish m r s).now = s.now := rfl

@[simp] theorem startCommand_out (m : Nat) (s : State) : (startCommand m s).out = s.out := rfl

@[simp] theorem finish_out (m : Nat) (r : Reply) (s : State) : (finish m r s).out = s.out := rfl

@[simp] theorem startCommand_core (m : Nat) (s : State) : (startCommand m s).core = s.core := rfl

@[simp] theorem finish_core (m : Nat) (r : Reply) (s : State) : (finish m r s).core = s.core := rfl

@[simp] theorem startCommand_isl (m : Nat) (s : State) : (startCommand m s).isl = s.isl := rfl

@[simp] theorem finish_isl (m : Nat) (r : Reply) (s : State) : (finish m r s).isl = s.isl := rfl

@[simp] theorem startCommand_well (m : Nat) (s : State) : (startCommand m s).well = s.well := rfl

@[simp] theorem finish_well (m : Nat) (r : Reply) (s : State) : (finish m r s).well = s.well := rfl

@[simp] theorem startCommand_rings (m : Nat) (s : State) : (startCommand m s).rings = s.rings := rfl

@[simp] theorem finish_rings (m : Nat) (r : Reply) (s : State) : (finish m r s).rings = s.rings := rfl

@[simp] theorem startCommand_est (m : Nat) (s : State) : (startCommand m s).est = s.est := rfl

@[simp] theorem finish_est (m : Nat) (r : Reply) (s : State) : (finish m r s).est = s.est := rfl

@[simp] theorem startCommand_imp (m : Nat) (s : State) : (startCommand m s).imp = s.imp := rfl

@[simp] theorem finish_imp (m : Nat) (r : Reply) (s : State) : (finish m r s).imp = s.imp := rfl

@[simp] theorem startCommand_ctrl (m : Nat) (s : State) : (startCommand m s).ctrl = s.ctrl := rfl

@[simp] theorem finish_ctrl (m : Nat) (r : Reply) (s : State) : (finish m r s).ctrl = s.ctrl := rfl

@[simp] theorem startCommand_conv (m : Nat) (s : State) : (startCommand m s).conv = s.conv := rfl

@[simp] theorem finish_conv (m : Nat) (r : Reply) (s : State) : (finish m r s).conv = s.conv := rfl

@[simp] theorem startCommand_disp (m : Nat) (s : State) : (startCommand m s).disp = s.disp := rfl

@[simp] theorem finish_disp (m : Nat) (r : Reply) (s : State) : (finish m r s).disp = s.disp := rfl

@[simp] theorem startCommand_saf (m : Nat) (s : State) : (startCommand m s).saf = s.saf := rfl

@[simp] theorem finish_saf (m : Nat) (r : Reply) (s : State) : (finish m r s).saf = s.saf := rfl

@[simp] theorem startCommand_con (m : Nat) (s : State) : (startCommand m s).con = s.con := rfl

@[simp] theorem finish_con (m : Nat) (r : Reply) (s : State) : (finish m r s).con = s.con := rfl

@[simp] theorem startCommand_thm (m : Nat) (s : State) : (startCommand m s).thm = s.thm := rfl

@[simp] theorem finish_thm (m : Nat) (r : Reply) (s : State) : (finish m r s).thm = s.thm := rfl

@[simp] theorem startCommand_pair (m : Nat) (s : State) : (startCommand m s).pair = s.pair := rfl

@[simp] theorem finish_pair (m : Nat) (r : Reply) (s : State) : (finish m r s).pair = s.pair := rfl

@[simp] theorem startCommand_fab (m : Nat) (s : State) : (startCommand m s).fab = s.fab := rfl

@[simp] theorem finish_fab (m : Nat) (r : Reply) (s : State) : (finish m r s).fab = s.fab := rfl

@[simp] theorem startCommand_tim (m : Nat) (s : State) : (startCommand m s).tim = s.tim := rfl

@[simp] theorem finish_tim (m : Nat) (r : Reply) (s : State) : (finish m r s).tim = s.tim := rfl

@[simp] theorem startCommand_bus (m : Nat) (s : State) : (startCommand m s).bus = s.bus := rfl

@[simp] theorem finish_bus (m : Nat) (r : Reply) (s : State) : (finish m r s).bus = s.bus := rfl

@[simp] theorem startCommand_upd (m : Nat) (s : State) : (startCommand m s).upd = s.upd := rfl

@[simp] theorem finish_upd (m : Nat) (r : Reply) (s : State) : (finish m r s).upd = s.upd := rfl

@[simp] theorem after_pending (t : Nat) (f : State → State) (s : State) : (after t f s).pending = s.pending := rfl

@[simp] theorem after_now (t : Nat) (f : State → State) (s : State) : (after t f s).now = max s.now t := rfl

@[simp] theorem after_out (t : Nat) (f : State → State) (s : State) : (after t f s).out = (f (clocked t s)).out := rfl

@[simp] theorem after_core (t : Nat) (f : State → State) (s : State) : (after t f s).core = (f (clocked t s)).core := rfl

@[simp] theorem after_isl (t : Nat) (f : State → State) (s : State) : (after t f s).isl = (f (clocked t s)).isl := rfl

@[simp] theorem after_mbx (t : Nat) (f : State → State) (s : State) : (after t f s).mbx = (f (clocked t s)).mbx := rfl

@[simp] theorem after_well (t : Nat) (f : State → State) (s : State) : (after t f s).well = (f (clocked t s)).well := rfl

@[simp] theorem after_rings (t : Nat) (f : State → State) (s : State) : (after t f s).rings = (f (clocked t s)).rings := rfl

@[simp] theorem after_est (t : Nat) (f : State → State) (s : State) : (after t f s).est = (f (clocked t s)).est := rfl

@[simp] theorem after_imp (t : Nat) (f : State → State) (s : State) : (after t f s).imp = (f (clocked t s)).imp := rfl

@[simp] theorem after_ctrl (t : Nat) (f : State → State) (s : State) : (after t f s).ctrl = (f (clocked t s)).ctrl := rfl

@[simp] theorem after_conv (t : Nat) (f : State → State) (s : State) : (after t f s).conv = (f (clocked t s)).conv := rfl

@[simp] theorem after_disp (t : Nat) (f : State → State) (s : State) : (after t f s).disp = (f (clocked t s)).disp := rfl

@[simp] theorem after_saf (t : Nat) (f : State → State) (s : State) : (after t f s).saf = (f (clocked t s)).saf := rfl

@[simp] theorem after_con (t : Nat) (f : State → State) (s : State) : (after t f s).con = (f (clocked t s)).con := rfl

@[simp] theorem after_thm (t : Nat) (f : State → State) (s : State) : (after t f s).thm = (f (clocked t s)).thm := rfl

@[simp] theorem after_pair (t : Nat) (f : State → State) (s : State) : (after t f s).pair = (f (clocked t s)).pair := rfl

@[simp] theorem after_fab (t : Nat) (f : State → State) (s : State) : (after t f s).fab = (f (clocked t s)).fab := rfl

@[simp] theorem after_tim (t : Nat) (f : State → State) (s : State) : (after t f s).tim = (f (clocked t s)).tim := rfl

@[simp] theorem after_bus (t : Nat) (f : State → State) (s : State) : (after t f s).bus = (f (clocked t s)).bus := rfl

@[simp] theorem after_upd (t : Nat) (f : State → State) (s : State) : (after t f s).upd = (f (clocked t s)).upd := rfl

/-- A command's outcome is what its effect makes of the clocked state. -/
theorem timed_next {t : Nat} {s : State} {f g : State → State} (h : f (clocked t s) = g (clocked t s)) :
    timed t f s = .next (after t g s) := by
  unfold timed after
  change Host.Outcome.next (let u := f (clocked t s); { u with pending := s.pending, now := max s.now t }) = _
  rw [h]

/-- Every framed command answers a next state, with the queue as it stood and the time not run backwards. -/
theorem timed_answers (t : Nat) (f : State → State) (s : State) :
    ∃ u, timed t f s = .next u ∧ u.pending = s.pending ∧ u.now = max s.now t := ⟨_, rfl, rfl, rfl⟩

/-! ## Served requests -/

/-- The request of a `Pend` hypothesis. -/
theorem pend_request {s : State} {m cmd : Nat} {p : List Byte} (h : Pend s m cmd p) :
    ∃ r, requestOf s m cmd = some r ∧ r.payload = p ∧ r.command = cmd := by
  unfold Pend at h
  cases hr : requestOf s m cmd with
  | none => simp [hr] at h
  | some r =>
    refine ⟨r, rfl, by simpa [hr] using h, ?_⟩
    unfold requestOf at hr
    simp only at hr
    split at hr
    · simp [Option.filter_eq_some_iff] at hr
      exact hr.2
    · simp at hr

/-- A served request comes to what its handler's answer comes to. -/
theorem serve_next {s : State} {m cmd : Nat} {p : List Byte} {h : Request → State → Answer × State} {t : Nat}
    {g : State → State} (hp : Pend s m cmd p)
    (hf : ∀ r, r.payload = p → r.command = cmd →
      giveAnswer m (h r (startCommand m (clocked t s))).1 (h r (startCommand m (clocked t s))).2 =
        g (startCommand m (clocked t s))) :
    timed t (serve m cmd h) s = .next (after t (fun s => g (startCommand m s)) s) := by
  obtain ⟨r, h1, h2, h3⟩ := pend_request hp
  refine timed_next ?_
  unfold serve
  rw [show requestOf (clocked t s) m cmd = requestOf s m cmd from rfl, h1]
  exact hf r h2 h3

/-- A handler that ends with DONE or EXEC_FAULT. -/
theorem serve_ended {s : State} {m cmd : Nat} {p : List Byte} {h : Request → State → Answer × State} {t : Nat} {rep : Reply}
    {f : State → State} (hp : Pend s m cmd p)
    (hf : ∀ r, r.payload = p → r.command = cmd →
      giveAnswer m (h r (startCommand m (clocked t s))).1 (h r (startCommand m (clocked t s))).2 =
        finish m rep (f (startCommand m (clocked t s)))) :
    timed t (serve m cmd h) s = .next (ended t m rep f s) :=
  serve_next (g := fun s => finish m rep (f s)) hp hf

/-- A handler that reads. -/
theorem serve_read {s : State} {m cmd : Nat} {p : List Byte} {h : Request → State → Answer × State} {t : Nat}
    {f : State → Payload} (hp : Pend s m cmd p)
    (hf : ∀ r, r.payload = p → r.command = cmd →
      giveAnswer m (h r (startCommand m (clocked t s))).1 (h r (startCommand m (clocked t s))).2 =
        finish m (doneWith (f (startCommand m (clocked t s)))) (startCommand m (clocked t s))) :
    timed t (serve m cmd h) s = .next (read t m f s) :=
  serve_ended (f := fun s => s) hp hf

/-- A handler that goes on. -/
theorem serve_going {s : State} {m cmd : Nat} {p : List Byte} {h : Request → State → Answer × State} {t : Nat}
    {f : State → State} (hp : Pend s m cmd p)
    (hf : ∀ r, r.payload = p → r.command = cmd →
      giveAnswer m (h r (startCommand m (clocked t s))).1 (h r (startCommand m (clocked t s))).2 =
        f (startCommand m (clocked t s))) :
    timed t (serve m cmd h) s = .next (going t m f s) :=
  serve_next (g := f) hp hf

/-- A handler that refuses. -/
theorem serve_turned {s : State} {m cmd : Nat} {p : List Byte} {h : Request → State → Answer × State} {t : Nat} {rep : Reply}
    (hp : Pend s m cmd p)
    (hf : ∀ r, r.payload = p → r.command = cmd →
      giveAnswer m (h r (startCommand m (clocked t s))).1 (h r (startCommand m (clocked t s))).2 =
        answerNow m rep (startCommand m (clocked t s))) :
    timed t (serve m cmd h) s = .next (turnedAway t m rep s) :=
  serve_next (g := answerNow m rep) hp hf

/-! ## Common operations -/

/-- A common operation of function `f` whose handler's part is known. -/
theorem common_next {s : State} {m f op : Nat} {p : List Byte} {h : Nat → Request → State → Answer × State} {t : Nat}
    {g : State → State} (hp : Pend s m (256 * f + op) p) (ho : op < 256)
    (hf : ∀ r, r.payload = p → r.command = 256 * f + op →
      giveAnswer m (h f r (startCommand m (clocked t s))).1 (h f r (startCommand m (clocked t s))).2 =
        g (startCommand m (clocked t s))) :
    timed t (serveCommon m op h) s = .next (after t (fun s => g (startCommand m s)) s) := by
  obtain ⟨r, h1, h2, h3⟩ := pend_request hp
  have hq : (mbxOf s m).req = some r := by
    unfold requestOf at h1
    simp only at h1
    split at h1
    · exact (Option.filter_eq_some_iff.mp h1).1
    · simp at h1
  refine timed_next ?_
  unfold serveCommon
  rw [show (mbxOf (clocked t s) m).req = some r from hq]
  have e1 : opOf r.command = op := by unfold opOf; omega
  have e2 : r.command / 256 = f := by omega
  simp only [e1, if_true, e2]
  unfold serve
  rw [h3, show requestOf (clocked t s) m (256 * f + op) = requestOf s m (256 * f + op) from rfl, h1]
  exact hf r h2 h3

/-- A common operation that ends with a reply after a change. -/
theorem common_ended {s : State} {m f op : Nat} {p : List Byte} {h : Nat → Request → State → Answer × State} {t : Nat}
    {rep : Reply} {k : State → State} (hp : Pend s m (256 * f + op) p) (ho : op < 256)
    (hf : ∀ r, r.payload = p → r.command = 256 * f + op →
      giveAnswer m (h f r (startCommand m (clocked t s))).1 (h f r (startCommand m (clocked t s))).2 =
        finish m rep (k (startCommand m (clocked t s)))) :
    timed t (serveCommon m op h) s = .next (ended t m rep k s) :=
  common_next (g := fun s => finish m rep (k s)) hp ho hf

/-- A common operation that reads. -/
theorem common_read {s : State} {m f op : Nat} {p : List Byte} {h : Nat → Request → State → Answer × State} {t : Nat}
    {k : State → Payload} (hp : Pend s m (256 * f + op) p) (ho : op < 256)
    (hf : ∀ r, r.payload = p → r.command = 256 * f + op →
      giveAnswer m (h f r (startCommand m (clocked t s))).1 (h f r (startCommand m (clocked t s))).2 =
        finish m (doneWith (k (startCommand m (clocked t s)))) (startCommand m (clocked t s))) :
    timed t (serveCommon m op h) s = .next (read t m k s) :=
  common_ended (k := fun s => s) hp ho hf

/-- A common operation that goes on. -/
theorem common_going {s : State} {m f op : Nat} {p : List Byte} {h : Nat → Request → State → Answer × State} {t : Nat}
    {k : State → State} (hp : Pend s m (256 * f + op) p) (ho : op < 256)
    (hf : ∀ r, r.payload = p → r.command = 256 * f + op →
      giveAnswer m (h f r (startCommand m (clocked t s))).1 (h f r (startCommand m (clocked t s))).2 =
        k (startCommand m (clocked t s))) :
    timed t (serveCommon m op h) s = .next (going t m k s) :=
  common_next (g := k) hp ho hf

/-- A common operation that is refused. -/
theorem common_turned {s : State} {m f op : Nat} {p : List Byte} {h : Nat → Request → State → Answer × State} {t : Nat}
    {rep : Reply} (hp : Pend s m (256 * f + op) p) (ho : op < 256)
    (hf : ∀ r, r.payload = p → r.command = 256 * f + op →
      giveAnswer m (h f r (startCommand m (clocked t s))).1 (h f r (startCommand m (clocked t s))).2 =
        answerNow m rep (startCommand m (clocked t s))) :
    timed t (serveCommon m op h) s = .next (turnedAway t m rep s) :=
  common_next (g := answerNow m rep) hp ho hf

/-! ## Commands of a function in two places: the two planes, the two CAN ports -/

/-- A mailbox whose command has ended holds no request to serve. -/
theorem finish_unserved (m c : Nat) (r : Reply) (s : State) : requestOf (finish m r s) m c = none := by
  unfold requestOf finish setMbx mbxOf
  by_cases h : m < s.mbx.mbx.length <;> simp [h]

/-- Delivery touches no mailbox. -/
@[simp] theorem deliver_mbx (m : Nat) (src : Source) (r : Response) (s : State) : (deliver m src r s).mbx = s.mbx := by
  obtain ⟨f, o, h⟩ := deliver_fabric m src r s
  rw [h]

/-- A formed response ends the wait. -/
theorem formResponse_unserved (m c : Nat) (r : Reply) (s : State) : requestOf (formResponse m r s) m c = none := by
  unfold formResponse
  simp only
  have e : ∀ (u : State) (x : Response), requestOf (setMbx m (fun b => { b with phase := .holding, held := some x, heldSince := u.now, result := none, started := false }) u) m c = none := by
    intro u x
    unfold requestOf setMbx mbxOf
    by_cases h : m < u.mbx.mbx.length <;> simp [h]
  have k : ∀ u v : State, v.mbx = u.mbx → requestOf u m c = none → requestOf v m c = none := by
    intro u v h hu
    unfold requestOf mbxOf at *
    rw [h]
    exact hu
  split
  · split
    · exact k _ _ (deliver_mbx ..) (e _ _)
    · exact e _ _
  · have e2 : ∀ u : State, (attention 1 { u with bus.svc.ready := true }).mbx = u.mbx := by
      intro u
      unfold attention
      split <;> rfl
    exact k _ _ (e2 _) (e s _)

/-- A mailbox whose command was refused holds no request to serve. -/
theorem answerNow_unserved (m c : Nat) (r : Reply) (s : State) : requestOf (answerNow m r s) m c = none :=
  formResponse_unserved ..

/-- A mailbox that carries one command carries no other. -/
theorem other_unserved {s : State} {m c d : Nat} {p : List Byte} (hp : Pend s m c p) (hd : c ≠ d) : requestOf s m d = none := by
  obtain ⟨r, h1, -, h3⟩ := pend_request hp
  unfold requestOf at *
  simp only at *
  split at h1
  · rename_i hc
    rw [if_pos hc]
    have := (Option.filter_eq_some_iff.mp h1).1
    rw [this]
    simp [Option.filter, h3, hd]
  · simp at h1

/-- A command of the two functions of a pair: the one whose code waits serves it. -/
theorem twin_next {s : State} {m c q : Nat} {p : List Byte} {h : Nat → Request → State → Answer × State} {t : Nat}
    {g : State → State} (hq : q < 2) (hp : Pend s m (c + 256 * q) p)
    (hf : ∀ r, r.payload = p → r.command = c + 256 * q →
      giveAnswer m (h q r (startCommand m (clocked t s))).1 (h q r (startCommand m (clocked t s))).2 =
        g (startCommand m (clocked t s)))
    (hn : requestOf (g (startCommand m (clocked t s))) m (c + 256) = none) :
    timed t (fun s => serve m (c + 256) (h 1) (serve m c (h 0) s)) s = .next (after t (fun s => g (startCommand m s)) s) := by
  obtain ⟨r, h1, h2, h3⟩ := pend_request hp
  refine timed_next ?_
  have hs : ∀ d, requestOf (clocked t s) m d = requestOf s m d := fun _ => rfl
  obtain rfl | rfl : q = 0 ∨ q = 1 := by omega
  · rw [Nat.mul_zero, Nat.add_zero] at h1 h3
    have e : serve m c (h 0) (clocked t s) = g (startCommand m (clocked t s)) := by
      unfold serve
      rw [hs, h1]
      exact hf r h2 (by omega)
    simp only [e]
    unfold serve
    rw [hn]
  · have e : serve m c (h 0) (clocked t s) = clocked t s := by
      unfold serve
      rw [hs, other_unserved hp (by omega)]
    simp only [e]
    rw [Nat.mul_one] at h1 h3
    unfold serve
    rw [hs, h1]
    exact hf r h2 (by omega)

/-- A plane command that ends with a reply after a change. -/
theorem plane_ended {s : State} {m op q : Nat} {p : List Byte} {h : Nat → Request → State → Answer × State} {t : Nat}
    {rep : Reply} {k : State → State} (hp : Pend s m (0x0C00 + op + 256 * q) p) (hq : q < 2)
    (hf : ∀ r, r.payload = p → r.command = 0x0C00 + op + 256 * q →
      giveAnswer m (h q r (startCommand m (clocked t s))).1 (h q r (startCommand m (clocked t s))).2 =
        finish m rep (k (startCommand m (clocked t s)))) :
    timed t (servePlane m op h) s = .next (ended t m rep k s) := by
  have e : servePlane m op h = fun s => serve m (0x0C00 + op + 256) (h 1) (serve m (0x0C00 + op) (h 0) s) := by
    funext s
    unfold servePlane
    rw [show 0x0C00 + op + 256 = 0xd00 + op from by omega]
  rw [e]
  exact twin_next (g := fun s => finish m rep (k s)) hq hp hf (finish_unserved _ _ _ _)

/-- A plane command that reads. -/
theorem plane_read {s : State} {m op q : Nat} {p : List Byte} {h : Nat → Request → State → Answer × State} {t : Nat}
    {k : State → Payload} (hp : Pend s m (0x0C00 + op + 256 * q) p) (hq : q < 2)
    (hf : ∀ r, r.payload = p → r.command = 0x0C00 + op + 256 * q →
      giveAnswer m (h q r (startCommand m (clocked t s))).1 (h q r (startCommand m (clocked t s))).2 =
        finish m (doneWith (k (startCommand m (clocked t s)))) (startCommand m (clocked t s))) :
    timed t (servePlane m op h) s = .next (read t m k s) := by
  have e : servePlane m op h = fun s => serve m (0x0C00 + op + 256) (h 1) (serve m (0x0C00 + op) (h 0) s) := by
    funext s
    unfold servePlane
    rw [show 0x0C00 + op + 256 = 0xd00 + op from by omega]
  rw [e]
  exact twin_next (g := fun u => finish m (doneWith (k (startCommand m (clocked t s)))) u) hq hp hf (finish_unserved _ _ _ _)

/-- A plane command that is refused. -/
theorem plane_turned {s : State} {m op q : Nat} {p : List Byte} {h : Nat → Request → State → Answer × State} {t : Nat}
    {rep : Reply} (hp : Pend s m (0x0C00 + op + 256 * q) p) (hq : q < 2)
    (hf : ∀ r, r.payload = p → r.command = 0x0C00 + op + 256 * q →
      giveAnswer m (h q r (startCommand m (clocked t s))).1 (h q r (startCommand m (clocked t s))).2 =
        answerNow m rep (startCommand m (clocked t s))) :
    timed t (servePlane m op h) s = .next (turnedAway t m rep s) := by
  have e : servePlane m op h = fun s => serve m (0x0C00 + op + 256) (h 1) (serve m (0x0C00 + op) (h 0) s) := by
    funext s
    unfold servePlane
    rw [show 0x0C00 + op + 256 = 0xd00 + op from by omega]
  rw [e]
  exact twin_next (g := answerNow m rep) hq hp hf (answerNow_unserved _ _ _ _)

/-- A CAN command that ends with a reply after a change. -/
theorem can_ended {s : State} {m op q : Nat} {p : List Byte} {h : Nat → Request → State → Answer × State} {t : Nat}
    {rep : Reply} {k : State → State} (hp : Pend s m (0x0F00 + op + 256 * q) p) (hq : q < 2)
    (hf : ∀ r, r.payload = p → r.command = 0x0F00 + op + 256 * q →
      giveAnswer m (h q r (startCommand m (clocked t s))).1 (h q r (startCommand m (clocked t s))).2 =
        finish m rep (k (startCommand m (clocked t s)))) :
    timed t (serveCan m op h) s = .next (ended t m rep k s) := by
  have e : serveCan m op h = fun s => serve m (0x0F00 + op + 256) (h 1) (serve m (0x0F00 + op) (h 0) s) := by
    funext s
    unfold serveCan
    rw [show 0x0F00 + op + 256 = 0x1000 + op from by omega]
  rw [e]
  exact twin_next (g := fun s => finish m rep (k s)) hq hp hf (finish_unserved _ _ _ _)

/-- A CAN command that reads. -/
theorem can_read {s : State} {m op q : Nat} {p : List Byte} {h : Nat → Request → State → Answer × State} {t : Nat}
    {k : State → Payload} (hp : Pend s m (0x0F00 + op + 256 * q) p) (hq : q < 2)
    (hf : ∀ r, r.payload = p → r.command = 0x0F00 + op + 256 * q →
      giveAnswer m (h q r (startCommand m (clocked t s))).1 (h q r (startCommand m (clocked t s))).2 =
        finish m (doneWith (k (startCommand m (clocked t s)))) (startCommand m (clocked t s))) :
    timed t (serveCan m op h) s = .next (read t m k s) := by
  have e : serveCan m op h = fun s => serve m (0x0F00 + op + 256) (h 1) (serve m (0x0F00 + op) (h 0) s) := by
    funext s
    unfold serveCan
    rw [show 0x0F00 + op + 256 = 0x1000 + op from by omega]
  rw [e]
  exact twin_next (g := fun u => finish m (doneWith (k (startCommand m (clocked t s)))) u) hq hp hf (finish_unserved _ _ _ _)

/-- A CAN command that is refused. -/
theorem can_turned {s : State} {m op q : Nat} {p : List Byte} {h : Nat → Request → State → Answer × State} {t : Nat}
    {rep : Reply} (hp : Pend s m (0x0F00 + op + 256 * q) p) (hq : q < 2)
    (hf : ∀ r, r.payload = p → r.command = 0x0F00 + op + 256 * q →
      giveAnswer m (h q r (startCommand m (clocked t s))).1 (h q r (startCommand m (clocked t s))).2 =
        answerNow m rep (startCommand m (clocked t s))) :
    timed t (serveCan m op h) s = .next (turnedAway t m rep s) := by
  have e : serveCan m op h = fun s => serve m (0x0F00 + op + 256) (h 1) (serve m (0x0F00 + op) (h 0) s) := by
    funext s
    unfold serveCan
    rw [show 0x0F00 + op + 256 = 0x1000 + op from by omega]
  rw [e]
  exact twin_next (g := answerNow m rep) hq hp hf (answerNow_unserved _ _ _ _)

/-- A mailbox whose command has started holds no request to serve. -/
theorem startCommand_unserved (m c : Nat) (s : State) : requestOf (startCommand m s) m c = none := by
  unfold requestOf startCommand setMbx mbxOf
  by_cases h : m < s.mbx.mbx.length <;> simp [h]

/-- A CAN command that goes on, leaving the mailboxes as they are. -/
theorem can_going {s : State} {m op q : Nat} {p : List Byte} {h : Nat → Request → State → Answer × State} {t : Nat}
    {k : State → State} (hp : Pend s m (0x0F00 + op + 256 * q) p) (hq : q < 2) (hk : ∀ u, (k u).mbx = u.mbx)
    (hf : ∀ r, r.payload = p → r.command = 0x0F00 + op + 256 * q →
      giveAnswer m (h q r (startCommand m (clocked t s))).1 (h q r (startCommand m (clocked t s))).2 =
        k (startCommand m (clocked t s))) :
    timed t (serveCan m op h) s = .next (going t m k s) := by
  have e : serveCan m op h = fun s => serve m (0x0F00 + op + 256) (h 1) (serve m (0x0F00 + op) (h 0) s) := by
    funext s
    unfold serveCan
    rw [show 0x0F00 + op + 256 = 0x1000 + op from by omega]
  rw [e]
  refine twin_next (g := k) hq hp hf ?_
  unfold requestOf mbxOf
  rw [hk]
  exact startCommand_unserved m _ _

end Sys2Proof.Machine
end

