-- ==== Sys2Proof/Laws/Tap.lean ====
section
/-!
SUPPORT. Laws/Tap.lean: what a tap does with a request that it hears: it forwards it, acts and answers.
-/

namespace Sys2Proof.Machine

open Sys2Proof

/-- A request that a tap hears reaches its handler once it has gone on down the line. -/
theorem atTap_heard {s : State} {cmd : Nat} {q : TapReq} {h : Nat → List Byte → State → TapAnswer} (hq : TapHears s cmd q) :
    atTap cmd q h s = match h (tapIndex q.ring q.pos) q.payload (forwardRequest cmd true q s) with
      | .reject => record Ev.tapReject 3 [(q.ring : Int), q.pos, cmd] (respond q 0xFF [] (forwardRequest cmd true q s))
      | .silent u => u
      | .reply u b => respond q (cmd + 128) b u := by
  obtain ⟨h0, h1, h2, h3, h4, h5, h6⟩ := hq
  unfold atTap
  rw [if_neg (by omega), if_neg (by simp [h4]; omega), h0]
  unfold meetRequest
  dsimp only
  rw [if_neg (by simpa using h5), if_pos (by simpa using h6)]
  all_goals cases h (tapIndex q.ring q.pos) q.payload (forwardRequest cmd true q s) <;> rfl

/-- A request that a tap hears and answers with bytes. -/
theorem atTap_reply {s u : State} {cmd : Nat} {q : TapReq} {h : Nat → List Byte → State → TapAnswer} {b : List Byte}
    (hq : TapHears s cmd q) (hh : h (tapIndex q.ring q.pos) q.payload (forwardRequest cmd true q s) = .reply u b) :
    atTap cmd q h s = respond q (cmd + 128) b u := by
  rw [atTap_heard hq, hh]

/-- A request that a tap hears and acts on in silence. -/
theorem atTap_silent {s u : State} {cmd : Nat} {q : TapReq} {h : Nat → List Byte → State → TapAnswer}
    (hq : TapHears s cmd q) (hh : h (tapIndex q.ring q.pos) q.payload (forwardRequest cmd true q s) = .silent u) :
    atTap cmd q h s = u := by
  rw [atTap_heard hq, hh]

/-- A request that a tap hears and rejects. -/
theorem atTap_reject {s : State} {cmd : Nat} {q : TapReq} {h : Nat → List Byte → State → TapAnswer}
    (hq : TapHears s cmd q) (hh : h (tapIndex q.ring q.pos) q.payload (forwardRequest cmd true q s) = .reject) :
    atTap cmd q h s = record Ev.tapReject 3 [(q.ring : Int), q.pos, cmd] (respond q 0xFF [] (forwardRequest cmd true q s)) := by
  rw [atTap_heard hq, hh]

/-- What goes on down the line leaves every tap alone but for what the tap passed last. -/
theorem tapOf_forward (cmd : Nat) (good : Bool) (q : TapReq) (s : State) (i : Nat) :
    ∃ x, tapOf (forwardRequest cmd good q s) i = { tapOf s i with passed := x } := by
  unfold forwardRequest
  simp only
  split
  · exact ⟨_, rfl⟩
  · unfold tapSend emit tapOf setTap
    simp only [List.getD_eq_getElem?_getD, List.getElem?_modify]
    cases h : s.rings.tap[i]? with
    | none => exact ⟨none, rfl⟩
    | some p =>
      by_cases hi : tapIndex q.ring q.pos = i
      · exact ⟨some (reqRev q, reqRb q && decide (reqHop q ≠ 63), s.now), by simp [hi]⟩
      · exact ⟨p.passed, by simp [hi]⟩

@[simp] theorem forward_fitted (cmd : Nat) (good : Bool) (q : TapReq) (s : State) (i : Nat) :
    (tapOf (forwardRequest cmd good q s) i).fitted = (tapOf s i).fitted := by
  obtain ⟨x, h⟩ := tapOf_forward cmd good q s i
  rw [h]

@[simp] theorem forward_asleep (cmd : Nat) (good : Bool) (q : TapReq) (s : State) (i : Nat) :
    (tapOf (forwardRequest cmd good q s) i).asleep = (tapOf s i).asleep := by
  obtain ⟨x, h⟩ := tapOf_forward cmd good q s i
  rw [h]

@[simp] theorem forward_imp (cmd : Nat) (good : Bool) (q : TapReq) (s : State) (i : Nat) :
    (tapOf (forwardRequest cmd good q s) i).imp = (tapOf s i).imp := by
  obtain ⟨x, h⟩ := tapOf_forward cmd good q s i
  rw [h]

@[simp] theorem forward_fw (cmd : Nat) (good : Bool) (q : TapReq) (s : State) (i : Nat) :
    (tapOf (forwardRequest cmd good q s) i).fw = (tapOf s i).fw := by
  obtain ⟨x, h⟩ := tapOf_forward cmd good q s i
  rw [h]

@[simp] theorem forward_slots (cmd : Nat) (good : Bool) (q : TapReq) (s : State) (i : Nat) :
    (tapOf (forwardRequest cmd good q s) i).slots = (tapOf s i).slots := by
  obtain ⟨x, h⟩ := tapOf_forward cmd good q s i
  rw [h]

@[simp] theorem forward_temps (cmd : Nat) (good : Bool) (q : TapReq) (s : State) (i : Nat) :
    (tapOf (forwardRequest cmd good q s) i).temps = (tapOf s i).temps := by
  obtain ⟨x, h⟩ := tapOf_forward cmd good q s i
  rw [h]

@[simp] theorem forward_balMode (cmd : Nat) (good : Bool) (q : TapReq) (s : State) (i : Nat) :
    (tapOf (forwardRequest cmd good q s) i).balMode = (tapOf s i).balMode := by
  obtain ⟨x, h⟩ := tapOf_forward cmd good q s i
  rw [h]

@[simp] theorem forward_marks (cmd : Nat) (good : Bool) (q : TapReq) (s : State) (i : Nat) :
    (tapOf (forwardRequest cmd good q s) i).marks = (tapOf s i).marks := by
  obtain ⟨x, h⟩ := tapOf_forward cmd good q s i
  rw [h]

@[simp] theorem forward_volts (cmd : Nat) (good : Bool) (q : TapReq) (s : State) (i : Nat) :
    (tapOf (forwardRequest cmd good q s) i).volts = (tapOf s i).volts := by
  obtain ⟨x, h⟩ := tapOf_forward cmd good q s i
  rw [h]

@[simp] theorem forward_serial (cmd : Nat) (good : Bool) (q : TapReq) (s : State) (i : Nat) :
    (tapOf (forwardRequest cmd good q s) i).serial = (tapOf s i).serial := by
  obtain ⟨x, h⟩ := tapOf_forward cmd good q s i
  rw [h]

@[simp] theorem forwardRequest_now (cmd : Nat) (good : Bool) (q : TapReq) (s : State) :
    (forwardRequest cmd good q s).now = s.now := by
  unfold forwardRequest
  simp only
  split <;> rfl

@[simp] theorem forwardRequest_saf (cmd : Nat) (good : Bool) (q : TapReq) (s : State) :
    (forwardRequest cmd good q s).saf = s.saf := by
  unfold forwardRequest
  simp only
  split <;> rfl

@[simp] theorem forwardRequest_core (cmd : Nat) (good : Bool) (q : TapReq) (s : State) :
    (forwardRequest cmd good q s).core = s.core := by
  unfold forwardRequest
  simp only
  split <;> rfl

@[simp] theorem forwardRequest_imp (cmd : Nat) (good : Bool) (q : TapReq) (s : State) :
    (forwardRequest cmd good q s).imp = s.imp := by
  unfold forwardRequest
  simp only
  split <;> rfl

@[simp] theorem forwardRequest_mbx (cmd : Nat) (good : Bool) (q : TapReq) (s : State) :
    (forwardRequest cmd good q s).mbx = s.mbx := by
  unfold forwardRequest
  simp only
  split <;> rfl

@[simp] theorem loopOpen_forward (cmd : Nat) (good : Bool) (q : TapReq) (s : State) (r : Nat) :
    loopOpen (forwardRequest cmd good q s) r = loopOpen s r := by
  unfold loopOpen
  rw [forwardRequest_saf]

end Sys2Proof.Machine
end

