-- ==== Sys2Proof/Laws/Thermal.lean ====
section
/-!
SUPPORT. Laws/Thermal.lean: what one run of the container loop reads and sets, one lemma for each of its operations (11 R338 to R341).
-/

namespace Sys2Proof.Machine

open Sys2Proof

/-- The judgement of the cell temperatures changes its own two fields and nothing else. -/
theorem nextCells_eq (s : State) : ∃ b g, nextCells s = { s with thm.cellsBad := b, thm.cellsGoodSince := g } := by
  simp only [nextCells]
  split
  · exact ⟨_, _, rfl⟩
  · split
    · exact ⟨_, _, rfl⟩
    · split <;> exact ⟨_, _, rfl⟩

@[simp] theorem nextCells_tc (s : State) : (nextCells s).thm.tc = s.thm.tc := by obtain ⟨_, _, h⟩ := nextCells_eq s; rw [h]
@[simp] theorem nextCells_tHi (s : State) : (nextCells s).thm.tHi = s.thm.tHi := by obtain ⟨_, _, h⟩ := nextCells_eq s; rw [h]
@[simp] theorem nextCells_tLo (s : State) : (nextCells s).thm.tLo = s.thm.tLo := by obtain ⟨_, _, h⟩ := nextCells_eq s; rw [h]
@[simp] theorem nextCells_pmp (s : State) : (nextCells s).thm.pmp = s.thm.pmp := by obtain ⟨_, _, h⟩ := nextCells_eq s; rw [h]
@[simp] theorem nextCells_vlv (s : State) : (nextCells s).thm.vlv = s.thm.vlv := by obtain ⟨_, _, h⟩ := nextCells_eq s; rw [h]
@[simp] theorem nextCells_watchdog (s : State) : (nextCells s).thm.watchdog = s.thm.watchdog := by obtain ⟨_, _, h⟩ := nextCells_eq s; rw [h]
@[simp] theorem nextCells_lastUpdate (s : State) : (nextCells s).thm.lastUpdate = s.thm.lastUpdate := by obtain ⟨_, _, h⟩ := nextCells_eq s; rw [h]

/-- Whether THERM_MANUAL stands depends on its end and the time alone. -/
theorem manualNow_congr {s u : State} (h : u.thm.manualEnd = s.thm.manualEnd) (k : u.now = s.now) : manualNow u = manualNow s := by
  unfold manualNow
  rw [h, k]

@[simp] theorem noteCoolFault_manual (c : Nat) (s : State) : manualNow (noteCoolFault c s) = manualNow s := by
  unfold noteCoolFault
  split
  · rfl
  · exact manualNow_congr (by rw [record_thm]) (by rw [record_now])

/-- A bad input with no manual outputs: the fault is noted and HTR goes off, PMP and VLV stand (11 R341). -/
theorem loopAct_bad {r : Bool} {c : Nat} {s : State} (h : loopFault s = some c) (k : manualNow s = false) :
    loopAct r s = setHtr false (noteCoolFault c s) := by
  unfold loopAct
  rw [h]
  simp only [noteCoolFault_manual, k, Bool.false_eq_true, if_false]

theorem htrFree_some {s : State} {a : Nat} (h : s.thm.htrAt = some a) :
    htrFree s = decide (a + sec (prmN s Prm.htrMinCycle) ≤ s.now) := by
  unfold htrFree dueAfter
  rw [h, Option.map_some, Option.getD_some]

theorem runHtr_off {w : Bool} {s : State} (h : htrMay w s = false) : runHtr w s = setHtr false s := by
  unfold runHtr
  rw [h]
  rfl

theorem runHtr_on {w : Bool} {s : State} (h : htrMay w s = true) (k : htrFree s = true) : runHtr w s = setHtr true s := by
  unfold runHtr
  rw [h, k]
  rfl

theorem runHtr_waits {w : Bool} {s : State} (h : htrMay w s = true) (k : htrFree s = false) : runHtr w s = s := by
  unfold runHtr
  rw [h, k]
  rfl

end Sys2Proof.Machine
end

