-- ==== Sys2Proof/WellFormed.lean ====
section
/-!
DEFINITION. WellFormed.lean: which commands name things that exist: mailboxes, rings, taps, ports, lanes, outputs and the like
(01 R13, 02 R37, R38, 05 R136, 07 R201, 10 R299, 13 R371, 15 R431, 17 R488).
-/

namespace Sys2Proof

/-- A number below a count. -/
def below (n x : Nat) : Bool := x < n

/-- A mailbox, 0 to 7 (13 R371). -/
def mailboxOk (m : Nat) : Bool := below 8 m

/-- A port of a plane, 1 to 3 (15 R431). -/
def portOk (k : Nat) : Bool := 1 ≤ k && k ≤ 3

/-- A request at a tap: ring, position, ADDR byte and CRC in range (02 R38, R44, R45). -/
def reqOk (q : TapReq) : Bool := below 2 q.ring && q.pos ≤ 16 && below 256 q.addr && below 65536 q.crc && (q.code.map (below 256)).getD true

/-- A CAN frame: identifier and DLC in range (17 R493). -/
def canOk (f : CanFrame) : Bool := (if f.ide then below 536870912 f.id else below 2048 f.id) && below 16 f.dlc && f.data.length ≤ 64

/-- A command is well formed: what it names exists. -/
def Instr.wf : Instr → Bool
  | .clockFault _ _ _ => true
  | .crossingTimeout _ _ _ _ => true
  | .islandSleep _ k _ _ _ => below 11 k
  | .islandWake _ k => below 11 k
  | .triggerFire _ n => below 32 n
  | .sweepMark _ _ _ => true
  | .markReceived _ i _ _ _ _ _ => below 32 i
  | .tapSlotSend _ i _ => below 32 i
  | .sweepDataReceive _ r _ _ => below 2 r
  | .commandWindow _ r => below 2 r
  | .enumeration _ r _ _ => below 2 r
  | .delayTableRefresh _ r _ => below 2 r
  | .ringBreak _ r _ _ => below 2 r
  | .collectPollTimeout _ r _ _ _ => below 2 r
  | .sweepStretched _ r => below 2 r
  | .splitRestoreTest _ r _ => below 2 r
  | .returnToThrough _ r _ _ => below 2 r
  | .fltTestDue _ r _ => below 2 r
  | .tapStatusPoll _ i => below 32 i
  | .cellComparatorTrip _ i c _ _ _ => below 32 i && below 16 c
  | .clkLockLost _ i => below 32 i
  | .tapSleep _ i _ => below 32 i
  | .slowSweep _ _ _ _ _ _ => true
  | .sweepPeriodChange _ => true
  | .nop _ q => reqOk q
  | .tapIdentify _ q => reqOk q
  | .echo _ q => reqOk q
  | .setDelay _ q => reqOk q
  | .setThresh _ q => reqOk q
  | .setMarkCount _ q => reqOk q
  | .readStatus _ q _ _ _ => reqOk q
  | .clearTrip _ q _ => reqOk q
  | .fltTest _ q _ => reqOk q
  | .tapReset _ q _ _ _ => reqOk q
  | .ptProbe _ q _ => reqOk q
  | .setCollect _ q => reqOk q
  | .collect _ q _ => reqOk q
  | .ringMap _ m => mailboxOk m
  | .ringRestore _ m => mailboxOk m
  | .reEnumerate _ m _ _ => mailboxOk m
  | .fltTestNow _ m _ => mailboxOk m
  | .clearTrips _ m _ => mailboxOk m
  | .readSweep _ m => mailboxOk m
  | .balRenew _ => true
  | .balLease _ q _ => reqOk q
  | .balStop _ q => reqOk q
  | .balMode _ q => reqOk q
  | .balLeaseExpiry _ i k => below 32 i && below 2 k
  | .balConverterOvertemp _ i _ => below 32 i
  | .balGatedSuspend _ i => below 32 i
  | .balResume _ i => below 32 i
  | .balStatus _ m => mailboxOk m
  | .balTotals _ m => mailboxOk m
  | .balForce _ m => mailboxOk m
  | .balForceEnd _ c => below 512 c
  | .balRelease _ m => mailboxOk m
  | .estUpdatePeriod _ _ => true
  | .ctxSave _ => true
  | .ctxRead _ m => mailboxOk m
  | .ctxSummary _ m => mailboxOk m
  | .ctxReinit _ m => mailboxOk m
  | .ctxCells _ m => mailboxOk m
  | .capSet _ m => mailboxOk m
  | .chemRead _ m => mailboxOk m
  | .chemWrite _ m => mailboxOk m
  | .ctxClearFlags _ m => mailboxOk m
  | .impLeadStart _ => true
  | .impWindowStart _ => true
  | .impWindowEnd _ _ => true
  | .impSetup _ q => reqOk q
  | .impWindow _ q => reqOk q
  | .impRead _ q => reqOk q
  | .tapImpLineLoss _ i _ => below 32 i
  | .impStatus _ m => mailboxOk m
  | .impResults _ m => mailboxOk m
  | .impSpectrumNow _ m => mailboxOk m
  | .phaseCurrentCycle _ _ _ _ _ _ => true
  | .stringLoopCycle _ _ _ => true
  | .roleCSweep _ => true
  | .containerLoop _ _ => true
  | .roleDeadline _ x _ _ _ => below 3 x
  | .engineSelfTestDone _ e _ => below 4 e
  | .roleRotation _ => true
  | .followingError _ => true
  | .sensorDisagree _ _ _ _ _ => true
  | .sensorFrozen _ x _ _ _ _ => below 2 x
  | .currentFeedbackLost _ => true
  | .sensorRecover _ x _ _ => below 2 x
  | .ctrlStatus _ m => mailboxOk m
  | .ctrlEngines _ m => mailboxOk m
  | .ctrlEngineReturn _ m _ => mailboxOk m
  | .ctrlRotateNow _ m => mailboxOk m
  | .sensorRestore _ m => mailboxOk m
  | .winTotals _ m => mailboxOk m
  | .valleyReached _ n _ _ => below 8 n
  | .limitHit _ n _ _ => below 8 n
  | .cycleGroupBoundary _ => true
  | .interleaveLimit _ n => below 8 n
  | .burstEntry _ => true
  | .burstFrame _ => true
  | .softStart _ _ _ => true
  | .softStartRetry _ _ _ => true
  | .sidebandFrame _ => true
  | .gateStatusFrame _ n _ => below 8 n
  | .laneTrain _ n => below 8 n
  | .laneDown _ n _ _ _ => below 8 n
  | .laneTimeoutOff _ n _ => below 8 n
  | .driverDesat _ n _ => below 8 n
  | .modStatus _ m => mailboxOk m
  | .laneStatus _ m => mailboxOk m
  | .dtTableRead _ m => mailboxOk m
  | .dtTableWrite _ m => mailboxOk m
  | .laneRetrain _ m => mailboxOk m
  | .spSet _ m => mailboxOk m
  | .setpointApply _ => true
  | .dispatchWatchdog _ => true
  | .spCancel _ m => mailboxOk m
  | .spQueueRead _ m => mailboxOk m
  | .dispatchStatus _ m => mailboxOk m
  | .spSilent _ _ => true
  | .domeFault _ _ => true
  | .domeDemand _ => true
  | .sweepCheck _ => true
  | .fltLoopOpen _ loop _ _ => below 2 loop
  | .fltShort _ loop _ _ => below 2 loop
  | .ocFastTrip _ sensor _ _ => below 2 sensor
  | .ocSlowTrip _ => true
  | .sf4TAbsent _ c => below 512 c
  | .siChannelDemand _ i _ _ => below 4 i
  | .siChannelRelease _ i _ _ => below 4 i
  | .siDiscrepancy _ i => below 4 i
  | .tpPulse _ tp _ => below 2 tp
  | .tripInOpen _ _ _ => true
  | .sf8DelayEnd _ => true
  | .sf9Stale _ => true
  | .safeStateOpen _ => true
  | .k2OrderGap _ => true
  | .domeOpen _ => true
  | .plantStop _ plane _ => below 2 plane
  | .plantStopRelease _ plane _ => below 2 plane
  | .safetyKeepalive _ plane _ => below 2 plane
  | .tripNotice _ plane _ => below 2 plane
  | .safeMsgOrphan _ _ _ => true
  | .safeLinkLost _ => true
  | .singlePlane _ p => below 2 p
  | .sealChanged _ n _ => below 8 n
  | .safeStatus _ m => mailboxOk m
  | .safeReset _ m => mailboxOk m
  | .tripInRecheck _ => true
  | .safeSetRead _ m => mailboxOk m
  | .safeSetConfirm _ m => mailboxOk m
  | .safeCounters _ m => mailboxOk m
  | .localAckExpiry _ => true
  | .kfEdge _ n _ _ _ => below 4 n
  | .kDropout _ n _ => below 4 n
  | .kFailClose _ n => below 4 n
  | .kWelded _ n _ => below 4 n
  | .kPullinEnd _ n => below 4 n
  | .outputOvercurrent _ n _ _ => below 4 n
  | .coilOpen _ n _ _ => below 4 n
  | .coilSupplyLow _ _ _ => true
  | .outputTestPulse _ n => below 4 n
  | .outputSwitchFault _ n _ _ => below 4 n
  | .prechargeHalfTau _ _ => true
  | .prechargeThreeTau _ _ => true
  | .preEnergyTick _ _ _ => true
  | .k3OverlapEnd _ => true
  | .orderlyGatesOff _ => true
  | .outStatus _ m => mailboxOk m
  | .connect _ m _ _ => mailboxOk m
  | .disconnect _ m => mailboxOk m
  | .preHistory _ m => mailboxOk m
  | .preModelReset _ m => mailboxOk m
  | .thermalSample _ _ => true
  | .nvmForbidLift _ => true
  | .thermalShutdown _ _ _ => true
  | .thermalResetHold _ => true
  | .thermalRelease _ _ => true
  | .thermalAutoReconnect _ _ _ => true
  | .loopFallback _ => true
  | .loopWatchdog _ => true
  | .vlvOpen _ _ _ => true
  | .thermStatus _ m => mailboxOk m
  | .thermManual _ m => mailboxOk m
  | .thermManualEnd _ => true
  | .thermAuto _ m => mailboxOk m
  | .boot _ _ => true
  | .shelfWake _ _ _ _ _ => true
  | .bootFail _ => true
  | .wakeAtReached _ => true
  | .dormantAuto _ => true
  | .pwrAuxLoss _ _ _ _ => true
  | .pwrAuxReturn _ _ _ => true
  | .cisternSequence _ _ _ => true
  | .modeStatus _ m => mailboxOk m
  | .enterService _ m => mailboxOk m
  | .leaveService _ m => mailboxOk m
  | .run _ m => mailboxOk m
  | .hold _ m => mailboxOk m
  | .enterDormant _ m => mailboxOk m
  | .wake _ m => mailboxOk m
  | .wakeAt _ m => mailboxOk m
  | .enterShelf _ m => mailboxOk m
  | .request _ _ _ _ => true
  | .read _ _ _ _ => true
  | .ack _ _ _ _ => true
  | .commandDone _ m => mailboxOk m
  | .mbxIdleRelease _ m => mailboxOk m
  | .stageTimeout _ f => below 21 f
  | .spireRestart _ => true
  | .getStatus _ m => mailboxOk m
  | .stop _ m => mailboxOk m
  | .stage _ m => mailboxOk m
  | .restart _ m => mailboxOk m
  | .readParam _ m => mailboxOk m
  | .discardStaged _ m => mailboxOk m
  | .identify _ m => mailboxOk m
  | .getChallenge _ m => mailboxOk m
  | .mbxStatus _ m => mailboxOk m
  | .mbxRelease _ m => mailboxOk m
  | .commit _ m => mailboxOk m
  | .keySet _ m => mailboxOk m
  | .ownerLock _ m => mailboxOk m
  | .heartbeatSend _ => true
  | .heartbeat _ path _ _ _ _ => below 3 path
  | .heartbeatTimeout _ => true
  | .checkpointPush _ => true
  | .checkpointBlock _ _ => true
  | .swapPrepare _ _ => true
  | .swapReady _ _ => true
  | .swapHand _ _ => true
  | .swapTaken _ _ => true
  | .swapAbort _ _ => true
  | .swapStepTimeout _ => true
  | .claimRound _ _ _ _ _ _ => true
  | .holdFollowExpiry _ => true
  | .pairStartup _ => true
  | .pairStartFault _ => true
  | .standbySelfTest _ _ _ _ => true
  | .pairOverrideEnd _ => true
  | .healthReport _ _ => true
  | .pairStatus _ m => mailboxOk m
  | .pairSwap _ m => mailboxOk m
  | .pairOverride _ m => mailboxOk m
  | .pairCkptNow _ m => mailboxOk m
  | .healthRead _ m => mailboxOk m
  | .helloSend _ p k => below 2 p && portOk k
  | .hello _ p k _ => below 2 p && portOk k
  | .helloDead _ p k => below 2 p && portOk k
  | .pcsSyncLoss _ p k => below 2 p && portOk k
  | .lsaSend _ p => below 2 p
  | .lsa _ p k _ => below 2 p && portOk k
  | .lsaAgeOut _ p _ => below 2 p
  | .routeCompute _ p => below 2 p
  | .fabricFrameReceive _ p k _ => below 2 p && portOk k
  | .planeFailed _ p => below 2 p
  | .planeUp _ p => below 2 p
  | .flowReturn _ _ _ => true
  | .fabStatus _ m => mailboxOk m
  | .fabRoutes _ m => mailboxOk m
  | .fabLsdb _ m => mailboxOk m
  | .fabFlows _ m => mailboxOk m
  | .fabClearCounters _ m => mailboxOk m
  | .announce _ d _ _ _ _ => below 2 d
  | .sync _ d _ _ _ _ _ _ _ => below 2 d
  | .followUp _ d _ _ _ _ => below 2 d
  | .delayReq _ d _ _ _ _ _ => below 2 d
  | .delayResp _ d _ _ _ _ _ => below 2 d
  | .domainLoss _ d => below 2 d
  | .domainDegradedEnd _ d => below 2 d
  | .timePrefReturn _ => true
  | .ppsEdge _ n => below 2 n
  | .ppsInvalid _ n => below 2 n
  | .ppsOut _ => true
  | .timeStatus _ m => mailboxOk m
  | .timeEdges _ m => mailboxOk m
  | .timeResync _ m => mailboxOk m
  | .timeSet _ m => mailboxOk m
  | .canFrameReceive _ c f => below 2 c && canOk f
  | .canTxAttempt _ c => below 2 c
  | .canTxEnd _ c outcome => below 2 c && below 3 outcome
  | .busOff _ c => below 2 c
  | .busOffRecovered _ c => below 2 c
  | .frMapSend _ k _ => below 5 k
  | .frSetpointFrame _ _ => true
  | .frCommandFrame _ _ _ _ => true
  | .canStatus _ m => mailboxOk m
  | .canTx _ m => mailboxOk m
  | .canTxCancel _ m => mailboxOk m
  | .canTxQuery _ m => mailboxOk m
  | .canRxRead _ m => mailboxOk m
  | .canRxRelease _ m => mailboxOk m
  | .canRecover _ m => mailboxOk m
  | .twAddressMatch _ _ _ => true
  | .twWindowWrite _ _ => true
  | .twDoorbellRequest _ => true
  | .twDoorbellRead _ => true
  | .twDoorbellAck _ => true
  | .twTransferAbort _ => true
  | .twLate _ _ => true
  | .twAttention _ outcome => below 3 outcome
  | .twAttnRetry _ outcome => below 3 outcome
  | .twBusClear _ _ => true
  | .twAccXfer _ m _ _ _ => mailboxOk m
  | .twAccStatus _ m => mailboxOk m
  | .twSvcStatus _ m => mailboxOk m
  | .recFlushPeriod _ => true
  | .recordFlush _ => true
  | .nvmPageCommit _ _ => true
  | .cursorExpiry _ c => below 4 c
  | .recClearBlock _ _ => true
  | .recStatus _ m => mailboxOk m
  | .recSeek _ m => mailboxOk m
  | .recRead _ m => mailboxOk m
  | .recRelease _ m => mailboxOk m
  | .recFlush _ m => mailboxOk m
  | .recClear _ m => mailboxOk m
  | .recCodes _ m => mailboxOk m
  | .imgStatus _ m => mailboxOk m
  | .imgOpen _ m => mailboxOk m
  | .imgBlock _ m => mailboxOk m
  | .imgCheck _ m _ => mailboxOk m
  | .imgInstall _ m _ => mailboxOk m
  | .imgAbort _ m => mailboxOk m
  | .tapInstall _ m => mailboxOk m
  | .installStepDone _ _ _ => true
  | .installResume _ _ => true
  | .installPauseTimeout _ => true
  | .imgOwnerTimeout _ id => below 10 id
  | .fwOpen _ q => reqOk q
  | .fwBlock _ q => reqOk q
  | .fwCheck _ q => reqOk q
  | .fwSwap _ q _ _ _ _ => reqOk q
  | .tapSwapTimeout _ _ => true
  | .cisternMeasure _ _ _ _ => true
  | .impWindowSuspend _ i => below 32 i
  | .matchedCopyReturn _ => true
  | .outputPulseEnd _ n _ _ => below 4 n
  | .wakeComparatorArm _ _ _ => true
  | .tapWake _ i => below 32 i
  | .stFltHoldEnd _ => true
  | .supervisorWatchdog _ _ => true

end Sys2Proof
end

