-- ==== Sys2Proof/Tests/Slice0.lean ====
section
/-!
SUPPORT. Tests/Slice0.lean: for every clause with hypotheses of every statement a state and operands that meet them together
(wit_<statement>_<clause>), an ill-formed command for each check of WellFormed, and a few values that the spec itself gives.
-/

namespace Sys2Proof.Machine

open Sys2Proof

-- One theorem after the other: the memory limit leaves no room for many at once.
set_option Elab.async false
set_option linter.unusedVariables false

/-! ## Small states -/

def wState : State := { core.mode := .watch }
def withReq (m cmd : Nat) (p : List Byte) (s : State) : State :=
  setMbx m (fun b => { b with phase := .pending, bound := some (if m = 7 then .tw else if m = 6 then .udp 1 1 else .fabric 1, 1), req := some { command := cmd, seq := 1, flags := 0, pad := 0, length := p.length, payload := p, auth := [] } }) s
def sweepFrame : List Byte :=
  let b : List Byte := [1, 0x90, 59] ++ List.replicate 59 0
  b ++ leBytes 2 (crc16 b)
def tapReq (cmd : Nat) (p : List Byte) : TapReq := { ring := 0, pos := 1, addr := 1, crc := frameCrc 1 cmd p, payload := p }
def tapJob : Install :=
  { id := 9, mb := none, step := 0, steps := 1, todo := [0], busy := true, failed := 0, paused := none, since := 0, hold := false,
    halted := [], shadowAt := none, phase := 5, next := [0, 0], resend := [], unchecked := [], goodSince := none }
def eState : State := { wState with ctrl.eng := [{ role := .p }, { role := .s }, { role := .c }, { role := .w }] }
def upState : State := { eState with core.mode := .run, mbx.params := [(Prm.phaseMask, 1)], mbx.fns := List.replicate 32 { state := .running }, conv.lane := [{ up := true }], saf.gateInhibit := false, saf.laneEnable := true, pair.role := 15 }
def msgState (b : List Byte) : State :=
  { wState with saf.force := (List.replicate 15 100).set 12 1, saf.copies := [⟨0, 1, 1, b, 0⟩] }
def oneTap (s : State) : State := setRing 0 (fun r => { r with n := some 1 }) s
/-- A fold over naturals whose accumulator is forced at each step. -/
def foldForced (f : Nat → Byte → Nat) : List Byte → Nat → Nat
  | [], c => c
  | b :: l, c => match f c b with
    | 0 => foldForced f l 0
    | n + 1 => foldForced f l (n + 1)
theorem foldForced_eq (f : Nat → Byte → Nat) (l : List Byte) (c : Nat) : foldForced f l c = l.foldl f c := by
  induction l generalizing c with
  | nil => rfl
  | cons b l ih =>
    rw [List.foldl_cons, ← ih]
    cases h : f c b with
    | zero => simp [foldForced, h]
    | succ n => simp [foldForced, h]
theorem crc32_forced (l : List Byte) : crc32 l = Nat.xor (foldForced (fun c b => (List.range 8).foldl (fun c _ => crc32Shift c) (Nat.xor c b.toNat)) l 0xFFFFFFFF) 0xFFFFFFFF := by
  rw [foldForced_eq]
  unfold crc32
  with_reducible rfl
theorem crc_zeros : crc32 (List.replicate 1020 0) = 1740353414 := by
  rw [crc32_forced]
  decide +kernel
def zeroSet : List Byte := List.replicate 1020 0 ++ leBytes 4 1740353414
theorem zeroSet_usable : chemUsable zeroSet = true := by
  have h : zeroSet.take 1020 = List.replicate 1020 0 := by decide +kernel
  unfold chemUsable
  rw [h, crc_zeros]
  decide +kernel
def cState : State := { eState with est.chem := [zeroSet, [], [], []], saf.sets := [{ confirmed := true }], saf.force := (List.replicate 15 0).set 3 1000000, con.vStr := 3200, est.mismatch := false }
def pState : State := { wState with core.seals := 0x40, thm.held := false, core.bootAt := 0 }
def stepBytes (step : Nat) : List Byte := [4, BitVec.ofNat 8 step, 1, 0] ++ List.replicate 28 0
def swapOf (active : Bool) (step : Nat) : Swap := ⟨active, 1, 2, step, 0, false, 0, 0, none, ⟨0, 0, none, 0, 9, false⟩⟩

def goodFrame : FabFrame := ⟨true, false, true, prmN wState Prm.fabricEthertype, [1, 4, 8, 7, 5, 0] ++ List.replicate 54 0, 0⟩
def uState : State := { wState with core.auxOk := true, core.hwLevel := 0 }

/-! ## StepServesTheFrontCommand -/

theorem wit_StepServesTheFrontCommand_1 : ∃ (c : Instr) (rest : List Instr) (s : State), (s.pending = c :: rest) :=
  ⟨.clockFault 0 0 0, [], { pending := [.clockFault 0 0 0] }, by decide +kernel⟩

theorem wit_StepServesTheFrontCommand_2 : ∃ (s : State), (s.pending = []) :=
  ⟨{}, by decide⟩

/-! ## EveryCommandAnswersANextState -/

/-! ## TheQueueIsServed -/

/-! ## EveryStepKeepsTheBounds -/

theorem wit_EveryStepKeepsTheBounds_1 : ∃ (s u : State), (Bounds s) ∧ (step s = .next u) :=
  ⟨{}, {}, by unfold Bounds; decide, rfl⟩

/-! ## ResetMeetsTheBounds -/

/-! ## ResetValuesOfTheSpec -/

/-! ## MoreResetValuesOfTheSpec -/

/-! ## IslandsClocksAndSupplies -/

theorem wit_IslandsClocksAndSupplies_1 : ∃ (t ppm held : Nat) (s : State), (5000 < ppm) ∧ (ms 1 ≤ held) ∧ (s.core.clockFault = false) :=
  ⟨0, 6000, 1000000, wState, by decide⟩

theorem wit_IslandsClocksAndSupplies_2 : ∃ (t ppm held : Nat) (s : State), (ppm ≤ 5000) :=
  ⟨0, 10, 0, wState, by decide⟩

theorem wit_IslandsClocksAndSupplies_3 : ∃ (t src dst waited : Nat) (s : State), (10000 ≤ waited) ∧ (src < 11) ∧ (dst < 11) :=
  ⟨0, 1, 2, 10000, wState, by decide⟩

theorem wit_IslandsClocksAndSupplies_4 : ∃ (t k n : Nat) (s : State), (k < 11) ∧ (s.core.mode ≠ .shelf) ∧ (s.upd.job = none) ∧ (max s.now t + 1950000 ≤ n) ∧ (sleepCap (clocked t s) k = .nap) ∧ ((islandOf s k).heldIdle = false) :=
  ⟨0, 5, 3000000, wState, by decide⟩

theorem wit_IslandsClocksAndSupplies_5 : ∃ (t k : Nat) (next : Option Nat) (s : State), (k < 11) ∧ (s.core.mode ≠ .shelf) ∧ (s.upd.job = none) ∧ (sleepCap (clocked t s) k ≠ .awake) :=
  ⟨0, 5, none, wState, by decide⟩

theorem wit_IslandsClocksAndSupplies_6 : ∃ (t k : Nat) (s : State), (k < 11) ∧ (s.core.mode ≠ .shelf) ∧ ((islandOf s k).sleep = .nap) ∧ ((islandOf s k).wakeAt = none) :=
  ⟨0, 5, setIsland 5 (fun i => { i with sleep := .nap }) wState, by decide⟩

theorem wit_IslandsClocksAndSupplies_7 : ∃ (t k a : Nat) (s : State), (k < 11) ∧ (s.core.mode ≠ .shelf) ∧ ((islandOf s k).sleep = .nap) ∧ ((islandOf s k).wakeAt = some a) ∧ (a + (Sleep.nap).latency + us 10 < max s.now t) :=
  ⟨500000, 5, 0, setIsland 5 (fun i => { i with sleep := .nap, wakeAt := some 0 }) wState, by decide⟩

theorem wit_IslandsClocksAndSupplies_8 : ∃ (t full present mv : Nat) (s : State), (s.core.mode ≠ .shelf) ∧ (9 * full ≤ 10 * present) ∧ (45 ≤ full) ∧ (2600 ≤ mv) :=
  ⟨0, 60, 60, 3000, wState, by decide⟩

theorem wit_IslandsClocksAndSupplies_9 : ∃ (t full present mv : Nat) (s : State), (s.core.mode ≠ .shelf) ∧ (10 * present < 9 * full) ∧ (full < 45) ∧ (2600 ≤ mv) ∧ (s.core.cisternLow = false) ∧ (s.core.cisternWorn = false) :=
  ⟨0, 40, 20, 3000, wState, by decide⟩

theorem wit_IslandsClocksAndSupplies_10 : ∃ (t a : Nat) (s : State), (s.core.lastFaultRec = some a) ∧ (a + 60000000000 ≤ max s.now t) ∧ (s.core.mode ≠ .tripped) :=
  ⟨60000000000, 0, { wState with core.lastFaultRec := some 0 }, by decide⟩

/-! ## TimeFromPtpDomains -/

theorem wit_TimeFromPtpDomains_1 : ∃ (t d num gm : Nat) (data : List Nat) (utc : Int) (s : State), (ptpFor (clocked t s) d num = true) ∧ ((domOf s d).announceAt = none) :=
  ⟨0, 0, domNumber wState 0, 7, [128, 6, 0, 0, 128, 0], 37, wState, by decide⟩

theorem wit_TimeFromPtpDomains_2 : ∃ (t d num gm a : Nat) (data : List Nat) (utc : Int) (s : State), (ptpFor (clocked t s) d num = true) ∧ ((domOf s d).announceAt = some a) ∧ (max s.now t ≤ a + sec 3) ∧ ((domOf s d).gm ≠ gm) ∧ (listLess (data.take 5 ++ [gm] ++ data.drop 5) (domOf s d).best = false) :=
  ⟨0, 0, domNumber wState 0, 7, 0, [128, 6, 0, 0, 128, 0], 37, setDom 0 (fun x => { x with gm := 5, best := [1], announceAt := some 0 }) wState, by decide⟩

theorem wit_TimeFromPtpDomains_3 : ∃ (t d num seq : Nat) (origin rx corr : Int) (trace : Nat) (s : State), (ptpFor (clocked t s) d num = true) ∧ (leads (clocked t s) d = false) :=
  ⟨0, 0, domNumber wState 0, 1, 0, 0, 0, 0, wState, by decide⟩

theorem wit_TimeFromPtpDomains_4 : ∃ (t d num seq tr : Nat) (origin corr rx c : Int) (s : State), (ptpFor (clocked t s) d num = true) ∧ ((domOf s d).sync = some (seq, rx, c, tr)) :=
  ⟨0, 0, domNumber wState 0, 1, 0, 0, 0, 5, 0, setDom 0 (fun x => { x with sync := some (1, 5, 0, 0) }) wState, by decide⟩

theorem wit_TimeFromPtpDomains_5 : ∃ (t d num seq src : Nat) (corr : Int) (s : State), (ptpFor (clocked t s) d num = true) :=
  ⟨0, 0, domNumber wState 0, 1, 0, 0, wState, by decide⟩

theorem wit_TimeFromPtpDomains_6 : ∃ (t d num seq src : Nat) (corr : Int) (s : State), (ptpFor (clocked t s) d num = true) ∧ (leads (clocked t s) d = true) :=
  ⟨0, 0, domNumber wState 0, 1, 0, 0, { wState with mbx.params := [(Prm.timeGmEnable, 1)], tim.st := .locked, tim.src := 2 }, by decide⟩

theorem wit_TimeFromPtpDomains_7 : ∃ (t d num seq trace : Nat) (rx corr t3 : Int) (s : State), (ptpFor (clocked t s) d num = true) ∧ ((domOf s d).req = some (seq, t3)) :=
  ⟨0, 0, domNumber wState 0, 1, 0, 9, 0, 5, setDom 0 (fun x => { x with req := some (1, 5), t12 := some (1, 4) }) wState, by decide⟩

theorem wit_TimeFromPtpDomains_8 : ∃ (t d : Nat) (s : State), (d < 2) :=
  ⟨0, 0, wState, by decide⟩

theorem wit_TimeFromPtpDomains_9 : ∃ (t d e : Nat) (s : State), ((domOf s d).degraded = some e) ∧ (e ≤ max s.now t) ∧ ((planeOf s d).asym = false) :=
  ⟨5, 0, 5, setDom 0 (fun x => { x with degraded := some 5 }) wState, by decide⟩

/-! ## TimePpsTriggersAndCommands -/

theorem wit_TimePpsTriggersAndCommands_1 : ∃ (t n : Nat) (s : State), (n < 2) ∧ (s.core.mode ≠ .shelf) ∧ (s.tim.servo = false) ∧ ((ppsOf s n).at_ = none) :=
  ⟨0, 0, { wState with tim.servo := false }, by decide⟩

theorem wit_TimePpsTriggersAndCommands_2 : ∃ (t n a : Nat) (s : State), ((ppsOf s n).at_ = some a) ∧ (a + 1500000000 ≤ max s.now t) :=
  ⟨1500000000, 0, 0, setPps 0 (fun p => { p with at_ := some 0 }) wState, by decide⟩

theorem wit_TimePpsTriggersAndCommands_3 : ∃ (t : Nat) (s : State), (s.core.mode ≠ .shelf) ∧ (prm s Prm.ppsOutGate = 0) ∧ (onGrid (clocked t s) { period := sec 1 } = true) :=
  ⟨0, { wState with mbx.params := [(Prm.ppsOutGate, 0)] }, by decide⟩

theorem wit_TimePpsTriggersAndCommands_4 : ∃ (t n : Nat) (s : State), (n < s.tim.trig.length) ∧ (n < 32) ∧ (s.core.mode ≠ .shelf) ∧ ((s.tim.trig.getD n {}).on = true) ∧ ((s.tim.trig.getD n {}).period = 0) ∧ (diff48 (s.tim.trig.getD n {}).time (stampNow (clocked t s)) ≤ 0) :=
  ⟨0, 3, { wState with tim.trig := wState.tim.trig.modify 3 (fun g => { g with on := true }) }, by decide⟩

theorem wit_TimePpsTriggersAndCommands_5 : ∃ (n : Nat) (s : State), (n < 16 ∨ 17 < n) :=
  ⟨3, wState, by decide⟩

theorem wit_TimePpsTriggersAndCommands_6 : ∃ (n : Nat) (s : State), (n = 16 ∨ n = 17) ∧ (ptpRuns s = true) ∧ (leads s (n - 16) = true) ∧ (onGrid s { period := sec 1 } = false) :=
  ⟨16, { wState with now := 1000000, mbx.params := [(Prm.timeGmEnable, 1)], tim.st := .locked, tim.src := 2 }, by decide⟩

theorem wit_TimePpsTriggersAndCommands_7 : ∃ (t m : Nat) (s : State), (Pend s m Cmd.timeStatus []) :=
  ⟨0, 0, withReq 0 Cmd.timeStatus [] wState, by decide⟩

theorem wit_TimePpsTriggersAndCommands_8 : ∃ (t m : Nat) (p : List Byte) (s : State), (Pend s m Cmd.timeEdges p) ∧ (p.length = 5) ∧ (1 ≤ byteAt p 4) ∧ (byteAt p 4 ≤ 64) :=
  ⟨0, 0, [0, 0, 0, 0, 1], withReq 0 Cmd.timeEdges [0, 0, 0, 0, 1] wState, by decide⟩

theorem wit_TimePpsTriggersAndCommands_9 : ∃ (t m : Nat) (o : Int) (s : State), (Pend s m Cmd.timeResync []) ∧ (anyEnergised s = false) ∧ (pairMode s = false) ∧ (s.tim.src < 2) ∧ ((domOf s s.tim.src).offset = some o) :=
  ⟨0, 0, 5, withReq 0 Cmd.timeResync [] (setDom 0 (fun x => { x with offset := some 5 }) { wState with tim.src := 0 }), by decide⟩

theorem wit_TimePpsTriggersAndCommands_10 : ∃ (t m : Nat) (p : List Byte) (s : State), (Pend s m Cmd.timeSet p) ∧ (p.length = 8) ∧ (anyEnergised s = false) ∧ (pairMode s = false) ∧ (∀ d < 2, (domOf s d).usableSince = none ∧ ppsGood s d = false) :=
  ⟨0, 0, [0, 0, 0, 0, 1, 0, 0, 0], withReq 0 Cmd.timeSet [0, 0, 0, 0, 1, 0, 0, 0] wState, by decide⟩

theorem wit_TimePpsTriggersAndCommands_11 : ∃ (t m : Nat) (s : State), (Pend s m Cmd.timeResync []) ∧ (anyEnergised s = true) :=
  ⟨0, 0, withReq 0 Cmd.timeResync [] (setCoil 0 (fun c => { c with hs := true, ls := true }) wState), by decide⟩

theorem wit_TimePpsTriggersAndCommands_12 : ∃ (t m : Nat) (p : List Byte) (s : State), (Pend s m Cmd.timeSet p) ∧ (p.length = 8) ∧ (anyEnergised s = true) :=
  ⟨0, 0, [0, 0, 0, 0, 1, 0, 0, 0], withReq 0 Cmd.timeSet [0, 0, 0, 0, 1, 0, 0, 0] (setCoil 0 (fun c => { c with hs := true, ls := true }) wState), by decide⟩

/-! ## RingSweepAndBreak -/

theorem wit_RingSweepAndBreak_1 : ∃ (t : Nat) (a b : Option Int) (c : Int) (s : State), ([0, 1].filter (ringServed (clocked t s)) ≠ []) ∧ (s.core.mode ≠ .shelf) ∧ (s.core.mode ≠ .dormant) ∧ (nextMark (clocked t s) ≤ max s.now t + us s.rings.period + max (markLead s 0) (markLead s 1)) ∧ (([0, 1].filter (ringServed (clocked t s))).any (fun r => lateFor s (nextMark (clocked t s)) (ringOf s r)) = false) ∧ (s.rings.nextPeriod = none) ∧ (currentOf s a b = some c) :=
  ⟨0, some 7, none, 7, setRing 0 (fun x => { x with up := true, n := some 1 }) wState, by decide⟩

theorem wit_RingSweepAndBreak_2 : ∃ (t r : Nat) (a b : Option Int) (s : State), (r < 2) ∧ (ringServed (clocked t s) r = true) ∧ (s.core.mode ≠ .shelf) ∧ (s.core.mode ≠ .dormant) ∧ (nextMark (clocked t s) ≤ max s.now t + us s.rings.period + max (markLead s 0) (markLead s 1)) ∧ (lateFor s (nextMark (clocked t s)) (ringOf s r) = true) :=
  ⟨0, 0, none, none, setRing 0 (fun x => { x with mark := some 0 }) (setRing 0 (fun x => { x with up := true, n := some 1 }) wState), by decide⟩

theorem wit_RingSweepAndBreak_3 : ∃ (t r T : Nat) (s : State), ((ringOf s r).mark = some T) ∧ (T + us s.rings.period ≤ max s.now t + us 60 + markLead s r) :=
  ⟨100000000, 0, 0, setRing 0 (fun x => { x with mark := some 0 }) (setRing 0 (fun x => { x with up := true, n := some 1 }) wState), by decide⟩

theorem wit_RingSweepAndBreak_4 : ∃ (t r p : Nat) (f : List Byte) (s : State), (r < 2) ∧ (ringServed (clocked t s) r = true) ∧ (pollAt (clocked t s) r true = none) ∧ ((ringOf s r).mark ≠ none) ∧ (f.length = 64) ∧ (byteAt f 0 % 64 = p) ∧ (byteAt f 1 = 0x90) ∧ (byteAt f 2 = 59) ∧ (leAt f 62 2 = crc16 (f.take 62)) ∧ (1 ≤ p) ∧ (p ≤ tapCount s r) ∧ ((posOf s r p).got = false) ∧ (leAt (f.drop 3) 0 1 = (posOf s r p).expect) ∧ (leAt (f.drop 3) 1 2 = 0) ∧ (leAt f 4 2 = 0) :=
  ⟨0, 0, 1, sweepFrame, setRing 0 (fun x => { x with mark := some 0 }) (setRing 0 (fun x => { x with up := true, n := some 1 }) wState), by decide +kernel⟩

theorem wit_RingSweepAndBreak_5 : ∃ (t r p : Nat) (f : List Byte) (s : State), (r < 2) ∧ (ringServed (clocked t s) r = true) ∧ (pollAt (clocked t s) r true = none) ∧ ((ringOf s r).mark = some 0) ∧ (leAt f 62 2 ≠ crc16 (f.take 62)) ∧ (p = (max s.now t - us 28) / us 23 + 1) ∧ (p ≤ tapCount s r) ∧ ((posOf s r p).got = false) :=
  ⟨6000, 0, 1, [0, 0, 1], setRing 0 (fun x => { x with mark := some 0 }) (setRing 0 (fun x => { x with up := true, n := some 1 }) wState), by decide⟩

theorem wit_RingSweepAndBreak_6 : ∃ (t r h waited : Nat) (s : State), (pollAt (clocked t s) r false = some h) ∧ (us 30 + 2 * ((posOf s r h).outUp.getD 0) ≤ waited) :=
  ⟨0, 0, 1, 30000, setRing 0 (fun x => { x with pollLow := some 1 }) (setRing 0 (fun x => { x with up := true, n := some 1 }) wState), by decide⟩

theorem wit_RingSweepAndBreak_7 : ∃ (t r h waited : Nat) (s : State), (pollAt (clocked t s) r true = some h) ∧ (us 30 + 2 * ((posOf s r (tapCount s r + 1 - h)).outDn.getD 0) ≤ waited) :=
  ⟨0, 0, 1, 30000, setRing 0 (fun x => { x with pollHigh := some 1 }) (setRing 0 (fun x => { x with up := true, n := some 1 }) wState), by decide⟩

theorem wit_RingSweepAndBreak_8 : ∃ (t r : Nat) (s : State), (r < 2) ∧ (ringServed (clocked t s) r = true) ∧ (s.core.mode ≠ .shelf) ∧ (s.core.mode ≠ .dormant) ∧ ((ringOf s r).split = true) ∧ (windowOpen (clocked t s) r = true) :=
  ⟨0, 0, { setRing 0 (fun x => { x with split := true }) (setRing 0 (fun x => { x with up := true, n := some 1 }) wState) with rings.window := [true, false] }, by decide⟩

theorem wit_RingSweepAndBreak_9 : ∃ (t r waited : Nat) (s : State), (ringServed (clocked t s) r = true) ∧ ((ringOf s r).split = false) ∧ ((ringOf s r).locating = false) ∧ ((ringOf s r).loop.getD 0 + us (prmN s Prm.returnTimeoutExtra) ≤ waited) :=
  ⟨0, 0, 1000000, setRing 0 (fun x => { x with up := true, n := some 1 }) wState, by decide⟩

theorem wit_RingSweepAndBreak_10 : ∃ (t p a : Nat) (s : State), (s.rings.nextPeriod = some (p, a)) ∧ (a ≤ nextMark (clocked t s) + us 10) :=
  ⟨0, 20000, 0, { wState with rings.nextPeriod := some (20000, 0) }, by decide⟩

/-! ## RingEnumerationAndTests -/

theorem wit_RingEnumerationAndTests_1 : ∃ (t r : Nat) (o : RingObs) (lost : List Nat) (s : State), (r < 2) ∧ (running s 1 = true) ∧ ((ringOf s r).up = false) ∧ (s.core.mode ≠ .shelf) ∧ (s.core.mode ≠ .dormant) ∧ (holdsToken s = true) ∧ (s.thm.held = false) :=
  ⟨0, 0, ⟨some 1000, 62, [], []⟩, [], wState, by decide⟩

theorem wit_RingEnumerationAndTests_2 : ∃ (t m : Nat) (a b : RingObs) (s : State), (Pend s m Cmd.reEnumerate []) ∧ (stopped s 1 = false) :=
  ⟨0, 0, ⟨some 1000, 62, [], []⟩, ⟨some 1000, 62, [], []⟩, withReq 0 Cmd.reEnumerate [] wState, by decide⟩

theorem wit_RingEnumerationAndTests_3 : ∃ (r : Nat) (o : RingObs) (s : State), (loopWhole s o = true) ∧ (o.back < 46) :=
  ⟨0, ⟨some 1000, 45, [], []⟩, wState, by decide⟩

theorem wit_RingEnumerationAndTests_4 : ∃ (t r : Nat) (rts : List (Option Nat × Option Nat)) (s : State), (ringServed (clocked t s) r = true) ∧ (windowOpen (clocked t s) r = true) ∧ ((ringOf s r).refreshedAt + sec (min 10 (prmN s Prm.delayRemeasure)) ≤ max s.now t) :=
  ⟨10000000001, 0, [], { setRing 0 (fun x => { x with up := true, n := some 1 }) wState with rings.window := [true, true] }, by decide⟩

theorem wit_RingEnumerationAndTests_5 : ∃ (t r : Nat) (s : State), (ringServed (clocked t s) r = true) ∧ (windowOpen (clocked t s) r = true) ∧ ((ringOf s r).split = true) ∧ ((ringOf s r).tested = none) :=
  ⟨0, 0, setRing 0 (fun x => { x with split := true }) ({ setRing 0 (fun x => { x with up := true, n := some 1 }) wState with rings.window := [true, true] }), by decide⟩

theorem wit_RingEnumerationAndTests_6 : ∃ (t r : Nat) (s : State), (ringServed (clocked t s) r = true) ∧ (windowOpen (clocked t s) r = true) ∧ ((ringOf s r).split = true) ∧ ((ringOf s r).tested = none) ∧ ((ringOf s r).hold = true) :=
  ⟨0, 0, setRing 0 (fun x => { x with split := true, hold := true }) ({ setRing 0 (fun x => { x with up := true, n := some 1 }) wState with rings.window := [true, true] }), by decide⟩

theorem wit_RingEnumerationAndTests_7 : ∃ (t r loop a : Nat) (rts : List (Option Nat × Option Nat)) (s : State), (ringServed (clocked t s) r = true) ∧ ((ringOf s r).split = true) ∧ (windowOpen (clocked t s) r = true) ∧ ((ringOf s r).slotSent = true) ∧ ((ringOf s r).remeasure = some a) ∧ (a < stampAt (clocked t s) (nextMark (clocked t s) + us 10) / 2 ^ 32) :=
  ⟨2000000001, 0, 1000, 0, [], setRing 0 (fun x => { x with split := true, slotSent := true, remeasure := some 0 }) ({ setRing 0 (fun x => { x with up := true, n := some 1 }) wState with rings.window := [true, true] }), by decide⟩

theorem wit_RingEnumerationAndTests_8 : ∃ (t r p : Nat) (dip : Option Nat) (s : State), (ringServed (clocked t s) r = true) ∧ (windowOpen (clocked t s) r = true) ∧ (((reached s r).find? (fun p => (ringOf s r).fltNext ≤ p)).getD ((reached s r).headD 0) = p) ∧ (p ≠ 0) ∧ (loopOpen s r = false) ∧ ((ringOf s r).loopClosedAt + sec 1 ≤ max s.now t) ∧ (lastFltTest (ringOf s r) + sec (prmN s Prm.fltTestInterval) / max (reached s r).length 1 ≤ max s.now t) :=
  ⟨1000000000000000001, 0, 1, some 10000, { setRing 0 (fun x => { x with up := true, n := some 1 }) wState with rings.window := [true, true] }, by decide⟩

theorem wit_RingEnumerationAndTests_9 : ∃ (r p d : Nat) (s : State), (us 8 ≤ d) ∧ (d ≤ us 12) :=
  ⟨0, 1, 10000, wState, by decide⟩

theorem wit_RingEnumerationAndTests_10 : ∃ (t i : Nat) (s : State), (ringServed (clocked t s) (i / 16) = true) ∧ (windowOpen (clocked t s) (i / 16) = true) ∧ ((i % 16 + 1) ∈ reached s (i / 16)) :=
  ⟨1, 0, { setRing 0 (fun x => { x with up := true, n := some 1 }) wState with rings.window := [true, true] }, by decide⟩

theorem wit_RingEnumerationAndTests_11 : ∃ (r p : Nat) (s : State), ((posOf (sendTap r p 0x06 [] s) r p).frUp < 1000 - (posOf (sendTap r p 0x06 [] s) r p).blkUp.1) ∧ ((posOf (sendTap r p 0x06 [] s) r p).frDn < 1000 - (posOf (sendTap r p 0x06 [] s) r p).blkDn.1) :=
  ⟨0, 1, { setRing 0 (fun x => { x with up := true, n := some 1 }) wState with rings.window := [true, true] }, by decide⟩

/-! ## RingCommands -/

theorem wit_RingCommands_1 : ∃ (t m : Nat) (s : State), (Pend s m Cmd.ringMap []) :=
  ⟨0, 0, withReq 0 Cmd.ringMap [] wState, by decide⟩

theorem wit_RingCommands_2 : ∃ (t m : Nat) (s : State), (Pend s m Cmd.ringRestore []) ∧ (stopped s 1 = false) :=
  ⟨0, 0, withReq 0 Cmd.ringRestore [] wState, by decide⟩

theorem wit_RingCommands_3 : ∃ (t m : Nat) (dips : List (List (Option Nat))) (s : State), (Pend s m Cmd.fltTestNow []) ∧ (stopped s 1 = false) ∧ (s.rings.fltNow = none) ∧ ([0, 1].flatMap (fun r => (reached s r).map (tapIndex r)) ≠ []) :=
  ⟨0, 0, [], withReq 0 Cmd.fltTestNow [] (setRing 0 (fun x => { x with up := true, n := some 1 }) wState), by decide⟩

theorem wit_RingCommands_4 : ∃ (t m : Nat) (volts : List (List (Option Int))) (s : State), (Pend s m Cmd.clearTrips []) ∧ (stopped s 1 = false) ∧ (s.rings.clearNow = none) ∧ ([0, 1].filter (fun r => (ringOf s r).up) ≠ []) :=
  ⟨0, 0, [], withReq 0 Cmd.clearTrips [] (setRing 0 (fun x => { x with up := true, n := some 1 }) wState), by decide⟩

theorem wit_RingCommands_5 : ∃ (r m : Nat) (volts : List (List (Option Int))) (s : State), (s.rings.clearNow = some (m, volts, [r])) :=
  ⟨0, 0, [], { (setRing 0 (fun x => { x with up := true, n := some 1 }) wState) with rings.clearNow := some (0, [], [0]) }, by decide⟩

theorem wit_RingCommands_6 : ∃ (t m : Nat) (b : List Byte) (s : State), (Pend s m Cmd.readSweep b) ∧ (b.length = 3) ∧ (leAt b 2 1 ≠ 0) ∧ (leAt b 2 1 ≤ 64) ∧ (leAt b 0 2 + leAt b 2 1 ≤ 512) :=
  ⟨0, 0, [0, 0, 1], withReq 0 Cmd.readSweep [0, 0, 1] wState, by decide⟩

theorem wit_RingCommands_7 : ∃ (t m : Nat) (s : State), (Pend s m Cmd.ringRestore []) ∧ (stopped s 1 = true) :=
  ⟨0, 0, withReq 0 Cmd.ringRestore [] (setFn 1 (fun f => { f with state := .stopped }) wState), by decide⟩

theorem wit_RingCommands_8 : ∃ (t m : Nat) (s : State), (Pend s m Cmd.reEnumerate []) ∧ (stopped s 1 = true) :=
  ⟨0, 0, withReq 0 Cmd.reEnumerate [] (setFn 1 (fun f => { f with state := .stopped }) wState), by decide⟩

theorem wit_RingCommands_9 : ∃ (t m : Nat) (s : State), (Pend s m Cmd.fltTestNow []) ∧ (stopped s 1 = true) :=
  ⟨0, 0, withReq 0 Cmd.fltTestNow [] (setFn 1 (fun f => { f with state := .stopped }) wState), by decide⟩

theorem wit_RingCommands_10 : ∃ (t m : Nat) (s : State), (Pend s m Cmd.clearTrips []) ∧ (stopped s 1 = true) :=
  ⟨0, 0, withReq 0 Cmd.clearTrips [] (setFn 1 (fun f => { f with state := .stopped }) wState), by decide⟩

/-! ## TapRequests -/

theorem wit_TapRequests_1 : ∃ (t : Nat) (q : TapReq) (s : State), (1 ≤ q.pos) ∧ (q.pos ≤ 16) ∧ (q.ring ≤ 1) ∧ (tapAwake s (tapIndex q.ring q.pos) = true) ∧ (q.code = none) ∧ (q.crc ≠ frameCrc q.addr 0x00 q.payload) ∧ (reqRev q = false) :=
  ⟨0, ⟨0, 1, 1, 0, [], none⟩, setTap 0 (fun p => { p with fitted := true }) wState, by decide⟩

theorem wit_TapRequests_2 : ∃ (t c : Nat) (q : TapReq) (s : State), (1 ≤ q.pos) ∧ (q.pos ≤ 16) ∧ (q.ring ≤ 1) ∧ (tapAwake s (tapIndex q.ring q.pos) = true) ∧ (q.code = some c) ∧ (c < 0x80) ∧ (c ∉ tapCodes) ∧ (q.crc = frameCrc q.addr c q.payload) ∧ (reqHop q = 1) :=
  ⟨0, 0x7F, ⟨0, 1, 1, frameCrc 1 0x7F [], [], some 0x7F⟩, setTap 0 (fun p => { p with fitted := true }) wState, by decide +kernel⟩

theorem wit_TapRequests_3 : ∃ (t c : Nat) (q : TapReq) (s : State), (1 ≤ q.pos) ∧ (q.pos ≤ 16) ∧ (q.ring ≤ 1) ∧ (tapAwake s (tapIndex q.ring q.pos) = true) ∧ (q.code = some c) ∧ (0x80 ≤ c) ∧ (q.crc = frameCrc q.addr c q.payload) ∧ (forwardsBack (clocked t s) q (tapOf (clocked t s) (tapIndex q.ring q.pos)) = true) :=
  ⟨0, 0x90, ⟨0, 1, 1, frameCrc 1 0x90 [], [], some 0x90⟩, setTap 0 (fun p => { p with fitted := true }) wState, by decide +kernel⟩

theorem wit_TapRequests_4 : ∃ (t : Nat) (q : TapReq) (s : State), (q.pos = 0) ∧ (q.ring ≤ 1) ∧ (passesThrough s = true) ∧ (q.code = none) :=
  ⟨0, ⟨0, 0, 1, 0, [], none⟩, { wState with core.seals := 0x40, pair.standby := true, core.power := .auxiliary }, by decide⟩

theorem wit_TapRequests_5 : ∃ (t : Nat) (q : TapReq) (s : State), (TapHears s 0x00 q) ∧ (q.payload ≠ []) :=
  ⟨0, tapReq 0x00 [0#8], setTap 0 (fun p => { p with fitted := true }) wState, by decide +kernel⟩

theorem wit_TapRequests_6 : ∃ (t : Nat) (q : TapReq) (s : State), (TapHears s 0x00 q) ∧ (q.payload = []) :=
  ⟨0, tapReq 0x00 [], setTap 0 (fun p => { p with fitted := true }) wState, by decide +kernel⟩

theorem wit_TapRequests_7 : ∃ (t : Nat) (q : TapReq) (s : State), (TapHears s 0x02 q) ∧ (q.payload = []) :=
  ⟨0, tapReq 0x02 [], setTap 0 (fun p => { p with fitted := true }) wState, by decide +kernel⟩

theorem wit_TapRequests_8 : ∃ (t : Nat) (q : TapReq) (s : State), (TapHears s 0x03 q) ∧ (q.payload.length = 4) :=
  ⟨0, tapReq 0x03 [1, 0, 2, 0], setTap 0 (fun p => { p with fitted := true }) wState, by decide +kernel⟩

theorem wit_TapRequests_9 : ∃ (t : Nat) (q : TapReq) (s : State), (TapHears s 0x04 q) ∧ (q.payload.length = 4) :=
  ⟨0, tapReq 0x04 [1, 0, 2, 0], setTap 0 (fun p => { p with fitted := true }) wState, by decide +kernel⟩

theorem wit_TapRequests_10 : ∃ (ov uv : Nat) (p : Tap), (p.ovMin ≤ ov) ∧ (ov ≤ p.ovMax) ∧ (p.uvMin ≤ uv) ∧ (uv ≤ p.uvMax) ∧ (50 ∣ ov) ∧ (50 ∣ uv) :=
  ⟨35000, 25000, { ovMin := 30000, ovMax := 37500, uvMin := 25000, uvMax := 30000 }, by decide⟩

theorem wit_TapRequests_11 : ∃ (ov uv : Nat) (p : Tap), (p.ovMin ≤ p.ovMax) ∧ (p.ovMax % 50 = 0) ∧ (p.ovMax < ov) ∧ (p.uvMin ≤ uv) ∧ (uv ≤ p.uvMax) ∧ (50 ∣ uv) ∧ (p.ovMax + 50 ≤ ov) :=
  ⟨40000, 25000, { ovMin := 30000, ovMax := 37500, uvMin := 25000, uvMax := 30000 }, by decide⟩

theorem wit_TapRequests_12 : ∃ (t : Nat) (q : TapReq) (s : State), (TapHears s 0x05 q) ∧ (q.payload.length = 1) :=
  ⟨0, tapReq 0x05 [7], setTap 0 (fun p => { p with fitted := true }) wState, by decide +kernel⟩

theorem wit_TapRequests_13 : ∃ (t : Nat) (q : TapReq) (loopMa : Nat) (supply : Option Int) (quiet : Bool) (s : State), (TapHears s 0x06 q) ∧ (q.payload = []) :=
  ⟨0, tapReq 0x06 [], 50, some 30000, false, setTap 0 (fun p => { p with fitted := true }) wState, by decide +kernel⟩

theorem wit_TapRequests_14 : ∃ (t : Nat) (q : TapReq) (volts : List (Option Int)) (s : State), (TapHears s 0x07 q) ∧ (q.payload = []) :=
  ⟨0, tapReq 0x07 [], [], setTap 0 (fun p => { p with fitted := true }) wState, by decide +kernel⟩

theorem wit_TapRequests_15 : ∃ (t : Nat) (q : TapReq) (dip : Option Nat) (s : State), (TapHears s 0x08 q) ∧ (q.payload = []) ∧ (loopOpen s q.ring = false) :=
  ⟨0, tapReq 0x08 [], some 10000, setTap 0 (fun p => { p with fitted := true }) wState, by decide +kernel⟩

theorem wit_TapRequests_16 : ∃ (t : Nat) (q : TapReq) (leads : List Nat) (testFail calFail : Bool) (s : State), (TapHears s 0x09 q) ∧ (q.payload = []) :=
  ⟨0, tapReq 0x09 [], [], false, false, setTap 0 (fun p => { p with fitted := true }) wState, by decide +kernel⟩

theorem wit_TapRequests_17 : ∃ (t : Nat) (q : TapReq) (rt : Option Nat) (s : State), (q.pos = 0) ∧ (q.code = none) ∧ (passesThrough s = true) ∧ (q.crc = frameCrc q.addr 0x0A q.payload) ∧ (q.payload = []) :=
  ⟨0, ⟨0, 0, 1, frameCrc 1 0x0A [], [], none⟩, none, { wState with core.seals := 0x40, pair.standby := true, core.power := .auxiliary }, by decide +kernel⟩

theorem wit_TapRequests_18 : ∃ (t d : Nat) (q : TapReq) (s : State), (q.pos = 0) ∧ (q.code = none) ∧ (pairMode s = true) ∧ (s.pair.standby = false) :=
  ⟨0, 500, ⟨0, 0, 1, 0, [], none⟩, { wState with core.seals := 0x40 }, by decide⟩

theorem wit_TapRequests_19 : ∃ (t : Nat) (q : TapReq) (rt : Option Nat) (s : State), (TapHears s 0x0A q) ∧ (q.payload = []) :=
  ⟨0, tapReq 0x0A [], none, setTap 0 (fun p => { p with fitted := true }) wState, by decide +kernel⟩

theorem wit_TapRequests_20 : ∃ (t : Nat) (q : TapReq) (s : State), (TapHears s 0x0B q) ∧ (q.payload.length = 1) ∧ (leAt q.payload 0 1 ≤ 1) :=
  ⟨0, tapReq 0x0B [1], setTap 0 (fun p => { p with fitted := true }) wState, by decide +kernel⟩

theorem wit_TapRequests_21 : ∃ (t : Nat) (q : TapReq) (s : State), (TapHears s 0x0B q) ∧ (q.payload.length = 1) ∧ (1 < leAt q.payload 0 1) :=
  ⟨0, tapReq 0x0B [2], setTap 0 (fun p => { p with fitted := true }) wState, by decide +kernel⟩

theorem wit_TapRequests_22 : ∃ (t : Nat) (q : TapReq) (quiet : Bool) (s : State), (TapHears s 0x10 q) ∧ (q.payload = []) :=
  ⟨0, tapReq 0x10 [], false, setTap 0 (fun p => { p with fitted := true }) wState, by decide +kernel⟩

/-! ## TapEvents -/

theorem wit_TapEvents_1 : ∃ (t i : Nat) (rev : Bool) (volts temps : List (Option Int)) (loopLow : Bool) (grid : List (List Int)) (s : State), (i < 32) ∧ (tapAwake s i = true) ∧ ((tapOf s i).sampledAt = none) :=
  ⟨0, 0, false, [], [], false, [], setTap 0 (fun p => { p with fitted := true }) wState, by decide⟩

theorem wit_TapEvents_2 : ∃ (t i a : Nat) (rev : Bool) (volts temps : List (Option Int)) (loopLow : Bool) (grid : List (List Int)) (s : State), (i < 32) ∧ ((tapOf s i).sampledAt = some a) ∧ (max s.now t < a + us 200) :=
  ⟨5, 0, 0, false, [], [], false, [], setTap 0 (fun p => { p with sampledAt := some 0 }) (setTap 0 (fun p => { p with fitted := true }) wState), by decide⟩

theorem wit_TapEvents_3 : ∃ (t i : Nat) (rev : Bool) (volts temps : List (Option Int)) (loopLow : Bool) (grid : List (List Int)) (s : State), (32 ≤ i) ∧ (i < 34) ∧ (passesThrough s = true) :=
  ⟨0, 32, false, [], [], false, [], { wState with core.seals := 0x40, pair.standby := true, core.power := .auxiliary }, by decide⟩

theorem wit_TapEvents_4 : ∃ (t i a : Nat) (quiet : Bool) (s : State), (tapAwake s i = true) ∧ ((tapOf s i).sampledAt = some a) ∧ ((tapOf s i).poll = false) ∧ ((tapOf s i).revMark = false) ∧ (a + us 8 + us 23 * (i % 16) ≤ max s.now t) ∧ (max s.now t < a + us 8 + us 23 * (i % 16) + us 23) :=
  ⟨9000, 0, 0, false, setTap 0 (fun p => { p with sampledAt := some 0 }) (setTap 0 (fun p => { p with fitted := true }) wState), by decide⟩

theorem wit_TapEvents_5 : ∃ (t i c held : Nat) (v : Int) (s : State), ((tapOf s i).fitted = true) ∧ (((tapOf s i).ov : Int) ≤ v) ∧ (ms 2 ≤ held) :=
  ⟨0, 0, 3, 2000000, 5, setTap 0 (fun p => { p with fitted := true }) wState, by decide⟩

theorem wit_TapEvents_6 : ∃ (t i c held : Nat) (v : Int) (s : State), ((tapOf s i).fitted = true) ∧ (v ≤ ((tapOf s i).uv : Int)) ∧ (ms 2 ≤ held) :=
  ⟨0, 0, 3, 2000000, 0, setTap 0 (fun p => { p with fitted := true }) wState, by decide⟩

theorem wit_TapEvents_7 : ∃ (t i : Nat) (s : State), (tapAwake s i = true) :=
  ⟨0, 0, setTap 0 (fun p => { p with fitted := true }) wState, by decide⟩

theorem wit_TapEvents_8 : ∃ (t i quiet : Nat) (s : State), (tapAwake s i = true) ∧ (ms 5 ≤ quiet) :=
  ⟨0, 0, 5000000, setTap 0 (fun p => { p with fitted := true }) wState, by decide⟩

theorem wit_TapEvents_9 : ∃ (t i : Nat) (s : State), ((tapOf s i).fitted = true) :=
  ⟨0, 0, setTap 0 (fun p => { p with fitted := true }) wState, by decide⟩

/-! ## TapFirmwareRequests -/

theorem wit_TapFirmwareRequests_1 : ∃ (t : Nat) (q : TapReq) (s : State), (TapHears s 0x01 q) ∧ (q.payload = []) :=
  ⟨0, tapReq 0x01 [], setTap 0 (fun p => { p with fitted := true }) wState, by decide +kernel⟩

theorem wit_TapFirmwareRequests_2 : ∃ (t : Nat) (q : TapReq) (s : State), (TapHears s 0x40 q) ∧ (q.payload.length = 36) ∧ (leAt q.payload 0 4 ≠ 0) ∧ (leAt q.payload 0 4 ≤ 98304) :=
  ⟨0, tapReq 0x40 (1 :: List.replicate 35 0), setTap 0 (fun p => { p with fitted := true }) wState, by decide +kernel⟩

theorem wit_TapFirmwareRequests_3 : ∃ (t : Nat) (q : TapReq) (s : State), (TapHears s 0x40 q) ∧ (q.payload.length = 36) ∧ (98304 < leAt q.payload 0 4) :=
  ⟨0, tapReq 0x40 (0 :: 0 :: 0 :: 1 :: List.replicate 32 0), setTap 0 (fun p => { p with fitted := true }) wState, by decide +kernel⟩

theorem wit_TapFirmwareRequests_4 : ∃ (t : Nat) (q : TapReq) (n : Nat) (s : State), (TapHears s 0x41 q) ∧ (q.payload.length = 130) ∧ ((tapOf s (tapIndex q.ring q.pos)).fw.openLen = some n) ∧ (leAt q.payload 0 2 < blockCount n) :=
  ⟨0, tapReq 0x41 (List.replicate 130 0), 128, setTap 0 (fun p => { p with fitted := true, fw := { p.fw with openLen := some 128 } }) wState, by decide +kernel⟩

theorem wit_TapFirmwareRequests_5 : ∃ (t : Nat) (q : TapReq) (s : State), (TapHears s 0x42 q) ∧ (q.payload = []) :=
  ⟨0, tapReq 0x42 [], setTap 0 (fun p => { p with fitted := true }) wState, by decide +kernel⟩

theorem wit_TapFirmwareRequests_6 : ∃ (t : Nat) (q : TapReq) (ver : Nat) (leads : List Nat) (testFail calFail : Bool) (s : State), (TapHears s 0x43 q) ∧ (q.payload = []) :=
  ⟨0, tapReq 0x43 [], 7, [], false, false, setTap 0 (fun p => { p with fitted := true }) wState, by decide +kernel⟩

theorem wit_TapFirmwareRequests_7 : ∃ (t i : Nat) (rest : List Nat) (j : Install) (s : State), (s.upd.job = some j) ∧ (j.todo = i :: rest) ∧ (j.id = 9) ∧ (j.phase = 5) ∧ (j.since + ms 100 ≤ max s.now t) :=
  ⟨100000000, 0, [], tapJob, { wState with upd.job := some tapJob }, by decide⟩

/-! ## BalanceInTaps -/

theorem wit_BalanceInTaps_1 : ∃ (t : Nat) (q : TapReq) (temp : Int) (s : State), (TapHears s 0x20 q) ∧ (q.payload.length = 6) :=
  ⟨0, tapReq 0x20 [0, 0, 255, 0, 100, 0], 2500, setTap 0 (fun p => { p with fitted := true, balMode := some false }) wState, by decide +kernel⟩

theorem wit_BalanceInTaps_2 : ∃ (s : State) (p : Tap) (x : Slot) (chan dir dur : Nat) (other : Option Nat), (chan ≤ 15) ∧ (dir ≤ 1) ∧ (p.balMode = none) :=
  ⟨wState, {}, {}, 0, 0, 10, none, by decide⟩

theorem wit_BalanceInTaps_3 : ∃ (s : State) (p : Tap) (x : Slot) (chan dir dur m : Nat) (other : Option Nat), (chan ≤ 15) ∧ (dir ≤ 1) ∧ (p.balMode = some (m == 1)) ∧ (p.ovTrip ≠ 0) :=
  ⟨wState, { balMode := some false, ovTrip := 1 }, {}, 0, 0, 10, 0, none, by decide⟩

theorem wit_BalanceInTaps_4 : ∃ (s : State) (p : Tap) (x : Slot) (chan dir dur : Nat) (other : Option Nat), (chan ≤ 15) ∧ (dir ≤ 1) ∧ (p.balMode = some false) ∧ (p.ovTrip = 0) ∧ (p.uvTrip = 0) ∧ (p.convTemp = none) ∧ (gateNow s p = false) ∧ (impNow s p = false) ∧ (x.chan = none) :=
  ⟨wState, { balMode := some false }, {}, 0, 0, 10, none, by decide⟩

theorem wit_BalanceInTaps_5 : ∃ (t : Nat) (q : TapReq) (s : State), (TapHears s 0x21 q) ∧ (q.payload.length = 1) ∧ (leAt q.payload 0 1 ≤ 3) :=
  ⟨0, tapReq 0x21 [3], setTap 0 (fun p => { p with fitted := true }) wState, by decide +kernel⟩

theorem wit_BalanceInTaps_6 : ∃ (t : Nat) (q : TapReq) (s : State), (TapHears s 0x22 q) ∧ (q.payload.length = 5) ∧ (leAt q.payload 0 1 ≤ 1) :=
  ⟨0, tapReq 0x22 [0, 0, 0, 0, 0], setTap 0 (fun p => { p with fitted := true }) wState, by decide +kernel⟩

theorem wit_BalanceInTaps_7 : ∃ (t i k : Nat) (s : State), (((tapOf s i).slots.getD k {}).ends ≤ max s.now t) :=
  ⟨0, 0, 0, setTap 0 (fun p => { p with fitted := true }) wState, by decide⟩

theorem wit_BalanceInTaps_8 : ∃ (t i : Nat) (temp : Int) (s : State), (10500 < temp) :=
  ⟨0, 0, 10501, setTap 0 (fun p => { p with fitted := true }) wState, by decide⟩

theorem wit_BalanceInTaps_9 : ∃ (t i a : Nat) (s : State), ((tapOf s i).balMode = some false) ∧ ((tapOf s i).sampledAt = some a) ∧ (a + us 160 ≤ max s.now t) ∧ (a + us (tapOf s i).balPeriod ≤ max s.now t + us 40) ∧ (max s.now t < a + us 160 + us (tapOf s i).balPeriod) :=
  ⟨9960000, 0, 0, setTap 0 (fun p => { p with sampledAt := some 0, balPeriod := 10000 }) (setTap 0 (fun p => { p with fitted := true, balMode := some false }) wState), by decide⟩

theorem wit_BalanceInTaps_10 : ∃ (t i a : Nat) (s : State), ((tapOf s i).sampledAt = some a) ∧ (a + us 10 ≤ max s.now t) ∧ (max s.now t + us 40 < a + us (tapOf s i).balPeriod) ∧ ((tapOf s i).imp.window = none) ∧ ((tapOf s i).imp.since = none) ∧ ((tapOf s i).imp.endedAt = none) :=
  ⟨10000, 0, 0, setTap 0 (fun p => { p with sampledAt := some 0, balPeriod := 10000 }) (setTap 0 (fun p => { p with fitted := true, balMode := some false }) wState), by decide⟩

theorem wit_BalanceInTaps_11 : ∃ (t i start len id : Nat) (s : State), ((tapOf s i).imp.window = some (id, start, len)) ∧ ((tapOf s i).imp.since.isSome = true) :=
  ⟨0, 0, 0, 1, 0, setTap 0 (fun p => { p with imp := { p.imp with window := some (0, 0, 1), since := some 0 } }) (setTap 0 (fun p => { p with fitted := true, balMode := some false }) wState), by decide⟩

/-! ## BalanceScheduler -/

theorem wit_BalanceScheduler_1 : ∃ (t a : Nat) (s : State), (s.rings.renewAt = some a) ∧ (max s.now t < a + ms (prmN s Prm.balRenew)) :=
  ⟨5, 0, { wState with rings.renewAt := some 0 }, by decide⟩

theorem wit_BalanceScheduler_2 : ∃ (t a : Nat) (s : State), (s.rings.renewAt = some a) ∧ (a + ms (prmN s Prm.balRenew) ≤ max s.now t) :=
  ⟨100000000000, 0, { wState with rings.renewAt := some 0 }, by decide⟩

theorem wit_BalanceScheduler_3 : ∃ (t m : Nat) (s : State), (Pend s m Cmd.balStatus []) :=
  ⟨0, 0, withReq 0 Cmd.balStatus [] wState, by decide⟩

theorem wit_BalanceScheduler_4 : ∃ (t m : Nat) (b : List Byte) (s : State), (Pend s m Cmd.balTotals b) ∧ (b.length = 3) ∧ (leAt b 2 1 ≠ 0) ∧ (leAt b 2 1 ≤ 64) ∧ (leAt b 0 2 + leAt b 2 1 ≤ 512) :=
  ⟨0, 0, [0, 0, 1], withReq 0 Cmd.balTotals [0, 0, 1] wState, by decide⟩

theorem wit_BalanceScheduler_5 : ∃ (t m : Nat) (b : List Byte) (s : State), (Pend s m Cmd.balForce b) :=
  ⟨0, 0, [], withReq 0 Cmd.balForce [] wState, by decide⟩

theorem wit_BalanceScheduler_6 : ∃ (t c e : Nat) (d : Bool) (s : State), ((c, d, e) ∈ s.rings.forced) ∧ (e ≤ max s.now t) :=
  ⟨5, 3, 5, true, { wState with rings.forced := [(3, true, 5)] }, by decide⟩

theorem wit_BalanceScheduler_7 : ∃ (t m : Nat) (s : State), (Pend s m Cmd.balRelease []) :=
  ⟨0, 0, withReq 0 Cmd.balRelease [] wState, by decide⟩

/-! ## ImpedanceWindows -/

theorem wit_ImpedanceWindows_1 : ∃ (t : Nat) (s : State), (s.imp.st ≠ .idle) :=
  ⟨0, { wState with imp.st := .lead }, by decide⟩

theorem wit_ImpedanceWindows_2 : ∃ (t : Nat) (s : State), (s.imp.st = .idle) ∧ (s.imp.toRead = []) ∧ (s.imp.stopTaps = []) ∧ (impFailing (clocked t s) false = none) ∧ (spectrumFits (clocked t s) = true) ∧ (s.imp.blocked = false) ∧ (s.imp.specNow = false) ∧ (heldFor (clocked t s) s.imp.lastSpec (sec (prmN s Prm.impSpectrumInterval)) = false) ∧ (s.imp.lastTemp = none) :=
  ⟨0, { wState with core.mode := .run, conv.st := .continuous, mbx.params := [(Prm.impEnable, 1)] }, by decide +kernel⟩

theorem wit_ImpedanceWindows_3 : ∃ (t c : Nat) (s : State), (s.imp.st = .lead) ∧ (s.imp.t0.1 ≤ max s.now t) ∧ (impFailing (clocked t s) true = some c) :=
  ⟨0, Ev.impMode, { wState with imp.st := .lead }, by decide⟩

theorem wit_ImpedanceWindows_4 : ∃ (t : Nat) (s : State), (s.imp.st = .lead) ∧ (s.imp.t0.1 ≤ max s.now t) ∧ (impFailing (clocked t s) true = none) ∧ (s.imp.spectrum = true) :=
  ⟨0, { { wState with core.mode := .run, conv.st := .continuous, mbx.params := [(Prm.impEnable, 1)], imp.st := .lead, imp.period := wState.rings.period } with imp.spectrum := true }, by decide +kernel⟩

theorem wit_ImpedanceWindows_5 : ∃ (t : Nat) (s : State), (s.imp.st = .lead) ∧ (s.imp.t0.1 ≤ max s.now t) ∧ (impFailing (clocked t s) true = none) ∧ (s.imp.spectrum = false) :=
  ⟨0, { wState with core.mode := .run, conv.st := .continuous, mbx.params := [(Prm.impEnable, 1)], imp.st := .lead, imp.period := wState.rings.period }, by decide +kernel⟩

theorem wit_ImpedanceWindows_6 : ∃ (t a i : Nat) (l : List Nat) (xs : List Int) (s : State), (s.imp.st = .integrating) ∧ (s.imp.t0.1 + us (s.imp.len * s.imp.period) ≤ max s.now t) ∧ ((readOrder s).filter (s.imp.armed.contains ·) = i :: l) ∧ (s.imp.tones = [a]) :=
  ⟨0, 5, 0, [], [], { setRing 0 (fun x => { x with up := true, n := some 1 }) wState with imp.st := .integrating, imp.armed := [0], imp.tones := [5] }, by decide⟩

theorem wit_ImpedanceWindows_7 : ∃ (t : Nat) (xs : List Int) (s : State), (s.imp.st = .integrating) ∧ (s.imp.t0.1 + us (s.imp.len * s.imp.period) ≤ max s.now t) ∧ ((readOrder s).filter (s.imp.armed.contains ·) = []) ∧ (s.imp.tones = []) :=
  ⟨0, [], { wState with imp.st := .integrating }, by decide⟩

theorem wit_ImpedanceWindows_8 : ∃ (at_ id start len a : Nat) (rev : Bool) (grid : List (List Int)) (p : Tap), (p.imp.window = some (id, start, len)) ∧ (p.imp.since = some a) ∧ (p.imp.revStart = rev) ∧ (a + len * p.imp.samples * 25000 ≤ at_ + us 1) :=
  ⟨1000000, 7, 0, 1, 0, false, [], { imp := { window := some (7, 0, 1), since := some 0, samples := 40 } }, by decide⟩

theorem wit_ImpedanceWindows_9 : ∃ (t : Nat) (q : TapReq) (n : Nat) (s : State), (TapHears s 0x30 q) ∧ (q.payload.length = 9) ∧ (leAt q.payload 0 1 = n) ∧ (1 ≤ n) ∧ (n ≤ 4) ∧ (∀ k < n, leAt q.payload (1 + k) 1 ≤ 23) ∧ ((tapOf s (tapIndex q.ring q.pos)).imp.window = none) :=
  ⟨0, tapReq 0x30 [1, 5, 255, 255, 255, 40, 0, 1, 0], 1, setTap 0 (fun p => { p with fitted := true }) wState, by decide +kernel⟩

theorem wit_ImpedanceWindows_10 : ∃ (t : Nat) (q : TapReq) (n : Nat) (s : State), (TapHears s 0x30 q) ∧ (q.payload.length = 9) ∧ (leAt q.payload 0 1 = n) ∧ (1 ≤ n) ∧ (n ≤ 4) ∧ ((tapOf s (tapIndex q.ring q.pos)).imp.window ≠ none) :=
  ⟨0, tapReq 0x30 [1, 5, 255, 255, 255, 40, 0, 1, 0], 1, setTap 0 (fun p => { p with fitted := true, imp := { p.imp with window := some (1, 1, 1) } }) wState, by decide +kernel⟩

theorem wit_ImpedanceWindows_11 : ∃ (t : Nat) (q : TapReq) (s : State), (TapHears s 0x31 q) ∧ (q.payload.length = 6) ∧ (leAt q.payload 2 4 = 0) :=
  ⟨0, tapReq 0x31 [1, 5, 0, 0, 0, 0], setTap 0 (fun p => { p with fitted := true }) wState, by decide +kernel⟩

theorem wit_ImpedanceWindows_12 : ∃ (t : Nat) (q : TapReq) (s : State), (TapHears s 0x31 q) ∧ (q.payload.length = 6) ∧ (leAt q.payload 2 4 ≠ 0) ∧ ((tapOf s (tapIndex q.ring q.pos)).imp.tones = []) :=
  ⟨0, tapReq 0x31 [1, 5, 1, 0, 0, 0], setTap 0 (fun p => { p with fitted := true }) wState, by decide +kernel⟩

theorem wit_ImpedanceWindows_13 : ∃ (t : Nat) (q : TapReq) (s : State), (TapHears s 0x31 q) ∧ (q.payload.length = 6) ∧ (leAt q.payload 2 4 ≠ 0) ∧ ((tapOf s (tapIndex q.ring q.pos)).imp.tones ≠ []) ∧ ((leAt q.payload 1 1 + 256 - (tapOf s (tapIndex q.ring q.pos)).marks) % 256 ≠ 0) ∧ ((leAt q.payload 1 1 + 256 - (tapOf s (tapIndex q.ring q.pos)).marks) % 256 ≤ 127) :=
  ⟨0, tapReq 0x31 [1, 5, 1, 0, 0, 0], setTap 0 (fun p => { p with fitted := true, imp := { p.imp with tones := [5] } }) wState, by decide +kernel⟩

theorem wit_ImpedanceWindows_14 : ∃ (t : Nat) (q : TapReq) (valid count : Nat) (tones : List Nat) (s : State), (TapHears s 0x32 q) ∧ (q.payload.length = 1) ∧ ((tapOf s (tapIndex q.ring q.pos)).imp.window = none) ∧ ((tapOf s (tapIndex q.ring q.pos)).imp.done = some (leAt q.payload 0 1, 0, valid, count, tones)) :=
  ⟨0, tapReq 0x32 [7], 1, 40, [5], setTap 0 (fun p => { p with fitted := true, imp := { p.imp with done := some (7, 0, 1, 40, [5]) } }) wState, by decide +kernel⟩

theorem wit_ImpedanceWindows_15 : ∃ (t i quiet : Nat) (s : State), (us 2 < quiet) ∧ ((tapOf s i).imp.since.isSome = true) :=
  ⟨0, 0, 2001, setTap 0 (fun p => { p with imp := { p.imp with since := some 0 } }) wState, by decide⟩

/-! ## EstimationAndImpedanceCommands -/

theorem wit_EstimationAndImpedanceCommands_1 : ∃ (t : Nat) (errs : List Nat) (s : State), (estRuns s = true) ∧ (s.est.lastAt = none) :=
  ⟨0, [], wState, by decide +kernel⟩

theorem wit_EstimationAndImpedanceCommands_2 : ∃ (t a : Nat) (errs : List Nat) (s : State), (s.est.lastAt = some a) ∧ (max s.now t < a + ms s.est.period) :=
  ⟨0, 0, [], { wState with est.lastAt := some 0 }, by decide⟩

theorem wit_EstimationAndImpedanceCommands_3 : ∃ (t : Nat) (s : State), (estRuns s = true) ∧ (s.est.saved = none) ∧ (s.thm.forbid = false) :=
  ⟨0, wState, by decide +kernel⟩

theorem wit_EstimationAndImpedanceCommands_4 : ∃ (t : Nat) (s : State), (s.est.saved = none) ∧ (s.thm.forbid = true) :=
  ⟨0, { wState with thm.forbid := true }, by decide⟩

theorem wit_EstimationAndImpedanceCommands_5 : ∃ (t m : Nat) (b : List Byte) (s : State), (Pend s m Cmd.ctxRead b) ∧ (b.length = 3) ∧ (leAt b 2 1 ≠ 0) ∧ (leAt b 2 1 ≤ 8) ∧ (leAt b 0 2 + leAt b 2 1 ≤ 512) ∧ (s.est.busy + s.est.reads + 800 * leAt b 2 1 ≤ engineCycles (begun t m s) 40) :=
  ⟨0, 0, [0, 0, 1], withReq 0 Cmd.ctxRead [0, 0, 1] wState, by decide +kernel⟩

theorem wit_EstimationAndImpedanceCommands_6 : ∃ (t m : Nat) (b : List Byte) (s : State), (Pend s m Cmd.ctxRead b) ∧ (b.length = 3) ∧ (leAt b 2 1 ≠ 0) ∧ (leAt b 2 1 ≤ 8) ∧ (leAt b 0 2 + leAt b 2 1 ≤ 512) ∧ (estRuns s = true) ∧ (engineCycles (begun t m s) 40 < s.est.busy + s.est.reads + 800 * leAt b 2 1) :=
  ⟨0, 0, [0, 0, 1], withReq 0 Cmd.ctxRead [0, 0, 1] { wState with est.busy := 1000000000 }, by decide +kernel⟩

theorem wit_EstimationAndImpedanceCommands_7 : ∃ (t m : Nat) (s : State), (Pend s m Cmd.ctxSummary []) :=
  ⟨0, 0, withReq 0 Cmd.ctxSummary [] wState, by decide⟩

theorem wit_EstimationAndImpedanceCommands_8 : ∃ (t m a : Nat) (b : List Byte) (s : State), (Pend s m Cmd.ctxReinit b) ∧ (b.length = 4) ∧ (leAt b 2 2 ≠ 0) ∧ (leAt b 2 2 ≤ 512) ∧ (leAt b 0 2 + leAt b 2 2 ≤ 512) ∧ (s.est.restSince = some a) ∧ (a + sec (prmN s Prm.restForOcv) ≤ max s.now t) :=
  ⟨sec 1, 0, 0, [0, 0, 1, 0], withReq 0 Cmd.ctxReinit [0, 0, 1, 0] { wState with est.restSince := some 0, mbx.params := [(Prm.restForOcv, 1)] }, by decide +kernel⟩

theorem wit_EstimationAndImpedanceCommands_9 : ∃ (t m : Nat) (b : List Byte) (s : State), (Pend s m Cmd.ctxReinit b) ∧ (b.length = 4) ∧ (leAt b 2 2 ≠ 0) ∧ (leAt b 2 2 ≤ 512) ∧ (leAt b 0 2 + leAt b 2 2 ≤ 512) ∧ (s.est.restSince = none) :=
  ⟨0, 0, [0, 0, 1, 0], withReq 0 Cmd.ctxReinit [0, 0, 1, 0] wState, by decide +kernel⟩

theorem wit_EstimationAndImpedanceCommands_10 : ∃ (t m : Nat) (b : List Byte) (s : State), (Pend s m Cmd.ctxCells b) ∧ (b.length = 3) ∧ (leAt b 0 1 ≤ 1) ∧ (leAt b 1 1 ≠ 0) ∧ (leAt b 1 1 ≤ 16) ∧ (leAt b 2 1 = 0) ∧ ((posOf s (leAt b 0 1) (leAt b 1 1)).replaced = true) :=
  ⟨0, 0, [0, 1, 0], withReq 0 Cmd.ctxCells [0, 1, 0] (setPos 0 1 (fun x => { x with replaced := true }) wState), by decide +kernel⟩

theorem wit_EstimationAndImpedanceCommands_11 : ∃ (t m : Nat) (b : List Byte) (s : State), (Pend s m Cmd.ctxCells b) ∧ (b.length = 3) ∧ (leAt b 0 1 ≤ 1) ∧ (leAt b 1 1 ≠ 0) ∧ (leAt b 1 1 ≤ 16) ∧ (leAt b 2 1 = 1) ∧ ((posOf s (leAt b 0 1) (leAt b 1 1)).replaced = true) :=
  ⟨0, 0, [0, 1, 1], withReq 0 Cmd.ctxCells [0, 1, 1] (setPos 0 1 (fun x => { x with replaced := true }) wState), by decide +kernel⟩

theorem wit_EstimationAndImpedanceCommands_12 : ∃ (t m : Nat) (b : List Byte) (s : State), (Pend s m Cmd.capSet b) ∧ (b.length = 10) ∧ (leAt b 2 2 ≠ 0) ∧ (leAt b 2 2 ≤ 512) ∧ (leAt b 0 2 + leAt b 2 2 ≤ 512) :=
  ⟨0, 0, [0, 0, 1, 0, 0, 0, 0, 0, 0, 0], withReq 0 Cmd.capSet [0, 0, 1, 0, 0, 0, 0, 0, 0, 0] wState, by decide +kernel⟩

theorem wit_EstimationAndImpedanceCommands_13 : ∃ (t m : Nat) (b : List Byte) (s : State), (Pend s m Cmd.chemRead b) ∧ (b.length = 5) ∧ (leAt b 0 1 ≤ 3) ∧ (leAt b 1 2 < 1024) ∧ (leAt b 3 2 ≠ 0) ∧ (leAt b 3 2 ≤ 256) ∧ (leAt b 1 2 + leAt b 3 2 ≤ 1024) :=
  ⟨0, 0, [0, 0, 0, 1, 0], withReq 0 Cmd.chemRead [0, 0, 0, 1, 0] wState, by decide +kernel⟩

theorem wit_EstimationAndImpedanceCommands_14 : ∃ (t m : Nat) (b : List Byte) (s : State), (Pend s m Cmd.chemWrite b) ∧ (4 ≤ b.length) ∧ (b.length ≤ 259) ∧ (leAt b 0 1 ≤ 3) ∧ (leAt b 1 2 + (b.length - 3) ≤ 1024) ∧ (s.thm.forbid = false) :=
  ⟨0, 0, [0, 0, 0, 1], withReq 0 Cmd.chemWrite [0, 0, 0, 1] wState, by decide +kernel⟩

theorem wit_EstimationAndImpedanceCommands_15 : ∃ (t m : Nat) (b : List Byte) (s : State), (Pend s m Cmd.chemWrite b) ∧ (4 ≤ b.length) ∧ (b.length ≤ 259) ∧ (leAt b 0 1 ≤ 3) ∧ (leAt b 1 2 + (b.length - 3) ≤ 1024) ∧ (s.thm.forbid = true) :=
  ⟨0, 0, [0, 0, 0, 1], withReq 0 Cmd.chemWrite [0, 0, 0, 1] { wState with thm.forbid := true }, by decide +kernel⟩

theorem wit_EstimationAndImpedanceCommands_16 : ∃ (t m : Nat) (b : List Byte) (s : State), (Pend s m Cmd.ctxClearFlags b) ∧ (b.length = 6) ∧ (leAt b 2 2 ≠ 0) ∧ (leAt b 2 2 ≤ 512) ∧ (leAt b 0 2 + leAt b 2 2 ≤ 512) ∧ (BitVec.ofNat 16 (leAt b 4 2) &&& ~~~ w1cFlags = 0) :=
  ⟨0, 0, [0, 0, 1, 0, 16, 0], withReq 0 Cmd.ctxClearFlags [0, 0, 1, 0, 16, 0] wState, by decide +kernel⟩

theorem wit_EstimationAndImpedanceCommands_17 : ∃ (t m : Nat) (s : State), (Pend s m Cmd.impStatus []) :=
  ⟨0, 0, withReq 0 Cmd.impStatus [] wState, by decide⟩

theorem wit_EstimationAndImpedanceCommands_18 : ∃ (t m : Nat) (b : List Byte) (s : State), (Pend s m Cmd.impResults b) ∧ (b.length = 4) ∧ (leAt b 0 1 ≤ 23) ∧ (leAt b 3 1 ≠ 0) ∧ (leAt b 3 1 ≤ 64) ∧ (leAt b 1 2 + leAt b 3 1 ≤ 512) :=
  ⟨0, 0, [0, 0, 0, 1], withReq 0 Cmd.impResults [0, 0, 0, 1] wState, by decide +kernel⟩

theorem wit_EstimationAndImpedanceCommands_19 : ∃ (t m : Nat) (s : State), (Pend s m Cmd.impSpectrumNow []) ∧ (s.imp.blocked = false) :=
  ⟨0, 0, withReq 0 Cmd.impSpectrumNow [] wState, by decide⟩

theorem wit_EstimationAndImpedanceCommands_20 : ∃ (t m : Nat) (s : State), (Pend s m Cmd.impSpectrumNow []) ∧ (s.imp.blocked = true) :=
  ⟨0, 0, withReq 0 Cmd.impSpectrumNow [] { wState with imp.blocked := true }, by decide⟩

/-! ## CurrentAndStringLoops -/

theorem wit_CurrentAndStringLoops_1 : ∃ (t : Nat) (sh ha : Option Int) (ph : List (List Byte)) (vs vl : Option Int) (s : State), (s.core.mode = .shelf) :=
  ⟨0, none, none, [], none, none, State.reset, by decide⟩

theorem wit_CurrentAndStringLoops_2 : ∃ (t : Nat) (sh ha : Option Int) (ph : List (List Byte)) (vs vl : Option Int) (s : State), (s.core.mode ≠ .shelf) ∧ (holderOf s .p = none) ∧ (cadenceHeld (clocked t s) = false) :=
  ⟨0, none, none, [], none, none, { wState with ctrl.eng := [] }, by decide +kernel⟩

theorem wit_CurrentAndStringLoops_3 : ∃ (t : Nat) (sh ha : Option Int) (ph : List (List Byte)) (vs vl : Option Int) (s : State), (s.core.mode ≠ .shelf) ∧ ((holderOf s .p).isSome = true) ∧ (s.imp.st = .idle) ∧ (s.conv.st = .off ∨ s.conv.st = .retryWait) ∧ (cadenceHeld (clocked t s) = false) :=
  ⟨0, none, none, [], none, none, eState, by decide +kernel⟩

theorem wit_CurrentAndStringLoops_4 : ∃ (t : Nat) (sh ha : Option Int) (ph : List (List Byte)) (vs vl : Option Int) (s : State), (s.core.mode ≠ .shelf) ∧ ((holderOf s .p).isSome = true) ∧ (s.imp.st = .idle) ∧ (s.conv.st = .softStart ∨ s.conv.st = .continuous ∨ s.conv.st = .burst) ∧ (cadenceHeld (clocked t s) = false) :=
  ⟨0, none, none, [], none, none, { eState with conv.st := .burst }, by decide +kernel⟩

theorem wit_CurrentAndStringLoops_5 : ∃ (s : State) (r : Int) (code : Nat) (amp : Int), (0 ≤ (minSelect s r code amp).ceil.1) ∧ (0 ≤ (minSelect s r code amp).ceil.2) :=
  ⟨wState, 500, 0, 10, by decide +kernel⟩

theorem wit_CurrentAndStringLoops_6 : ∃ (s : State), (s.ctrl.shuntFail = true) ∧ (s.ctrl.hallFail = true) :=
  ⟨{ wState with ctrl.shuntFail := true, ctrl.hallFail := true }, by decide⟩

theorem wit_CurrentAndStringLoops_7 : ∃ (t : Nat) (vs vl : Option Int) (s : State), (holderOf s .s = none) :=
  ⟨0, none, none, { wState with ctrl.eng := [] }, by decide +kernel⟩

theorem wit_CurrentAndStringLoops_8 : ∃ (t : Nat) (vs vl : Option Int) (s : State), ((holderOf s .s).isSome = true) ∧ (s.core.mode ≠ .shelf) ∧ (cadenceHeld (clocked t s) = false) :=
  ⟨0, none, none, eState, by decide +kernel⟩

theorem wit_CurrentAndStringLoops_9 : ∃ (t : Nat) (s : State), ((holderOf s .c).isSome = true) ∧ (running s 5 = true) :=
  ⟨0, eState, by decide +kernel⟩

theorem wit_CurrentAndStringLoops_10 : ∃ (t : Nat) (s : State), (holderOf s .c = none) :=
  ⟨0, { wState with ctrl.eng := [] }, by decide +kernel⟩

/-! ## EnginesAndSensors -/

theorem wit_EnginesAndSensors_1 : ∃ (t x : Nat) (late : List Nat) (sl df : Bool) (s : State), (3 ≤ x) :=
  ⟨0, 3, [], false, false, wState, by decide⟩

theorem wit_EnginesAndSensors_2 : ∃ (t x : Nat) (late : List Nat) (sl df : Bool) (s : State), (x < 3) :=
  ⟨0, 0, [], false, false, wState, by decide⟩

theorem wit_EnginesAndSensors_3 : ∃ (s : State) (x a w : Nat), (holderOf s .w = some w) :=
  ⟨eState, 0, 0, 3, by decide +kernel⟩

theorem wit_EnginesAndSensors_4 : ∃ (s : State) (x a : Nat), (holderOf s .w = none) :=
  ⟨{ wState with ctrl.eng := [] }, 0, 0, by decide +kernel⟩

theorem wit_EnginesAndSensors_5 : ∃ (t e : Nat) (pass : Bool) (s : State), (e < 4) ∧ ((engOf s e).role = .selfTest) ∧ (s.ctrl.resolving = none) :=
  ⟨0, 0, true, setEng 0 (fun g => { g with role := .selfTest }) wState, by decide +kernel⟩

theorem wit_EnginesAndSensors_6 : ∃ (t e : Nat) (pass : Bool) (s : State), (e < 4) ∧ ((engOf s e).role = .out) ∧ ((engOf s e).heldOut = false) :=
  ⟨0, 0, true, setEng 0 (fun g => { g with role := .out }) wState, by decide +kernel⟩

theorem wit_EnginesAndSensors_7 : ∃ (t : Nat) (s : State), (s.upd.job = none) ∧ (rotationSkipped (clocked t s) = none) :=
  ⟨sec 2, eState, by decide +kernel⟩

theorem wit_EnginesAndSensors_8 : ∃ (t c : Nat) (s : State), (s.upd.job = none) ∧ (rotationSkipped (clocked t s) = some c) :=
  ⟨0, Ev.shadowAbsent, { wState with ctrl.shadowAbsent := true }, by decide +kernel⟩

theorem wit_EnginesAndSensors_9 : ∃ (t a : Nat) (s : State), (s.conv.st = .continuous ∨ s.conv.st = .burst) ∧ (s.ctrl.feSince = some a) ∧ (a + ms (prmN s Prm.feTime) < max s.now t) :=
  ⟨sec 1, 0, { wState with conv.st := .continuous, ctrl.feSince := some 0 }, by decide +kernel⟩

theorem wit_EnginesAndSensors_10 : ∃ (t : Nat) (s : State), (s.ctrl.feSince = none) :=
  ⟨0, wState, by decide +kernel⟩

theorem wit_EnginesAndSensors_11 : ∃ (s : State) (i : Int), (switching s = true) ∧ (s.conv.st ≠ .burst) ∧ (s.conv.st ≠ .softStart) ∧ (stringCurrent s = some i) :=
  ⟨{ wState with conv.st := .continuous, ctrl.shunt := some 5 }, 5, by decide +kernel⟩

theorem wit_EnginesAndSensors_12 : ∃ (t : Nat) (sh ha : Int) (sum : Option Int) (held : Nat) (s : State), (sensorsAgree s sh ha = true) :=
  ⟨0, 0, 0, none, 0, wState, by decide +kernel⟩

theorem wit_EnginesAndSensors_13 : ∃ (t : Nat) (sh ha : Int) (sum : Option Int) (held : Nat) (s : State), (s.ctrl.shuntFail = false) ∧ (s.ctrl.hallFail = false) ∧ (sensorsAgree s sh ha = false) ∧ (ms 5 ≤ held) ∧ (sum = none) :=
  ⟨0, 32000, 0, none, sec 1, wState, by decide +kernel⟩

theorem wit_EnginesAndSensors_14 : ∃ (t : Nat) (sh ha q : Int) (held : Nat) (s : State), (s.ctrl.shuntFail = false) ∧ (s.ctrl.hallFail = false) ∧ (sensorsAgree s sh ha = false) ∧ (ms 5 ≤ held) :=
  ⟨0, 32000, 0, 0, sec 1, wState, by decide +kernel⟩

theorem wit_EnginesAndSensors_15 : ∃ (t x spread cyc duty : Nat) (s : State), (x < 2) :=
  ⟨0, 0, 0, 0, 0, wState, by decide⟩

theorem wit_EnginesAndSensors_16 : ∃ (t x spread cyc duty : Nat) (s : State), (x < 2) ∧ (spread ≤ 1) ∧ (64 ≤ cyc) ∧ (328 < duty) :=
  ⟨0, 0, 0, 64, 329, wState, by decide⟩

theorem wit_EnginesAndSensors_17 : ∃ (t a : Nat) (s : State), (s.ctrl.shuntFail = true) ∧ (s.ctrl.hallFail = true) ∧ (s.ctrl.bothAt = some a) ∧ (a + sec 5 ≤ max s.now t) ∧ (s.core.mode ≠ .tripped) :=
  ⟨sec 5, 0, { wState with ctrl.shuntFail := true, ctrl.hallFail := true, ctrl.bothAt := some 0 }, by decide⟩

theorem wit_EnginesAndSensors_18 : ∃ (t passed : Nat) (s : State), (s.ctrl.shuntFail = true) ∧ (s.ctrl.hallFail = true) ∧ (sec 1 ≤ passed) :=
  ⟨0, sec 1, { wState with ctrl.shuntFail := true, ctrl.hallFail := true }, by decide⟩

theorem wit_EnginesAndSensors_19 : ∃ (t passed : Nat) (s : State), (s.ctrl.shuntFail = true) ∧ (s.ctrl.hallFail = true) ∧ (sec 1 ≤ passed) :=
  ⟨0, sec 1, { wState with ctrl.shuntFail := true, ctrl.hallFail := true }, by decide⟩

theorem wit_EnginesAndSensors_20 : ∃ (t m : Nat) (s : State), (Pend s m Cmd.ctrlStatus []) :=
  ⟨0, 0, withReq 0 Cmd.ctrlStatus [] wState, by decide⟩

theorem wit_EnginesAndSensors_21 : ∃ (t m : Nat) (s : State), (Pend s m Cmd.ctrlEngines []) :=
  ⟨0, 0, withReq 0 Cmd.ctrlEngines [] wState, by decide⟩

theorem wit_EnginesAndSensors_22 : ∃ (t m : Nat) (b : List Byte) (s : State), (Pend s m Cmd.ctrlEngineReturn b) ∧ (b.length = 1) ∧ (byteAt b 0 ≤ 3) ∧ ((engOf s (byteAt b 0)).role = .out) :=
  ⟨0, 0, [1], withReq 0 Cmd.ctrlEngineReturn [1] (setEng 1 (fun g => { g with role := .out }) wState), by decide +kernel⟩

theorem wit_EnginesAndSensors_23 : ∃ (t m : Nat) (b : List Byte) (s : State), (Pend s m Cmd.ctrlEngineReturn b) ∧ (b.length = 1) ∧ (byteAt b 0 ≤ 3) ∧ ((engOf s (byteAt b 0)).role = .out) :=
  ⟨0, 0, [1], withReq 0 Cmd.ctrlEngineReturn [1] (setEng 1 (fun g => { g with role := .out }) wState), by decide +kernel⟩

theorem wit_EnginesAndSensors_24 : ∃ (t m : Nat) (s : State), (Pend s m Cmd.ctrlRotateNow []) ∧ (rotationSkipped (begun t m s) = none) :=
  ⟨sec 2, 0, withReq 0 Cmd.ctrlRotateNow [] eState, by decide +kernel⟩

theorem wit_EnginesAndSensors_25 : ∃ (t m c : Nat) (s : State), (Pend s m Cmd.ctrlRotateNow []) ∧ (rotationSkipped (begun t m s) = some c) :=
  ⟨0, 0, Ev.shadowAbsent, withReq 0 Cmd.ctrlRotateNow [] { wState with ctrl.shadowAbsent := true }, by decide +kernel⟩

theorem wit_EnginesAndSensors_26 : ∃ (t m a : Nat) (b : List Byte) (s : State), (Pend s m Cmd.sensorRestore b) ∧ (b.length = 1) ∧ (s.ctrl.agreeSince = some a) ∧ (a + sec 10 ≤ max s.now t) ∧ (byteAt b 0 = 0) :=
  ⟨sec 10, 0, 0, [0], withReq 0 Cmd.sensorRestore [0] { wState with ctrl.agreeSince := some 0 }, by decide⟩

theorem wit_EnginesAndSensors_27 : ∃ (t m a : Nat) (b : List Byte) (s : State), (Pend s m Cmd.sensorRestore b) ∧ (b.length = 1) ∧ (s.ctrl.agreeSince = some a) ∧ (a + sec 10 ≤ max s.now t) ∧ (byteAt b 0 = 1) :=
  ⟨sec 10, 0, 0, [1], withReq 0 Cmd.sensorRestore [1] { wState with ctrl.agreeSince := some 0 }, by decide⟩

theorem wit_EnginesAndSensors_28 : ∃ (t m : Nat) (s : State), (Pend s m Cmd.winTotals []) :=
  ⟨0, 0, withReq 0 Cmd.winTotals [] wState, by decide⟩

/-! ## ModulatorCycles -/

theorem wit_ModulatorCycles_1 : ∃ (t n : Nat) (bits : List Bool) (age : Nat) (s : State), (s.conv.st = .off ∨ s.conv.st = .retryWait) :=
  ⟨0, 0, [], 0, wState, by decide⟩

theorem wit_ModulatorCycles_2 : ∃ (t n : Nat) (bits : List Bool) (age : Nat) (s : State), (s.conv.st = .continuous) ∧ ((phaseOf s n).active = true ∨ (phaseOf s n).dropping = true) ∧ ((phaseOf s n).waiting = true ∨ atValley (clocked t s) (phaseOf s n) (estimate (clocked t s) (phaseOf s n) bits age) = true) ∧ ((phaseOf s n).dropping = true) :=
  ⟨0, 0, [], 0, { wState with conv.st := .continuous, conv.ph := [{ dropping := true, waiting := true }] }, by decide +kernel⟩

theorem wit_ModulatorCycles_3 : ∃ (t n : Nat) (bits : List Bool) (age : Nat) (s : State), (s.conv.st = .continuous) ∧ ((phaseOf s n).active = true ∨ (phaseOf s n).dropping = true) ∧ ((phaseOf s n).waiting = true ∨ atValley (clocked t s) (phaseOf s n) (estimate (clocked t s) (phaseOf s n) bits age) = true) ∧ ((phaseOf s n).dropping = false) :=
  ⟨0, 0, [], 0, { wState with conv.st := .continuous, conv.ph := [{ active := true, waiting := true }] }, by decide +kernel⟩

theorem wit_ModulatorCycles_4 : ∃ (t n : Nat) (bits : List Bool) (age : Nat) (s : State), (s.conv.st = .burst) ∧ (s.conv.packet ≠ 0) ∧ ((phaseOf s n).active = true) ∧ ((phaseOf s n).dropping = false) ∧ ((phaseOf s n).cycles = 16) ∧ (atValley (clocked t s) (phaseOf s n) (estimate (clocked t s) (phaseOf s n) bits age) = true) :=
  ⟨0, 0, [], 0, { wState with conv.st := .burst, conv.packet := 1, conv.vNow := (some 0, some 0), mbx.params := [(Prm.lPhase, 1)], conv.ph := [{ active := true, cycles := 16, valley := 0 }] }, by decide +kernel⟩

theorem wit_ModulatorCycles_5 : ∃ (s : State) (n f ton : Nat), (nextCycle s (phaseOf s n) = some (f, ton)) ∧ (startGranted s n = true) ∧ (nearerWaits s n = false) ∧ (s.conv.st = .continuous ∨ s.conv.st = .burst) :=
  ⟨{ wState with conv.st := .continuous, conv.vNow := (some 16000, some 32000), conv.ph := [{ active := true }] }, 0, 40000, 50000, by decide +kernel⟩

theorem wit_ModulatorCycles_6 : ∃ (s : State) (n : Nat), (nextCycle s (phaseOf s n) = none) :=
  ⟨{ wState with conv.vNow := (some 0, some 0) }, 0, by decide +kernel⟩

theorem wit_ModulatorCycles_7 : ∃ (t n : Nat) (bits : List Bool) (age : Nat) (s : State), (switching s = true) ∧ ((phaseOf s n).active = true ∨ (phaseOf s n).dropping = true) ∧ (level (clocked t s) (prm s Prm.phaseIMax) ≤ ((estimate (clocked t s) (phaseOf s n) bits age).natAbs : Int)) ∧ ((phaseOf s n).hit = false) ∧ ((phaseOf s n).onEnd ≤ 4 * max s.now t + (phaseOf s n).tOn) ∧ (4 * max s.now t < (phaseOf s n).onEnd) ∧ ((phaseOf s n).run < 7) ∧ (s.conv.st ≠ .burst) :=
  ⟨0, 0, [], 0, { wState with conv.st := .continuous, conv.vNow := (some 0, some 0), conv.ph := [{ active := true, tOn := 1000, onEnd := 1000, run := 0 }] }, by decide +kernel⟩

theorem wit_ModulatorCycles_8 : ∃ (t n : Nat) (bits : List Bool) (age : Nat) (s : State), (switching s = true) ∧ ((phaseOf s n).active = true ∨ (phaseOf s n).dropping = true) ∧ (level (clocked t s) (prm s Prm.phaseIMax) ≤ ((estimate (clocked t s) (phaseOf s n) bits age).natAbs : Int)) ∧ ((phaseOf s n).hit = false) ∧ ((phaseOf s n).onEnd ≤ 4 * max s.now t + (phaseOf s n).tOn) ∧ (4 * max s.now t < (phaseOf s n).onEnd) ∧ ((phaseOf s n).run < 7) ∧ (s.conv.st = .burst) ∧ ((phaseOf s n).cycles = 16) :=
  ⟨0, 0, [], 0, { wState with conv.st := .burst, conv.vNow := (some 0, some 0), conv.ph := [{ active := true, tOn := 1000, onEnd := 1000, cycles := 16, run := 0 }] }, by decide +kernel⟩

theorem wit_ModulatorCycles_9 : ∃ (t n : Nat) (bits : List Bool) (age : Nat) (s : State), (switching s = true) ∧ ((phaseOf s n).active = true ∨ (phaseOf s n).dropping = true) ∧ (level (clocked t s) (prm s Prm.phaseIMax) ≤ ((estimate (clocked t s) (phaseOf s n) bits age).natAbs : Int)) ∧ ((phaseOf s n).hit = false) ∧ ((phaseOf s n).onEnd ≤ 4 * max s.now t + (phaseOf s n).tOn) ∧ (4 * max s.now t < (phaseOf s n).onEnd) ∧ (7 ≤ (phaseOf s n).run) ∧ (s.conv.st = .softStart) :=
  ⟨0, 0, [], 0, { wState with conv.st := .softStart, conv.vNow := (some 0, some 0), conv.ph := [{ active := true, tOn := 1000, onEnd := 1000, run := 7 }] }, by decide +kernel⟩

theorem wit_ModulatorCycles_10 : ∃ (t n : Nat) (bits : List Bool) (age : Nat) (s : State), (switching s = true) ∧ ((phaseOf s n).active = true ∨ (phaseOf s n).dropping = true) ∧ (level (clocked t s) (prm s Prm.phaseIMax) ≤ ((estimate (clocked t s) (phaseOf s n) bits age).natAbs : Int)) ∧ ((phaseOf s n).hit = false) ∧ ((phaseOf s n).onEnd ≤ 4 * max s.now t + (phaseOf s n).tOn) ∧ (4 * max s.now t < (phaseOf s n).onEnd) ∧ (7 ≤ (phaseOf s n).run) ∧ (s.conv.st ≠ .softStart) :=
  ⟨0, 0, [], 0, { wState with conv.st := .continuous, conv.vNow := (some 0, some 0), conv.ph := [{ active := true, tOn := 1000, onEnd := 1000, run := 7 }] }, by decide +kernel⟩

theorem wit_ModulatorCycles_11 : ∃ (t : Nat) (s : State), (switching s = true) ∧ (groupDone s = true) ∧ (s.conv.st ≠ .burst) :=
  ⟨0, { wState with conv.st := .continuous, conv.ph := [{ active := true, started := true }] }, by decide⟩

theorem wit_ModulatorCycles_12 : ∃ (t : Nat) (s : State), (groupDone s = false) :=
  ⟨0, wState, by decide⟩

theorem wit_ModulatorCycles_13 : ∃ (t n a : Nat) (s : State), ((phaseOf s n).active = true) ∧ ((phaseOf s n).limited = false) ∧ ((phaseOf s n).boundSince = some a) ∧ (a + ms 100 ≤ max s.now t) :=
  ⟨ms 100, 0, 0, { wState with conv.ph := [{ active := true, boundSince := some 0 }] }, by decide⟩

theorem wit_ModulatorCycles_14 : ∃ (t a : Nat) (s : State), (s.conv.st = .continuous) ∧ (prm s Prm.burstEnable = 1) ∧ (belowBurst s = true) ∧ (s.conv.lowSince = some a) ∧ (a + ms 20 ≤ max s.now t) :=
  ⟨ms 20, 0, { wState with conv.st := .continuous, conv.lowSince := some 0, mbx.params := [(Prm.burstEnable, 1), (Prm.iRated, 32000)] }, by decide +kernel⟩

theorem wit_ModulatorCycles_15 : ∃ (t : Nat) (s : State), (s.conv.st ≠ .burst ∨ (burstGrid (clocked t s)).1 = s.conv.frame ∨ 1000 < (burstGrid (clocked t s)).2) :=
  ⟨0, wState, by decide⟩

theorem wit_ModulatorCycles_16 : ∃ (t : Nat) (s : State), (s.conv.st = .burst) ∧ (s.conv.burstExit = true ∨ belowBurst s = false) ∧ ((burstGrid (clocked t s)).1 ≠ s.conv.frame) ∧ ((burstGrid (clocked t s)).2 ≤ 1000) :=
  ⟨0, { wState with conv.st := .burst, conv.burstExit := true, conv.frame := -1 }, by decide +kernel⟩

theorem wit_ModulatorCycles_17 : ∃ (t : Nat) (s : State), (s.conv.st = .burst) ∧ (s.conv.burstExit = false) ∧ (belowBurst s = true) ∧ ((burstGrid (clocked t s)).1 ≠ s.conv.frame) ∧ ((burstGrid (clocked t s)).2 ≤ 1000) :=
  ⟨0, { wState with conv.st := .burst, conv.frame := -1, mbx.params := [(Prm.iRated, 32000)] }, by decide +kernel⟩

theorem wit_ModulatorCycles_18 : ∃ (t : Nat) (vs vl : Int) (s : State), (s.conv.st = .off) ∧ (mayStart s = true) :=
  ⟨0, 0, 0, upState, by decide +kernel⟩

theorem wit_ModulatorCycles_19 : ∃ (t : Nat) (vs vl : Int) (s : State), (mayStart s = false) :=
  ⟨0, 0, 0, wState, by decide +kernel⟩

theorem wit_ModulatorCycles_20 : ∃ (t : Nat) (vs vl : Int) (s : State), (s.conv.st = .retryWait) ∧ (s.conv.retryAt ≤ max s.now t) ∧ (mayStart s = true) :=
  ⟨0, 0, 0, { upState with conv.st := .retryWait }, by decide +kernel⟩

/-! ## GateLanes -/

theorem wit_GateLanes_2 : ∃ (t n : Nat) (b : List Byte) (s : State), (statusValid b = false) :=
  ⟨0, 0, [], wState, by decide⟩

theorem wit_GateLanes_3 : ∃ (t n : Nat) (b : List Byte) (s : State), (statusValid b = true) ∧ ((laneOf s n).up = false) ∧ ((laneOf s n).training = true) ∧ (statusEchoes (laneOf s n) b = true) ∧ (2 ≤ (laneOf s n).good) :=
  ⟨0, 0, ([0xE1, 0x5A] ++ ([1, 0, 0, 0, 0, 0, 0, 0, 0, 0, 0, 0] : List Byte) ++ leBytes 2 (crc16 [1, 0, 0, 0, 0, 0, 0, 0, 0, 0, 0, 0])), setLane 0 (fun l => { l with training := true, good := 2, seq := 1, sentN := 1 }) wState, by decide +kernel⟩

theorem wit_GateLanes_4 : ∃ (t n : Nat) (b : List Byte) (s : State), (statusValid b = true) ∧ ((laneOf s n).up = true) ∧ ((laneOf s n).training = false) ∧ (statusFaults b = false) :=
  ⟨0, 0, ([0xE1, 0x5A] ++ (List.replicate 12 0 : List Byte) ++ leBytes 2 (crc16 (List.replicate 12 0))), setLane 0 (fun l => { l with up := true }) wState, by decide +kernel⟩

theorem wit_GateLanes_5 : ∃ (t n : Nat) (b : List Byte) (s : State), (statusValid b = true) ∧ ((laneOf s n).up = true) ∧ ((laneOf s n).training = false) ∧ (statusFaults b = true) ∧ ((phaseOf s n).active = true) ∧ (switching s = true) :=
  ⟨0, 0, ([0xE1, 0x5A] ++ ([128, 0, 0, 0, 0, 0, 0, 0, 0, 0, 0, 0] : List Byte) ++ leBytes 2 (crc16 [128, 0, 0, 0, 0, 0, 0, 0, 0, 0, 0, 0])), setLane 0 (fun l => { l with up := true }) { wState with conv.st := .continuous, conv.ph := [{ active := true }] }, by decide +kernel⟩

theorem wit_GateLanes_6 : ∃ (t n : Nat) (s : State), ((fittedLanes s).contains n = true) ∧ ((laneOf s n).up = false) :=
  ⟨0, 0, { wState with mbx.params := [(Prm.phaseMask, 255)] }, by decide +kernel⟩

theorem wit_GateLanes_7 : ∃ (t n q ns : Nat) (br : List Byte) (s : State), ((laneOf s n).up = true) ∧ (us 2 ≤ q ∨ us 20 ≤ ns ∨ countersFollow br = false) ∧ ((phaseOf s n).active = true) ∧ (switching s = true) :=
  ⟨0, 0, us 2, 0, [], setLane 0 (fun l => { l with up := true }) { wState with conv.st := .continuous, conv.ph := [{ active := true }] }, by decide +kernel⟩

theorem wit_GateLanes_8 : ∃ (t n q ns : Nat) (br : List Byte) (s : State), ((laneOf s n).up = true) ∧ (us 2 ≤ q ∨ us 20 ≤ ns ∨ countersFollow br = false) ∧ ((phaseOf s n).active = false) :=
  ⟨0, 0, us 2, 0, [], setLane 0 (fun l => { l with up := true }) wState, by decide +kernel⟩

theorem wit_GateLanes_9 : ∃ (t n q : Nat) (s : State), (us 2 ≤ q) :=
  ⟨0, 0, us 2, wState, by decide⟩

theorem wit_GateLanes_11 : ∃ (t m : Nat) (s : State), (Pend s m Cmd.modStatus []) :=
  ⟨0, 0, withReq 0 Cmd.modStatus [] wState, by decide⟩

theorem wit_GateLanes_12 : ∃ (t m : Nat) (s : State), (Pend s m Cmd.laneStatus []) :=
  ⟨0, 0, withReq 0 Cmd.laneStatus [] wState, by decide⟩

theorem wit_GateLanes_13 : ∃ (t m : Nat) (s : State), (Pend s m Cmd.dtTableRead []) :=
  ⟨0, 0, withReq 0 Cmd.dtTableRead [] wState, by decide⟩

theorem wit_GateLanes_14 : ∃ (t m : Nat) (b : List Byte) (s : State), (Pend s m Cmd.dtTableWrite b) ∧ (b.length = 64) ∧ (∀ k < 32, (((signedOf 16 (leAt b (2 * k) 2)).natAbs : Nat) : Int) ≤ prm s Prm.deadTime) :=
  ⟨0, 0, List.replicate 64 0, withReq 0 Cmd.dtTableWrite (List.replicate 64 0) wState, by decide +kernel⟩

theorem wit_GateLanes_15 : ∃ (t m : Nat) (s : State), (Pend s m Cmd.laneRetrain []) ∧ (switching s = false) :=
  ⟨0, 0, withReq 0 Cmd.laneRetrain [] wState, by decide⟩

theorem wit_GateLanes_16 : ∃ (t m : Nat) (s : State), (Pend s m Cmd.laneRetrain []) ∧ (switching s = true) :=
  ⟨0, 0, withReq 0 Cmd.laneRetrain [] { wState with conv.st := .burst }, by decide⟩

/-! ## SetPointRequests -/

theorem wit_SetPointRequests_1 : ∃ (t m : Nat) (p : List Byte) (s : State), (Pend s m Cmd.spSet p) ∧ (p.length = 16) ∧ (spBadField p = none) :=
  ⟨0, 0, [0, 0, 1, 0, 0, 0, 0, 0, 0, 0, 0, 0, 0, 0, 0, 0], withReq 0 Cmd.spSet [0, 0, 1, 0, 0, 0, 0, 0, 0, 0, 0, 0, 0, 0, 0, 0] wState, by decide +kernel⟩

theorem wit_SetPointRequests_2 : ∃ (t m : Nat) (p : List Byte) (s : State), (Pend s m Cmd.spSet p) ∧ (p.length ≠ 16) :=
  ⟨0, 0, [], withReq 0 Cmd.spSet [] wState, by decide +kernel⟩

theorem wit_SetPointRequests_3 : ∃ (s : State) (q : SpRequest), (q.kind ≠ 2) ∧ (stopped s 7 = false) ∧ (bitOf (prmN s Prm.spSources) q.src = true) ∧ (q.timed = false) :=
  ⟨{ wState with mbx.params := [(Prm.spSources, 1), (Prm.spLeadMin, 1), (Prm.spLateGrace, 1), (Prm.spHorizon, 100)] }, ⟨0, false, false, none, 5, 0, 0⟩, by decide +kernel⟩

theorem wit_SetPointRequests_4 : ∃ (s : State) (q : SpRequest), (q.kind ≠ 2) ∧ (stopped s 7 = true) ∧ (q.timed = false) :=
  ⟨setFn 7 (fun f => { f with state := .stopped }) wState, ⟨0, false, false, none, 5, 0, 0⟩, by decide +kernel⟩

theorem wit_SetPointRequests_5 : ∃ (s : State) (q : SpRequest), (q.kind ≠ 2) ∧ (stopped s 7 = false) ∧ (bitOf (prmN s Prm.spSources) q.src = true) ∧ (q.timed = true) ∧ (timeUnits (us (prmN s Prm.spLeadMin)) ≤ diff48 q.apply (stampNow s)) ∧ (diff48 q.apply (stampNow s) ≤ timeUnits (sec (prmN s Prm.spHorizon))) ∧ ((withoutSame ⟨q.kind, q.value, q.rate, q.apply, q.src, false⟩ (if q.clear then afterClear s else s.disp.queue)).length < 16) :=
  ⟨{ wState with mbx.params := [(Prm.spSources, 1), (Prm.spLeadMin, 1), (Prm.spLateGrace, 1), (Prm.spHorizon, 100)] }, ⟨0, true, false, none, 5, 4294967296, 0⟩, by decide +kernel⟩

theorem wit_SetPointRequests_6 : ∃ (s : State) (q : SpRequest), (q.kind ≠ 2) ∧ (stopped s 7 = false) ∧ (bitOf (prmN s Prm.spSources) q.src = true) ∧ (q.timed = true) ∧ (diff48 q.apply (stampNow s) < timeUnits (us (prmN s Prm.spLeadMin))) ∧ (diff48 q.apply (stampNow s) ≤ timeUnits (sec (prmN s Prm.spHorizon))) ∧ (diff48 q.apply (stampNow s) < -timeUnits (us (prmN s Prm.spLateGrace))) :=
  ⟨{ { wState with mbx.params := [(Prm.spSources, 1), (Prm.spLeadMin, 1), (Prm.spLateGrace, 1), (Prm.spHorizon, 100)] } with now := sec 2 }, ⟨0, true, false, none, 5, 4294967296, 0⟩, by decide +kernel⟩

theorem wit_SetPointRequests_7 : ∃ (s : State) (q : SpRequest), (q.kind ≠ 2) ∧ (stopped s 7 = false) ∧ (bitOf (prmN s Prm.spSources) q.src = true) ∧ (q.timed = true) ∧ (diff48 q.apply (stampNow s) < timeUnits (us (prmN s Prm.spLeadMin))) ∧ (diff48 q.apply (stampNow s) ≤ timeUnits (sec (prmN s Prm.spHorizon))) ∧ (-timeUnits (us (prmN s Prm.spLateGrace)) ≤ diff48 q.apply (stampNow s)) ∧ (0 < timeUnits (us (prmN s Prm.spLateGrace))) :=
  ⟨{ { wState with mbx.params := [(Prm.spSources, 1), (Prm.spLeadMin, 1), (Prm.spLateGrace, 1), (Prm.spHorizon, 100)] } with now := sec 1 }, ⟨0, true, false, none, 5, 4294967296, 0⟩, by decide +kernel⟩

theorem wit_SetPointRequests_8 : ∃ (t : Nat) (p : SetPoint) (l : List SetPoint) (s : State), (s.disp.queue = p :: l) ∧ (diff48 p.apply (stampNow (clocked t s)) ≤ 0) ∧ (∀ q ∈ l, 0 < diff48 q.apply (stampNow (clocked t s))) :=
  ⟨0, ⟨0, 7, none, 0, 0, false⟩, [], { wState with disp.queue := [⟨0, 7, none, 0, 0, false⟩] }, by decide +kernel⟩

theorem wit_SetPointRequests_9 : ∃ (t : Nat) (s : State), (s.disp.queue = []) :=
  ⟨0, wState, by decide⟩

theorem wit_SetPointRequests_10 : ∃ (t : Nat) (s : State), (prmN s Prm.spWatchdog ≠ 0) ∧ (s.disp.watchdog = false) ∧ (stopped s 7 = false) ∧ (s.disp.watchAt + ms (prmN s Prm.spWatchdog) ≤ max s.now t) ∧ (s.core.mode ≠ .shelf) :=
  ⟨sec 100, { wState with mbx.params := [(Prm.spWatchdog, 1)] }, by decide +kernel⟩

theorem wit_SetPointRequests_11 : ∃ (t : Nat) (s : State), (s.disp.watchdog = true) :=
  ⟨0, { wState with disp.watchdog := true }, by decide⟩

theorem wit_SetPointRequests_12 : ∃ (t m : Nat) (b : List Byte) (s : State), (Pend s m Cmd.spCancel b) ∧ (b.length = 8) ∧ (stopped s 7 = false) ∧ (∀ p ∈ s.disp.queue, (leAt b 0 8 == 0 || low48 p.apply == low48 (leAt b 0 8)) = true → released (begun t m s) p = false) :=
  ⟨0, 0, List.replicate 8 0, withReq 0 Cmd.spCancel (List.replicate 8 0) wState, by decide +kernel⟩

theorem wit_SetPointRequests_13 : ∃ (t m : Nat) (b : List Byte) (s : State), (Pend s m Cmd.spCancel b) ∧ (b.length = 8) ∧ (stopped s 7 = true) :=
  ⟨0, 0, List.replicate 8 0, withReq 0 Cmd.spCancel (List.replicate 8 0) (setFn 7 (fun f => { f with state := .stopped }) wState), by decide +kernel⟩

theorem wit_SetPointRequests_14 : ∃ (t m : Nat) (s : State), (Pend s m Cmd.spQueueRead []) :=
  ⟨0, 0, withReq 0 Cmd.spQueueRead [] wState, by decide⟩

theorem wit_SetPointRequests_15 : ∃ (t m : Nat) (s : State), (Pend s m Cmd.dispatchStatus []) :=
  ⟨0, 0, withReq 0 Cmd.dispatchStatus [] wState, by decide⟩

/-! ## SafetyDemands -/

theorem wit_SafetyDemands_1 : ∃ (code : Nat) (who : Finder) (data : List Int) (s : State), (s.saf.present.contains code = false) ∧ (stopped s 8 = false) :=
  ⟨Ev.sf1, .sp, [], wState, by decide⟩

theorem wit_SafetyDemands_2 : ∃ (code : Nat) (who : Finder) (data : List Int) (s : State), (s.saf.present.contains code = false) ∧ (stopped s 8 = true) :=
  ⟨Ev.sf1, .sp, [], setFn 8 (fun f => { f with state := .stopped }) wState, by decide +kernel⟩

theorem wit_SafetyDemands_3 : ∃ (code : Nat) (who : Finder) (data : List Int) (s : State), (s.saf.present.contains code = true) :=
  ⟨Ev.sf1, .sp, [], { wState with saf.present := [Ev.sf1] }, by decide⟩

theorem wit_SafetyDemands_4 : ∃ (t held : Nat) (s : State), (us 300 ≤ held) ∧ (s.saf.domeDemand = false) ∧ (s.saf.spDemand = false) ∧ (stopped s 8 = false) :=
  ⟨0, us 300, wState, by decide⟩

theorem wit_SafetyDemands_5 : ∃ (t held : Nat) (s : State), (us 300 ≤ held) ∧ (s.saf.domeDemand = false) ∧ (s.saf.spDemand = true) :=
  ⟨0, us 300, { wState with saf.spDemand := true }, by decide⟩

theorem wit_SafetyDemands_6 : ∃ (t held : Nat) (s : State), (held < us 300 ∨ s.saf.domeDemand = true) :=
  ⟨0, 0, wState, by decide⟩

theorem wit_SafetyDemands_7 : ∃ (t held : Nat) (s : State), (ms 2 ≤ held) ∧ (s.saf.present.contains Ev.domeFault = false) ∧ (stopped s 8 = false) :=
  ⟨0, ms 2, wState, by decide⟩

theorem wit_SafetyDemands_8 : ∃ (t held : Nat) (s : State), (held < ms 2) :=
  ⟨0, 0, wState, by decide⟩

theorem wit_SafetyDemands_9 : ∃ (t : Nat) (s : State), (s.saf.domeDemand = true) :=
  ⟨0, { wState with saf.domeDemand := true }, by decide⟩

theorem wit_SafetyDemands_10 : ∃ (t : Nat) (s : State), (s.saf.domeDemand = false) :=
  ⟨0, wState, by decide⟩

theorem wit_SafetyDemands_14 : ∃ (t loop ma held : Nat) (s : State), (loop < 2) ∧ (ma < 20) ∧ (us 40 ≤ held) ∧ (s.saf.fltOpen.getD loop false = false) :=
  ⟨0, 0, 0, us 40, wState, by decide⟩

theorem wit_SafetyDemands_15 : ∃ (t loop ma held : Nat) (s : State), (loop < 2) ∧ (20 ≤ ma) ∧ (s.saf.fltOpen = [false, false]) :=
  ⟨0, 0, 20, 0, wState, by decide⟩

theorem wit_SafetyDemands_16 : ∃ (t loop ma held : Nat) (s : State), (loop < 2) ∧ (20 ≤ ma) ∧ (s.saf.fltOpen.getD loop false = true) :=
  ⟨0, 0, 20, 0, { wState with saf.fltOpen := [true, true] }, by decide⟩

theorem wit_SafetyDemands_17 : ∃ (t loop ma held : Nat) (s : State), (60 < ma) ∧ (ms 100 ≤ held) :=
  ⟨0, 0, 61, ms 100, wState, by decide⟩

theorem wit_SafetyDemands_18 : ∃ (t loop ma held : Nat) (s : State), (ma ≤ 60) :=
  ⟨0, 0, 60, 0, wState, by decide⟩

theorem wit_SafetyDemands_19 : ∃ (t x : Nat) (i : Int) (held : Nat) (s : State), (prm s Prm.safeOcFast ≤ (i.natAbs : Int)) ∧ (us 10 ≤ held) ∧ (stopped s 8 = false) :=
  ⟨0, 0, 1000000, us 10, wState, by decide +kernel⟩

theorem wit_SafetyDemands_20 : ∃ (t x : Nat) (i : Int) (held : Nat) (s : State), ((i.natAbs : Int) < prm s Prm.safeOcFast ∨ held < us 10) :=
  ⟨0, 0, 0, 0, wState, by decide +kernel⟩

theorem wit_SafetyDemands_21 : ∃ (t a : Nat) (s : State), (s.saf.ocSince = some a) ∧ (a + ms (prmN s Prm.safeOcTime) ≤ max s.now t) ∧ (s.ctrl.shuntFail = false ∨ s.ctrl.hallFail = false) ∧ (stopped s 8 = false) :=
  ⟨sec 100, 0, { wState with saf.ocSince := some 0 }, by decide +kernel⟩

theorem wit_SafetyDemands_22 : ∃ (t : Nat) (s : State), (s.saf.ocSince = none) :=
  ⟨0, wState, by decide⟩

theorem wit_SafetyDemands_23 : ∃ (t c a : Nat) (s : State), (cellFitted s c = true) ∧ (s.saf.tAbsent.getD c none = some a) ∧ (a + sec (prmN s Prm.safeTAbsentTime) ≤ max s.now t) :=
  ⟨sec 10000, 0, 0, oneTap { wState with saf.tAbsent := [some 0] }, by decide +kernel⟩

theorem wit_SafetyDemands_24 : ∃ (t a : Nat) (i : Int) (s : State), (s.saf.sf8 = some (a, i)) ∧ (a + sec (prmN s Prm.sf8Delay) ≤ max s.now t) ∧ ((siOf s 3).a.demand = true ∨ (siOf s 3).b.demand = true) :=
  ⟨sec 100, 0, 0, { wState with saf.sf8 := some (0, 0), saf.si := [{}, {}, {}, { a := { demand := true } }] }, by decide +kernel⟩

theorem wit_SafetyDemands_25 : ∃ (t a : Nat) (i : Int) (s : State), (s.saf.sf8 = some (a, i)) ∧ (a + sec (prmN s Prm.sf8Delay) ≤ max s.now t) ∧ ((siOf s 3).a.demand = false) ∧ ((siOf s 3).b.demand = false) ∧ (stopped s 8 = false) :=
  ⟨sec 100, 0, 0, { wState with saf.sf8 := some (0, 0) }, by decide +kernel⟩

theorem wit_SafetyDemands_26 : ∃ (t : Nat) (s : State), (s.saf.sf8 = none) :=
  ⟨0, wState, by decide⟩

theorem wit_SafetyDemands_27 : ∃ (t : Nat) (s : State), (sf9Trigger (clocked t s) = true) :=
  ⟨sec 3, oneTap { wState with con.k := [{ request := true, hs := true, ls := true }] }, by decide +kernel⟩

theorem wit_SafetyDemands_28 : ∃ (t : Nat) (s : State), (sf9Trigger (clocked t s) = false) :=
  ⟨0, wState, by decide⟩

/-! ## SafetyInputs -/

theorem wit_SafetyInputs_1 : ∃ (t i : Nat) (b : Bool) (held : Nat) (s : State), (i < 4) ∧ (siEnabled s i = true) ∧ (ms 1 ≤ held) ∧ (((siOf s i).chan b).demand = false) :=
  ⟨0, 0, true, ms 1, wState, by decide +kernel⟩

theorem wit_SafetyInputs_2 : ∃ (t i : Nat) (b : Bool) (held : Nat) (s : State), (held < ms 1 ∨ ((siOf s i).chan b).demand = true) :=
  ⟨0, 0, true, 0, wState, by decide⟩

theorem wit_SafetyInputs_3 : ∃ (t i : Nat) (b : Bool) (held : Nat) (s : State), (i < 4) ∧ (siEnabled s i = true) ∧ (ms 10 ≤ held) ∧ (((siOf s i).chan b).demand = true) ∧ (((siOf s i).chan b).wiring = false ∨ (siOf s i).bothDemanded = true) :=
  ⟨0, 0, true, ms 10, setSi 0 (fun x => { x with b := { x.b with demand := true } }) wState, by decide +kernel⟩

theorem wit_SafetyInputs_4 : ∃ (t i : Nat) (b : Bool) (held : Nat) (s : State), (((siOf s i).chan b).wiring = true) ∧ ((siOf s i).bothDemanded = false) :=
  ⟨0, 0, true, 0, setSi 0 (fun x => { x with b := { x.b with wiring := true } }) wState, by decide⟩

theorem wit_SafetyInputs_5 : ∃ (t i a : Nat) (s : State), (i < 4) ∧ ((siOf s i).discSince = some a) ∧ ((siOf s i).disc = false) ∧ (a + ms (prmN s Prm.siDiscTime - 1) ≤ max s.now t) :=
  ⟨sec 10, 0, 0, setSi 0 (fun x => { x with discSince := some 0 }) wState, by decide +kernel⟩

theorem wit_SafetyInputs_6 : ∃ (t i : Nat) (s : State), ((siOf s i).discSince = none) :=
  ⟨0, 0, wState, by decide⟩

theorem wit_SafetyInputs_7 : ∃ (t tp : Nat) (low : List Bool) (s : State), (tp < 2) ∧ (s.core.mode ≠ .shelf) ∧ (s.con.supplyLow = false) ∧ (s.thm.held = false) :=
  ⟨0, 0, [], wState, by decide⟩

theorem wit_SafetyInputs_8 : ∃ (t ma held : Nat) (s : State), (ma < 20) ∧ (ms 1 ≤ held) ∧ (s.saf.tripInOpen = false) ∧ (stopped s 8 = false) :=
  ⟨0, 0, ms 1, wState, by decide +kernel⟩

theorem wit_SafetyInputs_9 : ∃ (t ma held : Nat) (s : State), (20 ≤ ma) ∧ (s.saf.tripInOpen = false) :=
  ⟨0, 20, 0, wState, by decide⟩

theorem wit_SafetyInputs_10 : ∃ (t ma held : Nat) (s : State), (20 ≤ ma) ∧ (s.saf.tripInOpen = true) :=
  ⟨0, 20, 0, { wState with saf.tripInOpen := true }, by decide⟩

/-! ## SafeOpeningAndMessages -/

theorem wit_SafeOpeningAndMessages_1 : ∃ (t a : Nat) (s : State), (openingFrom s = some a) ∧ (s.saf.spOpened = false) ∧ (currentLow s = true ∨ a + ms 50 ≤ max s.now t) :=
  ⟨0, 0, { wState with saf.demandAt := some 0, saf.iNow := -1, mbx.params := [(Prm.iRated, 100)] }, by decide +kernel⟩

theorem wit_SafeOpeningAndMessages_2 : ∃ (t a : Nat) (s : State), (openingFrom s = some a) ∧ (s.saf.spOpened = true) :=
  ⟨0, 0, { wState with saf.demandAt := some 0, saf.spOpened := true }, by decide +kernel⟩

theorem wit_SafeOpeningAndMessages_3 : ∃ (t a : Nat) (s : State), (openingFrom s = some a) ∧ (s.saf.spOpened = true) ∧ (s.saf.spOpenedAt + ms (prmN s Prm.kOrderGap) ≤ max s.now t ∨ a + ms 50 ≤ max s.now t) :=
  ⟨ms 50, 0, { wState with saf.demandAt := some 0, saf.spOpened := true }, by decide +kernel⟩

theorem wit_SafeOpeningAndMessages_4 : ∃ (t : Nat) (s : State), (openingFrom s = none) :=
  ⟨0, wState, by decide +kernel⟩

theorem wit_SafeOpeningAndMessages_5 : ∃ (t a : Nat) (s : State), (s.saf.domeDemand = true) ∧ (s.saf.domeOpenAt = some a) ∧ (a + ms 48 ≤ max s.now t) :=
  ⟨ms 48, 0, { wState with saf.domeDemand := true, saf.domeOpenAt := some 0 }, by decide⟩

theorem wit_SafeOpeningAndMessages_6 : ∃ (t : Nat) (s : State), (s.saf.domeOpenAt = none) :=
  ⟨0, wState, by decide⟩

theorem wit_SafeOpeningAndMessages_7 : ∃ (t pl : Nat) (b : List Byte) (s : State), (messageFormed b = true) ∧ (messageFor s b = false) :=
  ⟨0, 0, (let h : List Byte := [1, 1, 1, 0, 0xFF, 0xFF, 0, 0, 1, 0, 0, 0] ++ List.replicate 12 0; h ++ leBytes 4 (crc32 h)), wState, by decide +kernel⟩

theorem wit_SafeOpeningAndMessages_8 : ∃ (t pl : Nat) (b : List Byte) (s : State), (s.core.mode ≠ .shelf) ∧ (s.thm.held = false) ∧ (byteAt b 1 = 1) ∧ (messageFormed b = false) :=
  ⟨0, 0, [0, 1], wState, by decide +kernel⟩

theorem wit_SafeOpeningAndMessages_9 : ∃ (t pl : Nat) (b : List Byte) (s : State), (messageFormed b = true) ∧ (messageFor s b = false) :=
  ⟨0, 0, (let h : List Byte := [1, 2, 1, 0, 0xFF, 0xFF, 0, 0, 1, 0, 0, 0] ++ List.replicate 12 0; h ++ leBytes 4 (crc32 h)), wState, by decide +kernel⟩

theorem wit_SafeOpeningAndMessages_10 : ∃ (t pl : Nat) (b : List Byte) (s : State), (s.core.mode ≠ .shelf) ∧ (s.thm.held = false) ∧ (byteAt b 1 = 2) ∧ (messageFormed b = false) :=
  ⟨0, 0, [0, 2], wState, by decide +kernel⟩

theorem wit_SafeOpeningAndMessages_11 : ∃ (t pl : Nat) (b : List Byte) (s : State), (messageFormed b = true) ∧ (messageFor s b = false) :=
  ⟨0, 0, (let h : List Byte := [1, 3, 1, 0, 0xFF, 0xFF, 0, 0, 1, 0, 0, 0] ++ List.replicate 12 0; h ++ leBytes 4 (crc32 h)), wState, by decide +kernel⟩

theorem wit_SafeOpeningAndMessages_12 : ∃ (t pl : Nat) (b : List Byte) (s : State), (s.core.mode ≠ .shelf) ∧ (s.thm.held = false) ∧ (byteAt b 1 = 3) ∧ (messageFormed b = false) :=
  ⟨0, 0, [0, 3], wState, by decide +kernel⟩

theorem wit_SafeOpeningAndMessages_13 : ∃ (t pl : Nat) (b : List Byte) (s u : State), (byteAt b 1 = 1) ∧ (takeCopy pl b (clocked t s) = (u, true)) :=
  ⟨0, 1, (let h : List Byte := [1, 1, 1, 0, 0xFF, 0xFF, 3, 0, 1, 0, 0, 0] ++ List.replicate 12 0 ++ [0, 0, 0]; h ++ leBytes 4 (crc32 h)), msgState (let h : List Byte := [1, 1, 1, 0, 0xFF, 0xFF, 3, 0, 1, 0, 0, 0] ++ List.replicate 12 0 ++ [0, 0, 0]; h ++ leBytes 4 (crc32 h)), (takeCopy 1 (let h : List Byte := [1, 1, 1, 0, 0xFF, 0xFF, 3, 0, 1, 0, 0, 0] ++ List.replicate 12 0 ++ [0, 0, 0]; h ++ leBytes 4 (crc32 h)) (clocked 0 (msgState (let h : List Byte := [1, 1, 1, 0, 0xFF, 0xFF, 3, 0, 1, 0, 0, 0] ++ List.replicate 12 0 ++ [0, 0, 0]; h ++ leBytes 4 (crc32 h))))).1, by decide +kernel⟩

theorem wit_SafeOpeningAndMessages_14 : ∃ (t pl : Nat) (b : List Byte) (s u : State), (byteAt b 1 = 2) ∧ (takeCopy pl b (clocked t s) = (u, true)) :=
  ⟨0, 1, (let h : List Byte := [1, 2, 1, 0, 0xFF, 0xFF, 0, 0, 1, 0, 0, 0] ++ List.replicate 12 0 ++ []; h ++ leBytes 4 (crc32 h)), msgState (let h : List Byte := [1, 2, 1, 0, 0xFF, 0xFF, 0, 0, 1, 0, 0, 0] ++ List.replicate 12 0 ++ []; h ++ leBytes 4 (crc32 h)), (takeCopy 1 (let h : List Byte := [1, 2, 1, 0, 0xFF, 0xFF, 0, 0, 1, 0, 0, 0] ++ List.replicate 12 0 ++ []; h ++ leBytes 4 (crc32 h)) (clocked 0 (msgState (let h : List Byte := [1, 2, 1, 0, 0xFF, 0xFF, 0, 0, 1, 0, 0, 0] ++ List.replicate 12 0 ++ []; h ++ leBytes 4 (crc32 h))))).1, by decide +kernel⟩

theorem wit_SafeOpeningAndMessages_15 : ∃ (t pl : Nat) (b : List Byte) (s u : State), (byteAt b 1 = 3) ∧ (takeCopy pl b (clocked t s) = (u, true)) :=
  ⟨0, 1, (let h : List Byte := [1, 3, 1, 0, 0xFF, 0xFF, 0, 0, 1, 0, 0, 0] ++ List.replicate 12 0 ++ []; h ++ leBytes 4 (crc32 h)), msgState (let h : List Byte := [1, 3, 1, 0, 0xFF, 0xFF, 0, 0, 1, 0, 0, 0] ++ List.replicate 12 0 ++ []; h ++ leBytes 4 (crc32 h)), (takeCopy 1 (let h : List Byte := [1, 3, 1, 0, 0xFF, 0xFF, 0, 0, 1, 0, 0, 0] ++ List.replicate 12 0 ++ []; h ++ leBytes 4 (crc32 h)) (clocked 0 (msgState (let h : List Byte := [1, 3, 1, 0, 0xFF, 0xFF, 0, 0, 1, 0, 0, 0] ++ List.replicate 12 0 ++ []; h ++ leBytes 4 (crc32 h))))).1, by decide +kernel⟩

theorem wit_SafeOpeningAndMessages_16 : ∃ (b : List Byte) (r : Bool) (s : State), (byteAt b 1 ≠ 4) :=
  ⟨[], false, wState, by decide⟩

theorem wit_SafeOpeningAndMessages_17 : ∃ (pl : Nat) (b : List Byte) (s : State) (r : Bool) (c : SafeCopy), (s.core.mode ≠ .shelf) ∧ (s.thm.held = false) ∧ (messageFormed b = true) ∧ (messageFor s b = true) ∧ (messageTimely s b = true) ∧ (sequenceTest s (leAt b 2 2) (leAt b 8 4) (leAt b 12 8) = some r) ∧ (s.saf.singlePlane = none) ∧ (s.saf.copies = [c]) ∧ (c.src = leAt b 2 2) ∧ (c.seq = leAt b 8 4) ∧ (c.plane ≠ pl) ∧ (s.now ≤ c.at_ + ms 2) ∧ (c.bytes = b) :=
  ⟨1, (let h : List Byte := [1, 3, 1, 0, 0xFF, 0xFF, 0, 0, 1, 0, 0, 0] ++ List.replicate 12 0 ++ []; h ++ leBytes 4 (crc32 h)), msgState (let h : List Byte := [1, 3, 1, 0, 0xFF, 0xFF, 0, 0, 1, 0, 0, 0] ++ List.replicate 12 0 ++ []; h ++ leBytes 4 (crc32 h)), false, ⟨0, 1, 1, (let h : List Byte := [1, 3, 1, 0, 0xFF, 0xFF, 0, 0, 1, 0, 0, 0] ++ List.replicate 12 0 ++ []; h ++ leBytes 4 (crc32 h)), 0⟩, by decide +kernel⟩

theorem wit_SafeOpeningAndMessages_18 : ∃ (pl : Nat) (b : List Byte) (s : State) (r : Bool) (c : SafeCopy), (s.core.mode ≠ .shelf) ∧ (s.thm.held = false) ∧ (messageFormed b = true) ∧ (messageFor s b = true) ∧ (messageTimely s b = true) ∧ (sequenceTest s (leAt b 2 2) (leAt b 8 4) (leAt b 12 8) = some r) ∧ (s.saf.singlePlane = none) ∧ (s.saf.copies = [c]) ∧ (c.src = leAt b 2 2) ∧ (c.seq = leAt b 8 4) ∧ (c.plane ≠ pl) ∧ (s.now ≤ c.at_ + ms 2) ∧ (c.bytes ≠ b) :=
  ⟨1, (let h : List Byte := [1, 3, 1, 0, 0xFF, 0xFF, 0, 0, 1, 0, 0, 0] ++ List.replicate 12 0 ++ []; h ++ leBytes 4 (crc32 h)), { (msgState (let h : List Byte := [1, 3, 1, 0, 0xFF, 0xFF, 0, 0, 1, 0, 0, 0] ++ List.replicate 12 0 ++ []; h ++ leBytes 4 (crc32 h))) with saf.copies := [⟨0, 1, 1, [], 0⟩] }, false, ⟨0, 1, 1, [], 0⟩, by decide +kernel⟩

theorem wit_SafeOpeningAndMessages_19 : ∃ (t pl : Nat) (b : List Byte) (s u : State), (byteAt b 1 = 4) ∧ (pl < 2) ∧ (takeCopy pl b (clocked t s) = (u, true)) ∧ (u.core.mode ≠ .tripped) ∧ (insideCause (leAt b 26 2) = false) ∧ (stopped u 8 = false) :=
  ⟨0, 1, (let h : List Byte := [1, 4, 1, 0, 0xFF, 0xFF, 4, 0, 1, 0, 0, 0] ++ List.replicate 12 0 ++ [0, 0, 0, 0]; h ++ leBytes 4 (crc32 h)), { msgState (let h : List Byte := [1, 4, 1, 0, 0xFF, 0xFF, 4, 0, 1, 0, 0, 0] ++ List.replicate 12 0 ++ [0, 0, 0, 0]; h ++ leBytes 4 (crc32 h)) with core.seals := 0x40, pair.partner := { addr := 1 } }, (takeCopy 1 (let h : List Byte := [1, 4, 1, 0, 0xFF, 0xFF, 4, 0, 1, 0, 0, 0] ++ List.replicate 12 0 ++ [0, 0, 0, 0]; h ++ leBytes 4 (crc32 h)) (clocked 0 { msgState (let h : List Byte := [1, 4, 1, 0, 0xFF, 0xFF, 4, 0, 1, 0, 0, 0] ++ List.replicate 12 0 ++ [0, 0, 0, 0]; h ++ leBytes 4 (crc32 h)) with core.seals := 0x40, pair.partner := { addr := 1 } })).1, by decide +kernel⟩

theorem wit_SafeOpeningAndMessages_20 : ∃ (t src seq : Nat) (s : State) (c : SafeCopy), (s.saf.copies = [c]) ∧ (c.src = src) ∧ (c.seq = seq) ∧ (c.at_ + ms 2 < max s.now t) :=
  ⟨sec 1, 1, 1, { wState with saf.copies := [⟨0, 1, 1, [], 0⟩] }, ⟨0, 1, 1, [], 0⟩, by decide⟩

theorem wit_SafeOpeningAndMessages_21 : ∃ (t : Nat) (s : State), (linkLost (clocked t s) = true) :=
  ⟨sec 100, { wState with mbx.params := [], saf.force := List.replicate 15 1 }, by decide +kernel⟩

theorem wit_SafeOpeningAndMessages_22 : ∃ (t : Nat) (s : State), (linkLost (clocked t s) = false) :=
  ⟨0, { wState with saf.force := List.replicate 15 1 }, by decide +kernel⟩

theorem wit_SafeOpeningAndMessages_23 : ∃ (t p : Nat) (s : State), (p < 2) ∧ (s.saf.singlePlane = none) ∧ ((planeOf s p).failed = true) ∧ ((planeOf s (1 - p)).failed = false) ∧ ((planeOf s p).declaredAt + sec 1 ≤ max s.now t) :=
  ⟨sec 1, 0, setPlane 0 (fun x => { x with failed := true, declaredAt := 0 }) (setPlane 1 (fun x => { x with failed := false }) wState), by decide +kernel⟩

theorem wit_SafeOpeningAndMessages_24 : ∃ (t p : Nat) (s : State), (s.saf.singlePlane = some p) ∧ ((planeOf s p).failed = false) ∧ ((planeOf s p).declaredAt + sec 1 ≤ max s.now t) :=
  ⟨sec 1, 0, setPlane 0 (fun x => { x with failed := false, declaredAt := 0 }) { wState with saf.singlePlane := some 0 }, by decide +kernel⟩

theorem wit_SafeOpeningAndMessages_25 : ∃ (t : Nat) (s : State), (s.saf.singlePlane = none) :=
  ⟨0, wState, by decide⟩

/-! ## SafetyResetAndSets -/

theorem wit_SafetyResetAndSets_1 : ∃ (t m : Nat) (s : State), (Pend s m Cmd.safeStatus []) :=
  ⟨0, 0, withReq 0 Cmd.safeStatus [] wState, by decide⟩

theorem wit_SafetyResetAndSets_2 : ∃ (t m : Nat) (s : State), (Pend s m Cmd.safeCounters []) :=
  ⟨0, 0, withReq 0 Cmd.safeCounters [] wState, by decide⟩

theorem wit_SafetyResetAndSets_3 : ∃ (t m c : Nat) (s : State), (Pend s m Cmd.safeReset []) ∧ (resetBlock (begun t m s) = some c) :=
  ⟨0, 0, Ev.sf1, withReq 0 Cmd.safeReset [] { wState with saf.present := [Ev.sf1] }, by decide +kernel⟩

theorem wit_SafetyResetAndSets_4 : ∃ (t m : Nat) (s : State), (Pend s m Cmd.safeReset []) ∧ (resetBlock (begun t m s) = none) ∧ (s.saf.recheck = none) ∧ (tripOutClosed s = true) ∧ (s.saf.tripInOpen = false) ∧ (s.saf.latched.contains Ev.tripInOpen = false) :=
  ⟨0, 0, withReq 0 Cmd.safeReset [] { wState with saf.tripOutSp := true, saf.tripOutDome := true, saf.force := List.replicate 15 0 }, by decide +kernel⟩

theorem wit_SafetyResetAndSets_5 : ∃ (t m : Nat) (s : State), (Pend s m Cmd.safeReset []) ∧ (resetBlock (begun t m s) = none) ∧ (s.saf.recheck = none) ∧ (tripOutClosed s = false) :=
  ⟨0, 0, withReq 0 Cmd.safeReset [] { wState with saf.tripOutSp := false, saf.force := List.replicate 15 0 }, by decide +kernel⟩

theorem wit_SafetyResetAndSets_6 : ∃ (t a m : Nat) (s : State), (s.saf.recheck = some (a, m)) ∧ (max s.now t < a + ms 20) :=
  ⟨0, 0, 0, { wState with saf.recheck := some (0, 0) }, by decide⟩

theorem wit_SafetyResetAndSets_7 : ∃ (t a m c : Nat) (s : State), (s.saf.recheck = some (a, m)) ∧ (a + ms 20 ≤ max s.now t) ∧ (resetBlock { (clocked t s) with saf.recheck := none } = some c) :=
  ⟨ms 20, 0, 0, Ev.sf1, { wState with saf.recheck := some (0, 0), saf.present := [Ev.sf1] }, by decide +kernel⟩

theorem wit_SafetyResetAndSets_8 : ∃ (t a m : Nat) (s : State), (s.saf.recheck = some (a, m)) ∧ (a + ms 20 ≤ max s.now t) ∧ (resetBlock { (clocked t s) with saf.recheck := none } = none) ∧ (s.saf.tripInOpen = true) :=
  ⟨ms 20, 0, 0, { wState with saf.recheck := some (0, 0), saf.tripInOpen := true, saf.force := List.replicate 15 0 }, by decide +kernel⟩

theorem wit_SafetyResetAndSets_9 : ∃ (t a m : Nat) (s : State), (s.saf.recheck = some (a, m)) ∧ (a + ms 20 ≤ max s.now t) ∧ (resetBlock { (clocked t s) with saf.recheck := none } = none) ∧ (s.saf.tripInOpen = false) :=
  ⟨ms 20, 0, 0, { wState with saf.recheck := some (0, 0), saf.force := List.replicate 15 0 }, by decide +kernel⟩

theorem wit_SafetyResetAndSets_11 : ∃ (t a : Nat) (s : State), (s.saf.ackAt = some a) ∧ (a + sec 600 ≤ max s.now t) :=
  ⟨sec 600, 0, { wState with saf.ackAt := some 0 }, by decide⟩

theorem wit_SafetyResetAndSets_12 : ∃ (t : Nat) (s : State), (s.saf.ackAt = none) :=
  ⟨0, wState, by decide⟩

theorem wit_SafetyResetAndSets_13 : ∃ (t n : Nat) (on : Bool) (s : State), (n < 8) ∧ (s.saf.sealsNow.getLsbD n ≠ on) ∧ (n ≠ 4) ∧ (n ≠ 5) :=
  ⟨0, 0, true, { wState with saf.sealsNow := 0 }, by decide⟩

theorem wit_SafetyResetAndSets_14 : ∃ (t : Nat) (on : Bool) (s : State), (s.saf.sealsNow.getLsbD 4 ≠ on) :=
  ⟨0, true, { wState with saf.sealsNow := 0 }, by decide⟩

theorem wit_SafetyResetAndSets_15 : ∃ (t : Nat) (on : Bool) (s : State), (s.saf.sealsNow.getLsbD 5 ≠ on) :=
  ⟨0, true, { wState with saf.sealsNow := 0 }, by decide⟩

theorem wit_SafetyResetAndSets_16 : ∃ (t n : Nat) (on : Bool) (s : State), (s.saf.sealsNow.getLsbD n = on) :=
  ⟨0, 0, false, { wState with saf.sealsNow := 0 }, by decide⟩

theorem wit_SafetyResetAndSets_17 : ∃ (t m : Nat) (b : List Byte) (s : State), (Pend s m Cmd.safeSetRead b) ∧ (b.length = 1) ∧ (byteAt b 0 ≤ 15) :=
  ⟨0, 0, [0], withReq 0 Cmd.safeSetRead [0] wState, by decide +kernel⟩

theorem wit_SafetyResetAndSets_18 : ∃ (t m : Nat) (b : List Byte) (s : State), (Pend s m Cmd.safeSetConfirm b) ∧ (b.length = 5) ∧ (byteAt b 0 ≤ 15) ∧ (leAt b 1 4 = setCrc (setOf s (byteAt b 0))) :=
  ⟨0, 0, (0 :: leBytes 4 (setCrc (setOf wState 0))), withReq 0 Cmd.safeSetConfirm (0 :: leBytes 4 (setCrc (setOf wState 0))) wState, by decide +kernel⟩

theorem wit_SafetyResetAndSets_19 : ∃ (t m : Nat) (b : List Byte) (s : State), (Pend s m Cmd.safeSetConfirm b) ∧ (b.length = 5) ∧ (byteAt b 0 ≤ 15) ∧ (leAt b 1 4 ≠ setCrc (setOf s (byteAt b 0))) :=
  ⟨0, 0, (0 :: leBytes 4 (setCrc (setOf wState 0) + 1)), withReq 0 Cmd.safeSetConfirm (0 :: leBytes 4 (setCrc (setOf wState 0) + 1)) wState, by decide +kernel⟩

/-! ## ContactorFeedback -/

theorem wit_ContactorFeedback_1 : ∃ (t n : Nat) (lv : Bool) (vs vl : Int) (s : State), (n < 4) ∧ (lv ≠ bitOf (prmN s Prm.kfPolarity) n) ∧ ((coil s n).kf = false) :=
  ⟨0, 0, true, 0, 0, wState, by decide +kernel⟩

theorem wit_ContactorFeedback_2 : ∃ (t n : Nat) (lv : Bool) (vs vl : Int) (s : State), (n < 4) ∧ (lv = bitOf (prmN s Prm.kfPolarity) n) ∧ ((coil s n).kf = true) :=
  ⟨0, 0, false, 0, 0, setCoil 0 (fun c => { c with kf := true }) wState, by decide +kernel⟩

theorem wit_ContactorFeedback_3 : ∃ (t n held : Nat) (s : State), (kfUnchecked s n = false) ∧ (s.pair.standby = false) ∧ (ms 5 ≤ held) ∧ ((coil s n).request = true) ∧ ((coil s n).confirmed = true) ∧ ((coil s n).kf = false) ∧ ((coil s n).hs = (coil s n).ls) ∧ (n ≠ 2) :=
  ⟨0, 0, ms 5, setCoil 0 (fun c => { c with request := true, confirmed := true }) wState, by decide +kernel⟩

theorem wit_ContactorFeedback_4 : ∃ (t held : Nat) (j : ConnJob) (s : State), (kfUnchecked s 2 = false) ∧ (s.pair.standby = false) ∧ (ms 5 ≤ held) ∧ ((coil s 2).request = true) ∧ ((coil s 2).confirmed = true) ∧ ((coil s 2).kf = false) ∧ ((coil s 2).hs = (coil s 2).ls) ∧ (s.con.conn = some j) ∧ (j.step = .precharge) :=
  ⟨0, ms 5, ⟨true, none, .precharge, true, 0, 0, 0, 0, false, false, none, none⟩, { setCoil 2 (fun c => { c with request := true, confirmed := true }) wState with con.conn := some ⟨true, none, .precharge, true, 0, 0, 0, 0, false, false, none, none⟩ }, by decide +kernel⟩

theorem wit_ContactorFeedback_5 : ∃ (t n held : Nat) (s : State), (held < ms 5 ∨ (coil s n).kf = true ∨ (coil s n).pulse = none ∧ (coil s n).hs ≠ (coil s n).ls) :=
  ⟨0, 0, 0, wState, by decide⟩

theorem wit_ContactorFeedback_6 : ∃ (t n : Nat) (s : State), (kfUnchecked s n = false) ∧ ((coil s n).request = true) ∧ ((coil s n).confirmed = false) ∧ ((coil s n).kf = false) ∧ ((coil s n).onAt + ms (prmN s Prm.kfCloseTime) ≤ max s.now t) ∧ (s.con.conn.isSome = true) :=
  ⟨sec 10, 0, { setCoil 0 (fun c => { c with request := true }) wState with con.conn := some ⟨true, none, .precharge, true, 0, 0, 0, 0, false, false, none, none⟩ }, by decide +kernel⟩

theorem wit_ContactorFeedback_7 : ∃ (t n : Nat) (s : State), (kfUnchecked s n = false) ∧ ((coil s n).request = true) ∧ ((coil s n).confirmed = false) ∧ ((coil s n).kf = false) ∧ ((coil s n).onAt + ms (prmN s Prm.kfCloseTime) ≤ max s.now t) ∧ (s.con.conn = none) :=
  ⟨sec 10, 0, setCoil 0 (fun c => { c with request := true }) wState, by decide +kernel⟩

theorem wit_ContactorFeedback_8 : ∃ (t n held : Nat) (s : State), (kfUnchecked s n = false) ∧ (checksContactors s = true) ∧ ((coil s n).welded = false) ∧ ((coil s n).request = false) ∧ (energised (coil s n) = false) ∧ ((coil s n).kf = true) ∧ ((coil s n).ever = true) ∧ ((coil s n).offAt + ms (prmN s Prm.kfOpenTime) ≤ max s.now t) :=
  ⟨sec 10, 0, 0, setCoil 0 (fun c => { c with kf := true, ever := true }) wState, by decide +kernel⟩

theorem wit_ContactorFeedback_9 : ∃ (t n held : Nat) (s : State), (kfUnchecked s n = false) ∧ (checksContactors s = true) ∧ ((coil s n).welded = false) ∧ ((coil s n).request = false) ∧ (energised (coil s n) = false) ∧ ((coil s n).kf = true) ∧ ((coil s n).ever = false) ∧ (ms 5 ≤ held) ∧ (otherClosed s n = false) :=
  ⟨0, 0, ms 5, setCoil 0 (fun c => { c with kf := true }) wState, by decide +kernel⟩

theorem wit_ContactorFeedback_10 : ∃ (t n : Nat) (s : State), ((coil s n).pullIn = true) ∧ ((coil s n).onAt + ms (prmN s Prm.kPullin) ≤ max s.now t) :=
  ⟨sec 1, 0, setCoil 0 (fun c => { c with pullIn := true }) wState, by decide +kernel⟩

theorem wit_ContactorFeedback_11 : ∃ (t n ma held : Nat) (s : State), (n < 4) ∧ (6000 ≤ ma) ∧ (ms 1 ≤ held) ∧ ((coil s n).overcurrent = false) :=
  ⟨0, 0, 6000, ms 1, wState, by decide +kernel⟩

theorem wit_ContactorFeedback_12 : ∃ (t n ma held : Nat) (s : State), (n < 4) ∧ (ma < 6000) :=
  ⟨0, 0, 0, 0, wState, by decide⟩

theorem wit_ContactorFeedback_13 : ∃ (t n ma held : Nat) (s : State), (n < 4) ∧ (driven (coil (setCoil n (fun c => { c with coilMa := ma }) s) n) = true) ∧ ((coil (setCoil n (fun c => { c with coilMa := ma }) s) n).pullIn = false) ∧ ((coil (setCoil n (fun c => { c with coilMa := ma }) s) n).coilOpen = false) ∧ (ma < 50) ∧ (ms 100 ≤ held) :=
  ⟨0, 0, 0, ms 100, setCoil 0 (fun c => { c with request := true, hs := true, ls := true }) wState, by decide +kernel⟩

theorem wit_ContactorFeedback_14 : ∃ (t mv held : Nat) (s : State), (mv < 18000) ∧ (ms 10 ≤ held) ∧ (s.con.supplyLow = false) :=
  ⟨0, 0, ms 10, wState, by decide⟩

theorem wit_ContactorFeedback_15 : ∃ (t mv held : Nat) (s : State), (18000 ≤ mv) :=
  ⟨0, 18000, 0, wState, by decide⟩

theorem wit_ContactorFeedback_16 : ∃ (t n : Nat) (s : State), (pulseBarred (clocked t s) n = true ∨ atSlot (clocked t s) n = false) :=
  ⟨0, 4, wState, by decide +kernel⟩

theorem wit_ContactorFeedback_17 : ∃ (t n : Nat) (s : State), (pulseBarred (clocked t s) n = false) ∧ (atSlot (clocked t s) n = true) ∧ ((coil s n).hs = true) ∧ ((coil s n).ls = true) :=
  ⟨0, 0, setCoil 0 (fun c => { c with request := true, hs := true, ls := true }) wState, by decide +kernel⟩

theorem wit_ContactorFeedback_18 : ∃ (t n : Nat) (s : State), (pulseBarred (clocked t s) n = false) ∧ (atSlot (clocked t s) n = true) ∧ ((coil s n).hs = false) ∧ ((coil s n).ls = false) ∧ ((coil s n).request = false) ∧ (s.saf.spDemand = false) ∧ (s.saf.domeDemand = false) ∧ ((coil s n).faultHs = false) ∧ ((coil s n).faultLs = false) :=
  ⟨0, 0, wState, by decide +kernel⟩

theorem wit_ContactorFeedback_19 : ∃ (t n mv ma : Nat) (p : OutPulse) (s : State), ((coil s n).pulse = some p) ∧ (p.off = true) ∧ (max s.now t ≤ p.since + us 200) ∧ (pulseConfirmed s p mv ma = true) :=
  ⟨0, 0, 12000, 0, ⟨true, true, 0⟩, setCoil 0 (fun c => { c with pulse := some ⟨true, true, 0⟩ }) wState, by decide⟩

theorem wit_ContactorFeedback_20 : ∃ (t n mv ma : Nat) (p : OutPulse) (s : State), ((coil s n).pulse = some p) ∧ (p.off = false) ∧ (p.since + us 100 ≤ max s.now t) ∧ (pulseConfirmed s p mv ma = false) :=
  ⟨us 100, 0, 20000, 0, ⟨true, false, 0⟩, setCoil 0 (fun c => { c with pulse := some ⟨true, false, 0⟩ }) wState, by decide⟩

theorem wit_ContactorFeedback_21 : ∃ (t n mv ma : Nat) (p : OutPulse) (s : State), ((coil s n).pulse = some p) ∧ (p.off = true) ∧ (p.since + us 300 ≤ max s.now t) ∧ (pulseConfirmed s p mv ma = false) :=
  ⟨us 300, 0, 0, 0, ⟨true, true, 0⟩, setCoil 0 (fun c => { c with pulse := some ⟨true, true, 0⟩ }) wState, by decide⟩

theorem wit_ContactorFeedback_22 : ∃ (t n a b : Nat) (s : State), (n < 4) ∧ ((coil s n).hs = false) ∧ ((coil s n).ls = false) ∧ ((coil s n).pulse = none) ∧ (12000 ≤ a) ∧ (12000 ≤ b) :=
  ⟨0, 0, 12000, 12000, wState, by decide⟩

theorem wit_ContactorFeedback_23 : ∃ (t n a b : Nat) (s : State), (n < 4) ∧ ((coil s n).hs = false) ∧ ((coil s n).ls = false) ∧ ((coil s n).pulse = none) ∧ (a ≤ 2000) ∧ ((coil s n).faultHs = false) :=
  ⟨0, 0, 0, 20000, wState, by decide⟩

/-! ## ConnectAndPrecharge -/

theorem wit_ConnectAndPrecharge_1 : ∃ (t m : Nat) (vs vl : Int) (b : List Byte) (g : Reply) (s : State), (Pend s m Cmd.connect b) ∧ (b.length = 1) ∧ (byteAt b 0 = 4 ∨ byteAt b 0 = 5) ∧ (connectBlock { (begun t m s) with con.vStr := vs, con.vLnk := vl } = some g) :=
  ⟨0, 0, 0, 0, [4], guardReply Ev.setUnconfirmed, withReq 0 Cmd.connect [4] wState, by decide +kernel⟩

theorem wit_ConnectAndPrecharge_2 : ∃ (t m : Nat) (vs vl : Int) (b : List Byte) (s : State), (Pend s m Cmd.connect b) ∧ (b.length = 1) ∧ (byteAt b 0 = 4 ∨ byteAt b 0 = 5) ∧ (connectBlock { (begun t m s) with con.vStr := vs, con.vLnk := vl } = none) :=
  ⟨0, 0, 3200, 0, [4], withReq 0 Cmd.connect [4] cState, by decide +kernel, by decide +kernel, by decide +kernel, by
    have h : activeUsable { begun 0 0 (withReq 0 Cmd.connect [4] cState) with con.vStr := 3200, con.vLnk := 0 } = true := zeroSet_usable
    unfold connectBlock otherGuards
    rw [h]
    decide +kernel⟩

theorem wit_ConnectAndPrecharge_3 : ∃ (t m : Nat) (vs vl : Int) (b : List Byte) (s : State), (Pend s m Cmd.connect b) ∧ (b.length = 1) ∧ (byteAt b 0 ≠ 4) ∧ (byteAt b 0 ≠ 5) :=
  ⟨0, 0, 0, 0, [0], withReq 0 Cmd.connect [0] wState, by decide⟩

theorem wit_ConnectAndPrecharge_4 : ∃ (t : Nat) (vl : Int) (j : ConnJob) (s : State), (s.con.conn = some j) ∧ (j.step = .precharge) ∧ (j.half = false) ∧ (j.origin + preTau s / 2 ≤ max s.now t) ∧ (fractionAtLeast j vl 25 = true) :=
  ⟨sec 100, 500, ⟨true, none, .precharge, true, 0, 0, 0, 1000, false, false, none, none⟩, { wState with con.conn := some ⟨true, none, .precharge, true, 0, 0, 0, 1000, false, false, none, none⟩ }, by decide +kernel⟩

theorem wit_ConnectAndPrecharge_5 : ∃ (t : Nat) (vl : Int) (j : ConnJob) (s : State), (s.con.conn = some j) ∧ (j.step = .precharge) ∧ (j.half = false) ∧ (j.origin + preTau s / 2 ≤ max s.now t) ∧ (fractionAtLeast j vl 25 = false) :=
  ⟨sec 100, 0, ⟨true, none, .precharge, true, 0, 0, 0, 1000, false, false, none, none⟩, { wState with con.conn := some ⟨true, none, .precharge, true, 0, 0, 0, 1000, false, false, none, none⟩ }, by decide +kernel⟩

theorem wit_ConnectAndPrecharge_6 : ∃ (t : Nat) (vl : Int) (j : ConnJob) (s : State), (s.con.conn = some j) ∧ (j.step = .precharge) ∧ (j.half = true) ∧ (j.origin + 3 * preTau s ≤ max s.now t) ∧ (fractionAtLeast j vl 90 = true) :=
  ⟨sec 100, 1000, ⟨true, none, .precharge, true, 0, 0, 0, 1000, false, true, none, none⟩, { wState with con.conn := some ⟨true, none, .precharge, true, 0, 0, 0, 1000, false, true, none, none⟩ }, by decide +kernel⟩

theorem wit_ConnectAndPrecharge_7 : ∃ (t : Nat) (vl : Int) (j : ConnJob) (s : State), (s.con.conn = some j) ∧ (j.step = .precharge) ∧ (j.half = true) ∧ (j.origin + 3 * preTau s ≤ max s.now t) ∧ (fractionAtLeast j vl 90 = false) :=
  ⟨sec 100, 0, ⟨true, none, .precharge, true, 0, 0, 0, 1000, false, true, none, none⟩, { wState with con.conn := some ⟨true, none, .precharge, true, 0, 0, 0, 1000, false, true, none, none⟩ }, by decide +kernel⟩

theorem wit_ConnectAndPrecharge_8 : ∃ (t : Nat) (vs vl : Int) (s : State), ((coil s 2).kf = true) :=
  ⟨0, 0, 0, setCoil 2 (fun c => { c with kf := true }) wState, by decide⟩

theorem wit_ConnectAndPrecharge_9 : ∃ (t : Nat) (vs vl : Int) (s : State), ((coil s 2).kf = false) :=
  ⟨0, 0, 0, wState, by decide⟩

theorem wit_ConnectAndPrecharge_10 : ∃ (t : Nat) (j : ConnJob) (s : State), (s.con.conn = some j) ∧ (j.step = .overlap) ∧ (j.since + ms (prmN s Prm.k3Overlap) ≤ max s.now t) :=
  ⟨sec 100, ⟨true, none, .overlap, true, 0, 0, 0, 1000, false, true, none, none⟩, { wState with con.conn := some ⟨true, none, .overlap, true, 0, 0, 0, 1000, false, true, none, none⟩ }, by decide +kernel⟩

theorem wit_ConnectAndPrecharge_11 : ∃ (t : Nat) (s : State), (s.disp.ending ≠ 0) ∧ (currentBelow s = true) :=
  ⟨0, { wState with disp.ending := 1, ctrl.shunt := some 0, mbx.params := [(Prm.iRated, 1000)] }, by decide +kernel⟩

theorem wit_ConnectAndPrecharge_12 : ∃ (t : Nat) (s : State), (s.disp.ending = 0) :=
  ⟨0, wState, by decide⟩

theorem wit_ConnectAndPrecharge_13 : ∃ (t m : Nat) (s : State), (Pend s m Cmd.disconnect []) ∧ (s.con.opening = none) ∧ (s.disp.ending = 0) :=
  ⟨0, 0, withReq 0 Cmd.disconnect [] wState, by decide⟩

theorem wit_ConnectAndPrecharge_14 : ∃ (t m : Nat) (s : State), (Pend s m Cmd.disconnect []) ∧ (s.con.opening ≠ none ∨ s.disp.ending ≠ 0) :=
  ⟨0, 0, withReq 0 Cmd.disconnect [] { wState with disp.ending := 1 }, by decide⟩

theorem wit_ConnectAndPrecharge_15 : ∃ (t m : Nat) (s : State), (Pend s m Cmd.outStatus []) :=
  ⟨0, 0, withReq 0 Cmd.outStatus [] wState, by decide⟩

theorem wit_ConnectAndPrecharge_16 : ∃ (t m : Nat) (s : State), (Pend s m Cmd.preHistory []) :=
  ⟨0, 0, withReq 0 Cmd.preHistory [] wState, by decide⟩

theorem wit_ConnectAndPrecharge_17 : ∃ (t m : Nat) (s : State), (Pend s m Cmd.preModelReset []) ∧ (s.thm.forbid = false) :=
  ⟨0, 0, withReq 0 Cmd.preModelReset [] wState, by decide⟩

/-! ## MailboxEnvelopes -/

theorem wit_MailboxEnvelopes_1 : ∃ (t : Nat) (src : Source) (dst : Nat) (env : List Byte) (s : State), (reaches s src dst = false) :=
  ⟨0, .fabric 1, 7, [], State.reset, by decide⟩

theorem wit_MailboxEnvelopes_2 : ∃ (t : Nat) (src : Source) (dst : Nat) (env : List Byte) (s : State), (mbxServed s (countedOn src (byteAt env 1)) = false) :=
  ⟨0, .tw, 0, [], State.reset, by decide⟩

theorem wit_MailboxEnvelopes_3 : ∃ (t : Nat) (src : Source) (dst : Nat) (env : List Byte) (s : State), (reaches s src dst = true) ∧ (mbxServed s (countedOn src (byteAt env 1)) = true) ∧ (pathServes src (byteAt env 1) = false ∨ env.length < 2 ∨ byteAt env 0 ≠ 1) :=
  ⟨0, .tw, 0, [], wState, by decide⟩

theorem wit_MailboxEnvelopes_4 : ∃ (t : Nat) (src : Source) (dst : Nat) (env : List Byte) (s : State), (reaches s src dst = false) :=
  ⟨0, .fabric 1, 7, [], State.reset, by decide⟩

theorem wit_MailboxEnvelopes_5 : ∃ (t : Nat) (src : Source) (dst : Nat) (env : List Byte) (s : State), (mbxServed s (countedOn src (byteAt env 1)) = false) :=
  ⟨0, .tw, 0, [], State.reset, by decide⟩

theorem wit_MailboxEnvelopes_6 : ∃ (t : Nat) (src : Source) (dst : Nat) (env : List Byte) (s : State), (reaches s src dst = true) ∧ (mbxServed s (countedOn src (byteAt env 1)) = true) ∧ (pathServes src (byteAt env 1) = false ∨ env.length < 2 ∨ byteAt env 0 ≠ 2) :=
  ⟨0, .tw, 0, [], wState, by decide⟩

theorem wit_MailboxEnvelopes_7 : ∃ (t : Nat) (src : Source) (dst : Nat) (env : List Byte) (s : State), (reaches s src dst = false) :=
  ⟨0, .fabric 1, 7, [], State.reset, by decide⟩

theorem wit_MailboxEnvelopes_8 : ∃ (t : Nat) (src : Source) (dst : Nat) (env : List Byte) (s : State), (mbxServed s (countedOn src (byteAt env 1)) = false) :=
  ⟨0, .tw, 0, [], State.reset, by decide⟩

theorem wit_MailboxEnvelopes_9 : ∃ (t : Nat) (src : Source) (dst : Nat) (env : List Byte) (s : State), (reaches s src dst = true) ∧ (mbxServed s (countedOn src (byteAt env 1)) = true) ∧ (pathServes src (byteAt env 1) = false ∨ env.length < 2 ∨ byteAt env 0 ≠ 3) :=
  ⟨0, .tw, 0, [], wState, by decide⟩

theorem wit_MailboxEnvelopes_10 : ∃ (t : Nat) (src : Source) (dst : Nat) (env : List Byte) (s : State), (reaches s src dst = true) ∧ (mbxServed s (countedOn src (byteAt env 1)) = true) ∧ (pathServes src (byteAt env 1) = true) ∧ (2 ≤ env.length) ∧ (byteAt env 0 = 1) ∧ (fixedAddr s (byteAt env 1) = 0) ∧ ((mbxOf s (byteAt env 1)).bound = none) ∧ ((mbxOf s (byteAt env 1)).phase ≠ .pending) :=
  ⟨0, .tw, 0, [1, 7] ++ ([0, 0, 0, 0, 0, 0, 0, 0] : List Byte), { wState with core.booting := false, core.spireUp := true, fab.node := 5 }, by decide +kernel⟩

theorem wit_MailboxEnvelopes_11 : ∃ (t : Nat) (src b : Source) (dst : Nat) (env : List Byte) (s : State), (reaches s src dst = true) ∧ (mbxServed s (countedOn src (byteAt env 1)) = true) ∧ (pathServes src (byteAt env 1) = true) ∧ (2 ≤ env.length) ∧ (byteAt env 0 = 1) ∧ (boundSource s (byteAt env 1) = some b) ∧ (b ≠ src) :=
  ⟨0, .fabric 5, .fabric 6, 5, [1, 0] ++ ([0, 0, 0, 0, 0, 0, 0, 0] : List Byte), setMbx 0 (fun b => { b with bound := some (.fabric 6, 1) }) ({ wState with core.booting := false, core.spireUp := true, fab.node := 5 }), by decide +kernel⟩

theorem wit_MailboxEnvelopes_12 : ∃ (t : Nat) (src : Source) (dst : Nat) (env : List Byte) (s : State), (reaches s src dst = true) ∧ (mbxServed s (countedOn src (byteAt env 1)) = true) ∧ (pathServes src (byteAt env 1) = true) ∧ (2 ≤ env.length) ∧ (byteAt env 0 = 1) ∧ ((mbxOf s (byteAt env 1)).bound.map (·.1) = some src) ∧ (boundSource s (byteAt env 1) = some src) ∧ ((mbxOf s (byteAt env 1)).phase = .pending) ∧ (isRepeat (mbxOf s (byteAt env 1)) (parseRequest (env.drop 2)) = false) :=
  ⟨0, .fabric 1, 5, [1, 0] ++ ([0, 0, 0, 0, 0, 0, 0, 0] : List Byte), withReq 0 Cmd.identify [] ({ wState with core.booting := false, core.spireUp := true, fab.node := 5 }), by decide +kernel⟩

theorem wit_MailboxEnvelopes_13 : ∃ (m : Nat) (src : Source) (r : Request) (s : State), (m < 7) ∧ (r.command ≠ Cmd.spSet) ∧ (r.flags = 0) :=
  ⟨0, .fabric 1, { command := 6, seq := 1, flags := 0, pad := 0, length := 0, payload := [], auth := [] }, wState, by decide⟩

theorem wit_MailboxEnvelopes_14 : ∃ (m : Nat) (body : List Byte) (s : State), (checkRequest s m body { parseRequest body with str := s.mbx.viaStr } = none) :=
  ⟨7, [4, 0, 0, 0, 0, 0, 0, 0], { wState with core.booting := false, core.spireUp := true, fab.node := 5 }, by decide +kernel⟩

theorem wit_MailboxEnvelopes_15 : ∃ (m : Nat) (body : List Byte) (x : Reply) (s : State), (checkRequest s m body { parseRequest body with str := s.mbx.viaStr } = some x) ∧ ((parseRequest body).command ≠ Cmd.spSet) :=
  ⟨7, [], lengthReply, { wState with core.booting := false, core.spireUp := true, fab.node := 5 }, by decide +kernel⟩

theorem wit_MailboxEnvelopes_16 : ∃ (t : Nat) (src : Source) (dst : Nat) (env : List Byte) (h : Response) (s : State), (reaches s src dst = true) ∧ (mbxServed s (countedOn src (byteAt env 1)) = true) ∧ (pathServes src (byteAt env 1) = true) ∧ (2 ≤ env.length) ∧ (byteAt env 0 = 2) ∧ (boundSource s (byteAt env 1) = some src) ∧ ((mbxOf s (byteAt env 1)).phase = .holding) ∧ ((mbxOf s (byteAt env 1)).held = some h) :=
  ⟨0, .fabric 1, 5, [2, 0], { reply := doneReply, mode := .watch, seq := 3, readCount := 1 }, setMbx 0 (fun b => { b with phase := .holding, bound := some (.fabric 1, 1), held := some { reply := doneReply, mode := .watch, seq := 3, readCount := 1 } }) ({ wState with core.booting := false, core.spireUp := true, fab.node := 5 }), by decide +kernel⟩

theorem wit_MailboxEnvelopes_17 : ∃ (t : Nat) (src b : Source) (dst : Nat) (env : List Byte) (s : State), (reaches s src dst = true) ∧ (mbxServed s (countedOn src (byteAt env 1)) = true) ∧ (pathServes src (byteAt env 1) = true) ∧ (2 ≤ env.length) ∧ (byteAt env 0 = 2) ∧ (boundSource s (byteAt env 1) = some b) ∧ (b ≠ src) :=
  ⟨0, .fabric 2, .fabric 1, 5, [2, 0], setMbx 0 (fun b => { b with phase := .holding, bound := some (.fabric 1, 1), held := some { reply := doneReply, mode := .watch, seq := 3, readCount := 1 } }) ({ wState with core.booting := false, core.spireUp := true, fab.node := 5 }), by decide +kernel⟩

theorem wit_MailboxEnvelopes_18 : ∃ (t : Nat) (src : Source) (dst : Nat) (env : List Byte) (h : Response) (s : State), (reaches s src dst = true) ∧ (mbxServed s (countedOn src (byteAt env 1)) = true) ∧ (pathServes src (byteAt env 1) = true) ∧ (2 ≤ env.length) ∧ (byteAt env 0 = 3) ∧ (boundSource s (byteAt env 1) = some src) ∧ ((mbxOf s (byteAt env 1)).phase = .holding) ∧ ((mbxOf s (byteAt env 1)).held = some h) ∧ (h.seq = leAt env 2 2) :=
  ⟨0, .fabric 1, 5, [3, 0, 3, 0], { reply := doneReply, mode := .watch, seq := 3, readCount := 1 }, setMbx 0 (fun b => { b with phase := .holding, bound := some (.fabric 1, 1), held := some { reply := doneReply, mode := .watch, seq := 3, readCount := 1 } }) ({ wState with core.booting := false, core.spireUp := true, fab.node := 5 }), by decide +kernel⟩

theorem wit_MailboxEnvelopes_19 : ∃ (t m : Nat) (r : Reply) (q : Request) (s : State), ((mbxOf s m).phase = .pending) ∧ ((mbxOf s m).result = some r) ∧ ((mbxOf s m).req = some q) ∧ (s.core.spireUp = true) :=
  ⟨0, 0, doneReply, { command := 6, seq := 1, flags := 0, pad := 0, length := 0, payload := [], auth := [] }, setMbx 0 (fun b => { b with phase := .pending, result := some doneReply, req := some { command := 6, seq := 1, flags := 0, pad := 0, length := 0, payload := [], auth := [] } }) ({ wState with core.booting := false, core.spireUp := true, fab.node := 5 }), by decide +kernel⟩

theorem wit_MailboxEnvelopes_20 : ∃ (m : Nat) (q : Request) (s : State), (q.command ≠ Cmd.mbxRelease) ∧ (s.fab.nextNode = none) :=
  ⟨0, { command := 6, seq := 1, flags := 0, pad := 0, length := 0, payload := [], auth := [] }, wState, by decide⟩

theorem wit_MailboxEnvelopes_21 : ∃ (t m : Nat) (s : State), (m < 7) ∧ (fixedAddr s m = 0) ∧ ((mbxOf s m).phase = .empty) ∧ ((mbxOf s m).bound.isSome = true) ∧ ((mbxOf s m).emptySince + sec (prmN s Prm.mbxIdleRelease) ≤ max s.now t) :=
  ⟨sec 100000, 0, setMbx 0 (fun b => { b with bound := some (.fabric 1, 1) }) wState, by decide +kernel⟩

theorem wit_MailboxEnvelopes_22 : ∃ (t f : Nat) (s : State), ((fnOf s f).owner.isSome = true) ∧ ((fnOf s f).stagedAt + sec 600 ≤ max s.now t) :=
  ⟨sec 600, 7, setFn 7 (fun x => { x with owner := some 1, stagedAt := 0 }) wState, by decide⟩

/-! ## StagingAndFunctions -/

theorem wit_StagingAndFunctions_1 : ∃ (t m f : Nat) (s : State), (Pend s m (256 * f + 0) []) :=
  ⟨0, 0, 7, withReq 0 0x0700 [] wState, by decide⟩

theorem wit_StagingAndFunctions_2 : ∃ (t m f : Nat) (p : List Byte) (s : State), (Pend s m (256 * f + 2) p) ∧ (p.length = 1 + 6 * byteAt p 0) ∧ (f ≠ 8 ∨ stopped s 8 = true) ∧ (1 ≤ byteAt p 0) ∧ (byteAt p 0 ≤ 64) ∧ (∀ e ∈ stageEntries p, e.1 / 256 = f ∧ inRange e.1 (valueOf e.1 e.2) = true) ∧ (commonGuard s f m true = none) :=
  ⟨0, 0, 7, (1 :: leBytes 2 Prm.spRamp ++ leBytes 4 (paramDefault Prm.spRamp).toNat), withReq 0 0x0702 (1 :: leBytes 2 Prm.spRamp ++ leBytes 4 (paramDefault Prm.spRamp).toNat) wState, by decide +kernel⟩

theorem wit_StagingAndFunctions_3 : ∃ (t m f : Nat) (p : List Byte) (e : Nat × Nat) (l : List (Nat × Nat)) (s : State), (Pend s m (256 * f + 2) p) ∧ (p.length = 1 + 6 * byteAt p 0) ∧ (f ≠ 8 ∨ stopped s 8 = true) ∧ (1 ≤ byteAt p 0) ∧ (byteAt p 0 ≤ 64) ∧ (stageEntries p = e :: l) ∧ (e.1 / 256 ≠ f ∨ inRange e.1 (valueOf e.1 e.2) = false) :=
  ⟨0, 0, 7, [1, 0, 0, 0, 0, 0, 0], (0, 0), [], withReq 0 0x0702 [1, 0, 0, 0, 0, 0, 0] wState, by decide +kernel⟩

theorem wit_StagingAndFunctions_4 : ∃ (t m f : Nat) (p : List Byte) (s : State), (Pend s m (256 * f + 4) p) ∧ (p.length = 2 + 2 * byteAt p 1) ∧ (byteAt p 0 ≤ 1) ∧ (1 ≤ byteAt p 1) ∧ (byteAt p 1 ≤ 64) :=
  ⟨0, 0, 7, [0, 1, 0, 7], withReq 0 0x0704 [0, 1, 0, 7] wState, by decide⟩

theorem wit_StagingAndFunctions_5 : ∃ (t m f : Nat) (s : State), (Pend s m (256 * f + 5) []) ∧ (commonGuard s f m true = none) :=
  ⟨0, 0, 7, withReq 0 0x0705 [] wState, by decide +kernel⟩

theorem wit_StagingAndFunctions_6 : ∃ (t m f : Nat) (g : Reply) (s : State), (Pend s m (256 * f + 5) []) ∧ (commonGuard s f m true = some g) :=
  ⟨0, 0, 7, guardReply Ev.stageOwned, withReq 0 0x0705 [] (setFn 7 (fun x => { x with owner := some 3 }) wState), by decide +kernel⟩

theorem wit_StagingAndFunctions_7 : ∃ (t m f : Nat) (s : State), (Pend s m (256 * f + 1) []) ∧ (stopped s f = true) :=
  ⟨0, 0, 7, withReq 0 0x0701 [] (setFn 7 (fun x => { x with state := .stopped }) wState), by decide +kernel⟩

theorem wit_StagingAndFunctions_8 : ∃ (t m f : Nat) (g : Reply) (s : State), (Pend s m (256 * f + 1) []) ∧ (stopped s f = false) ∧ (stopGuard (begun t m s) m f = some g) :=
  ⟨0, 0, 7, guardReply Ev.functionBusy, withReq 0 0x0701 [] (setFn 7 (fun x => { x with busy := some 3 }) wState), by decide +kernel⟩

theorem wit_StagingAndFunctions_9 : ∃ (t m f : Nat) (s : State), (Pend s m (256 * f + 1) []) ∧ (stopped s f = false) ∧ (stopGuard (begun t m s) m f = none) ∧ (f ≠ 2) ∧ (f ≠ 0x14) ∧ (f ≠ 0x0F) ∧ (f ≠ 0x10) :=
  ⟨0, 0, 7, withReq 0 0x0701 [] wState, by decide +kernel⟩

theorem wit_StagingAndFunctions_10 : ∃ (t m f : Nat) (s : State), (Pend s m (256 * f + 3) []) ∧ (running s f = false) ∧ (validate f (begun t m s) = none) ∧ (commonGuard (begun t m s) f m true = none) ∧ (f ≠ 1) ∧ (f ≠ 8) :=
  ⟨0, 0, 7, withReq 0 0x0703 [] (setFn 7 (fun x => { x with state := .stopped }) wState), by decide +kernel⟩

theorem wit_StagingAndFunctions_11 : ∃ (t m f : Nat) (s : State), (Pend s m (256 * f + 3) []) ∧ (running s f = true) :=
  ⟨0, 0, 7, withReq 0 0x0703 [] (setFn 7 (fun x => { x with state := .running }) wState), by decide +kernel⟩

theorem wit_StagingAndFunctions_12 : ∃ (t m f : Nat) (g : Reply) (s : State), (Pend s m (256 * f + 3) []) ∧ (running s f = false) ∧ (validate f (begun t m s) = some g) :=
  ⟨0, 0, 7, paramReply .badArgument Ev.paramRange 0, withReq 0 0x0703 [] (setFn 7 (fun x => { x with state := .stopped, staged := [(0, 0)] }) wState), by decide +kernel⟩

theorem wit_StagingAndFunctions_13 : ∃ (t m f : Nat) (p : List Byte) (s : State), (Pend s m Cmd.commit p) ∧ (p.length = 1) ∧ (byteAt p 0 = f) ∧ (f ≤ 0x14) ∧ (running s f = true) ∧ (stopNeeded (begun t m s) f = none) ∧ (validate f (begun t m s) = none) ∧ (commonGuard (begun t m s) f m true = none) :=
  ⟨0, 0, 7, [7], withReq 0 Cmd.commit [7] (setFn 7 (fun x => { x with state := .running }) wState), by decide +kernel⟩

theorem wit_StagingAndFunctions_14 : ∃ (t m f id : Nat) (p : List Byte) (s : State), (Pend s m Cmd.commit p) ∧ (p.length = 1) ∧ (byteAt p 0 = f) ∧ (f ≤ 0x14) ∧ (running s f = true) ∧ (stopNeeded (begun t m s) f = some id) :=
  ⟨0, 0, 1, Prm.tapsA, [1], withReq 0 Cmd.commit [1] (setFn 1 (fun x => { x with state := .running, staged := [(Prm.tapsA, 1)] }) wState), by decide +kernel⟩

/-! ## CoreCommands -/

theorem wit_CoreCommands_1 : ∃ (t m : Nat) (s : State), (Pend s m Cmd.identify []) :=
  ⟨0, 0, withReq 0 Cmd.identify [] wState, by decide⟩

theorem wit_CoreCommands_2 : ∃ (t m : Nat) (s : State), (Pend s m Cmd.mbxStatus []) :=
  ⟨0, 0, withReq 0 Cmd.mbxStatus [] wState, by decide⟩

theorem wit_CoreCommands_3 : ∃ (t m : Nat) (s : State), (Pend s m Cmd.getChallenge []) ∧ ((mbxOf (begun t m s) m).lockedUntil ≤ max s.now t) :=
  ⟨0, 0, withReq 0 Cmd.getChallenge [] wState, by decide⟩

theorem wit_CoreCommands_4 : ∃ (t m : Nat) (p : List Byte) (s : State), (Pend s m Cmd.mbxRelease p) ∧ (p.length = 1) ∧ (byteAt p 0 < 7) ∧ (fixedAddr s (byteAt p 0) = 0) ∧ (byteAt p 0 ≠ m) :=
  ⟨0, 0, [1], withReq 0 Cmd.mbxRelease [1] wState, by decide +kernel⟩

theorem wit_CoreCommands_5 : ∃ (t m : Nat) (p : List Byte) (s : State), (Pend s m Cmd.mbxRelease p) ∧ (p.length = 1) ∧ (byteAt p 0 < 7) ∧ (fixedAddr s (byteAt p 0) = 0) ∧ (byteAt p 0 = m) :=
  ⟨0, 0, [0], withReq 0 Cmd.mbxRelease [0] wState, by decide +kernel⟩

theorem wit_CoreCommands_6 : ∃ (t m : Nat) (p : List Byte) (s : State), (Pend s m Cmd.keySet p) ∧ (p.length = 33) ∧ (1 ≤ byteAt p 0) ∧ (byteAt p 0 ≤ 3) ∧ (s.core.keyOwner.key = none) ∧ (((p.drop 1).take 32).all (· == 0) = false) ∧ (s.thm.forbid = false) :=
  ⟨0, 0, (1 :: List.replicate 32 7), withReq 0 Cmd.keySet (1 :: List.replicate 32 7) wState, by decide +kernel⟩

theorem wit_CoreCommands_7 : ∃ (t m : Nat) (p : List Byte) (s : State), (Pend s m Cmd.ownerLock p) ∧ (p.length = 1) ∧ (byteAt p 0 ≤ 1) ∧ (s.thm.forbid = false) :=
  ⟨0, 0, [1], withReq 0 Cmd.ownerLock [1] wState, by decide +kernel⟩

theorem wit_CoreCommands_8 : ∃ (t m : Nat) (p : List Byte) (s : State), (Pend s m Cmd.ownerLock p) ∧ (p.length = 1) ∧ (byteAt p 0 ≤ 1) ∧ (s.thm.forbid = true) :=
  ⟨0, 0, [1], withReq 0 Cmd.ownerLock [1] { wState with thm.forbid := true }, by decide +kernel⟩

/-! ## PairHeartbeatsAndCheckpoints -/

theorem wit_PairHeartbeatsAndCheckpoints_1 : ∃ (t : Nat) (s : State), (pairMode s = true) ∧ (s.core.mode ≠ .shelf) ∧ (s.thm.held = false) ∧ (dueAfter (clocked t s) s.pair.hbAt (ms 5) = true) :=
  ⟨0, pState, by decide +kernel⟩

theorem wit_PairHeartbeatsAndCheckpoints_2 : ∃ (t : Nat) (s : State), (pairMode s = false ∨ s.core.mode = .shelf ∨ dueAfter (clocked t s) s.pair.hbAt (ms 5) = false) :=
  ⟨0, wState, by decide⟩

theorem wit_PairHeartbeatsAndCheckpoints_3 : ∃ (t path src : Nat) (id : Bool) (mism : List Nat) (b : List Byte) (s : State), (pairMode s = false ∨ b.length ≠ 32 ∨ byteAt b 0 ≠ 1 ∨ (path ≠ 0 ∧ src ≠ partnerNode s)) :=
  ⟨0, 0, 0, false, [], [], wState, by decide⟩

theorem wit_PairHeartbeatsAndCheckpoints_4 : ∃ (t path src : Nat) (mism : List Nat) (b : List Byte) (s : State), (pairMode s = true) ∧ (s.core.mode ≠ .shelf) ∧ (s.thm.held = false) ∧ (b.length = 32) ∧ (byteAt b 0 = 1) ∧ (path = 0 ∨ src = partnerNode s) ∧ (s.pair.incompatible = false) :=
  ⟨0, 0, 0, [], (1 :: List.replicate 31 0), pState, by decide +kernel⟩

theorem wit_PairHeartbeatsAndCheckpoints_5 : ∃ (t path src : Nat) (mism : List Nat) (b : List Byte) (s : State), (pairMode s = true) ∧ (s.core.mode ≠ .shelf) ∧ (s.thm.held = false) ∧ (b.length = 32) ∧ (byteAt b 0 = 1) ∧ (path = 0 ∨ src = partnerNode s) :=
  ⟨0, 0, 0, [], (1 :: List.replicate 31 0), pState, by decide +kernel⟩

theorem wit_PairHeartbeatsAndCheckpoints_6 : ∃ (t : Nat) (s : State), (pairRuns s = true) ∧ (s.pair.incompatible = false) ∧ (pairSilent (clocked t s) = true) ∧ (fabSilent (clocked t s) = true) ∧ (s.pair.failed = false) :=
  ⟨ms 30, pState, by decide +kernel⟩

theorem wit_PairHeartbeatsAndCheckpoints_7 : ∃ (t : Nat) (s : State), (pairRuns s = true) ∧ (s.pair.incompatible = false) ∧ (pairSilent (clocked t s) = true) ∧ (fabSilent (clocked t s) = false) ∧ (s.pair.degraded = false) :=
  ⟨ms 30, { pState with pair.partner := { hbFab := some (ms 10) } }, by decide +kernel⟩

theorem wit_PairHeartbeatsAndCheckpoints_8 : ∃ (t : Nat) (s : State), (pairRuns s = true) ∧ (s.pair.incompatible = false) ∧ (pairSilent (clocked t s) = false) ∧ (fabSilent (clocked t s) = false) :=
  ⟨0, pState, by decide +kernel⟩

theorem wit_PairHeartbeatsAndCheckpoints_9 : ∃ (t : Nat) (s : State), (pushes s = true) ∧ (dueAfter (clocked t s) s.pair.ckptAt (sec 1) = true) :=
  ⟨0, { pState with pair.role := 8, pair.token := true }, by decide +kernel⟩

theorem wit_PairHeartbeatsAndCheckpoints_10 : ∃ (t : Nat) (s : State), (dueAfter (clocked t s) s.pair.ckptAt (sec 1) = false) :=
  ⟨0, { wState with pair.ckptAt := some 0 }, by decide⟩

theorem wit_PairHeartbeatsAndCheckpoints_11 : ∃ (t : Nat) (b : List Byte) (s : State), (pairRuns s = true) ∧ (s.pair.standby = true) ∧ (s.pair.incompatible = false) :=
  ⟨0, [], { pState with pair.standby := true }, by decide +kernel⟩

theorem wit_PairHeartbeatsAndCheckpoints_12 : ∃ (b : List Byte) (s : State), (blockGood b = false) :=
  ⟨[], wState, by decide⟩

theorem wit_PairHeartbeatsAndCheckpoints_13 : ∃ (b l : List Byte) (s : State), (blockGood b = true) ∧ (bitOf (byteAt b 1) 0 = false) ∧ (bitOf (byteAt b 1) 1 = false) ∧ (s.pair.partialCkpt = some (leAt b 4 4, l)) ∧ (l.length = leAt b 8 4) :=
  ⟨(let h : List Byte := [2, 0, 0, 0] ++ leBytes 4 1 ++ leBytes 4 0 ++ leBytes 2 1 ++ leBytes 2 0 ++ leBytes 4 ckptLength; h ++ leBytes 4 (crc32 (h ++ [0])) ++ [0]), [], { wState with pair.partialCkpt := some (1, []) }, by decide +kernel⟩

theorem wit_PairHeartbeatsAndCheckpoints_14 : ∃ (q : Nat) (b : List Byte) (s : State), (crc32 (b.take 116240) ≠ leAt b 116240 4) :=
  ⟨0, [1], wState, by decide +kernel⟩

/-! ## PairSwapSteps -/

theorem wit_PairSwapSteps_1 : ∃ (t : Nat) (b : List Byte) (s : State), (swapStep 1 b = true) ∧ (pairRuns s = true) ∧ (following s = true) ∧ (s.pair.swap = none) ∧ (s.pair.takeover = none) :=
  ⟨0, stepBytes 1, { pState with pair.role := 2, pair.standby := true, saf.loaded := true }, by decide +kernel⟩

theorem wit_PairSwapSteps_2 : ∃ (t : Nat) (b : List Byte) (w : Swap) (s : State), (s.pair.swap = some w) ∧ (swapStep 2 b = true) ∧ (w.active = true) ∧ (w.step = 1) ∧ (leAt b 2 2 = w.id) :=
  ⟨0, stepBytes 2, swapOf true 1, { pState with pair.swap := some (swapOf true 1) }, by decide +kernel⟩

theorem wit_PairSwapSteps_3 : ∃ (t : Nat) (b d : List Byte) (w : Swap) (a : Nat) (s : State), (s.pair.swap = some w) ∧ (swapStep 3 b = true) ∧ (w.active = false) ∧ (w.step = 2) ∧ (leAt b 2 2 = w.id) ∧ (s.pair.held = some (leAt b 24 4, a, d)) :=
  ⟨0, stepBytes 3, [], swapOf false 2, 0, { pState with pair.swap := some (swapOf false 2), pair.held := some (0, 0, []) }, by decide +kernel⟩

theorem wit_PairSwapSteps_4 : ∃ (t : Nat) (b : List Byte) (w : Swap) (s : State), (s.pair.swap = some w) ∧ (swapStep 3 b = true) ∧ (w.active = false) ∧ (w.step = 2) ∧ (leAt b 2 2 = w.id) ∧ (s.pair.held = none) :=
  ⟨0, stepBytes 3, swapOf false 2, { pState with pair.swap := some (swapOf false 2) }, by decide +kernel⟩

theorem wit_PairSwapSteps_5 : ∃ (t : Nat) (b : List Byte) (w : Swap) (s : State), (s.pair.swap = some w) ∧ (swapStep 4 b = true) ∧ (w.active = true) ∧ (w.step = 3) ∧ (leAt b 2 2 = w.id) :=
  ⟨0, stepBytes 4, swapOf true 3, { pState with pair.swap := some (swapOf true 3) }, by decide +kernel⟩

theorem wit_PairSwapSteps_6 : ∃ (t : Nat) (b : List Byte) (w : Swap) (s : State), (s.pair.swap = some w) ∧ (swapStep 5 b = true) ∧ (leAt b 2 2 = w.id) :=
  ⟨0, stepBytes 5, swapOf true 1, { pState with pair.swap := some (swapOf true 1) }, by decide +kernel⟩

theorem wit_PairSwapSteps_7 : ∃ (t : Nat) (w : Swap) (s : State), (s.pair.swap = some w) ∧ (w.ramping = false) ∧ (w.since + swapLimit (clocked t s) w ≤ max s.now t) :=
  ⟨sec 10, swapOf true 1, { pState with pair.swap := some (swapOf true 1) }, by decide +kernel⟩

theorem wit_PairSwapSteps_8 : ∃ (s : State) (w : Swap), (s.pair.swap = some w) ∧ (w.active = false) :=
  ⟨{ wState with pair.swap := some (swapOf false 1) }, swapOf false 1, by decide⟩

theorem wit_PairSwapSteps_9 : ∃ (t m : Nat) (s : State), (Pend s m Cmd.pairSwap []) ∧ (swapBlock (begun t m s) = none) :=
  ⟨0, 0, withReq 0 Cmd.pairSwap [] { pState with pair.token := true, pair.role := 8, pair.partner := { hbPair := some 0, hbFab := some 0, testedAt := some 0, claim := 0x20000000 }, pair.last := some ⟨0, 0, true⟩ }, by decide +kernel⟩

theorem wit_PairSwapSteps_10 : ∃ (t m c : Nat) (s : State), (Pend s m Cmd.pairSwap []) ∧ (swapBlock (begun t m s) = some c) :=
  ⟨0, 0, Ev.pairRole, withReq 0 Cmd.pairSwap [] pState, by decide +kernel⟩

/-! ## PairClaimAndCommands -/

theorem wit_PairClaimAndCommands_1 : ∃ (t o : Nat) (lo fr : Bool) (fld : Nat) (fol : Bool) (s : State), (pairMode s = false ∨ s.core.mode = .shelf ∨ roundStarts (clocked t s) o = false) :=
  ⟨0, 0, false, false, 0, false, wState, by decide⟩

theorem wit_PairClaimAndCommands_2 : ∃ (t o : Nat) (lo fr : Bool) (fld : Nat) (fol : Bool) (s : State), (pairMode s = true) ∧ (s.core.mode ≠ .shelf) ∧ (s.thm.held = false) ∧ (s.pair.swap = none) ∧ (takesPart s = true) ∧ (roundFaulted lo fr fld = false) ∧ (roundStarts (clocked t s) o = true) ∧ (s.pair.role ≠ 8 ∨ inMode s [.watch, .connect, .run, .hold] = true) :=
  ⟨0, 0, true, true, 0xF0, false, { pState with pair.role := 8 }, by decide +kernel⟩

theorem wit_PairClaimAndCommands_3 : ∃ (t o : Nat) (lo fr : Bool) (fld : Nat) (fol : Bool) (s : State), (pairMode s = true) ∧ (s.core.mode ≠ .shelf) ∧ (s.thm.held = false) ∧ (s.pair.swap = none) ∧ (takesPart s = true) ∧ (s.pair.role ≠ 8) ∧ (roundFaulted lo fr fld = true) ∧ (s.pair.lineFault = false) ∧ (roundStarts (clocked t s) o = true) :=
  ⟨0, 0, false, true, 0xF0, false, { pState with pair.role := 2 }, by decide +kernel⟩

theorem wit_PairClaimAndCommands_4 : ∃ (t a : Nat) (s : State), (pairMode s = true) ∧ (s.pair.token = false) ∧ (s.pair.holderAt = some a) ∧ (a + sec 2 ≤ max s.now t) ∧ (anyEnergised s = true) ∧ (s.pair.takeover = none) :=
  ⟨sec 2, 0, { pState with pair.holderAt := some 0, con.k := [{ hs := true, ls := true }] }, by decide +kernel⟩

theorem wit_PairClaimAndCommands_5 : ∃ (t n : Nat) (s : State), (pairRuns s = true) ∧ (s.core.mode = .watch) ∧ (s.pair.takeover = none) ∧ (s.pair.listening = some n) ∧ (100 ≤ n) ∧ (s.pair.heard8 = true) :=
  ⟨0, 100, { pState with pair.listening := some 100, pair.heard8 := true }, by decide +kernel⟩

theorem wit_PairClaimAndCommands_6 : ∃ (t n : Nat) (s : State), (pairRuns s = true) ∧ (s.core.mode = .watch) ∧ (s.pair.takeover = none) ∧ (s.pair.listening = some n) ∧ (100 ≤ n) ∧ (s.pair.heard8 = false) ∧ (150 ≤ n) :=
  ⟨0, 150, { pState with pair.listening := some 150 }, by decide +kernel⟩

theorem wit_PairClaimAndCommands_7 : ∃ (t a : Nat) (s : State), (pairRuns s = true) ∧ (s.pair.losingSince = some a) ∧ (a + sec 2 ≤ max s.now t) ∧ (s.pair.standby = false) ∧ (s.pair.heard8 = false) ∧ (s.pair.startFault = false) :=
  ⟨sec 2, 0, { pState with pair.losingSince := some 0 }, by decide +kernel⟩

theorem wit_PairClaimAndCommands_8 : ∃ (t : Nat) (ce ee : List Bool) (rb : Bool) (s : State), (pairRuns s = true) ∧ (s.pair.standby = true) ∧ (s.pair.takeover = none) ∧ (s.core.mode = .dormant) ∧ (dueAfter (clocked t s) s.pair.selfTestAt (sec 60) = true) :=
  ⟨0, [], [], true, { pState with pair.standby := true, core.mode := .dormant }, by decide +kernel⟩

theorem wit_PairClaimAndCommands_9 : ∃ (t : Nat) (ce ee : List Bool) (rb : Bool) (s : State), (dueAfter (clocked t s) s.pair.selfTestAt (sec 60) = false) :=
  ⟨0, [], [], true, { wState with pair.selfTestAt := some 0 }, by decide⟩

theorem wit_PairClaimAndCommands_10 : ∃ (t e : Nat) (s : State), (s.pair.override = some e) ∧ (e ≤ max s.now t) :=
  ⟨5, 5, { wState with pair.override := some 5 }, by decide⟩

theorem wit_PairClaimAndCommands_11 : ∃ (t : Nat) (s : State), (s.pair.override = none) :=
  ⟨0, wState, by decide⟩

theorem wit_PairClaimAndCommands_12 : ∃ (t m : Nat) (b : List Byte) (s : State), (Pend s m Cmd.pairOverride b) ∧ (b.length = 2) ∧ (leAt b 0 2 = 0) :=
  ⟨0, 0, [0, 0], withReq 0 Cmd.pairOverride [0, 0] pState, by decide +kernel⟩

theorem wit_PairClaimAndCommands_13 : ∃ (t m : Nat) (b : List Byte) (s : State), (Pend s m Cmd.pairOverride b) ∧ (b.length = 2) ∧ (leAt b 0 2 ≠ 0) ∧ (leAt b 0 2 ≤ 600) ∧ (contactorsClosed s = false) ∧ (pairMode s = true) ∧ (s.pair.role8At = none) :=
  ⟨0, 0, [1, 0], withReq 0 Cmd.pairOverride [1, 0] pState, by decide +kernel⟩

theorem wit_PairClaimAndCommands_14 : ∃ (t m : Nat) (b : List Byte) (s : State), (Pend s m Cmd.pairOverride b) ∧ (b.length = 2) ∧ (leAt b 0 2 ≠ 0) ∧ (leAt b 0 2 ≤ 600) ∧ (contactorsClosed s = true) :=
  ⟨0, 0, [1, 0], withReq 0 Cmd.pairOverride [1, 0] { pState with con.k := [{ kf := true }] }, by decide +kernel⟩

theorem wit_PairClaimAndCommands_15 : ∃ (t : Nat) (sfp : List (List Nat)) (s : State), (s.core.mode ≠ .shelf) ∧ (s.thm.held = false) ∧ (dueAfter (clocked t s) s.pair.healthAt (sec 10) = true) :=
  ⟨0, [], wState, by decide⟩

theorem wit_PairClaimAndCommands_16 : ∃ (t m : Nat) (s : State), (Pend s m Cmd.pairStatus []) :=
  ⟨0, 0, withReq 0 Cmd.pairStatus [] wState, by decide⟩

theorem wit_PairClaimAndCommands_17 : ∃ (t m : Nat) (s : State), (Pend s m Cmd.healthRead []) :=
  ⟨0, 0, withReq 0 Cmd.healthRead [] wState, by decide⟩

theorem wit_PairClaimAndCommands_18 : ∃ (t m : Nat) (s : State), (Pend s m Cmd.pairCkptNow []) ∧ (pushes s = true) :=
  ⟨0, 0, withReq 0 Cmd.pairCkptNow [] { pState with pair.role := 8, pair.token := true }, by decide +kernel⟩

theorem wit_PairClaimAndCommands_19 : ∃ (t m : Nat) (s : State), (Pend s m Cmd.pairCkptNow []) ∧ (pushes s = false) :=
  ⟨0, 0, withReq 0 Cmd.pairCkptNow [] wState, by decide⟩

/-! ## FabricAdjacencyAndAdvertisements -/

theorem wit_FabricAdjacencyAndAdvertisements_2 : ∃ (t p k : Nat) (h : List Byte) (s : State), (portOn s p k = false ∨ helloFormed p h = false ∨ (leAt h 0 2 = s.fab.node ∧ leAt h 4 8 = s.core.serial)) :=
  ⟨0, 0, 0, [], wState, by decide⟩

theorem wit_FabricAdjacencyAndAdvertisements_3 : ∃ (t p k : Nat) (h : List Byte) (s : State), (portOn s p k = true) ∧ (helloFormed p h = true) ∧ (leAt h 0 2 = s.fab.node) ∧ (leAt h 4 8 ≠ s.core.serial) :=
  ⟨0, 0, 1, ([5, 0, 1, 0, 7] ++ List.replicate 35 0), { wState with fab.node := 5, core.serial := 9 }, by decide +kernel⟩

theorem wit_FabricAdjacencyAndAdvertisements_4 : ∃ (t p k : Nat) (h : List Byte) (s : State), (portOn s p k = true) ∧ (helloFormed p h = true) ∧ (leAt h 0 2 ≠ s.fab.node) ∧ (leAt h 4 8 ≠ s.core.serial) :=
  ⟨0, 0, 1, ([6, 0, 1, 0, 7] ++ List.replicate 35 0), { wState with fab.node := 5, core.serial := 9 }, by decide +kernel⟩

theorem wit_FabricAdjacencyAndAdvertisements_5 : ∃ (t p k a : Nat) (s : State), (isPort p k = true) ∧ ((portOf s p k).helloAt = some a) ∧ (a + ms 100 * prmN s (Prm.helloDead + 256 * p) ≤ max s.now t) :=
  ⟨sec 100, 0, 1, 0, setPort 0 1 (fun x => { x with helloAt := some 0 }) wState, by decide +kernel⟩

theorem wit_FabricAdjacencyAndAdvertisements_6 : ∃ (t p k : Nat) (s : State), (isPort p k = true) :=
  ⟨0, 0, 1, wState, by decide +kernel⟩

theorem wit_FabricAdjacencyAndAdvertisements_7 : ∃ (t p : Nat) (s : State), (p < 2) ∧ (planeOn s p = true) ∧ (floodDue (clocked t s) p = true) :=
  ⟨0, 0, { wState with fab.node := 5, core.serial := 9 }, by decide +kernel⟩

theorem wit_FabricAdjacencyAndAdvertisements_8 : ∃ (t p : Nat) (s : State), (floodDue (clocked t s) p = false) :=
  ⟨0, 0, setPlane 0 (fun x => { x with floodAt := some 0 }) wState, by decide⟩

theorem wit_FabricAdjacencyAndAdvertisements_9 : ∃ (t p k : Nat) (a : Lsa) (s : State), (portOn s p k = false ∨ (portOf s p k).adj = false) :=
  ⟨0, 0, 1, ⟨6, 0, 7, 1, [], none, []⟩, wState, by decide⟩

theorem wit_FabricAdjacencyAndAdvertisements_10 : ∃ (t p k : Nat) (a : Lsa) (s : State), (portOn s p k = true) ∧ ((portOf s p k).adj = true) ∧ (a.origin = s.fab.node) ∧ (a.serial = s.core.serial) ∧ (newerSeq a.seq (planeOf s p).lsaSeq = true) :=
  ⟨0, 0, 1, ⟨5, 0, 9, 1, [], none, []⟩, setPort 0 1 (fun x => { x with adj := true }) { wState with fab.node := 5, core.serial := 9 }, by decide +kernel⟩

theorem wit_FabricAdjacencyAndAdvertisements_11 : ∃ (t p k : Nat) (a : Lsa) (s : State), (portOn s p k = true) ∧ ((portOf s p k).adj = true) ∧ (a.origin ≠ s.fab.node) ∧ ((planeOf s p).lsdb = []) :=
  ⟨0, 0, 1, ⟨6, 0, 7, 1, [], none, []⟩, setPort 0 1 (fun x => { x with adj := true }) { wState with fab.node := 5, core.serial := 9 }, by decide +kernel⟩

theorem wit_FabricAdjacencyAndAdvertisements_12 : ∃ (t p k : Nat) (a b : Lsa) (c : Nat) (s : State), (portOn s p k = true) ∧ ((portOf s p k).adj = true) ∧ (a.origin ≠ s.fab.node) ∧ ((planeOf s p).lsdb = [(b, c)]) ∧ (b.origin = a.origin) ∧ (newerSeq a.seq b.seq = false) :=
  ⟨0, 0, 1, ⟨6, 0, 7, 1, [], none, []⟩, ⟨6, 0, 7, 1, [], none, []⟩, 0, setPlane 0 (fun x => { x with lsdb := [(⟨6, 0, 7, 1, [], none, []⟩, 0)] }) (setPort 0 1 (fun x => { x with adj := true }) { wState with fab.node := 5, core.serial := 9 }), by decide +kernel⟩

theorem wit_FabricAdjacencyAndAdvertisements_14 : ∃ (t p : Nat) (s : State), (p < 2) ∧ (running s (0x0C + p) = true) :=
  ⟨0, 0, { wState with fab.node := 5, core.serial := 9 }, by decide +kernel⟩

theorem wit_FabricAdjacencyAndAdvertisements_15 : ∃ (t a c b : Nat) (f : Flow) (s : State), (s.fab.flows = [f]) ∧ (f.addr = a) ∧ (f.cls = c) ∧ (f.backSince = some b) ∧ (b + sec 1 ≤ max s.now t) ∧ ((routeTo s (prmN s Prm.fabricPref) a).isSome = true) :=
  ⟨sec 2, 6, 3, 0, ⟨6, 3, 0, none, 1, 0, 0, 0, [], 0, some 0⟩, { setPlane 0 (fun x => { x with routes := [⟨6, 1, 6, 1, 0, [6]⟩] }) wState with fab.flows := [⟨6, 3, 0, none, 1, 0, 0, 0, [], 0, some 0⟩] }, by decide +kernel⟩

theorem wit_FabricAdjacencyAndAdvertisements_16 : ∃ (t p : Nat) (s : State), (p < 2) ∧ (s.core.mode ≠ .shelf) ∧ ((planeOf (judgePlane p (clocked t s)) p).cond.1 = true) ∧ ((planeOf (judgePlane p (clocked t s)) p).failed = false) ∧ (heldFor (judgePlane p (clocked t s)) (planeOf (judgePlane p (clocked t s)) p).cond.2 (ms 100) = true) :=
  ⟨ms 100, 0, setPlane 0 (fun x => { x with cond := (true, 0) }) wState, by decide +kernel⟩

theorem wit_FabricAdjacencyAndAdvertisements_17 : ∃ (t p : Nat) (s : State), (p < 2) ∧ ((planeOf (judgePlane p (clocked t s)) p).failed = true) :=
  ⟨0, 0, setPlane 0 (fun x => { x with failed := true }) wState, by decide +kernel⟩

theorem wit_FabricAdjacencyAndAdvertisements_18 : ∃ (t p : Nat) (s : State), (p < 2) ∧ ((planeOf (judgePlane p (clocked t s)) p).cond.1 = false) ∧ ((planeOf (judgePlane p (clocked t s)) p).failed = true) ∧ (heldFor (judgePlane p (clocked t s)) (planeOf (judgePlane p (clocked t s)) p).cond.2 (ms 100) = true) :=
  ⟨ms 100, 0, setPlane 0 (fun x => { x with failed := true, cond := (false, 0) }) (setPort 0 1 (fun x => { x with adj := true }) wState), by decide +kernel⟩

theorem wit_FabricAdjacencyAndAdvertisements_19 : ∃ (s : State) (p : Nat), ((planeOf s p).cond.1 ≠ planeFailing s p) ∧ (p < s.fab.plane.length) :=
  ⟨setPlane 0 (fun x => { x with cond := (false, 0) }) wState, 0, by decide +kernel⟩

theorem wit_FabricAdjacencyAndAdvertisements_20 : ∃ (p k : Nat) (s : State), ((portOf s p k).adj = false) ∧ (3 ≤ (portOf s p k).good) ∧ ((portOf s p k).multi = false) :=
  ⟨0, 1, setPort 0 1 (fun x => { x with good := 3 }) wState, by decide +kernel⟩

theorem wit_FabricAdjacencyAndAdvertisements_21 : ∃ (p k : Nat) (s : State), ((portOf s p k).good < 3) :=
  ⟨0, 1, wState, by decide⟩

/-! ## FabricFramesFlowsAndCommands -/

theorem wit_FabricFramesFlowsAndCommands_1 : ∃ (t p k : Nat) (f : FabFrame) (s : State), (portOn s p k = false) :=
  ⟨0, 0, 0, goodFrame, wState, by decide⟩

theorem wit_FabricFramesFlowsAndCommands_2 : ∃ (t p k : Nat) (f : FabFrame) (s : State), (portOn s p k = true) ∧ (f.fcsOk = false ∨ f.body.length + 18 < 64 ∨ 1266 < f.body.length + 18) :=
  ⟨0, 0, 1, { goodFrame with fcsOk := false }, { wState with fab.node := 5 }, by decide +kernel⟩

theorem wit_FabricFramesFlowsAndCommands_3 : ∃ (t p k : Nat) (f : FabFrame) (s : State), (portOn s p k = true) ∧ (f.fcsOk = true) ∧ (64 ≤ f.body.length + 18) ∧ (f.body.length + 18 ≤ 1266) ∧ (f.tagged = true) :=
  ⟨0, 0, 1, { goodFrame with tagged := true }, { wState with fab.node := 5 }, by decide +kernel⟩

theorem wit_FabricFramesFlowsAndCommands_4 : ∃ (t p k : Nat) (f : FabFrame) (s : State), (portOn s p k = true) ∧ (f.fcsOk = true) ∧ (64 ≤ f.body.length + 18) ∧ (f.body.length + 18 ≤ 1266) ∧ (f.tagged = false) ∧ (f.addressed = false ∨ f.ethertype ≠ prmN s Prm.fabricEthertype) :=
  ⟨0, 0, 1, { goodFrame with addressed := false }, { wState with fab.node := 5 }, by decide +kernel⟩

theorem wit_FabricFramesFlowsAndCommands_5 : ∃ (t p k : Nat) (f : FabFrame) (s : State), (portOn s p k = true) ∧ (f.fcsOk = true) ∧ (64 ≤ f.body.length + 18) ∧ (f.body.length + 18 ≤ 1266) ∧ (f.tagged = false) ∧ (f.addressed = true) ∧ (f.ethertype = prmN s Prm.fabricEthertype) ∧ (headerGood f.body = false) :=
  ⟨0, 0, 1, { goodFrame with body := List.replicate 60 0 }, { wState with fab.node := 5 }, by decide +kernel⟩

theorem wit_FabricFramesFlowsAndCommands_6 : ∃ (t p k : Nat) (f : FabFrame) (s : State), (portOn s p k = true) ∧ (f.fcsOk = true) ∧ (64 ≤ f.body.length + 18) ∧ (f.body.length + 18 ≤ 1266) ∧ (f.tagged = false) ∧ (f.addressed = true) ∧ (f.ethertype = prmN s Prm.fabricEthertype) ∧ (headerGood f.body = true) ∧ ((portOf s p k).multi = false) ∧ (leAt f.body 4 2 = s.fab.node) ∧ (s.fab.node ≠ 0xFFFF) :=
  ⟨0, 0, 1, goodFrame, { wState with fab.node := 5 }, by decide +kernel⟩

theorem wit_FabricFramesFlowsAndCommands_7 : ∃ (t p k : Nat) (f : FabFrame) (s : State), (portOn s p k = true) ∧ (f.fcsOk = true) ∧ (64 ≤ f.body.length + 18) ∧ (f.body.length + 18 ≤ 1266) ∧ (f.tagged = false) ∧ (f.addressed = true) ∧ (f.ethertype = prmN s Prm.fabricEthertype) ∧ (headerGood f.body = true) ∧ ((portOf s p k).multi = false) ∧ (forThisNode s (leAt f.body 4 2) = false) :=
  ⟨0, 0, 1, goodFrame, { wState with fab.node := 6 }, by decide +kernel⟩

theorem wit_FabricFramesFlowsAndCommands_8 : ∃ (p k n : Nat) (b : List Byte) (s : State), (carriesTransit s = true) ∧ (byteAt b 3 ≠ 1) ∧ (byteAt b 3 ≠ 2) ∧ (leAt b 4 2 ≠ 0xFFFF) ∧ (byteAt b 2 = 0) :=
  ⟨0, 1, 0, [], wState, by decide⟩

theorem wit_FabricFramesFlowsAndCommands_9 : ∃ (p k n : Nat) (b : List Byte) (r : Route) (s : State), (carriesTransit s = true) ∧ (byteAt b 3 ≠ 1) ∧ (byteAt b 3 ≠ 2) ∧ (leAt b 4 2 ≠ 0xFFFF) ∧ (byteAt b 2 ≠ 0) ∧ (routeTo s p (leAt b 4 2) = some r) :=
  ⟨0, 1, 0, [0, 0, 1, 3, 6, 0], ⟨6, 1, 6, 1, 0, [6]⟩, setPlane 0 (fun x => { x with routes := [⟨6, 1, 6, 1, 0, [6]⟩] }) wState, by decide +kernel⟩

theorem wit_FabricFramesFlowsAndCommands_10 : ∃ (p k n : Nat) (b : List Byte) (s : State), (carriesTransit s = true) ∧ (byteAt b 3 ≠ 1) ∧ (byteAt b 3 ≠ 2) ∧ (leAt b 4 2 ≠ 0xFFFF) ∧ (byteAt b 2 ≠ 0) ∧ (routeTo s p (leAt b 4 2) = none) :=
  ⟨0, 1, 0, [0, 0, 1, 3, 6, 0], wState, by decide +kernel⟩

theorem wit_FabricFramesFlowsAndCommands_11 : ∃ (p k n : Nat) (b : List Byte) (s : State), (s.core.mode = .dormant) :=
  ⟨0, 1, 0, [], { wState with core.mode := .dormant }, by decide⟩

theorem wit_FabricFramesFlowsAndCommands_12 : ∃ (t m q : Nat) (s : State), (Pend s m (0x0C00 + 16 + 256 * q) []) ∧ (q < 2) :=
  ⟨0, 0, 1, withReq 0 0xd10 [] (wState), by decide +kernel⟩

theorem wit_FabricFramesFlowsAndCommands_13 : ∃ (t m q : Nat) (b : List Byte) (s : State), (Pend s m (0x0C00 + 0x11 + 256 * q) b) ∧ (q < 2) ∧ (b.length = 3) ∧ (byteAt b 2 ≠ 0) ∧ (byteAt b 2 ≤ 64) :=
  ⟨0, 0, 1, [0, 0, 1], withReq 0 0xD11 [0, 0, 1] wState, by decide +kernel⟩

theorem wit_FabricFramesFlowsAndCommands_14 : ∃ (t m q : Nat) (b : List Byte) (e : Lsa × Nat) (s : State), (Pend s m (0x0C00 + 0x12 + 256 * q) b) ∧ (q < 2) ∧ (b.length = 2) ∧ ((planeOf s q).lsdb.find? (fun e => e.1.origin = leAt b 0 2) = some e) :=
  ⟨0, 0, 1, [6, 0], (⟨6, 0, 7, 1, [], none, []⟩, 0), withReq 0 0xD12 [6, 0] (setPlane 1 (fun x => { x with lsdb := [(⟨6, 0, 7, 1, [], none, []⟩, 0)] }) wState), by decide +kernel⟩

theorem wit_FabricFramesFlowsAndCommands_15 : ∃ (t m q : Nat) (s : State), (Pend s m (0x0C00 + 19 + 256 * q) []) ∧ (q < 2) :=
  ⟨0, 0, 1, withReq 0 0xd13 [] (wState), by decide +kernel⟩

theorem wit_FabricFramesFlowsAndCommands_16 : ∃ (t m q : Nat) (s : State), (Pend s m (0x0C00 + 20 + 256 * q) []) ∧ (q < 2) :=
  ⟨0, 0, 1, withReq 0 0xd14 [] (wState), by decide +kernel⟩

/-! ## CanFramesAndBusOff -/

theorem wit_CanFramesAndBusOff_1 : ∃ (t c : Nat) (f : CanFrame) (s : State), (2 ≤ c ∨ canHears s c = false) :=
  ⟨0, 2, ⟨0x100, false, false, false, false, false, 0, []⟩, wState, by decide⟩

theorem wit_CanFramesAndBusOff_2 : ∃ (t c : Nat) (f : CanFrame) (s : State), (c < 2) ∧ (canHears s c = true) ∧ (f.id ≠ prmN s Prm.wakeCanId) ∧ (c = 1 ∨ mapMode s = false) ∧ (accepted s c f = true) :=
  ⟨0, 1, ⟨0x100, false, false, false, false, false, 0, []⟩, wState, by decide +kernel⟩

theorem wit_CanFramesAndBusOff_3 : ∃ (t c : Nat) (f : CanFrame) (s : State), (c = 0) ∧ (canHears s c = true) ∧ (f.id ≠ prmN s Prm.wakeCanId) ∧ (mapMode s = true) :=
  ⟨0, 0, ⟨0x100, false, false, false, false, false, 0, []⟩, { wState with core.seals := 0x80 }, by decide +kernel⟩

theorem wit_CanFramesAndBusOff_4 : ∃ (t c : Nat) (f : CanFrame) (s : State), (c = 0) ∧ (s.core.mode = .dormant) ∧ (canHears s c = true) ∧ (f.ide = false) ∧ (f.id = prmN s Prm.wakeCanId) ∧ (mapMode (wakeNow 0 (clocked t s)) = true) :=
  ⟨0, 0, ⟨prmN wState Prm.wakeCanId, false, false, false, false, false, 0, []⟩, { wState with core.mode := .dormant, core.seals := 0x80 }, by decide +kernel⟩

theorem wit_CanFramesAndBusOff_5 : ∃ (f : CanFrame) (n : Nat) (c : Can), (64 ≤ c.rx.length) :=
  ⟨⟨0x100, false, false, false, false, false, 0, []⟩, 0, { rx := List.replicate 64 ⟨0, false, 0, ⟨0x100, false, false, false, false, false, 0, []⟩⟩ }, by decide⟩

theorem wit_CanFramesAndBusOff_6 : ∃ (f : CanFrame) (n : Nat) (c : Can), (c.rx.length < 64) :=
  ⟨⟨0x100, false, false, false, false, false, 0, []⟩, 0, { }, by decide⟩

theorem wit_CanFramesAndBusOff_7 : ∃ (t c : Nat) (e : CanTxEntry) (x : Bool) (s : State), (c < 2) ∧ (canSends s c = true) ∧ ((canOf s c).onBus = none) ∧ (nextEntry (canOf s c) = some (e, x)) :=
  ⟨0, 0, ⟨1, ⟨0x100, false, false, false, false, false, 0, []⟩⟩, false, setCan 0 (fun x => { x with tx := [⟨1, ⟨0x100, false, false, false, false, false, 0, []⟩⟩] }) wState, by decide +kernel⟩

theorem wit_CanFramesAndBusOff_8 : ∃ (c : Can) (e : CanTxEntry), (c.express = some e) :=
  ⟨{ express := some ⟨1, ⟨0x100, false, false, false, false, false, 0, []⟩⟩ }, ⟨1, ⟨0x100, false, false, false, false, false, 0, []⟩⟩, by decide⟩

theorem wit_CanFramesAndBusOff_9 : ∃ (c : Can) (e : CanTxEntry) (l : List CanTxEntry), (c.express = none) ∧ (c.tx = e :: l) :=
  ⟨{ tx := [⟨1, ⟨0x100, false, false, false, false, false, 0, []⟩⟩] }, ⟨1, ⟨0x100, false, false, false, false, false, 0, []⟩⟩, [], by decide⟩

theorem wit_CanFramesAndBusOff_10 : ∃ (t c h : Nat) (x : Bool) (e : CanTxEntry) (s : State), (c < 2) ∧ ((canOf s c).onBus = some (h, x)) ∧ (queuedEntry (canOf s c) h = some e) ∧ ((canOf s c).cancel = none) ∧ ((fnOf s (0x0F + c)).state = .running) :=
  ⟨0, 0, 1, false, ⟨1, ⟨0x100, false, false, false, false, false, 0, []⟩⟩, setCan 0 (fun x => { x with tx := [⟨1, ⟨0x100, false, false, false, false, false, 0, []⟩⟩], onBus := some (1, false) }) wState, by decide +kernel⟩

theorem wit_CanFramesAndBusOff_11 : ∃ (t c h : Nat) (x : Bool) (s : State), (c < 2) ∧ ((canOf s c).onBus = some (h, x)) :=
  ⟨0, 0, 1, false, setCan 0 (fun x => { x with onBus := some (1, false) }) wState, by decide +kernel⟩

theorem wit_CanFramesAndBusOff_12 : ∃ (t c h : Nat) (x : Bool) (s : State), (c < 2) ∧ ((canOf s c).onBus = some (h, x)) :=
  ⟨0, 0, 1, false, setCan 0 (fun x => { x with onBus := some (1, false) }) wState, by decide +kernel⟩

theorem wit_CanFramesAndBusOff_13 : ∃ (c h : Nat) (s : State), ((canOf s c).cancel = none) :=
  ⟨0, 0, wState, by decide⟩

theorem wit_CanFramesAndBusOff_14 : ∃ (c h m : Nat) (s : State), ((canOf s c).cancel = some m) :=
  ⟨0, 0, 0, setCan 0 (fun x => { x with cancel := some 0 }) wState, by decide +kernel⟩

theorem wit_CanFramesAndBusOff_15 : ∃ (t c : Nat) (s : State), (c < 2) ∧ (canSends s c = true) ∧ ((canOf s c).onBus = none) :=
  ⟨0, 0, wState, by decide +kernel⟩

theorem wit_CanFramesAndBusOff_16 : ∃ (t c : Nat) (s : State), (c < 2) ∧ ((canOf s c).bus = .recovering) ∧ ((canOf s c).recoverAt + recoverTime s c ≤ max s.now t) :=
  ⟨sec 1000, 0, setCan 0 (fun x => { x with bus := .recovering }) wState, by decide +kernel⟩

/-! ## CanCommands -/

theorem wit_CanCommands_1 : ∃ (t m q n : Nat) (b : List Byte) (s : State), (Pend s m (0x0F00 + 0x11 + 256 * q) b) ∧ (q < 2) ∧ (b.length = 80) ∧ (txBadField (begun t m s) q (0x0F11 + 256 * q) b = none) ∧ (canStopped s q = false) ∧ (q = 1 ∨ mapMode s = false) ∧ (bitOf (byteAt b 2) 6 = false) ∧ ((canOf s q).tx.length < 32) ∧ (freshHandle (canOf s q) = n) :=
  ⟨0, 0, 1, 1, List.replicate 80 0, withReq 0 0x1011 (List.replicate 80 0) wState, by decide +kernel⟩

theorem wit_CanCommands_2 : ∃ (t m q n : Nat) (b : List Byte) (s : State), (Pend s m (0x0F00 + 0x11 + 256 * q) b) ∧ (q < 2) ∧ (b.length = 80) ∧ (txBadField (begun t m s) q (0x0F11 + 256 * q) b = none) ∧ (canStopped s q = false) ∧ (q = 1 ∨ mapMode s = false) ∧ (bitOf (byteAt b 2) 6 = true) ∧ ((canOf s q).express = none) ∧ (freshHandle (canOf s q) = n) :=
  ⟨0, 0, 1, 1, ([0, 0, 64] ++ List.replicate 77 0), withReq 0 0x1011 ([0, 0, 64] ++ List.replicate 77 0) wState, by decide +kernel⟩

theorem wit_CanCommands_3 : ∃ (t m q : Nat) (b : List Byte) (s : State), (Pend s m (0x0F00 + 0x11 + 256 * q) b) ∧ (q < 2) ∧ (b.length = 80) ∧ (txBadField (begun t m s) q (0x0F11 + 256 * q) b = none) ∧ (canStopped s q = false) ∧ (q = 1 ∨ mapMode s = false) ∧ (bitOf (byteAt b 2) 6 = true) ∧ ((canOf s q).express.isSome = true) :=
  ⟨0, 0, 1, ([0, 0, 64] ++ List.replicate 77 0), withReq 0 0x1011 ([0, 0, 64] ++ List.replicate 77 0) (setCan 1 (fun x => { x with express := some ⟨1, ⟨0x100, false, false, false, false, false, 0, []⟩⟩ }) wState), by decide +kernel⟩

theorem wit_CanCommands_4 : ∃ (t m q : Nat) (b : List Byte) (s : State), (Pend s m (0x0F00 + 0x11 + 256 * q) b) ∧ (q < 2) ∧ (b.length = 80) ∧ (txBadField (begun t m s) q (0x0F11 + 256 * q) b = none) ∧ (canStopped s q = false) ∧ (q = 1 ∨ mapMode s = false) ∧ (bitOf (byteAt b 2) 6 = false) ∧ (32 ≤ (canOf s q).tx.length) :=
  ⟨0, 0, 1, List.replicate 80 0, withReq 0 0x1011 (List.replicate 80 0) (setCan 1 (fun x => { x with tx := List.replicate 32 ⟨1, ⟨0x100, false, false, false, false, false, 0, []⟩⟩ }) wState), by decide +kernel⟩

theorem wit_CanCommands_5 : ∃ (t m q : Nat) (b : List Byte) (x : Reply) (s : State), (Pend s m (0x0F00 + 0x11 + 256 * q) b) ∧ (q < 2) ∧ (b.length = 80) ∧ (txBadField (begun t m s) q (0x0F11 + 256 * q) b = some x) ∧ (x.status = .badArgument) :=
  ⟨0, 0, 1, (1 :: List.replicate 79 0), causeReply .badArgument Ev.reserved, withReq 0 0x1011 (1 :: List.replicate 79 0) wState, by decide +kernel⟩

theorem wit_CanCommands_6 : ∃ (t m q : Nat) (b : List Byte) (s : State), (Pend s m (0x0F00 + 0x12 + 256 * q) b) ∧ (q < 2) ∧ (b.length = 2) ∧ ((canOf s q).onBus.map (·.1) = some (leAt b 0 2)) ∧ ((canOf s q).cancel = none) :=
  ⟨0, 0, 1, [1, 0], withReq 0 0x1012 [1, 0] (setCan 1 (fun x => { x with onBus := some (1, false) }) wState), by decide +kernel⟩

theorem wit_CanCommands_7 : ∃ (t m q : Nat) (b : List Byte) (s : State), (Pend s m (0x0F00 + 0x12 + 256 * q) b) ∧ (q < 2) ∧ (b.length = 2) ∧ ((canOf s q).onBus = none) ∧ ((queuedEntry (canOf s q) (leAt b 0 2)).isSome = true) :=
  ⟨0, 0, 1, [1, 0], withReq 0 0x1012 [1, 0] (setCan 1 (fun x => { x with tx := [⟨1, ⟨0x100, false, false, false, false, false, 0, []⟩⟩] }) wState), by decide +kernel⟩

theorem wit_CanCommands_8 : ∃ (t m q a : Nat) (b : List Byte) (s : State), (Pend s m (0x0F00 + 0x12 + 256 * q) b) ∧ (q < 2) ∧ (b.length = 2) ∧ ((canOf s q).onBus = none) ∧ (queuedEntry (canOf s q) (leAt b 0 2) = none) ∧ ((canOf s q).settled.find? (·.1 = (leAt b 0 2)) = some ((leAt b 0 2), some a)) :=
  ⟨0, 0, 1, 0, [1, 0], withReq 0 0x1012 [1, 0] (setCan 1 (fun x => { x with settled := [(1, some 0)] }) wState), by decide +kernel⟩

theorem wit_CanCommands_9 : ∃ (t m q : Nat) (b : List Byte) (s : State), (Pend s m (0x0F00 + 0x13 + 256 * q) b) ∧ (q < 2) ∧ (b.length = 2) :=
  ⟨0, 0, 1, [1, 0], withReq 0 0x1013 [1, 0] wState, by decide +kernel⟩

theorem wit_CanCommands_10 : ∃ (t m q : Nat) (b : List Byte) (s : State), (Pend s m (0x0F00 + 0x14 + 256 * q) b) ∧ (q < 2) ∧ (b.length = 1) ∧ (byteAt b 0 ≠ 0) ∧ (byteAt b 0 ≤ 14) :=
  ⟨0, 0, 1, [1], withReq 0 0x1014 [1] wState, by decide +kernel⟩

theorem wit_CanCommands_11 : ∃ (t m q : Nat) (b : List Byte) (l : List CanRxEntry) (s : State), (Pend s m (0x0F00 + 0x15 + 256 * q) b) ∧ (q < 2) ∧ (b.length = 2) ∧ (releaseTo (leAt b 0 2) (canOf s q).rx = some l) :=
  ⟨0, 0, 1, [0, 0], [], withReq 0 0x1015 [0, 0] (setCan 1 (fun x => { x with rx := [⟨0, false, 0, ⟨0x100, false, false, false, false, false, 0, []⟩⟩] }) wState), by decide +kernel⟩

theorem wit_CanCommands_12 : ∃ (t m q : Nat) (b : List Byte) (s : State), (Pend s m (0x0F00 + 0x15 + 256 * q) b) ∧ (q < 2) ∧ (b.length = 2) ∧ (releaseTo (leAt b 0 2) (canOf s q).rx = none) :=
  ⟨0, 0, 1, [0, 0], withReq 0 0x1015 [0, 0] wState, by decide +kernel⟩

theorem wit_CanCommands_13 : ∃ (t m q : Nat) (s : State), (Pend s m (0x0F00 + 0x16 + 256 * q) []) ∧ (q < 2) ∧ ((canOf s q).bus = .off) :=
  ⟨0, 0, 1, withReq 0 0x1016 [] (setCan 1 (fun x => { x with bus := .off }) wState), by decide +kernel⟩

theorem wit_CanCommands_14 : ∃ (t m q : Nat) (s : State), (Pend s m (0x0F00 + 0x16 + 256 * q) []) ∧ (q < 2) ∧ ((canOf s q).bus ≠ .off) :=
  ⟨0, 0, 1, withReq 0 0x1016 [] wState, by decide +kernel⟩

theorem wit_CanCommands_15 : ∃ (t m q : Nat) (s : State), (Pend s m (0x0F00 + 0x10 + 256 * q) []) ∧ (q < 2) :=
  ⟨0, 0, 1, withReq 0 0x1010 [] wState, by decide +kernel⟩

/-! ## ForerunnerMapAndTwoWire -/

theorem wit_ForerunnerMapAndTwoWire_1 : ∃ (t k : Nat) (v : Option Int) (s : State), (mapMode s = true) ∧ (claimsActive s = true) ∧ (canSends s 0 = true) ∧ (k < 5) ∧ (dueAfter (clocked t s) ((canOf s 0).mapAt.getD k none) (mapPeriod k) = true) :=
  ⟨0, 0, none, { wState with core.seals := 0x80 }, by decide +kernel⟩

theorem wit_ForerunnerMapAndTwoWire_2 : ∃ (t : Nat) (d : List Byte) (s : State), (mapMode s = false) :=
  ⟨0, [], wState, by decide⟩

theorem wit_ForerunnerMapAndTwoWire_3 : ∃ (t : Nat) (d : List Byte) (s : State), (mapMode s = true) ∧ (canHears s 0 = true) ∧ (mapActs s (canOf s 0).ctr10 (byteAt d 4) = true) :=
  ⟨0, [], { wState with core.seals := 0x80 }, by decide +kernel⟩

theorem wit_ForerunnerMapAndTwoWire_4 : ∃ (t : Nat) (d : List Byte) (s : State), (mapMode s = true) ∧ (canHears s 0 = true) ∧ (claimsActive s = true) ∧ ((canOf s 0).ctr10 = some (byteAt d 4)) :=
  ⟨0, [], setCan 0 (fun x => { x with ctr10 := some 0 }) ({ wState with core.seals := 0x80 }), by decide +kernel⟩

theorem wit_ForerunnerMapAndTwoWire_5 : ∃ (t : Nat) (d : List Byte) (vs vl : Int) (s : State), (mapMode s = true) ∧ (canHears s 0 = true) ∧ (mapActs s (canOf s 0).ctr11 (byteAt d 1) = true) :=
  ⟨0, [], 0, 0, { wState with core.seals := 0x80 }, by decide +kernel⟩

theorem wit_ForerunnerMapAndTwoWire_6 : ∃ (d : List Byte) (vs vl : Int) (c : Nat) (p : List Byte) (s : State), (mapCommand (byteAt d 0) = some (c, p)) ∧ (prm s Prm.frCmdEnable ≠ 1) :=
  ⟨[3], 0, 0, Cmd.disconnect, [], { wState with mbx.params := [(Prm.frCmdEnable, 0)] }, by decide⟩

theorem wit_ForerunnerMapAndTwoWire_7 : ∃ (t a : Nat) (r : Option Nat) (s : State), (svcAlive s = true) ∧ (a ≠ s.bus.svc.addr) :=
  ⟨0, 0, none, { wState with core.seals := 0 }, by decide +kernel⟩

theorem wit_ForerunnerMapAndTwoWire_8 : ∃ (t a : Nat) (s : State), (svcAlive s = true) ∧ (s.bus.svc.addr = a) :=
  ⟨0, wState.bus.svc.addr, wState, by decide +kernel⟩

theorem wit_ForerunnerMapAndTwoWire_9 : ∃ (t a n : Nat) (s : State), (svcAlive s = true) ∧ (s.bus.svc.addr = a) :=
  ⟨0, wState.bus.svc.addr, 0, wState, by decide +kernel⟩

theorem wit_ForerunnerMapAndTwoWire_10 : ∃ (t : Nat) (b : List Byte) (s : State), (svcAlive s = true) :=
  ⟨0, [], wState, by decide +kernel⟩

theorem wit_ForerunnerMapAndTwoWire_11 : ∃ (v : Byte) (s : State), (s.bus.svc.selected = true) ∧ (s.bus.svc.refuse = false) ∧ (s.bus.svc.ptrNext = true) :=
  ⟨0, { wState with bus.svc.selected := true, bus.svc.ptrNext := true }, by decide⟩

theorem wit_ForerunnerMapAndTwoWire_12 : ∃ (v : Byte) (s : State), (s.bus.svc.selected = true) ∧ (s.bus.svc.refuse = false) ∧ (s.bus.svc.ptrNext = false) :=
  ⟨0, { wState with bus.svc.selected := true }, by decide⟩

theorem wit_ForerunnerMapAndTwoWire_13 : ∃ (v : Byte) (s : State), (s.bus.svc.selected = true) ∧ (s.bus.svc.refuse = true) :=
  ⟨0, { wState with bus.svc.selected := true, bus.svc.refuse := true }, by decide⟩

theorem wit_ForerunnerMapAndTwoWire_14 : ∃ (t : Nat) (s : State), (svcAlive s = true) ∧ (s.bus.svc.selected = true) ∧ (s.bus.svc.refuse = false) ∧ (s.bus.svc.ptrNext = false) ∧ (s.bus.svc.ptr = 12) ∧ (mbxServed s 7 = true) :=
  ⟨0, { wState with bus.svc.selected := true, bus.svc.ptr := 12 }, by decide +kernel⟩

theorem wit_ForerunnerMapAndTwoWire_15 : ∃ (t : Nat) (s : State), (svcAlive s = true) ∧ (s.bus.svc.selected = true) ∧ (s.bus.svc.refuse = false) ∧ (s.bus.svc.ptrNext = false) ∧ (s.bus.svc.ptr = 12) ∧ (mbxServed s 7 = true) :=
  ⟨0, { wState with bus.svc.selected := true, bus.svc.ptr := 12 }, by decide +kernel⟩

theorem wit_ForerunnerMapAndTwoWire_16 : ∃ (t : Nat) (s : State), (svcAlive s = true) ∧ (s.bus.svc.selected = true) ∧ (s.bus.svc.refuse = false) ∧ (s.bus.svc.ptrNext = false) ∧ (s.bus.svc.ptr = 12) ∧ (mbxServed s 7 = true) :=
  ⟨0, { wState with bus.svc.selected := true, bus.svc.ptr := 12 }, by decide +kernel⟩

theorem wit_ForerunnerMapAndTwoWire_17 : ∃ (s : State), (s.bus.svc.reqLen < 8 ∨ 1204 < s.bus.svc.reqLen) :=
  ⟨wState, by decide⟩

theorem wit_ForerunnerMapAndTwoWire_18 : ∃ (s : State), (8 ≤ s.bus.svc.reqLen) ∧ (s.bus.svc.reqLen ≤ 1204) ∧ ((mbxOf s 7).phase = .pending) :=
  ⟨{ withReq 7 0 [] wState with bus.svc.reqLen := 8 }, by decide +kernel⟩

theorem wit_ForerunnerMapAndTwoWire_20 : ∃ (t : Nat) (s : State), (svcAlive s = true) ∧ (s.bus.svc.selected = true) :=
  ⟨0, { wState with bus.svc.selected := true }, by decide +kernel⟩

theorem wit_ForerunnerMapAndTwoWire_21 : ∃ (t : Nat) (s : State), (svcAlive s = true) ∧ (s.bus.svc.selected = true) :=
  ⟨0, { wState with bus.svc.selected := true }, by decide +kernel⟩

theorem wit_ForerunnerMapAndTwoWire_22 : ∃ (t : Nat) (s : State), (attnDue s = true) ∧ (s.bus.svc.attnAt = none) :=
  ⟨0, { wState with mbx.params := [(Prm.twAttnAddr, 5)], bus.svc.attn := 1 }, by decide +kernel⟩

theorem wit_ForerunnerMapAndTwoWire_23 : ∃ (t : Nat) (s : State), (attnDue s = true) ∧ (s.bus.svc.attnAt = none) :=
  ⟨0, { wState with mbx.params := [(Prm.twAttnAddr, 5)], bus.svc.attn := 1 }, by decide +kernel⟩

theorem wit_ForerunnerMapAndTwoWire_24 : ∃ (t : Nat) (s : State), (attnDue s = true) ∧ (s.bus.svc.attnAt = none) :=
  ⟨0, { wState with mbx.params := [(Prm.twAttnAddr, 5)], bus.svc.attn := 1 }, by decide +kernel⟩

theorem wit_ForerunnerMapAndTwoWire_25 : ∃ (t a o : Nat) (s : State), (attnDue s = true) ∧ (s.bus.svc.attnAt = some a) ∧ (a ≤ max s.now t) :=
  ⟨5, 5, 0, { wState with mbx.params := [(Prm.twAttnAddr, 5)], bus.svc.attn := 1, bus.svc.attnAt := some 5 }, by decide +kernel⟩

theorem wit_ForerunnerMapAndTwoWire_26 : ∃ (t m : Nat) (s : State), (Pend s m Cmd.twSvcStatus []) :=
  ⟨0, 0, withReq 0 Cmd.twSvcStatus [] wState, by decide⟩

theorem wit_ForerunnerMapAndTwoWire_27 : ∃ (t m : Nat) (s : State), (Pend s m Cmd.twAccStatus []) :=
  ⟨0, 0, withReq 0 Cmd.twAccStatus [] wState, by decide⟩

theorem wit_ForerunnerMapAndTwoWire_28 : ∃ (t k : Nat) (s : State), (s.bus.acc.stuck = false) ∧ (s.bus.acc.clearDue = true) ∧ (s.core.mode ≠ .shelf) ∧ (s.core.booting = false) ∧ (s.thm.held = false) ∧ (running s 0x11 = true) ∧ (k ≤ 9) :=
  ⟨0, 0, { wState with bus.acc.clearDue := true }, by decide +kernel⟩

theorem wit_ForerunnerMapAndTwoWire_29 : ∃ (t : Nat) (s : State), (s.bus.acc.stuck = false) ∧ (s.bus.acc.clearDue = true) ∧ (s.core.mode ≠ .shelf) ∧ (s.core.booting = false) ∧ (s.thm.held = false) ∧ (running s 0x11 = true) :=
  ⟨0, { wState with bus.acc.clearDue := true }, by decide +kernel⟩

theorem wit_ForerunnerMapAndTwoWire_30 : ∃ (t m st : Nat) (rd b : List Byte) (s : State), (Pend s m Cmd.twAccXfer b) ∧ (3 ≤ b.length) ∧ (b.length = 3 + byteAt b 1) ∧ (byteAt b 0 ≤ 127) ∧ (byteAt b 1 ≤ 64) ∧ (byteAt b 2 ≤ 64) ∧ (stopped s 0x11 = false) ∧ (s.bus.acc.stuck = false) ∧ (st ≤ ms (prmN s Prm.twAccStretchMax)) :=
  ⟨0, 0, 0, [], [0, 0, 0], withReq 0 Cmd.twAccXfer [0, 0, 0] wState, by decide +kernel⟩

theorem wit_ForerunnerMapAndTwoWire_31 : ∃ (t m st n : Nat) (rd b : List Byte) (s : State), (Pend s m Cmd.twAccXfer b) ∧ (3 ≤ b.length) ∧ (b.length = 3 + byteAt b 1) ∧ (byteAt b 0 ≤ 127) ∧ (byteAt b 1 ≤ 64) ∧ (byteAt b 2 ≤ 64) ∧ (stopped s 0x11 = false) ∧ (s.bus.acc.stuck = false) ∧ (st ≤ ms (prmN s Prm.twAccStretchMax)) :=
  ⟨0, 0, 0, 0, [], [0, 0, 0], withReq 0 Cmd.twAccXfer [0, 0, 0] wState, by decide +kernel⟩

theorem wit_ForerunnerMapAndTwoWire_32 : ∃ (t m st : Nat) (na : Option Nat) (rd b : List Byte) (s : State), (Pend s m Cmd.twAccXfer b) ∧ (3 ≤ b.length) ∧ (b.length = 3 + byteAt b 1) ∧ (byteAt b 0 ≤ 127) ∧ (byteAt b 1 ≤ 64) ∧ (byteAt b 2 ≤ 64) ∧ (stopped s 0x11 = false) ∧ (s.bus.acc.stuck = false) ∧ (ms (prmN s Prm.twAccStretchMax) < st) :=
  ⟨0, 0, sec 1, none, [], [0, 0, 0], withReq 0 Cmd.twAccXfer [0, 0, 0] wState, by decide +kernel⟩

theorem wit_ForerunnerMapAndTwoWire_33 : ∃ (t m st : Nat) (na : Option Nat) (rd b : List Byte) (s : State), (Pend s m Cmd.twAccXfer b) ∧ (3 ≤ b.length) ∧ (b.length = 3 + byteAt b 1) ∧ (byteAt b 0 ≤ 127) ∧ (byteAt b 1 ≤ 64) ∧ (byteAt b 2 ≤ 64) ∧ (stopped s 0x11 = false) ∧ (s.bus.acc.stuck = true) :=
  ⟨0, 0, 0, none, [], [0, 0, 0], withReq 0 Cmd.twAccXfer [0, 0, 0] { wState with bus.acc.stuck := true }, by decide +kernel⟩

/-! ## RecorderFlushAndCursors -/

theorem wit_RecorderFlushAndCursors_1 : ∃ (t : Nat) (s : State), (s.well.lastFlush + sec (prmN s Prm.recFlushPeriod) ≤ max s.now t) ∧ (s.core.mode ≠ .shelf) :=
  ⟨sec 100000, wState, by decide +kernel⟩

theorem wit_RecorderFlushAndCursors_2 : ∃ (t : Nat) (s : State), (max s.now t < s.well.lastFlush + sec (prmN s Prm.recFlushPeriod)) :=
  ⟨0, wState, by decide +kernel⟩

theorem wit_RecorderFlushAndCursors_3 : ∃ (s : State), (flushAllowed s = true) :=
  ⟨wState, by decide +kernel⟩

theorem wit_RecorderFlushAndCursors_4 : ∃ (t : Nat) (s : State), (s.well.flushing = true) ∧ (s.well.page = none) ∧ (flushAllowed s = true) ∧ (s.thm.shutdown = none) ∧ (s.well.clear = none) ∧ (s.well.buf ≠ []) :=
  ⟨0, { wState with well.flushing := true, well.buf := [⟨0, 0, 0, 0, 1, 0, .watch, 0, []⟩] }, by decide +kernel⟩

theorem wit_RecorderFlushAndCursors_5 : ∃ (t : Nat) (s : State), (flushAllowed s = false) :=
  ⟨0, { wState with thm.forbid := true }, by decide +kernel⟩

theorem wit_RecorderFlushAndCursors_6 : ∃ (t : Nat) (rt : Bool) (p : List Nat) (s : State), (s.well.page = some p) :=
  ⟨0, false, [], { wState with well.page := some [] }, by decide⟩

theorem wit_RecorderFlushAndCursors_7 : ∃ (s : State), (s.well.store.length + 64 ≤ 2097152) :=
  ⟨wState, by decide⟩

theorem wit_RecorderFlushAndCursors_8 : ∃ (s : State), (9 < s.well.spare) :=
  ⟨wState, by decide +kernel⟩

theorem wit_RecorderFlushAndCursors_9 : ∃ (s : State), (s.well.spare ≤ 9) :=
  ⟨{ wState with well.spare := 9 }, by decide⟩

theorem wit_RecorderFlushAndCursors_10 : ∃ (t c : Nat) (s : State), ((cursorOf s c).owner.isSome = true) ∧ ((cursorOf s c).usedAt + sec 600 ≤ max s.now t) :=
  ⟨sec 600, 0, setCursor 0 (fun x => { x with owner := some 1 }) wState, by decide +kernel⟩

theorem wit_RecorderFlushAndCursors_11 : ∃ (t m : Nat) (b : List Byte) (s : State), (Pend s m Cmd.recSeek b) ∧ (b.length = 11) ∧ (byteAt b 0 ≤ 3) ∧ (byteAt b 1 ≤ 6) ∧ (byteAt b 2 ≤ 3) ∧ (byteAt b 2 ≠ 0 ∨ leAt b 3 8 < 2 ^ 32) ∧ (cursorTaken (begun t m s) (byteAt b 0) m = false) :=
  ⟨0, 0, List.replicate 11 0, withReq 0 Cmd.recSeek (List.replicate 11 0) wState, by decide +kernel⟩

theorem wit_RecorderFlushAndCursors_12 : ∃ (t m : Nat) (b : List Byte) (s : State), (Pend s m Cmd.recSeek b) ∧ (b.length = 11) ∧ (byteAt b 0 ≤ 3) ∧ (byteAt b 1 ≤ 6) ∧ (byteAt b 2 ≤ 3) ∧ (byteAt b 2 ≠ 0 ∨ leAt b 3 8 < 2 ^ 32) ∧ (cursorTaken (begun t m s) (byteAt b 0) m = true) :=
  ⟨0, 0, List.replicate 11 0, setCursor 0 (fun x => { x with owner := some 9 }) (withReq 0 Cmd.recSeek (List.replicate 11 0) wState), by decide +kernel⟩

theorem wit_RecorderFlushAndCursors_13 : ∃ (t m : Nat) (b : List Byte) (s : State), (Pend s m Cmd.recRead b) ∧ (b.length = 2) ∧ (byteAt b 0 ≤ 3) ∧ (byteAt b 1 ≠ 0) ∧ (byteAt b 1 ≤ 16) ∧ ((cursorOf s (byteAt b 0)).owner = none) :=
  ⟨0, 0, [0, 1], withReq 0 Cmd.recRead [0, 1] wState, by decide +kernel⟩

theorem wit_RecorderFlushAndCursors_14 : ∃ (t m : Nat) (b : List Byte) (s : State), (Pend s m Cmd.recRead b) ∧ (b.length = 2) ∧ (byteAt b 0 ≤ 3) ∧ (byteAt b 1 ≠ 0) ∧ (byteAt b 1 ≤ 16) ∧ ((cursorOf s (byteAt b 0)).owner.isSome = true) ∧ (cursorTaken (begun t m s) (byteAt b 0) m = true) :=
  ⟨0, 0, [0, 1], setCursor 0 (fun x => { x with owner := some 9 }) (withReq 0 Cmd.recRead [0, 1] wState), by decide +kernel⟩

theorem wit_RecorderFlushAndCursors_15 : ∃ (t m n k : Nat) (b : List Byte) (l : List EventRec) (s : State), (Pend s m Cmd.recRead b) ∧ (b.length = 2) ∧ (byteAt b 0 ≤ 3) ∧ (byteAt b 1 ≠ 0) ∧ (byteAt b 1 ≤ 16) ∧ ((cursorOf s (byteAt b 0)).owner.isSome = true) ∧ (cursorTaken (begun t m s) (byteAt b 0) m = false) ∧ (heldRecords s.well = l) ∧ ((cursorOf s (byteAt b 0)).pos = n) ∧ ((cursorOf s (byteAt b 0)).gap = false) ∧ (l.filter (fun r => seqAtMost n r.seq && (cursorOf s (byteAt b 0)).minSev ≤ r.sev) = []) ∧ (s.well.nextSeq = k) :=
  ⟨0, 0, 0, 0, [0, 1], [], setCursor 0 (fun x => { x with owner := bindingOf (withReq 0 Cmd.recRead [0, 1] wState) 0 }) (withReq 0 Cmd.recRead [0, 1] wState), by decide +kernel⟩

theorem wit_RecorderFlushAndCursors_16 : ∃ (t m : Nat) (b : List Byte) (s : State), (Pend s m Cmd.recRelease b) ∧ (b.length = 1) ∧ (byteAt b 0 ≤ 3) ∧ ((cursorOf s (byteAt b 0)).owner.isSome = true) ∧ (cursorTaken (begun t m s) (byteAt b 0) m = false) :=
  ⟨0, 0, [0], setCursor 0 (fun x => { x with owner := bindingOf (withReq 0 Cmd.recRelease [0] wState) 0 }) (withReq 0 Cmd.recRelease [0] wState), by decide +kernel⟩

theorem wit_RecorderFlushAndCursors_17 : ∃ (t m : Nat) (s : State), (Pend s m Cmd.recFlush []) ∧ (s.thm.forbid = false) :=
  ⟨0, 0, withReq 0 Cmd.recFlush [] wState, by decide⟩

theorem wit_RecorderFlushAndCursors_18 : ∃ (t m : Nat) (s : State), (Pend s m Cmd.recFlush []) ∧ (s.thm.forbid = true) :=
  ⟨0, 0, withReq 0 Cmd.recFlush [] { wState with thm.forbid := true }, by decide⟩

theorem wit_RecorderFlushAndCursors_19 : ∃ (t m : Nat) (s : State), (Pend s m Cmd.recStatus []) :=
  ⟨0, 0, withReq 0 Cmd.recStatus [] wState, by decide⟩

theorem wit_RecorderFlushAndCursors_20 : ∃ (t m : Nat) (b : List Byte) (s : State), (Pend s m Cmd.recCodes b) ∧ (b.length = 2) :=
  ⟨0, 0, [0, 0], withReq 0 Cmd.recCodes [0, 0] wState, by decide⟩

/-! ## RecorderClearing -/

theorem wit_RecorderClearing_1 : ∃ (t m : Nat) (b : List Byte) (s : State), (Pend s m Cmd.recClear b) ∧ (b.length = 4) ∧ (prm s Prm.recClearMode = 0) :=
  ⟨0, 0, [0, 0, 0, 0], withReq 0 Cmd.recClear [0, 0, 0, 0] { wState with mbx.params := [(Prm.recClearMode, 0)] }, by decide⟩

theorem wit_RecorderClearing_2 : ∃ (t m : Nat) (b : List Byte) (s : State), (Pend s m Cmd.recClear b) ∧ (b.length = 4) ∧ (prm s Prm.recClearMode ≠ 0) ∧ (s.well.clear.isSome = true) :=
  ⟨0, 0, [0, 0, 0, 0], withReq 0 Cmd.recClear [0, 0, 0, 0] { wState with mbx.params := [(Prm.recClearMode, 1)], well.clear := some ⟨0, none, 0, 0, 0, 0, 0, 0⟩ }, by decide +kernel⟩

theorem wit_RecorderClearing_3 : ∃ (t m : Nat) (b : List Byte) (s : State), (Pend s m Cmd.recClear b) ∧ (b.length = 4) ∧ (prm s Prm.recClearMode ≠ 0) ∧ (s.well.clear = none) ∧ (s.thm.forbid = true) :=
  ⟨0, 0, [0, 0, 0, 0], withReq 0 Cmd.recClear [0, 0, 0, 0] { wState with mbx.params := [(Prm.recClearMode, 1)], thm.forbid := true }, by decide +kernel⟩

theorem wit_RecorderClearing_4 : ∃ (t m bound : Nat) (q : Request) (s : State), (requestOf s m Cmd.recClear = some q) ∧ (q.payload.length = 4) ∧ (prm s Prm.recClearMode ≠ 0) ∧ (s.well.clear = none) ∧ (s.thm.forbid = false) ∧ ((let last := (s.well.nextSeq + 2 ^ 32 - 1) % 2 ^ 32; if leAt q.payload 0 4 = 0xFFFFFFFF || seqBefore last (leAt q.payload 0 4) then last else leAt q.payload 0 4) = bound) :=
  ⟨0, 0, 0, ⟨Cmd.recClear, 1, 0, 0, 4, [0, 0, 0, 0], [], false⟩, withReq 0 Cmd.recClear [0, 0, 0, 0] { wState with well.nextSeq := 1, mbx.params := [(Prm.recClearMode, 1)] }, by decide +kernel⟩

theorem wit_RecorderClearing_5 : ∃ (t : Nat) (rt : Bool) (s : State), (s.well.clear = none) :=
  ⟨0, false, wState, by decide⟩

theorem wit_RecorderClearing_6 : ∃ (t : Nat) (rt : Bool) (j : ClearJob) (s : State), (s.well.clear = some j) ∧ (s.thm.forbid = true) :=
  ⟨0, false, ⟨0, none, 0, 0, 0, 0, 0, 0⟩, { wState with well.clear := some ⟨0, none, 0, 0, 0, 0, 0, 0⟩, thm.forbid := true }, by decide⟩

theorem wit_RecorderClearing_7 : ∃ (t : Nat) (rt : Bool) (j : ClearJob) (s : State), (s.well.clear = some j) ∧ (s.thm.forbid = false) :=
  ⟨0, false, ⟨0, none, 0, 0, 0, 0, 0, 0⟩, { wState with well.clear := some ⟨0, none, 0, 0, 0, 0, 0, 0⟩ }, by decide⟩

theorem wit_RecorderClearing_8 : ∃ (s : State) (j : ClearJob), (s.well.clear = some j) ∧ (s.well.store.any (clearable j.bound) = true) :=
  ⟨{ wState with well.clear := some ⟨0, none, 0, 0, 0, 0, 0, 0⟩, well.store := [⟨0, 0, 0, 0, 1, 0, .watch, 0, []⟩] }, ⟨0, none, 0, 0, 0, 0, 0, 0⟩, by decide +kernel⟩

theorem wit_RecorderClearing_9 : ∃ (s : State) (j : ClearJob), (s.well.clear = some j) ∧ (s.well.store.any (clearable j.bound) = false) :=
  ⟨{ wState with well.clear := some ⟨0, none, 0, 0, 0, 0, 0, 0⟩ }, ⟨0, none, 0, 0, 0, 0, 0, 0⟩, by decide +kernel⟩

/-! ## ImageTransferAndCheck -/

theorem wit_ImageTransferAndCheck_1 : ∃ (t m : Nat) (b : List Byte) (s : State), (Pend s m Cmd.imgOpen b) ∧ (b.length = 5) ∧ (isImage (byteAt b 0) = true) ∧ (leAt b 1 4 ≠ 0) ∧ (leAt b 1 4 ≤ largestImage (byteAt b 0) + 256) ∧ (slotGuard m (byteAt b 0) true (begun t m s) = none) ∧ (slotBusy s (byteAt b 0) = false) :=
  ⟨0, 0, [1, 0, 1, 0, 0], withReq 0 Cmd.imgOpen [1, 0, 1, 0, 0] wState, by decide +kernel⟩

theorem wit_ImageTransferAndCheck_2 : ∃ (t m c : Nat) (b : List Byte) (s : State), (Pend s m Cmd.imgOpen b) ∧ (b.length = 5) ∧ (isImage (byteAt b 0) = true) ∧ (leAt b 1 4 ≠ 0) ∧ (leAt b 1 4 ≤ largestImage (byteAt b 0) + 256) ∧ (slotGuard m (byteAt b 0) true (begun t m s) = some c) :=
  ⟨0, 0, Ev.nvmTemp, [1, 0, 1, 0, 0], withReq 0 Cmd.imgOpen [1, 0, 1, 0, 0] { wState with thm.forbid := true }, by decide +kernel⟩

theorem wit_ImageTransferAndCheck_3 : ∃ (t m : Nat) (b : List Byte) (s : State), (Pend s m Cmd.imgOpen b) ∧ (b.length = 5) ∧ (isImage (byteAt b 0) = true) ∧ (leAt b 1 4 ≠ 0) ∧ (leAt b 1 4 ≤ largestImage (byteAt b 0) + 256) ∧ (slotGuard m (byteAt b 0) true (begun t m s) = none) ∧ (slotBusy s (byteAt b 0) = true) :=
  ⟨0, 0, [1, 0, 1, 0, 0], withReq 0 Cmd.imgOpen [1, 0, 1, 0, 0] (setImg 1 (fun i => { i with marker := true }) wState), by decide +kernel⟩

theorem wit_ImageTransferAndCheck_4 : ∃ (t m : Nat) (b : List Byte) (i : ImgSlot) (s : State), (Pend s m Cmd.imgBlock b) ∧ (9 ≤ b.length) ∧ (b.length ≤ 1032) ∧ (leAt b 1 3 = 0) ∧ (blockBad (begun t m s) b = none) ∧ (imgOf s (byteAt b 0) = i) ∧ (i.blocks.find? (fun x => x.1 = leAt b 4 4) = none) ∧ (slotGuard m (byteAt b 0) true (begun t m s) = none) :=
  ⟨0, 0, [1, 0, 0, 0, 0, 0, 0, 0, 7], ⟨List.replicate 256 0, .writing, 1, [], none, 0, false, 0⟩, withReq 0 Cmd.imgBlock [1, 0, 0, 0, 0, 0, 0, 0, 7] (setImg 1 (fun i => { i with st := .writing, len := 1 }) wState), by decide +kernel⟩

theorem wit_ImageTransferAndCheck_5 : ∃ (t m : Nat) (b : List Byte) (s : State), (Pend s m Cmd.imgBlock b) ∧ (9 ≤ b.length) ∧ (b.length ≤ 1032) ∧ (leAt b 1 3 = 0) ∧ (blockBad (begun t m s) b = none) ∧ (((imgOf s (byteAt b 0)).blocks.find? (fun x => x.1 = leAt b 4 4)).map (·.2) = some (b.drop 8)) ∧ (slotGuard m (byteAt b 0) true (begun t m s) = none) :=
  ⟨0, 0, [1, 0, 0, 0, 0, 0, 0, 0, 7], withReq 0 Cmd.imgBlock [1, 0, 0, 0, 0, 0, 0, 0, 7] (setImg 1 (fun i => { i with st := .writing, len := 1, blocks := [(0, [7])] }) wState), by decide +kernel⟩

theorem wit_ImageTransferAndCheck_6 : ∃ (t m : Nat) (b c : List Byte) (s : State), (Pend s m Cmd.imgBlock b) ∧ (9 ≤ b.length) ∧ (b.length ≤ 1032) ∧ (leAt b 1 3 = 0) ∧ (blockBad (begun t m s) b = none) ∧ (((imgOf s (byteAt b 0)).blocks.find? (fun x => x.1 = leAt b 4 4)).map (·.2) = some c) ∧ (c ≠ b.drop 8) :=
  ⟨0, 0, [1, 0, 0, 0, 0, 0, 0, 0, 7], [8], withReq 0 Cmd.imgBlock [1, 0, 0, 0, 0, 0, 0, 0, 7] (setImg 1 (fun i => { i with st := .writing, len := 1, blocks := [(0, [8])] }) wState), by decide +kernel⟩

theorem wit_ImageTransferAndCheck_7 : ∃ (t m c : Nat) (b : List Byte) (s : State), (Pend s m Cmd.imgBlock b) ∧ (9 ≤ b.length) ∧ (b.length ≤ 1032) ∧ (leAt b 1 3 = 0) ∧ (blockBad (begun t m s) b = none) ∧ (((imgOf s (byteAt b 0)).blocks.find? (fun x => x.1 = leAt b 4 4)).map (·.2) = none) ∧ (slotGuard m (byteAt b 0) true (begun t m s) = some c) :=
  ⟨0, 0, Ev.nvmTemp, [1, 0, 0, 0, 0, 0, 0, 0, 7], withReq 0 Cmd.imgBlock [1, 0, 0, 0, 0, 0, 0, 0, 7] { setImg 1 (fun i => { i with st := .writing, len := 1 }) wState with thm.forbid := true }, by decide +kernel⟩

theorem wit_ImageTransferAndCheck_8 : ∃ (t m : Nat) (pn : Option Nat) (b : List Byte) (s : State), (Pend s m Cmd.imgCheck b) ∧ (b.length = 1) ∧ (isImage (byteAt b 0) = true) ∧ ((imgOf s (byteAt b 0)).st = .complete ∨ (imgOf s (byteAt b 0)).st = .checked) ∧ (slotGuard m (byteAt b 0) false (begun t m s) = none) ∧ (slotBusy s (byteAt b 0) = false) :=
  ⟨0, 0, none, [1], withReq 0 Cmd.imgCheck [1] (setImg 1 (fun i => { i with st := .complete }) wState), by decide +kernel⟩

theorem wit_ImageTransferAndCheck_9 : ∃ (t m c : Nat) (pn : Option Nat) (b : List Byte) (s : State), (Pend s m Cmd.imgCheck b) ∧ (b.length = 1) ∧ (isImage (byteAt b 0) = true) ∧ ((imgOf s (byteAt b 0)).st = .complete ∨ (imgOf s (byteAt b 0)).st = .checked) ∧ (slotGuard m (byteAt b 0) false (begun t m s) = some c) :=
  ⟨0, 0, Ev.imgOwned, none, [1], withReq 0 Cmd.imgCheck [1] (setImg 1 (fun i => { i with st := .complete, owner := some (9, 5) }) wState), by decide +kernel⟩

theorem wit_ImageTransferAndCheck_10 : ∃ (i : Nat) (p : Option Nat) (s : State), (headerOk i (imgOf s i).len (stagedHeader s i) = false) :=
  ⟨1, none, wState, by decide⟩

theorem wit_ImageTransferAndCheck_11 : ∃ (t m : Nat) (b : List Byte) (s : State), (Pend s m Cmd.imgAbort b) ∧ (b.length = 1) ∧ (isImage (byteAt b 0) = true) ∧ (slotGuard m (byteAt b 0) false (begun t m s) = none) ∧ (slotBusy s (byteAt b 0) = false) :=
  ⟨0, 0, [1], withReq 0 Cmd.imgAbort [1] wState, by decide +kernel⟩

theorem wit_ImageTransferAndCheck_12 : ∃ (t m : Nat) (b : List Byte) (s : State), (Pend s m Cmd.imgAbort b) ∧ (b.length = 1) ∧ (isImage (byteAt b 0) = true) ∧ (slotGuard m (byteAt b 0) false (begun t m s) = none) ∧ (slotBusy s (byteAt b 0) = true) :=
  ⟨0, 0, [1], withReq 0 Cmd.imgAbort [1] (setImg 1 (fun i => { i with marker := true }) wState), by decide +kernel⟩

theorem wit_ImageTransferAndCheck_13 : ∃ (t i : Nat) (s : State), ((imgOf s i).owner.isSome = true) ∧ ((imgOf s i).usedAt + sec 3600 ≤ max s.now t) :=
  ⟨sec 3600, 1, setImg 1 (fun i => { i with owner := some (9, 5) }) wState, by decide +kernel⟩

theorem wit_ImageTransferAndCheck_14 : ∃ (t i : Nat) (s : State), (max s.now t < (imgOf s i).usedAt + sec 3600) :=
  ⟨0, 1, wState, by decide +kernel⟩

theorem wit_ImageTransferAndCheck_15 : ∃ (t m : Nat) (s : State), (Pend s m Cmd.imgStatus []) :=
  ⟨0, 0, withReq 0 Cmd.imgStatus [] wState, by decide⟩

/-! ## InstallSteps -/

theorem wit_InstallSteps_1 : ∃ (t m : Nat) (pn : Option Nat) (b : List Byte) (s : State), (Pend s m Cmd.imgInstall b) ∧ (b.length = 1) ∧ (byteAt b 0 ≠ 0) ∧ (byteAt b 0 ≤ 8) ∧ ((imgOf s (byteAt b 0)).st = .checked) ∧ (startRefusal (byteAt b 0) pn (begun t m s) = none) :=
  ⟨0, 0, none, [2], withReq 0 Cmd.imgInstall [2] (setImg 2 (fun i => { i with st := .checked }) uState), by decide +kernel⟩

theorem wit_InstallSteps_2 : ∃ (t m : Nat) (pn : Option Nat) (b : List Byte) (a : Reply) (s : State), (Pend s m Cmd.imgInstall b) ∧ (b.length = 1) ∧ (byteAt b 0 ≠ 0) ∧ (byteAt b 0 ≤ 8) ∧ ((imgOf s (byteAt b 0)).st = .checked) ∧ (startRefusal (byteAt b 0) pn (begun t m s) = some a) ∧ (a.status = .refusedGuard ∨ a.status = .incompatible) :=
  ⟨0, 0, none, [2], guardReply Ev.nvmTemp, withReq 0 Cmd.imgInstall [2] { setImg 2 (fun i => { i with st := .checked }) uState with thm.forbid := true }, by decide +kernel⟩

theorem wit_InstallSteps_3 : ∃ (t m : Nat) (b : List Byte) (l : List Nat) (s : State), (Pend s m Cmd.tapInstall b) ∧ (b.length = 2) ∧ (byteAt b 0 ≤ 2) ∧ ((imgOf s 9).st = .checked) ∧ (byteAt b 1 ≤ 16) ∧ ((tapTargets s (byteAt b 0) (byteAt b 1)).isEmpty = false) ∧ (tapTargets s (byteAt b 0) (byteAt b 1) = l) ∧ (startRefusal 9 none (begun t m s) = none) ∧ (l.all (tapFits (stagedHeader (begun t m s) 9) (begun t m s)) = true) :=
  ⟨0, 0, [2, 0], [0], withReq 0 Cmd.tapInstall [2, 0] (setRing 0 (fun r => { r with n := some 1 }) (setImg 9 (fun i => { i with st := .checked }) uState)), by decide +kernel⟩

theorem wit_InstallSteps_4 : ∃ (t m : Nat) (b : List Byte) (l : List Nat) (s : State), (Pend s m Cmd.tapInstall b) ∧ (b.length = 2) ∧ (byteAt b 0 ≤ 2) ∧ ((imgOf s 9).st = .checked) ∧ (byteAt b 1 ≤ 16) ∧ ((tapTargets s (byteAt b 0) (byteAt b 1)).isEmpty = false) ∧ (tapTargets s (byteAt b 0) (byteAt b 1) = l) ∧ (startRefusal 9 none (begun t m s) = none) ∧ (l.all (tapFits (stagedHeader (begun t m s) 9) (begun t m s)) = false) :=
  ⟨0, 0, [2, 0], [0], withReq 0 Cmd.tapInstall [2, 0] (setTap 0 (fun x => { x with hwRev := 9 }) (setRing 0 (fun r => { r with n := some 1 }) (setImg 9 (fun i => { i with st := .checked }) uState))), by decide +kernel⟩

theorem wit_InstallSteps_5 : ∃ (t : Nat) (ok ps : Bool) (s : State), (s.upd.job = none) :=
  ⟨0, true, true, uState, by decide⟩

theorem wit_InstallSteps_6 : ∃ (t e : Nat) (l : List Nat) (ps : Bool) (j : Install) (s : State), (s.upd.job = some j) ∧ (j.todo = e :: l) ∧ (j.busy = true) ∧ (j.id ≠ 9) ∧ (j.failed = 0) :=
  ⟨0, 0, [], true, ⟨2, some 0, 1, 1, [0], true, 0, none, 0, false, [], none, 0, [0, 0], [], [], none⟩, { uState with upd.job := some ⟨2, some 0, 1, 1, [0], true, 0, none, 0, false, [], none, 0, [0, 0], [], [], none⟩ }, by decide⟩

theorem wit_InstallSteps_7 : ∃ (t e : Nat) (l : List Nat) (ps : Bool) (j : Install) (s : State), (s.upd.job = some j) ∧ (j.todo = e :: l) ∧ (j.busy = true) ∧ (j.id ≠ 9) ∧ (j.failed ≠ 0) :=
  ⟨0, 0, [], true, ⟨2, some 0, 1, 1, [0], true, 1, none, 0, false, [], none, 0, [0, 0], [], [], none⟩, { uState with upd.job := some ⟨2, some 0, 1, 1, [0], true, 1, none, 0, false, [], none, 0, [0, 0], [], [], none⟩ }, by decide⟩

theorem wit_InstallSteps_8 : ∃ (t e : Nat) (l : List Nat) (ps : Bool) (j : Install) (s : State), (s.upd.job = some j) ∧ (j.todo = e :: l) ∧ (j.busy = true) ∧ (j.id ≠ 9) :=
  ⟨0, 0, [], true, ⟨2, some 0, 1, 1, [0], true, 0, none, 0, false, [], none, 0, [0, 0], [], [], none⟩, { uState with upd.job := some ⟨2, some 0, 1, 1, [0], true, 0, none, 0, false, [], none, 0, [0, 0], [], [], none⟩ }, by decide⟩

theorem wit_InstallSteps_9 : ∃ (s : State), (s.upd.job = none) :=
  ⟨uState, by decide⟩

theorem wit_InstallSteps_10 : ∃ (s : State) (j : Install), (s.upd.job = some j) ∧ (j.todo = []) :=
  ⟨{ uState with upd.job := some ⟨2, some 0, 1, 1, [], true, 0, none, 0, false, [], none, 0, [0, 0], [], [], none⟩ }, ⟨2, some 0, 1, 1, [], true, 0, none, 0, false, [], none, 0, [0, 0], [], [], none⟩, by decide⟩

theorem wit_InstallSteps_11 : ∃ (s : State) (j : Install) (e c : Nat) (l : List Nat), (s.upd.job = some j) ∧ (j.todo = e :: l) ∧ (j.id ≠ 4) ∧ (installBlock j s = some c) :=
  ⟨{ { uState with upd.job := some ⟨2, some 0, 1, 1, [0], true, 0, none, 0, false, [], none, 0, [0, 0], [], [], none⟩ } with thm.forbid := true }, ⟨2, some 0, 1, 1, [0], true, 0, none, 0, false, [], none, 0, [0, 0], [], [], none⟩, 0, Ev.nvmTemp, [], by decide +kernel⟩

theorem wit_InstallSteps_12 : ∃ (s : State) (j : Install) (e : Nat) (l : List Nat), (s.upd.job = some j) ∧ (j.todo = e :: l) ∧ (j.id ≠ 4) ∧ (installBlock j s = none) :=
  ⟨{ uState with upd.job := some ⟨2, some 0, 1, 1, [0], true, 0, none, 0, false, [], none, 0, [0, 0], [], [], none⟩ }, ⟨2, some 0, 1, 1, [0], true, 0, none, 0, false, [], none, 0, [0, 0], [], [], none⟩, 0, [], by decide +kernel⟩

theorem wit_InstallSteps_13 : ∃ (t c : Nat) (j : Install) (s : State), (s.upd.job = some j) ∧ (j.paused.isSome = true) ∧ (installBlock j (clocked t s) = none) ∧ (sec 1 ≤ c) ∧ (j.id ≠ 9) :=
  ⟨0, sec 1, ⟨2, some 0, 1, 1, [0], true, 0, some (0x0B0A, 0), 0, false, [], none, 0, [0, 0], [], [], none⟩, { uState with upd.job := some ⟨2, some 0, 1, 1, [0], true, 0, some (0x0B0A, 0), 0, false, [], none, 0, [0, 0], [], [], none⟩ }, by decide +kernel⟩

theorem wit_InstallSteps_14 : ∃ (t c : Nat) (j : Install) (s : State), (s.upd.job = some j) ∧ (c < sec 1) :=
  ⟨0, 0, ⟨2, some 0, 1, 1, [0], true, 0, some (0x0B0A, 0), 0, false, [], none, 0, [0, 0], [], [], none⟩, { uState with upd.job := some ⟨2, some 0, 1, 1, [0], true, 0, some (0x0B0A, 0), 0, false, [], none, 0, [0, 0], [], [], none⟩ }, by decide⟩

theorem wit_InstallSteps_15 : ∃ (t c a : Nat) (j : Install) (s : State), (s.upd.job = some j) ∧ (j.paused = some (c, a)) ∧ (a + sec 600 ≤ max s.now t) ∧ (j.id ≠ 9) :=
  ⟨sec 600, 0x0B0A, 0, ⟨2, some 0, 1, 1, [0], true, 0, some (0x0B0A, 0), 0, false, [], none, 0, [0, 0], [], [], none⟩, { uState with upd.job := some ⟨2, some 0, 1, 1, [0], true, 0, some (0x0B0A, 0), 0, false, [], none, 0, [0, 0], [], [], none⟩ }, by decide +kernel⟩

theorem wit_InstallSteps_16 : ∃ (t c a : Nat) (j : Install) (s : State), (s.upd.job = some j) ∧ (j.paused = some (c, a)) ∧ (max s.now t < a + sec 600) :=
  ⟨0, 0x0B0A, 0, ⟨2, some 0, 1, 1, [0], true, 0, some (0x0B0A, 0), 0, false, [], none, 0, [0, 0], [], [], none⟩, { uState with upd.job := some ⟨2, some 0, 1, 1, [0], true, 0, some (0x0B0A, 0), 0, false, [], none, 0, [0, 0], [], [], none⟩ }, by decide +kernel⟩

/-! ## PowerAndBoot -/

theorem wit_PowerAndBoot_1 : ∃ (t a st ha hs : Nat) (s : State), (s.core.mode = .shelf) ∧ (s.core.booting = false) ∧ (s.core.bootRetryAt ≤ max s.now t) ∧ (s.core.wakeArmed = true) ∧ (16000 < a) ∧ (ms 100 ≤ ha) :=
  ⟨0, 20000, 0, ms 100, 0, { core.wakeArmed := true }, by decide +kernel⟩

theorem wit_PowerAndBoot_2 : ∃ (t a st ha hs : Nat) (s : State), (s.core.mode = .shelf) ∧ (s.core.booting = false) ∧ (s.core.bootRetryAt ≤ max s.now t) ∧ (s.core.wakeArmed = false) ∧ (s.core.shelfPowerFail = true) ∧ (150000 ≤ st) ∧ (ms 100 ≤ hs) :=
  ⟨0, 0, 150000, 0, ms 100, { core.wakeArmed := false, core.shelfPowerFail := true }, by decide +kernel⟩

theorem wit_PowerAndBoot_3 : ∃ (t a st ha hs : Nat) (s : State), (s.core.mode ≠ .shelf ∨ (ha < ms 100 ∧ hs < ms 100)) :=
  ⟨0, 0, 0, 0, 0, wState, by decide⟩

theorem wit_PowerAndBoot_4 : ∃ (t mv h : Nat) (s : State), (s.core.mode = .shelf) ∧ (mv < 16000) ∧ (sec 1 ≤ h) :=
  ⟨0, 0, sec 1, { }, by decide +kernel⟩

theorem wit_PowerAndBoot_5 : ∃ (t : Nat) (s : State), (s.core.booting = true) ∧ (s.core.mode = .shelf) :=
  ⟨0, { core.booting := true }, by decide⟩

theorem wit_PowerAndBoot_6 : ∃ (t : Nat) (o : BootObs) (s : State), (s.core.booting = true) ∧ (s.thm.held = false) :=
  ⟨0, ⟨0, 0, true, none, [], [true, true, true, true], []⟩, { core.booting := true }, by decide⟩

theorem wit_PowerAndBoot_8 : ∃ (t : Nat) (o : BootObs) (s : State), (s.core.booting = false) :=
  ⟨0, ⟨0, 0, true, none, [], [true, true, true, true], []⟩, wState, by decide⟩

theorem wit_PowerAndBoot_9 : ∃ (t mv h st : Nat) (s : State), (s.core.mode ≠ .shelf) ∧ (s.core.auxOk = true) ∧ (mv < 15000) ∧ (ms 2 ≤ h) ∧ (st < 150000) :=
  ⟨0, 0, ms 2, 0, { wState with core.auxOk := true }, by decide +kernel⟩

theorem wit_PowerAndBoot_10 : ∃ (t mv h st : Nat) (s : State), (s.core.mode ≠ .shelf) ∧ (s.core.auxOk = true) ∧ (mv < 15000) ∧ (ms 2 ≤ h) ∧ (150000 ≤ st) ∧ (s.thm.held = false) ∧ (s.core.mode = .watch ∨ s.core.mode = .dormant ∨ s.core.mode = .service ∨ s.core.mode = .tripped) :=
  ⟨0, 0, ms 2, 150000, { wState with core.auxOk := true }, by decide +kernel⟩

theorem wit_PowerAndBoot_11 : ∃ (t mv h st : Nat) (s : State), (s.core.mode ≠ .shelf) ∧ (s.core.auxOk = true) ∧ (mv < 15000) ∧ (ms 2 ≤ h) ∧ (150000 ≤ st) ∧ (s.thm.held = false) ∧ (s.core.mode = .run ∨ s.core.mode = .hold) ∧ ((record Ev.auxLost 3 [] { (clocked t s) with core.auxOk := false, core.power := .harvest, core.auxLost := true }).con.opening = none) :=
  ⟨0, 0, ms 2, 150000, { wState with core.auxOk := true, core.mode := .run }, by decide +kernel⟩

theorem wit_PowerAndBoot_12 : ∃ (t mv h : Nat) (s : State), (s.core.mode ≠ .shelf) ∧ (s.core.auxOk = false) ∧ (s.core.power ≠ .cistern) ∧ (16000 < mv) ∧ (ms 100 ≤ h) :=
  ⟨0, 16001, ms 100, { wState with core.power := .harvest }, by decide +kernel⟩

theorem wit_PowerAndBoot_13 : ∃ (t mv h : Nat) (s : State), (mv ≤ 16000 ∨ s.core.power = .cistern) :=
  ⟨0, 0, 0, wState, by decide⟩

theorem wit_PowerAndBoot_14 : ∃ (t st : Nat) (x : Option Int) (s : State), (s.core.mode ≠ .shelf) ∧ (s.core.auxOk = false) ∧ (s.core.power = .cistern ∨ st < 150000) ∧ (s.thm.held = false) :=
  ⟨0, 0, none, wState, by decide +kernel⟩

/-! ## DormantAndModeCommands -/

theorem wit_DormantAndModeCommands_1 : ∃ (t : Nat) (rts : List (List (Option Nat × Option Nat))) (fr : List (Nat × Bool × List Byte)) (tc : List (Option Int)) (sh hl : Option Int) (s : State), (s.core.mode ≠ .dormant) :=
  ⟨0, [], [], [], none, none, wState, by decide⟩

theorem wit_DormantAndModeCommands_2 : ∃ (t : Nat) (rts : List (List (Option Nat × Option Nat))) (fr : List (Nat × Bool × List Byte)) (tc : List (Option Int)) (sh hl : Option Int) (s : State), (s.core.mode = .dormant) ∧ (s.thm.held = false) ∧ (s.core.pairStandbyProfile = true) ∧ (loopRuns s = true) :=
  ⟨0, [], [], [], none, none, { eState with core.mode := .dormant, core.pairStandbyProfile := true }, by decide +kernel⟩

theorem wit_DormantAndModeCommands_3 : ∃ (t : Nat) (rts : List (List (Option Nat × Option Nat))) (fr : List (Nat × Bool × List Byte)) (tc : List (Option Int)) (sh hl : Option Int) (s : State), (s.core.mode = .dormant) ∧ (s.thm.held = false) ∧ (s.core.pairStandbyProfile = false) ∧ ([0, 1].filter (ringServed (clocked t s)) = []) ∧ (loopRuns s = true) :=
  ⟨0, [], [], [], none, none, { setFn 1 (fun f => { f with state := .stopped }) eState with core.mode := .dormant }, by decide +kernel⟩

theorem wit_DormantAndModeCommands_4 : ∃ (t : Nat) (rts : List (List (Option Nat × Option Nat))) (fr : List (Nat × Bool × List Byte)) (tc : List (Option Int)) (sh hl : Option Int) (s : State), (s.core.mode = .dormant) ∧ (s.thm.held = false) ∧ (s.core.pairStandbyProfile = false) ∧ ([0, 1].filter (ringServed (clocked t s)) ≠ []) :=
  ⟨0, [], [], [], none, none, setRing 0 (fun x => { x with up := true }) { eState with core.mode := .dormant }, by decide +kernel⟩

theorem wit_DormantAndModeCommands_5 : ∃ (t : Nat) (rts : List (List (Option Nat × Option Nat))) (fr : List (Nat × Bool × List Byte)) (tc : List (Option Int)) (sh hl : Option Int) (s : State), (s.core.mode = .dormant) ∧ (s.thm.held = false) ∧ (s.core.pairStandbyProfile = true) ∧ (loopRuns s = false) :=
  ⟨0, [], [], [], none, none, { wState with core.mode := .dormant, core.pairStandbyProfile := true }, by decide +kernel⟩

theorem wit_DormantAndModeCommands_6 : ∃ (t a : Nat) (s : State), (s.core.wakeAt = some a) ∧ (untilStamp (clocked t s) a ≤ 0) :=
  ⟨sec 1, 5, { wState with core.wakeAt := some 5 }, by decide +kernel⟩

theorem wit_DormantAndModeCommands_7 : ∃ (c : Nat) (s : State), (s.core.mode = .dormant) :=
  ⟨0, { wState with core.mode := .dormant }, by decide⟩

theorem wit_DormantAndModeCommands_8 : ∃ (t : Nat) (s : State), (s.core.mode = .watch) ∧ (pairMode s = false) ∧ (prm s Prm.dormantAuto = 1) ∧ (s.core.booting = false) ∧ (s.thm.held = false) ∧ (quietNow (clocked t s) = false) :=
  ⟨0, { wState with mbx.params := [(Prm.dormantAuto, 1)], saf.present := [1] }, by decide +kernel⟩

theorem wit_DormantAndModeCommands_9 : ∃ (t : Nat) (s : State), (s.core.mode = .watch) ∧ (pairMode s = false) ∧ (prm s Prm.dormantAuto = 1) ∧ (s.core.booting = false) ∧ (s.thm.held = false) ∧ (quietNow (clocked t s) = true) ∧ (s.core.quietSince + sec (prmN s Prm.dormantQuiet) ≤ max s.now t) ∧ (eventFar (clocked t s) = true) :=
  ⟨sec 1000000, { wState with mbx.params := [(Prm.dormantAuto, 1)] }, by decide +kernel⟩

theorem wit_DormantAndModeCommands_11 : ∃ (t m : Nat) (s : State), (Pend s m Cmd.modeStatus []) :=
  ⟨0, 0, withReq 0 Cmd.modeStatus [] wState, by decide⟩

theorem wit_DormantAndModeCommands_12 : ∃ (t m : Nat) (s : State), (Pend s m Cmd.enterService []) ∧ (stringConnected s = false) ∧ (stoppedFor .service s = none) :=
  ⟨0, 0, withReq 0 Cmd.enterService [] (wState), by decide +kernel⟩

theorem wit_DormantAndModeCommands_13 : ∃ (t m : Nat) (s : State), (Pend s m Cmd.enterService []) ∧ (stringConnected s = true) :=
  ⟨0, 0, withReq 0 Cmd.enterService [] ({ wState with con.k := [{ kf := true }] }), by decide +kernel⟩

theorem wit_DormantAndModeCommands_14 : ∃ (t m : Nat) (s : State), (Pend s m Cmd.leaveService []) ∧ (s.saf.latched = []) ∧ ((List.range 21).find? (stopped s) = none) :=
  ⟨0, 0, withReq 0 Cmd.leaveService [] (wState), by decide +kernel⟩

theorem wit_DormantAndModeCommands_15 : ∃ (t m f : Nat) (s : State), (Pend s m Cmd.leaveService []) ∧ (s.saf.latched = []) ∧ ((List.range 21).find? (stopped s) = some f) :=
  ⟨0, 0, 4, withReq 0 Cmd.leaveService [] (setFn 4 (fun f => { f with state := .stopped }) wState), by decide +kernel⟩

theorem wit_DormantAndModeCommands_16 : ∃ (t m c : Nat) (l : List Nat) (s : State), (Pend s m Cmd.leaveService []) ∧ (s.saf.latched = c :: l) ∧ (stoppedFor .tripped s = none) :=
  ⟨0, 0, 0x0801, [], withReq 0 Cmd.leaveService [] { wState with saf.latched := [0x0801] }, by decide +kernel⟩

theorem wit_DormantAndModeCommands_17 : ∃ (t m : Nat) (s : State), (Pend s m Cmd.run []) ∧ (stoppedFor .run s = none) ∧ (runBlock s = none) :=
  ⟨0, 0, withReq 0 Cmd.run [] ({ upState with core.mode := .hold }), by decide +kernel⟩

theorem wit_DormantAndModeCommands_18 : ∃ (t m c : Nat) (s : State), (Pend s m Cmd.run []) ∧ (stoppedFor .run s = none) ∧ (runBlock s = some c) :=
  ⟨0, 0, Ev.functionBusy, withReq 0 Cmd.run [] { upState with core.mode := .hold, disp.ending := 1 }, by decide +kernel⟩

theorem wit_DormantAndModeCommands_19 : ∃ (t m : Nat) (s : State), (Pend s m Cmd.hold []) ∧ (s.con.opening = none) ∧ (s.disp.ending = 0) ∧ (stoppedFor .hold s = none) :=
  ⟨0, 0, withReq 0 Cmd.hold [] ({ wState with core.mode := .run }), by decide +kernel⟩

theorem wit_DormantAndModeCommands_20 : ∃ (t m : Nat) (s : State), (Pend s m Cmd.hold []) ∧ (s.disp.ending ≠ 0) :=
  ⟨0, 0, withReq 0 Cmd.hold [] ({ wState with core.mode := .run, disp.ending := 1 }), by decide +kernel⟩

theorem wit_DormantAndModeCommands_21 : ∃ (t m : Nat) (s : State), (Pend s m Cmd.enterDormant []) ∧ (pairMode s = false) ∧ (stringConnected s = false) ∧ (s.saf.latched = []) ∧ (stoppedFor .dormant s = none) :=
  ⟨0, 0, withReq 0 Cmd.enterDormant [] (wState), by decide +kernel⟩

theorem wit_DormantAndModeCommands_22 : ∃ (t m : Nat) (s : State), (Pend s m Cmd.enterDormant []) ∧ (pairMode s = true) :=
  ⟨0, 0, withReq 0 Cmd.enterDormant [] (pState), by decide +kernel⟩

theorem wit_DormantAndModeCommands_23 : ∃ (t m : Nat) (s : State), (Pend s m Cmd.enterDormant []) ∧ (pairMode s = false) ∧ (stringConnected s = true) :=
  ⟨0, 0, withReq 0 Cmd.enterDormant [] ({ wState with con.k := [{ kf := true }] }), by decide +kernel⟩

theorem wit_DormantAndModeCommands_24 : ∃ (t m c : Nat) (l : List Nat) (s : State), (Pend s m Cmd.enterDormant []) ∧ (pairMode s = false) ∧ (stringConnected s = false) ∧ (s.saf.latched = c :: l) :=
  ⟨0, 0, 0x0801, [], withReq 0 Cmd.enterDormant [] { wState with saf.latched := [0x0801] }, by decide +kernel⟩

theorem wit_DormantAndModeCommands_25 : ∃ (t m : Nat) (s : State), (Pend s m Cmd.wake []) ∧ (s.core.pairStandbyProfile = false) :=
  ⟨0, 0, withReq 0 Cmd.wake [] ({ wState with core.mode := .dormant }), by decide +kernel⟩

theorem wit_DormantAndModeCommands_26 : ∃ (t m : Nat) (s : State), (Pend s m Cmd.wake []) ∧ (s.core.pairStandbyProfile = true) :=
  ⟨0, 0, withReq 0 Cmd.wake [] ({ wState with core.mode := .dormant, core.pairStandbyProfile := true }), by decide +kernel⟩

theorem wit_DormantAndModeCommands_27 : ∃ (t m : Nat) (b : List Byte) (s : State), (Pend s m Cmd.wakeAt b) ∧ (b.length = 8) ∧ (leAt b 0 8 = 0) :=
  ⟨0, 0, [0, 0, 0, 0, 0, 0, 0, 0], withReq 0 Cmd.wakeAt [0, 0, 0, 0, 0, 0, 0, 0] wState, by decide +kernel⟩

theorem wit_DormantAndModeCommands_28 : ∃ (t m : Nat) (b : List Byte) (s : State), (Pend s m Cmd.wakeAt b) ∧ (b.length = 8) ∧ (leAt b 0 8 ≠ 0) ∧ (untilStamp (clocked t s) (leAt b 0 8) ≤ ((2592000 * 2 ^ 32 : Nat) : Int)) :=
  ⟨0, 0, [0, 0, 0, 0, 1, 0, 0, 0], withReq 0 Cmd.wakeAt [0, 0, 0, 0, 1, 0, 0, 0] wState, by decide +kernel⟩

theorem wit_DormantAndModeCommands_29 : ∃ (t m : Nat) (s : State), (Pend s m Cmd.enterShelf []) ∧ (stringConnected s = false) ∧ (s.thm.forbid = false) :=
  ⟨0, 0, withReq 0 Cmd.enterShelf [] (wState), by decide +kernel⟩

theorem wit_DormantAndModeCommands_30 : ∃ (t m : Nat) (s : State), (Pend s m Cmd.enterShelf []) ∧ (stringConnected s = true) :=
  ⟨0, 0, withReq 0 Cmd.enterShelf [] ({ wState with con.k := [{ kf := true }] }), by decide +kernel⟩

theorem wit_DormantAndModeCommands_31 : ∃ (t m : Nat) (s : State), (Pend s m Cmd.enterShelf []) ∧ (stringConnected s = false) ∧ (s.thm.forbid = true) :=
  ⟨0, 0, withReq 0 Cmd.enterShelf [] ({ wState with thm.forbid := true }), by decide +kernel⟩

/-! ## ThermalSensorsAndShutdown -/

theorem wit_ThermalSensorsAndShutdown_1 : ∃ (t : Nat) (ts : List (Option Int)) (s : State), (s.core.mode = .shelf ∨ s.thm.held = true) :=
  ⟨0, [], { }, by decide⟩

theorem wit_ThermalSensorsAndShutdown_2 : ∃ (t : Nat) (ts v : List (Option Int)) (s : State), (s.core.mode ≠ .shelf) ∧ (s.thm.held = false) ∧ (supReloading s = false) ∧ (v = (List.range 9).map (fun k => sensorValue (ts.getD k none))) :=
  ⟨0, [], List.replicate 9 none, wState, by decide +kernel⟩

theorem wit_ThermalSensorsAndShutdown_3 : ∃ (s : State), (boardTemps s.thm.ts = none) :=
  ⟨wState, by decide⟩

theorem wit_ThermalSensorsAndShutdown_4 : ∃ (s : State) (hi lo : Int), (boardTemps s.thm.ts = some (hi, lo)) ∧ (9500 < hi ∨ lo < -3000) ∧ (s.thm.forbid = false) :=
  ⟨{ wState with thm.ts := List.replicate 9 (some 9600) }, 9600, 9600, by decide⟩

theorem wit_ThermalSensorsAndShutdown_5 : ∃ (s : State) (hi lo : Int), (boardTemps s.thm.ts = some (hi, lo)) ∧ (-2800 ≤ lo) ∧ (hi ≤ 9300) :=
  ⟨{ wState with thm.ts := List.replicate 9 (some 2500) }, 2500, 2500, by decide⟩

theorem wit_ThermalSensorsAndShutdown_6 : ∃ (s : State) (v : Int) (n : Nat), (tsMax s.thm.ts = some (v, n)) ∧ (prm s Prm.tempWarn ≤ v) ∧ (s.thm.hot = false) :=
  ⟨{ wState with thm.ts := [some 15000] }, 15000, 1, by decide +kernel⟩

theorem wit_ThermalSensorsAndShutdown_7 : ∃ (s : State) (v : Int) (n : Nat), (tsMax s.thm.ts = some (v, n)) ∧ (v ≤ prm s Prm.tempWarn - 200) :=
  ⟨{ wState with thm.ts := [some 2500] }, 2500, 1, by decide +kernel⟩

theorem wit_ThermalSensorsAndShutdown_8 : ∃ (t a : Nat) (s : State), (s.thm.forbid = true) ∧ (s.thm.forbidOk = some a) ∧ (a + sec 10 ≤ max s.now t) :=
  ⟨sec 10, 0, { wState with thm.forbid := true, thm.forbidOk := some 0 }, by decide +kernel⟩

theorem wit_ThermalSensorsAndShutdown_9 : ∃ (t mk h m : Nat) (s : State), (maskOf ((List.range 9).map (fun k => bitOf mk k && !s.thm.tsFault.getD k false)) = m) ∧ (m ≠ 0) ∧ (ms 1 ≤ h) ∧ (s.core.mode ≠ .shelf) ∧ (s.thm.shutdown = none) ∧ (partnerFollows (clocked t s) = false) :=
  ⟨0, 1, ms 1, 1, wState, by decide +kernel⟩

theorem wit_ThermalSensorsAndShutdown_10 : ∃ (t mk h m : Nat) (s : State), (maskOf ((List.range 9).map (fun k => bitOf mk k && !s.thm.tsFault.getD k false)) = m) ∧ (m ≠ 0) ∧ (ms 1 ≤ h) ∧ (s.core.mode ≠ .shelf) ∧ (s.thm.shutdown = none) ∧ (partnerFollows (clocked t s) = true) :=
  ⟨0, 1, ms 1, 1, { pState with pair.last := some ⟨0, 0, true⟩ }, by decide +kernel⟩

theorem wit_ThermalSensorsAndShutdown_11 : ∃ (t mk h : Nat) (s : State), (h < ms 1 ∨ maskOf ((List.range 9).map (fun k => bitOf mk k && !s.thm.tsFault.getD k false)) = 0) :=
  ⟨0, 0, 0, wState, by decide⟩

theorem wit_ThermalSensorsAndShutdown_12 : ∃ (t a : Nat) (q : BitVec 9) (s : State), (s.thm.shutdown = some (a, q)) ∧ (a + ms 19 ≤ max s.now t) ∧ (s.thm.held = false) :=
  ⟨ms 20, 0, 1, { wState with thm.shutdown := some (0, 1) }, by decide +kernel⟩

theorem wit_ThermalSensorsAndShutdown_13 : ∃ (t b : Nat) (s : State), (s.thm.held = true) ∧ (sec 30 ≤ b) ∧ (s.core.mode ≠ .shelf) :=
  ⟨0, sec 30, { wState with thm.held := true }, by decide +kernel⟩

theorem wit_ThermalSensorsAndShutdown_14 : ∃ (t b : Nat) (s : State), (b < sec 30) :=
  ⟨0, 0, wState, by decide +kernel⟩

theorem wit_ThermalSensorsAndShutdown_15 : ∃ (t : Nat) (vs vl : Int) (s : State), (s.thm.reconnect = true) ∧ (s.core.mode = .watch) ∧ (s.thm.held = false) ∧ (s.core.booting = false) ∧ (connectBlock { (clocked t s) with con.vStr := vs, con.vLnk := vl } = none) :=
  ⟨0, 3200, 0, { cState with thm.reconnect := true }, by decide +kernel, by decide +kernel, by decide +kernel, by decide +kernel, by
    have h : activeUsable { clocked 0 { cState with thm.reconnect := true } with con.vStr := 3200, con.vLnk := 0 } = true := zeroSet_usable
    unfold connectBlock otherGuards
    rw [h]
    decide +kernel⟩

theorem wit_ThermalSensorsAndShutdown_16 : ∃ (t : Nat) (vs vl : Int) (s : State), (s.thm.reconnect = true) ∧ (s.core.mode = .watch) ∧ (s.thm.held = false) ∧ (s.core.booting = false) ∧ ((connectBlock { (clocked t s) with con.vStr := vs, con.vLnk := vl }).isSome = true) :=
  ⟨0, 0, 0, { wState with thm.reconnect := true }, by decide +kernel⟩

/-! ## ContainerLoopLaw -/

theorem wit_ContainerLoopLaw_3 : ∃ (r : Bool) (c : Nat) (s : State), (loopFault s = some c) ∧ (manualNow s = false) ∧ (s.thm.coolFault = false) :=
  ⟨false, 3, { wState with thm.cellsBad := true }, by decide +kernel⟩

theorem wit_ContainerLoopLaw_4 : ∃ (r : Bool) (c : Nat) (s : State), (loopFault s = some c) ∧ (manualNow s = false) ∧ (s.thm.coolFault = true) :=
  ⟨false, 3, { wState with thm.cellsBad := true, thm.coolFault := true }, by decide +kernel⟩

theorem wit_ContainerLoopLaw_5 : ∃ (r : Bool) (c : Nat) (s : State), (loopFault s = some c) ∧ (manualNow s = true) ∧ (s.thm.coolFault = true) :=
  ⟨false, 3, { wState with thm.cellsBad := true, thm.coolFault := true, thm.manualEnd := some 5 }, by decide +kernel⟩

theorem wit_ContainerLoopLaw_6 : ∃ (r : Bool) (s : State), (loopFault s = none) ∧ (manualNow s = false) :=
  ⟨false, wState, by decide +kernel⟩

theorem wit_ContainerLoopLaw_7 : ∃ (r : Bool) (s : State), (loopFault s = none) ∧ (manualNow s = true) :=
  ⟨false, { wState with thm.manualEnd := some 5 }, by decide +kernel⟩

theorem wit_ContainerLoopLaw_8 : ∃ (s : State), ((s.thm.tc.getD 0 {}).bad = true ∨ (s.thm.tc.getD 1 {}).bad = true ∨ s.thm.cellsBad = true) :=
  ⟨{ wState with thm.cellsBad := true }, by decide +kernel⟩

theorem wit_ContainerLoopLaw_9 : ∃ (s : State) (hi lo : Int), (prm s Prm.coolTarget < hi) :=
  ⟨wState, 20000, 0, by decide⟩

theorem wit_ContainerLoopLaw_10 : ∃ (s : State) (hi lo : Int), (prm s Prm.coolTarget - 100 < hi) ∧ (s.thm.loop = .cool) :=
  ⟨{ wState with thm.loop := .cool }, 20000, 0, by decide +kernel⟩

theorem wit_ContainerLoopLaw_11 : ∃ (s : State) (hi lo : Int), (hi ≤ prm s Prm.coolTarget - 100) ∧ (lo < prm s Prm.heatOn) ∧ (0 ≤ prm s Prm.heatHyst) :=
  ⟨wState, -20000, -20000, by decide⟩

theorem wit_ContainerLoopLaw_12 : ∃ (s : State) (hi lo : Int), (hi ≤ prm s Prm.coolTarget - 100) ∧ (lo < prm s Prm.heatOn + prm s Prm.heatHyst) ∧ (s.thm.loop = .heat) :=
  ⟨{ wState with thm.loop := .heat }, -20000, -20000, by decide +kernel⟩

theorem wit_ContainerLoopLaw_13 : ∃ (s : State) (hi lo : Int), (hi ≤ prm s Prm.coolTarget - 100) ∧ (prm s Prm.heatOn ≤ lo) ∧ (prm s Prm.heatOn + prm s Prm.heatHyst ≤ lo ∨ s.thm.loop ≠ .heat) :=
  ⟨wState, -20000, 20000, by decide⟩

theorem wit_ContainerLoopLaw_14 : ∃ (fresh : Bool) (hi lo : Int) (s u : State), (loopNext s hi lo = .heat) ∧ (u = (if fresh || loopNext s hi lo != s.thm.loop then bumpless { s with thm.loop := loopNext s hi lo } hi else s)) :=
  ⟨false, -20000, -20000, { wState with thm.loop := .heat }, { wState with thm.loop := .heat }, by decide +kernel⟩

theorem wit_ContainerLoopLaw_15 : ∃ (fresh : Bool) (hi lo : Int) (s u : State), (loopNext s hi lo = .idle) ∧ (u = (if fresh || loopNext s hi lo != s.thm.loop then bumpless { s with thm.loop := loopNext s hi lo } hi else s)) :=
  ⟨false, 0, 2000, { wState with thm.loop := .idle }, { wState with thm.loop := .idle }, by decide +kernel⟩

theorem wit_ContainerLoopLaw_16 : ∃ (fresh : Bool) (hi lo : Int) (s u : State), (loopNext s hi lo = .cool) ∧ (u = (if fresh || loopNext s hi lo != s.thm.loop then bumpless { s with thm.loop := loopNext s hi lo } hi else s)) :=
  ⟨false, 20000, 20000, { wState with thm.loop := .cool }, { wState with thm.loop := .cool }, by decide +kernel⟩

theorem wit_ContainerLoopLaw_17 : ∃ (hi i : Int) (s : State), (clampTo 0 (32767 * 65536) (s.thm.intPmp + loopStep s (hi - prm s Prm.coolTarget)) = i) :=
  ⟨0, 0, wState, by decide +kernel⟩

theorem wit_ContainerLoopLaw_18 : ∃ (v i : Int) (s : State), ((s.thm.tc.getD 0 {}).val = some v) ∧ (clampTo 0 (32767 * 65536) (s.thm.intVlv + loopStep s (v - (prm s Prm.coolTarget - 500))) = i) :=
  ⟨0, 0, { wState with thm.tc := [{ val := some 0 }, {}, {}, {}] }, by decide +kernel⟩

theorem wit_ContainerLoopLaw_19 : ∃ (s : State), ((s.thm.tc.getD 0 {}).val = none) :=
  ⟨wState, by decide +kernel⟩

theorem wit_ContainerLoopLaw_21 : ∃ (want : Bool) (s : State), (htrMay want s = false) :=
  ⟨false, wState, by decide +kernel⟩

theorem wit_ContainerLoopLaw_22 : ∃ (want : Bool) (s : State), (htrMay want s = true) ∧ (s.thm.htrAt = none) :=
  ⟨true, { wState with thm.htrAt := none, thm.pmp := 32767, thm.tc := [{ val := some 0, bad := false }, { val := some 0, bad := false }, {}, {}] }, by decide +kernel⟩

theorem wit_ContainerLoopLaw_23 : ∃ (want : Bool) (a : Nat) (s : State), (htrMay want s = true) ∧ (s.thm.htrAt = some a) ∧ (a + sec (prmN s Prm.htrMinCycle) ≤ s.now) :=
  ⟨true, 0, { wState with now := sec 100000, thm.htrAt := some 0, thm.pmp := 32767, thm.tc := [{ val := some 0, bad := false }, { val := some 0, bad := false }, {}, {}] }, by decide +kernel⟩

theorem wit_ContainerLoopLaw_24 : ∃ (want : Bool) (a : Nat) (s : State), (htrMay want s = true) ∧ (s.thm.htrAt = some a) ∧ (s.now < a + sec (prmN s Prm.htrMinCycle)) :=
  ⟨true, 0, { wState with thm.htrAt := some 0, thm.pmp := 32767, thm.tc := [{ val := some 0, bad := false }, { val := some 0, bad := false }, {}, {}] }, by decide +kernel⟩

/-! ## ContainerLoopAndThermalCommands -/

theorem wit_ContainerLoopAndThermalCommands_1 : ∃ (t : Nat) (tc : List (Option Int)) (s : State), (loopRuns s = true) ∧ (s.core.mode ≠ .dormant) ∧ (s.thm.lastUpdate + sec 1 ≤ max s.now t) :=
  ⟨sec 1, [], eState, by decide +kernel⟩

theorem wit_ContainerLoopAndThermalCommands_2 : ∃ (t : Nat) (tc : List (Option Int)) (s : State), (max s.now t < s.thm.lastUpdate + sec 1 ∨ loopRuns s = false ∨ s.core.mode = .dormant) :=
  ⟨0, [], wState, by decide +kernel⟩

theorem wit_ContainerLoopAndThermalCommands_3 : ∃ (t : Nat) (s : State), (s.thm.coolFault = true) ∧ (s.thm.fallback = false) ∧ (manualNow (clocked t s) = false) ∧ (loopRuns s = true) ∧ (s.thm.coolFaultAt + sec 300 ≤ max s.now t) :=
  ⟨sec 300, { eState with thm.coolFault := true }, by decide +kernel⟩

theorem wit_ContainerLoopAndThermalCommands_4 : ∃ (t : Nat) (s : State), (s.thm.coolFault = false) :=
  ⟨0, wState, by decide⟩

theorem wit_ContainerLoopAndThermalCommands_5 : ∃ (t : Nat) (s : State), (s.core.mode ≠ .dormant) ∧ (s.core.mode ≠ .shelf) ∧ (s.thm.lastUpdate + sec 3 ≤ max s.now t) ∧ (s.thm.watchdog = false) :=
  ⟨sec 3, wState, by decide +kernel⟩

theorem wit_ContainerLoopAndThermalCommands_6 : ∃ (t : Nat) (s : State), (s.thm.watchdog = true ∨ max s.now t < s.thm.lastUpdate + sec 3) :=
  ⟨0, wState, by decide +kernel⟩

theorem wit_ContainerLoopAndThermalCommands_7 : ∃ (t u h : Nat) (s : State), (s.core.mode ≠ .shelf) ∧ (3600 ≤ u) :=
  ⟨0, 3600, 0, wState, by decide⟩

theorem wit_ContainerLoopAndThermalCommands_8 : ∃ (t u h : Nat) (s : State), (s.core.mode ≠ .shelf) ∧ (u < 3600) ∧ (sec 1 ≤ h) ∧ (s.thm.vlvOpen = false) :=
  ⟨0, 0, sec 1, wState, by decide +kernel⟩

theorem wit_ContainerLoopAndThermalCommands_9 : ∃ (t u h : Nat) (s : State), (u < 3600) ∧ (h < sec 1 ∨ s.thm.vlvOpen = true) :=
  ⟨0, 0, 0, wState, by decide⟩

theorem wit_ContainerLoopAndThermalCommands_10 : ∃ (t m : Nat) (s : State), (Pend s m Cmd.thermStatus []) :=
  ⟨0, 0, withReq 0 Cmd.thermStatus [] wState, by decide⟩

theorem wit_ContainerLoopAndThermalCommands_11 : ∃ (t m : Nat) (b : List Byte) (s : State), (Pend s m Cmd.thermManual b) ∧ (b.length = 7) ∧ (leAt b 0 1 ≤ 1) ∧ (leAt b 1 2 ≤ 32767) ∧ (leAt b 3 2 ≤ 32767) ∧ (leAt b 5 2 ≠ 0) ∧ (leAt b 5 2 ≤ 600) :=
  ⟨0, 0, [1, 0, 0, 0, 0, 1, 0], withReq 0 Cmd.thermManual [1, 0, 0, 0, 0, 1, 0] wState, by decide +kernel⟩

theorem wit_ContainerLoopAndThermalCommands_12 : ∃ (s : State), (s.thm.vlvOpen = false) :=
  ⟨wState, by decide⟩

theorem wit_ContainerLoopAndThermalCommands_13 : ∃ (s : State), (s.thm.vlvOpen = true) :=
  ⟨{ wState with thm.vlvOpen := true }, by decide⟩

theorem wit_ContainerLoopAndThermalCommands_14 : ∃ (t m : Nat) (b : List Byte) (s : State), (Pend s m Cmd.thermManual b) ∧ (b.length = 7) ∧ (1 < leAt b 0 1) :=
  ⟨0, 0, [2, 0, 0, 0, 0, 1, 0], withReq 0 Cmd.thermManual [2, 0, 0, 0, 0, 1, 0] wState, by decide +kernel⟩

theorem wit_ContainerLoopAndThermalCommands_15 : ∃ (t m : Nat) (b : List Byte) (s : State), (Pend s m Cmd.thermManual b) ∧ (b.length = 7) ∧ (leAt b 0 1 ≤ 1) ∧ (32767 < leAt b 1 2) :=
  ⟨0, 0, [0, 0, 128, 0, 0, 1, 0], withReq 0 Cmd.thermManual [0, 0, 128, 0, 0, 1, 0] wState, by decide +kernel⟩

theorem wit_ContainerLoopAndThermalCommands_16 : ∃ (t m : Nat) (b : List Byte) (s : State), (Pend s m Cmd.thermManual b) ∧ (b.length = 7) ∧ (leAt b 0 1 ≤ 1) ∧ (leAt b 1 2 ≤ 32767) ∧ (32767 < leAt b 3 2) :=
  ⟨0, 0, [0, 0, 0, 0, 128, 1, 0], withReq 0 Cmd.thermManual [0, 0, 0, 0, 128, 1, 0] wState, by decide +kernel⟩

theorem wit_ContainerLoopAndThermalCommands_17 : ∃ (t m : Nat) (b : List Byte) (s : State), (Pend s m Cmd.thermManual b) ∧ (b.length = 7) ∧ (leAt b 0 1 ≤ 1) ∧ (leAt b 1 2 ≤ 32767) ∧ (leAt b 3 2 ≤ 32767) ∧ (leAt b 5 2 = 0 ∨ 600 < leAt b 5 2) :=
  ⟨0, 0, [0, 0, 0, 0, 0, 0, 0], withReq 0 Cmd.thermManual [0, 0, 0, 0, 0, 0, 0] wState, by decide +kernel⟩

theorem wit_ContainerLoopAndThermalCommands_18 : ∃ (t a : Nat) (s : State), (s.thm.manualEnd = some a) ∧ (a ≤ max s.now t) :=
  ⟨5, 5, { wState with thm.manualEnd := some 5 }, by decide⟩

theorem wit_ContainerLoopAndThermalCommands_19 : ∃ (t m : Nat) (s : State), (Pend s m Cmd.thermAuto []) :=
  ⟨0, 0, withReq 0 Cmd.thermAuto [] wState, by decide⟩

theorem wit_ContainerLoopAndThermalCommands_20 : ∃ (s : State), (s.thm.coolFault = true) :=
  ⟨{ wState with thm.coolFault := true }, by decide⟩

theorem wit_ContainerLoopAndThermalCommands_21 : ∃ (s : State), (s.thm.coolFault = false) :=
  ⟨wState, by decide⟩

/-! ## FrameCrcIsTheOneStated -/

/-! ## NearestTemperatureRule -/

theorem wit_NearestTemperatureRule_1 : ∃ (temps : List (Option Int)) (c : Nat) (v : Int), (tapTemp temps (c / 16) (c % 16 / 2) = some v) :=
  ⟨[some 5], 1, 5, by decide⟩

theorem wit_NearestTemperatureRule_2 : ∃ (temps : List (Option Int)) (c : Nat) (v : Int), (tapTemp temps (c / 16) (c % 16 / 2) = none) ∧ (([if c % 16 / 2 = 0 then none else tapTemp temps (c / 16) (c % 16 / 2 - 1), if c % 16 / 2 = 7 then none else tapTemp temps (c / 16) (c % 16 / 2 + 1)].filterMap id).min? = some v) :=
  ⟨[some 5, none, some 3], 2, 3, by decide⟩

theorem wit_NearestTemperatureRule_3 : ∃ (temps : List (Option Int)) (c : Nat), (tapTemp temps (c / 16) (c % 16 / 2) = none) ∧ (([if c % 16 / 2 = 0 then none else tapTemp temps (c / 16) (c % 16 / 2 - 1), if c % 16 / 2 = 7 then none else tapTemp temps (c / 16) (c % 16 / 2 + 1)].filterMap id) = []) :=
  ⟨[], 2, by decide⟩

/-! ## AcceptanceFilters -/

theorem wit_AcceptanceFilters_1 : ∃ (t c i : Nat) (f : CanFrame) (s : State), (c < 2) ∧ (canHears (clocked t s) c = true) ∧ (c = 0 → mapMode s = false) ∧ (s.bus.can.length = 2) ∧ ((canOf s c).rx.length < 64) ∧ (i < 4) ∧ (bitOf (canPrm s c (Prm.canFiltId0 + i)) 31 = true) ∧ ((Nat.land (Nat.xor f.id (canPrm s c (Prm.canFiltId0 + i) % 2 ^ 29)) (canPrm s c (Prm.canFiltMask0 + i) % 2 ^ 29) = 0 ∧ bitOf (canPrm s c (Prm.canFiltId0 + i)) 29 = f.ide)) :=
  ⟨0, 1, 0, ⟨5, false, false, false, false, false, 0, []⟩, { wState with mbx.params := [(Prm.canFiltId0 + 256, 5 + 2 ^ 31), (Prm.canFiltMask0 + 256, 2047)], mbx.fns := List.replicate 32 { state := .running } }, by decide +kernel⟩

theorem wit_AcceptanceFilters_2 : ∃ (t c : Nat) (f : CanFrame) (s : State), (c < 2) ∧ (canHears (clocked t s) c = true) ∧ (c = 0 → mapMode s = false) ∧ (s.bus.can.length = 2) ∧ ((canOf s c).rx.length < 64) ∧ (∀ i < 4, bitOf (canPrm s c (Prm.canFiltId0 + i)) 31 = false) :=
  ⟨0, 1, ⟨5, false, false, false, false, false, 0, []⟩, { wState with mbx.params := [], mbx.fns := List.replicate 32 { state := .running } }, by decide +kernel⟩

theorem wit_AcceptanceFilters_3 : ∃ (t c : Nat) (f : CanFrame) (s : State), (c < 2) ∧ (canHears (clocked t s) c = true) ∧ (c = 0 → mapMode s = false) ∧ (s.bus.can.length = 2) ∧ (∃ i < 4, bitOf (canPrm s c (Prm.canFiltId0 + i)) 31 = true) ∧ (∀ i < 4, bitOf (canPrm s c (Prm.canFiltId0 + i)) 31 = true → ¬(Nat.land (Nat.xor f.id (canPrm s c (Prm.canFiltId0 + i) % 2 ^ 29)) (canPrm s c (Prm.canFiltMask0 + i) % 2 ^ 29) = 0 ∧ bitOf (canPrm s c (Prm.canFiltId0 + i)) 29 = f.ide)) :=
  ⟨0, 1, ⟨6, false, false, false, false, false, 0, []⟩, { wState with mbx.params := [(Prm.canFiltId0 + 256, 5 + 2 ^ 31), (Prm.canFiltMask0 + 256, 2047)], mbx.fns := List.replicate 32 { state := .running } }, by decide +kernel⟩

/-! ## FullFifoDropsAndMarks -/

theorem wit_FullFifoDropsAndMarks_1 : ∃ (t c : Nat) (f : CanFrame) (s : State), (c < 2) ∧ (canHears (clocked t s) c = true) ∧ (c = 0 → mapMode s = false) ∧ (s.bus.can.length = 2) ∧ (accepted s c f = true) ∧ ((canOf s c).rx.length = 64) :=
  ⟨0, 1, ⟨5, false, false, false, false, false, 0, []⟩, { wState with mbx.fns := List.replicate 32 { state := .running }, bus.can := [{}, { rx := List.replicate 64 ⟨0, false, 0, ⟨5, false, false, false, false, false, 0, []⟩⟩ }] }, by decide +kernel⟩

theorem wit_FullFifoDropsAndMarks_2 : ∃ (t c : Nat) (f : CanFrame) (s : State), (c < 2) ∧ (canHears (clocked t s) c = true) ∧ (c = 0 → mapMode s = false) ∧ (s.bus.can.length = 2) ∧ (accepted s c f = true) ∧ ((canOf s c).rx.length < 64) :=
  ⟨0, 1, ⟨5, false, false, false, false, false, 0, []⟩, { wState with mbx.fns := List.replicate 32 { state := .running } }, by decide +kernel⟩

/-! ## AbortedTransferStands -/

theorem wit_AbortedTransferStands_2 : ∃ (t : Nat) (b : List Byte) (s : State), (s.bus.svc.selected = false) :=
  ⟨0, [5], wState, by decide +kernel⟩

theorem wit_AbortedTransferStands_3 : ∃ (t a : Nat) (s : State), (svcAlive (clocked t s) = true) ∧ (s.bus.svc.addr = a) :=
  ⟨0, 0x3C, { wState with mbx.fns := List.replicate 32 { state := .running } }, by decide +kernel⟩

/-! ## WellFormed: each kind of check refuses an ill-formed command and accepts a well-formed one -/

theorem test_wf_island : (Instr.islandWake 0 11).wf = false ∧ (Instr.islandWake 0 10).wf = true := by decide
theorem test_wf_trigger : (Instr.triggerFire 0 32).wf = false ∧ (Instr.triggerFire 0 31).wf = true := by decide
theorem test_wf_tap : (Instr.clkLockLost 0 32).wf = false ∧ (Instr.clkLockLost 0 31).wf = true := by decide
theorem test_wf_channel : (Instr.cellComparatorTrip 0 0 16 true 0 0).wf = false ∧ (Instr.cellComparatorTrip 0 0 15 true 0 0).wf = true := by decide
theorem test_wf_ring : (Instr.commandWindow 0 2).wf = false ∧ (Instr.commandWindow 0 1).wf = true := by decide
theorem test_wf_mailbox : (Instr.getStatus 0 8).wf = false ∧ (Instr.getStatus 0 7).wf = true := by decide
theorem test_wf_plane : (Instr.hello 0 2 1 []).wf = false ∧ (Instr.hello 0 1 1 []).wf = true := by decide
theorem test_wf_port : (Instr.hello 0 0 0 []).wf = false ∧ (Instr.hello 0 0 4 []).wf = false ∧ (Instr.hello 0 0 3 []).wf = true := by decide
theorem test_wf_tap_request : (Instr.nop 0 ⟨2, 1, 1, 0, [], none⟩).wf = false ∧ (Instr.nop 0 ⟨0, 17, 1, 0, [], none⟩).wf = false ∧
    (Instr.nop 0 ⟨0, 1, 256, 0, [], none⟩).wf = false ∧ (Instr.nop 0 ⟨0, 1, 1, 65536, [], none⟩).wf = false ∧
    (Instr.nop 0 ⟨0, 1, 1, 0, [], some 256⟩).wf = false ∧ (Instr.nop 0 ⟨1, 16, 255, 65535, [], some 255⟩).wf = true := by decide
theorem test_wf_slot : (Instr.balLeaseExpiry 0 0 2).wf = false ∧ (Instr.balLeaseExpiry 0 0 1).wf = true := by decide
theorem test_wf_cell : (Instr.balForceEnd 0 512).wf = false ∧ (Instr.balForceEnd 0 511).wf = true := by decide
theorem test_wf_lane : (Instr.laneTrain 0 8).wf = false ∧ (Instr.laneTrain 0 7).wf = true := by decide
theorem test_wf_input : (Instr.siDiscrepancy 0 4).wf = false ∧ (Instr.siDiscrepancy 0 3).wf = true := by decide
theorem test_wf_output : (Instr.kPullinEnd 0 4).wf = false ∧ (Instr.kPullinEnd 0 3).wf = true := by decide
theorem test_wf_map_frame : (Instr.frMapSend 0 5 none).wf = false ∧ (Instr.frMapSend 0 4 none).wf = true := by decide
theorem test_wf_cursor : (Instr.cursorExpiry 0 4).wf = false ∧ (Instr.cursorExpiry 0 3).wf = true := by decide
theorem test_wf_image : (Instr.imgOwnerTimeout 0 10).wf = false ∧ (Instr.imgOwnerTimeout 0 9).wf = true := by decide
theorem test_wf_can_frame : (Instr.canFrameReceive 0 0 ⟨2048, false, false, false, false, false, 0, []⟩).wf = false ∧
    (Instr.canFrameReceive 0 0 ⟨536870912, true, false, false, false, false, 0, []⟩).wf = false ∧
    (Instr.canFrameReceive 0 0 ⟨0, false, false, false, false, false, 16, []⟩).wf = false ∧
    (Instr.canFrameReceive 0 0 ⟨0, false, false, false, false, false, 15, List.replicate 65 0⟩).wf = false ∧
    (Instr.canFrameReceive 0 1 ⟨2047, false, false, false, false, false, 15, List.replicate 64 0⟩).wf = true := by decide
theorem test_wf_controller : (Instr.busOff 0 2).wf = false ∧ (Instr.busOff 0 1).wf = true := by decide
theorem test_wf_outcome : (Instr.canTxEnd 0 0 3).wf = false ∧ (Instr.canTxEnd 0 0 2).wf = true := by decide

/-! ## Values that the spec itself gives -/

/-- The CRC of "123456789" (02 R45). -/
theorem test_crc16_value : crc16 [0x31, 0x32, 0x33, 0x34, 0x35, 0x36, 0x37, 0x38, 0x39] = 0x29B1 := by decide +kernel
/-- No row of the table gives bits, so no word spells a command. -/
theorem test_no_word_spells_a_command : decodeTableWord 16 0x1234 = none := by decide

end Sys2Proof.Machine
end

namespace Sys2Proof.Machine

/-! ## Every command answers -/

/-- The frame of every command: each arm of `exec` is a `timed` effect at the command's own instant, and `timed` always answers
(notes/assumptions/1.md). -/
theorem exec_answers (c : Instr) (s : State) :
    ∃ u, exec c s = .next u ∧ u.pending = s.pending ∧ u.now = max s.now c.instant := by
  cases c
  all_goals
    dsimp only [exec]
    exact timed_answers ..

/-- Settles O2: the frame of a command keeps the queue and takes the later of the two instants. -/
theorem everyCommandAnswersANextState : Obligations.EveryCommandAnswersANextState := by
  unfold Obligations.EveryCommandAnswersANextState
  intro c s
  obtain ⟨u, hu, hpending, hnow⟩ := exec_answers c s
  exact ⟨u, hu, hpending, hnow ▸ Nat.le_max_left ..⟩

/-! ## The queue is served -/

/-- A step takes the front command off the queue. -/
theorem step_serves_front {c : Instr} {rest : List Instr} {s : State} (h : s.pending = c :: rest) :
    ∃ u, step s = .next u ∧ u.pending = rest ∧ s.now ≤ u.now := by
  obtain ⟨u, hu, hpending, hnow⟩ := everyCommandAnswersANextState c { s with pending := rest }
  refine ⟨u, ?_, hpending, hnow⟩
  rw [step, h]
  exact hu

/-- A run goes on from the state that its first step answers. -/
theorem steps_succ_of_next {s u : State} (h : step s = .next u) (n : Nat) : steps (n + 1) s = steps n u := by
  rw [steps, h]

/-- One step for each command of the queue empties it, from every state that holds that queue. -/
theorem steps_serve_queue (queue : List Instr) (s : State) (h : s.pending = queue) :
    ∃ u, steps queue.length s = some u ∧ u.pending = [] ∧ s.now ≤ u.now := by
  induction queue generalizing s with
  | nil => exact ⟨s, rfl, h, Nat.le_refl _⟩
  | cons c rest ih =>
    obtain ⟨v, hstep, hrest, hsv⟩ := step_serves_front h
    obtain ⟨u, hrun, hempty, hvu⟩ := ih v hrest
    exact ⟨u, (steps_succ_of_next hstep _).trans hrun, hempty, Nat.le_trans hsv hvu⟩

/-- Settles O3: by induction on the queue, each step serving the command in front. -/
theorem theQueueIsServed : Obligations.TheQueueIsServed := by
  unfold Obligations.TheQueueIsServed
  exact fun s => steps_serve_queue s.pending s rfl

end Sys2Proof.Machine

namespace Sys2Proof.Machine

/-! ## Clock faults and crossings (01 R12, R15) -/

/-- A clock off by more than 0.5 % for 1 ms trips, once until it is back in range (01 R12). -/
theorem clockFault_trips {t ppm held : Nat} {s : State} (hoff : 5000 < ppm) (hheld : ms 1 ≤ held) (hfirst : s.core.clockFault = false) :
    exec (.clockFault t ppm held) s =
      .next (after t (fun s => tripHeld Ev.clockFault Finder.sp [(ppm : Int)] { s with core.clockFault := true }) s) := by
  rw [exec_clockFault]
  apply timed_next
  simp [Nat.not_le.mpr hoff, Nat.not_lt.mpr hheld, hfirst]

/-- A clock back in range is no longer a present cause (01 R12). -/
theorem clockFault_clears {t ppm : Nat} (held : Nat) (s : State) (hin : ppm ≤ 5000) :
    exec (.clockFault t ppm held) s =
      .next (after t (fun s => clearPresent Ev.clockFault { s with core.clockFault := false }) s) := by
  rw [exec_clockFault]
  apply timed_next
  rw [if_pos hin]

/-- A handshake 10 µs late between two of the eleven islands is recorded with both of them (01 R15). -/
theorem crossingTimeout_records {t src dst waited : Nat} (s : State) (hlate : us 10 ≤ waited) (hsrc : src < 11) (hdst : dst < 11) :
    exec (.crossingTimeout t src dst waited) s =
      .next (after t (fun s => record Ev.crossingTimeout 3 [(src : Int), dst]
        { s with isl.timeouts := s.isl.timeouts ++ [(src, dst)] }) s) := by
  rw [exec_crossingTimeout]
  apply timed_next
  simp [hlate, hsrc, hdst]

/-! ## Island sleep and wake (12 R361, R365) -/

@[simp] theorem islandOf_clocked (t : Nat) (s : State) (k : Nat) : islandOf (clocked t s) k = islandOf s k := rfl

/-- An island that may nap and is free to do so naps once latency and break-even, 1.9 ms, fit in the time left (12 R361). -/
theorem chooseSleep_nap {left : Int} (h : 1900000 ≤ left) : chooseSleep .nap (some left) false false = .nap := by
  simp [chooseSleep, h]

/-- A busy crossing holds an island that may sleep at all in Idle (01 R16, 12 R361). -/
theorem chooseSleep_busy {cap : Sleep} (left : Option Int) (held : Bool) (h : cap ≠ .awake) : chooseSleep cap left true held = .idle := by
  simp [chooseSleep, h]

/-- A quiet island takes the state the rule chooses, and its wake starts that state's latency before its next event; with no rail
value given its rail stays (12 R361). -/
theorem islandSleep_takes {t k : Nat} {next : Option Nat} {busy : Bool} {x : Sleep} {s : State} (hk : k < 11)
    (hmode : s.core.mode ≠ .shelf) (hjob : s.upd.job = none)
    (hx : chooseSleep (sleepCap (clocked t s) k) (next.map fun (n : Nat) => (n : Int) - (max s.now t : Nat) - (us 50 : Nat)) busy
      (islandOf s k).heldIdle = x) :
    exec (.islandSleep t k next busy none) s =
      .next (after t (setIsland k (fun i =>
        { i with sleep := x, nextEvent := next, wakeAt := next.map (fun n => n - x.latency) })) s) := by
  subst hx
  rw [exec_islandSleep]
  apply timed_next
  simp [Nat.not_le.mpr hk, hmode, hjob]

/-- A napping island with no scheduled wake is simply Awake (12 R363). -/
theorem islandWake_unscheduled {t k : Nat} {s : State} (hk : k < 11) (hmode : s.core.mode ≠ .shelf)
    (hsleep : (islandOf s k).sleep = .nap) (hwake : (islandOf s k).wakeAt = none) :
    exec (.islandWake t k) s = .next (after t (setIsland k (fun i => { i with sleep := .awake, wakeAt := none })) s) := by
  rw [exec_islandWake]
  apply timed_next
  simp [Nat.not_le.mpr hk, hmode, hsleep, hwake]

/-- A schedule missed by more than the wake latency and 10 µs is WAKE_LATE, and holds the island at Idle (12 R365). -/
theorem islandWake_late {t k a : Nat} {s : State} (hk : k < 11) (hmode : s.core.mode ≠ .shelf)
    (hsleep : (islandOf s k).sleep = .nap) (hwake : (islandOf s k).wakeAt = some a)
    (hlate : a + Sleep.nap.latency + us 10 < max s.now t) :
    exec (.islandWake t k) s =
      .next (after t (fun s => record Ev.wakeLate 3 [(k : Int)]
        (setIsland k (fun i => { i with wakeLate := i.wakeLate + 1, heldIdle := true })
          (setIsland k (fun i => { i with sleep := .awake, wakeAt := none }) s))) s) := by
  rw [exec_islandWake]
  apply timed_next
  have hdue : decide (a + Sleep.nap.latency + us 10 < max s.now t) = true := decide_eq_true hlate
  simp only [islandOf_clocked, clocked_core, clocked_now, hsleep, hwake, Option.map_some, Option.getD_some, hdue]
  simp [Nat.not_le.mpr hk, hmode]

/-! ## Cistern, backup cell and status contacts (20 R554, R555, R558) -/

/-- A Cistern charged to 90 %, able to hold 45 J, with a good backup cell clears the three flags and records nothing (20 R554, R555). -/
theorem cisternMeasure_healthy {t full present mv : Nat} {s : State} (hmode : s.core.mode ≠ .shelf)
    (hcharged : 9 * full ≤ 10 * present) (hsound : 45 ≤ full) (hcell : 2600 ≤ mv) :
    exec (.cisternMeasure t full present mv) s =
      .next (after t (fun s =>
        { s with core.cisternJ := full, core.cisternNow := present, core.backupMv := mv,
                 core.cisternLow := false, core.cisternWorn := false, core.backupLow := false }) s) := by
  rw [exec_cisternMeasure]
  apply timed_next
  simp [hmode, Nat.not_lt.mpr hcharged, Nat.not_lt.mpr hsound, Nat.not_lt.mpr hcell]

/-- A Cistern newly below 90 % and newly below 45 J sets both flags and records each (20 R554); a good backup cell clears its own. -/
theorem cisternMeasure_low_and_worn {t full present mv : Nat} {s : State} (hmode : s.core.mode ≠ .shelf)
    (hlow : 10 * present < 9 * full) (hworn : full < 45) (hcell : 2600 ≤ mv)
    (hnewLow : s.core.cisternLow = false) (hnewWorn : s.core.cisternWorn = false) :
    exec (.cisternMeasure t full present mv) s =
      .next (after t (fun s => record Ev.cisternWorn 3 [(full : Int)] (record Ev.cisternLow 3 [(present : Int), full]
        { s with core.cisternJ := full, core.cisternNow := present, core.backupMv := mv,
                 core.cisternLow := true, core.cisternWorn := true, core.backupLow := false })) s) := by
  rw [exec_cisternMeasure]
  apply timed_next
  simp [hmode, hlow, hworn, Nat.not_lt.mpr hcell, hnewLow, hnewWorn]

/-- ST-FLT opens 60 s after the last record of severity 4, outside Tripped (20 R558). -/
theorem stFltHoldEnd_opens {t a : Nat} {s : State} (hrec : s.core.lastFaultRec = some a)
    (hdue : a + 60000000000 ≤ max s.now t) (hmode : s.core.mode ≠ .tripped) :
    exec (.stFltHoldEnd t) s = .next (after t (fun s => { s with core.stFlt := false }) s) := by
  rw [exec_stFltHoldEnd]
  apply timed_next
  have hpassed : a + sec 60 ≤ (clocked t s).now := hdue
  apply if_pos
  rw [clocked_core, hrec]
  simp only [Option.map_some, Option.getD_some, hpassed]
  simp [hmode]

/-- ST-OK is closed while the watchdog is served in a mode that keeps it closed (20 R558). -/
theorem supervisorWatchdog_sets_stOk (t : Nat) (served : Bool) (s : State) :
    exec (.supervisorWatchdog t served) s =
      .next (after t (fun s => { s with core.stOk := served && stOkIn s.core.mode }) s) := rfl

/-- Settles O8: one lemma for each start, the sleep state by the rule of R361. -/
theorem islandsClocksAndSupplies : Obligations.IslandsClocksAndSupplies := by
  unfold Obligations.IslandsClocksAndSupplies
  refine ⟨fun t ppm held s => clockFault_trips, fun t ppm held s => clockFault_clears held s,
    fun t src dst waited s => crossingTimeout_records s, ?nap, ?busy,
    fun t k s => islandWake_unscheduled, fun t k a s => islandWake_late,
    fun t full present mv s => cisternMeasure_healthy, fun t full present mv s => cisternMeasure_low_and_worn,
    fun t a s => stFltHoldEnd_opens, supervisorWatchdog_sets_stOk⟩
  case nap =>
    intro t k n s hk hmode hjob hevent hcap hfree
    have hleft : (1900000 : Int) ≤ (n : Int) - (max s.now t : Nat) - (us 50 : Nat) := by
      unfold us
      omega
    exact islandSleep_takes hk hmode hjob (by rw [hcap, hfree]; exact chooseSleep_nap hleft)
  case busy =>
    intro t k next s hk hmode hjob hcap
    exact islandSleep_takes hk hmode hjob (chooseSleep_busy _ _ hcap)

end Sys2Proof.Machine

namespace Sys2Proof.Machine

/-! ## What the frame of a command leaves of rings and taps -/

@[simp] theorem ringOf_clocked (t : Nat) (s : State) (r : Nat) : ringOf (clocked t s) r = ringOf s r := rfl

@[simp] theorem posOf_clocked (t : Nat) (s : State) (r p : Nat) : posOf (clocked t s) r p = posOf s r p := rfl

@[simp] theorem reached_clocked (t : Nat) (s : State) (r : Nat) : reached (clocked t s) r = reached s r := rfl

@[simp] theorem loopOpen_clocked (t : Nat) (s : State) (r : Nat) : loopOpen (clocked t s) r = loopOpen s r := rfl

@[simp] theorem tapOf_clocked (t : Nat) (s : State) (i : Nat) : tapOf (clocked t s) i = tapOf s i := rfl

@[simp] theorem tapAwake_clocked (t : Nat) (s : State) (i : Nat) : tapAwake (clocked t s) i = tapAwake s i := rfl

@[simp] theorem passesThrough_clocked (t : Nat) (s : State) : passesThrough (clocked t s) = passesThrough s := rfl

@[simp] theorem pairMode_clocked (t : Nat) (s : State) : pairMode (clocked t s) = pairMode s := rfl

@[simp] theorem running_clocked (t : Nat) (s : State) (f : Nat) : running (clocked t s) f = running s f := rfl

@[simp] theorem holdsToken_clocked (t : Nat) (s : State) : holdsToken (clocked t s) = holdsToken s := rfl

@[simp] theorem inMode_clocked (t : Nat) (s : State) (l : List Mode) : inMode (clocked t s) l = inMode s l := rfl

@[simp] theorem prmN_clocked (t : Nat) (s : State) (id : Nat) : prmN (clocked t s) id = prmN s id := rfl

end Sys2Proof.Machine

namespace Sys2Proof.Machine

/-! ## The frame CRC (02 R45) -/

/-- One more byte goes into the high byte of the register, and eight shifts follow (02 R45). -/
theorem crc16_append_byte (l : List Byte) (b : Byte) :
    crc16 (l ++ [b]) = (List.range 8).foldl (fun c _ => crc16Shift c) (Nat.xor (crc16 l) (b.toNat * 256)) := by
  simp only [crc16, List.foldl_append, List.foldl_cons, List.foldl_nil]

/-- Settles O52: the CRC is a fold over the bytes, so one more byte is one more turn of the register. -/
theorem frameCrcIsTheOneStated : Obligations.FrameCrcIsTheOneStated := by
  unfold Obligations.FrameCrcIsTheOneStated
  exact ⟨rfl, fun b l => crc16_append_byte l b, test_crc16_value, fun _ _ _ => rfl⟩

/-! ## What a tap makes of a frame (02 R46 to R51) -/

/-- A payload of the demanded length meets the handler. -/
theorem withPayload_met {n i : Nat} {h : Nat → List Byte → State → TapAnswer} {b : List Byte} {s : State} (hlen : b.length = n) :
    withPayload n h i b s = h i b s := if_pos hlen

/-- A request that demands no payload and brings none meets its handler. -/
theorem withPayload_empty {i : Nat} {h : Nat → List Byte → State → TapAnswer} {b : List Byte} {s : State} (hb : b = []) :
    withPayload 0 h i b s = h i b s := withPayload_met (List.length_eq_zero_iff.mpr hb)

/-- A payload of any other length is rejected (02 R51). -/
theorem withPayload_wrong {n i : Nat} {h : Nat → List Byte → State → TapAnswer} {b : List Byte} {s : State} (hlen : b.length ≠ n) :
    withPayload n h i b s = .reject := if_neg hlen

/-- A frame at a position where an awake tap stands. -/
abbrev MeetsTap (s : State) (q : TapReq) : Prop :=
  1 ≤ q.pos ∧ q.pos ≤ 16 ∧ q.ring ≤ 1 ∧ tapAwake s (tapIndex q.ring q.pos) = true

/-- No frame is dropped where a tap stands awake. -/
theorem not_dropped {s : State} {q : TapReq} (hq : MeetsTap s q) :
    ¬(16 < q.pos || 1 < q.ring || !tapAwake s (tapIndex q.ring q.pos)) = true := by
  obtain ⟨-, hhigh, hring, hawake⟩ := hq
  simp [hawake, Nat.not_lt.mpr hhigh, Nat.not_lt.mpr hring]

/-- A request of the row's own code is treated by its handler. -/
theorem atTap_request {s : State} {cmd : Nat} {q : TapReq} {h : Nat → List Byte → State → TapAnswer} (hq : MeetsTap s q)
    (hcode : q.code = none) : atTap cmd q h s = meetRequest cmd q h s := by
  unfold atTap
  rw [if_neg (Nat.one_le_iff_ne_zero.mp hq.1), if_neg (not_dropped hq)]
  simp only [hcode]

/-- A frame of another code is a response that passes, a request with a row of its own, or one that no tap knows. -/
theorem atTap_coded {s : State} {cmd c : Nat} {q : TapReq} {h : Nat → List Byte → State → TapAnswer} (hq : MeetsTap s q)
    (hcode : q.code = some c) :
    atTap cmd q h s = if 0x80 ≤ c then passResponse c q s
      else if tapCodes.contains c then s
      else meetRequest c q (fun _ _ _ => .reject) s := by
  unfold atTap
  rw [if_neg (Nat.one_le_iff_ne_zero.mp hq.1), if_neg (not_dropped hq)]
  simp only [hcode]

/-- A request with a wrong CRC counts at the port it came in by, goes on as wrong and has no other effect (02 R46). -/
theorem atTap_wrongCrc {s : State} {cmd : Nat} {q : TapReq} {h : Nat → List Byte → State → TapAnswer} (hq : MeetsTap s q)
    (hcode : q.code = none) (hcrc : q.crc ≠ frameCrc q.addr cmd q.payload) :
    atTap cmd q h s = forwardRequest cmd false q (setTap (tapIndex q.ring q.pos) (countCrc (reqRev q)) s) := by
  rw [atTap_request hq hcode]
  exact if_pos hcrc

/-- A whole request of a code that R51 does not name is answered with CMD 0xFF by the tap it addresses. -/
theorem atTap_unknownCode {s : State} {cmd c : Nat} {q : TapReq} {h : Nat → List Byte → State → TapAnswer} (hq : MeetsTap s q)
    (hcode : q.code = some c) (hrequest : c < 0x80) (hforeign : c ∉ tapCodes) (hcrc : q.crc = frameCrc q.addr c q.payload)
    (hhop : reqHop q = 1) :
    atTap cmd q h s =
      record Ev.tapReject 3 [(q.ring : Int), q.pos, c] (respond q 0xFF [] (forwardRequest c true q s)) := by
  rw [atTap_coded hq hcode, if_neg (Nat.not_le.mpr hrequest), if_neg (by simpa using hforeign)]
  unfold meetRequest
  rw [if_neg (not_not.mpr hcrc)]
  dsimp only
  rw [if_pos (by simp [hhop])]

/-- A whole response that the tap may forward goes on unchanged (02 R48, R49). -/
theorem atTap_response {s : State} {cmd c : Nat} {q : TapReq} {h : Nat → List Byte → State → TapAnswer} (hq : MeetsTap s q)
    (hcode : q.code = some c) (hresponse : 0x80 ≤ c) (hcrc : q.crc = frameCrc q.addr c q.payload)
    (hback : forwardsBack s q (tapOf s (tapIndex q.ring q.pos)) = true) :
    atTap cmd q h s = emit (.tapFrame q.ring q.pos (!reqRev q) (frameWith q.addr c q.crc q.payload)) s := by
  rw [atTap_coded hq hcode, if_pos hresponse]
  unfold passResponse
  dsimp only
  rw [if_pos hcrc, if_pos hback]
  rfl

/-- The pass-through node of a standby sends every frame on as it is (02 R76). -/
theorem atTap_passNode {s : State} {cmd : Nat} {q : TapReq} {h : Nat → List Byte → State → TapAnswer} (hpos : q.pos = 0)
    (hring : q.ring ≤ 1) (hpass : passesThrough s = true) :
    atTap cmd q h s = emit (.tapFrame q.ring 0 (!reqRev q) (frameWith q.addr (q.code.getD cmd) q.crc q.payload)) s := by
  unfold atTap
  rw [if_pos hpos, if_pos (by simp [hring, hpass])]
  unfold tapSend
  rw [hpos]

/-- Ring ports that form a pass-through node are those of a pair's standby. -/
theorem standby_of_passesThrough {s : State} (hpass : passesThrough s = true) : pairMode s = true ∧ s.pair.standby = true := by
  unfold passesThrough at hpass
  rw [Bool.and_eq_true, Bool.and_eq_true] at hpass
  exact hpass.1

/-! ## SET_THRESH (02 R51, R64) -/

/-- Thresholds that are whole multiples of 5 mV inside their clamps are applied as they are. -/
theorem applyThresh_inside {ov uv : Nat} {p : Tap} (hovMin : p.ovMin ≤ ov) (hovMax : ov ≤ p.ovMax) (huvMin : p.uvMin ≤ uv)
    (huvMax : uv ≤ p.uvMax) (hov : 50 ∣ ov) (huv : 50 ∣ uv) :
    applyThresh ov uv p = { p with ov := ov, uv := uv, clamped := false } := by
  have hdown : ov / 50 * 50 = ov := Nat.div_mul_cancel hov
  have hup : (uv + 49) / 50 * 50 = uv := by omega
  unfold applyThresh
  simp [hdown, hup, hovMin, hovMax, huvMin, huvMax]

/-- An OV threshold a step or more above its clamp becomes the clamp, and the tap notes it. -/
theorem applyThresh_ovClamped {ov uv : Nat} {p : Tap} (hclamps : p.ovMin ≤ p.ovMax) (hstep : p.ovMax + 50 ≤ ov)
    (huvMin : p.uvMin ≤ uv) (huvMax : uv ≤ p.uvMax) (huv : 50 ∣ uv) :
    applyThresh ov uv p = { p with ov := p.ovMax, uv := uv, clamped := true } := by
  have hup : (uv + 49) / 50 * 50 = uv := by omega
  have hbeyond : p.ovMax < ov / 50 * 50 := by omega
  unfold applyThresh
  simp [hup, huvMin, huvMax, hclamps, Nat.min_eq_right hbeyond.le, hbeyond.ne]

/-! ## The tap's ring commands (02 R51) -/

section TapCommands

variable {t : Nat} {q : TapReq} {s : State}

theorem nop_wrongCrc (hq : MeetsTap s q) (hcode : q.code = none) (hcrc : q.crc ≠ frameCrc q.addr 0x00 q.payload)
    (hdir : reqRev q = false) :
    exec (.nop t q) s = .next (after t (fun s => forwardRequest 0x00 false q
      (setTap (tapIndex q.ring q.pos) (fun (p : Tap) => { p with crcUp := (p.crcUp + 1) % 65536 }) s)) s) := by
  rw [exec_nop]
  refine timed_next ((atTap_wrongCrc (s := clocked t s) hq hcode hcrc).trans ?_)
  rw [hdir]
  rfl

theorem nop_unknownCode {c : Nat} (hq : MeetsTap s q) (hcode : q.code = some c) (hrequest : c < 0x80) (hforeign : c ∉ tapCodes)
    (hcrc : q.crc = frameCrc q.addr c q.payload) (hhop : reqHop q = 1) :
    exec (.nop t q) s = .next (after t (fun s =>
      record Ev.tapReject 3 [(q.ring : Int), q.pos, c] (respond q 0xFF [] (forwardRequest c true q s))) s) := by
  rw [exec_nop]
  exact timed_next (atTap_unknownCode hq hcode hrequest hforeign hcrc hhop)

theorem nop_response {c : Nat} (hq : MeetsTap s q) (hcode : q.code = some c) (hresponse : 0x80 ≤ c)
    (hcrc : q.crc = frameCrc q.addr c q.payload)
    (hback : forwardsBack (clocked t s) q (tapOf (clocked t s) (tapIndex q.ring q.pos)) = true) :
    exec (.nop t q) s =
      .next (after t (emit (.tapFrame q.ring q.pos (!reqRev q) (frameWith q.addr c q.crc q.payload))) s) := by
  rw [exec_nop]
  exact timed_next (atTap_response hq hcode hresponse hcrc hback)

theorem nop_passNode (hpos : q.pos = 0) (hring : q.ring ≤ 1) (hpass : passesThrough s = true) (hcode : q.code = none) :
    exec (.nop t q) s =
      .next (after t (emit (.tapFrame q.ring 0 (!reqRev q) (frameWith q.addr 0x00 q.crc q.payload))) s) := by
  rw [exec_nop]
  refine timed_next ((atTap_passNode (s := clocked t s) hpos hring hpass).trans ?_)
  rw [hcode]
  rfl

theorem nop_wrongLength (hq : TapHears s 0x00 q) (hpayload : q.payload ≠ []) :
    exec (.nop t q) s = .next (after t (fun s =>
      record Ev.tapReject 3 [(q.ring : Int), q.pos, 0] (respond q 0xFF [] (forwardRequest 0x00 true q s))) s) := by
  rw [exec_nop]
  exact timed_next (atTap_reject hq (withPayload_wrong (List.length_eq_zero_iff.not.mpr hpayload)))

theorem nop_heard (hq : TapHears s 0x00 q) (hpayload : q.payload = []) :
    exec (.nop t q) s = .next (after t (forwardRequest 0x00 true q) s) := by
  rw [exec_nop]
  exact timed_next (atTap_silent hq (withPayload_empty hpayload))

theorem echo_heard (hq : TapHears s 0x02 q) (hpayload : q.payload = []) :
    exec (.echo t q) s = .next (after t (fun s => respond q 0x82 [] (forwardRequest 0x02 true q s)) s) := by
  rw [exec_echo]
  exact timed_next (atTap_reply hq (withPayload_empty hpayload))

theorem setDelay_heard (hq : TapHears s 0x03 q) (hlen : q.payload.length = 4) :
    exec (.setDelay t q) s = .next (after t (fun s => respond q 0x83 q.payload (setTap (tapIndex q.ring q.pos)
      (fun (p : Tap) => { p with dUp := leAt q.payload 0 2, dDn := leAt q.payload 2 2, delayUnset := false })
      (forwardRequest 0x03 true q s))) s) := by
  rw [exec_setDelay]
  exact timed_next (atTap_reply hq (withPayload_met hlen))

theorem setThresh_heard (hq : TapHears s 0x04 q) (hlen : q.payload.length = 4) :
    exec (.setThresh t q) s = .next (after t (fun s =>
      let v := setTap (tapIndex q.ring q.pos) (applyThresh (leAt q.payload 0 2) (leAt q.payload 2 2)) (forwardRequest 0x04 true q s)
      let p := tapOf v (tapIndex q.ring q.pos)
      let w := setPos q.ring q.pos (fun (x : RingPos) => { x with applied := some (p.ov, p.uv) }) v
      respond q 0x84 (leBytes 2 p.ov ++ leBytes 2 p.uv)
        (if p.clamped then record Ev.threshClamped 3 [(q.ring : Int), q.pos, p.ov, p.uv] w else w)) s) := by
  rw [exec_setThresh]
  exact timed_next (atTap_reply hq (withPayload_met hlen))

theorem setMarkCount_heard (hq : TapHears s 0x05 q) (hlen : q.payload.length = 1) :
    exec (.setMarkCount t q) s = .next (after t (fun s => respond q 0x85 q.payload (setTap (tapIndex q.ring q.pos)
      (fun (p : Tap) => { p with marks := leAt q.payload 0 1 }) (forwardRequest 0x05 true q s))) s) := by
  rw [exec_setMarkCount]
  exact timed_next (atTap_reply hq (withPayload_met hlen))

theorem readStatus_heard (loopMa : Nat) (supply : Option Int) (quiet : Bool) (hq : TapHears s 0x06 q) (hpayload : q.payload = []) :
    exec (.readStatus t q loopMa supply quiet) s = .next (after t (fun s =>
      let v := setTap (tapIndex q.ring q.pos) (fun (p : Tap) =>
        { p with loopMa := min loopMa 255, loopLow := loopMa < 30, supply := supply, uplinkLost := quiet }) (forwardRequest 0x06 true q s)
      let p := tapOf v (tapIndex q.ring q.pos)
      respond q 0x86 (leBytes 2 (statusWord v p) ++ leBytes 2 p.crcUp ++ leBytes 2 p.crcDn ++ leBytes 2 p.ovTrip.toNat ++
          leBytes 2 p.uvTrip.toNat ++ leBytes 1 p.loopMa ++ voltBytes p.supply)
        (setTap (tapIndex q.ring q.pos) (fun (p : Tap) => { p with clkLost := false })
          (if p.clkLost then record Ev.clkLockLost 3 [(q.ring : Int), q.pos] v else v))) s) := by
  rw [exec_readStatus]
  exact timed_next (atTap_reply hq (withPayload_empty hpayload))

theorem clearTrip_heard (volts : List (Option Int)) (hq : TapHears s 0x07 q) (hpayload : q.payload = []) :
    exec (.clearTrip t q volts) s = .next (after t (fun s =>
      let v := setTap (tapIndex q.ring q.pos) (clearTrips volts) (forwardRequest 0x07 true q s)
      respond q 0x87 (leBytes 2 (tapOf v (tapIndex q.ring q.pos)).ovTrip.toNat ++
        leBytes 2 (tapOf v (tapIndex q.ring q.pos)).uvTrip.toNat) v) s) := by
  rw [exec_clearTrip]
  exact timed_next (atTap_reply hq (withPayload_empty hpayload))

/-- FLT_TEST while the loop is closed: the switch's pulse is set and the dip judged (02 R51, R67). -/
theorem fltTest_heard (dip : Option Nat) (hq : TapHears s 0x08 q) (hpayload : q.payload = []) (hloop : loopOpen s q.ring = false) :
    exec (.fltTest t q dip) s = .next (after t (fun s =>
      let u := forwardRequest 0x08 true q s
      judgeDip q.ring q.pos dip (setTap (tapIndex q.ring q.pos)
        (fun (p : Tap) => { p with fltTest := some (u.now + us 50, u.now + us 60) }) u)) s) := by
  rw [exec_fltTest]
  apply timed_next
  have hclosed : ¬loopOpen (forwardRequest 0x08 true q (clocked t s)) q.ring = true := by
    rw [loopOpen_forward]
    exact Bool.eq_false_iff.mp hloop
  exact atTap_silent hq ((withPayload_empty hpayload).trans (congrArg TapAnswer.silent (if_neg hclosed)))

theorem tapReset_heard (leads : List Nat) (testFail calFail : Bool) (hq : TapHears s 0x09 q) (hpayload : q.payload = []) :
    exec (.tapReset t q leads testFail calFail) s = .next (after t (fun s =>
      let u := forwardRequest 0x09 true q s
      setTap (tapIndex q.ring q.pos) (resetTap u.now leads testFail calFail) u) s) := by
  rw [exec_tapReset]
  exact timed_next (atTap_silent hq (withPayload_empty hpayload))

theorem setCollect_heard (hq : TapHears s 0x0B q) (hlen : q.payload.length = 1) (hmode : leAt q.payload 0 1 ≤ 1) :
    exec (.setCollect t q) s = .next (after t (fun s => respond q 0x8B q.payload (setTap (tapIndex q.ring q.pos)
      (fun (p : Tap) => { p with poll := leAt q.payload 0 1 == 1 }) (forwardRequest 0x0B true q s))) s) := by
  rw [exec_setCollect]
  exact timed_next (atTap_reply hq ((withPayload_met hlen).trans (if_pos hmode)))

theorem setCollect_rejects (hq : TapHears s 0x0B q) (hlen : q.payload.length = 1) (hmode : 1 < leAt q.payload 0 1) :
    exec (.setCollect t q) s = .next (after t (fun s =>
      record Ev.tapReject 3 [(q.ring : Int), q.pos, 0x0B] (respond q 0xFF [] (forwardRequest 0x0B true q s))) s) := by
  rw [exec_setCollect]
  exact timed_next (atTap_reject hq ((withPayload_met hlen).trans (if_neg (Nat.not_le.mpr hmode))))

theorem collect_heard (quiet : Bool) (hq : TapHears s 0x10 q) (hpayload : q.payload = []) :
    exec (.collect t q quiet) s = .next (after t (fun s =>
      let v := setTap (tapIndex q.ring q.pos) (fun (p : Tap) => { p with uplinkLost := quiet }) (forwardRequest 0x10 true q s)
      respond q 0x90 (sweepPayload v (tapOf v (tapIndex q.ring q.pos))) v) s) := by
  rw [exec_collect]
  exact timed_next (atTap_reply hq (withPayload_empty hpayload))

/-! ### PT_PROBE (02 R51, R76, R77) -/

theorem ptProbe_passNode (rt : Option Nat) (hpos : q.pos = 0) (hcode : q.code = none) (hpass : passesThrough s = true)
    (hcrc : q.crc = frameCrc q.addr 0x0A q.payload) (hpayload : q.payload = []) :
    exec (.ptProbe t q rt) s = .next (after t (fun s => respond q 0x8A [] { s with pair.probedAt := some s.now }) s) := by
  obtain ⟨hpair, hstandby⟩ := standby_of_passesThrough hpass
  rw [exec_ptProbe]
  apply timed_next
  rw [if_neg (by simp [hpos, hcode]), if_neg (by simp [hpair]), if_pos (by simp [hstandby]),
    if_pos (by rw [← hcrc, hpayload]; simp [hpass])]

theorem ptProbe_active {d : Nat} (hpos : q.pos = 0) (hcode : q.code = none) (hpair : pairMode s = true)
    (hactive : s.pair.standby = false) :
    exec (.ptProbe t q (some d)) s =
      .next (after t (setRing q.ring (fun (x : Ring) => { x with passDelay := some (d / 2) })) s) := by
  rw [exec_ptProbe]
  apply timed_next
  rw [if_neg (by simp [hpos, hcode]), if_neg (by simp [hpair]), if_neg (by simp [hactive])]

theorem ptProbe_heard (rt : Option Nat) (hq : TapHears s 0x0A q) (hpayload : q.payload = []) :
    exec (.ptProbe t q rt) s = .next (after t (forwardRequest 0x0A true q) s) := by
  have hpos : q.pos ≠ 0 := Nat.one_le_iff_ne_zero.mp hq.2.1
  rw [exec_ptProbe]
  apply timed_next
  rw [if_pos (by simp [hpos])]
  exact atTap_silent hq (withPayload_empty hpayload)

end TapCommands

/-- Settles O14: one lemma a command, each from what a tap makes of a frame that it hears. -/
theorem tapRequests : Obligations.TapRequests := by
  unfold Obligations.TapRequests
  exact ⟨fun t q s h1 h2 h3 h4 => nop_wrongCrc ⟨h1, h2, h3, h4⟩, fun t c q s h1 h2 h3 h4 => nop_unknownCode ⟨h1, h2, h3, h4⟩,
    fun t c q s h1 h2 h3 h4 => nop_response ⟨h1, h2, h3, h4⟩, fun t q s => nop_passNode, fun t q s => nop_wrongLength,
    fun t q s => nop_heard, fun t q s => echo_heard, fun t q s => setDelay_heard, fun t q s => setThresh_heard,
    fun ov uv p => applyThresh_inside,
    fun ov uv p hclamps _ _ huvMin huvMax huv hstep => applyThresh_ovClamped hclamps hstep huvMin huvMax huv,
    fun t q s => setMarkCount_heard, fun t q loopMa supply quiet s => readStatus_heard loopMa supply quiet,
    fun t q volts s => clearTrip_heard volts, fun t q dip s => fltTest_heard dip,
    fun t q leads testFail calFail s => tapReset_heard leads testFail calFail, fun t q rt s => ptProbe_passNode rt,
    fun t d q s => ptProbe_active, fun t q rt s => ptProbe_heard rt, fun t q s => setCollect_heard,
    fun t q s => setCollect_rejects, fun t q quiet s => collect_heard quiet⟩

end Sys2Proof.Machine

namespace Sys2Proof.Machine

/-! ## A tap's own events (02 R42, R59 to R75) -/

section TapEvents

variable {t i : Nat} {s : State}

/-- A tap that never sampled takes the mark after the wait of the port it came by, and its counter steps (02 R54, R59). -/
theorem markReceived_samples (rev : Bool) (volts temps : List (Option Int)) (loopLow : Bool) (grid : List (List Int)) (hi : i < 32)
    (hawake : tapAwake s i = true) (hfirst : (tapOf s i).sampledAt = none) :
    exec (.markReceived t i rev volts temps loopLow grid) s = .next (after t (fun s =>
      let at_ := s.now + 20 * (if rev then (tapOf s i).dDn else (tapOf s i).dUp)
      let cells := (List.range 16).map (fun c => sampleCell { s with now := at_ } (tapOf s i) c (volts.getD c none))
      setTap i (fun (p : Tap) => windowAtMark at_ rev grid { p with
        marks := (p.marks + 1) % 256, volts := cells.map (·.1), nibbles := cells.map (·.2),
        temps := (List.range 8).map (fun k => temps.getD k none), sampledAt := some at_, revMark := rev, loopLow := loopLow,
        uplinkLost := false }) s) s) := by
  rw [exec_markReceived]
  apply timed_next
  dsimp only
  rw [if_neg (Nat.not_le.mpr hi), if_neg (by simp [hawake, hfirst])]

/-- Within 200 µs of a sample a tap ignores every mark (02 R59). -/
theorem markReceived_ignored {a : Nat} (rev : Bool) (volts temps : List (Option Int)) (loopLow : Bool) (grid : List (List Int))
    (hi : i < 32) (hsampled : (tapOf s i).sampledAt = some a) (hsoon : max s.now t < a + us 200) :
    exec (.markReceived t i rev volts temps loopLow grid) s = .next (after t (fun s => s) s) := by
  rw [exec_markReceived]
  apply timed_next
  dsimp only
  rw [if_neg (Nat.not_le.mpr hi), if_pos]
  rw [tapOf_clocked, hsampled, Option.map_some, Option.getD_some, clocked_now, decide_eq_true hsoon, Bool.or_true]

/-- The pass-through node of a ring sends a mark on (02 R76). -/
theorem markReceived_passNode (rev : Bool) (volts temps : List (Option Int)) (loopLow : Bool) (grid : List (List Int)) (hnode : 32 ≤ i)
    (hi : i < 34) (hpass : passesThrough s = true) :
    exec (.markReceived t i rev volts temps loopLow grid) s =
      .next (after t (fun s => emit (.mark (i - 32) (!rev) s.now) s) s) := by
  rw [exec_markReceived]
  apply timed_next
  dsimp only
  rw [if_pos hnode, if_pos (by simp [hi, hpass])]

/-- In slot mode a tap sends its data in its slot of 23 µs, from 8 µs after a sample of its up-port (02 R60). -/
theorem tapSlotSend_inSlot {a : Nat} (quiet : Bool) (hawake : tapAwake s i = true) (hsampled : (tapOf s i).sampledAt = some a)
    (hslot : (tapOf s i).poll = false) (hup : (tapOf s i).revMark = false) (hfrom : a + us 8 + us 23 * (i % 16) ≤ max s.now t)
    (hto : max s.now t < a + us 8 + us 23 * (i % 16) + us 23) :
    exec (.tapSlotSend t i quiet) s = .next (after t (fun s =>
      let v := setTap i (fun (p : Tap) => { p with uplinkLost := quiet }) s
      emit (.tapFrame (i / 16) (i % 16 + 1) true (frameBytes (i % 16 + 1) 0x90 (sweepPayload v (tapOf v i)))) v) s) := by
  rw [exec_tapSlotSend]
  apply timed_next
  simp only [tapOf_clocked, hsampled]
  apply if_pos
  simp [tapPlace, hawake, hslot, hup, hfrom, hto]

/-- A cell voltage held at or above the OV threshold for 2 ms latches and ends both leases (02 R65, 03 R85). -/
theorem cellComparatorTrip_over {c held : Nat} {v : Int} (hfitted : (tapOf s i).fitted = true) (hover : ((tapOf s i).ov : Int) ≤ v)
    (hheld : ms 2 ≤ held) :
    exec (.cellComparatorTrip t i c true v held) s = .next (after t (setTap i (fun (p : Tap) =>
      { endLeases p with ovTrip := p.ovTrip ||| BitVec.ofNat 16 (2 ^ c) })) s) := by
  rw [exec_cellComparatorTrip]
  apply timed_next
  exact if_pos (by simp [hfitted, hover, hheld])

/-- A cell voltage held at or below the UV threshold for 2 ms latches and ends both leases (02 R65, 03 R85). -/
theorem cellComparatorTrip_under {c held : Nat} {v : Int} (hfitted : (tapOf s i).fitted = true) (hunder : v ≤ ((tapOf s i).uv : Int))
    (hheld : ms 2 ≤ held) :
    exec (.cellComparatorTrip t i c false v held) s = .next (after t (setTap i (fun (p : Tap) =>
      { endLeases p with uvTrip := p.uvTrip ||| BitVec.ofNat 16 (2 ^ c) })) s) := by
  rw [exec_cellComparatorTrip]
  apply timed_next
  exact if_pos (by simp [hfitted, hunder, hheld])

theorem clkLockLost_noted (hawake : tapAwake s i = true) :
    exec (.clkLockLost t i) s = .next (after t (setTap i (fun (p : Tap) => { p with clkLost := true })) s) := by
  rw [exec_clkLockLost]
  exact timed_next (if_pos hawake)

/-- A tap sleeps after 5 ms without line activity (02 R75). -/
theorem tapSleep_afterQuiet {quiet : Nat} (hawake : tapAwake s i = true) (hquiet : ms 5 ≤ quiet) :
    exec (.tapSleep t i quiet) s = .next (after t (setTap i (fun (p : Tap) => { p with asleep := true })) s) := by
  rw [exec_tapSleep]
  exact timed_next (if_pos (by simp [hawake, hquiet]))

theorem tapWake_wakes (hfitted : (tapOf s i).fitted = true) :
    exec (.tapWake t i) s = .next (after t (setTap i (fun (p : Tap) => { p with asleep := false })) s) := by
  rw [exec_tapWake]
  exact timed_next (if_pos hfitted)

end TapEvents

/-- Settles O15: one lemma for each event of a tap and of the pass-through node. -/
theorem tapEvents : Obligations.TapEvents := by
  unfold Obligations.TapEvents
  exact ⟨fun t i rev volts temps loopLow grid s => markReceived_samples rev volts temps loopLow grid,
    fun t i a rev volts temps loopLow grid s => markReceived_ignored rev volts temps loopLow grid,
    fun t i rev volts temps loopLow grid s => markReceived_passNode rev volts temps loopLow grid,
    fun t i a quiet s => tapSlotSend_inSlot quiet, fun t i c held v s => cellComparatorTrip_over,
    fun t i c held v s => cellComparatorTrip_under, fun t i s => clkLockLost_noted, fun t i quiet s => tapSleep_afterQuiet,
    fun t i s => tapWake_wakes⟩

/-! ## A tap's firmware commands (02 R51, 19 R544) -/

section TapFirmware

variable {t : Nat} {q : TapReq} {s : State}

theorem tapIdentify_heard (hq : TapHears s 0x01 q) (hpayload : q.payload = []) :
    exec (.tapIdentify t q) s = .next (after t (fun s =>
      let u := forwardRequest 0x01 true q s
      respond q 0x81 (identifyBytes (tapOf u (tapIndex q.ring q.pos))) (tookIdentity (tapIndex q.ring q.pos) u)) s) := by
  rw [exec_tapIdentify]
  exact timed_next (atTap_reply hq (withPayload_empty hpayload))

/-- FW_OPEN of 1 to 98,304 bytes opens the image and erases the inactive bank (02 R51, 19 R544). -/
theorem fwOpen_opens (hq : TapHears s 0x40 q) (hlen : q.payload.length = 36) (hsome : leAt q.payload 0 4 ≠ 0)
    (hfits : leAt q.payload 0 4 ≤ 98304) :
    exec (.fwOpen t q) s = .next (after t (fun s => respond q 0xC0 [] (setTap (tapIndex q.ring q.pos) (fun (p : Tap) =>
      { p with fw := { p.fw with
          openLen := some (leAt q.payload 0 4), digest := q.payload.drop 4, blocks := [], staged := false, otherVer := none } })
      (forwardRequest 0x40 true q s))) s) := by
  rw [exec_fwOpen]
  exact timed_next (atTap_reply hq ((withPayload_met hlen).trans (if_neg (by simp [hsome, hfits]))))

theorem fwOpen_tooLong (hq : TapHears s 0x40 q) (hlen : q.payload.length = 36) (hlong : 98304 < leAt q.payload 0 4) :
    exec (.fwOpen t q) s = .next (after t (fun s =>
      record Ev.tapReject 3 [(q.ring : Int), q.pos, 0x40] (respond q 0xFF [] (forwardRequest 0x40 true q s))) s) := by
  rw [exec_fwOpen]
  exact timed_next (atTap_reject hq ((withPayload_met hlen).trans (if_pos (by simp [hlong]))))

/-- FW_BLOCK keeps a block of the open image, in place of an earlier one of that number (19 R544). -/
theorem fwBlock_keeps {n : Nat} (hq : TapHears s 0x41 q) (hlen : q.payload.length = 130)
    (hopen : (tapOf s (tapIndex q.ring q.pos)).fw.openLen = some n) (hblock : leAt q.payload 0 2 < blockCount n) :
    exec (.fwBlock t q) s = .next (after t (fun s => setTap (tapIndex q.ring q.pos) (fun (p : Tap) =>
      { p with fw := { p.fw with
          blocks := p.fw.blocks.filter (fun x => x.1 ≠ leAt q.payload 0 2) ++ [(leAt q.payload 0 2, q.payload.drop 2)] } })
      (forwardRequest 0x41 true q s)) s) := by
  have hopen' : (tapOf (forwardRequest 0x41 true q (clocked t s)) (tapIndex q.ring q.pos)).fw.openLen = some n := by
    rw [forward_fw]
    exact hopen
  rw [exec_fwBlock]
  refine timed_next (atTap_silent hq ((withPayload_met hlen).trans ?_))
  simp only [hopen']
  exact if_neg (Nat.not_le.mpr hblock)

theorem fwCheck_heard (hq : TapHears s 0x42 q) (hpayload : q.payload = []) :
    exec (.fwCheck t q) s = .next (after t (fun s =>
      let u := forwardRequest 0x42 true q s
      let f := (tapOf u (tapIndex q.ring q.pos)).fw
      respond q 0xC2 (leBytes 1 (fwResult f) ++ missingBitmap f) (tookCheck (tapIndex q.ring q.pos)
        (setTap (tapIndex q.ring q.pos) (fun (p : Tap) => { p with fw := { p.fw with staged := fwResult f = 0 } }) u))) s) := by
  rw [exec_fwCheck]
  exact timed_next (atTap_reply hq (withPayload_empty hpayload))

theorem fwSwap_heard (ver : Nat) (leads : List Nat) (testFail calFail : Bool) (hq : TapHears s 0x43 q) (hpayload : q.payload = []) :
    exec (.fwSwap t q ver leads testFail calFail) s = .next (after t (fun s =>
      let u := forwardRequest 0x43 true q s
      setTap (tapIndex q.ring q.pos) (swapBank u.now ver leads testFail calFail) u) s) := by
  rw [exec_fwSwap]
  exact timed_next (atTap_silent hq (withPayload_empty hpayload))

/-- A swapped tap that has not returned within 100 ms is swapped back, and the install ends with TAP_FW_FAIL (19 R545). -/
theorem tapSwapTimeout_swapsBack {i : Nat} {rest : List Nat} {j : Install} (hjob : s.upd.job = some j) (htodo : j.todo = i :: rest)
    (hid : j.id = 9) (hphase : j.phase = 5) (hlate : j.since + ms 100 ≤ max s.now t) :
    exec (.tapSwapTimeout t none) s = .next (after t (fun s => stepEnded (endInstall (causeReply .execFault Ev.tapFwFail)
      (sendTap (i / 16) (i % 16 + 1) 0x43 [] (record Ev.tapFwFail 3 [((i / 16 : Nat) : Int), ((i % 16 + 1 : Nat) : Int)]
        { s with upd.tapFail := true })))) s) := by
  rw [exec_tapSwapTimeout]
  apply timed_next
  simp only [clocked_upd, clocked_now, hjob, htodo]
  exact if_pos (by simp [hid, hphase, hlate])

end TapFirmware

/-- Settles O16: one lemma a firmware command, and the swap timeout. -/
theorem tapFirmwareRequests : Obligations.TapFirmwareRequests := by
  unfold Obligations.TapFirmwareRequests
  exact ⟨fun t q s => tapIdentify_heard, fun t q s => fwOpen_opens, fun t q s => fwOpen_tooLong, fun t q n s => fwBlock_keeps,
    fun t q s => fwCheck_heard, fun t q ver leads testFail calFail s => fwSwap_heard ver leads testFail calFail,
    fun t i rest j s => tapSwapTimeout_swapsBack⟩

end Sys2Proof.Machine

namespace Sys2Proof.Machine

/-! ## Served requests of a demanded length (13 R382) -/

/-- A request of the demanded length meets its handler. -/
theorem withLength_met {n : Nat} {h : List Byte → State → Answer × State} {r : Request} {s : State} (hlen : r.payload.length = n) :
    withLength n h r s = h r.payload s := if_pos hlen

section ServedLengths

variable {s : State} {m cmd n t : Nat} {p : List Byte} {h : List Byte → State → Answer × State}

/-- A handler of a demanded length that is done after a change. -/
theorem serve_length_done {f : State → State} (hp : Pend s m cmd p) (hlen : p.length = n)
    (hh : h p (startCommand m (clocked t s)) = ok (f (startCommand m (clocked t s)))) :
    timed t (serve m cmd (withLength n h)) s = .next (ended t m doneReply f s) := by
  refine serve_ended hp fun r hr _ => ?_
  rw [withLength_met (hr ▸ hlen), hr, hh]
  rfl

/-- A handler of a demanded length that reads. -/
theorem serve_length_read {f : State → Payload} (hp : Pend s m cmd p) (hlen : p.length = n)
    (hh : h p (startCommand m (clocked t s)) = okWith (f (startCommand m (clocked t s))) (startCommand m (clocked t s))) :
    timed t (serve m cmd (withLength n h)) s = .next (read t m f s) := by
  refine serve_read hp fun r hr _ => ?_
  rw [withLength_met (hr ▸ hlen), hr, hh]
  rfl

/-- A handler of a demanded length that goes on. -/
theorem serve_length_going {f : State → State} (hp : Pend s m cmd p) (hlen : p.length = n)
    (hh : h p (startCommand m (clocked t s)) = (.goesOn, f (startCommand m (clocked t s)))) :
    timed t (serve m cmd (withLength n h)) s = .next (going t m f s) := by
  refine serve_going hp fun r hr _ => ?_
  rw [withLength_met (hr ▸ hlen), hr, hh]
  rfl

/-- A handler of a demanded length that refuses by a guard. -/
theorem serve_length_guard {cause : Nat} (hp : Pend s m cmd p) (hlen : p.length = n)
    (hh : h p (startCommand m (clocked t s)) = refuse (guardReply cause) (startCommand m (clocked t s))) :
    timed t (serve m cmd (withLength n h)) s = .next (turnedAway t m (guardReply cause) s) := by
  refine serve_turned hp fun r hr _ => ?_
  rw [withLength_met (hr ▸ hlen), hr, hh]
  rfl

/-- A command without payload that tests first whether its function is stopped is refused while it is (13 R382, R390). -/
theorem serve_stopped {f : Nat} (hp : Pend s m cmd []) (hstop : stopped s f = true) :
    timed t (serve m cmd (withLength 0 (fun b s => if stopped s f then refuse (guardReply Ev.functionStopped) s else h b s))) s =
      .next (turnedAway t m (guardReply Ev.functionStopped) s) :=
  serve_length_guard hp rfl (if_pos hstop)

/-- Past that test the command goes its way. -/
theorem not_stopped_started {f : Nat} (hrun : stopped s f = false) : ¬stopped (startCommand m (clocked t s)) f = true :=
  Bool.eq_false_iff.mp hrun

end ServedLengths

/-! ## The commands of the ring function (02 R81, R82) -/

section RingCommands

variable {t m : Nat} {s : State}

theorem ringMap_reads (hp : Pend s m Cmd.ringMap []) : exec (.ringMap t m) s = .next (read t m ringMap s) := by
  rw [exec_ringMap]
  exact serve_length_read hp rfl rfl

/-- RING_RESTORE lifts the hold and waives the clean seconds of a split ring (02 R74). -/
theorem ringRestore_lifts (hp : Pend s m Cmd.ringRestore []) (hrun : stopped s 1 = false) :
    exec (.ringRestore t m) s = .next (ended t m doneReply (fun s => { s with rings.ring := s.rings.ring.map (fun (x : Ring) =>
      { x with hold := false, splits := [], waive := x.split, clean := 0 }) }) s) := by
  rw [exec_ringRestore]
  exact serve_length_done hp rfl (if_neg (not_stopped_started hrun))

theorem reEnumerate_enumerates (a b : RingObs) (hp : Pend s m Cmd.reEnumerate []) (hrun : stopped s 1 = false) :
    exec (.reEnumerate t m a b) s =
      .next (ended t m doneReply (fun s => enumerate 1 b (enumerate 0 a (impAbort Ev.impRing s))) s) := by
  rw [exec_reEnumerate]
  exact serve_length_done hp rfl (if_neg (not_stopped_started hrun))

/-- FLT_TEST_NOW queues every tap that an end reaches (02 R67, R81). -/
theorem fltTestNow_queues (dips : List (List (Option Nat))) (hp : Pend s m Cmd.fltTestNow []) (hrun : stopped s 1 = false)
    (hfree : s.rings.fltNow = none) (hsome : [0, 1].flatMap (fun r => (reached s r).map (tapIndex r)) ≠ []) :
    exec (.fltTestNow t m dips) s = .next (going t m (fun s =>
      { s with rings.fltNow := some (m, dips, [0, 1].flatMap (fun r => (reached s r).map (tapIndex r))) }) s) := by
  rw [exec_fltTestNow]
  refine serve_length_going hp rfl ?_
  have hidle : ¬(startCommand m (clocked t s)).rings.fltNow.isSome = true := by simp [hfree]
  have hreached : ¬([0, 1].flatMap (fun r => (reached (startCommand m (clocked t s)) r).map (tapIndex r))).isEmpty = true :=
    mt List.isEmpty_iff.mp hsome
  rw [if_neg (not_stopped_started hrun), if_neg hidle]
  exact if_neg hreached

/-- CLEAR_TRIPS waits for the command window of every swept ring (02 R58, R81). -/
theorem clearTrips_queues (volts : List (List (Option Int))) (hp : Pend s m Cmd.clearTrips []) (hrun : stopped s 1 = false)
    (hfree : s.rings.clearNow = none) (hsome : [0, 1].filter (fun r => (ringOf s r).up) ≠ []) :
    exec (.clearTrips t m volts) s = .next (going t m (fun s =>
      { s with rings.clearNow := some (m, volts, [0, 1].filter (fun r => (ringOf s r).up)) }) s) := by
  rw [exec_clearTrips]
  refine serve_length_going hp rfl ?_
  have hidle : ¬(startCommand m (clocked t s)).rings.clearNow.isSome = true := by simp [hfree]
  have hswept : ¬([0, 1].filter (fun r => (ringOf (startCommand m (clocked t s)) r).up)).isEmpty = true :=
    mt List.isEmpty_iff.mp hsome
  dsimp only
  rw [if_neg (not_stopped_started hrun), if_neg hidle, if_neg hswept]

/-- In the window of the last ring CLEAR_TRIP is broadcast, the taps clear what they see clear and the command ends (02 R81). -/
theorem clearNowFrames_lastRing {r : Nat} {volts : List (List (Option Int))} (hlast : s.rings.clearNow = some (m, volts, [r])) :
    clearNowFrames r s =
      (let u := sendAll r 0x07 [] { s with rings.clearNow := some (m, volts, []) }
       let u := eachDo ((reached u r).filter (fun p => tapAwake u (tapIndex r p))) (fun p s =>
         setTap (tapIndex r p) (clearTrips (volts.getD (tapIndex r p) [])) s) u
       finishJob (some m) Cmd.clearTrips (doneWith (tripMasks u)) { u with rings.clearNow := none }) := by
  have hcontains : ¬(!([r].contains r)) = true := by simp
  have hnone : [r].filter (fun x => decide (x ≠ r)) = [] := by simp
  unfold clearNowFrames
  simp only [hlast]
  rw [if_neg hcontains, hnone]
  rfl

/-- READ_SWEEP answers 1 to 64 cells of the latest sweep (02 R81). -/
theorem readSweep_reads {b : List Byte} (hp : Pend s m Cmd.readSweep b) (hlen : b.length = 3) (hsome : leAt b 2 1 ≠ 0)
    (hmost : leAt b 2 1 ≤ 64) (hcells : leAt b 0 2 + leAt b 2 1 ≤ 512) :
    exec (.readSweep t m) s = .next (read t m (fun s => .fields (("mark", [(((s.rings.mark.map (·.2)).getD 0 : Nat) : Int)]) ::
      (List.range (leAt b 2 1)).map (fun k =>
        let y := cellOf s (leAt b 0 2 + k)
        ("cell", [(codeCell y.v : Int), (y.nib : Int), flag y.late, (y.lateness : Int)])))) s) := by
  have hrange : cellRange64 b = none := by
    unfold cellRange64
    rw [if_neg (by omega), if_neg (by omega)]
  rw [exec_readSweep]
  refine serve_length_read hp hlen ?_
  rw [hrange]

end RingCommands

/-- Settles O13: what each command does while the ring function runs, and one refusal for all four while it is stopped. -/
theorem ringCommands : Obligations.RingCommands := by
  unfold Obligations.RingCommands
  exact ⟨fun t m s => ringMap_reads, fun t m s => ringRestore_lifts, fun t m dips s => fltTestNow_queues dips,
    fun t m volts s => clearTrips_queues volts, fun r m volts s => clearNowFrames_lastRing, fun t m b s => readSweep_reads,
    fun t m s hp hstop => serve_stopped hp hstop, fun t m s hp hstop => serve_stopped hp hstop,
    fun t m s hp hstop => serve_stopped hp hstop, fun t m s hp hstop => serve_stopped hp hstop⟩

end Sys2Proof.Machine

namespace Sys2Proof.Machine

/-! ## The sweep of a cell ring (02 R57 to R73) -/

/-- A mode that is neither Shelf nor Dormant is none of the two. -/
theorem inMode_active {s : State} (hshelf : s.core.mode ≠ .shelf) (hdormant : s.core.mode ≠ .dormant) :
    inMode s [.shelf, .dormant] = false := by
  simp [inMode, hshelf, hdormant]

@[simp] theorem bitOf_zero (k : Nat) : bitOf 0 k = false := by
  simp [bitOf]

/-- A mark is due: a ring is served, the module sweeps in its mode, and the next grid time is not beyond one period ahead. -/
theorem markDue {s : State} {rs : List Nat} (hserved : rs ≠ []) (hshelf : s.core.mode ≠ .shelf) (hdormant : s.core.mode ≠ .dormant)
    (hnext : nextMark s ≤ s.now + us s.rings.period + max (markLead s 0) (markLead s 1)) :
    ¬(rs.isEmpty || inMode s [.shelf, .dormant] || nextMark s > s.now + us s.rings.period + max (markLead s 0) (markLead s 1)) = true := by
  simp [hserved, inMode_active hshelf hdormant, Nat.not_lt.mpr hnext]

theorem takePeriod_none {s : State} (hnone : s.rings.nextPeriod = none) : takePeriod s = s := by
  unfold takePeriod
  rw [hnone]

/-- The new period takes effect at the first mark of its second (02 R57). -/
theorem takePeriod_due {s : State} {p a : Nat} (hnew : s.rings.nextPeriod = some (p, a)) (hdue : a ≤ nextMark s + us 10) :
    takePeriod s = setPeriodic 0 4 (us p) 0
      { impAbort Ev.impSweep s with rings.period := p, rings.nextPeriod := none, rings.balModeDue := [true, true] } := by
  unfold takePeriod
  rw [hnew]
  exact if_neg (Nat.not_lt.mpr hdue)

/-- Good data under an expected mark count and a clear status word enters the sweep as it is (02 R62). -/
theorem judgeData_clear {r p : Nat} {b : List Byte} {s : State} (hcount : leAt b 0 1 = (posOf s r p).expect) (hstatus : leAt b 1 2 = 0) :
    judgeData r p b s = keepData r p b false
      (setPos r p (fun (y : RingPos) => { y with got := true, late := false })
        { s with rings.status := s.rings.status.set (tapIndex r p) 0 }) := by
  unfold judgeData
  simp [hstatus, hcount]

section Sweep

variable {t r : Nat} {s : State}

/-- A mark starts the sweep of every ring served at the next grid time (02 R57, 04 R109). -/
theorem sweepMark_starts {a b : Option Int} {c : Int} (hserved : [0, 1].filter (ringServed (clocked t s)) ≠ [])
    (hshelf : s.core.mode ≠ .shelf) (hdormant : s.core.mode ≠ .dormant)
    (hnext : nextMark (clocked t s) ≤ max s.now t + us s.rings.period + max (markLead s 0) (markLead s 1))
    (hended : ([0, 1].filter (ringServed (clocked t s))).any (fun r => lateFor s (nextMark (clocked t s)) (ringOf s r)) = false)
    (hperiod : s.rings.nextPeriod = none) (hcurrent : currentOf s a b = some c) :
    exec (.sweepMark t a b) s = .next (after t (fun s =>
      let T := nextMark s
      eachDo ([0, 1].filter (ringServed s)) (fun r s => markRing r T s) { s with
        rings.sweepT := some T, rings.sweepI := (s.est.counter + (stringCurrent s).getD 0 * ((T : Int) - s.est.counterAt), c),
        rings.build := List.replicate 512 {}, rings.buildT := List.replicate 256 none }) s) := by
  have hcurrent' : currentOf (clocked t s) a b = some c := hcurrent
  have honTime : ¬([0, 1].filter (ringServed (clocked t s))).any
      (fun r => lateFor (clocked t s) (nextMark (clocked t s)) (ringOf (clocked t s) r)) = true := Bool.eq_false_iff.mp hended
  rw [exec_sweepMark]
  apply timed_next
  dsimp only
  rw [if_neg (markDue (s := clocked t s) hserved hshelf hdormant hnext), if_neg honTime, takePeriod_none (s := clocked t s) hperiod]
  unfold startSweep beginSweep
  simp only [hcurrent', Option.getD_some]

/-- While a collection ends too late for the next launch, the mark is skipped and that ring is stretched (02 R73). -/
theorem sweepMark_skipped (a b : Option Int) (hr : r < 2) (hserved : ringServed (clocked t s) r = true)
    (hshelf : s.core.mode ≠ .shelf) (hdormant : s.core.mode ≠ .dormant)
    (hnext : nextMark (clocked t s) ≤ max s.now t + us s.rings.period + max (markLead s 0) (markLead s 1))
    (hlate : lateFor s (nextMark (clocked t s)) (ringOf s r) = true) :
    exec (.sweepMark t a b) s = .next (after t (fun s => { s with rings.ring := s.rings.ring.map (fun (x : Ring) =>
      if lateFor s (nextMark s) x then { x with stretched := true } else x) }) s) := by
  have hmem : r ∈ [0, 1].filter (ringServed (clocked t s)) := by
    rw [List.mem_filter]
    exact ⟨by simp; omega, hserved⟩
  rw [exec_sweepMark]
  apply timed_next
  dsimp only
  have hany : ([0, 1].filter (ringServed (clocked t s))).any
      (fun r => lateFor (clocked t s) (nextMark (clocked t s)) (ringOf (clocked t s) r)) = true := List.any_eq_true.mpr ⟨r, hmem, hlate⟩
  rw [if_neg (markDue (s := clocked t s) (List.ne_nil_of_mem hmem) hshelf hdormant hnext), if_pos hany]
  rfl

/-- A collection that has not ended 60 µs before the next launch is recorded as stretched (02 R73). -/
theorem sweepStretched_recorded {T : Nat} (hmark : (ringOf s r).mark = some T)
    (hlate : T + us s.rings.period ≤ max s.now t + us 60 + markLead s r) :
    exec (.sweepStretched t r) s = .next (after t (fun s =>
      record Ev.sweepStretched 3 [(r : Int)] (setRing r (fun (x : Ring) => { x with stretched := true }) s)) s) := by
  rw [exec_sweepStretched]
  apply timed_next
  simp only [ringOf_clocked, hmark]
  exact if_pos hlate

/-- A slot of the collection is open: it runs, and the position has not delivered (02 R60, R62). -/
theorem slotOpen {p : Nat} (hmark : (ringOf s r).mark ≠ none) (hlow : p ≠ 0) (hhigh : p ≤ tapCount s r)
    (hfirst : (posOf s r p).got = false) :
    ¬(!(ringOf s r).mark.isSome || !true || decide (p = 0) || decide ((ringOf s r).n.getD 0 < p) || (posOf s r p).got) = true := by
  have hstarted : (ringOf s r).mark.isSome = true := Option.isSome_iff_ne_none.mpr hmark
  have hin : ¬(ringOf s r).n.getD 0 < p := Nat.not_lt.mpr hhigh
  simp [hstarted, hlow, hin, hfirst]

/-- The first good data of a position, under the expected mark count and a clear status, counts and enters the sweep (02 R62, R80). -/
theorem deliverData_clear {p : Nat} {up : Bool} {b : List Byte} (hfirst : (posOf s r p).got = false)
    (hcount : leAt b 0 1 = (posOf s r p).expect) (hstatus : leAt b 1 2 = 0) :
    deliverData r p up true b s =
      (let v := countResponse r p up s
       keepData r p b false (setPos r p (fun (y : RingPos) => { y with got := true, late := false })
         { v with rings.status := v.rings.status.set (tapIndex r p) 0 })) := by
  unfold deliverData
  dsimp only
  rw [countResponse_got, if_neg (Bool.eq_false_iff.mp hfirst), if_pos rfl]
  exact judgeData_clear ((countResponse_expect ..).symm ▸ hcount) hstatus

/-- Data that came with a wrong CRC counts, and the position has delivered without values (02 R62, R80). -/
theorem deliverData_discarded {p : Nat} {up : Bool} {b : List Byte} (hfirst : (posOf s r p).got = false) :
    deliverData r p up false b s = setPos r p (fun (y : RingPos) => { y with got := true }) (countResponse r p up s) := by
  unfold deliverData
  dsimp only
  rw [countResponse_got, if_neg (Bool.eq_false_iff.mp hfirst)]
  exact if_neg Bool.false_ne_true

/-- A slot frame with the right CRC, count and status counts at the ports it passed and enters the sweep (02 R61, R62). -/
theorem sweepData_goodSlot {p : Nat} {f : List Byte} (hpoll : pollAt s r true = none) (hmark : (ringOf s r).mark ≠ none)
    (hlen : f.length = 64) (hhop : byteAt f 0 % 64 = p) (hcmd : byteAt f 1 = 0x90) (hpayload : byteAt f 2 = 59)
    (hcrc : leAt f 62 2 = crc16 (f.take 62)) (hlow : 1 ≤ p) (hhigh : p ≤ tapCount s r) (hfirst : (posOf s r p).got = false)
    (hcount : leAt (f.drop 3) 0 1 = (posOf s r p).expect) (hstatus : leAt (f.drop 3) 1 2 = 0) (hclear : leAt f 4 2 = 0) :
    sweepData r true f s =
      (let v := countResponse r p true s
       let u := keepData r p (f.drop 3) false (setPos r p (fun (y : RingPos) => { y with got := true, late := false })
         { v with rings.status := v.rings.status.set (tapIndex r p) 0 })
       if throughDone u r then endCollection r u else u) := by
  have hwhole : (f.length = 64 && byteAt f 1 = 0x90 && byteAt f 2 = 59 && leAt f 62 2 = crc16 (f.take 62)) = true := by
    simp [hlen, hcmd, hpayload, hcrc]
  unfold sweepData
  simp only [hpoll, hwhole, hhop, if_true]
  rw [if_neg (slotOpen hmark (Nat.one_le_iff_ne_zero.mp hlow) hhigh hfirst), deliverData_clear hfirst hcount hstatus, hclear, bitOf_zero]
  rfl

/-- A frame with a wrong CRC delivers the position of the slot it arrives in, with no values (02 R62). -/
theorem sweepData_brokenSlot {p T : Nat} {f : List Byte} (hpoll : pollAt s r true = none) (hmark : (ringOf s r).mark = some T)
    (hcrc : leAt f 62 2 ≠ crc16 (f.take 62)) (hslot : p = (s.now - (T + us 28)) / us 23 + 1) (hhigh : p ≤ tapCount s r)
    (hfirst : (posOf s r p).got = false) :
    sweepData r true f s =
      (let u := setPos r p (fun (y : RingPos) => { y with got := true }) (countResponse r p true s)
       if throughDone u r then endCollection r u else u) := by
  have hbroken : (f.length = 64 && byteAt f 1 = 0x90 && byteAt f 2 = 59 && leAt f 62 2 = crc16 (f.take 62)) = false := by
    simp [hcrc]
  have hplace : (s.now - ((ringOf s r).mark.getD s.now + us 28)) / us 23 + 1 = p := by
    rw [hmark, hslot]
    rfl
  have hlow : p ≠ 0 := hslot ▸ Nat.succ_ne_zero _
  unfold sweepData
  simp only [hpoll, hbroken, hplace, Bool.false_eq_true, if_false, Bool.false_and]
  rw [if_neg (slotOpen (by simp [hmark]) hlow hhigh hfirst), deliverData_discarded hfirst]

/-- The sweep data of a ring served is taken (02 R60). -/
theorem sweepDataReceive_takes {high : Bool} (f : List Byte) {g : State → State} (hr : r < 2)
    (hserved : ringServed (clocked t s) r = true) (hdata : sweepData r high f (clocked t s) = g (clocked t s)) :
    exec (.sweepDataReceive t r high f) s = .next (after t g s) := by
  rw [exec_sweepDataReceive]
  exact timed_next ((if_pos (by simp [hr, hserved])).trans hdata)

/-- The low end stops when its poll is not answered in time (02 R70). -/
theorem collectPollTimeout_low {h waited : Nat} (hpoll : pollAt (clocked t s) r false = some h)
    (hlate : us 30 + 2 * ((posOf s r h).outUp.getD 0) ≤ waited) :
    exec (.collectPollTimeout t r false h waited) s =
      .next (after t (fun s => pollsEnded r (setRing r (fun (x : Ring) => { x with pollLow := none }) s)) s) := by
  rw [exec_collectPollTimeout]
  exact timed_next (if_pos (by simp [hpoll, hlate]))

/-- The high end stops when its poll is not answered in time (02 R70). -/
theorem collectPollTimeout_high {h waited : Nat} (hpoll : pollAt (clocked t s) r true = some h)
    (hlate : us 30 + 2 * ((posOf s r (tapCount s r + 1 - h)).outDn.getD 0) ≤ waited) :
    exec (.collectPollTimeout t r true h waited) s =
      .next (after t (fun s => pollsEnded r (setRing r (fun (x : Ring) => { x with pollHigh := none }) s)) s) := by
  have hlate' : us 30 + 2 * ((posOf s r ((ringOf s r).n.getD 0 + 1 - h)).outDn.getD 0) ≤ waited := hlate
  rw [exec_collectPollTimeout]
  exact timed_next (if_pos (by simp [hpoll, hlate']))

/-- An open command window of a split ring sends its frames (02 R58, R72). -/
theorem commandWindow_split (hr : r < 2) (hserved : ringServed (clocked t s) r = true) (hshelf : s.core.mode ≠ .shelf)
    (hdormant : s.core.mode ≠ .dormant) (hsplit : (ringOf s r).split = true) (hopen : windowOpen (clocked t s) r = true) :
    exec (.commandWindow t r) s = .next (after t (windowFrames r) s) := by
  rw [exec_commandWindow]
  apply timed_next
  dsimp only
  rw [if_neg (by simp [Nat.not_le.mpr hr, hserved, inMode_active hshelf hdormant])]
  simp [hsplit, hopen]

/-- A request without return declares a break; both ends poll once every slot has ended (02 R68, R70). -/
theorem ringBreak_declares {waited : Nat} (hserved : ringServed (clocked t s) r = true) (hthrough : (ringOf s r).split = false)
    (hfirst : (ringOf s r).locating = false) (hlate : (ringOf s r).loop.getD 0 + us (prmN s Prm.returnTimeoutExtra) ≤ waited) :
    exec (.ringBreak t r waited false) s = .next (after t (fun s =>
      let low := max s.now (((ringOf s r).mark.map (fun T => T + us 8 + us 23 * tapCount s r)).getD s.now)
      ringSend r true true low 1 1 0x10 [] (ringSend r false true low 1 1 0x10 [] (setRing r (fun (x : Ring) =>
        { x with locating := true, pollLow := some 1, pollHigh := some 1, pollsFrom := (low, low), ansLow := 0, ansHigh := 0,
                 lateness := 0 }) s))) s) := by
  rw [exec_ringBreak]
  apply timed_next
  dsimp only
  rw [if_pos (by simp [hserved, hthrough, hfirst, hlate])]
  rfl

theorem sweepPeriodChange_takes {p a : Nat} (hnew : s.rings.nextPeriod = some (p, a)) (hdue : a ≤ nextMark (clocked t s) + us 10) :
    exec (.sweepPeriodChange t) s = .next (after t (fun s => setPeriodic 0 4 (us p) 0
      { impAbort Ev.impSweep s with rings.period := p, rings.nextPeriod := none, rings.balModeDue := [true, true] }) s) := by
  rw [exec_sweepPeriodChange]
  exact timed_next (takePeriod_due (s := clocked t s) hnew hdue)

end Sweep

/-- Settles O11: one lemma for each event of a sweep, a poll, a command window and a break. -/
theorem ringSweepAndBreak : Obligations.RingSweepAndBreak := by
  unfold Obligations.RingSweepAndBreak
  refine ⟨fun t a b c s => sweepMark_starts, fun t r a b s => sweepMark_skipped a b, fun t r T s => sweepStretched_recorded,
    ?goodSlot, ?brokenSlot, fun t r h waited s => collectPollTimeout_low, fun t r h waited s => collectPollTimeout_high,
    fun t r s => commandWindow_split, fun t r waited s => ringBreak_declares, fun t p a s => sweepPeriodChange_takes⟩
  case goodSlot =>
    intro t r p f s hr hserved hpoll hmark hlen hhop hcmd hpayload hcrc hlow hhigh hfirst hcount hstatus hclear
    exact sweepDataReceive_takes f hr hserved
      (sweepData_goodSlot hpoll hmark hlen hhop hcmd hpayload hcrc hlow hhigh hfirst hcount hstatus hclear)
  case brokenSlot =>
    intro t r p f s hr hserved hpoll hmark hcrc hslot hhigh hfirst
    exact sweepDataReceive_takes f hr hserved
      (sweepData_brokenSlot hpoll hmark hcrc (by rw [Nat.zero_add]; exact hslot) hhigh hfirst)

end Sys2Proof.Machine

namespace Sys2Proof.Machine

/-! ## Enumeration, delays and tests of a ring (02 R50 to R80) -/

/-- A whole loop whose NOP comes back with a HOP that counts more than 16 taps is RING_TOO_LONG and is not swept (02 R50, R56). -/
theorem enumerate_tooLong {r : Nat} {o : RingObs} {s : State} (hwhole : loopWhole s o = true) (hlong : o.back < 46) :
    enumerate r o s =
      (let u := setRing r (fun (x : Ring) => { x with
         up := false, split := false, brk := none, locating := false, enterSplit := false, mark := none, tooLong := false,
         loop := o.loop, pollLow := none, pollHigh := none, clean := 0, remeasure := none, slotSent := false, tested := none,
         stretched := false, refreshedAt := s.now, probed := (s.now, 0) }) s
       let v := ringSend r true false s.now 65 62 0x00 [] { u with rings.window := u.rings.window.set r true }
       record Ev.tapCountMismatch 3 [(r : Int), ((62 - o.back : Nat) : Int), (expectedTaps v r : Int)]
         (record Ev.ringTooLong 3 [(r : Int), ((62 - o.back : Nat) : Int)]
           (setRing r (fun (x : Ring) => { x with tooLong := true, mismatch := true }) v))) := by
  have hback : min o.back 62 = o.back := by omega
  have hcount : 16 < 62 - o.back := by omega
  unfold enumerate
  simp only [hwhole, if_true, hback]
  exact if_pos hcount

/-- A dip of 8 µs to 12 µs is stamped and passes the switch (02 R67; 16 R480). -/
theorem judgeDip_passes {r p d : Nat} {s : State} (hlong : us 8 ≤ d) (hshort : d ≤ us 12) :
    judgeDip r p (some d) s =
      setRing r (fun (x : Ring) => { x with fltFail := x.fltFail &&& ~~~ BitVec.ofNat 16 (2 ^ (p - 1)) })
        (let u := setPos r p (fun (x : RingPos) => { x with fltTestAt := s.now }) s
         captureEdge 0x12 false (stampAt u (u.now + us 50)) u) := by
  have hpass : (((some d).map (fun d => decide (us 8 ≤ d) && decide (d ≤ us 12))).getD false) = true := by
    simp [hlong, hshort]
  unfold judgeDip
  simp only [hpass, Option.isSome_some, if_true]

/-- Frames and errors that fill no block of 1,000 join the running one (02 R80). -/
theorem blockAfter_unfilled {s : State} {fuel frames errs : Nat} {blk : Nat × Nat} {was worse : Bool} (hroom : frames < 1000 - blk.1) :
    blockAfter s (fuel + 1) blk was worse frames errs = ((blk.1 + frames, blk.2 + errs), was, worse) := if_pos hroom

/-- Counts and frames that fill no block are added to the running one (02 R80). -/
theorem pollStatus_unfilled {r p : Nat} {s : State}
    (hup : (posOf (sendTap r p 0x06 [] s) r p).frUp < 1000 - (posOf (sendTap r p 0x06 [] s) r p).blkUp.1)
    (hdn : (posOf (sendTap r p 0x06 [] s) r p).frDn < 1000 - (posOf (sendTap r p 0x06 [] s) r p).blkDn.1) :
    pollStatus r p s =
      (let u := sendTap r p 0x06 [] s
       let x := tapOf u (tapIndex r p)
       let y := posOf u r p
       judgeMargin r false (setPos r p (fun (z : RingPos) => { z with
         crc := (x.crcUp, x.crcDn),
         blkUp := (y.blkUp.1 + y.frUp, y.blkUp.2 + (x.crcUp + 65536 - y.crc.1) % 65536),
         blkDn := (y.blkDn.1 + y.frDn, y.blkDn.2 + (x.crcDn + 65536 - y.crc.2) % 65536),
         overUp := y.overUp, overDn := y.overDn, frUp := 0, frDn := 0, statusAt := u.now }) u)) := by
  unfold pollStatus
  dsimp only
  rw [blockAfter_unfilled hup, blockAfter_unfilled hdn]
  rfl

section RingTests

variable {t r : Nat} {s : State}

/-- Enumeration learns a ring that is not swept and serves a pending RESTART (02 R52). -/
theorem enumeration_learns (o : RingObs) (lost : List Nat) (hr : r < 2) (hrun : running s 1 = true) (hdown : (ringOf s r).up = false)
    (hshelf : s.core.mode ≠ .shelf) (hdormant : s.core.mode ≠ .dormant) (htoken : holdsToken s = true) (hheld : s.thm.held = false) :
    exec (.enumeration t r o lost) s = .next (after t (fun s =>
      let u := eachDo lost loseCtx (enumerate r o s)
      ringRestarted { u with rings.enumDue := u.rings.enumDue.set r false }) s) := by
  rw [exec_enumeration]
  exact timed_next (if_pos (by simp [hr, hrun, hdown, inMode_active hshelf hdormant, htoken, hheld]))

/-- The delay table is refreshed at least every 10 s (02 R55). -/
theorem delayTableRefresh_due (rts : List (Option Nat × Option Nat)) (hserved : ringServed (clocked t s) r = true)
    (hopen : windowOpen (clocked t s) r = true)
    (hdue : (ringOf s r).refreshedAt + sec (min 10 (prmN s Prm.delayRemeasure)) ≤ max s.now t) :
    exec (.delayTableRefresh t r rts) s = .next (after t (fun s =>
      refreshDelays r (takeDelays r rts (setRing r (fun (x : Ring) => { x with refreshedAt := s.now }) s))) s) := by
  rw [exec_delayTableRefresh]
  exact timed_next (if_pos (by simp [hserved, hopen, heldFor, hdue]))

/-- An unclean round trip starts the count of clean seconds anew (02 R74). -/
theorem splitRestoreTest_unclean (hserved : ringServed (clocked t s) r = true) (hopen : windowOpen (clocked t s) r = true)
    (hsplit : (ringOf s r).split = true) (hfirst : (ringOf s r).tested = none) :
    exec (.splitRestoreTest t r false) s = .next (after t (fun s => setRing r (fun (x : Ring) =>
      { x with tested := some (taiSecond s), clean := 0, slotSent := false, remeasure := none,
               waive := x.waive && x.remeasure.isNone }) (ringSend r true false s.now 1 62 0x00 [] s)) s) := by
  rw [exec_splitRestoreTest]
  apply timed_next
  dsimp only
  rw [if_neg (by simp [hserved, hsplit, hopen, hfirst])]
  simp

/-- A clean round trip of a held ring counts a clean second (02 R74). -/
theorem splitRestoreTest_cleanHeld (hserved : ringServed (clocked t s) r = true) (hopen : windowOpen (clocked t s) r = true)
    (hsplit : (ringOf s r).split = true) (hfirst : (ringOf s r).tested = none) (hhold : (ringOf s r).hold = true) :
    exec (.splitRestoreTest t r true) s = .next (after t (fun s => setRing r (fun (x : Ring) =>
      { x with tested := some (taiSecond s), clean := (ringOf s r).clean + 1 }) (ringSend r true false s.now 1 62 0x00 [] s)) s) := by
  rw [exec_splitRestoreTest]
  apply timed_next
  dsimp only
  rw [if_neg (by simp [hserved, hsplit, hopen, hfirst])]
  simp [hhold]

/-- After the last window of the re-measurement the ring is in through mode with its new loop delay (02 R74). -/
theorem returnToThrough_returns {loop a : Nat} (rts : List (Option Nat × Option Nat)) (hserved : ringServed (clocked t s) r = true)
    (hsplit : (ringOf s r).split = true) (hopen : windowOpen (clocked t s) r = true) (hsent : (ringOf s r).slotSent = true)
    (hsecond : (ringOf s r).remeasure = some a) (hover : a < stampAt (clocked t s) (nextMark (clocked t s) + us 10) / 2 ^ 32) :
    exec (.returnToThrough t r loop rts) s = .next (after t (fun s =>
      let u := setRing r (fun (x : Ring) => { x with
        split := false, brk := none, locating := false, enterSplit := false, loop := some loop, remeasure := none, slotSent := false,
        clean := 0, waive := false, refreshedAt := s.now, pollLow := none, pollHigh := none }) s
      let u := eachDo ((reached u r).filter (fun p => !(reached s r).contains p)) (fun p s =>
        setPos r p (fun (y : RingPos) => { y with resetup := true }) s) (markUnreachable r u)
      record Ev.ringRestored 1 [(r : Int)] (refreshDelays r (takeDelays r rts u))) s) := by
  rw [exec_returnToThrough]
  apply timed_next
  exact if_neg (by simpa [hserved, hsplit, hopen, hsent, hsecond] using hover)

/-- The next tap's switch is tested once its turn has come and its loop has been closed for 1 s (02 R67). -/
theorem fltTestDue_tests {p : Nat} (dip : Option Nat) (hserved : ringServed (clocked t s) r = true)
    (hopen : windowOpen (clocked t s) r = true)
    (hnext : ((reached s r).find? (fun p => (ringOf s r).fltNext ≤ p)).getD ((reached s r).headD 0) = p) (hsome : p ≠ 0)
    (hloop : loopOpen s r = false) (hclosed : (ringOf s r).loopClosedAt + sec 1 ≤ max s.now t)
    (hturn : lastFltTest (ringOf s r) + sec (prmN s Prm.fltTestInterval) / max (reached s r).length 1 ≤ max s.now t) :
    exec (.fltTestDue t r dip) s = .next (after t (fun s =>
      judgeDip r p dip (sendTap r p 0x08 [] (setRing r (fun (x : Ring) => { x with fltNext := p + 1 }) s))) s) := by
  have hmay : mayTest (clocked t s) r = true := by simp [mayTest, heldFor, hloop, hclosed]
  have hnext' : ((reached (clocked t s) r).find? (fun p => (ringOf (clocked t s) r).fltNext ≤ p)).getD
      ((reached (clocked t s) r).headD 0) = p := hnext
  rw [exec_fltTestDue]
  apply timed_next
  dsimp only
  rw [hnext']
  exact if_neg (by simp [hserved, hopen, hsome, hmay, heldFor, hturn])

/-- A READ_STATUS goes to a tap that an end reaches (02 R80). -/
theorem tapStatusPoll_polls {i : Nat} (hserved : ringServed (clocked t s) (i / 16) = true)
    (hopen : windowOpen (clocked t s) (i / 16) = true) (hreached : (i % 16 + 1) ∈ reached s (i / 16)) :
    exec (.tapStatusPoll t i) s = .next (after t (pollStatus (i / 16) (i % 16 + 1)) s) := by
  rw [exec_tapStatusPoll]
  exact timed_next (if_neg (by simp [tapPlace, hserved, hopen, hreached]))

end RingTests

/-- Settles O12: one lemma for each event of a command window, over what enumeration, dip and block do with their cases. -/
theorem ringEnumerationAndTests : Obligations.RingEnumerationAndTests := by
  unfold Obligations.RingEnumerationAndTests
  exact ⟨fun t r o lost s => enumeration_learns o lost, fun t m a b s => reEnumerate_enumerates a b, fun r o s => enumerate_tooLong,
    fun t r rts s => delayTableRefresh_due rts, fun t r s => splitRestoreTest_unclean, fun t r s => splitRestoreTest_cleanHeld,
    fun t r loop a rts s => returnToThrough_returns rts, fun t r p dip s => fltTestDue_tests dip, fun r p d s => judgeDip_passes,
    fun t i s => tapStatusPoll_polls, fun r p s => pollStatus_unfilled⟩

end Sys2Proof.Machine

namespace Sys2Proof.Machine

/-! ## A slot under a lease request (03 R87, R88) -/

section LeaseSlot

variable {s : State} {p : Tap} {x : Slot} {chan dir dur : Nat} {other : Option Nat}

/-- A channel of the tap is not the code for no lease. -/
theorem channel_ne_noLease (hchan : chan ≤ 15) : chan ≠ 0xFF := by omega

/-- A request that names a channel of the tap and a direction is not a bad one. -/
theorem request_in_range (hchan : chan ≤ 15) (hdir : dir ≤ 1) : ¬(false || 15 < chan || 1 < dir) = true := by
  simp [Nat.not_lt.mpr hchan, Nat.not_lt.mpr hdir]

/-- A slot that is refused keeps no lease (03 R88). -/
theorem leaseSlot_refused {bad : Bool} {code : Nat} (hchan : chan ≤ 15) (hrefused : leaseRefusal s p x chan dir bad other = some code) :
    leaseSlot s p x chan dir dur bad other = { x with chan := none, gated := false, impOff := false, result := code } := by
  unfold leaseSlot
  rw [if_neg (channel_ne_noLease hchan), hrefused]

/-- A slot that nothing refuses is granted (03 R88). -/
theorem leaseSlot_granted {bad : Bool} (hchan : chan ≤ 15) (hfree : leaseRefusal s p x chan dir bad other = none) :
    leaseSlot s p x chan dir dur bad other = grantSlot s p x chan dir dur := by
  unfold leaseSlot
  rw [if_neg (channel_ne_noLease hchan), hfree]

theorem leaseRefusal_withoutMode (hchan : chan ≤ 15) (hdir : dir ≤ 1) (hmode : p.balMode = none) :
    leaseRefusal s p x chan dir false other = some 6 := by
  unfold leaseRefusal
  rw [if_neg (request_in_range hchan hdir), if_pos (by simp [hmode])]

theorem leaseRefusal_latched (hchan : chan ≤ 15) (hdir : dir ≤ 1) (hmode : p.balMode ≠ none) (htrip : p.ovTrip ≠ 0) :
    leaseRefusal s p x chan dir false other = some 3 := by
  unfold leaseRefusal
  rw [if_neg (request_in_range hchan hdir), if_neg (by simp [hmode]),
    if_pos (Bool.or_eq_true_iff.mpr (.inl (bne_iff_ne.mpr htrip)))]

/-- A tap in gated mode without a latched trip and without a converter temperature has no cause to refuse. -/
theorem leaseRefusal_free (hchan : chan ≤ 15) (hdir : dir ≤ 1) (hmode : p.balMode = some false) (hov : p.ovTrip = 0)
    (huv : p.uvTrip = 0) (htemp : p.convTemp = none) : leaseRefusal s p x chan dir false other = none := by
  unfold leaseRefusal
  rw [if_neg (request_in_range hchan hdir), if_neg (by simp [hmode]), if_neg (by simp [hov, huv]), if_neg (by simp [htemp]),
    if_neg (by simp [hmode])]

/-- A lease in an empty slot starts anew, its current flowing at once while nothing suspends it (03 R88). -/
theorem grantSlot_starts (hgate : gateNow s p = false) (hwindow : impNow s p = false) (hempty : x.chan = none) :
    grantSlot s p x chan dir dur =
      { x with chan := some chan, charge := dir == 1, since := s.now, ends := s.now + ms dur, flowsAt := s.now, gated := false,
               impOff := false, result := 0 } := by
  have huncovered : windowCovers s p chan = false := by simp [windowCovers, hwindow]
  have hother : (leaseRuns s x && x.chan == some chan) = false := by simp [hempty]
  unfold grantSlot
  simp [huncovered, hother, hgate]

end LeaseSlot

/-! ## The suspension around a sample and a window (03 R90, R95) -/

section Suspension

variable {s : State} {p : Tap} {a : Nat}

/-- Until 160 µs after it, the predicted instant is one period after the last sample (03 R90). -/
theorem predictedAt_first (hsampled : p.sampledAt = some a) (hperiod : 0 < us p.balPeriod)
    (hbefore : s.now < a + us 160 + us p.balPeriod) : predictedAt s p = some (a + us p.balPeriod) := by
  have hnone : (s.now - (a + us 160)) / us p.balPeriod = 0 := Nat.div_eq_of_lt (by omega)
  have hfirst : max 1 (0 + if a + us 160 ≤ s.now then 1 else 0) = 1 := by split <;> rfl
  simp only [predictedAt, hsampled, hnone, hfirst, Nat.mul_one]
  exact if_neg hperiod.ne'

/-- No sample is predicted before one period after the last one (03 R90). -/
theorem predictedAt_ge {b : Nat} (hsampled : p.sampledAt = some a) (hpredicted : predictedAt s p = some b) :
    a + us p.balPeriod ≤ b := by
  simp only [predictedAt, hsampled] at hpredicted
  split at hpredicted
  · cases hpredicted
  · cases hpredicted
    exact Nat.add_le_add_left (Nat.le_mul_of_pos_right _ (Nat.le_max_left ..)) a

/-- In gated mode the suspension runs from 40 µs before the predicted instant (03 R90). -/
theorem gateNow_beforeSample (hmode : p.balMode = some false) (hsampled : p.sampledAt = some a) (hafter : a + us 160 ≤ s.now)
    (hsoon : a + us p.balPeriod ≤ s.now + us 40) (hbefore : s.now < a + us 160 + us p.balPeriod) : gateNow s p = true := by
  have hperiod : 0 < us p.balPeriod := by omega
  unfold gateNow
  rw [predictedAt_first hsampled hperiod hbefore]
  simp [hmode, hsoon]

/-- From 10 µs after a sample to 40 µs before the next predicted one nothing is suspended for a sample (03 R90). -/
theorem gateNow_betweenSamples (hsampled : p.sampledAt = some a) (hafter : a + us 10 ≤ s.now)
    (hearly : s.now + us 40 < a + us p.balPeriod) : gateNow s p = false := by
  have hnext : ((predictedAt s p).map (fun b => decide (b ≤ s.now + us 40))).getD false = false := by
    cases hpredicted : predictedAt s p with
    | none => rfl
    | some b =>
      have hlate := predictedAt_ge hsampled hpredicted
      exact decide_eq_false (by omega)
  unfold gateNow
  simp [hnext, hsampled, hafter]

/-- Without an armed, running or just ended window nothing is suspended for one (03 R95). -/
theorem impNow_noWindow (hwindow : p.imp.window = none) (hsince : p.imp.since = none) (hended : p.imp.endedAt = none) :
    impNow s p = false := by
  simp [impNow, hwindow, hsince, hended]

/-- While a window runs, its mask alone says which channels are suspended (03 R95). -/
theorem windowCovers_running (hsince : p.imp.since.isSome = true) : windowCovers s p = maskCovers p := by
  funext c
  simp [windowCovers, impNow, hsince]

end Suspension

/-! ## The tap's balancing commands and events (03 R85 to R95) -/

section BalanceTap

variable {t i : Nat} {q : TapReq} {s : State}

theorem balLease_heard (temp : Int) (hq : TapHears s 0x20 q) (hlen : q.payload.length = 6) :
    exec (.balLease t q temp) s = .next (after t (fun s =>
      let u := forwardRequest 0x20 true q s
      let dur := max 1 (min (leAt q.payload 4 2) 500)
      let v := setTap (tapIndex q.ring q.pos) (fun (p : Tap) => { p with convTemp := some temp }) u
      let v := setTap (tapIndex q.ring q.pos) (leaseTap v q.payload dur) v
      let p := tapOf v (tapIndex q.ring q.pos)
      let r0 := (p.slots.getD 0 {}).result
      let r1 := (p.slots.getD 1 {}).result
      let v := setPos q.ring q.pos (fun (x : RingPos) => { x with lastOk := r0 ≤ 1 && r1 ≤ 1 }) (noteRun q.ring q.pos v)
      respond q 0xA0 (leBytes 1 r0 ++ leBytes 1 r1 ++ leBytes 2 dur ++ tempBytes (some temp))
        (if (1 < r0 && r0 ≠ 7) || (1 < r1 && r1 ≠ 7) then record Ev.balRefused 3 [(q.ring : Int), q.pos, r0, r1] v else v)) s) := by
  rw [exec_balLease]
  exact timed_next (atTap_reply hq (withPayload_met hlen))

theorem balStop_heard (hq : TapHears s 0x21 q) (hlen : q.payload.length = 1) (hmask : leAt q.payload 0 1 ≤ 3) :
    exec (.balStop t q) s = .next (after t (fun s =>
      let u := forwardRequest 0x21 true q s
      let m := leAt q.payload 0 1
      let p := tapOf u (tapIndex q.ring q.pos)
      let stops (k : Nat) : Bool := bitOf m k && leaseRuns u (p.slots.getD k {})
      let cut (k : Nat) (x : Slot) : Slot := if bitOf m k then { x with chan := none, gated := false, impOff := false } else x
      respond q 0xA1 (leBytes 1 (bit (stops 0) 0 + bit (stops 1) 1))
        (noteRun q.ring q.pos (setTap (tapIndex q.ring q.pos) (fun (p : Tap) =>
          { p with slots := [cut 0 (p.slots.getD 0 {}), cut 1 (p.slots.getD 1 {})] }) u))) s) := by
  rw [exec_balStop]
  exact timed_next (atTap_reply hq ((withPayload_met hlen).trans (if_neg (Nat.not_lt.mpr hmask))))

theorem balMode_heard (hq : TapHears s 0x22 q) (hlen : q.payload.length = 5) (hmode : leAt q.payload 0 1 ≤ 1) :
    exec (.balMode t q) s = .next (after t (fun s => respond q 0xA2 q.payload (noteRun q.ring q.pos
      (setTap (tapIndex q.ring q.pos) (fun (p : Tap) =>
        { endLeases p with balMode := some (leAt q.payload 0 1 == 1), balPeriod := leAt q.payload 1 4 })
        (forwardRequest 0x22 true q s)))) s) := by
  rw [exec_balMode]
  exact timed_next (atTap_reply hq ((withPayload_met hlen).trans (if_neg (Nat.not_lt.mpr hmode))))

/-- A lease that has not been renewed ends at its time (03 R85, R86). -/
theorem balLeaseExpiry_ends {k : Nat} (hended : ((tapOf s i).slots.getD k {}).ends ≤ max s.now t) :
    exec (.balLeaseExpiry t i k) s =
      .next (after t (setSlot i k (fun (x : Slot) => { x with chan := none, gated := false, impOff := false })) s) := by
  rw [exec_balLeaseExpiry]
  exact timed_next (if_pos hended)

/-- Above 105 °C both leases of the tap end (03 R85). -/
theorem balConverterOvertemp_ends {temp : Int} (hhot : 10500 < temp) :
    exec (.balConverterOvertemp t i temp) s = .next (after t (fun s =>
      setTap i endLeases (setTap i (fun (p : Tap) => { p with convTemp := some temp }) s)) s) := by
  rw [exec_balConverterOvertemp]
  exact timed_next (if_pos hhot)

/-- A tap that suspends for a sample suspends every lease it holds (03 R90). -/
theorem balGatedSuspend_suspends (hgate : gateNow (clocked t s) (tapOf s i) = true) :
    exec (.balGatedSuspend t i) s = .next (after t (setTap i (fun (p : Tap) =>
      { p with slots := p.slots.map (fun (x : Slot) => { x with gated := x.chan.isSome }) })) s) := by
  rw [exec_balGatedSuspend]
  exact timed_next (if_pos hgate)

/-- Current that neither a sample nor a window suspends any longer resumes (03 R90, R95). -/
theorem balResume_resumes (hgate : gateNow (clocked t s) (tapOf s i) = false) (hwindow : impNow (clocked t s) (tapOf s i) = false) :
    exec (.balResume t i) s = .next (after t (setTap i (fun (p : Tap) =>
      { p with slots := p.slots.map (fun (x : Slot) => { x with gated := false, impOff := false }) })) s) := by
  rw [exec_balResume]
  apply timed_next
  simp only [tapOf_clocked, hgate, hwindow, Bool.and_false]

/-- A running window suspends the channels that its mask covers (03 R95). -/
theorem impWindowSuspend_suspends (hsince : (tapOf s i).imp.since.isSome = true) :
    exec (.impWindowSuspend t i) s = .next (after t (fun s => setTap i (fun (p : Tap) =>
      { p with slots := p.slots.map (fun (x : Slot) =>
        { x with impOff := x.impOff || (x.chan.map (maskCovers (tapOf s i))).getD false }) }) s) s) := by
  rw [exec_impWindowSuspend]
  apply timed_next
  simp only [tapOf_clocked, windowCovers_running hsince]

end BalanceTap

/-- Settles O17: one lemma for each command and event of a tap, and one for each answer to a request for a lease. -/
theorem balanceInTaps : Obligations.BalanceInTaps := by
  unfold Obligations.BalanceInTaps
  refine ⟨fun t q temp s => balLease_heard temp, ?withoutMode, ?latched, ?free, fun t q s => balStop_heard, fun t q s => balMode_heard,
    fun t i k s => balLeaseExpiry_ends, fun t i temp s => balConverterOvertemp_ends, ?suspend, ?resume, ?window⟩
  case withoutMode =>
    intro s p x chan dir dur other hchan hdir hmode
    exact leaseSlot_refused hchan (leaseRefusal_withoutMode hchan hdir hmode)
  case latched =>
    intro s p x chan dir dur m other hchan hdir hmode htrip
    exact leaseSlot_refused hchan (leaseRefusal_latched hchan hdir (by simp [hmode]) htrip)
  case free =>
    intro s p x chan dir dur other hchan hdir hmode hov huv htemp hgate hwindow hempty
    exact (leaseSlot_granted hchan (leaseRefusal_free hchan hdir hmode hov huv htemp)).trans (grantSlot_starts hgate hwindow hempty)
  case suspend =>
    intro t i a s hmode hsampled hafter hsoon hbefore
    exact balGatedSuspend_suspends (gateNow_beforeSample hmode hsampled hafter hsoon hbefore)
  case resume =>
    intro t i a s hsampled hafter hearly hwindow hsince hended
    exact balResume_resumes (gateNow_betweenSamples hsampled hafter hearly) (impNow_noWindow hwindow hsince hended)
  case window =>
    intro t i start len id s _ hsince
    exact impWindowSuspend_suspends hsince

end Sys2Proof.Machine

namespace Sys2Proof.Machine

/-! ## The renewal of the leases (03 R89, R97 to R102) -/

section BalanceScheduler

variable {t m : Nat} {s : State}

theorem balRenew_early {a : Nat} (hlast : s.rings.renewAt = some a) (hearly : max s.now t < a + ms (prmN s Prm.balRenew)) :
    exec (.balRenew t) s = .next (after t (fun s => s) s) := by
  rw [exec_balRenew]
  apply timed_next
  simp only [clocked_rings, hlast]
  exact if_pos (by simpa using hearly)

/-- What a renewal does for one ring: it counts the charge moved, then withdraws every lease where balancing is not granted, else
chooses anew and sends at once in an open command window. -/
theorem balRenew_due {a : Nat} (hlast : s.rings.renewAt = some a) (hdue : a + ms (prmN s Prm.balRenew) ≤ max s.now t) :
    exec (.balRenew t) s = .next (after t (fun s =>
      let v := { s with rings.renewAt := some s.now }
      let mean := meanOf (((List.range 512).filter (balUsable v)).map (fun c => (ctxOf v c).soc))
      eachDo [0, 1] (fun r s =>
        let s := eachDo (reached s r) (fun p s => countBalance r p s) s
        if !balGrants s || !ringServed s r || s.rings.balModeDue.getD r false then
          eachDo (reached s r) (fun p s => setPos r p (fun (x : RingPos) => { x with sent := [none, none], leaseDue := false }) s) s
        else
          let s := eachDo (reached s r) (fun p s =>
            setPos r p (fun (x : RingPos) => { x with sent := balChoice s mean r p, leaseDue := true, lastOk := false }) s) s
          if windowOpen s r then sendLeases r s else s) v) s) := by
  have hpassed : decide (a + ms (prmN (clocked t s) Prm.balRenew) ≤ (clocked t s).now) = true := decide_eq_true hdue
  rw [exec_balRenew]
  apply timed_next
  simp only [clocked_rings, hlast]
  exact if_neg (by rw [hpassed]; exact Bool.false_ne_true)

/-! ## The commands of the balancing function (03 R104) -/

theorem balStatus_reads (hp : Pend s m Cmd.balStatus []) : exec (.balStatus t m) s = .next (read t m balStatus s) := by
  rw [exec_balStatus]
  exact serve_length_read hp rfl rfl

/-- BAL_TOTALS answers the charge moved by 1 to 64 cells in each direction. -/
theorem balTotals_reads {b : List Byte} (hp : Pend s m Cmd.balTotals b) (hlen : b.length = 3) (hsome : leAt b 2 1 ≠ 0)
    (hmost : leAt b 2 1 ≤ 64) (hcells : leAt b 0 2 + leAt b 2 1 ≤ 512) :
    exec (.balTotals t m) s = .next (read t m (fun s => .fields [("totals", (List.range (leAt b 2 1)).flatMap (fun k =>
      let x := ctxOf s (leAt b 0 2 + k)
      [(codedTotal x.balDis : Int), (codedTotal x.balChg : Int)]))]) s) := by
  have hrange : cellRange64 b = none := by
    unfold cellRange64
    rw [if_neg (by omega), if_neg (by omega)]
  rw [exec_balTotals]
  refine serve_length_read hp hlen ?_
  rw [hrange]

/-- A handler that refuses a field of its payload. -/
theorem serve_argument {c off : Nat} {b : List Byte} {h : Request → State → Answer × State} (hp : Pend s m c b)
    (hh : ∀ r, r.payload = b → h r (startCommand m (clocked t s)) = refuse (argReply c off) (startCommand m (clocked t s))) :
    timed t (serve m c h) s = .next (turnedAway t m (argReply c off) s) := by
  refine serve_turned hp fun r hr _ => ?_
  rw [hh r hr]
  rfl

section ForceFields

variable {r : Request}

theorem balForceHandler_badCell (hcell : Config.openField "BAL_FORCE" r.payload 0 < 0 ∨ 511 < Config.openField "BAL_FORCE" r.payload 0) :
    balForceHandler r s = refuse (argReply Cmd.balForce (Config.openField "BAL_FORCE offset" r.payload 0).toNat) s := if_pos hcell

variable (hcell : ¬(Config.openField "BAL_FORCE" r.payload 0 < 0 ∨ 511 < Config.openField "BAL_FORCE" r.payload 0))
include hcell

theorem balForceHandler_badDirection
    (hdir : Config.openField "BAL_FORCE" r.payload 1 < 0 ∨ 1 < Config.openField "BAL_FORCE" r.payload 1) :
    balForceHandler r s = refuse (argReply Cmd.balForce (Config.openField "BAL_FORCE offset" r.payload 1).toNat) s :=
  (if_neg hcell).trans (if_pos hdir)

variable (hdir : ¬(Config.openField "BAL_FORCE" r.payload 1 < 0 ∨ 1 < Config.openField "BAL_FORCE" r.payload 1))
include hdir

theorem balForceHandler_badTime
    (htime : Config.openField "BAL_FORCE" r.payload 2 < 1 ∨ 600 < Config.openField "BAL_FORCE" r.payload 2) :
    balForceHandler r s = refuse (argReply Cmd.balForce (Config.openField "BAL_FORCE offset" r.payload 2).toNat) s :=
  (if_neg hcell).trans ((if_neg hdir).trans (if_pos htime))

/-- With its fields in range the cell's lease is forced, in place of an earlier one of that cell. -/
theorem balForceHandler_forces
    (htime : ¬(Config.openField "BAL_FORCE" r.payload 2 < 1 ∨ 600 < Config.openField "BAL_FORCE" r.payload 2)) :
    balForceHandler r s =
      (let f := Config.openField "BAL_FORCE" r.payload
       ok (record Ev.balForced 1 [f 0, f 1, f 2] { s with
         rings.forced := s.rings.forced.filter (fun x => x.1 ≠ (f 0).toNat) ++
           [((f 0).toNat, f 1 == 1, s.now + sec (f 2).toNat)] })) :=
  (if_neg hcell).trans ((if_neg hdir).trans (if_neg htime))

end ForceFields

/-- BAL_FORCE is refused at its first field out of range, else it forces the cell's lease for its seconds. -/
theorem balForce_serves {b : List Byte} (hp : Pend s m Cmd.balForce b) :
    exec (.balForce t m) s = .next (
      let f := Config.openField "BAL_FORCE" b
      let off := fun (k : Nat) => (Config.openField "BAL_FORCE offset" b k).toNat
      if f 0 < 0 ∨ 511 < f 0 then turnedAway t m (argReply Cmd.balForce (off 0)) s
      else if f 1 < 0 ∨ 1 < f 1 then turnedAway t m (argReply Cmd.balForce (off 1)) s
      else if f 2 < 1 ∨ 600 < f 2 then turnedAway t m (argReply Cmd.balForce (off 2)) s
      else ended t m doneReply (fun s => record Ev.balForced 1 [f 0, f 1, f 2] { s with
        rings.forced := s.rings.forced.filter (fun x => x.1 ≠ (f 0).toNat) ++
          [((f 0).toNat, f 1 == 1, s.now + sec (f 2).toNat)] }) s) := by
  rw [exec_balForce]
  dsimp only
  split_ifs with hcell hdir htime
  · exact serve_argument hp fun r hr => balForceHandler_badCell (hr ▸ hcell) |>.trans (by rw [hr])
  · exact serve_argument hp fun r hr => balForceHandler_badDirection (hr ▸ hcell) (hr ▸ hdir) |>.trans (by rw [hr])
  · exact serve_argument hp fun r hr => balForceHandler_badTime (hr ▸ hcell) (hr ▸ hdir) (hr ▸ htime) |>.trans (by rw [hr])
  · refine serve_ended hp fun r hr _ => ?_
    rw [balForceHandler_forces (hr ▸ hcell) (hr ▸ hdir) (hr ▸ htime), hr]
    rfl

/-- A forced lease ends with its time. -/
theorem balForceEnd_ends {c e : Nat} {d : Bool} (hforced : (c, d, e) ∈ s.rings.forced) (hended : e ≤ max s.now t) :
    exec (.balForceEnd t c) s = .next (after t (fun s => record Ev.balReleased 1 [(c : Int)] { s with
      rings.forced := s.rings.forced.filter (fun x => !(x.1 == c && decide (x.2.2 ≤ s.now))) }) s) := by
  rw [exec_balForceEnd]
  exact timed_next (if_pos (List.any_eq_true.mpr ⟨(c, d, e), hforced, by simp [hended]⟩))

theorem balRelease_releases (hp : Pend s m Cmd.balRelease []) :
    exec (.balRelease t m) s =
      .next (ended t m doneReply (fun s => record Ev.balReleased 1 [] { s with rings.forced := [] }) s) := by
  rw [exec_balRelease]
  exact serve_length_done hp rfl rfl

end BalanceScheduler

/-- Settles O18: one lemma for each turn of the renewal and for each command. -/
theorem balanceScheduler : Obligations.BalanceScheduler := by
  unfold Obligations.BalanceScheduler
  exact ⟨fun t a s => balRenew_early, fun t a s => balRenew_due, fun t m s => balStatus_reads, fun t m b s => balTotals_reads,
    fun t m b s => balForce_serves, fun t c e d s => balForceEnd_ends, fun t m s => balRelease_releases⟩

end Sys2Proof.Machine

namespace Sys2Proof.Machine

/-! ## The nearest temperature (04 R112) -/

/-- The least of the values that two inputs give is the lower of the two. -/
theorem min?_filterMap_pair (a b : Option Int) : ([a, b].filterMap id).min? = lowerOf a b := by
  cases a <;> cases b <;> rfl

section NearestTemperature

variable {temps : List (Option Int)} {c : Nat}

/-- An input with a value is T_NEAR. -/
theorem tNearOf_own {v : Int} (hown : tapTemp temps (c / 16) (c % 16 / 2) = some v) : tNearOf temps c = (some v, false) := by
  unfold tNearOf
  simp only [hown]

/-- The lower of the inputs on either side of the cell's own, of which the first and the last have one neighbour only. -/
def neighbourTemp (temps : List (Option Int)) (c : Nat) : Option Int :=
  lowerOf (if c % 16 / 2 = 0 then none else tapTemp temps (c / 16) (c % 16 / 2 - 1))
    (if c % 16 / 2 = 7 then none else tapTemp temps (c / 16) (c % 16 / 2 + 1))

/-- Where the cell's own input has no value its neighbours stand in, marked as a substitute, as far as they have one. -/
theorem tNearOf_substitute (hown : tapTemp temps (c / 16) (c % 16 / 2) = none) :
    tNearOf temps c = (neighbourTemp temps c, (neighbourTemp temps c).isSome) := by
  cases hneighbour : neighbourTemp temps c
  all_goals
    unfold neighbourTemp at hneighbour
    simp only [tNearOf, hown, hneighbour, Option.isSome]

end NearestTemperature

/-- Settles O53: own input, else the neighbours, whose least value is the lower of the two. -/
theorem nearestTemperatureRule : Obligations.NearestTemperatureRule := by
  unfold Obligations.NearestTemperatureRule
  refine ⟨fun temps c v => tNearOf_own, ?substitute, ?noValue⟩
  case substitute =>
    intro temps c v hown hleast
    have hneighbour : neighbourTemp temps c = some v := (min?_filterMap_pair _ _).symm.trans hleast
    rw [tNearOf_substitute hown, hneighbour]
    rfl
  case noValue =>
    intro temps c hown hempty
    have hneighbour : neighbourTemp temps c = none :=
      (min?_filterMap_pair _ _).symm.trans (List.min?_eq_none_iff.mpr hempty)
    rw [tNearOf_substitute hown, hneighbour]
    rfl

end Sys2Proof.Machine

namespace Sys2Proof.Machine

/-! ## What a started command leaves of the array's state -/

@[simp] theorem estRuns_clocked (t : Nat) (s : State) : estRuns (clocked t s) = estRuns s := rfl

@[simp] theorem estRuns_begun (t m : Nat) (s : State) : estRuns (begun t m s) = estRuns s := rfl

@[simp] theorem begun_est (t m : Nat) (s : State) : (begun t m s).est = s.est := rfl

@[simp] theorem prmN_startCommand (m : Nat) (s : State) (id : Nat) : prmN (startCommand m s) id = prmN s id := rfl

@[simp] theorem posOf_startCommand (m : Nat) (s : State) (r p : Nat) : posOf (startCommand m s) r p = posOf s r p := rfl

section EstimationPeriods

variable {t : Nat} {s : State}

/-! ## Update periods and saving (04 R127, R131) -/

/-- The first update period runs at once. -/
theorem estUpdatePeriod_first (errs : List Nat) (hrun : estRuns s = true) (hfirst : s.est.lastAt = none) :
    exec (.estUpdatePeriod t errs) s = .next (after t (updatePeriod errs) s) := by
  rw [exec_estUpdatePeriod]
  apply timed_next
  simp [hrun, hfirst]

/-- Before its period has passed none runs. -/
theorem estUpdatePeriod_early {a : Nat} (errs : List Nat) (hlast : s.est.lastAt = some a)
    (hearly : max s.now t < a + ms s.est.period) :
    exec (.estUpdatePeriod t errs) s = .next (after t (fun s => s) s) := by
  have hnotDue : decide (a + ms (clocked t s).est.period ≤ (clocked t s).now) = false := decide_eq_false (Nat.not_le.mpr hearly)
  have hclocked : (clocked t s).est.lastAt = some a := hlast
  rw [exec_estUpdatePeriod]
  apply timed_next
  simp only [hclocked, hnotDue, Bool.and_false]
  exact if_neg Bool.false_ne_true

/-- Contexts never saved are due, and are written unless a write-forbid stands. -/
theorem ctxSave_first (hrun : estRuns s = true) (hnever : s.est.saved = none) (hfree : s.thm.forbid = false) :
    exec (.ctxSave t) s = .next (after t (fun s => { s with est.saved := some (s.est.ctx, s.now) }) s) := by
  rw [exec_ctxSave]
  apply timed_next
  simp [hrun, hnever, saveContexts, hfree]

/-- Under a write-forbid nothing is written, whether a save is due or not. -/
theorem ctxSave_forbidden (hforbid : s.thm.forbid = true) : exec (.ctxSave t) s = .next (after t (fun s => s) s) := by
  have hsave : saveContexts (clocked t s) = clocked t s := if_pos hforbid
  rw [exec_ctxSave]
  apply timed_next
  dsimp only
  rw [hsave, ite_self]

end EstimationPeriods

section EstimationCommands

variable {t m : Nat} {b : List Byte} {s : State}

/-- A handler of a demanded length that is done with a payload after a change. -/
theorem serve_length_doneWith {cmd n : Nat} {h : List Byte → State → Answer × State} {answer : Payload} {f : State → State}
    (hp : Pend s m cmd b) (hlen : b.length = n)
    (hh : h b (begun t m s) = okWith answer (f (begun t m s))) :
    timed t (serve m cmd (withLength n h)) s = .next (ended t m (doneWith answer) f s) := by
  refine serve_ended hp fun r hr _ => ?_
  rw [withLength_met (hr ▸ hlen), hr]
  change giveAnswer m (h b (begun t m s)).1 (h b (begun t m s)).2 = _
  rw [hh]
  rfl

/-! ## Reading contexts (01 R36, 04 R129, R130) -/

section ReadFields

variable (hp : Pend s m Cmd.ctxRead b) (hlen : b.length = 3) (hsome : leAt b 2 1 ≠ 0) (hmost : leAt b 2 1 ≤ 8)
  (hcells : leAt b 0 2 + leAt b 2 1 ≤ 512)
include hp hlen hsome hmost hcells

/-- A read that fits beside the work of the update period is answered at once and counts as work of it. -/
theorem ctxRead_fits (hfits : s.est.busy + s.est.reads + 800 * leAt b 2 1 ≤ engineCycles (begun t m s) 40) :
    exec (.ctxRead t m) s =
      .next (ended t m (doneWith (readContexts (begun t m s) b)) (chargeRead (800 * leAt b 2 1)) s) := by
  rw [exec_ctxRead]
  refine serve_length_doneWith hp hlen ?_
  have hroom : ¬(estRuns (begun t m s) && decide (engineCycles (begun t m s) 40 <
      (begun t m s).est.busy + (begun t m s).est.reads + 800 * leAt b 2 1)) = true := by
    rw [begun_est, decide_eq_false (Nat.not_lt.mpr hfits), Bool.and_false]
    exact Bool.false_ne_true
  rw [if_neg (by omega), if_neg (by omega), if_neg hroom]

/-- A read that does not fit waits behind the reads deferred before it. -/
theorem ctxRead_deferred (hrun : estRuns s = true)
    (hfull : engineCycles (begun t m s) 40 < s.est.busy + s.est.reads + 800 * leAt b 2 1) :
    exec (.ctxRead t m) s = .next (going t m (fun s => { s with est.deferred := s.est.deferred ++ [m] }) s) := by
  rw [exec_ctxRead]
  refine serve_length_going hp hlen ?_
  have hnoRoom : (estRuns (begun t m s) && decide (engineCycles (begun t m s) 40 <
      (begun t m s).est.busy + (begun t m s).est.reads + 800 * leAt b 2 1)) = true := by
    rw [estRuns_begun, hrun, begun_est, decide_eq_true hfull, Bool.and_self]
  rw [if_neg (by omega), if_neg (by omega)]
  exact if_pos hnoRoom

end ReadFields

theorem ctxSummary_reads (hp : Pend s m Cmd.ctxSummary []) : exec (.ctxSummary t m) s = .next (read t m ctxSummary s) := by
  rw [exec_ctxSummary]
  exact serve_length_read hp rfl rfl

/-! ## Commands on a range of cells (04 R132, R135) -/

/-- A count of 1 to 512 cells that end within 512 is a good range. -/
theorem cellRange_good (hsome : leAt b 2 2 ≠ 0) (hmost : leAt b 2 2 ≤ 512) (hcells : leAt b 0 2 + leAt b 2 2 ≤ 512) :
    cellRange b = none := by
  unfold cellRange
  rw [if_neg (by omega), if_neg (by omega)]

theorem ctxReinit_atRest {a : Nat} (hp : Pend s m Cmd.ctxReinit b) (hlen : b.length = 4) (hrange : cellRange b = none)
    (hrest : s.est.restSince = some a) (hlong : a + sec (prmN s Prm.restForOcv) ≤ max s.now t) :
    exec (.ctxReinit t m) s = .next (ended t m doneReply (fun s =>
      record Ev.socReinit 1 [(leAt b 0 2 : Int), leAt b 2 2] (eachCell b (reinitNow s) s)) s) := by
  rw [exec_ctxReinit]
  refine serve_length_done hp hlen ?_
  rw [hrange]
  have hpassed : decide (a + sec (prmN (startCommand m (clocked t s)) Prm.restForOcv) ≤ (startCommand m (clocked t s)).now) =
      true := by
    rw [prmN_startCommand, prmN_clocked]
    exact decide_eq_true hlong
  exact if_pos (by simp only [startCommand_est, clocked_est, hrest, Option.map_some, Option.getD_some, hpassed])

theorem ctxReinit_notResting (hp : Pend s m Cmd.ctxReinit b) (hlen : b.length = 4) (hrange : cellRange b = none)
    (hmoving : s.est.restSince = none) : exec (.ctxReinit t m) s = .next (turnedAway t m (guardReply Ev.current) s) := by
  rw [exec_ctxReinit]
  refine serve_length_guard hp hlen ?_
  rw [hrange]
  exact if_neg (by simp [hmoving])

theorem capSet_sets (hp : Pend s m Cmd.capSet b) (hlen : b.length = 10) (hrange : cellRange b = none) :
    exec (.capSet t m) s = .next (ended t m doneReply (eachCell b (fun (x : Ctx) =>
      { x with cap := qOf (leAt b 4 4 : Nat) 1000, capSigma := qOf (leAt b 8 2 : Nat) 100, anchor := none })) s) := by
  rw [exec_capSet]
  refine serve_length_done hp hlen ?_
  rw [hrange]

/-- A mask of W1C flags clears them but for those whose cause sets them at this instant (00 R6). -/
theorem ctxClearFlags_clears (hp : Pend s m Cmd.ctxClearFlags b) (hlen : b.length = 6) (hrange : cellRange b = none)
    (hmask : BitVec.ofNat 16 (leAt b 4 2) &&& ~~~ w1cFlags = 0) :
    exec (.ctxClearFlags t m) s = .next (ended t m doneReply (eachCell b (fun (x : Ctx) =>
      { x with flags := x.flags &&& ~~~ (BitVec.ofNat 16 (leAt b 4 2) &&& ~~~ raisedNow (begun t m s) x) })) s) := by
  rw [exec_ctxClearFlags]
  refine serve_length_done hp hlen ?_
  rw [hrange]
  exact if_neg (by simp [hmask])

/-! ## The cells of a replaced tap (04 R133) -/

/-- What an answer makes of the contexts of a position, by `g` from the state whose position is no longer marked replaced: the 16
cells of the position take it and lose their flag TAP_REPLACED. -/
def answerCells (ring pos : Nat) (g : State → Nat → Ctx → Ctx) (s : State) : State :=
  let u := setPos ring pos (fun (x : RingPos) => { x with replaced := false }) s
  { u with est.ctx := u.est.ctx.mapIdx (fun c x =>
    if c / 16 = (256 * ring + 16 * (pos - 1)) / 16 then { g u c x with flags := ctxFlag 6 false (g u c x).flags } else x) }

/-- CTX_CELLS for a position whose tap was replaced: `g` is what its code, 0 or 1, makes of a cell. -/
theorem ctxCells_answers {g : State → Nat → Ctx → Ctx} (hp : Pend s m Cmd.ctxCells b) (hlen : b.length = 3)
    (hring : leAt b 0 1 ≤ 1) (hpos : leAt b 1 1 ≠ 0) (hlast : leAt b 1 1 ≤ 16) (hcode : leAt b 2 1 ≤ 1)
    (hreplaced : (posOf s (leAt b 0 1) (leAt b 1 1)).replaced = true)
    (hg : (fun u c x => if leAt b 2 1 = 1 then newAnswer u c x else x) = g) :
    exec (.ctxCells t m) s = .next (ended t m doneReply (answerCells (leAt b 0 1) (leAt b 1 1) g) s) := by
  subst hg
  rw [exec_ctxCells]
  refine serve_length_done hp hlen ?_
  have hmarked : ¬(!(posOf (startCommand m (clocked t s)) (leAt b 0 1) (leAt b 1 1)).replaced) = true := by simp [hreplaced]
  dsimp only
  rw [if_neg (by omega), if_neg (by omega), if_neg (by omega), if_neg hmarked]
  rfl

/-! ## Chemistry sets (04 R122) -/

theorem chemRead_reads (hp : Pend s m Cmd.chemRead b) (hlen : b.length = 5) (hset : leAt b 0 1 ≤ 3) (hoffset : leAt b 1 2 < 1024)
    (hsome : leAt b 3 2 ≠ 0) (hmost : leAt b 3 2 ≤ 256) (hend : leAt b 1 2 + leAt b 3 2 ≤ 1024) :
    exec (.chemRead t m) s =
      .next (read t m (fun s => .bytes (((chemBytes s (leAt b 0 1)).drop (leAt b 1 2)).take (leAt b 3 2))) s) := by
  rw [exec_chemRead]
  refine serve_length_read hp hlen ?_
  rw [if_neg (by omega), if_neg (by omega), if_neg (by omega)]

/-- The bytes of a write in the staging copy of their set, which begins as the stored set. -/
def stageChem (b : List Byte) (s : State) : State :=
  let k := leAt b 0 1
  let old := (s.est.chemStaged.getD k none).getD (chemBytes s k)
  { s with est.chemStaged :=
    s.est.chemStaged.set k (some (old.take (leAt b 1 2) ++ b.drop 3 ++ old.drop (leAt b 1 2 + (b.length - 3)))) }

/-- With its fields in range a write is staged unless a write-forbid stands. -/
theorem chemWriteHandler_fields {r : Request} (hr : r.payload = b) (hleast : 4 ≤ b.length) (hmost : b.length ≤ 259)
    (hset : leAt b 0 1 ≤ 3) (hend : leAt b 1 2 + (b.length - 3) ≤ 1024) :
    chemWriteHandler r s = if s.thm.forbid then refuse (guardReply Ev.nvmTemp) s else ok (stageChem b s) := by
  unfold chemWriteHandler
  rw [hr]
  dsimp only
  rw [if_neg (by omega), if_neg (by omega), if_neg (by omega)]
  rfl

section ChemWriteFields

variable (hp : Pend s m Cmd.chemWrite b) (hleast : 4 ≤ b.length) (hmost : b.length ≤ 259) (hset : leAt b 0 1 ≤ 3)
  (hend : leAt b 1 2 + (b.length - 3) ≤ 1024)
include hp hleast hmost hset hend

theorem chemWrite_stages (hfree : s.thm.forbid = false) : exec (.chemWrite t m) s = .next (ended t m doneReply (stageChem b) s) := by
  rw [exec_chemWrite]
  refine serve_ended hp fun r hr _ => ?_
  rw [chemWriteHandler_fields hr hleast hmost hset hend, startCommand_thm, clocked_thm, hfree]
  rfl

theorem chemWrite_forbidden (hforbid : s.thm.forbid = true) :
    exec (.chemWrite t m) s = .next (turnedAway t m (guardReply Ev.nvmTemp) s) := by
  rw [exec_chemWrite]
  refine serve_turned hp fun r hr _ => ?_
  rw [chemWriteHandler_fields hr hleast hmost hset hend, startCommand_thm, clocked_thm, hforbid]
  rfl

end ChemWriteFields

/-! ## The impedance function (05 R140, R161) -/

theorem impStatus_reads (hp : Pend s m Cmd.impStatus []) : exec (.impStatus t m) s = .next (read t m impStatus s) := by
  rw [exec_impStatus]
  exact serve_length_read hp rfl rfl

/-- IMP_RESULTS answers the last T0 of the tone and 1 to 64 cells of it. -/
theorem impResults_reads (hp : Pend s m Cmd.impResults b) (hlen : b.length = 4) (htone : leAt b 0 1 ≤ 23) (hsome : leAt b 3 1 ≠ 0)
    (hmost : leAt b 3 1 ≤ 64) (hcells : leAt b 1 2 + leAt b 3 1 ≤ 512) :
    exec (.impResults t m) s = .next (read t m (fun s =>
      let last := s.imp.last.find? (fun x => x.1 == leAt b 0 1)
      .fields [("T0", (last.map (fun x => [(x.2.1 : Int), x.2.2.1, x.2.2.2])).getD [0, 0, 0]),
        ("cells", (List.range (leAt b 3 1)).flatMap (fun k => resultInts s (leAt b 0 1) (leAt b 1 2 + k)))]) s) := by
  rw [exec_impResults]
  refine serve_length_read hp hlen ?_
  dsimp only
  rw [if_neg (by omega), if_neg (by omega), if_neg (by omega)]

theorem impSpectrumNow_asks (hp : Pend s m Cmd.impSpectrumNow []) (hfree : s.imp.blocked = false) :
    exec (.impSpectrumNow t m) s = .next (ended t m doneReply (fun s => { s with imp.specNow := true }) s) := by
  rw [exec_impSpectrumNow]
  exact serve_length_done hp rfl (if_neg (Bool.eq_false_iff.mp hfree))

theorem impSpectrumNow_blocked (hp : Pend s m Cmd.impSpectrumNow []) (hblocked : s.imp.blocked = true) :
    exec (.impSpectrumNow t m) s = .next (turnedAway t m (causeReply .badArgument Ev.impSpectrumBlocked) s) := by
  rw [exec_impSpectrumNow]
  refine serve_turned hp fun r hr _ => ?_
  rw [withLength_met (hr ▸ rfl), startCommand_imp, clocked_imp, hblocked]
  rfl

end EstimationCommands

/-- Settles O20: one lemma for each period and each command; both answers to CTX_CELLS are one, by the answer's code. -/
theorem estimationAndImpedanceCommands : Obligations.EstimationAndImpedanceCommands := by
  unfold Obligations.EstimationAndImpedanceCommands
  refine ⟨fun t errs s => estUpdatePeriod_first errs, fun t a errs s => estUpdatePeriod_early errs,
    fun t s => ctxSave_first, fun t s _ => ctxSave_forbidden, fun t m b s => ctxRead_fits, fun t m b s => ctxRead_deferred,
    fun t m s => ctxSummary_reads, ?rest, ?current, ?kept, ?new, ?capacity, fun t m b s => chemRead_reads,
    fun t m b s => chemWrite_stages, fun t m b s => chemWrite_forbidden, ?flags, fun t m s => impStatus_reads,
    fun t m b s => impResults_reads, fun t m s => impSpectrumNow_asks, fun t m s => impSpectrumNow_blocked⟩
  case rest =>
    intro t m a b s hp hlen hsome hmost hcells hrest hlong
    exact ctxReinit_atRest hp hlen (cellRange_good hsome hmost hcells) hrest hlong
  case current =>
    intro t m b s hp hlen hsome hmost hcells hmoving
    exact ctxReinit_notResting hp hlen (cellRange_good hsome hmost hcells) hmoving
  case kept =>
    intro t m b s hp hlen hring hpos hlast hcode hreplaced
    exact ctxCells_answers (g := fun _ _ x => x) hp hlen hring hpos hlast (by omega) hreplaced (by simp [hcode])
  case new =>
    intro t m b s hp hlen hring hpos hlast hcode hreplaced
    exact ctxCells_answers (g := newAnswer) hp hlen hring hpos hlast (by omega) hreplaced (by simp [hcode])
  case capacity =>
    intro t m b s hp hlen hsome hmost hcells
    exact capSet_sets hp hlen (cellRange_good hsome hmost hcells)
  case flags =>
    intro t m b s hp hlen hsome hmost hcells hmask
    exact ctxClearFlags_clears hp hlen (cellRange_good hsome hmost hcells) hmask

end Sys2Proof.Machine

namespace Sys2Proof.Machine

/-! ## The leads of the windows (05 R138 to R143) -/

/-- Where a spectrum window fits and none was blocked, judging it again changes nothing (05 R140). -/
theorem judgeSpectrum_fits {s : State} (hfits : spectrumFits s = true) (hfree : s.imp.blocked = false) : judgeSpectrum s = s := by
  unfold judgeSpectrum
  rw [hfits]
  change { s with imp.blocked := false } = s
  rw [← hfree]

/-- A spectrum window that nobody asked for is not due before its interval has passed (05 R138). -/
theorem spectrumDue_early {s : State} (hasked : s.imp.specNow = false)
    (hearly : heldFor s s.imp.lastSpec (sec (prmN s Prm.impSpectrumInterval)) = false) : spectrumDue s = false := by
  simp [spectrumDue, hasked, hearly]

section WindowPhases

variable {t : Nat} {s : State}

/-- No lead begins while a window is under way. -/
theorem impLeadStart_busy (hst : s.imp.st ≠ .idle) : exec (.impLeadStart t) s = .next (after t (fun s => s) s) := by
  rw [exec_impLeadStart]
  apply timed_next
  exact if_pos (by simp [hst])

/-- The lead of the first temperature window begins at once, where the active set is usable and the excitation fits (05 R138, R142). -/
theorem impLeadStart_firstTemperature (hst : s.imp.st = .idle) (hread : s.imp.toRead = []) (hstop : s.imp.stopTaps = [])
    (hholds : impFailing (clocked t s) false = none) (hfits : spectrumFits (clocked t s) = true) (hfree : s.imp.blocked = false)
    (hasked : s.imp.specNow = false)
    (hearly : heldFor (clocked t s) s.imp.lastSpec (sec (prmN s Prm.impSpectrumInterval)) = false)
    (hfirst : s.imp.lastTemp = none) :
    exec (.impLeadStart t) s = .next (after t (fun s =>
      if activeUsable s && excFits s (excPeak s) then
        let tones := [tTone (activeSet s)]
        let t0 := nextGrid { s with now := s.now + us (leadLength s s.rings.period tones) } (us s.rings.period)
        { s with
          imp.st := .lead, imp.wid := (s.imp.wid + 1) % 256, imp.spectrum := false, imp.tones := tones,
          imp.t0 := (t0, stampAt s t0), imp.len := windowLength s.rings.period tones / max s.rings.period 1,
          imp.period := s.rings.period, imp.amp := excPeak s, imp.leadAt := s.now, imp.fade := none, imp.armed := [],
          imp.got := [], imp.cur := [], imp.disturbed := false, imp.gateOff := false, imp.takeover := false,
          imp.setupSent := [false, false] }
      else s) s) := by
  have hnotDue : spectrumDue (clocked t s) = false := spectrumDue_early hasked hearly
  rw [exec_impLeadStart]
  apply timed_next
  cases husable : activeUsable (clocked t s) with
  | false => exact if_pos (by simp)
  | true =>
    rw [if_neg (by simp [hst, hread, hstop, hholds])]
    dsimp only
    rw [judgeSpectrum_fits hfits hfree, hnotDue, clocked_imp, hfirst]
    cases hexc : excFits (clocked t s) (excPeak (clocked t s)) <;> rfl

/-! ## The start mark and the end mark (05 R141 to R146, R150) -/

/-- A window in phase `x` whose mark has come is past the guard of that mark. -/
theorem not_before_mark {x : ImpState} {mark now : Nat} (hst : s.imp.st = x) (hmark : mark ≤ now) :
    ¬(s.imp.st != x || now < mark) = true := by
  simp [hst, hmark]

theorem impWindowStart_aborts {c : Nat} (hst : s.imp.st = .lead) (hmark : s.imp.t0.1 ≤ max s.now t)
    (hfails : impFailing (clocked t s) true = some c) : exec (.impWindowStart t) s = .next (after t (impAbort c) s) := by
  rw [exec_impWindowStart]
  refine timed_next ((if_neg (not_before_mark (s := clocked t s) hst hmark)).trans ?_)
  rw [hfails]

/-- At its start mark a spectrum window of which every condition holds integrates, and the request for one is met (05 R138, R144). -/
theorem impWindowStart_spectrum (hst : s.imp.st = .lead) (hmark : s.imp.t0.1 ≤ max s.now t)
    (hholds : impFailing (clocked t s) true = none) (hkind : s.imp.spectrum = true) :
    exec (.impWindowStart t) s =
      .next (after t (fun s => { s with imp.st := .integrating, imp.specNow := false, imp.lastSpec := s.now }) s) := by
  rw [exec_impWindowStart]
  refine timed_next ((if_neg (not_before_mark (s := clocked t s) hst hmark)).trans ?_)
  rw [hholds]
  exact if_pos hkind

/-- At its start mark a temperature window of which every condition holds integrates (05 R138, R144). -/
theorem impWindowStart_temperature (hst : s.imp.st = .lead) (hmark : s.imp.t0.1 ≤ max s.now t)
    (hholds : impFailing (clocked t s) true = none) (hkind : s.imp.spectrum = false) :
    exec (.impWindowStart t) s =
      .next (after t (fun s => { s with imp.st := .integrating, imp.lastTemp := some s.now }) s) := by
  rw [exec_impWindowStart]
  refine timed_next ((if_neg (not_before_mark (s := clocked t s) hst hmark)).trans ?_)
  rw [hholds]
  exact if_neg (Bool.eq_false_iff.mp hkind)

/-- A window of one tone ends with that tone's phasor in place of the last one, and its armed taps are read (05 R144 to R146, R150). -/
theorem impWindowEnd_reads {a i : Nat} {l : List Nat} (xs : List Int) (hst : s.imp.st = .integrating)
    (hmark : s.imp.t0.1 + us (s.imp.len * s.imp.period) ≤ max s.now t)
    (harmed : (readOrder s).filter (s.imp.armed.contains ·) = i :: l) (htones : s.imp.tones = [a]) :
    exec (.impWindowEnd t xs) s = .next (after t (fun s =>
      let ys := xs.take (s.imp.len * s.imp.period / 25)
      let cur := (fitTones [a] ys).map hold32
      { s with
        imp.fade := some (s.now, excAmp s), imp.st := .reading, imp.toRead := i :: l, imp.cur := cur,
        imp.disturbed := driftTooLarge s ys,
        imp.last := s.imp.last.filter (fun x => x.1 ≠ a) ++ [(a, s.imp.t0.2, cur.getD 0 (0, 0))] }) s) := by
  have hread : (readOrder (clocked t s)).filter (s.imp.armed.contains ·) = i :: l := harmed
  rw [exec_impWindowEnd]
  refine timed_next ((if_neg (not_before_mark (s := clocked t s) hst hmark)).trans ?_)
  simp only [clocked_imp, hread, htones]
  rfl

/-- A window without tones of which no tap is armed ends with nothing to read (05 R150). -/
theorem impWindowEnd_noTaps (xs : List Int) (hst : s.imp.st = .integrating)
    (hmark : s.imp.t0.1 + us (s.imp.len * s.imp.period) ≤ max s.now t)
    (harmed : (readOrder s).filter (s.imp.armed.contains ·) = []) (htones : s.imp.tones = []) :
    exec (.impWindowEnd t xs) s = .next (after t (fun s =>
      let ys := xs.take (s.imp.len * s.imp.period / 25)
      { s with
        imp.fade := some (s.now, excAmp s), imp.st := .idle, imp.toRead := [], imp.cur := [],
        imp.disturbed := driftTooLarge s ys }) s) := by
  have hread : (readOrder (clocked t s)).filter (s.imp.armed.contains ·) = [] := harmed
  rw [exec_impWindowEnd]
  refine timed_next ((if_neg (not_before_mark (s := clocked t s) hst hmark)).trans ?_)
  simp only [clocked_imp, hread, htones]
  rfl

end WindowPhases

/-! ## A tap's window (05 R144, R145, R147 to R149) -/

/-- A tap's window that has run to its end mark is complete: the channels that kept their leads are fitted. -/
theorem windowAtMark_complete {at_ id start len a : Nat} {rev : Bool} {p : Tap} (grid : List (List Int))
    (hwindow : p.imp.window = some (id, start, len)) (hsince : p.imp.since = some a) (hport : p.imp.revStart = rev)
    (hend : a + len * p.imp.samples * 25000 ≤ at_ + us 1) :
    windowAtMark at_ rev grid p = (
      let v := Nat.land p.imp.valid (maskOf (p.volts.map (·.isSome)))
      let fit := (List.range 16).map (fun c =>
        if bitOf v c then fitTones p.imp.tones ((grid.getD c []).take (len * p.imp.samples)) else [])
      { p with
        imp.window := none, imp.since := none, imp.endedAt := some at_, imp.dropped := none, imp.valid := v,
        imp.done := some (id, 0, v, len * p.imp.samples, p.imp.tones),
        imp.phasors := (List.range p.imp.tones.length).map (fun k => fit.map (fun l => l.getD k (0, 0))) }) := by
  subst hport
  simp only [windowAtMark, hwindow, hsince, bne_self_eq_false]
  rw [if_neg Bool.false_ne_true, if_pos hend]
  rfl

/-- What IMP_READ answers is read from the tap's impedance part alone. -/
theorem impReadBytes_congr {p r : Tap} (himp : p.imp = r.imp) (id : Nat) : impReadBytes p id = impReadBytes r id := by
  unfold impReadBytes impAnswer
  rw [himp]

/-- A tap that holds the window asked for, and no armed one, answers its result (05 R148). -/
theorem impAnswer_done {p : Tap} {id code valid count : Nat} {tones : List Nat} (hidle : p.imp.window = none)
    (hdone : p.imp.done = some (id, code, valid, count, tones)) :
    impAnswer p id = (code, valid, count, if code = 0 then tones else []) := by
  unfold impAnswer
  rw [hidle, hdone]
  exact if_pos rfl

section TapWindow

variable {t : Nat} {q : TapReq} {s : State}

/-- A tone list of 1 to 4 entries is in range. -/
theorem toneCount_good {n : Nat} (hsome : 1 ≤ n) (hmost : n ≤ 4) : ¬(n = 0 ∨ 4 < n) := by omega

/-- IMP_SETUP of known tones at a tap without an armed window is stored (05 R147). -/
theorem impSetup_stores {n : Nat} (hq : TapHears s 0x30 q) (hlen : q.payload.length = 9) (hn : leAt q.payload 0 1 = n)
    (hsome : 1 ≤ n) (hmost : n ≤ 4) (hknown : ∀ k < n, leAt q.payload (1 + k) 1 ≤ 23)
    (hidle : (tapOf s (tapIndex q.ring q.pos)).imp.window = none) :
    exec (.impSetup t q) s = .next (after t (fun s =>
      let u := forwardRequest 0x30 true q s
      let v := setTap (tapIndex q.ring q.pos) (fun (p : Tap) => { p with
        imp.tones := (List.range n).map (fun k => leAt q.payload (1 + k) 1),
        imp.samples := leAt q.payload 5 2, imp.mask := leAt q.payload 7 2 }) u
      respond q 0xB0 (leBytes 1 0 ++ setupBytes (tapOf v (tapIndex q.ring q.pos)).imp) v) s) := by
  have htones : ((List.range n).map (fun k => leAt q.payload (1 + k) 1)).any (fun a => 23 < a) = false := by
    simpa using hknown
  rw [exec_impSetup]
  refine timed_next (atTap_reply hq ((withPayload_met hlen).trans ?_))
  simp only [hn, forward_imp, tapOf_clocked, hidle, htones]
  exact if_neg (toneCount_good hsome hmost)

/-- IMP_SETUP while a window is armed or runs is answered with code 2 and the setup that stands (05 R147). -/
theorem impSetup_armed {n : Nat} (hq : TapHears s 0x30 q) (hlen : q.payload.length = 9) (hn : leAt q.payload 0 1 = n) (hsome : 1 ≤ n)
    (hmost : n ≤ 4) (harmed : (tapOf s (tapIndex q.ring q.pos)).imp.window ≠ none) :
    exec (.impSetup t q) s = .next (after t (fun s =>
      let u := forwardRequest 0x30 true q s
      respond q 0xB0 (leBytes 1 2 ++ setupBytes (tapOf u (tapIndex q.ring q.pos)).imp) u) s) := by
  have hbusy : (tapOf (forwardRequest 0x30 true q (clocked t s)) (tapIndex q.ring q.pos)).imp.window.isSome = true := by
    rw [forward_imp]
    exact Option.isSome_iff_ne_none.mpr harmed
  rw [exec_impSetup]
  refine timed_next (atTap_reply hq ((withPayload_met hlen).trans ?_))
  simp only [hn, hbusy, if_true]
  exact if_neg (toneCount_good hsome hmost)

/-- IMP_WINDOW of length 0 aborts the tap's window (05 R147, R149). -/
theorem impWindow_aborts (hq : TapHears s 0x31 q) (hlen : q.payload.length = 6) (hzero : leAt q.payload 2 4 = 0) :
    exec (.impWindow t q) s = .next (after t (fun s =>
      let u := forwardRequest 0x31 true q s
      respond q 0xB1 (leBytes 1 3 ++ leBytes 1 (leAt q.payload 0 1)) (setTap (tapIndex q.ring q.pos) (endWindow u.now 3) u)) s) := by
  rw [exec_impWindow]
  exact timed_next (atTap_reply hq ((withPayload_met hlen).trans (if_pos hzero)))

/-- IMP_WINDOW at a tap that was never set up is answered with code 1 (05 R147). -/
theorem impWindow_noTones (hq : TapHears s 0x31 q) (hlen : q.payload.length = 6) (hsome : leAt q.payload 2 4 ≠ 0)
    (htones : (tapOf s (tapIndex q.ring q.pos)).imp.tones = []) :
    exec (.impWindow t q) s = .next (after t (fun s =>
      let u := forwardRequest 0x31 true q s
      respond q 0xB1 (leBytes 1 1 ++ leBytes 1 (leAt q.payload 0 1)) u) s) := by
  rw [exec_impWindow]
  refine timed_next (atTap_reply hq ((withPayload_met hlen).trans ((if_neg hsome).trans ?_)))
  exact if_pos (by simp [htones])

/-- IMP_WINDOW for one of the next 127 marks arms a tap that is set up, and the module notes it (05 R147). -/
theorem impWindow_arms (hq : TapHears s 0x31 q) (hlen : q.payload.length = 6) (hsome : leAt q.payload 2 4 ≠ 0)
    (htones : (tapOf s (tapIndex q.ring q.pos)).imp.tones ≠ [])
    (hlater : (leAt q.payload 1 1 + 256 - (tapOf s (tapIndex q.ring q.pos)).marks) % 256 ≠ 0)
    (hsoon : (leAt q.payload 1 1 + 256 - (tapOf s (tapIndex q.ring q.pos)).marks) % 256 ≤ 127) :
    exec (.impWindow t q) s = .next (after t (fun s =>
      let u := forwardRequest 0x31 true q s
      let v := setTap (tapIndex q.ring q.pos) (fun (p : Tap) => { p with
        imp.window := some (leAt q.payload 0 1, leAt q.payload 1 1, leAt q.payload 2 4), imp.since := none }) u
      respond q 0xB1 (leBytes 1 0 ++ leBytes 1 (leAt q.payload 0 1))
        (if v.imp.st == .lead && v.imp.wid == leAt q.payload 0 1 && !v.imp.armed.contains (tapIndex q.ring q.pos) then
          { v with imp.armed := v.imp.armed ++ [(tapIndex q.ring q.pos)] }
        else v)) s) := by
  rw [exec_impWindow]
  refine timed_next (atTap_reply hq ((withPayload_met hlen).trans ((if_neg hsome).trans ?_)))
  rw [if_neg (by simp [htones]), if_neg (by simp [hlater, hsoon])]

/-- IMP_READ of a complete window answers its phasors, and a module that waits for them takes them (05 R148, R150). -/
theorem impRead_answers {valid count : Nat} {tones : List Nat} (hq : TapHears s 0x32 q) (hlen : q.payload.length = 1)
    (hidle : (tapOf s (tapIndex q.ring q.pos)).imp.window = none)
    (hdone : (tapOf s (tapIndex q.ring q.pos)).imp.done = some (leAt q.payload 0 1, 0, valid, count, tones)) :
    exec (.impRead t q) s = .next (after t (fun s =>
      let u := forwardRequest 0x32 true q s
      respond q 0xB2 (impReadBytes (tapOf s (tapIndex q.ring q.pos)) (leAt q.payload 0 1))
        (if u.imp.st == .reading && u.imp.wid == leAt q.payload 0 1 && u.imp.toRead.contains (tapIndex q.ring q.pos) then
          readDone (tapIndex q.ring q.pos)
            (collectPhasors (tapIndex q.ring q.pos) valid (tapOf s (tapIndex q.ring q.pos)).imp.phasors u)
        else u)) s) := by
  have hforward := forward_imp 0x32 true q (clocked t s) (tapIndex q.ring q.pos)
  have hanswer : impAnswer (tapOf (forwardRequest 0x32 true q (clocked t s)) (tapIndex q.ring q.pos)) (leAt q.payload 0 1) =
      (0, valid, count, tones) :=
    impAnswer_done (by rw [hforward]; exact hidle) (by rw [hforward]; exact hdone)
  rw [exec_impRead]
  refine timed_next (atTap_reply hq ((withPayload_met hlen).trans ?_))
  simp [hanswer, hforward, impReadBytes_congr hforward]

/-- A line silent for more than 2 µs aborts a running window with result 1 (05 R149). -/
theorem tapImpLineLoss_aborts {i quiet : Nat} (hquiet : us 2 < quiet) (hsince : (tapOf s i).imp.since.isSome = true) :
    exec (.tapImpLineLoss t i quiet) s = .next (after t (fun s => setTap i (endWindow s.now 1) s) s) := by
  rw [exec_tapImpLineLoss]
  exact timed_next (if_pos (by simp [hquiet, hsince]))

end TapWindow

/-- Settles O19: one lemma for each event of a window at the module, and one for each command and event of a tap in it. -/
theorem impedanceWindows : Obligations.ImpedanceWindows := by
  unfold Obligations.ImpedanceWindows
  exact ⟨fun t s => impLeadStart_busy, fun t s => impLeadStart_firstTemperature, fun t c s => impWindowStart_aborts,
    fun t s => impWindowStart_spectrum, fun t s => impWindowStart_temperature, fun t a i l xs s => impWindowEnd_reads xs,
    fun t xs s => impWindowEnd_noTaps xs, fun at_ id start len a rev grid p => windowAtMark_complete grid,
    fun t q n s => impSetup_stores, fun t q n s => impSetup_armed, fun t q s => impWindow_aborts, fun t q s => impWindow_noTones,
    fun t q s => impWindow_arms, fun t q valid count tones s => impRead_answers, fun t i quiet s => tapImpLineLoss_aborts⟩

end Sys2Proof.Machine

namespace Sys2Proof.Machine

/-! ## What a cycle reads of the state before it acts (06 R164, R177) -/

@[simp] theorem engOf_clocked (t : Nat) (s : State) (e : Nat) : engOf (clocked t s) e = engOf s e := rfl

@[simp] theorem holderOf_clocked (t : Nat) (s : State) (r : EngRole) : holderOf (clocked t s) r = holderOf s r := rfl

@[simp] theorem holderOf_sampled (o : CycleObs) (s : State) (r : EngRole) : holderOf (keepP (takeSamples o s)) r = holderOf s r := rfl

@[simp] theorem sampled_imp (o : CycleObs) (s : State) : (keepP (takeSamples o s)).imp = s.imp := rfl

/-- The converter switches in every state but the two with its gates off. -/
theorem switching_iff {s : State} : switching s = true ↔ s.conv.st ≠ .off ∧ s.conv.st ≠ .retryWait := by
  unfold switching
  cases s.conv.st <;> simp

section Cycles

variable {t : Nat} {s : State}

/-- Outside Shelf, with no counter step that awaits the restart of the triggers, a cycle is not passed over (06 R177). -/
theorem not_passed_over (hmode : s.core.mode ≠ .shelf) (hcadence : cadenceHeld s = false) :
    ¬(s.core.mode == .shelf || cadenceHeld s) = true := by
  simp [hmode, hcadence]

/-! ## The phase-current cycle (06 R176, R177) -/

section PhaseCurrentCycle

variable {sh ha vs vl : Option Int} {ph : List (List Byte)}

/-- In Shelf no cycle runs. -/
theorem phaseCurrentCycle_shelf (hmode : s.core.mode = .shelf) :
    exec (.phaseCurrentCycle t sh ha ph vs vl) s = .next (after t (fun s => s) s) := by
  rw [exec_phaseCurrentCycle]
  exact timed_next (if_pos (by simp [hmode]))

variable (hmode : s.core.mode ≠ .shelf) (hcadence : cadenceHeld (clocked t s) = false)
include hmode hcadence

/-- Without a holder of role P the samples are taken and nothing else is done. -/
theorem phaseCurrentCycle_noHolder (hholder : holderOf s .p = none) :
    exec (.phaseCurrentCycle t sh ha ph vs vl) s =
      .next (after t (fun s => keepP (takeSamples ⟨sh, ha, ph, vs, vl⟩ s)) s) := by
  rw [exec_phaseCurrentCycle]
  refine timed_next ((if_neg (not_passed_over (s := clocked t s) hmode hcadence)).trans ?_)
  exact if_pos (by rw [holderOf_sampled, holderOf_clocked, hholder]; rfl)

/-- With a holder of role P and no window, `g` is what the cycle makes of its samples by the state of the gates. -/
theorem phaseCurrentCycle_held {g : State → State} (hholder : (holderOf s .p).isSome = true) (hidle : s.imp.st = .idle)
    (hg : ∀ u : State, u.conv.st = s.conv.st → (if switching u then switchingCycle u else idleCycle u) = g u) :
    exec (.phaseCurrentCycle t sh ha ph vs vl) s =
      .next (after t (fun s => followCycle (g (keepP (takeSamples ⟨sh, ha, ph, vs, vl⟩ s)))) s) := by
  rw [exec_phaseCurrentCycle]
  refine timed_next ((if_neg (not_passed_over (s := clocked t s) hmode hcadence)).trans ?_)
  have hheld : ¬(holderOf (keepP (takeSamples ⟨sh, ha, ph, vs, vl⟩ (clocked t s))) .p).isNone = true := by
    simpa [Option.isSome_iff_ne_none] using hholder
  have hnoWindow : ¬((keepP (takeSamples ⟨sh, ha, ph, vs, vl⟩ (clocked t s))).imp.st == .lead ||
      (keepP (takeSamples ⟨sh, ha, ph, vs, vl⟩ (clocked t s))).imp.st == .integrating) = true := by simp [hidle]
  dsimp only
  rw [if_neg hheld, if_neg hnoWindow]
  exact congrArg followCycle (hg _ rfl)

theorem phaseCurrentCycle_gatesOff (hholder : (holderOf s .p).isSome = true) (hidle : s.imp.st = .idle)
    (hst : s.conv.st = .off ∨ s.conv.st = .retryWait) :
    exec (.phaseCurrentCycle t sh ha ph vs vl) s =
      .next (after t (fun s => followCycle (idleCycle (keepP (takeSamples ⟨sh, ha, ph, vs, vl⟩ s)))) s) := by
  refine phaseCurrentCycle_held hmode hcadence hholder hidle fun u hu => if_neg ?_
  rw [switching_iff, hu]
  tauto

theorem phaseCurrentCycle_switching (hholder : (holderOf s .p).isSome = true) (hidle : s.imp.st = .idle)
    (hst : s.conv.st = .softStart ∨ s.conv.st = .continuous ∨ s.conv.st = .burst) :
    exec (.phaseCurrentCycle t sh ha ph vs vl) s =
      .next (after t (fun s => followCycle (switchingCycle (keepP (takeSamples ⟨sh, ha, ph, vs, vl⟩ s)))) s) := by
  refine phaseCurrentCycle_held hmode hcadence hholder hidle fun u hu => if_pos ?_
  rw [switching_iff, hu]
  rcases hst with h | h | h <;> simp [h]

end PhaseCurrentCycle

/-! ## The min-select (06 R176 to R178) -/

/-- Room kept for an excitation takes from a ceiling and never turns it negative. -/
theorem reduced_ceiling_within {amp k : Int} (hk : 0 ≤ k) :
    0 ≤ (if 0 < amp then max 0 (k - amp) else k) ∧ (if 0 < amp then max 0 (k - amp) else k) ≤ k := by
  split <;> omega

/-- A request cut by a charge ceiling is no greater. -/
theorem cut_above {c r : Int} {a x : Nat} : (if c < r then (c, a) else (r, x)).1 ≤ c := by
  split
  case isTrue => exact le_rfl
  case isFalse hmeets => exact not_lt.mp hmeets

/-- A value cut by a discharge ceiling is no less, and one that met a charge ceiling still meets it. -/
theorem cut_below {e k : Int} {b : Nat} {u : Int × Nat} (he : 0 ≤ e) (hk : 0 ≤ k) (hu : u.1 ≤ k) :
    -e ≤ (if u.1 < -e then (-e, b) else u).1 ∧ (if u.1 < -e then (-e, b) else u).1 ≤ k := by
  split
  case isTrue hlow => exact ⟨le_rfl, (neg_nonpos.mpr he).trans hk⟩
  case isFalse hlow => exact ⟨not_lt.mp hlow, hu⟩

theorem minSelect_within_ceilings {r : Int} {code : Nat} {amp : Int} (hchg : 0 ≤ (minSelect s r code amp).ceil.1)
    (hdis : 0 ≤ (minSelect s r code amp).ceil.2) :
    -(minSelect s r code amp).ceil.2 ≤ (minSelect s r code amp).applied ∧
      (minSelect s r code amp).applied ≤ (minSelect s r code amp).ceil.1 := by
  obtain ⟨-, hc⟩ := reduced_ceiling_within (amp := amp) hchg
  obtain ⟨he, hed⟩ := reduced_ceiling_within (amp := amp) hdis
  obtain ⟨hleast, hmost⟩ := cut_below he hchg (cut_above.trans hc)
  exact ⟨(neg_le_neg hed).trans hleast, hmost⟩

/-- With both current sensors failed SENSOR_CAP is 0 A (06 R194). -/
theorem sensorCap_bothFailed (hshunt : s.ctrl.shuntFail = true) (hhall : s.ctrl.hallFail = true) : sensorCap s = 0 :=
  if_pos (by simp [bothFailed, hshunt, hhall])

/-! ## The string-loop cycle (06 R172; 08 R240, R244 to R246) -/

section StringLoopCycle

variable {vs vl : Option Int}

/-- Without a holder of role S the string loops stand still. -/
theorem stringLoopCycle_noHolder (hholder : holderOf s .s = none) :
    exec (.stringLoopCycle t vs vl) s = .next (after t (fun s => s) s) := by
  rw [exec_stringLoopCycle]
  exact timed_next (if_pos (by simp [hholder]))

/-- With a holder of role S the immediate set-points become targets, the request is formed by the mode, and the loops run. -/
theorem stringLoopCycle_runs (hholder : (holderOf s .s).isSome = true) (hmode : s.core.mode ≠ .shelf)
    (hcadence : cadenceHeld (clocked t s) = false) :
    exec (.stringLoopCycle t vs vl) s = .next (after t (fun s =>
      let u := keepS { s with disp.vStr := vs, disp.vLnk := vl }
      let u := convertTarget { eachDo u.disp.imm takeTarget u with disp.imm := [] }
      let u :=
        if u.core.mode = .run then rampStep u
        else if regulating u && switching u then linkRegulation u
        else { u with disp.rp := 0, disp.vs := none, ctrl.request := 0 }
      slewMargin (thermalModel (linkLimits
        (if u.conv.st = .off ∨ u.conv.st = .retryWait then u else currentCorrection u)))) s) := by
  rw [exec_stringLoopCycle]
  refine timed_next ((if_neg ?_).trans ?_)
  · simp [Option.isSome_iff_ne_none.mp hholder, hmode, hcadence]
  · simp only [beq_iff_eq, Bool.or_eq_true]

end StringLoopCycle

/-! ## The sweep loops (06 R173, R174) -/

theorem roleCSweep_runs (hholder : (holderOf s .c).isSome = true) (hrun : running s 5 = true) :
    exec (.roleCSweep t) s = .next (after t (fun s => plating (derating (cellLoops (keepC s)))) s) := by
  rw [exec_roleCSweep]
  exact timed_next (if_pos (by simp [hholder, hrun]))

/-- Without a holder of role C the sweep loops stand still. -/
theorem roleCSweep_noHolder (hholder : holderOf s .c = none) : exec (.roleCSweep t) s = .next (after t (fun s => s) s) := by
  rw [exec_roleCSweep]
  exact timed_next (if_neg (by simp [hholder]))

end Cycles

/-- Settles O21: one lemma for each cycle, by its holder and the state of the gates, and one for the min-select. -/
theorem currentAndStringLoops : Obligations.CurrentAndStringLoops := by
  unfold Obligations.CurrentAndStringLoops
  refine ⟨fun t sh ha ph vs vl s => phaseCurrentCycle_shelf, ?alone, ?off, ?switching,
    fun s r code amp => minSelect_within_ceilings, fun s => sensorCap_bothFailed, fun t vs vl s => stringLoopCycle_noHolder,
    fun t vs vl s => stringLoopCycle_runs, fun t s => roleCSweep_runs, fun t s => roleCSweep_noHolder⟩
  case alone =>
    intro t sh ha ph vs vl s hmode hholder hcadence
    exact phaseCurrentCycle_noHolder hmode hcadence hholder
  case off =>
    intro t sh ha ph vs vl s hmode hholder hidle hst hcadence
    exact phaseCurrentCycle_gatesOff hmode hcadence hholder hidle hst
  case switching =>
    intro t sh ha ph vs vl s hmode hholder hidle hst hcadence
    exact phaseCurrentCycle_switching hmode hcadence hholder hidle hst

end Sys2Proof.Machine

namespace Sys2Proof.Machine

/-! ## What the engines and the sensors are judged by -/

@[simp] theorem sensorsAgree_clocked (t : Nat) (s : State) (a b : Int) : sensorsAgree (clocked t s) a b = sensorsAgree s a b := rfl

/-- A start that has been held long enough is held. -/
theorem heldOpt_of_le {s : State} {start : Option Nat} {a d : Nat} (hstart : start = some a) (hlong : a + d ≤ s.now) :
    heldOpt s start d = true := by
  simp [heldOpt, hstart, hlong]

/-- Both sensors out of service is what the state says of both (06 R195). -/
theorem bothFailed_of {s : State} (hshunt : s.ctrl.shuntFail = true) (hhall : s.ctrl.hallFail = true) : bothFailed s = true := by
  rw [bothFailed, hshunt, hhall, Bool.and_self]

/-! ## Deadlines and roles (06 R182, R184 to R188) -/

section Engines

variable {t x e : Nat} {s : State}

/-- A number that is no role has no deadline. -/
theorem roleDeadline_noRole (late : List Nat) (sl df : Bool) (hx : 3 ≤ x) :
    exec (.roleDeadline t x late sl df) s = .next (after t (fun s => s) s) := by
  rw [exec_roleDeadline]
  exact timed_next (if_pos hx)

/-- At a deadline the active engine and the shadow are judged, and outputs are compared where none is late. -/
theorem roleDeadline_judges (late : List Nat) (sl df : Bool) (hx : x < 3) :
    exec (.roleDeadline t x late sl df) s = .next (after t (fun s =>
      let u := shadowDeadline x sl (activeDeadline x late sl s)
      if (late.filter (fun k => (loopsOfRole x).contains k)).isEmpty && !sl then compareShadow x df u else u) s) := by
  rw [exec_roleDeadline]
  refine timed_next ((if_neg (Nat.not_le.mpr hx)).trans ?_)
  cases (late.filter (fun k => (loopsOfRole x).contains k)).isEmpty <;> cases sl <;> rfl

/-- A shadow that is in time takes the role of the engine that missed. -/
theorem handOver_toShadow {a w : Nat} (hw : holderOf s .w = some w) :
    handOver x a false s = raiseShadowAbsent (giveRole w (roleOfNum x) (removeEngine a s)) := by
  unfold handOver
  rw [hw]

/-- Without a shadow the third missed sample stops the converter. -/
theorem handOver_noShadow {a : Nat} (late : Bool) (hw : holderOf s .w = none) :
    handOver x a late s = faultToHold Ev.ctrlDeadline [(x : Int)] s := by
  unfold handOver
  rw [hw]

/-- A self-test outside a mismatch decides between shadow and out of service. -/
theorem engineSelfTestDone_decides {pass : Bool} (he : e < 4) (hrole : (engOf s e).role = .selfTest)
    (hfree : s.ctrl.resolving = none) :
    exec (.engineSelfTestDone t e pass) s = .next (after t (fun s =>
      let u := setEng e (fun g => { g with test := some pass }) s
      judgeCapacity (if pass then giveRole e .w u else raiseShadowAbsent (removeEngine e u))) s) := by
  have htest : ((engOf (clocked t s) e).role == .selfTest) = true := by simp [hrole]
  have hfree' : (setEng e (fun g => { g with test := some pass }) (clocked t s)).ctrl.resolving = none := hfree
  rw [exec_engineSelfTestDone]
  refine timed_next ((if_neg (Nat.not_le.mpr he)).trans ((if_pos htest).trans ?_))
  dsimp only
  rw [hfree']

/-- The self-test of an engine out of service that nothing holds out makes it ready or not. -/
theorem engineSelfTestDone_out {pass : Bool} (he : e < 4) (hrole : (engOf s e).role = .out) (hheld : (engOf s e).heldOut = false) :
    exec (.engineSelfTestDone t e pass) s =
      .next (after t (setEng e (fun g => { g with test := some pass, ready := pass })) s) := by
  rw [exec_engineSelfTestDone]
  refine timed_next ((if_neg (Nat.not_le.mpr he)).trans ((if_neg ?_).trans (if_pos ?_))) <;> simp [hrole, hheld]

/-- With no install under way none waits for its next rotation. -/
theorem installDue_noJob (hjob : s.upd.job = none) : installDue s = none := by
  rw [installDue, hjob]
  rfl

theorem roleRotation_rotates (hjob : s.upd.job = none) (hfree : rotationSkipped (clocked t s) = none) :
    exec (.roleRotation t) s = .next (after t rotate s) := by
  rw [exec_roleRotation]
  apply timed_next
  rw [installDue_noJob (s := clocked t s) hjob, hfree]

/-- Where rotation is skipped an engine that is ready may still become the shadow. -/
theorem roleRotation_skipped {c : Nat} (hjob : s.upd.job = none) (hskip : rotationSkipped (clocked t s) = some c) :
    exec (.roleRotation t) s = .next (after t promoteReady s) := by
  rw [exec_roleRotation]
  apply timed_next
  rw [installDue_noJob (s := clocked t s) hjob, hskip]

end Engines

/-! ## Following error (06 R190, R191) -/

section FollowingError

variable {t : Nat} {s : State}

/-- An error above FE_LIMIT for longer than FE_TIME goes to Hold, the third within 600 s trips. -/
theorem followingError_acts {a : Nat} (hst : s.conv.st = .continuous ∨ s.conv.st = .burst) (hsince : s.ctrl.feSince = some a)
    (hlong : a + ms (prmN s Prm.feTime) < max s.now t) :
    exec (.followingError t) s = .next (after t (fun s =>
      let err := followingDiff s / 65536
      let times := within s (sec 600) s.ctrl.feTimes ++ [s.now]
      let u := { s with ctrl.feTimes := times, ctrl.feSince := none }
      if 3 ≤ times.length then trip Ev.followingError .sp [err] u else faultToHold Ev.followingError [err] u) s) := by
  rw [exec_followingError]
  refine timed_next (if_neg ?_)
  have hstate : ((clocked t s).conv.st == .continuous || (clocked t s).conv.st == .burst) = true := by simpa using hst
  have hlasted : decide (a + ms (prmN (clocked t s) Prm.feTime) < (clocked t s).now) = true := decide_eq_true hlong
  rw [hstate, clocked_ctrl, hsince, Option.map_some, hlasted]
  decide

/-- With the error within its limit nothing happens. -/
theorem followingError_within (hsince : s.ctrl.feSince = none) :
    exec (.followingError t) s = .next (after t (fun s => s) s) := by
  rw [exec_followingError]
  exact timed_next (if_pos (by simp [hsince]))

/-- Outside burst the filtered values are compared. -/
theorem followingDiff_outsideBurst (hburst : s.conv.st ≠ .burst) :
    followingDiff s = ((s.ctrl.feFilt.1 - s.ctrl.feFilt.2).natAbs : Int) := if_neg (by simpa using hburst)

/-- The reference and the measured current `i` of a cycle enter the filters and the averages. -/
def filterCycle (i : Int) (s : State) : State :=
  { s with
    ctrl.feFilt := (feStep s.ctrl.feFilt.1 s.ctrl.reference, feStep s.ctrl.feFilt.2 i),
    ctrl.feCycles := ((s.ctrl.reference, i) :: s.ctrl.feCycles).take 200 }

/-- While switching a cycle enters the filters, and the time above FE_LIMIT counts outside soft start. -/
theorem followCycle_switching {i : Int} (hon : switching s = true) (hcurrent : stringCurrent s = some i) :
    followCycle s = { filterCycle i s with
      ctrl.feSince :=
        if s.conv.st != .softStart &&
            decide (65536 * prm s Prm.feLimit * iRated s < 32768 * followingDiff (filterCycle i s)) then
          some (s.ctrl.feSince.getD s.now)
        else none } := by
  unfold followCycle
  rw [hcurrent]
  exact if_neg (by simp [hon])

/-- In continuous operation the filtered difference is what is timed above FE_LIMIT. -/
theorem followCycle_continuous {i : Int} (hon : switching s = true) (hburst : s.conv.st ≠ .burst) (hsoft : s.conv.st ≠ .softStart)
    (hcurrent : stringCurrent s = some i) :
    let u := filterCycle i s
    followCycle s = { u with
      ctrl.feSince :=
        if 65536 * prm s Prm.feLimit * iRated s < 32768 * ((u.ctrl.feFilt.1 - u.ctrl.feFilt.2).natAbs : Int) then
          some (s.ctrl.feSince.getD s.now)
        else none } := by
  have hjudged : (s.conv.st != .softStart) = true := bne_iff_ne.mpr hsoft
  rw [followCycle_switching hon hcurrent, followingDiff_outsideBurst (s := filterCycle i s) hburst, hjudged, Bool.true_and]
  simp only [decide_eq_true_eq]

end FollowingError

/-! ## Current sensors (06 R192 to R195) -/

section Sensors

variable {t : Nat} {s : State}

section Disagree

variable {sh ha : Int} {held : Nat}

/-- Sensors that agree are left alone. -/
theorem sensorDisagree_agree (sum : Option Int) (hagree : sensorsAgree s sh ha = true) :
    exec (.sensorDisagree t sh ha sum held) s = .next (after t (fun s => s) s) := by
  rw [exec_sensorDisagree]
  exact timed_next (if_pos (by simp [hagree]))

variable (hshunt : s.ctrl.shuntFail = false) (hhall : s.ctrl.hallFail = false) (hagree : sensorsAgree s sh ha = false)
  (hheld : ms 5 ≤ held)
include hshunt hhall hagree hheld

/-- Two sensors in service that have disagreed for 5 ms are judged. -/
theorem disagreement_judged : ¬(s.ctrl.shuntFail || s.ctrl.hallFail || sensorsAgree s sh ha || held < ms 5) = true := by
  simp [hshunt, hhall, hagree, hheld]

/-- Without a sum of the phase currents to judge by, both sensors fail. -/
theorem sensorDisagree_noSum :
    exec (.sensorDisagree t sh ha none held) s = .next (after t (fun s => failSensor 1 (failSensor 0 s)) s) := by
  rw [exec_sensorDisagree]
  exact timed_next (if_neg (disagreement_judged (s := clocked t s) hshunt hhall hagree hheld))

/-- The sensor that lies further from the sum of the phase currents by 2 % of I_RATED fails, both where neither does. -/
theorem sensorDisagree_bySum (q : Int) :
    exec (.sensorDisagree t sh ha (some q) held) s = .next (after t (fun s =>
      let q := if prm s Prm.hbSide = 0 then q else -q
      let ds : Int := (2 * sh - q).natAbs
      let dh : Int := (2 * ha - q).natAbs
      if iRated s ≤ 50 * (ds - dh) then failSensor 0 s
      else if iRated s ≤ 50 * (dh - ds) then failSensor 1 s
      else failSensor 1 (failSensor 0 s)) s) := by
  rw [exec_sensorDisagree]
  exact timed_next (if_neg (disagreement_judged (s := clocked t s) hshunt hhall hagree hheld))

end Disagree

/-- A front-end fault, or a code that stands still for 64 cycles while the duty moves by 1 %, fails the sensor. -/
theorem sensorFrozen_fails {x spread cyc duty : Nat} {fault : Bool} (hx : x < 2)
    (hfrozen : fault = true ∨ spread ≤ 1 ∧ 64 ≤ cyc ∧ 328 < duty) :
    exec (.sensorFrozen t x spread cyc duty fault) s = .next (after t (failSensor x) s) := by
  rw [exec_sensorFrozen]
  exact timed_next (if_pos (by simpa [hx, and_assoc] using hfrozen))

variable (hshunt : s.ctrl.shuntFail = true) (hhall : s.ctrl.hallFail = true)
include hshunt hhall

/-- Both sensors failed for 5 s trip. -/
theorem currentFeedbackLost_trips {a : Nat} (hboth : s.ctrl.bothAt = some a) (hlong : a + sec 5 ≤ max s.now t)
    (hmode : s.core.mode ≠ .tripped) :
    exec (.currentFeedbackLost t) s = .next (after t (tripHeld Ev.currentFeedbackLost .sp []) s) := by
  have hheld : heldOpt (clocked t s) s.ctrl.bothAt (sec 5) = true := heldOpt_of_le hboth hlong
  rw [exec_currentFeedbackLost]
  exact timed_next (if_pos (by simp [bothFailed_of (s := clocked t s) hshunt hhall, hheld, hmode]))

/-- Of two failed sensors one that has passed for 1 s, and agrees with the other where that reads, is back in service. -/
theorem sensorRecover_recovers {x passed : Nat} (hx : x < 2) (hpassed : sec 1 ≤ passed) :
    exec (.sensorRecover t x passed true) s = .next (after t (fun s =>
      let u := clearPresent Ev.currentFeedbackLost { s with ctrl.bothAt := none }
      if x = 0 then { u with ctrl.shuntFail := false } else { u with ctrl.hallFail := false }) s) := by
  rw [exec_sensorRecover]
  exact timed_next (if_pos (by simp [bothFailed_of (s := clocked t s) hshunt hhall, hx, hpassed]))

end Sensors

/-! ## Commands of the engines and the sensors (06 R185, R188, R196, R198) -/

section EngineCommands

variable {t m : Nat} {b : List Byte} {s : State}

theorem ctrlStatus_reads (hp : Pend s m Cmd.ctrlStatus []) : exec (.ctrlStatus t m) s = .next (read t m ctrlStatus s) := by
  rw [exec_ctrlStatus]
  exact serve_length_read hp rfl rfl

theorem ctrlEngines_reads (hp : Pend s m Cmd.ctrlEngines []) : exec (.ctrlEngines t m) s = .next (read t m ctrlEngines s) := by
  rw [exec_ctrlEngines]
  exact serve_length_read hp rfl rfl

theorem winTotals_reads (hp : Pend s m Cmd.winTotals []) :
    exec (.winTotals t m) s =
      .next (read t m (fun s => .fields [("wins", s.ctrl.wins.map (fun w => ((w / 100000000 : Nat) : Int)))]) s) := by
  rw [exec_winTotals]
  exact serve_length_read hp rfl rfl

/-- What the return of an engine that passed its self-test makes of the state: it takes the first role that has no holder. -/
def returnEngine (e : Nat) (s : State) : State :=
  let u := setEng e (fun g => { g with test := some true }) s
  let vacant := ([EngRole.w, .p, .s, .c].find? (fun r => (holderOf u r).isNone)).getD .w
  judgeCapacity (setEng e (fun g => { g with role := vacant, heldOut := false, ready := false, missRun := [0, 0, 0] })
    { u with ctrl.shadowAbsent := u.ctrl.shadowAbsent && vacant != .w })

/-- CTRL_ENGINE_RETURN of an engine out of service ends by the result of its self-test. -/
theorem engineReturn_out {r : Request} {pass : Bool} (hr : r.payload = b) (hlen : b.length = 1) (he : byteAt b 0 ≤ 3)
    (hout : (engOf s (byteAt b 0)).role = .out) :
    engineReturn pass r s = if pass then ok (returnEngine (byteAt b 0) s) else
      answerWith (guardReply Ev.engineRemoved) (setEng (byteAt b 0) (fun g => { g with test := some false }) s) := by
  have haccepted : ¬(decide (3 < byteAt b 0) || (engOf s (byteAt b 0)).role != .out) = true := by simp [he, hout]
  subst hr
  rw [engineReturn, withLength_met hlen]
  refine (if_neg haccepted).trans ?_
  cases pass <;> rfl

section EngineReturn

variable (hp : Pend s m Cmd.ctrlEngineReturn b) (hlen : b.length = 1) (he : byteAt b 0 ≤ 3)
  (hout : (engOf s (byteAt b 0)).role = .out)
include hp hlen he hout

theorem ctrlEngineReturn_passed :
    exec (.ctrlEngineReturn t m true) s = .next (ended t m doneReply (returnEngine (byteAt b 0)) s) := by
  rw [exec_ctrlEngineReturn]
  refine serve_ended hp fun r hr _ => ?_
  rw [engineReturn_out hr hlen he (s := startCommand m (clocked t s)) hout]
  rfl

/-- An engine that fails the self-test of its return stays out of service. -/
theorem ctrlEngineReturn_failed :
    exec (.ctrlEngineReturn t m false) s = .next (going t m (fun s =>
      answerNow m (guardReply Ev.engineRemoved) (setEng (byteAt b 0) (fun g => { g with test := some false }) s)) s) := by
  rw [exec_ctrlEngineReturn]
  refine serve_going hp fun r hr _ => ?_
  rw [engineReturn_out hr hlen he (s := startCommand m (clocked t s)) hout]
  rfl

end EngineReturn

theorem ctrlRotateNow_rotates (hp : Pend s m Cmd.ctrlRotateNow []) (hfree : rotationSkipped (begun t m s) = none) :
    exec (.ctrlRotateNow t m) s = .next (ended t m doneReply rotate s) := by
  rw [exec_ctrlRotateNow]
  refine serve_length_done hp rfl ?_
  unfold begun at hfree
  rw [hfree]

theorem ctrlRotateNow_skipped {c : Nat} (hp : Pend s m Cmd.ctrlRotateNow []) (hskip : rotationSkipped (begun t m s) = some c) :
    exec (.ctrlRotateNow t m) s = .next (turnedAway t m (guardReply c) s) := by
  rw [exec_ctrlRotateNow]
  refine serve_length_guard hp rfl ?_
  unfold begun at hskip
  rw [hskip]

/-- SENSOR_RESTORE puts sensor 0 or 1 back in service once both have agreed for 10 s (06 R196). -/
theorem sensorRestore_restores {x a : Nat} (hp : Pend s m Cmd.sensorRestore b) (hlen : b.length = 1)
    (hagree : s.ctrl.agreeSince = some a) (hlong : a + sec 10 ≤ max s.now t) (hx : byteAt b 0 = x) (hsensor : x < 2) :
    exec (.sensorRestore t m) s = .next (ended t m doneReply (fun s => clearPresent Ev.currentFeedbackLost
      (if x = 0 then { s with ctrl.shuntFail := false, ctrl.bothAt := none }
      else { s with ctrl.hallFail := false, ctrl.bothAt := none })) s) := by
  have hheld : heldOpt (startCommand m (clocked t s)) (startCommand m (clocked t s)).ctrl.agreeSince (sec 10) = true :=
    heldOpt_of_le hagree hlong
  rw [exec_sensorRestore]
  refine serve_ended hp fun r hr _ => ?_
  subst hr hx
  unfold sensorRestore
  rw [withLength_met hlen, if_neg (Nat.not_lt.mpr (Nat.le_of_lt_succ hsensor)), hheld]
  rfl

end EngineCommands

/-- Settles O22: one lemma for each event of the engines and the sensors, and one for each outcome of a command. -/
theorem enginesAndSensors : Obligations.EnginesAndSensors := by
  unfold Obligations.EnginesAndSensors
  refine ⟨fun t x late sl df s => roleDeadline_noRole late sl df, fun t x late sl df s => roleDeadline_judges late sl df,
    fun s x a w => handOver_toShadow, fun s x a hw late => handOver_noShadow late hw,
    fun t e pass s => engineSelfTestDone_decides, fun t e pass s => engineSelfTestDone_out, fun t s => roleRotation_rotates,
    fun t c s => roleRotation_skipped, fun t a s => followingError_acts, fun t s => followingError_within,
    fun s i => followCycle_continuous, fun t sh ha sum held s => sensorDisagree_agree sum, ?noSum, ?bySum, ?fault, ?frozen,
    ?lost, ?shunt, ?hall, fun t m s => ctrlStatus_reads, fun t m s => ctrlEngines_reads,
    fun t m b s => ctrlEngineReturn_passed, fun t m b s => ctrlEngineReturn_failed, fun t m s => ctrlRotateNow_rotates,
    fun t m c s => ctrlRotateNow_skipped, ?restoreShunt, ?restoreHall, fun t m s => winTotals_reads⟩
  case noSum =>
    intro t sh ha sum held s hshunt hhall hagree hheld hsum
    rw [hsum]
    exact sensorDisagree_noSum hshunt hhall hagree hheld
  case bySum =>
    intro t sh ha q held s hshunt hhall hagree hheld
    exact sensorDisagree_bySum hshunt hhall hagree hheld q
  case fault => exact fun t x spread cyc duty s hx => sensorFrozen_fails hx (.inl rfl)
  case frozen =>
    intro t x spread cyc duty s hx hspread hcyc hduty
    exact sensorFrozen_fails hx (.inr ⟨hspread, hcyc, hduty⟩)
  case lost =>
    intro t a s hshunt hhall hboth hlong hmode
    exact currentFeedbackLost_trips hshunt hhall hboth hlong hmode
  case shunt => exact fun t passed s hshunt hhall => sensorRecover_recovers hshunt hhall (by decide)
  case hall => exact fun t passed s hshunt hhall => sensorRecover_recovers hshunt hhall (by decide)
  case restoreShunt =>
    intro t m a b s hp hlen hagree hlong hx
    exact sensorRestore_restores hp hlen hagree hlong hx (by decide)
  case restoreHall =>
    intro t m a b s hp hlen hagree hlong hx
    exact sensorRestore_restores hp hlen hagree hlong hx (by decide)

end Sys2Proof.Machine

namespace Sys2Proof.Machine

/-! ## What the modulator reads of the state before it acts (07 R206 to R220) -/

@[simp] theorem phaseOf_clocked (t : Nat) (s : State) (n : Nat) : phaseOf (clocked t s) n = phaseOf s n := rfl

@[simp] theorem prm_clocked (t : Nat) (s : State) (id : Nat) : prm (clocked t s) id = prm s id := rfl

@[simp] theorem switching_clocked (t : Nat) (s : State) : switching (clocked t s) = switching s := rfl

@[simp] theorem groupDone_clocked (t : Nat) (s : State) : groupDone (clocked t s) = groupDone s := rfl

@[simp] theorem belowBurst_clocked (t : Nat) (s : State) : belowBurst (clocked t s) = belowBurst s := rfl

@[simp] theorem mayStart_clocked (t : Nat) (s : State) : mayStart (clocked t s) = mayStart s := rfl

/-! ## Valleys (07 R206, R211, R213, R215) -/

/-- A due swap of a phase's control switch takes place (07 R215). -/
def takeSwap (n : Nat) (s : State) : State := setPhase n (fun p => { p with ctrlHs := p.ctrlHs != p.swap, swap := false }) s

section Valleys

variable {t n age : Nat} {bits : List Bool} {s : State}

/-- With the gates off a valley means nothing. -/
theorem valleyReached_gatesOff (hst : s.conv.st = .off ∨ s.conv.st = .retryWait) :
    exec (.valleyReached t n bits age) s = .next (after t (fun s => s) s) := by
  have hoff : switching s = false := by
    rw [Bool.eq_false_iff, ne_eq, switching_iff]
    tauto
  rw [exec_valleyReached]
  exact timed_next (if_pos (by simp [hoff]))

variable (hon : switching s = true) (hin : (phaseOf s n).active = true ∨ (phaseOf s n).dropping = true)
  (hvalley : (phaseOf s n).waiting = true ∨
    atValley (clocked t s) (phaseOf s n) (estimate (clocked t s) (phaseOf s n) bits age) = true)
  (hpacket : s.conv.st = .burst → s.conv.packet ≠ 0)
include hon hin hvalley hpacket

/-- A phase of a converter that switches, at its valley and not between two packets, is judged by `g`. -/
theorem valleyReached_judged {g : State → State}
    (hg : (if (phaseOf s n).dropping then endPhase n (clocked t s)
      else if s.conv.st == .burst && 16 ≤ (phaseOf s n).cycles then packetPhaseEnds n (clocked t s)
      else startCycle n (takeSwap n (clocked t s))) = g (clocked t s)) :
    exec (.valleyReached t n bits age) s = .next (after t g s) := by
  have hthere : ¬(!switching s || !((phaseOf s n).active || (phaseOf s n).dropping) || !((phaseOf s n).waiting ||
      atValley (clocked t s) (phaseOf s n) (estimate (clocked t s) (phaseOf s n) bits age))) = true := by
    rw [hon, Bool.or_eq_true_iff.mpr hin, Bool.or_eq_true_iff.mpr hvalley]
    decide
  have hrunning : ¬(s.conv.st == .burst && decide (s.conv.packet = 0)) = true := by simpa using hpacket
  rw [exec_valleyReached]
  exact timed_next ((if_neg hthere).trans ((if_neg hrunning).trans hg))

/-- A dropped phase ends at its valley (07 R211). -/
theorem valleyReached_dropped (hdrop : (phaseOf s n).dropping = true) :
    exec (.valleyReached t n bits age) s = .next (after t (endPhase n) s) :=
  valleyReached_judged hon hin hvalley hpacket (if_pos hdrop)

/-- A phase that goes on swaps its control switch, where that is due, and starts its next cycle (07 R206, R215). -/
theorem valleyReached_starts (hkept : (phaseOf s n).dropping = false) (hmore : s.conv.st = .burst → (phaseOf s n).cycles < 16) :
    exec (.valleyReached t n bits age) s = .next (after t (fun s => startCycle n (takeSwap n s)) s) :=
  valleyReached_judged hon hin hvalley hpacket
    ((if_neg (Bool.eq_false_iff.mp hkept)).trans (if_neg (by simpa using hmore)))

/-- A phase that has made its 16 cycles ends at its valley, and the packet ends with its last phase (07 R213). -/
theorem valleyReached_packetMade (hkept : (phaseOf s n).dropping = false) (hst : s.conv.st = .burst)
    (hmade : 16 ≤ (phaseOf s n).cycles) :
    exec (.valleyReached t n bits age) s = .next (after t (packetPhaseEnds n) s) :=
  valleyReached_judged hon hin hvalley hpacket ((if_neg (Bool.eq_false_iff.mp hkept)).trans (if_pos (by simp [hst, hmade])))

end Valleys

/-! ## The start of a cycle (07 R203, R204, R208) -/

section CycleStart

variable {n : Nat} {s : State}

/-- Where R204 cannot be met at any frequency the converter stops. -/
theorem startCycle_noTiming (hnone : nextCycle s (phaseOf s n) = none) :
    startCycle n s = faultToHold Ev.voltageRatio [((n + 1 : Nat) : Int)] s := by
  unfold startCycle
  dsimp only
  rw [hnone]
  rfl

/-- A granted start outside soft start sends the edges of the cycle. -/
theorem startCycle_granted {f ton : Nat} (hnext : nextCycle s (phaseOf s n) = some (f, ton)) (hgrant : startGranted s n = true)
    (hnearest : nearerWaits s n = false) (hsoft : s.conv.st ≠ .softStart) :
    startCycle n s = sendEdges n (cycleEdges s n (phaseOf s n) ton) (setPhase n (fun p => { p with
      tOn := ton, freq := f, startAt := s.now, onEnd := controlOn s n (phaseOf s n) + ton, waiting := false, started := true,
      cycles := p.cycles + 1, hit := false, run := if p.hit then p.run else 0 }) s) := by
  unfold startCycle
  dsimp only
  rw [hnext]
  refine (if_pos (by simp [hgrant, hnearest])).trans (if_neg ?_)
  rw [sendEdges_st]
  simp [setPhase, hsoft]

end CycleStart

/-! ## Limit hits (07 R213, R216, R217, R219) -/

/-- A cycle cut at PHASE_I_MAX: the hit counts, the control switch goes off at once and the complementary one follows after the
dead time (07 R216). -/
def cutCycle (n : Nat) (s : State) : State :=
  sendEdges n [(4 * s.now, 0), (4 * s.now + prmN s Prm.deadTime, switchState (phaseOf s n) false)]
    (setPhase n (fun p => { p with hits := (p.hits + 1) % 2 ^ 32, run := p.run + 1, hit := true, onEnd := 4 * s.now }) s)

@[simp] theorem cutCycle_st (n : Nat) (s : State) : (cutCycle n s).conv.st = s.conv.st := sendEdges_st ..

section LimitHits

variable {t n age : Nat} {bits : List Bool} {s : State} (hon : switching s = true)
  (hin : (phaseOf s n).active = true ∨ (phaseOf s n).dropping = true)
  (hlevel : level (clocked t s) (prm s Prm.phaseIMax) ≤ ((estimate (clocked t s) (phaseOf s n) bits age).natAbs : Int))
  (hfirst : (phaseOf s n).hit = false) (hbegun : (phaseOf s n).onEnd ≤ 4 * max s.now t + (phaseOf s n).tOn)
  (hlasts : 4 * max s.now t < (phaseOf s n).onEnd)
include hon hin hlevel hfirst hbegun hlasts

/-- The first hit of an on-time cuts it, and the run of hits and the packet are judged by `g`. -/
theorem limitHit_judged {g : State → State}
    (hg : (if 8 ≤ (phaseOf s n).run + 1 then
        if (cutCycle n (clocked t s)).conv.st == .softStart then softStartFail 1 (cutCycle n (clocked t s))
        else faultToHold Ev.cbcSustained [((n + 1 : Nat) : Int)] (cutCycle n (clocked t s))
      else if (cutCycle n (clocked t s)).conv.st == .burst && (phaseOf s n).cycles = 16 then endPacket (cutCycle n (clocked t s))
      else cutCycle n (clocked t s)) = g (cutCycle n (clocked t s))) :
    exec (.limitHit t n bits age) s = .next (after t (fun s => g (cutCycle n s)) s) := by
  have hhits : ¬(!switching s || !((phaseOf s n).active || (phaseOf s n).dropping) || (phaseOf s n).hit ||
      !inOnTime (clocked t s) (phaseOf s n) ||
      decide (((estimate (clocked t s) (phaseOf s n) bits age).natAbs : Int) <
        level (clocked t s) (prm s Prm.phaseIMax))) = true := by
    have hontime : inOnTime (clocked t s) (phaseOf s n) = true := by simp [inOnTime, hbegun, hlasts]
    rw [hon, Bool.or_eq_true_iff.mpr hin, hfirst, hontime, decide_eq_false (not_lt.mpr hlevel)]
    decide
  rw [exec_limitHit]
  exact timed_next ((if_neg hhits).trans hg)

/-- A hit in a run of less than eight, that ends no packet, has no further effect. -/
theorem limitHit_cuts (hrun : (phaseOf s n).run < 7) (hst : s.conv.st ≠ .burst) :
    exec (.limitHit t n bits age) s = .next (after t (cutCycle n) s) :=
  limitHit_judged (g := id) hon hin hlevel hfirst hbegun hlasts ((if_neg (by omega)).trans (if_neg (by simp [hst])))

/-- The hit of the sixteenth cycle of a packet ends the packet (07 R213). -/
theorem limitHit_endsPacket (hrun : (phaseOf s n).run < 7) (hst : s.conv.st = .burst) (hmade : (phaseOf s n).cycles = 16) :
    exec (.limitHit t n bits age) s = .next (after t (fun s => endPacket (cutCycle n s)) s) :=
  limitHit_judged hon hin hlevel hfirst hbegun hlasts ((if_neg (by omega)).trans (if_pos (by simp [hst, hmade])))

/-- The eighth hit in a row fails a soft start (07 R219). -/
theorem limitHit_failsSoftStart (hrun : 7 ≤ (phaseOf s n).run) (hst : s.conv.st = .softStart) :
    exec (.limitHit t n bits age) s = .next (after t (fun s => softStartFail 1 (cutCycle n s)) s) :=
  limitHit_judged hon hin hlevel hfirst hbegun hlasts ((if_pos (by omega)).trans (if_pos (by simp [hst])))

/-- Outside soft start the eighth hit in a row is CBC_SUSTAINED (07 R217). -/
theorem limitHit_sustained (hrun : 7 ≤ (phaseOf s n).run) (hst : s.conv.st ≠ .softStart) :
    exec (.limitHit t n bits age) s =
      .next (after t (fun s => faultToHold Ev.cbcSustained [((n + 1 : Nat) : Int)] (cutCycle n s)) s) :=
  limitHit_judged hon hin hlevel hfirst hbegun hlasts ((if_pos (by omega)).trans (if_neg (by simp [hst])))

end LimitHits

/-! ## Cycle groups (07 R207, R209, R211) -/

section Groups

variable {t n : Nat} {s : State}

/-- Once every active phase has started, and outside burst, the pointer advances, the trims step, added phases start and the
reference is divided among the phases now active. -/
theorem cycleGroupBoundary_advances (hon : switching s = true) (hdone : groupDone s = true) (hst : s.conv.st ≠ .burst) :
    exec (.cycleGroupBoundary t) s = .next (after t (fun s =>
      let u := { s with conv.ptr := nextPointer (activePhases s) s.conv.ptr, conv.ph := (List.range 8).map (boundaryPhase s) }
      { u with conv.shares := (activePhases u).length }) s) := by
  rw [exec_cycleGroupBoundary]
  exact timed_next ((if_neg (by simp [hon, hdone])).trans (if_neg (by simpa using hst)))

/-- While an active phase has not started there is no boundary. -/
theorem cycleGroupBoundary_early (hdone : groupDone s = false) :
    exec (.cycleGroupBoundary t) s = .next (after t (fun s => s) s) := by
  rw [exec_cycleGroupBoundary]
  exact timed_next (if_pos (by simp [hdone]))

/-- A trim that has been at a bound for 100 ms is recorded once. -/
theorem interleaveLimit_records {a : Nat} (hactive : (phaseOf s n).active = true) (hfirst : (phaseOf s n).limited = false)
    (hsince : (phaseOf s n).boundSince = some a) (hlong : a + ms 100 ≤ max s.now t) :
    exec (.interleaveLimit t n) s = .next (after t (fun s =>
      record Ev.interleaveLimit 3 [((n + 1 : Nat) : Int)] (setPhase n (fun p => { p with limited := true }) s)) s) := by
  have hheld : heldOpt (clocked t s) (phaseOf s n).boundSince (ms 100) = true := heldOpt_of_le hsince hlong
  rw [exec_interleaveLimit]
  exact timed_next (if_pos (by simp [hactive, hfirst, hheld]))

end Groups

/-! ## Burst (07 R212 to R214) -/

section Burst

variable {t : Nat} {s : State}

/-- Below 4 % for 20 ms continuous operation becomes burst, and an impedance window aborts. -/
theorem burstEntry_enters {a : Nat} (hst : s.conv.st = .continuous) (henabled : prm s Prm.burstEnable = 1)
    (hlow : belowBurst s = true) (hsince : s.conv.lowSince = some a) (hlong : a + ms 20 ≤ max s.now t) :
    exec (.burstEntry t) s = .next (after t (fun s => impAbort Ev.impConverter (startPhases []
      { s with
        conv.st := .burst, conv.acc := 0, conv.packet := 0, conv.packetN := 0, conv.na := 0, conv.burstExit := false,
        conv.lowSince := none, conv.frame := (burstGrid s).1 })) s) := by
  have hheld : heldOpt (clocked t s) s.conv.lowSince (ms 20) = true := heldOpt_of_le hsince hlong
  rw [exec_burstEntry]
  exact timed_next (if_pos (by simp [hst, henabled, hlow, hheld]))

/-- What keeps a frame from beginning: another state than burst, a frame already begun, an instant past the grid. -/
theorem frame_held_iff : (s.conv.st != .burst || decide ((burstGrid (clocked t s)).1 = s.conv.frame) ||
    decide (1000 < (burstGrid (clocked t s)).2)) = true ↔
      s.conv.st ≠ .burst ∨ (burstGrid (clocked t s)).1 = s.conv.frame ∨ 1000 < (burstGrid (clocked t s)).2 := by
  simp [or_assoc]

/-- Outside burst, in a frame already begun, or more than 1 µs after its start, no frame begins. -/
theorem burstFrame_none
    (hnone : s.conv.st ≠ .burst ∨ (burstGrid (clocked t s)).1 = s.conv.frame ∨ 1000 < (burstGrid (clocked t s)).2) :
    exec (.burstFrame t) s = .next (after t (fun s => s) s) := by
  rw [exec_burstFrame]
  exact timed_next (if_pos (frame_held_iff.mpr hnone))

variable (hst : s.conv.st = .burst) (hnew : (burstGrid (clocked t s)).1 ≠ s.conv.frame)
  (hstart : (burstGrid (clocked t s)).2 ≤ 1000)
include hst hnew hstart

/-- At the start of a new frame in burst nothing keeps the frame from beginning. -/
theorem burst_frame_begins : ¬(s.conv.st != .burst || decide ((burstGrid (clocked t s)).1 = s.conv.frame) ||
    decide (1000 < (burstGrid (clocked t s)).2)) = true := by
  rw [frame_held_iff]
  simp [hst, hnew, hstart]

/-- A request of 4 % or more, now or before, ends burst at the frame (07 R214). -/
theorem burstFrame_leaves (hexit : s.conv.burstExit = true ∨ belowBurst s = false) :
    exec (.burstFrame t) s = .next (after t leaveBurst s) := by
  rw [exec_burstFrame]
  exact timed_next ((if_neg (burst_frame_begins hst hnew hstart)).trans (if_pos (by simpa using hexit)))

/-- In a frame of burst the charge accumulator decides on a packet and its direction (07 R213). -/
theorem burstFrame_accumulates (hstay : s.conv.burstExit = false) (hlow : belowBurst s = true) :
    exec (.burstFrame t) s = .next (after t (fun s =>
      let u := { s with
        conv.frame := (burstGrid s).1, conv.ph := s.conv.ph.map (fun (p : Phase) => { p with run := 0 }) }
      let q := packetCharge u
      let acc := clampTo (-q) q (u.conv.acc + u.ctrl.applied * 2000000)
      if q ≤ 2 * acc then runPacket 1 acc u
      else if 2 * acc ≤ -q then runPacket (-1) acc u
      else startPhases [] { u with conv.acc := acc, conv.packet := 0, conv.packetN := 0, conv.na := 0 }) s) := by
  rw [exec_burstFrame]
  exact timed_next ((if_neg (burst_frame_begins hst hnew hstart)).trans (if_neg (by simp [hstay, hlow])))

end Burst

/-! ## Starts and retries (07 R218, R220) -/

section Starts

variable {t : Nat} {vs vl : Int} {s : State}

/-- From gates off switching starts where it may. -/
theorem softStart_begins (hst : s.conv.st = .off) (hmay : mayStart s = true) :
    exec (.softStart t vs vl) s = .next (after t (beginSoftStart vs vl) s) := by
  rw [exec_softStart]
  exact timed_next (if_pos (by simp [hst, hmay]))

/-- Where it may not, switching does not start. -/
theorem softStart_held (hmay : mayStart s = false) : exec (.softStart t vs vl) s = .next (after t (fun s => s) s) := by
  rw [exec_softStart]
  exact timed_next (if_neg (by simp [hmay]))

/-- A failed start is tried again after its wait. -/
theorem softStartRetry_begins (hst : s.conv.st = .retryWait) (hdue : s.conv.retryAt ≤ max s.now t) (hmay : mayStart s = true) :
    exec (.softStartRetry t vs vl) s = .next (after t (beginSoftStart vs vl) s) := by
  have hpassed : decide (s.conv.retryAt ≤ (clocked t s).now) = true := decide_eq_true hdue
  rw [exec_softStartRetry]
  refine timed_next (if_pos ?_)
  rw [clocked_conv, mayStart_clocked, hst, hpassed, hmay]
  decide

end Starts

/-- Settles O23: one lemma for each outcome of a valley, a start, a limit hit, a group boundary, a burst frame and a soft start. -/
theorem modulatorCycles : Obligations.ModulatorCycles := by
  unfold Obligations.ModulatorCycles
  refine ⟨fun t n bits age s => valleyReached_gatesOff, ?drop, ?start, ?made, ?granted, fun s n => startCycle_noTiming, ?cuts,
    ?packet, ?soft, ?sustained, fun t s => cycleGroupBoundary_advances, fun t s => cycleGroupBoundary_early,
    fun t n a s => interleaveLimit_records, fun t a s => burstEntry_enters, fun t s => burstFrame_none, ?leaves, ?frame,
    fun t vs vl s => softStart_begins, fun t vs vl s => softStart_held, fun t vs vl s => softStartRetry_begins⟩
  case drop =>
    intro t n bits age s hst hin hvalley hdrop
    exact valleyReached_dropped (switching_iff.mpr (by simp [hst])) hin hvalley (by simp [hst]) hdrop
  case start =>
    intro t n bits age s hst hin hvalley hkept
    exact valleyReached_starts (switching_iff.mpr (by simp [hst])) hin hvalley (by simp [hst]) hkept (by simp [hst])
  case made =>
    intro t n bits age s hst hpacket hactive hkept hmade hvalley
    exact valleyReached_packetMade (switching_iff.mpr (by simp [hst])) (.inl hactive) (.inr hvalley) (fun _ => hpacket) hkept hst
      hmade.ge
  case granted =>
    intro s n f ton hnext hgrant hnearest hst
    exact startCycle_granted hnext hgrant hnearest (by rcases hst with h | h <;> simp [h])
  case cuts => exact fun t n bits age s => limitHit_cuts
  case packet => exact fun t n bits age s => limitHit_endsPacket
  case soft => exact fun t n bits age s => limitHit_failsSoftStart
  case sustained => exact fun t n bits age s => limitHit_sustained
  case leaves =>
    intro t s hst hexit hnew hstart
    exact burstFrame_leaves hst hnew hstart hexit
  case frame =>
    intro t s hst hstay hlow hnew hstart
    exact burstFrame_accumulates hst hnew hstart hstay hlow

end Sys2Proof.Machine

namespace Sys2Proof.Machine

/-! ## What the lanes' events read of the state before they act (07 R222 to R228) -/

@[simp] theorem laneOf_clocked (t : Nat) (s : State) (n : Nat) : laneOf (clocked t s) n = laneOf s n := rfl

@[simp] theorem fittedLanes_clocked (t : Nat) (s : State) : fittedLanes (clocked t s) = fittedLanes s := rfl

section Lanes

variable {t n : Nat} {s : State}

/-! ## Sideband and status frames (07 R223, R225, R226) -/

theorem sidebandFrame_sends (t : Nat) (s : State) :
    exec (.sidebandFrame t) s = .next (after t (fun s => eachDo (fittedLanes s) sendSideband s) s) := by
  rw [exec_sidebandFrame]
  exact timed_next rfl

section StatusFrames

variable {b : List Byte}

/-- A status frame that is not well formed counts an error and ends a row of good frames. -/
theorem gateStatusFrame_bad (hbad : statusValid b = false) :
    exec (.gateStatusFrame t n b) s =
      .next (after t (setLane n (fun l => { l with errors := min (l.errors + 1) 65535, good := 0 })) s) := by
  rw [exec_gateStatusFrame]
  exact timed_next (if_pos (by simp [hbad]))

/-- A good status frame is kept, and shows that the driver has not timed out. -/
def keepStatus (n : Nat) (b : List Byte) (s : State) : State :=
  setLane n (fun l => { l with last := some b, drvTimeout := false }) s

variable (hgood : statusValid b = true)
include hgood

/-- The third good frame in a row with READY and a known ECHO brings a training lane up. -/
theorem gateStatusFrame_bringsUp (hdown : (laneOf s n).up = false) (htrains : (laneOf s n).training = true)
    (hechoes : statusEchoes (laneOf s n) b = true) (htwo : 2 ≤ (laneOf s n).good) :
    exec (.gateStatusFrame t n b) s = .next (after t (fun s =>
      setLane n (fun l => { l with good := 3, training := false, up := true }) (keepStatus n b s)) s) := by
  have hthird : ¬(laneOf s n).good + 1 < 3 := by omega
  rw [exec_gateStatusFrame]
  refine timed_next ((if_neg (by simp [hgood])).trans ?_)
  simp only [laneOf_clocked, hdown, htrains, hechoes, hthird, Bool.not_true, Bool.false_and, Bool.false_eq_true, if_false]
  rfl

/-- On a lane that does not train the frame is kept, and `g` is what its flags make of that. -/
theorem gateStatusFrame_kept {g : State → State} (hstays : (laneOf s n).training = false)
    (hg : (if (laneOf s n).up && statusFaults b && (phaseOf s n).active && switching s then
        faultToHold Ev.gateDriverFault [((n + 1 : Nat) : Int), byteAt b 2] (keepStatus n b (clocked t s))
      else keepStatus n b (clocked t s)) = g (keepStatus n b (clocked t s))) :
    exec (.gateStatusFrame t n b) s = .next (after t (fun s => g (keepStatus n b s)) s) := by
  rw [exec_gateStatusFrame]
  refine timed_next ((if_neg (by simp [hgood])).trans ?_)
  simp only [laneOf_clocked, hstays, Bool.not_false, if_true]
  exact hg

/-- Without a fault flag there is no more to it. -/
theorem gateStatusFrame_healthy (hstays : (laneOf s n).training = false) (hsound : statusFaults b = false) :
    exec (.gateStatusFrame t n b) s = .next (after t (keepStatus n b) s) :=
  gateStatusFrame_kept (g := id) hgood hstays (if_neg (by simp [hsound]))

/-- A fault flag of an active phase turns the gates off. -/
theorem gateStatusFrame_faulty (hstays : (laneOf s n).training = false) (hup : (laneOf s n).up = true)
    (hfault : statusFaults b = true) (hactive : (phaseOf s n).active = true) (hon : switching s = true) :
    exec (.gateStatusFrame t n b) s = .next (after t (fun s =>
      faultToHold Ev.gateDriverFault [((n + 1 : Nat) : Int), byteAt b 2] (keepStatus n b s)) s) :=
  gateStatusFrame_kept hgood hstays (if_pos (by simp [hup, hfault, hactive, hon]))

end StatusFrames

/-! ## Training and loss of a lane (07 R224, R226) -/

/-- A fitted lane that is down trains. -/
theorem laneTrain_trains (hfitted : (fittedLanes s).contains n = true) (hdown : (laneOf s n).up = false) :
    exec (.laneTrain t n) s = .next (after t (trainLane n) s) := by
  rw [exec_laneTrain]
  refine timed_next (if_pos ?_)
  rw [fittedLanes_clocked, laneOf_clocked, hfitted, hdown]
  rfl

/-- A lane goes down. -/
def dropLane (n : Nat) (s : State) : State := setLane n (fun l => { l with up := false, good := 0 }) s

section LaneDown

variable {q ns : Nat} {br : List Byte} (hup : (laneOf s n).up = true)
  (hlost : us 2 ≤ q ∨ us 20 ≤ ns ∨ countersFollow br = false)
include hup hlost

/-- A lane that is lost goes down, and `g` is what follows by the activity of its phase. -/
theorem laneDown_goesDown {g : State → State}
    (hg : (if (phaseOf s n).active && switching s then
        faultToHold Ev.laneDown [((n + 1 : Nat) : Int)] (dropLane n (clocked t s))
      else record Ev.laneDown 4 [((n + 1 : Nat) : Int)] (dropLane n (clocked t s))) = g (dropLane n (clocked t s))) :
    exec (.laneDown t n q ns br) s = .next (after t (fun s => g (dropLane n s)) s) := by
  have hgone : ¬(!(laneOf s n).up || !(us 2 ≤ q || us 20 ≤ ns || !countersFollow br)) = true := by
    rcases hlost with h | h | h <;> simp [hup, h]
  rw [exec_laneDown]
  exact timed_next ((if_neg hgone).trans hg)

/-- The loss of an active phase's lane goes to Hold at once. -/
theorem laneDown_active (hactive : (phaseOf s n).active = true) (hon : switching s = true) :
    exec (.laneDown t n q ns br) s =
      .next (after t (fun s => faultToHold Ev.laneDown [((n + 1 : Nat) : Int)] (dropLane n s)) s) :=
  laneDown_goesDown hup hlost (if_pos (by simp [hactive, hon]))

/-- The loss of any other lane is recorded. -/
theorem laneDown_inactive (hpassive : (phaseOf s n).active = false) :
    exec (.laneDown t n q ns br) s =
      .next (after t (fun s => record Ev.laneDown 4 [((n + 1 : Nat) : Int)] (dropLane n s)) s) :=
  laneDown_goesDown hup hlost (if_neg (by simp [hpassive]))

end LaneDown

/-! ## The gate driver (07 R228) -/

/-- A driver without gate bytes for 2 µs holds its switches off; lanes that may not switch on switch their transmitter off too. -/
theorem laneTimeoutOff_turnsOff {q : Nat} (hquiet : us 2 ≤ q) :
    exec (.laneTimeoutOff t n q) s = .next (after t (fun s =>
      setLane n (fun l => { l with drvTimeout := true, txOff := l.txOff || !lanesLive s }) s) s) := by
  rw [exec_laneTimeoutOff]
  exact timed_next (if_pos hquiet)

theorem driverDesat_latches (t n : Nat) (hs : Bool) (s : State) :
    exec (.driverDesat t n hs) s = .next (after t (fun s =>
      setLane n (fun l => { l with drvDesat := (l.drvDesat.1 || hs, l.drvDesat.2 || !hs), drvDesatAt := s.now }) s) s) := by
  rw [exec_driverDesat]
  exact timed_next rfl

end Lanes

/-! ## Commands of the modulator and the lanes (07 R229, R232) -/

section LaneCommands

variable {t m : Nat} {b : List Byte} {s : State}

theorem modStatus_reads (hp : Pend s m Cmd.modStatus []) : exec (.modStatus t m) s = .next (read t m modStatus s) := by
  rw [exec_modStatus]
  exact serve_length_read hp rfl rfl

theorem laneStatus_reads (hp : Pend s m Cmd.laneStatus []) : exec (.laneStatus t m) s = .next (read t m laneStatus s) := by
  rw [exec_laneStatus]
  exact serve_length_read hp rfl rfl

theorem dtTableRead_reads (hp : Pend s m Cmd.dtTableRead []) :
    exec (.dtTableRead t m) s = .next (read t m (fun s =>
      .bytes (s.conv.dt.flatMap (leInt 2) ++ (s.conv.dtStaged.getD s.conv.dt).flatMap (leInt 2))) s) := by
  rw [exec_dtTableRead]
  exact serve_length_read hp rfl rfl

/-- The entries that a dead-time table of 64 bytes gives (07 R229). -/
def dtEntries (b : List Byte) : List Int := (List.range 32).map (fun k => signedOf 16 (leAt b (2 * k) 2))

theorem dtEntries_getD {k : Nat} (hk : k < 32) : (dtEntries b).getD k 0 = signedOf 16 (leAt b (2 * k) 2) := by
  simp [dtEntries, hk]

/-- A table of which every entry lies within DEAD_TIME has no first entry beyond it. -/
theorem dtEntries_none_beyond
    (hwithin : ∀ k < 32, (((signedOf 16 (leAt b (2 * k) 2)).natAbs : Nat) : Int) ≤ prm s Prm.deadTime) :
    (List.range 32).find? (fun k => prm s Prm.deadTime < ((((dtEntries b).getD k 0).natAbs : Nat) : Int)) = none := by
  rw [List.find?_eq_none]
  intro k hrange
  have hk : k < 32 := List.mem_range.mp hrange
  rw [dtEntries_getD hk, decide_eq_true_eq]
  exact not_lt.mpr (hwithin k hk)

/-- A dead-time table of which every entry lies within DEAD_TIME is staged (07 R229). -/
theorem dtTableWrite_stages (hp : Pend s m Cmd.dtTableWrite b) (hlen : b.length = 64)
    (hwithin : ∀ k < 32, (((signedOf 16 (leAt b (2 * k) 2)).natAbs : Nat) : Int) ≤ prm s Prm.deadTime) :
    exec (.dtTableWrite t m) s =
      .next (ended t m doneReply (fun s => { s with conv.dtStaged := some (dtEntries b) }) s) := by
  have hnone := dtEntries_none_beyond (s := startCommand m (clocked t s)) hwithin
  unfold dtEntries at hnone
  rw [exec_dtTableWrite]
  refine serve_ended hp fun r hr _ => ?_
  subst hr
  unfold dtWriteHandler
  rw [withLength_met hlen]
  dsimp only
  rw [hnone]
  rfl

/-- LANE_RETRAIN trains every fitted lane while the converter does not switch (07 R232). -/
theorem laneRetrain_trains (hp : Pend s m Cmd.laneRetrain []) (hoff : switching s = false) :
    exec (.laneRetrain t m) s = .next (ended t m doneReply (fun s => eachDo (fittedLanes s) trainLane s) s) := by
  rw [exec_laneRetrain]
  exact serve_length_done hp rfl (if_neg (Bool.eq_false_iff.mp hoff))

/-- LANE_RETRAIN is refused while the converter switches (07 R232). -/
theorem laneRetrain_refused (hp : Pend s m Cmd.laneRetrain []) (hon : switching s = true) :
    exec (.laneRetrain t m) s = .next (turnedAway t m (guardReply Ev.impConverter) s) := by
  rw [exec_laneRetrain]
  exact serve_length_guard hp rfl (if_pos hon)

end LaneCommands

/-- Settles O24: one lemma for each event of a lane and its driver, and one for each outcome of a command. -/
theorem gateLanes : Obligations.GateLanes := by
  unfold Obligations.GateLanes
  refine ⟨sidebandFrame_sends, fun t n b s => gateStatusFrame_bad, fun t n b s => gateStatusFrame_bringsUp, ?healthy, ?faulty,
    fun t n s => laneTrain_trains, fun t n q ns br s => laneDown_active, fun t n q ns br s => laneDown_inactive,
    fun t n q s => laneTimeoutOff_turnsOff, driverDesat_latches, fun t m s => modStatus_reads, fun t m s => laneStatus_reads,
    fun t m s => dtTableRead_reads, fun t m b s => dtTableWrite_stages, fun t m s => laneRetrain_trains,
    fun t m s => laneRetrain_refused⟩
  case healthy => exact fun t n b s hgood _ hstays hsound => gateStatusFrame_healthy hgood hstays hsound
  case faulty =>
    intro t n b s hgood hup hstays hfault hactive hon
    exact gateStatusFrame_faulty hgood hstays hup hfault hactive hon

end Sys2Proof.Machine

namespace Sys2Proof.Machine

/-! ## Admission of a set-point (08 R235, R237, R240 to R243) -/

@[simp] theorem stopped_clocked (t : Nat) (s : State) (f : Nat) : stopped (clocked t s) f = stopped s f := rfl

/-- Where a set-point that nothing refuses goes by its apply time. -/
def placePoint (q : SpRequest) (s : State) : Reply × State :=
  let ahead := diff48 q.apply (stampNow s)
  let grace := timeUnits (us (prmN s Prm.spLateGrace))
  if !q.timed then applyNow q false s
  else if timeUnits (us (prmN s Prm.spLeadMin)) ≤ ahead then enqueuePoint q s
  else if 0 < grace ∧ -grace ≤ ahead then applyNow q true s
  else ({ status := .tooLate }, s)

section Admission

variable {cmd : Nat} {q : SpRequest} {s : State}

section Fields

-- A set-point that is no link voltage and lies within the horizon has no field out of range.
variable (hkind : q.kind ≠ 2)
  (hhorizon : q.timed = true → diff48 q.apply (stampNow s) ≤ timeUnits (sec (prmN s Prm.spHorizon)))
include hkind hhorizon

/-- While the function is stopped it is refused. -/
theorem decidePoint_stopped (hstop : stopped s 7 = true) :
    decidePoint cmd q s = (guardReply Ev.functionStopped, s) :=
  (if_neg fun hlink => hkind hlink.1).trans
    ((if_neg fun hfar => not_lt.mpr (hhorizon hfar.1) hfar.2).trans (if_pos hstop))

/-- From a source whose bit is set, to a function that runs, it is placed by its time. -/
theorem decidePoint_admitted (hrun : stopped s 7 = false) (hsource : bitOf (prmN s Prm.spSources) q.src = true) :
    decidePoint cmd q s = placePoint q s :=
  (if_neg fun hlink => hkind hlink.1).trans
    ((if_neg fun hfar => not_lt.mpr (hhorizon hfar.1) hfar.2).trans
      ((if_neg (Bool.eq_false_iff.mp hrun)).trans (if_neg (by simp [hsource]))))

end Fields

theorem placePoint_immediate (himm : q.timed = false) : placePoint q s = applyNow q false s :=
  if_pos (by simp [himm])

section Timed

variable (htimed : q.timed = true)
include htimed

theorem placePoint_early (hlead : timeUnits (us (prmN s Prm.spLeadMin)) ≤ diff48 q.apply (stampNow s)) :
    placePoint q s = enqueuePoint q s :=
  (if_neg (by simp [htimed])).trans (if_pos hlead)

variable (hshort : diff48 q.apply (stampNow s) < timeUnits (us (prmN s Prm.spLeadMin)))
include hshort

theorem placePoint_withinGrace (hgrace : 0 < timeUnits (us (prmN s Prm.spLateGrace)))
    (hlate : -timeUnits (us (prmN s Prm.spLateGrace)) ≤ diff48 q.apply (stampNow s)) :
    placePoint q s = applyNow q true s :=
  (if_neg (by simp [htimed])).trans ((if_neg (not_le.mpr hshort)).trans (if_pos ⟨hgrace, hlate⟩))

theorem placePoint_tooLate (hlate : diff48 q.apply (stampNow s) < -timeUnits (us (prmN s Prm.spLateGrace))) :
    placePoint q s = ({ status := .tooLate }, s) :=
  (if_neg (by simp [htimed])).trans
    ((if_neg (not_le.mpr hshort)).trans (if_neg fun hgrace => not_le.mpr hlate hgrace.2))

end Timed

/-- A set-point applied in time joins those the next string-loop cycle takes; its answer counts the queue that
CLEAR_PENDING leaves (08 R237, R240). -/
theorem applyNow_inTime :
    applyNow q false s =
      (let u := if q.clear then armNext { s with disp.queue := afterClear s } else s
       (doneWith (.bytes (leBytes 8 0 ++ leBytes 1 u.disp.queue.length ++ [0, 0, 0])),
         noteAccepted { u with disp.imm := u.disp.imm ++ [⟨q.kind, q.value, q.rate, 0, q.src, false⟩] })) := rfl

/-- With fewer than sixteen others waiting the entry is queued (08 R242). -/
theorem enqueuePoint_queues
    (hroom : (withoutSame ⟨q.kind, q.value, q.rate, q.apply, q.src, false⟩
      (if q.clear then afterClear s else s.disp.queue)).length < 16) :
    enqueuePoint q s =
      (let p : SetPoint := ⟨q.kind, q.value, q.rate, q.apply, q.src, false⟩
       let u := armNext (noteAccepted
         { s with disp.queue := insertPoint p (withoutSame p (if q.clear then afterClear s else s.disp.queue)) })
       (spPayload q.apply u, u)) := if_neg (Nat.not_le.mpr hroom)

end Admission

/-! ## Due entries and the watchdog (08 R240, R242, R248) -/

section Dispatch

variable {t : Nat} {s : State}

/-- With only the first entry due, it becomes its group's target and the rest stays queued. -/
theorem takeDue_first {p : SetPoint} {l : List SetPoint} (hqueue : s.disp.queue = p :: l)
    (hdue : diff48 p.apply (stampNow s) ≤ 0) (hrest : ∀ q ∈ l, 0 < diff48 q.apply (stampNow s)) :
    takeDue s = armNext { takeTarget p s with disp.queue := l, disp.watchdog := false, disp.watchAt := s.now } := by
  have hdueRest : l.filter (fun q => decide (diff48 q.apply (stampNow s) ≤ 0)) = [] := by
    simpa [List.filter_eq_nil_iff] using hrest
  have hkept : l.filter (fun q => !decide (diff48 q.apply (stampNow s) ≤ 0)) = l := by
    simpa [List.filter_eq_self] using hrest
  have hsplit : dueEntries s = ([p], l) := by
    simp [dueEntries, hqueue, List.partition_eq_filter_filter, Function.comp_def, hdue, hdueRest, hkept]
  unfold takeDue
  rw [hsplit]
  rfl

/-- An empty queue has nothing due. -/
theorem takeDue_empty (hqueue : s.disp.queue = []) : takeDue s = s := by
  unfold takeDue dueEntries
  rw [hqueue]
  rfl

theorem setpointApply_takesFirst {p : SetPoint} {l : List SetPoint} (hqueue : s.disp.queue = p :: l)
    (hdue : diff48 p.apply (stampNow (clocked t s)) ≤ 0) (hrest : ∀ q ∈ l, 0 < diff48 q.apply (stampNow (clocked t s))) :
    exec (.setpointApply t) s = .next (after t (fun s =>
      armNext { takeTarget p s with disp.queue := l, disp.watchdog := false, disp.watchAt := s.now }) s) := by
  rw [exec_setpointApply]
  exact timed_next (takeDue_first hqueue hdue hrest)

theorem setpointApply_empty (hqueue : s.disp.queue = []) :
    exec (.setpointApply t) s = .next (after t (fun s => s) s) := by
  rw [exec_setpointApply]
  exact timed_next (takeDue_empty hqueue)

/-- After its interval without an accepted set-point the watchdog sets the fall-back target. -/
theorem dispatchWatchdog_fallsBack (hused : prmN s Prm.spWatchdog ≠ 0) (hfirst : s.disp.watchdog = false)
    (hrun : stopped s 7 = false) (hquiet : s.disp.watchAt + ms (prmN s Prm.spWatchdog) ≤ max s.now t)
    (hmode : s.core.mode ≠ .shelf) :
    exec (.dispatchWatchdog t) s = .next (after t (fun s => record Ev.dispatchWatchdog 3 [prm s Prm.spFallback]
      { s with disp.target := ⟨0, prm s Prm.spFallback, none, 0, 9, false⟩, disp.watchdog := true,
               disp.imm := s.disp.imm.filter (·.kind == 2) }) s) := by
  rw [exec_dispatchWatchdog]
  exact timed_next (if_neg (by simp [hused, hfirst, hrun, heldFor, hquiet, hmode]))

/-- Once it has, it does nothing more. -/
theorem dispatchWatchdog_once (hset : s.disp.watchdog = true) :
    exec (.dispatchWatchdog t) s = .next (after t (fun s => s) s) := by
  rw [exec_dispatchWatchdog]
  exact timed_next (if_pos (by simp [hset]))

end Dispatch

/-! ## The commands (08 R237, R238, R243, R251) -/

section SetPointCommands

variable {t m : Nat} {b : List Byte} {s : State}

/-- The set-point that an SP_SET in mailbox `m` asks for with its payload. -/
def spRequest (m : Nat) (b : List Byte) : SpRequest :=
  ⟨byteAt b 0, bitOf (byteAt b 1) 0, bitOf (byteAt b 1) 1, if bitOf (byteAt b 1) 2 then some (leAt b 4 2) else none,
    signedOf 16 (leAt b 2 2), leAt b 8 8, m⟩

theorem spSetHandler_decides {r : Request} (hlen : r.payload.length = 16) (hfields : spBadField r.payload = none) :
    spSetHandler m r s =
      (.ends (noteReject (decidePoint r.command (spRequest m r.payload) s)).1,
        (noteReject (decidePoint r.command (spRequest m r.payload) s)).2) := by
  unfold spSetHandler
  dsimp only
  rw [if_neg (not_not.mpr hlen), hfields]
  rfl

theorem spSetHandler_badLength {r : Request} (hlen : r.payload.length ≠ 16) :
    spSetHandler m r s = (.ends lengthReply, { s with disp.lastReject := Status.badArgument }) := by
  unfold spSetHandler
  dsimp only
  rw [if_pos hlen]
  rfl

/-- SP_SET with no bad field is decided as a set-point of its fields. -/
theorem spSet_decides (hp : Pend s m Cmd.spSet b) (hlen : b.length = 16) (hfields : spBadField b = none) :
    exec (.spSet t m) s = .next (going t m (fun s =>
      let o := noteReject (decidePoint Cmd.spSet (⟨byteAt b 0, bitOf (byteAt b 1) 0, bitOf (byteAt b 1) 1,
        if bitOf (byteAt b 1) 2 then some (leAt b 4 2) else none, signedOf 16 (leAt b 2 2), leAt b 8 8, m⟩ : SpRequest) s)
      giveAnswer m (.ends o.1) o.2) s) := by
  rw [exec_spSet]
  refine serve_going hp fun r hr hcmd => ?_
  subst hr
  rw [spSetHandler_decides hlen hfields, hcmd]
  rfl

/-- SP_SET of another length is refused, which LAST_REJECT keeps. -/
theorem spSet_badLength (hp : Pend s m Cmd.spSet b) (hlen : b.length ≠ 16) :
    exec (.spSet t m) s =
      .next (going t m (fun s => answerNow m lengthReply { s with disp.lastReject := Status.badArgument }) s) := by
  rw [exec_spSet]
  refine serve_going hp fun r hr _ => ?_
  subst hr
  rw [spSetHandler_badLength hlen]
  rfl

/-- SP_CANCEL asks for entry `p`: apply time 0 stands for every entry, times are compared on 48 bits (08 R243; 16 R464). -/
def cancels (b : List Byte) (p : SetPoint) : Bool := leAt b 0 8 == 0 || low48 p.apply == low48 (leAt b 0 8)

/-- SP_CANCEL that asks for no released entry is done. -/
theorem spCancelHandler_done {r : Request} (hlen : r.payload.length = 8) (hrun : stopped s 7 = false)
    (hfree : ∀ p ∈ s.disp.queue, cancels r.payload p = true → released s p = false) :
    spCancelHandler r s =
      ok (armNext { s with disp.queue := s.disp.queue.filter (fun p => !cancels r.payload p || released s p) }) := by
  have hnone : ¬s.disp.queue.any (fun p => cancels r.payload p && released s p) = true := by
    simpa [List.any_eq_true] using hfree
  exact (if_neg (not_not.mpr hlen)).trans ((if_neg (Bool.eq_false_iff.mp hrun)).trans (if_neg hnone))

theorem spCancel_cancels (hp : Pend s m Cmd.spCancel b) (hlen : b.length = 8) (hrun : stopped s 7 = false)
    (hfree : ∀ p ∈ s.disp.queue, cancels b p = true → released (begun t m s) p = false) :
    exec (.spCancel t m) s = .next (ended t m doneReply (fun s =>
      armNext { s with disp.queue := s.disp.queue.filter (fun p => !cancels b p || released s p) }) s) := by
  rw [exec_spCancel]
  refine serve_ended hp fun r hr _ => ?_
  subst hr
  rw [spCancelHandler_done (s := startCommand m (clocked t s)) hlen hrun hfree]
  rfl

theorem spCancel_stopped (hp : Pend s m Cmd.spCancel b) (hlen : b.length = 8) (hstop : stopped s 7 = true) :
    exec (.spCancel t m) s = .next (turnedAway t m (guardReply Ev.functionStopped) s) := by
  have hstarted : stopped (startCommand m (clocked t s)) 7 = true := hstop
  rw [exec_spCancel]
  refine serve_turned hp fun r hr _ => ?_
  unfold spCancelHandler
  rw [hr, if_neg (not_not.mpr hlen), if_pos hstarted]
  rfl

theorem spQueueRead_reads (hp : Pend s m Cmd.spQueueRead []) :
    exec (.spQueueRead t m) s =
      .next (read t m (fun s => .fields (s.disp.queue.map (fun p => ("entry", pointInts p)))) s) := by
  rw [exec_spQueueRead]
  exact serve_length_read hp rfl rfl

theorem dispatchStatus_reads (hp : Pend s m Cmd.dispatchStatus []) :
    exec (.dispatchStatus t m) s = .next (read t m (fun s => .bytes (dispatchStatus s)) s) := by
  rw [exec_dispatchStatus]
  exact serve_length_read hp rfl rfl

end SetPointCommands

/-- Settles O25: admission first, then the place that the apply time gives; one lemma for each event and each other command. -/
theorem setPointRequests : Obligations.SetPointRequests := by
  unfold Obligations.SetPointRequests
  refine ⟨fun t m b s => spSet_decides, fun t m b s => spSet_badLength, ?immediate, ?stopped, ?queued, ?tooLate, ?withinGrace,
    fun t p l s => setpointApply_takesFirst, fun t s => setpointApply_empty, fun t s => dispatchWatchdog_fallsBack,
    fun t s => dispatchWatchdog_once, fun t m b s => spCancel_cancels, fun t m b s => spCancel_stopped,
    fun t m s => spQueueRead_reads, fun t m s => dispatchStatus_reads⟩
  case immediate =>
    intro s q hkind hrun hsource himm
    rw [decidePoint_admitted hkind (by simp [himm]) hrun hsource, placePoint_immediate himm]
    exact applyNow_inTime
  case stopped => exact fun s q hkind hstop himm => decidePoint_stopped hkind (by simp [himm]) hstop
  case queued =>
    intro s q hkind hrun hsource htimed hlead hhorizon hroom
    rw [decidePoint_admitted hkind (fun _ => hhorizon) hrun hsource, placePoint_early htimed hlead]
    exact enqueuePoint_queues hroom
  case tooLate =>
    intro s q hkind hrun hsource htimed hshort hhorizon hlate
    rw [decidePoint_admitted hkind (fun _ => hhorizon) hrun hsource, placePoint_tooLate htimed hshort hlate]
  case withinGrace =>
    intro s q hkind hrun hsource htimed hshort hhorizon hlate hgrace
    rw [decidePoint_admitted hkind (fun _ => hhorizon) hrun hsource, placePoint_withinGrace htimed hshort hgrace hlate]

end Sys2Proof.Machine

namespace Sys2Proof.Machine

/-! ## The state at reset (09 R289; 11 R342, R346; 14 R409; 15 R438; 16 R466; 17 R502, R509, R512; 18 R520) -/

/-- Settles O7: each field of the reset state is evaluated. -/
theorem moreResetValuesOfTheSpec : Obligations.MoreResetValuesOfTheSpec := by
  unfold Obligations.MoreResetValuesOfTheSpec
  decide

end Sys2Proof.Machine

namespace Sys2Proof.Machine

/-! ## What the safety functions read of the state before they act -/

@[simp] theorem siOf_clocked (t : Nat) (s : State) (i : Nat) : siOf (clocked t s) i = siOf s i := rfl

@[simp] theorem siEnabled_clocked (t : Nat) (s : State) (i : Nat) : siEnabled (clocked t s) i = siEnabled s i := rfl

@[simp] theorem cellFitted_clocked (t : Nat) (s : State) (c : Nat) : cellFitted (clocked t s) c = cellFitted s c := rfl

@[simp] theorem bothFailed_clocked (t : Nat) (s : State) : bothFailed (clocked t s) = bothFailed s := rfl

/-- Nothing has been held since no instant. -/
@[simp] theorem heldOpt_none (s : State) (d : Nat) : heldOpt s none d = false := rfl

/-- A current sensor in service is what the state says of both (06 R195). -/
theorem bothFailed_false_of {s : State} (h : s.ctrl.shuntFail = false ∨ s.ctrl.hallFail = false) : bothFailed s = false := by
  rw [bothFailed, Bool.and_eq_false_iff]
  exact h

/-! ## Demands (09 R255, R298) -/

section Demands

variable {code : Nat} {who : Finder} {data : List Int} {s : State}

/-- A cause that is already present demands nothing again. -/
theorem sfDemand_present (hpresent : s.saf.present.contains code = true) : sfDemand code who data s = s := if_pos hpresent

section New

variable (hnew : s.saf.present.contains code = false)
include hnew

theorem sfDemand_running (hrun : stopped s 8 = false) : sfDemand code who data s = tripHeld code who data s :=
  (if_neg (Bool.eq_false_iff.mp hnew)).trans (if_neg (Bool.eq_false_iff.mp hrun))

theorem sfDemand_stopped (hstop : stopped s 8 = true) :
    sfDemand code who data s = record code 3 data (notePresent code s) :=
  (if_neg (Bool.eq_false_iff.mp hnew)).trans (if_pos hstop)

end New

/-- A cause that is an event trips while the safety function runs. -/
theorem sfEvent_running (hrun : stopped s 8 = false) : sfEvent code who data s = trip code who data s :=
  if_neg (Bool.eq_false_iff.mp hrun)

end Demands

/-! ## The demand waves of the two channels (09 R255) -/

section Waves

variable {t held : Nat} {s : State}

section Silent

variable (hheld : us 300 ≤ held) (hdome : s.saf.domeDemand = false)
include hheld hdome

/-- A wave silent for 300 µs concerns Dome until it demands itself. -/
theorem spSilence_judged : ¬(held < us 300 || s.saf.domeDemand) = true := by
  simp [hheld, hdome]

theorem spSilent_trips (hsp : s.saf.spDemand = false) (hrun : stopped s 8 = false) :
    exec (.spSilent t held) s = .next (after t (trip Ev.spSilent .dome []) s) := by
  rw [exec_spSilent]
  exact timed_next ((if_neg (spSilence_judged (s := clocked t s) hheld hdome)).trans
    ((if_neg (Bool.eq_false_iff.mp hsp)).trans (sfEvent_running (s := clocked t s) hrun)))

/-- A wave that the safety processor's own demand has stopped is followed, with its opening. -/
theorem spSilent_follows (hsp : s.saf.spDemand = true) :
    exec (.spSilent t held) s = .next (after t (fun s => domeDemands s.saf.demandAt.isSome s) s) := by
  rw [exec_spSilent]
  exact timed_next ((if_neg (spSilence_judged (s := clocked t s) hheld hdome)).trans (if_pos hsp))

end Silent

theorem spSilent_nothing (h : held < us 300 ∨ s.saf.domeDemand = true) :
    exec (.spSilent t held) s = .next (after t (fun s => s) s) := by
  rw [exec_spSilent]
  exact timed_next (if_pos (by simpa using h))

theorem domeFault_trips (hheld : ms 2 ≤ held) (hnew : s.saf.present.contains Ev.domeFault = false) (hrun : stopped s 8 = false) :
    exec (.domeFault t held) s = .next (after t (tripHeld Ev.domeFault .sp []) s) := by
  rw [exec_domeFault]
  exact timed_next ((if_pos hheld).trans (sfDemand_running (s := clocked t s) hnew hrun))

theorem domeFault_clears (hedge : held < ms 2) :
    exec (.domeFault t held) s = .next (after t (clearPresent Ev.domeFault) s) := by
  rw [exec_domeFault]
  exact timed_next (if_neg (Nat.not_le.mpr hedge))

theorem domeDemand_follows (hdome : s.saf.domeDemand = true) :
    exec (.domeDemand t) s = .next (after t (fun s => spDemands s.saf.domeOpenAt.isSome s) s) := by
  rw [exec_domeDemand]
  exact timed_next (if_pos hdome)

theorem domeDemand_nothing (hdome : s.saf.domeDemand = false) :
    exec (.domeDemand t) s = .next (after t (fun s => s) s) := by
  rw [exec_domeDemand]
  exact timed_next (if_neg (Bool.eq_false_iff.mp hdome))

end Waves

/-! ## The fault loops (09 R261, R262; 02 R66) -/

/-- Writing the loops as they stand changes nothing. -/
theorem fltOpen_same {s : State} {l : List Bool} (h : s.saf.fltOpen = l) : { s with saf.fltOpen := l } = s := by
  subst h
  rfl

section FaultLoops

variable {t loop ma held : Nat} {s : State}

/-- A loop that newly reads open for 40 µs trips at once; the next sweep finds what to record it as. -/
theorem fltLoopOpen_opens (hloop : loop < 2) (hma : ma < 20) (hheld : us 40 ≤ held)
    (hclosed : s.saf.fltOpen.getD loop false = false) :
    exec (.fltLoopOpen t loop ma held) s = .next (after t (fun s =>
      let u := captureEdge (0x0C + loop) false (stampNow s)
        { s with saf.fltOpen := s.saf.fltOpen.set loop true, saf.classify := some s.now }
      if stopped u 8 then notePresent Ev.fltLoop u else tripCore Ev.fltLoop .dome (notePresent Ev.fltLoop u)) s) := by
  rw [exec_fltLoopOpen]
  have hopens : ¬(held < us 40 || (clocked t s).saf.fltOpen.getD loop false) = true := by
    rw [clocked_saf, hclosed]
    simp [hheld]
  exact timed_next ((if_neg (Nat.not_le.mpr hloop)).trans ((if_pos hma).trans (if_neg hopens)))

/-- With neither loop open one that reads closed only clears the cause. -/
theorem fltLoopOpen_staysClosed (hloop : loop < 2) (hma : 20 ≤ ma) (hboth : s.saf.fltOpen = [false, false]) :
    exec (.fltLoopOpen t loop ma held) s = .next (after t (clearPresent Ev.fltLoop) s) := by
  have hfalse : ([false, false] : List Bool).getD loop false = false ∧ [false, false].set loop false = [false, false] := by
    obtain rfl | rfl : loop = 0 ∨ loop = 1 := by omega
    all_goals exact ⟨rfl, rfl⟩
  have hclosed : (clocked t s).saf.fltOpen.getD loop false = false := by rw [clocked_saf, hboth, hfalse.1]
  have hset : (clocked t s).saf.fltOpen.set loop false = [false, false] := by rw [clocked_saf, hboth, hfalse.2]
  rw [exec_fltLoopOpen]
  refine timed_next ((if_neg (Nat.not_le.mpr hloop)).trans ((if_neg (Nat.not_lt.mpr hma)).trans ?_))
  dsimp only
  rw [hclosed, if_neg Bool.false_ne_true, hset]
  exact congrArg (clearPresent Ev.fltLoop) (fltOpen_same (s := clocked t s) hboth)

/-- A loop that was open closes, and the cause clears once none is open. -/
theorem fltLoopOpen_closes (hloop : loop < 2) (hma : 20 ≤ ma) (hopen : s.saf.fltOpen.getD loop false = true) :
    exec (.fltLoopOpen t loop ma held) s = .next (after t (fun s =>
      let u := captureEdge (0x0C + loop) true (stampNow s) s
      let u := { u with saf.fltOpen := u.saf.fltOpen.set loop false,
                        rings.ring := u.rings.ring.modify loop (fun (r : Ring) => { r with loopClosedAt := u.now }) }
      if u.saf.fltOpen.all (! ·) then clearPresent Ev.fltLoop u else u) s) := by
  rw [exec_fltLoopOpen]
  refine timed_next ((if_neg (Nat.not_le.mpr hloop)).trans ((if_neg (Nat.not_lt.mpr hma)).trans ?_))
  dsimp only
  rw [clocked_saf, hopen, if_pos rfl, if_pos rfl]

theorem fltShort_demands (hma : 60 < ma) (hheld : ms 100 ≤ held) :
    exec (.fltShort t loop ma held) s = .next (after t (sfDemand Ev.fltShort .dome [(loop : Int)]) s) := by
  rw [exec_fltShort]
  exact timed_next ((if_neg (Nat.not_le.mpr hma)).trans (if_pos hheld))

theorem fltShort_clears (hma : ma ≤ 60) :
    exec (.fltShort t loop ma held) s = .next (after t (clearPresent Ev.fltShort) s) := by
  rw [exec_fltShort]
  exact timed_next (if_pos hma)

end FaultLoops

/-! ## SF3, SF4, SF8 and SF9 (09 R261, R264, R265, R268, R269) -/

section Functions

variable {t x c a held : Nat} {i : Int} {s : State}

theorem ocFastTrip_trips (hover : prm s Prm.safeOcFast ≤ (i.natAbs : Int)) (hheld : us 10 ≤ held) (hrun : stopped s 8 = false) :
    exec (.ocFastTrip t x i held) s = .next (after t (trip Ev.sf3 .dome [(x : Int), i]) s) := by
  rw [exec_ocFastTrip]
  exact timed_next ((if_pos (Bool.and_eq_true_iff.mpr ⟨decide_eq_true hover, decide_eq_true hheld⟩)).trans
    (sfEvent_running (s := clocked t s) hrun))

theorem ocFastTrip_nothing (h : (i.natAbs : Int) < prm s Prm.safeOcFast ∨ held < us 10) :
    exec (.ocFastTrip t x i held) s = .next (after t (fun s => s) s) := by
  rw [exec_ocFastTrip]
  refine timed_next (if_neg fun hboth => ?_)
  obtain ⟨hover, hheld⟩ := Bool.and_eq_true_iff.mp hboth
  exact h.elim (not_lt.mpr (of_decide_eq_true hover)) (not_lt.mpr (of_decide_eq_true hheld))

/-- A mean over-current that has lasted its time trips while a sensor is in service, and its time runs anew. -/
theorem ocSlowTrip_trips (hsince : s.saf.ocSince = some a) (hlong : a + ms (prmN s Prm.safeOcTime) ≤ max s.now t)
    (hsensor : s.ctrl.shuntFail = false ∨ s.ctrl.hallFail = false) (hrun : stopped s 8 = false) :
    exec (.ocSlowTrip t) s =
      .next (after t (fun s => trip Ev.sf3 .sp [s.saf.iNow] { s with saf.ocSince := none }) s) := by
  have hheld : heldOpt (clocked t s) s.saf.ocSince (ms (prmN s Prm.safeOcTime)) = true := heldOpt_some hsince hlong
  rw [exec_ocSlowTrip]
  exact timed_next ((if_pos (by simp [hheld, bothFailed_false_of hsensor])).trans
    (sfEvent_running (s := { clocked t s with saf.ocSince := none }) hrun))

theorem ocSlowTrip_nothing (hsince : s.saf.ocSince = none) :
    exec (.ocSlowTrip t) s = .next (after t (fun s => s) s) := by
  rw [exec_ocSlowTrip]
  exact timed_next (if_neg (by simp [hsince]))

theorem sf4TAbsent_demands (hfitted : cellFitted s c = true) (habsent : s.saf.tAbsent.getD c none = some a)
    (hlong : a + sec (prmN s Prm.safeTAbsentTime) ≤ max s.now t) :
    exec (.sf4TAbsent t c) s = .next (after t (sfDemand Ev.sf4 .sp [(c : Int)]) s) := by
  have hheld : heldOpt (clocked t s) (s.saf.tAbsent.getD c none) (sec (prmN s Prm.safeTAbsentTime)) = true :=
    heldOpt_some habsent hlong
  rw [exec_sf4TAbsent]
  exact timed_next (if_pos (Bool.and_eq_true_iff.mpr ⟨hfitted, hheld⟩))

section DelayEnd

variable (hdelay : s.saf.sf8 = some (a, i)) (hlong : a + sec (prmN s Prm.sf8Delay) ≤ max s.now t)
include hdelay hlong

/-- The end of the delay is what its input then says: the demand that stands, or the trip that follows all the same. -/
theorem sf8DelayEnd_acts {f : State → State}
    (hf : (if (siOf s 3).a.demand || (siOf s 3).b.demand then sfDemand Ev.sf8 .both [] { clocked t s with saf.sf8 := none }
      else sfEvent Ev.sf8 .both [] { clocked t s with saf.sf8 := none }) = f (clocked t s)) :
    exec (.sf8DelayEnd t) s = .next (after t f s) := by
  rw [exec_sf8DelayEnd]
  apply timed_next
  rw [clocked_saf, hdelay]
  exact (if_neg (Nat.not_lt.mpr hlong)).trans hf

theorem sf8DelayEnd_demands (hinput : (siOf s 3).a.demand = true ∨ (siOf s 3).b.demand = true) :
    exec (.sf8DelayEnd t) s = .next (after t (fun s => sfDemand Ev.sf8 .both [] { s with saf.sf8 := none }) s) :=
  sf8DelayEnd_acts hdelay hlong (if_pos (Bool.or_eq_true_iff.mpr hinput))

theorem sf8DelayEnd_trips (ha : (siOf s 3).a.demand = false) (hb : (siOf s 3).b.demand = false) (hrun : stopped s 8 = false) :
    exec (.sf8DelayEnd t) s = .next (after t (fun s => trip Ev.sf8 .both [] { s with saf.sf8 := none }) s) :=
  sf8DelayEnd_acts hdelay hlong ((if_neg (by simp [ha, hb])).trans
    (sfEvent_running (s := { clocked t s with saf.sf8 := none }) hrun))

end DelayEnd

theorem sf8DelayEnd_nothing (hnone : s.saf.sf8 = none) :
    exec (.sf8DelayEnd t) s = .next (after t (fun s => s) s) := by
  rw [exec_sf8DelayEnd]
  apply timed_next
  rw [clocked_saf, hnone]

theorem sf9Stale_demands (htrigger : sf9Trigger (clocked t s) = true) :
    exec (.sf9Stale t) s = .next (after t (sfDemand Ev.sf9 .sp []) s) := by
  rw [exec_sf9Stale]
  exact timed_next (if_pos htrigger)

theorem sf9Stale_clears (htrigger : sf9Trigger (clocked t s) = false) :
    exec (.sf9Stale t) s = .next (after t (clearPresent Ev.sf9) s) := by
  rw [exec_sf9Stale]
  exact timed_next (if_neg (Bool.eq_false_iff.mp htrigger))

end Functions

/-- Settles O26: what a demand does by the state of the safety function, then one lemma for each outcome of an event. -/
theorem safetyDemands : Obligations.SafetyDemands := by
  unfold Obligations.SafetyDemands
  exact ⟨fun code who data s => sfDemand_running, fun code who data s => sfDemand_stopped,
    fun code who data s => sfDemand_present, fun t held s => spSilent_trips, fun t held s => spSilent_follows,
    fun t held s => spSilent_nothing, fun t held s => domeFault_trips, fun t held s => domeFault_clears,
    fun t s => domeDemand_follows, fun t s => domeDemand_nothing, spDemands_means, domeDemands_means, exec_sweepCheck,
    fun t loop ma held s => fltLoopOpen_opens, fun t loop ma held s => fltLoopOpen_staysClosed,
    fun t loop ma held s => fltLoopOpen_closes, fun t loop ma held s => fltShort_demands,
    fun t loop ma held s => fltShort_clears, fun t x i held s => ocFastTrip_trips, fun t x i held s => ocFastTrip_nothing,
    fun t a s => ocSlowTrip_trips, fun t s => ocSlowTrip_nothing, fun t c a s => sf4TAbsent_demands,
    fun t a i s => sf8DelayEnd_demands, fun t a i s => sf8DelayEnd_trips, fun t s => sf8DelayEnd_nothing,
    fun t s => sf9Stale_demands, fun t s => sf9Stale_clears⟩

end Sys2Proof.Machine

namespace Sys2Proof.Machine

/-! ## The dual-channel inputs (09 R275 to R280) -/

section Inputs

variable {t i a held : Nat} {b : Bool} {s : State}

/-- A channel of an evaluated input that has been at its demand level for 1 ms demands. -/
theorem siChannelDemand_demands (hi : i < 4) (henabled : siEnabled s i = true) (hheld : ms 1 ≤ held)
    (hnew : ((siOf s i).chan b).demand = false) :
    exec (.siChannelDemand t i b held) s = .next (after t (fun s =>
      let lvl := demandLevel s i b
      let stamp := stampAt s (s.now - held)
      channelDemand i b stamp (setSi i (fun x => x.setChan b (fun c => { c with high := lvl }))
        (captureEdge (2 * i + (if b then 1 else 0)) lvl stamp s))) s) := by
  rw [exec_siChannelDemand]
  exact timed_next (if_neg (by simp [hi, henabled, hheld, hnew]))

theorem siChannelDemand_nothing (h : held < ms 1 ∨ ((siOf s i).chan b).demand = true) :
    exec (.siChannelDemand t i b held) s = .next (after t (fun s => s) s) := by
  rw [exec_siChannelDemand]
  exact timed_next (if_pos (by rcases h with h | h <;> simp [h]))

/-- Out of demand for 10 ms a channel releases, and with the second one the input. -/
theorem siChannelRelease_releases (hi : i < 4) (henabled : siEnabled s i = true) (hheld : ms 10 ≤ held)
    (hdemand : ((siOf s i).chan b).demand = true)
    (hfree : ((siOf s i).chan b).wiring = false ∨ (siOf s i).bothDemanded = true) :
    exec (.siChannelRelease t i b held) s = .next (after t (fun s =>
      let lvl := !demandLevel s i b
      let u := captureEdge (2 * i + (if b then 1 else 0)) lvl (stampAt s (s.now - held)) s
      let u := setSi i (fun x => timeDiscrepancy u.now (x.setChan b (fun c => { c with demand := false, high := lvl }))) u
      if !(siOf u i).a.demand && !(siOf u i).b.demand then inputReleased i u else u) s) := by
  rw [exec_siChannelRelease]
  exact timed_next (if_neg (by rcases hfree with h | h <;> simp [hi, henabled, hheld, hdemand, h]))

/-- A wiring fault holds the demand until both channels have demanded. -/
theorem siChannelRelease_heldByFault (hwiring : ((siOf s i).chan b).wiring = true) (hboth : (siOf s i).bothDemanded = false) :
    exec (.siChannelRelease t i b held) s = .next (after t (fun s => s) s) := by
  rw [exec_siChannelRelease]
  exact timed_next (if_pos (by simp [hwiring, hboth]))

/-- Channels that have differed for the discrepancy time less 1 ms latch the input. -/
theorem siDiscrepancy_latches (hi : i < 4) (hsince : (siOf s i).discSince = some a) (hnew : (siOf s i).disc = false)
    (hlong : a + ms (prmN s Prm.siDiscTime - 1) ≤ max s.now t) :
    exec (.siDiscrepancy t i) s = .next (after t (fun s =>
      record (Ev.si1Discrepancy + i) 3 [] (setSi i (fun x => { x with disc := true, bothDemanded := false }) s)) s) := by
  rw [exec_siDiscrepancy]
  apply timed_next
  dsimp only
  rw [siOf_clocked, hsince]
  exact if_pos (by simp [hi, hnew, hlong])

theorem siDiscrepancy_nothing (hsince : (siOf s i).discSince = none) :
    exec (.siDiscrepancy t i) s = .next (after t (fun s => s) s) := by
  rw [exec_siDiscrepancy]
  apply timed_next
  dsimp only
  rw [siOf_clocked, hsince]

end Inputs

/-! ## Test pulses and TRIP-IN (09 R266, R277, R278; 10 R319) -/

/-- A captured edge leaves the functions as they are. -/
@[simp] theorem stopped_captureEdge (src : Nat) (rising : Bool) (stamp : Nat) (s : State) (f : Nat) :
    stopped (captureEdge src rising stamp s) f = stopped s f := by
  unfold captureEdge
  split
  · rfl
  · split <;> rfl

/-- Writing TRIP-IN as it stands changes nothing. -/
theorem tripInOpen_same {s : State} {v : Bool} (h : s.saf.tripInOpen = v) : { s with saf.tripInOpen := v } = s := by
  subst h
  rfl

section PulsesAndTripIn

variable {t ma held : Nat} {s : State}

/-- A pulse goes out, a standby's does not, and each channel is checked against it. -/
theorem tpPulse_checks {tp : Nat} (low : List Bool) (htp : tp < 2) (hmode : s.core.mode ≠ .shelf) (hsupply : s.con.supplyLow = false)
    (hheld : s.thm.held = false) :
    exec (.tpPulse t tp low) s = .next (after t (fun s =>
      eachDo (List.range 8) (fun k => pulseCheck (k / 2) (k % 2 = 1) (k % 2 = tp) (low.getD k false))
        (if s.pair.standby then s else emit (.pulse (if tp = 0 then "TP1" else "TP2") (us 200)) s)) s) := by
  rw [exec_tpPulse]
  exact timed_next (if_neg (by simp [htp, hmode, hsupply, hheld]))

theorem tripInOpen_demands (hma : ma < 20) (hheld : ms 1 ≤ held) (hclosed : s.saf.tripInOpen = false)
    (hrun : stopped s 8 = false) :
    exec (.tripInOpen t ma held) s = .next (after t (fun s =>
      let stamp := stampAt s (s.now - held)
      tripEdge 0x0E stamp Ev.tripInOpen .both [] (captureEdge 0x0E false stamp { s with saf.tripInOpen := true })) s) := by
  have hstill : stopped (captureEdge 0x0E false (stampAt (clocked t s) ((clocked t s).now - held))
      { clocked t s with saf.tripInOpen := true }) 8 = false := (stopped_captureEdge ..).trans hrun
  rw [exec_tripInOpen]
  exact timed_next ((if_neg (Nat.not_le.mpr hma)).trans ((if_neg (by simp [hheld, hclosed])).trans
    (if_neg (Bool.eq_false_iff.mp hstill))))

theorem tripInOpen_staysClosed (hma : 20 ≤ ma) (hclosed : s.saf.tripInOpen = false) :
    exec (.tripInOpen t ma held) s = .next (after t (clearPresent Ev.tripInOpen) s) := by
  rw [exec_tripInOpen]
  refine timed_next ((if_pos hma).trans ?_)
  dsimp only
  rw [clocked_saf, hclosed, if_neg Bool.false_ne_true]
  exact congrArg (clearPresent Ev.tripInOpen) (tripInOpen_same (s := clocked t s) hclosed)

/-- A loop that was open closes, with its edge captured. -/
theorem tripInOpen_closes (hma : 20 ≤ ma) (hopen : s.saf.tripInOpen = true) :
    exec (.tripInOpen t ma held) s = .next (after t (fun s =>
      clearPresent Ev.tripInOpen { captureEdge 0x0E true (stampNow s) s with saf.tripInOpen := false }) s) := by
  rw [exec_tripInOpen]
  refine timed_next ((if_pos hma).trans ?_)
  dsimp only
  rw [clocked_saf, hopen, if_pos rfl]

end PulsesAndTripIn

/-- Settles O27: one lemma for each outcome of a channel, a discrepancy, a test pulse and the TRIP-IN loop. -/
theorem safetyInputs : Obligations.SafetyInputs := by
  unfold Obligations.SafetyInputs
  exact ⟨fun t i b held s => siChannelDemand_demands, fun t i b held s => siChannelDemand_nothing,
    fun t i b held s => siChannelRelease_releases, fun t i b held s => siChannelRelease_heldByFault,
    fun t i a s => siDiscrepancy_latches, fun t i s => siDiscrepancy_nothing, fun t tp low s => tpPulse_checks low,
    fun t ma held s => tripInOpen_demands, fun t ma held s => tripInOpen_staysClosed, fun t ma held s => tripInOpen_closes⟩

end Sys2Proof.Machine

namespace Sys2Proof.Machine

/-! ## The opening in the safe state (09 R259; 10 R315) -/

@[simp] theorem openingFrom_clocked (t : Nat) (s : State) : openingFrom (clocked t s) = openingFrom s := rfl

@[simp] theorem currentLow_clocked (t : Nat) (s : State) : currentLow (clocked t s) = currentLow s := rfl

@[simp] theorem planeOf_clocked (t : Nat) (s : State) (p : Nat) : planeOf (clocked t s) p = planeOf s p := rfl

section Opening

variable {t a : Nat} {s : State}

section Due

variable (hfrom : openingFrom s = some a)
include hfrom

/-- With the current low, or 50 ms after the demand, K3, K4 and K1 open together. -/
theorem safeStateOpen_opens (hfirst : s.saf.spOpened = false) (hdue : currentLow s = true ∨ a + ms 50 ≤ max s.now t) :
    exec (.safeStateOpen t) s = .next (after t (fun s =>
      { openCoil 0 (openCoil 3 (openCoil 2 s)) with saf.spOpened := true, saf.spOpenedAt := s.now }) s) := by
  rw [exec_safeStateOpen]
  apply timed_next
  rw [openingFrom_clocked, hfrom]
  exact if_pos (by simpa [hfirst] using hdue)

theorem safeStateOpen_once (hopened : s.saf.spOpened = true) :
    exec (.safeStateOpen t) s = .next (after t (fun s => s) s) := by
  rw [exec_safeStateOpen]
  apply timed_next
  rw [openingFrom_clocked, hfrom]
  exact if_neg (by simp [hopened])

/-- After the gap, never later than 50 ms after the demand, K2 opens and an orderly opening may end. -/
theorem k2OrderGap_opens (hopened : s.saf.spOpened = true)
    (hdue : s.saf.spOpenedAt + ms (prmN s Prm.kOrderGap) ≤ max s.now t ∨ a + ms 50 ≤ max s.now t) :
    exec (.k2OrderGap t) s = .next (after t (fun s => endOpening (openCoil 1 s)) s) := by
  rw [exec_k2OrderGap]
  apply timed_next
  rw [openingFrom_clocked, hfrom]
  exact if_pos (by simpa [hopened] using hdue)

end Due

theorem k2OrderGap_noOpening (hnone : openingFrom s = none) :
    exec (.k2OrderGap t) s = .next (after t (fun s => s) s) := by
  rw [exec_k2OrderGap]
  apply timed_next
  rw [openingFrom_clocked, hnone]

theorem domeOpen_opens (hdemand : s.saf.domeDemand = true) (hfrom : s.saf.domeOpenAt = some a) (hlong : a + ms 48 ≤ max s.now t) :
    exec (.domeOpen t) s = .next (after t domeOpens s) := by
  have hheld : heldOpt (clocked t s) s.saf.domeOpenAt (ms 48) = true := heldOpt_some hfrom hlong
  rw [exec_domeOpen]
  exact timed_next (if_pos (Bool.and_eq_true_iff.mpr ⟨hdemand, hheld⟩))

theorem domeOpen_nothing (hnone : s.saf.domeOpenAt = none) :
    exec (.domeOpen t) s = .next (after t (fun s => s) s) := by
  rw [exec_domeOpen]
  exact timed_next (if_neg (by simp [hnone]))

end Opening

/-! ## A copy of a safety message (09 R281 to R283) -/

section Copies

variable {pl : Nat} {b : List Byte} {s : State}

/-- A message for another module, or from a sender that is not accepted, changes nothing. -/
theorem takeCopy_notFor (hformed : messageFormed b = true) (hfor : messageFor s b = false) : takeCopy pl b s = (s, false) := by
  unfold takeCopy
  dsimp only
  split
  · rfl
  · rw [if_neg (by simp [hformed]), if_pos (by simp [hfor])]

section Awake

variable (hmode : s.core.mode ≠ .shelf) (hheld : s.thm.held = false)
include hmode hheld

theorem takeCopy_notFormed (hbad : messageFormed b = false) :
    takeCopy pl b s = ({ s with saf.stale := s.saf.stale + 1 }, false) := by
  unfold takeCopy
  dsimp only
  rw [if_neg (by simp [hmode, hheld]), if_pos (by simp [hbad])]

/-- With both planes in use a valid message meets its copy of the other plane: the two must be equal. -/
theorem takeCopy_partner {r : Bool} {c : SafeCopy} (hformed : messageFormed b = true) (hfor : messageFor s b = true)
    (htimely : messageTimely s b = true) (hseq : sequenceTest s (leAt b 2 2) (leAt b 8 4) (leAt b 12 8) = some r)
    (hplanes : s.saf.singlePlane = none) (hcopy : s.saf.copies = [c]) (hsrc : c.src = leAt b 2 2) (hnum : c.seq = leAt b 8 4)
    (hother : c.plane ≠ pl) (hsoon : s.now ≤ c.at_ + ms 2) :
    takeCopy pl b s =
      if c.bytes = b then (acceptMessage b r { s with saf.copies := [] }, true)
      else (record Ev.safeMsgMismatch 3 [(leAt b 2 2 : Int), leAt b 8 4]
        { s with saf.copies := [], saf.mismatch := s.saf.mismatch + 1 }, false) := by
  have hnone : [c].filter (fun c => !(c.src = leAt b 2 2 && c.seq = leAt b 8 4)) = [] := by simp [hsrc, hnum]
  unfold takeCopy
  dsimp only
  rw [if_neg (by simp [hmode, hheld]), if_neg (by simp [hformed]), if_neg (by simp [hfor]), if_neg (by simp [htimely]), hseq]
  dsimp only
  rw [if_neg (by simp [hplanes]), hcopy, List.find?_cons_of_pos (by simp [hsrc, hnum, hother, hsoon])]
  dsimp only
  rw [hnone]

end Awake

end Copies

/-! ## What a safety message does (09 R266, R284, R286) -/

section Messages

variable {t pl type : Nat} {b : List Byte} {act : State → State} {s u : State}

theorem onMessage_accepted (htype : byteAt b 1 = type) (htaken : takeCopy pl b s = (u, true)) :
    onMessage type pl b act s = act u := by
  unfold onMessage
  rw [if_neg (not_not.mpr htype), htaken]
  rfl

/-- A message that is not accepted leaves what its copy left. -/
theorem onMessage_notAccepted (htype : byteAt b 1 = type) (htaken : takeCopy pl b s = (u, false)) :
    onMessage type pl b act s = u := by
  unfold onMessage
  rw [if_neg (not_not.mpr htype), htaken]
  rfl

/-- A message of any type that is not for this module changes nothing. -/
theorem message_notFor (hformed : messageFormed b = true) (hfor : messageFor s b = false) :
    timed t (onMessage type pl b act) s = .next (after t (fun s => s) s) := by
  apply timed_next
  by_cases htype : byteAt b 1 = type
  · exact onMessage_notAccepted htype (takeCopy_notFor (s := clocked t s) hformed hfor)
  · exact if_pos htype

/-- A message of any type that is not formed counts as stale. -/
theorem message_notFormed (hmode : s.core.mode ≠ .shelf) (hheld : s.thm.held = false) (htype : byteAt b 1 = type)
    (hbad : messageFormed b = false) :
    timed t (onMessage type pl b act) s = .next (after t (fun s => { s with saf.stale := s.saf.stale + 1 }) s) :=
  timed_next (onMessage_notAccepted htype (takeCopy_notFormed (s := clocked t s) hmode hheld hbad))

section Accepted

variable (htaken : takeCopy pl b (clocked t s) = (u, true))
include htaken

/-- PLANT_STOP demands, and its master is kept; one for the addressed string alone does not act as a broadcast. -/
theorem plantStop_demands (htype : byteAt b 1 = 1) :
    exec (.plantStop t pl b) s = .next (after t (fun _ =>
      if byteAt b 24 = 1 ∧ leAt b 4 2 = 0xFFFF then u
      else sfDemand Ev.plantStop .sp [(leAt b 2 2 : Int), leAt b 25 2]
        { u with saf.plantStop :=
          if u.saf.plantStop.contains (leAt b 2 2) then u.saf.plantStop else u.saf.plantStop ++ [leAt b 2 2] }) s) := by
  rw [exec_plantStop]
  refine timed_next ((onMessage_accepted htype htaken).trans ?_)
  simp only [Bool.and_eq_true, decide_eq_true_eq]

/-- The demand clears with the release by the last of its masters. -/
theorem plantStopRelease_releases (htype : byteAt b 1 = 2) :
    exec (.plantStopRelease t pl b) s = .next (after t (fun _ =>
      let l := u.saf.plantStop.filter (· ≠ leAt b 2 2)
      if l.isEmpty then clearPresent Ev.plantStop { u with saf.plantStop := l } else { u with saf.plantStop := l }) s) := by
  rw [exec_plantStopRelease]
  exact timed_next (onMessage_accepted htype htaken)

theorem safetyKeepalive_accepted (htype : byteAt b 1 = 3) :
    exec (.safetyKeepalive t pl b) s = .next (after t (fun _ => u) s) := by
  rw [exec_safetyKeepalive]
  exact timed_next (onMessage_accepted htype htaken)

/-- A trip notice of a cause that lies in the string trips. -/
theorem tripNotice_trips (htype : byteAt b 1 = 4) (hplane : pl < 2) (hmode : u.core.mode ≠ .tripped)
    (hcause : insideCause (leAt b 26 2) = false) (hrun : stopped u 8 = false) :
    exec (.tripNotice t pl b) s =
      .next (after t (fun _ => trip Ev.tripNotice .sp [(leAt b 24 2 : Int), leAt b 26 2] u) s) := by
  rw [exec_tripNotice]
  refine timed_next ((if_neg (by omega)).trans ((onMessage_accepted htype htaken).trans ?_))
  exact (if_neg (by simp [hmode, hcause])).trans (sfEvent_running hrun)

end Accepted

/-- A record that is made under a condition takes no time. -/
theorem recordIf_now (c : Bool) (code sev : Nat) (data : List Int) (s : State) :
    (if c then record code sev data s else s).now = s.now := by
  cases c
  · rfl
  · exact record_now ..

/-- A message that is no trip notice restarts the watchdog. -/
theorem acceptMessage_watchAt (r : Bool) (s : State) (htype : byteAt b 1 ≠ 4) : (acceptMessage b r s).saf.watchAt = s.now := by
  unfold acceptMessage
  dsimp only
  rw [if_neg htype]
  exact (recordIf_now ..).trans (recordIf_now ..)

end Messages

/-! ## Orphans, the link and the planes (09 R283 to R285) -/

section Planes

variable {t p : Nat} {s : State}

theorem safeMsgOrphan_counts {src seq : Nat} {c : SafeCopy} (hcopy : s.saf.copies = [c]) (hsrc : c.src = src) (hseq : c.seq = seq)
    (hlate : c.at_ + ms 2 < max s.now t) :
    exec (.safeMsgOrphan t src seq) s =
      .next (after t (fun s => { s with saf.copies := [], saf.orphan := s.saf.orphan + 1 }) s) := by
  rw [exec_safeMsgOrphan]
  apply timed_next
  have hold : s.saf.copies.filter (fun c => c.src = src && c.seq = seq && c.at_ + ms 2 < (clocked t s).now) = [c] := by
    simpa [hcopy, hsrc, hseq] using hlate
  have hrest : [c].filter (fun x => !([c].contains x)) = [] := by simp
  dsimp only
  rw [clocked_saf, hold, hcopy, if_neg (by simp), hrest]
  rfl

theorem safeLinkLost_demands (hlost : linkLost (clocked t s) = true) :
    exec (.safeLinkLost t) s = .next (after t (sfDemand Ev.safeLinkLost .sp []) s) := by
  rw [exec_safeLinkLost]
  exact timed_next (if_pos hlost)

theorem safeLinkLost_nothing (hlinked : linkLost (clocked t s) = false) :
    exec (.safeLinkLost t) s = .next (after t (fun s => s) s) := by
  rw [exec_safeLinkLost]
  exact timed_next (if_neg (Bool.eq_false_iff.mp hlinked))

/-- One plane declared failed for 1 s beside a good one is single-plane operation. -/
theorem singlePlane_begins (hp : p < 2) (hboth : s.saf.singlePlane = none) (hfailed : (planeOf s p).failed = true)
    (hgood : (planeOf s (1 - p)).failed = false) (hlong : (planeOf s p).declaredAt + sec 1 ≤ max s.now t) :
    exec (.singlePlane t p) s = .next (after t (fun s =>
      record Ev.singlePlane 3 [(p : Int)] { s with saf.singlePlane := some p }) s) := by
  rw [exec_singlePlane]
  exact timed_next (if_pos (by simp [hp, hboth, hfailed, hgood, heldFor, hlong]))

/-- 1 s after the plane is declared up again both are in use. -/
theorem matchedCopyReturn_ends (hsingle : s.saf.singlePlane = some p) (hup : (planeOf s p).failed = false)
    (hlong : (planeOf s p).declaredAt + sec 1 ≤ max s.now t) :
    exec (.matchedCopyReturn t) s = .next (after t (fun s => { s with saf.singlePlane := none }) s) := by
  rw [exec_matchedCopyReturn]
  apply timed_next
  dsimp only
  rw [clocked_saf, hsingle]
  exact if_pos (by simp [hup, heldFor, hlong])

theorem matchedCopyReturn_nothing (hboth : s.saf.singlePlane = none) :
    exec (.matchedCopyReturn t) s = .next (after t (fun s => s) s) := by
  rw [exec_matchedCopyReturn]
  apply timed_next
  dsimp only
  rw [clocked_saf, hboth]

end Planes

/-- Settles O28: one lemma for each opening, what a copy comes to, what each type of message does, and the planes. -/
theorem safeOpeningAndMessages : Obligations.SafeOpeningAndMessages := by
  unfold Obligations.SafeOpeningAndMessages
  refine ⟨fun t a s => safeStateOpen_opens, fun t a s => safeStateOpen_once, fun t a s => k2OrderGap_opens,
    fun t s => k2OrderGap_noOpening, fun t a s => domeOpen_opens, fun t s => domeOpen_nothing,
    fun t pl b s => message_notFor, fun t pl b s => message_notFormed, fun t pl b s => message_notFor,
    fun t pl b s => message_notFormed, fun t pl b s => message_notFor, fun t pl b s => message_notFormed, ?stop, ?release,
    ?keepalive, fun b r s => acceptMessage_watchAt r s, ?equal, ?unequal, ?notice, fun t src seq s c => safeMsgOrphan_counts,
    fun t s => safeLinkLost_demands, fun t s => safeLinkLost_nothing, fun t p s => singlePlane_begins,
    fun t p s => matchedCopyReturn_ends, fun t s => matchedCopyReturn_nothing⟩
  case stop => exact fun t pl b s u htype htaken => plantStop_demands htaken htype
  case release => exact fun t pl b s u htype htaken => plantStopRelease_releases htaken htype
  case keepalive => exact fun t pl b s u htype htaken => safetyKeepalive_accepted htaken htype
  case notice => exact fun t pl b s u htype hplane htaken => tripNotice_trips htaken htype hplane
  case equal =>
    intro pl b s r c hmode hheld hformed hfor htimely hseq hplanes hcopy hsrc hnum hother hsoon hsame
    exact (takeCopy_partner hmode hheld hformed hfor htimely hseq hplanes hcopy hsrc hnum hother hsoon).trans (if_pos hsame)
  case unequal =>
    intro pl b s r c hmode hheld hformed hfor htimely hseq hplanes hcopy hsrc hnum hother hsoon hdiffer
    exact (takeCopy_partner hmode hheld hformed hfor htimely hseq hplanes hcopy hsrc hnum hother hsoon).trans (if_neg hdiffer)

end Sys2Proof.Machine

namespace Sys2Proof.Machine

/-! ## SAFE_STATUS, SAFE_COUNTERS and SAFE_RESET (09 R271 to R273, R297; 10 R320) -/

section ResetCommands

variable {t m : Nat} {s : State}

theorem safeStatus_reads (hp : Pend s m Cmd.safeStatus []) : exec (.safeStatus t m) s = .next (read t m safeStatus s) := by
  rw [exec_safeStatus]
  exact serve_length_read hp rfl rfl

/-- The trips of 24 hours and since boot by safety function, the refused messages and the wiring faults. -/
theorem safeCounters_reads (hp : Pend s m Cmd.safeCounters []) :
    exec (.safeCounters t m) s = .next (read t m (fun s =>
      .fields ([("trips 24 h", s.saf.sf.map (fun (f : SfRec) => ((within s (sec 86400) f.trips24h).length : Int))),
        ("trips", s.saf.sf.map (fun (f : SfRec) => (f.tripsBoot : Int))),
        ("messages", [(s.saf.stale : Int), s.saf.mismatch, s.saf.orphan]),
        ("WIRING_FAULT", s.saf.si.flatMap (fun (x : SiInput) => [(x.a.wiringCount : Int), x.b.wiringCount]))])) s) := by
  rw [exec_safeCounters]
  exact serve_length_read hp rfl rfl

theorem safeReset_refused {c : Nat} (hp : Pend s m Cmd.safeReset []) (hblock : resetBlock (begun t m s) = some c) :
    exec (.safeReset t m) s = .next (turnedAway t m (guardReply c) s) := by
  rw [exec_safeReset]
  refine serve_length_guard hp rfl ?_
  unfold begun at hblock
  rw [hblock]

theorem tripOutClosed_started : tripOutClosed (startCommand m (clocked t s)) = tripOutClosed s := rfl

section Free

variable (hp : Pend s m Cmd.safeReset []) (hfree : resetBlock (begun t m s) = none) (hidle : s.saf.recheck = none)
include hp hfree hidle

/-- With TRIP-OUT and TRIP-IN closed and none of their trips latched the reset is done at once. -/
theorem safeReset_atOnce (hout : tripOutClosed s = true) (hin : s.saf.tripInOpen = false)
    (hlatched : s.saf.latched.contains Ev.tripInOpen = false) :
    exec (.safeReset t m) s = .next (ended t m doneReply doReset s) := by
  rw [exec_safeReset]
  refine serve_length_done hp rfl ?_
  unfold begun at hfree
  rw [hfree]
  exact (if_neg (by simp [hidle])).trans (if_pos (by
    rw [tripOutClosed_started, hout, startCommand_saf, clocked_saf, hin, hlatched]
    rfl))

/-- An open TRIP-OUT is closed first, and TRIP-IN is read after that. -/
theorem safeReset_waits (hout : tripOutClosed s = false) :
    exec (.safeReset t m) s = .next (going t m (fun s =>
      { s with saf.tripOutSp := true, saf.tripOutDome := true, saf.recheck := some (s.now, m) }) s) := by
  rw [exec_safeReset]
  refine serve_length_going hp rfl ?_
  unfold begun at hfree
  rw [hfree]
  exact (if_neg (by simp [hidle])).trans (if_neg (by rw [tripOutClosed_started, hout]; simp))

end Free

end ResetCommands

/-! ## TRIP-IN read again (10 R320) -/

section Recheck

variable {t a m c : Nat} {s : State} (hrecheck : s.saf.recheck = some (a, m))
include hrecheck

theorem tripInRecheck_waits (hearly : max s.now t < a + ms 20) :
    exec (.tripInRecheck t) s = .next (after t (fun s => s) s) := by
  have hwaits : (clocked t s).saf.recheck = some (a, m) := hrecheck
  rw [exec_tripInRecheck]
  apply timed_next
  rw [hwaits]
  exact if_pos hearly

section Due

variable (hdue : a + ms 20 ≤ max s.now t)
include hdue

theorem tripInRecheck_blocked (hblock : resetBlock { clocked t s with saf.recheck := none } = some c) :
    exec (.tripInRecheck t) s = .next (after t (fun s =>
      let u := { s with saf.recheck := none }
      finishJob (some m) Cmd.safeReset (guardReply c) u) s) := by
  have hwaits : (clocked t s).saf.recheck = some (a, m) := hrecheck
  rw [exec_tripInRecheck]
  apply timed_next
  rw [hwaits]
  refine (if_neg (Nat.not_lt.mpr hdue)).trans ?_
  dsimp only
  rw [hblock]

variable (hfree : resetBlock { clocked t s with saf.recheck := none } = none)
include hfree

/-- With nothing else in the way the loop as it then reads decides between refusal and reset. -/
theorem tripInRecheck_reads {f : State → State}
    (hf : (if s.saf.tripInOpen then finishJob (some m) Cmd.safeReset (guardReply Ev.tripInOpen) { clocked t s with saf.recheck := none }
      else finishJob (some m) Cmd.safeReset doneReply (doReset { clocked t s with saf.recheck := none })) = f (clocked t s)) :
    exec (.tripInRecheck t) s = .next (after t f s) := by
  have hwaits : (clocked t s).saf.recheck = some (a, m) := hrecheck
  rw [exec_tripInRecheck]
  apply timed_next
  rw [hwaits]
  refine (if_neg (Nat.not_lt.mpr hdue)).trans ?_
  dsimp only
  rw [hfree]
  exact hf

theorem tripInRecheck_open (hopen : s.saf.tripInOpen = true) :
    exec (.tripInRecheck t) s = .next (after t (fun s =>
      let u := { s with saf.recheck := none }
      finishJob (some m) Cmd.safeReset (guardReply Ev.tripInOpen) u) s) :=
  tripInRecheck_reads hrecheck hdue hfree (if_pos hopen)

theorem tripInRecheck_closed (hclosed : s.saf.tripInOpen = false) :
    exec (.tripInRecheck t) s = .next (after t (fun s =>
      let u := { s with saf.recheck := none }
      finishJob (some m) Cmd.safeReset doneReply (doReset u)) s) :=
  tripInRecheck_reads hrecheck hdue hfree (if_neg (Bool.eq_false_iff.mp hclosed))

end Due

end Recheck

/-! ## The reset and the local acknowledgement (09 R271, R272) -/

/-- SAFETY_CEIL is all that its update changes of the safety function. -/
theorem updateCeil_saf (s : State) :
    (updateCeil s).saf =
      { s.saf with ceilChg := (updateCeil s).saf.ceilChg, ceilDis := (updateCeil s).saf.ceilDis } := by
  unfold updateCeil
  dsimp only
  split <;> rfl

/-- A reset ends every latch and demand, releases the gate means as far as the function runs on a loaded set, and goes to Watch. -/
theorem doReset_means (s : State) :
    (doReset s).saf.latched = [] ∧ (doReset s).saf.spDemand = false ∧ (doReset s).saf.domeDemand = false ∧
      (doReset s).saf.gateInhibit = !(s.saf.loaded && running s 8) ∧ (doReset s).saf.demandAt = none ∧
      (doReset s).core.mode = .watch := by
  unfold doReset
  dsimp only
  rw [setMode_saf, setMode_mode, updateCeil_saf, record_saf]
  exact ⟨rfl, rfl, rfl, rfl, rfl, rfl⟩

section Acknowledgement

variable {t a : Nat} {s : State}

theorem localAckExpiry_ends (hack : s.saf.ackAt = some a) (hlong : a + sec 600 ≤ max s.now t) :
    exec (.localAckExpiry t) s = .next (after t (fun s => { s with saf.ackAt := none }) s) := by
  have hheld : heldOpt (clocked t s) s.saf.ackAt (sec 600) = true := heldOpt_some hack hlong
  rw [exec_localAckExpiry]
  exact timed_next (if_pos hheld)

theorem localAckExpiry_nothing (hnone : s.saf.ackAt = none) :
    exec (.localAckExpiry t) s = .next (after t (fun s => s) s) := by
  rw [exec_localAckExpiry]
  exact timed_next (if_neg (by simp [hnone]))

end Acknowledgement

/-! ## Seals (09 R287, R288) -/

section Seals

variable {t n : Nat} {on : Bool} {s : State}

/-- Switch `n` in position `on`. -/
def takeSeal (n : Nat) (on : Bool) (s : State) : State :=
  let m := BitVec.ofNat 8 (2 ^ n)
  { s with saf.sealsNow := if on then s.saf.sealsNow ||| m else s.saf.sealsNow &&& ~~~ m }

/-- A switch that moves is taken; SS5 and SS6 have records of their own, any other is a seal change. -/
theorem sealChanged_taken {f : State → State} (hn : n < 8) (hmoved : s.saf.sealsNow.getLsbD n ≠ on)
    (hf : (if n = 4 then record Ev.ss5 1 [flag on] (takeSeal n on (clocked t s))
      else if n = 5 then record Ev.ss6 1 [flag on] (takeSeal n on (clocked t s))
      else record Ev.sealChanged 6 [((n + 1 : Nat) : Int), flag on]
        { takeSeal n on (clocked t s) with saf.sealChanged := true }) = f (clocked t s)) :
    exec (.sealChanged t n on) s = .next (after t f s) := by
  have hmoves : (s.saf.sealsNow.getLsbD n == on) = false := beq_eq_false_iff_ne.mpr hmoved
  rw [exec_sealChanged]
  exact timed_next ((if_neg (by rw [clocked_saf, hmoves]; simp [hn])).trans hf)

theorem sealChanged_unmoved (hstays : s.saf.sealsNow.getLsbD n = on) :
    exec (.sealChanged t n on) s = .next (after t (fun s => s) s) := by
  rw [exec_sealChanged]
  exact timed_next (if_pos (by simp [hstays]))

end Seals

/-! ## Safety sets (09 R289, R292, R297) -/

section Sets

variable {t m : Nat} {b : List Byte} {s : State}

theorem setOf_started (k : Nat) : setOf (startCommand m (clocked t s)) k = setOf s k := rfl

theorem safeSetRead_reads (hp : Pend s m Cmd.safeSetRead b) (hlen : b.length = 1) (hset : byteAt b 0 ≤ 15) :
    exec (.safeSetRead t m) s = .next (read t m (fun s =>
      let x := setOf s (byteAt b 0)
      .fields [("values", x.vals), ("CRC", [(setCrc x : Int)]), ("confirmed", [flag x.confirmed])]) s) := by
  rw [exec_safeSetRead]
  refine serve_read hp fun r hr _ => ?_
  rw [withLength_met (hr ▸ hlen), hr]
  rw [if_neg (Nat.not_lt.mpr hset)]
  rfl

section Confirm

variable (hp : Pend s m Cmd.safeSetConfirm b) (hlen : b.length = 5) (hset : byteAt b 0 ≤ 15)
include hp hlen hset

/-- A set is confirmed by the CRC of its values. -/
theorem safeSetConfirm_confirms (hcrc : leAt b 1 4 = setCrc (setOf s (byteAt b 0))) :
    exec (.safeSetConfirm t m) s = .next (ended t m doneReply (fun s =>
      { s with saf.sets := s.saf.sets.modify (byteAt b 0) (fun x => { x with confirmed := true }) }) s) := by
  rw [exec_safeSetConfirm]
  refine serve_ended hp fun r hr _ => ?_
  rw [withLength_met (hr ▸ hlen), hr]
  dsimp only
  rw [setOf_started, if_neg (Nat.not_lt.mpr hset), if_neg (not_not.mpr hcrc)]
  rfl

theorem safeSetConfirm_wrongCrc (hcrc : leAt b 1 4 ≠ setCrc (setOf s (byteAt b 0))) :
    exec (.safeSetConfirm t m) s = .next (turnedAway t m (argReply Cmd.safeSetConfirm 1) s) := by
  rw [exec_safeSetConfirm]
  refine serve_turned hp fun r hr hcmd => ?_
  rw [withLength_met (hr ▸ hlen), hr, hcmd]
  dsimp only
  rw [setOf_started, if_neg (Nat.not_lt.mpr hset), if_pos hcrc]
  rfl

end Confirm

end Sets

/-- Settles O29: one lemma for each outcome of a command and of the second reading, what a reset leaves, and the seals. -/
theorem safetyResetAndSets : Obligations.SafetyResetAndSets := by
  unfold Obligations.SafetyResetAndSets
  refine ⟨fun t m s => safeStatus_reads, fun t m s => safeCounters_reads, fun t m c s => safeReset_refused,
    fun t m s => safeReset_atOnce, fun t m s => safeReset_waits, fun t a m s => tripInRecheck_waits,
    fun t a m c s => tripInRecheck_blocked, fun t a m s => tripInRecheck_open, fun t a m s => tripInRecheck_closed,
    doReset_means, fun t a s => localAckExpiry_ends, fun t s => localAckExpiry_nothing, ?other, ?ss5, ?ss6,
    fun t n on s => sealChanged_unmoved, fun t m b s => safeSetRead_reads, fun t m b s => safeSetConfirm_confirms,
    fun t m b s => safeSetConfirm_wrongCrc⟩
  case other =>
    intro t n on s hn hmoved h4 h5
    exact sealChanged_taken hn hmoved ((if_neg h4).trans (if_neg h5))
  case ss5 => exact fun t on s hmoved => sealChanged_taken (by decide) hmoved (if_pos rfl)
  case ss6 => exact fun t on s hmoved => sealChanged_taken (by decide) hmoved ((if_neg (by decide)).trans (if_pos rfl))

end Sys2Proof.Machine

namespace Sys2Proof.Machine

/-! ## What the contactors' events read of the state before they act (10 R300 to R316) -/

@[simp] theorem coil_clocked (t : Nat) (s : State) (n : Nat) : coil (clocked t s) n = coil s n := rfl

@[simp] theorem pulseConfirmed_clocked (t : Nat) (s : State) (p : OutPulse) (mv ma : Nat) :
    pulseConfirmed (clocked t s) p mv ma = pulseConfirmed s p mv ma := rfl

/-- What a change of a coil leaves alone reads as before, for an output that the state does not hold too. -/
theorem coil_setCoil_unchanged {α : Type} (field : CoilOut → α) {g : CoilOut → CoilOut} (hg : ∀ c, field (g c) = field c)
    (n : Nat) (s : State) : field (coil (setCoil n g s) n) = field (coil s n) := by
  unfold coil setCoil
  rw [List.getD_eq_getElem?_getD, List.getD_eq_getElem?_getD, List.getElem?_modify_eq]
  cases s.con.k[n]? with
  | none => rfl
  | some c => exact hg c

/-! ## Auxiliary feedback (10 R302 to R304) -/

section Feedback

variable {t n held : Nat} {lv : Bool} {vs vl : Int} {j : ConnJob} {s : State}

/-- A contact that comes to read `closed` is captured and noted, then a Connect or an opening goes on. -/
def takeFeedback (n : Nat) (lv : Bool) (vs vl : Int) (closed : Bool) (s : State) : State :=
  let u := captureEdge (0x08 + n) lv (stampNow s) { s with con.vStr := vs, con.vLnk := vl }
  let u := setCoil n (fun c => { c with kf := closed, kfStamp := stampNow u }) u
  endOpening (advance (if closed then kfClosed n u else kfOpened n u))

/-- The level and KF_POLARITY say what the contact reads; only a change is an edge. -/
theorem kfEdge_takes {closed : Bool} (hn : n < 4) (hlevel : (lv != bitOf (prmN s Prm.kfPolarity) n) = closed)
    (hchange : (coil s n).kf ≠ closed) :
    exec (.kfEdge t n lv vs vl) s = .next (after t (takeFeedback n lv vs vl closed) s) := by
  subst hlevel
  have hmoves : ((coil s n).kf == (lv != bitOf (prmN s Prm.kfPolarity) n)) = false := beq_eq_false_iff_ne.mpr hchange
  rw [exec_kfEdge]
  exact timed_next ((if_neg (Nat.not_le.mpr hn)).trans (if_neg (Bool.eq_false_iff.mp hmoves)))

section Dropout

variable (hchecked : kfUnchecked s n = false) (hactive : s.pair.standby = false) (hheld : ms 5 ≤ held)
  (hrequest : (coil s n).request = true) (hconfirmed : (coil s n).confirmed = true) (hopen : (coil s n).kf = false)
  (hboth : (coil s n).hs = (coil s n).ls)
include hchecked hactive hheld hrequest hconfirmed hopen hboth

/-- A requested and confirmed contactor that has read open for 5 ms is judged. -/
theorem kDropout_judged :
    ¬(kfUnchecked s n || s.pair.standby || decide (held < ms 5) || !((coil s n).request && (coil s n).confirmed) || (coil s n).kf ||
      ((coil s n).pulse.isNone && (coil s n).hs != (coil s n).ls)) = true := by
  simp [hchecked, hactive, hheld, hrequest, hconfirmed, hopen, hboth]

theorem kDropout_trips (hmain : n ≠ 2) :
    exec (.kDropout t n held) s = .next (after t (fun s =>
      tripEdge (0x08 + n) (coil s n).kfStamp Ev.kDropout .sp [((n + 1 : Nat) : Int)] s) s) := by
  rw [exec_kDropout]
  exact timed_next ((if_neg (kDropout_judged hchecked hactive hheld hrequest hconfirmed hopen hboth)).trans (if_neg hmain))

end Dropout

/-- K3 counts in its precharge only, where it ends the Connect. -/
theorem kDropout_endsPrecharge (hchecked : kfUnchecked s 2 = false) (hactive : s.pair.standby = false) (hheld : ms 5 ≤ held)
    (hrequest : (coil s 2).request = true) (hconfirmed : (coil s 2).confirmed = true) (hopen : (coil s 2).kf = false)
    (hboth : (coil s 2).hs = (coil s 2).ls) (hconn : s.con.conn = some j) (hstep : j.step = .precharge) :
    exec (.kDropout t 2 held) s = .next (after t (connFail Ev.kDropout [3]) s) := by
  rw [exec_kDropout]
  refine timed_next ((if_neg (kDropout_judged hchecked hactive hheld hrequest hconfirmed hopen hboth)).trans ?_)
  rw [if_pos rfl, clocked_con, hconn]
  exact if_pos (beq_iff_eq.mpr hstep)

/-- Neither a short opening, nor a closed contact, nor an output of which one channel has opened its switch. -/
theorem kDropout_nothing
    (h : held < ms 5 ∨ (coil s n).kf = true ∨ (coil s n).pulse = none ∧ (coil s n).hs ≠ (coil s n).ls) :
    exec (.kDropout t n held) s = .next (after t (fun s => s) s) := by
  rw [exec_kDropout]
  refine timed_next (if_pos ?_)
  obtain hshort | hclosed | ⟨hpulse, hone⟩ := h
  · simp [hshort]
  · simp [hclosed]
  · simp [hpulse, hone]

section FailClose

variable (hchecked : kfUnchecked s n = false) (hrequest : (coil s n).request = true) (hwaits : (coil s n).confirmed = false)
  (hopen : (coil s n).kf = false) (hlate : (coil s n).onAt + ms (prmN s Prm.kfCloseTime) ≤ max s.now t)
include hchecked hrequest hwaits hopen hlate

/-- A requested contactor that reads open KF_CLOSE_TIME after it was energised is judged. -/
theorem kFailClose_judged :
    ¬(kfUnchecked s n || !(coil s n).request || (coil s n).confirmed || (coil s n).kf ||
      decide (max s.now t < (coil s n).onAt + ms (prmN s Prm.kfCloseTime))) = true := by
  rw [decide_eq_false (Nat.not_lt.mpr hlate)]
  simp [hchecked, hrequest, hwaits, hopen]

theorem kFailClose_endsConnect (hconn : s.con.conn.isSome = true) :
    exec (.kFailClose t n) s = .next (after t (connFail Ev.kFailClose [((n + 1 : Nat) : Int)]) s) := by
  rw [exec_kFailClose]
  exact timed_next ((if_neg (kFailClose_judged hchecked hrequest hwaits hopen hlate)).trans (if_pos hconn))

theorem kFailClose_records (hconn : s.con.conn = none) :
    exec (.kFailClose t n) s = .next (after t (record Ev.kFailClose 3 [((n + 1 : Nat) : Int)]) s) := by
  rw [exec_kFailClose]
  exact timed_next ((if_neg (kFailClose_judged hchecked hrequest hwaits hopen hlate)).trans (if_neg (by simp [hconn])))

end FailClose

section Weld

variable (hchecked : kfUnchecked s n = false) (hchecks : checksContactors s = true) (hnew : (coil s n).welded = false)
  (hrequest : (coil s n).request = false) (hoff : energised (coil s n) = false) (hclosed : (coil s n).kf = true)
include hchecked hchecks hnew hrequest hoff hclosed

/-- A contactor that nothing holds and that reads closed is judged, once. -/
theorem kWelded_judged :
    ¬(kfUnchecked s n || !checksContactors s || (coil s n).welded || (coil s n).request || energised (coil s n) ||
      !(coil s n).kf) = true := by
  simp [hchecked, hchecks, hnew, hrequest, hoff, hclosed]

theorem kWelded_trips (hever : (coil s n).ever = true)
    (hlate : (coil s n).offAt + ms (prmN s Prm.kfOpenTime) ≤ max s.now t) :
    exec (.kWelded t n held) s = .next (after t (fun s =>
      tripHeld Ev.kWelded .sp [((n + 1 : Nat) : Int)] (setCoil n (fun c => { c with welded := true }) s)) s) := by
  rw [exec_kWelded]
  exact timed_next ((if_neg (kWelded_judged hchecked hchecks hnew hrequest hoff hclosed)).trans
    ((if_pos hever).trans (if_pos hlate)))

/-- One never energised since boot is only recorded while no other contactor is closed. -/
theorem kWelded_records (hever : (coil s n).ever = false) (hheld : ms 5 ≤ held) (halone : otherClosed s n = false) :
    exec (.kWelded t n held) s = .next (after t (fun s =>
      record Ev.kWelded 3 [((n + 1 : Nat) : Int)] (setCoil n (fun c => { c with welded := true }) s)) s) := by
  rw [exec_kWelded]
  exact timed_next ((if_neg (kWelded_judged hchecked hchecks hnew hrequest hoff hclosed)).trans
    ((if_neg (Bool.eq_false_iff.mp hever)).trans
      ((if_neg (Nat.not_lt.mpr hheld)).trans (if_neg (Bool.eq_false_iff.mp halone)))))

end Weld

end Feedback

/-! ## Coil drivers (10 R300, R301) -/

section Drivers

variable {t n ma mv held : Nat} {s : State}

theorem kPullinEnd_ends (hpull : (coil s n).pullIn = true) (hdue : (coil s n).onAt + ms (prmN s Prm.kPullin) ≤ max s.now t) :
    exec (.kPullinEnd t n) s =
      .next (after t (fun s => advance (setCoil n (fun c => { c with pullIn := false }) s)) s) := by
  rw [exec_kPullinEnd]
  exact timed_next (if_pos (Bool.and_eq_true_iff.mpr ⟨hpull, decide_eq_true hdue⟩))

/-- At 6 A for 1 ms both switches open, once, and the command stays. -/
theorem outputOvercurrent_opens (hn : n < 4) (hover : 6000 ≤ ma) (hheld : ms 1 ≤ held) (hnew : (coil s n).overcurrent = false) :
    exec (.outputOvercurrent t n ma held) s = .next (after t (fun s =>
      let u := setCoil n (fun c => { c with coilMa := ma }) s
      setCoil n (fun c => { c with request := (coil s n).request, overcurrent := true })
        (openCoil n (record Ev.outputOvercurrent 4 [((n + 1 : Nat) : Int)] u))) s) := by
  rw [exec_outputOvercurrent]
  apply timed_next
  have hlatch := coil_setCoil_unchanged (·.overcurrent) (g := fun c => { c with coilMa := ma }) (fun _ => rfl) n (clocked t s)
  have hcommand := coil_setCoil_unchanged (·.request) (g := fun c => { c with coilMa := ma }) (fun _ => rfl) n (clocked t s)
  dsimp only at hlatch hcommand ⊢
  rw [hlatch, hcommand, if_neg (by simp [Nat.not_le.mpr hn, Nat.not_lt.mpr hover, Nat.not_lt.mpr hheld, hnew])]
  rfl

theorem outputOvercurrent_notes (hunder : ma < 6000) :
    exec (.outputOvercurrent t n ma held) s = .next (after t (setCoil n (fun c => { c with coilMa := ma })) s) := by
  rw [exec_outputOvercurrent]
  exact timed_next (if_pos (by simp [hunder]))

/-- A hold current below 50 mA for 100 ms is recorded once. -/
theorem coilOpen_records (hn : n < 4)
    (hdriven : driven (coil (setCoil n (fun c => { c with coilMa := ma }) s) n) = true)
    (hhold : (coil (setCoil n (fun c => { c with coilMa := ma }) s) n).pullIn = false)
    (hnew : (coil (setCoil n (fun c => { c with coilMa := ma }) s) n).coilOpen = false) (hlow : ma < 50) (hheld : ms 100 ≤ held) :
    exec (.coilOpen t n ma held) s = .next (after t (fun s =>
      record Ev.coilOpen 3 [((n + 1 : Nat) : Int)]
        (setCoil n (fun c => { c with coilOpen := true }) (setCoil n (fun c => { c with coilMa := ma }) s))) s) := by
  have hread : coil (setCoil n (fun c => { c with coilMa := ma }) (clocked t s)) n =
      coil (setCoil n (fun c => { c with coilMa := ma }) s) n := rfl
  rw [exec_coilOpen]
  apply timed_next
  dsimp only
  rw [hread, if_neg (by simp [hn, hdriven, hhold]), if_neg (Nat.not_le.mpr hlow), if_neg (by simp [hheld, hnew])]
  rfl

theorem coilSupplyLow_gatesOff (hlow : mv < 18000) (hheld : ms 10 ≤ held) (hnew : s.con.supplyLow = false) :
    exec (.coilSupplyLow t mv held) s = .next (after t (fun s =>
      gatesOff Ev.coilSupplyLow (record Ev.coilSupplyLow 4 [(mv : Int)] { s with con.supplyLow := true })) s) := by
  rw [exec_coilSupplyLow]
  exact timed_next ((if_neg (Nat.not_le.mpr hlow)).trans (if_neg (by simp [hheld, hnew])))

theorem coilSupplyLow_returns (hgood : 18000 ≤ mv) :
    exec (.coilSupplyLow t mv held) s = .next (after t (fun s => { s with con.supplyLow := false }) s) := by
  rw [exec_coilSupplyLow]
  exact timed_next (if_pos hgood)

end Drivers

/-! ## Output tests (10 R305 to R308) -/

section OutputTests

variable {t n mv ma a b : Nat} {p : OutPulse} {s : State}

theorem outputTestPulse_nothing (h : pulseBarred (clocked t s) n = true ∨ atSlot (clocked t s) n = false) :
    exec (.outputTestPulse t n) s = .next (after t (fun s => s) s) := by
  rw [exec_outputTestPulse]
  exact timed_next (if_pos (by simpa using h))

section Slot

variable (hfree : pulseBarred (clocked t s) n = false) (hslot : atSlot (clocked t s) n = true)
include hfree hslot

theorem outputTestPulse_runs : ¬(pulseBarred (clocked t s) n || !atSlot (clocked t s) n) = true := by
  simp [hfree, hslot]

/-- A closed output gets an off-pulse: the switch of this TAI second opens. -/
theorem outputTestPulse_off (hhs : (coil s n).hs = true) (hls : (coil s n).ls = true) :
    exec (.outputTestPulse t n) s = .next (after t (fun s =>
      let high := decide (stampNow s / 2 ^ 32 % 2 = 0)
      setCoil n (fun c => { c with hs := c.hs && !high, ls := c.ls && high, pulse := some ⟨high, true, s.now⟩ }) s) s) := by
  rw [exec_outputTestPulse]
  exact timed_next ((if_neg (outputTestPulse_runs hfree hslot)).trans (if_pos (Bool.and_eq_true_iff.mpr ⟨hhs, hls⟩)))

/-- An open output that nothing demands or holds closed gets an on-pulse. -/
theorem outputTestPulse_on (hhs : (coil s n).hs = false) (hls : (coil s n).ls = false) (hrequest : (coil s n).request = false)
    (hsp : s.saf.spDemand = false) (hdome : s.saf.domeDemand = false) (hfaultHs : (coil s n).faultHs = false)
    (hfaultLs : (coil s n).faultLs = false) :
    exec (.outputTestPulse t n) s = .next (after t (fun s =>
      let high := decide (stampNow s / 2 ^ 32 % 2 = 0)
      setCoil n (fun c => { c with hs := high, ls := !high, pulse := some ⟨high, false, s.now⟩ }) s) s) := by
  rw [exec_outputTestPulse]
  exact timed_next ((if_neg (outputTestPulse_runs hfree hslot)).trans
    ((if_neg (by simp [hhs])).trans (if_neg (by simp [hhs, hls, hrequest, hsp, hdome, hfaultHs, hfaultLs]))))

end Slot

section PulseEnd

variable (hpulse : (coil s n).pulse = some p)
include hpulse

/-- A pulse confirmed within its limit has passed. -/
theorem outputPulseEnd_passes (hintime : max s.now t ≤ p.since + (if p.off then us 200 else us 50))
    (hconfirmed : pulseConfirmed s p mv ma = true) :
    exec (.outputPulseEnd t n mv ma) s = .next (after t (setCoil n (fun c => countPulse p true (discardPulse c))) s) := by
  rw [exec_outputPulseEnd]
  apply timed_next
  rw [coil_clocked, hpulse]
  dsimp only
  rw [pulseConfirmed_clocked, hconfirmed, clocked_now, decide_eq_true hintime]
  rfl

/-- A pulse that reaches its end unconfirmed has failed, which is recorded; two failed off-pulses in a row trip. -/
theorem outputPulseEnd_fails (hover : p.since + (if p.off then us 300 else us 100) ≤ max s.now t)
    (hunconfirmed : pulseConfirmed s p mv ma = false) :
    exec (.outputPulseEnd t n mv ma) s = .next (after t (fun s =>
      let u := record Ev.outputTestFail 3 [((n + 1 : Nat) : Int), flag p.high]
        (setCoil n (fun c => countPulse p false (discardPulse c)) s)
      if p.off && 2 ≤ offFailures p (coil u n) then trip Ev.outputSwitchFault .sp [((n + 1 : Nat) : Int), flag p.high] u else u)
      s) := by
  rw [exec_outputPulseEnd]
  apply timed_next
  rw [coil_clocked, hpulse]
  dsimp only
  rw [pulseConfirmed_clocked, hunconfirmed, clocked_now, decide_eq_false (Nat.not_lt.mpr hover)]
  rfl

/-- A failed on-pulse never trips. -/
theorem outputPulseEnd_onFails (hon : p.off = false) (hover : p.since + us 100 ≤ max s.now t)
    (hunconfirmed : pulseConfirmed s p mv ma = false) :
    exec (.outputPulseEnd t n mv ma) s = .next (after t (fun s =>
      record Ev.outputTestFail 3 [((n + 1 : Nat) : Int), flag p.high]
        (setCoil n (fun c => countPulse p false (discardPulse c)) s)) s) := by
  rw [outputPulseEnd_fails hpulse (by simpa [hon] using hover) hunconfirmed, hon]
  rfl

theorem outputPulseEnd_offFails (hoff : p.off = true) (hover : p.since + us 300 ≤ max s.now t)
    (hunconfirmed : pulseConfirmed s p mv ma = false) :
    exec (.outputPulseEnd t n mv ma) s = .next (after t (fun s =>
      let u := record Ev.outputTestFail 3 [((n + 1 : Nat) : Int), flag p.high]
        (setCoil n (fun c => countPulse p false (discardPulse c)) s)
      if 2 ≤ offFailures p (coil u n) then trip Ev.outputSwitchFault .sp [((n + 1 : Nat) : Int), flag p.high] u else u) s) := by
  rw [outputPulseEnd_fails hpulse (by simpa [hoff] using hover) hunconfirmed, hoff]
  simp only [Bool.true_and, decide_eq_true_eq]

end PulseEnd

section SwitchFault

variable (hn : n < 4) (hhs : (coil s n).hs = false) (hls : (coil s n).ls = false) (hidle : (coil s n).pulse = none)
include hn hhs hls hidle

/-- The nodes of an output are judged while both its switches are commanded open and no pulse runs. -/
theorem outputSwitchFault_judged :
    ¬(decide (4 ≤ n) || (coil s n).hs || (coil s n).ls || (coil s n).pulse.isSome) = true := by
  simp [hn, hhs, hls, hidle]

theorem outputSwitchFault_clears (ha : 12000 ≤ a) (hb : 12000 ≤ b) :
    exec (.outputSwitchFault t n a b) s =
      .next (after t (setCoil n (fun c => { c with faultHs := false, faultLs := false })) s) := by
  rw [exec_outputSwitchFault]
  exact timed_next ((if_neg (outputSwitchFault_judged hn hhs hls hidle)).trans
    (if_pos (Bool.and_eq_true_iff.mpr ⟨decide_eq_true ha, decide_eq_true hb⟩)))

/-- A high-side node that newly reads closed is recorded with what the low-side one reads. -/
theorem outputSwitchFault_records (ha : a ≤ 2000) (hnew : (coil s n).faultHs = false) :
    exec (.outputSwitchFault t n a b) s = .next (after t (fun s =>
      record Ev.outputSwitchFault 3 [((n + 1 : Nat) : Int), flag true, flag (decide (b ≤ 2000))]
        (setCoil n (fun c => { c with faultHs := c.faultHs || true, faultLs := c.faultLs || decide (b ≤ 2000) }) s)) s) := by
  have hclosed : decide (a ≤ 2000) = true := decide_eq_true ha
  have hnotOpen : ¬12000 ≤ a := by omega
  rw [exec_outputSwitchFault]
  refine timed_next ((if_neg (outputSwitchFault_judged hn hhs hls hidle)).trans ((if_neg (by simp [hnotOpen])).trans ?_))
  rw [hclosed]
  exact if_pos (by simp [hnew])

end SwitchFault

end OutputTests

/-- Settles O30: one lemma for each outcome of an edge, of a feedback that is late or stays, of a coil's current, and of a test
pulse. -/
theorem contactorFeedback : Obligations.ContactorFeedback := by
  unfold Obligations.ContactorFeedback
  refine ⟨?closes, ?opens, fun t n held s => kDropout_trips, fun t held j s => kDropout_endsPrecharge,
    fun t n held s => kDropout_nothing, fun t n s => kFailClose_endsConnect, fun t n s => kFailClose_records,
    fun t n held s => kWelded_trips, fun t n held s => kWelded_records, fun t n s => kPullinEnd_ends,
    fun t n ma held s => outputOvercurrent_opens, fun t n ma held s _ => outputOvercurrent_notes,
    fun t n ma held s => coilOpen_records, fun t mv held s => coilSupplyLow_gatesOff,
    fun t mv held s => coilSupplyLow_returns, fun t n s => outputTestPulse_nothing, fun t n s => outputTestPulse_off,
    fun t n s => outputTestPulse_on, ?passes, fun t n mv ma p s => outputPulseEnd_onFails,
    fun t n mv ma p s => outputPulseEnd_offFails, fun t n a b s => outputSwitchFault_clears,
    fun t n a b s => outputSwitchFault_records⟩
  case closes =>
    intro t n lv vs vl s hn hlevel hopen
    exact kfEdge_takes (closed := true) hn (bne_iff_ne.mpr hlevel) (by simp [hopen])
  case opens =>
    intro t n lv vs vl s hn hlevel hclosed
    exact kfEdge_takes (closed := false) hn (bne_eq_false_iff_eq.mpr hlevel) (by simp [hclosed])
  case passes =>
    intro t n mv ma p s hpulse hoff hintime hconfirmed
    exact outputPulseEnd_passes hpulse (by simpa [hoff] using hintime) hconfirmed

end Sys2Proof.Machine

namespace Sys2Proof.Machine

/-! ## CONNECT and DISCONNECT (10 R309, R314, R316) -/

section Commands

variable {t m : Nat} {vs vl : Int} {b : List Byte} {g : Reply} {s : State}

section Begun

variable (hp : Pend s m Cmd.connect b) (hlen : b.length = 1)
include hp hlen

section Target

variable (htarget : byteAt b 0 = 4 ∨ byteAt b 0 = 5)
include htarget

/-- A refused CONNECT names its first failing guard and the time until an attempt would be admitted. -/
theorem connect_refused (hblock : connectBlock { (begun t m s) with con.vStr := vs, con.vLnk := vl } = some g) :
    exec (.connect t m vs vl) s = .next (going t m (fun s =>
      let u := { s with con.vStr := vs, con.vLnk := vl }
      giveAnswer m (.ends { g with payload := .fields [("time until admitted", [(admitTime u : Int)])] }) u) s) := by
  rw [exec_connect]
  refine serve_going hp fun r hr _ => ?_
  unfold begun at hblock
  unfold connectHandler
  rw [withLength_met (hr ▸ hlen), hr]
  dsimp only
  rw [if_neg (by simpa using or_iff_not_imp_left.mp htarget), hblock]
  rfl

theorem connect_begins (hfree : connectBlock { (begun t m s) with con.vStr := vs, con.vLnk := vl } = none) :
    exec (.connect t m vs vl) s = .next (going t m (fun s =>
      beginConnect (byteAt b 0 = 4) (some m) { s with con.vStr := vs, con.vLnk := vl }) s) := by
  rw [exec_connect]
  refine serve_going hp fun r hr _ => ?_
  unfold begun at hfree
  unfold connectHandler
  rw [withLength_met (hr ▸ hlen), hr]
  dsimp only
  rw [if_neg (by simpa using or_iff_not_imp_left.mp htarget), hfree]
  rfl

end Target

/-- CONNECT ends in Run or in Hold, no other mode. -/
theorem connect_badTarget (hrun : byteAt b 0 ≠ 4) (hhold : byteAt b 0 ≠ 5) :
    exec (.connect t m vs vl) s = .next (going t m (fun s =>
      answerNow m (argReply Cmd.connect 0) { s with con.vStr := vs, con.vLnk := vl }) s) := by
  rw [exec_connect]
  refine serve_going hp fun r hr hcmd => ?_
  unfold connectHandler
  rw [withLength_met (hr ▸ hlen), hr, hcmd]
  dsimp only
  rw [if_pos (by simp [hrun, hhold])]
  rfl

end Begun

section Disconnect

variable (hp : Pend s m Cmd.disconnect [])
include hp

theorem disconnect_begins (hnone : s.con.opening = none) (hidle : s.disp.ending = 0) :
    exec (.disconnect t m) s = .next (going t m (fun s => beginOpening (some m) 0 s) s) := by
  rw [exec_disconnect]
  exact serve_length_going hp rfl (if_neg (by simp [hnone, hidle]))

/-- One orderly end runs at a time. -/
theorem disconnect_busy (hruns : s.con.opening ≠ none ∨ s.disp.ending ≠ 0) :
    exec (.disconnect t m) s = .next (turnedAway t m (guardReply Ev.functionBusy) s) := by
  rw [exec_disconnect]
  refine serve_length_guard hp rfl (if_pos ?_)
  simp only [Bool.or_eq_true, decide_eq_true_eq, Option.isSome_iff_ne_none]
  exact hruns

end Disconnect

end Commands

/-! ## The precharge (10 R310, R311, R313) -/

section Precharge

variable {t : Nat} {vs vl : Int} {j : ConnJob} {s : State}

/-- The fraction closed at half a time constant, noted in the Connect and in its attempt. -/
def noteHalfTau (j : ConnJob) (vl : Int) (s : State) : State :=
  setConn (fun k => { k with half := true, gHalf := some (fractionClosed j vl) })
    { s with con.vLnk := vl,
             con.attempt := s.con.attempt.map (fun (a : PreAttempt) => { a with gHalf := some (fractionClosed j vl) }) }

/-- The same at three time constants. -/
def noteThreeTau (j : ConnJob) (vl : Int) (s : State) : State :=
  setConn (fun k => { k with gThree := some (fractionClosed j vl) })
    { s with con.vLnk := vl,
             con.attempt := s.con.attempt.map (fun (a : PreAttempt) => { a with gThree := some (fractionClosed j vl) }) }

section Job

variable (hconn : s.con.conn = some j) (hstep : j.step = .precharge)
include hconn hstep

section HalfTau

variable (hfirst : j.half = false) (hdue : j.origin + preTau s / 2 ≤ max s.now t)
include hfirst hdue

theorem prechargeHalfTau_judges :
    exec (.prechargeHalfTau t vl) s = .next (after t (fun s =>
      if fractionAtLeast j vl 25 then noteHalfTau j vl s
      else connFail (if fractionAtLeast j vl 5 then Ev.prechargeSlow else Ev.prechargeShort) [fractionClosed j vl]
        (noteHalfTau j vl s)) s) := by
  have hjudged : ¬(j.step != .precharge || j.half || decide (max s.now t < j.origin + preTau s / 2)) = true := by
    rw [decide_eq_false (Nat.not_lt.mpr hdue)]
    simp [hstep, hfirst]
  rw [exec_prechargeHalfTau]
  apply timed_next
  rw [clocked_con, hconn]
  exact if_neg hjudged

theorem prechargeHalfTau_passes (henough : fractionAtLeast j vl 25 = true) :
    exec (.prechargeHalfTau t vl) s = .next (after t (noteHalfTau j vl) s) := by
  rw [prechargeHalfTau_judges hconn hstep hfirst hdue, henough]
  rfl

theorem prechargeHalfTau_fails (hlow : fractionAtLeast j vl 25 = false) :
    exec (.prechargeHalfTau t vl) s = .next (after t (fun s =>
      connFail (if fractionAtLeast j vl 5 then Ev.prechargeSlow else Ev.prechargeShort) [fractionClosed j vl]
        (noteHalfTau j vl s)) s) := by
  rw [prechargeHalfTau_judges hconn hstep hfirst hdue, hlow]
  rfl

end HalfTau

section ThreeTau

variable (hsecond : j.half = true) (hdue : j.origin + 3 * preTau s ≤ max s.now t)
include hsecond hdue

theorem prechargeThreeTau_judges :
    exec (.prechargeThreeTau t vl) s = .next (after t (fun s =>
      if fractionAtLeast j vl 90 then enterStep .k1 (noteThreeTau j vl s)
      else connFail Ev.prechargeSlow [fractionClosed j vl] (noteThreeTau j vl s)) s) := by
  have hjudged : ¬(j.step != .precharge || !j.half || decide (max s.now t < j.origin + 3 * preTau s)) = true := by
    rw [decide_eq_false (Nat.not_lt.mpr hdue)]
    simp [hstep, hsecond]
  rw [exec_prechargeThreeTau]
  apply timed_next
  rw [clocked_con, hconn]
  exact if_neg hjudged

theorem prechargeThreeTau_passes (henough : fractionAtLeast j vl 90 = true) :
    exec (.prechargeThreeTau t vl) s = .next (after t (fun s => enterStep .k1 (noteThreeTau j vl s)) s) := by
  rw [prechargeThreeTau_judges hconn hstep hsecond hdue, henough]
  rfl

theorem prechargeThreeTau_fails (hlow : fractionAtLeast j vl 90 = false) :
    exec (.prechargeThreeTau t vl) s =
      .next (after t (fun s => connFail Ev.prechargeSlow [fractionClosed j vl] (noteThreeTau j vl s)) s) := by
  rw [prechargeThreeTau_judges hconn hstep hsecond hdue, hlow]
  rfl

end ThreeTau

end Job

/-- Each millisecond with K3 closed adds its energy; at PRE_E_MAX an attempt fails. -/
theorem preEnergyTick_adds (hclosed : (coil s 2).kf = true) :
    exec (.preEnergyTick t vs vl) s = .next (after t (fun s =>
      let e := energyAt s s.now + ((vs - vl) * (vs - vl) * 390625 / (prm s Prm.preRes * 10000)).toNat
      let u := { s with con.energy := e, con.eAt := s.now, con.vStr := vs, con.vLnk := vl }
      if prmN u Prm.preEMax * 1000000 ≤ e ∧ u.con.attempt.isSome = true then connFail Ev.prechargeEnergy [(e : Int)] u else u)
      s) := by
  rw [exec_preEnergyTick]
  refine timed_next ((if_neg (by simp [hclosed])).trans ?_)
  simp only [Bool.and_eq_true, decide_eq_true_eq]

theorem preEnergyTick_nothing (hopen : (coil s 2).kf = false) :
    exec (.preEnergyTick t vs vl) s = .next (after t (fun s => s) s) := by
  rw [exec_preEnergyTick]
  exact timed_next (if_pos (by simp [hopen]))

/-- K3_OVERLAP after KF1 closed K3 opens. -/
theorem k3OverlapEnd_opens (hconn : s.con.conn = some j) (hstep : j.step = .overlap)
    (hdue : j.since + ms (prmN s Prm.k3Overlap) ≤ max s.now t) :
    exec (.k3OverlapEnd t) s = .next (after t (fun s =>
      advance (setConn (fun k => { k with step := .k3Opening, since := s.now }) (openCoil 2 s))) s) := by
  rw [exec_k3OverlapEnd]
  apply timed_next
  rw [clocked_con, hconn]
  exact if_pos (Bool.and_eq_true_iff.mpr ⟨beq_iff_eq.mpr hstep, decide_eq_true hdue⟩)

end Precharge

/-! ## The orderly opening (10 R316) -/

section OrderlyOpening

variable {t : Nat} {s : State}

/-- With the current low, or 10 s after an end other than a hand-over began whatever the current, the gates turn off. -/
theorem orderlyGatesOff_turnsOff (hends : s.disp.ending ≠ 0)
    (hdue : currentBelow s = true ∨ s.disp.ending ≠ 3 ∧ s.disp.endAt + sec 10 ≤ max s.now t) :
    exec (.orderlyGatesOff t) s = .next (after t orderlyOff s) := by
  rw [exec_orderlyGatesOff]
  refine timed_next (if_pos ?_)
  simp only [Bool.and_eq_true, Bool.or_eq_true, decide_eq_true_eq]
  exact ⟨hends, hdue⟩

theorem orderlyGatesOff_nothing (hidle : s.disp.ending = 0) :
    exec (.orderlyGatesOff t) s = .next (after t (fun s => s) s) := by
  rw [exec_orderlyGatesOff]
  exact timed_next (if_neg (by simp [hidle]))

end OrderlyOpening

/-! ## Status commands (10 R322) -/

section Status

variable {t m : Nat} {s : State}

theorem outStatus_reads (hp : Pend s m Cmd.outStatus []) : exec (.outStatus t m) s = .next (read t m outStatus s) := by
  rw [exec_outStatus]
  exact serve_length_read hp rfl rfl

theorem preHistory_reads (hp : Pend s m Cmd.preHistory []) :
    exec (.preHistory t m) s = .next (read t m (fun s =>
      .fields ([("E", [(energyAt s s.now : Int)]), ("time until admitted", [(admitTime s : Int)])] ++
        s.con.history.map (fun (a : PreAttempt) => ("attempt", [(a.origin : Int), codeS16 (some a.v0), codeS16 (some a.vs)] ++
          optInts a.gHalf ++ optInts a.gThree ++ [(a.energy : Int), a.result])))) s) := by
  rw [exec_preHistory]
  exact serve_length_read hp rfl rfl

/-- While writing to NVM is not forbidden the stored energy is reset with the one that runs. -/
theorem preModelReset_resets (hp : Pend s m Cmd.preModelReset []) (hmay : s.thm.forbid = false) :
    exec (.preModelReset t m) s = .next (ended t m doneReply (fun s =>
      record Ev.preModelReset 6 [] { s with con.energy := 0, con.eAt := s.now, con.eNvm := 0, con.eNvmAt := s.now }) s) := by
  rw [exec_preModelReset]
  refine serve_length_done hp rfl ?_
  rw [startCommand_thm, clocked_thm, hmay]
  rfl

end Status

/-- Settles O31: one lemma for each answer of a command, for each instant of the precharge, and for the orderly opening. -/
theorem connectAndPrecharge : Obligations.ConnectAndPrecharge := by
  unfold Obligations.ConnectAndPrecharge
  refine ⟨fun t m vs vl b g s => connect_refused, fun t m vs vl b s => connect_begins, fun t m vs vl b s => connect_badTarget,
    fun t vl j s => prechargeHalfTau_passes, fun t vl j s => prechargeHalfTau_fails, fun t vl j s => prechargeThreeTau_passes,
    fun t vl j s => prechargeThreeTau_fails, fun t vs vl s => preEnergyTick_adds, fun t vs vl s => preEnergyTick_nothing,
    fun t j s => k3OverlapEnd_opens, ?gatesOff, fun t s => orderlyGatesOff_nothing, fun t m s => disconnect_begins,
    fun t m s => disconnect_busy, fun t m s => outStatus_reads, fun t m s => preHistory_reads,
    fun t m s => preModelReset_resets⟩
  case gatesOff => exact fun t s hends hlow => orderlyGatesOff_turnsOff hends (.inl hlow)

end Sys2Proof.Machine

namespace Sys2Proof.Machine

/-! ## Every step keeps the bounds -/

/-- Each command's own meaning keeps the bounds, so `exec` does, whatever the command. -/
theorem exec_keeps_bounds {s : State} (h : Bounds s) (c : Instr) : ∀ u, exec c s = .next u → Bounds u :=
  match c with
  | .clockFault .. => execClockFault_keeps h
  | .crossingTimeout .. => execCrossingTimeout_keeps h
  | .islandSleep .. => execIslandSleep_keeps h
  | .islandWake .. => execIslandWake_keeps h
  | .triggerFire .. => execTriggerFire_keeps h
  | .sweepMark .. => execSweepMark_keeps h
  | .markReceived .. => execMarkReceived_keeps h
  | .tapSlotSend .. => execTapSlotSend_keeps h
  | .sweepDataReceive .. => execSweepDataReceive_keeps h
  | .commandWindow .. => execCommandWindow_keeps h
  | .enumeration .. => execEnumeration_keeps h
  | .delayTableRefresh .. => execDelayTableRefresh_keeps h
  | .ringBreak .. => execRingBreak_keeps h
  | .collectPollTimeout .. => execCollectPollTimeout_keeps h
  | .sweepStretched .. => execSweepStretched_keeps h
  | .splitRestoreTest .. => execSplitRestoreTest_keeps h
  | .returnToThrough .. => execReturnToThrough_keeps h
  | .fltTestDue .. => execFltTestDue_keeps h
  | .tapStatusPoll .. => execTapStatusPoll_keeps h
  | .cellComparatorTrip .. => execCellComparatorTrip_keeps h
  | .clkLockLost .. => execClkLockLost_keeps h
  | .tapSleep .. => execTapSleep_keeps h
  | .slowSweep .. => execSlowSweep_keeps h
  | .sweepPeriodChange .. => execSweepPeriodChange_keeps h
  | .nop .. => execNop_keeps h
  | .tapIdentify .. => execTapIdentify_keeps h
  | .echo .. => execEcho_keeps h
  | .setDelay .. => execSetDelay_keeps h
  | .setThresh .. => execSetThresh_keeps h
  | .setMarkCount .. => execSetMarkCount_keeps h
  | .readStatus .. => execReadStatus_keeps h
  | .clearTrip .. => execClearTrip_keeps h
  | .fltTest .. => execFltTest_keeps h
  | .tapReset .. => execTapReset_keeps h
  | .ptProbe .. => execPtProbe_keeps h
  | .setCollect .. => execSetCollect_keeps h
  | .collect .. => execCollect_keeps h
  | .ringMap .. => execRingMap_keeps h
  | .ringRestore .. => execRingRestore_keeps h
  | .reEnumerate .. => execReEnumerate_keeps h
  | .fltTestNow .. => execFltTestNow_keeps h
  | .clearTrips .. => execClearTrips_keeps h
  | .readSweep .. => execReadSweep_keeps h
  | .balRenew .. => execBalRenew_keeps h
  | .balLease .. => execBalLease_keeps h
  | .balStop .. => execBalStop_keeps h
  | .balMode .. => execBalMode_keeps h
  | .balLeaseExpiry .. => execBalLeaseExpiry_keeps h
  | .balConverterOvertemp .. => execBalConverterOvertemp_keeps h
  | .balGatedSuspend .. => execBalGatedSuspend_keeps h
  | .balResume .. => execBalResume_keeps h
  | .balStatus .. => execBalStatus_keeps h
  | .balTotals .. => execBalTotals_keeps h
  | .balForce .. => execBalForce_keeps h
  | .balForceEnd .. => execBalForceEnd_keeps h
  | .balRelease .. => execBalRelease_keeps h
  | .estUpdatePeriod .. => execEstUpdatePeriod_keeps h
  | .ctxSave .. => execCtxSave_keeps h
  | .ctxRead .. => execCtxRead_keeps h
  | .ctxSummary .. => execCtxSummary_keeps h
  | .ctxReinit .. => execCtxReinit_keeps h
  | .ctxCells .. => execCtxCells_keeps h
  | .capSet .. => execCapSet_keeps h
  | .chemRead .. => execChemRead_keeps h
  | .chemWrite .. => execChemWrite_keeps h
  | .ctxClearFlags .. => execCtxClearFlags_keeps h
  | .impLeadStart .. => execImpLeadStart_keeps h
  | .impWindowStart .. => execImpWindowStart_keeps h
  | .impWindowEnd .. => execImpWindowEnd_keeps h
  | .impSetup .. => execImpSetup_keeps h
  | .impWindow .. => execImpWindow_keeps h
  | .impRead .. => execImpRead_keeps h
  | .tapImpLineLoss .. => execTapImpLineLoss_keeps h
  | .impStatus .. => execImpStatus_keeps h
  | .impResults .. => execImpResults_keeps h
  | .impSpectrumNow .. => execImpSpectrumNow_keeps h
  | .phaseCurrentCycle .. => execPhaseCurrentCycle_keeps h
  | .stringLoopCycle .. => execStringLoopCycle_keeps h
  | .roleCSweep .. => execRoleCSweep_keeps h
  | .containerLoop .. => execContainerLoop_keeps h
  | .roleDeadline .. => execRoleDeadline_keeps h
  | .engineSelfTestDone .. => execEngineSelfTestDone_keeps h
  | .roleRotation .. => execRoleRotation_keeps h
  | .followingError .. => execFollowingError_keeps h
  | .sensorDisagree .. => execSensorDisagree_keeps h
  | .sensorFrozen .. => execSensorFrozen_keeps h
  | .currentFeedbackLost .. => execCurrentFeedbackLost_keeps h
  | .sensorRecover .. => execSensorRecover_keeps h
  | .ctrlStatus .. => execCtrlStatus_keeps h
  | .ctrlEngines .. => execCtrlEngines_keeps h
  | .ctrlEngineReturn .. => execCtrlEngineReturn_keeps h
  | .ctrlRotateNow .. => execCtrlRotateNow_keeps h
  | .sensorRestore .. => execSensorRestore_keeps h
  | .winTotals .. => execWinTotals_keeps h
  | .valleyReached .. => execValleyReached_keeps h
  | .limitHit .. => execLimitHit_keeps h
  | .cycleGroupBoundary .. => execCycleGroupBoundary_keeps h
  | .interleaveLimit .. => execInterleaveLimit_keeps h
  | .burstEntry .. => execBurstEntry_keeps h
  | .burstFrame .. => execBurstFrame_keeps h
  | .softStart .. => execSoftStart_keeps h
  | .softStartRetry .. => execSoftStartRetry_keeps h
  | .sidebandFrame .. => execSidebandFrame_keeps h
  | .gateStatusFrame .. => execGateStatusFrame_keeps h
  | .laneTrain .. => execLaneTrain_keeps h
  | .laneDown .. => execLaneDown_keeps h
  | .laneTimeoutOff .. => execLaneTimeoutOff_keeps h
  | .driverDesat .. => execDriverDesat_keeps h
  | .modStatus .. => execModStatus_keeps h
  | .laneStatus .. => execLaneStatus_keeps h
  | .dtTableRead .. => execDtTableRead_keeps h
  | .dtTableWrite .. => execDtTableWrite_keeps h
  | .laneRetrain .. => execLaneRetrain_keeps h
  | .spSet .. => execSpSet_keeps h
  | .setpointApply .. => execSetpointApply_keeps h
  | .dispatchWatchdog .. => execDispatchWatchdog_keeps h
  | .spCancel .. => execSpCancel_keeps h
  | .spQueueRead .. => execSpQueueRead_keeps h
  | .dispatchStatus .. => execDispatchStatus_keeps h
  | .spSilent .. => execSpSilent_keeps h
  | .domeFault .. => execDomeFault_keeps h
  | .domeDemand .. => execDomeDemand_keeps h
  | .sweepCheck .. => execSweepCheck_keeps h
  | .fltLoopOpen .. => execFltLoopOpen_keeps h
  | .fltShort .. => execFltShort_keeps h
  | .ocFastTrip .. => execOcFastTrip_keeps h
  | .ocSlowTrip .. => execOcSlowTrip_keeps h
  | .sf4TAbsent .. => execSf4TAbsent_keeps h
  | .siChannelDemand .. => execSiChannelDemand_keeps h
  | .siChannelRelease .. => execSiChannelRelease_keeps h
  | .siDiscrepancy .. => execSiDiscrepancy_keeps h
  | .tpPulse .. => execTpPulse_keeps h
  | .tripInOpen .. => execTripInOpen_keeps h
  | .sf8DelayEnd .. => execSf8DelayEnd_keeps h
  | .sf9Stale .. => execSf9Stale_keeps h
  | .safeStateOpen .. => execSafeStateOpen_keeps h
  | .k2OrderGap .. => execK2OrderGap_keeps h
  | .domeOpen .. => execDomeOpen_keeps h
  | .plantStop .. => execPlantStop_keeps h
  | .plantStopRelease .. => execPlantStopRelease_keeps h
  | .safetyKeepalive .. => execSafetyKeepalive_keeps h
  | .tripNotice .. => execTripNotice_keeps h
  | .safeMsgOrphan .. => execSafeMsgOrphan_keeps h
  | .safeLinkLost .. => execSafeLinkLost_keeps h
  | .singlePlane .. => execSinglePlane_keeps h
  | .sealChanged .. => execSealChanged_keeps h
  | .safeStatus .. => execSafeStatus_keeps h
  | .safeReset .. => execSafeReset_keeps h
  | .tripInRecheck .. => execTripInRecheck_keeps h
  | .safeSetRead .. => execSafeSetRead_keeps h
  | .safeSetConfirm .. => execSafeSetConfirm_keeps h
  | .safeCounters .. => execSafeCounters_keeps h
  | .localAckExpiry .. => execLocalAckExpiry_keeps h
  | .kfEdge .. => execKfEdge_keeps h
  | .kDropout .. => execKDropout_keeps h
  | .kFailClose .. => execKFailClose_keeps h
  | .kWelded .. => execKWelded_keeps h
  | .kPullinEnd .. => execKPullinEnd_keeps h
  | .outputOvercurrent .. => execOutputOvercurrent_keeps h
  | .coilOpen .. => execCoilOpen_keeps h
  | .coilSupplyLow .. => execCoilSupplyLow_keeps h
  | .outputTestPulse .. => execOutputTestPulse_keeps h
  | .outputSwitchFault .. => execOutputSwitchFault_keeps h
  | .prechargeHalfTau .. => execPrechargeHalfTau_keeps h
  | .prechargeThreeTau .. => execPrechargeThreeTau_keeps h
  | .preEnergyTick .. => execPreEnergyTick_keeps h
  | .k3OverlapEnd .. => execK3OverlapEnd_keeps h
  | .orderlyGatesOff .. => execOrderlyGatesOff_keeps h
  | .outStatus .. => execOutStatus_keeps h
  | .connect .. => execConnect_keeps h
  | .disconnect .. => execDisconnect_keeps h
  | .preHistory .. => execPreHistory_keeps h
  | .preModelReset .. => execPreModelReset_keeps h
  | .thermalSample .. => execThermalSample_keeps h
  | .nvmForbidLift .. => execNvmForbidLift_keeps h
  | .thermalShutdown .. => execThermalShutdown_keeps h
  | .thermalResetHold .. => execThermalResetHold_keeps h
  | .thermalRelease .. => execThermalRelease_keeps h
  | .thermalAutoReconnect .. => execThermalAutoReconnect_keeps h
  | .loopFallback .. => execLoopFallback_keeps h
  | .loopWatchdog .. => execLoopWatchdog_keeps h
  | .vlvOpen .. => execVlvOpen_keeps h
  | .thermStatus .. => execThermStatus_keeps h
  | .thermManual .. => execThermManual_keeps h
  | .thermManualEnd .. => execThermManualEnd_keeps h
  | .thermAuto .. => execThermAuto_keeps h
  | .boot .. => execBoot_keeps h
  | .shelfWake .. => execShelfWake_keeps h
  | .bootFail .. => execBootFail_keeps h
  | .wakeAtReached .. => execWakeAtReached_keeps h
  | .dormantAuto .. => execDormantAuto_keeps h
  | .pwrAuxLoss .. => execPwrAuxLoss_keeps h
  | .pwrAuxReturn .. => execPwrAuxReturn_keeps h
  | .cisternSequence .. => execCisternSequence_keeps h
  | .modeStatus .. => execModeStatus_keeps h
  | .enterService .. => execEnterService_keeps h
  | .leaveService .. => execLeaveService_keeps h
  | .run .. => execRun_keeps h
  | .hold .. => execHold_keeps h
  | .enterDormant .. => execEnterDormant_keeps h
  | .wake .. => execWake_keeps h
  | .wakeAt .. => execWakeAt_keeps h
  | .enterShelf .. => execEnterShelf_keeps h
  | .request .. => execRequest_keeps h
  | .read .. => execRead_keeps h
  | .ack .. => execAck_keeps h
  | .commandDone .. => execCommandDone_keeps h
  | .mbxIdleRelease .. => execMbxIdleRelease_keeps h
  | .stageTimeout .. => execStageTimeout_keeps h
  | .spireRestart .. => execSpireRestart_keeps h
  | .getStatus .. => execGetStatus_keeps h
  | .stop .. => execStop_keeps h
  | .stage .. => execStage_keeps h
  | .restart .. => execRestart_keeps h
  | .readParam .. => execReadParam_keeps h
  | .discardStaged .. => execDiscardStaged_keeps h
  | .identify .. => execIdentify_keeps h
  | .getChallenge .. => execGetChallenge_keeps h
  | .mbxStatus .. => execMbxStatus_keeps h
  | .mbxRelease .. => execMbxRelease_keeps h
  | .commit .. => execCommit_keeps h
  | .keySet .. => execKeySet_keeps h
  | .ownerLock .. => execOwnerLock_keeps h
  | .heartbeatSend .. => execHeartbeatSend_keeps h
  | .heartbeat .. => execHeartbeat_keeps h
  | .heartbeatTimeout .. => execHeartbeatTimeout_keeps h
  | .checkpointPush .. => execCheckpointPush_keeps h
  | .checkpointBlock .. => execCheckpointBlock_keeps h
  | .swapPrepare .. => execSwapPrepare_keeps h
  | .swapReady .. => execSwapReady_keeps h
  | .swapHand .. => execSwapHand_keeps h
  | .swapTaken .. => execSwapTaken_keeps h
  | .swapAbort .. => execSwapAbort_keeps h
  | .swapStepTimeout .. => execSwapStepTimeout_keeps h
  | .claimRound .. => execClaimRound_keeps h
  | .holdFollowExpiry .. => execHoldFollowExpiry_keeps h
  | .pairStartup .. => execPairStartup_keeps h
  | .pairStartFault .. => execPairStartFault_keeps h
  | .standbySelfTest .. => execStandbySelfTest_keeps h
  | .pairOverrideEnd .. => execPairOverrideEnd_keeps h
  | .healthReport .. => execHealthReport_keeps h
  | .pairStatus .. => execPairStatus_keeps h
  | .pairSwap .. => execPairSwap_keeps h
  | .pairOverride .. => execPairOverride_keeps h
  | .pairCkptNow .. => execPairCkptNow_keeps h
  | .healthRead .. => execHealthRead_keeps h
  | .helloSend .. => execHelloSend_keeps h
  | .hello .. => execHello_keeps h
  | .helloDead .. => execHelloDead_keeps h
  | .pcsSyncLoss .. => execPcsSyncLoss_keeps h
  | .lsaSend .. => execLsaSend_keeps h
  | .lsa .. => execLsa_keeps h
  | .lsaAgeOut .. => execLsaAgeOut_keeps h
  | .routeCompute .. => execRouteCompute_keeps h
  | .fabricFrameReceive .. => execFabricFrameReceive_keeps h
  | .planeFailed .. => execPlaneFailed_keeps h
  | .planeUp .. => execPlaneUp_keeps h
  | .flowReturn .. => execFlowReturn_keeps h
  | .fabStatus .. => execFabStatus_keeps h
  | .fabRoutes .. => execFabRoutes_keeps h
  | .fabLsdb .. => execFabLsdb_keeps h
  | .fabFlows .. => execFabFlows_keeps h
  | .fabClearCounters .. => execFabClearCounters_keeps h
  | .announce .. => execAnnounce_keeps h
  | .sync .. => execSync_keeps h
  | .followUp .. => execFollowUp_keeps h
  | .delayReq .. => execDelayReq_keeps h
  | .delayResp .. => execDelayResp_keeps h
  | .domainLoss .. => execDomainLoss_keeps h
  | .domainDegradedEnd .. => execDomainDegradedEnd_keeps h
  | .timePrefReturn .. => execTimePrefReturn_keeps h
  | .ppsEdge .. => execPpsEdge_keeps h
  | .ppsInvalid .. => execPpsInvalid_keeps h
  | .ppsOut .. => execPpsOut_keeps h
  | .timeStatus .. => execTimeStatus_keeps h
  | .timeEdges .. => execTimeEdges_keeps h
  | .timeResync .. => execTimeResync_keeps h
  | .timeSet .. => execTimeSet_keeps h
  | .canFrameReceive .. => execCanFrameReceive_keeps h
  | .canTxAttempt .. => execCanTxAttempt_keeps h
  | .canTxEnd .. => execCanTxEnd_keeps h
  | .busOff .. => execBusOff_keeps h
  | .busOffRecovered .. => execBusOffRecovered_keeps h
  | .frMapSend .. => execFrMapSend_keeps h
  | .frSetpointFrame .. => execFrSetpointFrame_keeps h
  | .frCommandFrame .. => execFrCommandFrame_keeps h
  | .canStatus .. => execCanStatus_keeps h
  | .canTx .. => execCanTx_keeps h
  | .canTxCancel .. => execCanTxCancel_keeps h
  | .canTxQuery .. => execCanTxQuery_keeps h
  | .canRxRead .. => execCanRxRead_keeps h
  | .canRxRelease .. => execCanRxRelease_keeps h
  | .canRecover .. => execCanRecover_keeps h
  | .twAddressMatch .. => execTwAddressMatch_keeps h
  | .twWindowWrite .. => execTwWindowWrite_keeps h
  | .twDoorbellRequest .. => execTwDoorbellRequest_keeps h
  | .twDoorbellRead .. => execTwDoorbellRead_keeps h
  | .twDoorbellAck .. => execTwDoorbellAck_keeps h
  | .twTransferAbort .. => execTwTransferAbort_keeps h
  | .twLate .. => execTwLate_keeps h
  | .twAttention .. => execTwAttention_keeps h
  | .twAttnRetry .. => execTwAttnRetry_keeps h
  | .twBusClear .. => execTwBusClear_keeps h
  | .twAccXfer .. => execTwAccXfer_keeps h
  | .twAccStatus .. => execTwAccStatus_keeps h
  | .twSvcStatus .. => execTwSvcStatus_keeps h
  | .recFlushPeriod .. => execRecFlushPeriod_keeps h
  | .recordFlush .. => execRecordFlush_keeps h
  | .nvmPageCommit .. => execNvmPageCommit_keeps h
  | .cursorExpiry .. => execCursorExpiry_keeps h
  | .recClearBlock .. => execRecClearBlock_keeps h
  | .recStatus .. => execRecStatus_keeps h
  | .recSeek .. => execRecSeek_keeps h
  | .recRead .. => execRecRead_keeps h
  | .recRelease .. => execRecRelease_keeps h
  | .recFlush .. => execRecFlush_keeps h
  | .recClear .. => execRecClear_keeps h
  | .recCodes .. => execRecCodes_keeps h
  | .imgStatus .. => execImgStatus_keeps h
  | .imgOpen .. => execImgOpen_keeps h
  | .imgBlock .. => execImgBlock_keeps h
  | .imgCheck .. => execImgCheck_keeps h
  | .imgInstall .. => execImgInstall_keeps h
  | .imgAbort .. => execImgAbort_keeps h
  | .tapInstall .. => execTapInstall_keeps h
  | .installStepDone .. => execInstallStepDone_keeps h
  | .installResume .. => execInstallResume_keeps h
  | .installPauseTimeout .. => execInstallPauseTimeout_keeps h
  | .imgOwnerTimeout .. => execImgOwnerTimeout_keeps h
  | .fwOpen .. => execFwOpen_keeps h
  | .fwBlock .. => execFwBlock_keeps h
  | .fwCheck .. => execFwCheck_keeps h
  | .fwSwap .. => execFwSwap_keeps h
  | .tapSwapTimeout .. => execTapSwapTimeout_keeps h
  | .cisternMeasure .. => execCisternMeasure_keeps h
  | .impWindowSuspend .. => execImpWindowSuspend_keeps h
  | .matchedCopyReturn .. => execMatchedCopyReturn_keeps h
  | .outputPulseEnd .. => execOutputPulseEnd_keeps h
  | .wakeComparatorArm .. => execWakeComparatorArm_keeps h
  | .tapWake .. => execTapWake_keeps h
  | .stFltHoldEnd .. => execStFltHoldEnd_keeps h
  | .supervisorWatchdog .. => execSupervisorWatchdog_keeps h

/-- A step serves the command in front of the queue or idles; the queue is no part of the bounds. -/
theorem step_keeps_bounds {s u : State} (h : Bounds s) (hstep : step s = .next u) : Bounds u := by
  unfold step at hstep
  split at hstep
  case h_1 =>
    cases hstep
    exact h
  case h_2 c rest _ => exact exec_keeps_bounds (s := { s with pending := rest }) h c u hstep

/-- Settles O4: a step is the meaning of one command, and every meaning keeps the bounds. -/
theorem everyStepKeepsTheBounds : Obligations.EveryStepKeepsTheBounds := by
  unfold Obligations.EveryStepKeepsTheBounds
  exact fun s u => step_keeps_bounds

/-- Settles O5: the queues and tables at reset are evaluated. -/
theorem resetMeetsTheBounds : Obligations.ResetMeetsTheBounds := by
  unfold Obligations.ResetMeetsTheBounds Bounds
  decide

/-! ## A step and the state at reset -/

/-- Settles O1: the two branches of `step`. -/
theorem stepServesTheFrontCommand : Obligations.StepServesTheFrontCommand := by
  unfold Obligations.StepServesTheFrontCommand
  constructor
  · intro c rest s hqueue
    unfold step
    rw [hqueue]
  · intro s hqueue
    unfold step
    rw [hqueue]

/-- The 512 contexts at reset are all the default one (04 R105, R106). -/
theorem reset_contexts : State.reset.est.ctx = List.replicate 512 {} := rfl

/-- Settles O6: the 512 contexts and the blank sets as replicated lists, every other field evaluated. -/
theorem resetValuesOfTheSpec : Obligations.ResetValuesOfTheSpec := by
  unfold Obligations.ResetValuesOfTheSpec
  refine ⟨rfl, ?keys, ?contexts, ⟨rfl, rfl⟩, ?period, ?winner, rfl, ?dispatch, ?taps⟩
  case contexts =>
    rw [reset_contexts]
    exact ⟨List.length_replicate, List.all_replicate.trans rfl⟩
  all_goals decide

end Sys2Proof.Machine

namespace Sys2Proof.Machine

/-! ## Module sensors (11 R325 to R329) -/

@[simp] theorem supReloading_clocked (t : Nat) (s : State) : supReloading (clocked t s) = supReloading s := rfl

section ModuleSensors

variable {t : Nat} {s : State}

theorem thermalSample_paused {ts : List (Option Int)} (hoff : s.core.mode = .shelf ∨ s.thm.held = true) :
    exec (.thermalSample t ts) s = .next (after t (fun s => s) s) := by
  rw [exec_thermalSample]
  refine timed_next (if_pos ?_)
  rcases hoff with hmode | hheld
  · simp [hmode]
  · simp [hheld]

/-- A sample outside a pause stores its readings, records new faults and judges the flags and the next rate (11 R325 to R328). -/
theorem thermalSample_judges {ts v : List (Option Int)} (hmode : s.core.mode ≠ .shelf) (hheld : s.thm.held = false)
    (hreload : supReloading s = false) (hv : v = (List.range 9).map (fun k => sensorValue (ts.getD k none))) :
    exec (.thermalSample t ts) s = .next (after t (fun s =>
      let u := eachDo ((List.range 9).filter (fun k => (v.map (·.isNone)).getD k false && !s.thm.tsFault.getD k false))
        (fun k s => record Ev.tsFault 4 [((k + 1 : Nat) : Int)] s) { s with thm.ts := v, thm.tsFault := v.map (·.isNone) }
      let u := nextRate (limitDistance u v) (judgeForbid (judgeHot u))
      setIsland 0 (fun (i : Island) => { i with nextEvent := some (u.now + 1000000000 / max u.thm.rate 1) }) u) s) := by
  subst hv
  rw [exec_thermalSample]
  refine timed_next ((if_neg ?_).trans rfl)
  simp [hmode, hheld, hreload]

/-! ### The write-forbid (11 R328, R329) -/

theorem judgeForbid_noSensor (hnone : boardTemps s.thm.ts = none) : judgeForbid s = { s with thm.forbidOk := none } := by
  unfold judgeForbid
  rw [hnone]

/-- A board temperature beyond 95 degC or below -30 degC forbids writes, recorded once. -/
theorem judgeForbid_forbids {hi lo : Int} (hboard : boardTemps s.thm.ts = some (hi, lo)) (hbeyond : 9500 < hi ∨ lo < -3000)
    (hnew : s.thm.forbid = false) :
    judgeForbid s =
      (let u := record Ev.nvmWriteForbid 3 [hi, lo] { s with thm.forbid := true, thm.forbidOk := none }
       { u with thm.forbidOk := none }) := by
  have hnotBack : ¬(decide (-2800 ≤ lo) && decide (hi ≤ 9300)) = true := by
    rw [Bool.and_eq_true, decide_eq_true_eq, decide_eq_true_eq]
    omega
  unfold judgeForbid
  simp only [hboard]
  rw [if_pos (by simp [hbeyond, hnew]), if_neg hnotBack]

/-- A board temperature from -28 degC to 93 degC starts the 10 s, or lets them run on. -/
theorem judgeForbid_inside {hi lo : Int} (hboard : boardTemps s.thm.ts = some (hi, lo)) (hlo : -2800 ≤ lo) (hhi : hi ≤ 9300) :
    judgeForbid s = { s with thm.forbidOk := some (s.thm.forbidOk.getD s.now) } := by
  have hnotBeyond : ¬((decide (9500 < hi) || decide (lo < -3000)) && !s.thm.forbid) = true := by
    have h1 : ¬9500 < hi := by omega
    have h2 : ¬lo < -3000 := by omega
    simp [h1, h2]
  unfold judgeForbid
  simp only [hboard]
  rw [if_neg hnotBeyond, if_pos (by simp [hlo, hhi])]

theorem nvmForbidLift_lifts {a : Nat} (hforbid : s.thm.forbid = true) (hback : s.thm.forbidOk = some a)
    (hlong : a + sec 10 ≤ max s.now t) :
    exec (.nvmForbidLift t) s = .next (after t (fun s => writeWaiting { s with thm.forbid := false }) s) := by
  rw [exec_nvmForbidLift]
  refine timed_next (if_pos ?_)
  rw [clocked_thm, hforbid, heldOpt_some (s := clocked t s) hback hlong]
  rfl

/-! ### MODULE_HOT (11 R327) -/

theorem judgeHot_raises {v : Int} {n : Nat} (hmax : tsMax s.thm.ts = some (v, n)) (hwarm : prm s Prm.tempWarn ≤ v)
    (hnew : s.thm.hot = false) :
    judgeHot s = record Ev.moduleHot 3 [v, (n : Int)] { s with thm.hot := true } := by
  unfold judgeHot
  simp only [hmax]
  rw [if_pos hwarm, if_neg (Bool.eq_false_iff.mp hnew)]

theorem judgeHot_clears {v : Int} {n : Nat} (hmax : tsMax s.thm.ts = some (v, n)) (hcool : v ≤ prm s Prm.tempWarn - 200) :
    judgeHot s = { s with thm.hot := false } := by
  unfold judgeHot
  simp only [hmax]
  rw [if_neg (by omega), if_pos hcool]

end ModuleSensors

/-! ## Dome's thermal shutdown (11 R330 to R336) -/

@[simp] theorem partnerFollows_clocked (t : Nat) (s : State) : partnerFollows (clocked t s) = partnerFollows s := rfl

section ThermalShutdown

variable {t : Nat} {s : State}

/-- The shutdown that comparators of the sensors `m` call for, with the demand from outside or, while the partner follows, inside
the pair (11 R330, R331). -/
theorem thermalShutdown_shutsDown {mk h m : Nat} {o : Bool}
    (hmask : maskOf ((List.range 9).map (fun k => bitOf mk k && !s.thm.tsFault.getD k false)) = m) (hsome : m ≠ 0) (hlong : ms 1 ≤ h)
    (hmode : s.core.mode ≠ .shelf) (hfirst : s.thm.shutdown = none) (hpartner : (!partnerFollows (clocked t s)) = o) :
    exec (.thermalShutdown t mk h) s = .next (after t (fun s =>
      let past := within s (sec 86400) s.thm.shutdowns
      let u := { s with
        thm.shutdown := some (s.now, BitVec.ofNat 9 m), thm.wasConnected := inMode s [.run, .hold], thm.coolSince := none,
        thm.shutdowns := past ++ [s.now], thm.shutdownCount := s.thm.shutdownCount + 1 }
      dropClaim (domeDemands o (endJobs Ev.thermalShutdown (gatesOff Ev.thermalShutdown u)))) s) := by
  subst hpartner
  rw [exec_thermalShutdown]
  apply timed_next
  simp only [clocked_thm, hmask]
  exact if_neg (by simp [hsome, Nat.not_lt.mpr hlong, hmode, hfirst])

theorem thermalShutdown_nothing {mk h : Nat}
    (hnot : h < ms 1 ∨ maskOf ((List.range 9).map (fun k => bitOf mk k && !s.thm.tsFault.getD k false)) = 0) :
    exec (.thermalShutdown t mk h) s = .next (after t (fun s => s) s) := by
  rw [exec_thermalShutdown]
  refine timed_next (if_pos ?_)
  rcases hnot with hshort | hmask
  · simp [hshort]
  · simp only [clocked_thm, hmask]
    rfl

/-- The reset begins 20 ms after the decision, with the tolerance of 1 ms that the table gives (11 R330). -/
theorem thermalResetHold_holds {a : Nat} {q : BitVec 9} (hdecided : s.thm.shutdown = some (a, q)) (hdue : a + ms 19 ≤ max s.now t)
    (hfirst : s.thm.held = false) :
    exec (.thermalResetHold t) s = .next (after t (fun s =>
      { resetEngines (clearDispatch (eachDo [0, 1, 2, 3] openCoil s)) with thm.held := true }) s) := by
  rw [exec_thermalResetHold]
  apply timed_next
  simp only [clocked_thm, hdecided]
  exact if_neg (by simp [Nat.not_lt.mpr hdue, hfirst])

theorem thermalRelease_boots {b : Nat} (hheld : s.thm.held = true) (hcool : sec 30 ≤ b) (hmode : s.core.mode ≠ .shelf) :
    exec (.thermalRelease t b) s = .next (after t (fun s =>
      { s with thm.held := false, thm.coolSince := some (s.now - b), core.booting := true }) s) := by
  rw [exec_thermalRelease]
  exact timed_next (if_pos (by simp [hheld, hcool, hmode]))

theorem thermalRelease_tooSoon {b : Nat} (hsoon : b < sec 30) :
    exec (.thermalRelease t b) s = .next (after t (fun s => s) s) := by
  have hshort : decide (sec 30 ≤ b) = false := decide_eq_false (Nat.not_le.mpr hsoon)
  rw [exec_thermalRelease]
  apply timed_next
  rw [if_neg (by simp [hshort]), if_neg (by simp [hshort])]

theorem thermalAutoReconnect_begins {vs vl : Int} (hdue : s.thm.reconnect = true) (hmode : s.core.mode = .watch)
    (hheld : s.thm.held = false) (hboot : s.core.booting = false)
    (hfree : connectBlock { (clocked t s) with con.vStr := vs, con.vLnk := vl } = none) :
    exec (.thermalAutoReconnect t vs vl) s = .next (after t (fun s =>
      beginConnect false none { s with con.vStr := vs, con.vLnk := vl, thm.reconnect := false }) s) := by
  rw [exec_thermalAutoReconnect]
  apply timed_next
  rw [if_neg (by simp [hdue, hmode, hheld, hboot])]
  exact if_neg (by rw [hfree]; exact Bool.false_ne_true)

theorem thermalAutoReconnect_waits {vs vl : Int} (hdue : s.thm.reconnect = true) (hmode : s.core.mode = .watch)
    (hheld : s.thm.held = false) (hboot : s.core.booting = false)
    (hblock : (connectBlock { (clocked t s) with con.vStr := vs, con.vLnk := vl }).isSome = true) :
    exec (.thermalAutoReconnect t vs vl) s = .next (after t (fun s => { s with con.vStr := vs, con.vLnk := vl }) s) := by
  rw [exec_thermalAutoReconnect]
  apply timed_next
  rw [if_neg (by simp [hdue, hmode, hheld, hboot])]
  exact if_pos hblock

end ThermalShutdown

/-- Settles O49: one lemma for each outcome of a sample, of its judgements, of a shutdown and of the reset's end. -/
theorem thermalSensorsAndShutdown : Obligations.ThermalSensorsAndShutdown := by
  unfold Obligations.ThermalSensorsAndShutdown
  refine ⟨fun t ts s => thermalSample_paused, fun t ts v s => thermalSample_judges, fun s => judgeForbid_noSensor,
    fun s hi lo => judgeForbid_forbids, fun s hi lo => judgeForbid_inside, fun s v n => judgeHot_raises, fun s v n => judgeHot_clears,
    fun t a s => nvmForbidLift_lifts, ?outside, ?inside, fun t mk h s => thermalShutdown_nothing,
    fun t a q s => thermalResetHold_holds, fun t b s => thermalRelease_boots, fun t b s => thermalRelease_tooSoon,
    fun t vs vl s => thermalAutoReconnect_begins, fun t vs vl s => thermalAutoReconnect_waits⟩
  case outside =>
    intro t mk h m s hmask hsome hlong hmode hfirst hpartner
    exact thermalShutdown_shutsDown hmask hsome hlong hmode hfirst (by rw [hpartner]; rfl)
  case inside =>
    intro t mk h m s hmask hsome hlong hmode hfirst hpartner
    exact thermalShutdown_shutsDown hmask hsome hlong hmode hfirst (by rw [hpartner]; rfl)

end Sys2Proof.Machine

namespace Sys2Proof.Machine

/-! ## The container loop's inputs and faults (11 R338, R340, R341) -/

section LoopInputs

variable {s : State}

/-- A run of the loop stores the four readings and marks its update; the outputs stand until the run acts (11 R338). -/
theorem loopInputs_reads (tc : List (Option Int)) (s : State) :
    (loopInputs tc s).thm.tc = (List.range 4).map (fun k => nextCoolant s (tc.getD k none) (s.thm.tc.getD k {})) ∧
      (loopInputs tc s).thm.lastUpdate = s.now ∧ (loopInputs tc s).thm.watchdog = false ∧
      (loopInputs tc s).thm.pmp = s.thm.pmp ∧ (loopInputs tc s).thm.vlv = s.thm.vlv := by
  unfold loopInputs
  exact ⟨nextCells_tc _, nextCells_lastUpdate _, nextCells_watchdog _, nextCells_pmp _, nextCells_vlv _⟩

/-- A coolant fault is recorded as it comes up (11 R341). -/
theorem noteCoolFault_new {c : Nat} (hnew : s.thm.coolFault = false) :
    noteCoolFault c s = record Ev.coolantSensorFault 4 [(c : Int)] { s with thm.coolFault := true, thm.coolFaultAt := s.now } :=
  if_neg (Bool.eq_false_iff.mp hnew)

/-- While it lasts it is not recorded again (11 R341). -/
theorem noteCoolFault_lasting (c : Nat) (hlasts : s.thm.coolFault = true) : noteCoolFault c s = s := if_pos hlasts

theorem loopAct_badManual {r : Bool} {c : Nat} (hbad : loopFault s = some c) (hmanual : manualNow s = true)
    (hlasts : s.thm.coolFault = true) : loopAct r s = manualOutputs s := by
  unfold loopAct
  simp only [hbad, noteCoolFault_lasting c hlasts]
  exact if_pos hmanual

/-- Without a bad input the fault and the fallback end (11 R341). -/
theorem loopAct_good (r : Bool) (hgood : loopFault s = none) (hauto : manualNow s = false) :
    loopAct r s = loopOutputs r (s.thm.tHi.getD 0) (s.thm.tLo.getD 0) { s with thm.coolFault := false, thm.fallback := false } := by
  unfold loopAct
  rw [hgood]
  exact if_neg (Bool.eq_false_iff.mp hauto)

theorem loopAct_goodManual (r : Bool) (hgood : loopFault s = none) (hmanual : manualNow s = true) :
    loopAct r s = manualOutputs { s with thm.coolFault := false, thm.fallback := false } := by
  unfold loopAct
  rw [hgood]
  exact if_pos hmanual

/-- TC1, TC2 and the cell temperatures are the inputs whose fault stops the loop (11 R341). -/
theorem loopFault_isSome (hbad : (s.thm.tc.getD 0 {}).bad = true ∨ (s.thm.tc.getD 1 {}).bad = true ∨ s.thm.cellsBad = true) :
    (loopFault s).isSome = true := by
  unfold loopFault
  split
  case isTrue => rfl
  case isFalse htc1 =>
    split
    case isTrue => rfl
    case isFalse htc2 =>
      have hcells : s.thm.cellsBad = true := (hbad.resolve_left htc1).resolve_left htc2
      rw [if_pos hcells]
      rfl

end LoopInputs

/-! ## The loop's state (11 R338) -/

section LoopState

variable {s : State} {hi lo : Int}

/-- Above COOL_TARGET the state is COOL, wherever it comes from. -/
theorem loopNext_cool_above (habove : prm s Prm.coolTarget < hi) : loopNext s hi lo = .cool := by
  have hstays : prm s Prm.coolTarget - 100 < hi := by omega
  unfold loopNext
  refine if_pos ?_
  split
  · exact decide_eq_true hstays
  · exact decide_eq_true habove

/-- COOL stays until T_hi is 1 degC below COOL_TARGET. -/
theorem loopNext_cool_stays (hstays : prm s Prm.coolTarget - 100 < hi) (hcool : s.thm.loop = .cool) : loopNext s hi lo = .cool := by
  unfold loopNext
  refine if_pos ?_
  rw [hcool]
  exact decide_eq_true hstays

/-- 1 degC below COOL_TARGET and lower the choice is between HEAT and IDLE. -/
theorem loopNext_notCool (hbelow : hi ≤ prm s Prm.coolTarget - 100) :
    loopNext s hi lo =
      if (if s.thm.loop == .heat then decide (lo < prm s Prm.heatOn + prm s Prm.heatHyst) else decide (lo < prm s Prm.heatOn)) then .heat
      else .idle := by
  unfold loopNext
  refine if_neg ?_
  split
  · rw [decide_eq_true_eq]
    omega
  · rw [decide_eq_true_eq]
    omega

theorem loopNext_heat_below (hbelow : hi ≤ prm s Prm.coolTarget - 100) (hcold : lo < prm s Prm.heatOn)
    (hhyst : 0 ≤ prm s Prm.heatHyst) : loopNext s hi lo = .heat := by
  have hstays : lo < prm s Prm.heatOn + prm s Prm.heatHyst := by omega
  rw [loopNext_notCool hbelow]
  refine if_pos ?_
  split
  · exact decide_eq_true hstays
  · exact decide_eq_true hcold

theorem loopNext_heat_stays (hbelow : hi ≤ prm s Prm.coolTarget - 100) (hcold : lo < prm s Prm.heatOn + prm s Prm.heatHyst)
    (hheat : s.thm.loop = .heat) : loopNext s hi lo = .heat := by
  rw [loopNext_notCool hbelow, hheat]
  exact if_pos (decide_eq_true hcold)

theorem loopNext_idle (hbelow : hi ≤ prm s Prm.coolTarget - 100) (hwarm : prm s Prm.heatOn ≤ lo)
    (hover : prm s Prm.heatOn + prm s Prm.heatHyst ≤ lo ∨ s.thm.loop ≠ .heat) : loopNext s hi lo = .idle := by
  rw [loopNext_notCool hbelow]
  refine if_neg ?_
  split
  case isTrue hheat =>
    have hheat : s.thm.loop = .heat := beq_iff_eq.mp hheat
    have hband : prm s Prm.heatOn + prm s Prm.heatHyst ≤ lo := hover.resolve_right (not_not.mpr hheat)
    rw [decide_eq_true_eq]
    omega
  case isFalse =>
    rw [decide_eq_true_eq]
    omega

end LoopState

/-! ## PMP, VLV and HTR (11 R338, R339) -/

section LoopOutputs

variable {s u : State} {fresh : Bool} {hi lo : Int}

theorem loopOutputs_heat (hnext : loopNext s hi lo = .heat)
    (hu : u = if fresh || loopNext s hi lo != s.thm.loop then bumpless { s with thm.loop := loopNext s hi lo } hi else s) :
    loopOutputs fresh hi lo s = runHtr true { u with thm.pmp := prm u Prm.pmpMin, thm.vlv := 0 } := by
  subst hu
  unfold loopOutputs
  simp only [hnext]
  rfl

theorem loopOutputs_idle (hnext : loopNext s hi lo = .idle)
    (hu : u = if fresh || loopNext s hi lo != s.thm.loop then bumpless { s with thm.loop := loopNext s hi lo } hi else s) :
    loopOutputs fresh hi lo s = runHtr false { u with thm.pmp := prm u Prm.pmpMin, thm.vlv := 0 } := by
  subst hu
  unfold loopOutputs
  simp only [hnext]
  rfl

theorem loopOutputs_cool (hnext : loopNext s hi lo = .cool)
    (hu : u = if fresh || loopNext s hi lo != s.thm.loop then bumpless { s with thm.loop := loopNext s hi lo } hi else s) :
    loopOutputs fresh hi lo s = runHtr false (coolValve (coolPump hi u)) := by
  subst hu
  unfold loopOutputs
  simp only [hnext]
  rfl

theorem coolPump_setsPmp {i : Int} (hint : clampTo 0 (32767 * 65536) (s.thm.intPmp + loopStep s (hi - prm s Prm.coolTarget)) = i) :
    coolPump hi s =
      (let r := loopOut (loopProp s (hi - prm s Prm.coolTarget)) i { s with thm.intPmp := i }
       { r.1 with thm.pmp := max (prm r.1 Prm.pmpMin) r.2 }) := by
  subst hint
  rfl

/-- With a value of TC1 the valve follows its PI term (11 R338). -/
theorem coolValve_setsVlv {v i : Int} (hvalue : (s.thm.tc.getD 0 {}).val = some v)
    (hint : clampTo 0 (32767 * 65536) (s.thm.intVlv + loopStep s (v - (prm s Prm.coolTarget - 500))) = i) :
    coolValve s =
      (let r := loopOut (loopProp s (v - (prm s Prm.coolTarget - 500))) i { s with thm.intVlv := i }
       { r.1 with thm.vlv := r.2 }) := by
  have herr : vlvErr s = some (v - (prm s Prm.coolTarget - 500)) := by
    unfold vlvErr
    rw [hvalue]
    rfl
  subst hint
  unfold coolValve
  rw [herr]
  rfl

/-- While TC1 has had no value the valve keeps its output (notes/assumptions/49.md). -/
theorem coolValve_withoutTc1 (hnone : (s.thm.tc.getD 0 {}).val = none) : coolValve s = s := by
  have herr : vlvErr s = none := by
    unfold vlvErr
    rw [hnone]
    rfl
  unfold coolValve
  rw [herr]

/-- HTR was never switched: no minimum cycle holds it. -/
theorem htrFree_none (hnever : s.thm.htrAt = none) : htrFree s = true := by
  unfold htrFree dueAfter
  rw [hnever]
  rfl

end LoopOutputs

/-- Settles O50: the inputs and their faults, the choice of the state, the outputs of each state, and HTR by its two tests. -/
theorem containerLoopLaw : Obligations.ContainerLoopLaw := by
  unfold Obligations.ContainerLoopLaw
  refine ⟨fun tc s => rfl, fun tc s => loopInputs_reads tc s, ?newFault, ?lastingFault, fun r c s => loopAct_badManual,
    fun r s => loopAct_good r, fun r s => loopAct_goodManual r, fun s => loopFault_isSome, fun s hi lo => loopNext_cool_above,
    fun s hi lo => loopNext_cool_stays, fun s hi lo => loopNext_heat_below, fun s hi lo => loopNext_heat_stays,
    fun s hi lo => loopNext_idle, fun fresh hi lo s u => loopOutputs_heat, fun fresh hi lo s u => loopOutputs_idle,
    fun fresh hi lo s u => loopOutputs_cool, fun hi i s => coolPump_setsPmp, fun v i s => coolValve_setsVlv, fun s => coolValve_withoutTc1,
    fun want s => rfl, fun want s => runHtr_off, ?neverSwitched, ?cycleOver, ?cycleRuns⟩
  case newFault =>
    intro r c s hbad hauto hnew
    rw [loopAct_bad hbad hauto, noteCoolFault_new hnew]
  case lastingFault =>
    intro r c s hbad hauto hlasts
    rw [loopAct_bad hbad hauto, noteCoolFault_lasting c hlasts]
  case neverSwitched => exact fun want s hmay hnever => runHtr_on hmay (htrFree_none hnever)
  case cycleOver => exact fun want a s hmay hat hover => runHtr_on hmay ((htrFree_some hat).trans (decide_eq_true hover))
  case cycleRuns =>
    exact fun want a s hmay hat hruns => runHtr_waits hmay ((htrFree_some hat).trans (decide_eq_false (Nat.not_le.mpr hruns)))

end Sys2Proof.Machine

namespace Sys2Proof.Machine

/-! ## When the container loop runs, and its outputs in a fault (11 R338, R341 to R343) -/

@[simp] theorem loopRuns_clocked (t : Nat) (s : State) : loopRuns (clocked t s) = loopRuns s := rfl

section LoopRows

variable {t : Nat} {s : State}

theorem containerLoop_runs (tc : List (Option Int)) (hruns : loopRuns s = true) (hmode : s.core.mode ≠ .dormant)
    (hdue : s.thm.lastUpdate + sec 1 ≤ max s.now t) :
    exec (.containerLoop t tc) s = .next (after t (containerLoop tc) s) := by
  rw [exec_containerLoop]
  exact timed_next (if_pos (by simp [hruns, hmode, hdue]))

theorem containerLoop_waits (tc : List (Option Int))
    (hnot : max s.now t < s.thm.lastUpdate + sec 1 ∨ loopRuns s = false ∨ s.core.mode = .dormant) :
    exec (.containerLoop t tc) s = .next (after t (fun s => s) s) := by
  rw [exec_containerLoop]
  refine timed_next (if_neg ?_)
  rcases hnot with hearly | hstands | hmode
  · exact fun hall => absurd (of_decide_eq_true (Bool.and_eq_true_iff.mp hall).2) (Nat.not_le.mpr hearly)
  · simp [hstands]
  · simp [hmode]

theorem loopFallback_applies (hfault : s.thm.coolFault = true) (hfirst : s.thm.fallback = false)
    (hauto : manualNow (clocked t s) = false) (hruns : loopRuns s = true) (hlong : s.thm.coolFaultAt + sec 300 ≤ max s.now t) :
    exec (.loopFallback t) s = .next (after t (fun s => record Ev.loopFallback 3 []
      (setHtr false { s with thm.fallback := true, thm.pmp := 32767, thm.vlv := prm s Prm.vlvFallback })) s) := by
  rw [exec_loopFallback]
  refine timed_next ((if_pos ?_).trans rfl)
  simp [hfault, hfirst, hauto, hruns, heldFor, hlong]

theorem loopFallback_nothing (hsound : s.thm.coolFault = false) :
    exec (.loopFallback t) s = .next (after t (fun s => s) s) := by
  rw [exec_loopFallback]
  exact timed_next (if_neg (by simp [hsound]))

theorem loopWatchdog_applies (hdormant : s.core.mode ≠ .dormant) (hshelf : s.core.mode ≠ .shelf)
    (hlong : s.thm.lastUpdate + sec 3 ≤ max s.now t) (hfirst : s.thm.watchdog = false) :
    exec (.loopWatchdog t) s = .next (after t (fun s => record Ev.loopWatchdog 4 [] (setHtr false
      { s with thm.watchdog := true, thm.stoodStill := true, thm.pmp := 32767, thm.vlv := prm s Prm.vlvFallback })) s) := by
  rw [exec_loopWatchdog]
  apply timed_next
  rw [if_pos (by simp [hdormant, heldFor, hlong])]
  exact if_neg (by simp [hfirst, hshelf])

theorem loopWatchdog_nothing (hnot : s.thm.watchdog = true ∨ max s.now t < s.thm.lastUpdate + sec 3) :
    exec (.loopWatchdog t) s = .next (after t (fun s => s) s) := by
  rw [exec_loopWatchdog]
  apply timed_next
  split
  case isFalse => rfl
  case isTrue hheld =>
    have hlong : s.thm.lastUpdate + sec 3 ≤ max s.now t := by simpa [heldFor] using (Bool.and_eq_true_iff.mp hheld).2
    have hdone : s.thm.watchdog = true := hnot.resolve_right (Nat.not_lt.mpr hlong)
    exact if_pos (by simp [hdone])

theorem vlvOpen_clears {u : Nat} (h : Nat) (hmode : s.core.mode ≠ .shelf) (hflows : 3600 ≤ u) :
    exec (.vlvOpen t u h) s = .next (after t (fun s => { s with thm.vlvOpen := false }) s) := by
  rw [exec_vlvOpen]
  apply timed_next
  rw [if_neg (by simp [hmode]), if_pos hflows]

theorem vlvOpen_records {u h : Nat} (hmode : s.core.mode ≠ .shelf) (hlow : u < 3600) (hlong : sec 1 ≤ h)
    (hnew : s.thm.vlvOpen = false) :
    exec (.vlvOpen t u h) s = .next (after t (fun s => record Ev.vlvOpen 3 [(u : Int)]
      { s with thm.vlvOpen := true, thm.pmp := max s.thm.pmp (prm s Prm.pmpMin) }) s) := by
  rw [exec_vlvOpen]
  apply timed_next
  rw [if_neg (by simp [hmode]), if_neg (Nat.not_le.mpr hlow), if_neg (by simp [Nat.not_lt.mpr hlong, hnew])]

theorem vlvOpen_nothing {u h : Nat} (hlow : u < 3600) (hnot : h < sec 1 ∨ s.thm.vlvOpen = true) :
    exec (.vlvOpen t u h) s = .next (after t (fun s => s) s) := by
  rw [exec_vlvOpen]
  apply timed_next
  split
  case isTrue => rfl
  case isFalse => rw [if_neg (Nat.not_le.mpr hlow), if_pos (by simpa using hnot)]

end LoopRows

/-! ## The thermal commands (11 R343, R344, R346) -/

theorem manualOutputs_valveKnown {s : State} (hknown : s.thm.vlvOpen = false) :
    manualOutputs s = runHtr s.thm.manualHtr { s with thm.pmp := s.thm.manualPmp, thm.vlv := s.thm.manualVlv } := by
  unfold manualOutputs
  rw [hknown]
  rfl

theorem manualOutputs_valveOpen {s : State} (hopen : s.thm.vlvOpen = true) :
    manualOutputs s =
      runHtr s.thm.manualHtr { s with thm.pmp := max s.thm.manualPmp (prm s Prm.pmpMin), thm.vlv := s.thm.manualVlv } := by
  unfold manualOutputs
  rw [hopen]
  rfl

theorem endManual_faulty {s : State} (hfault : s.thm.coolFault = true) :
    endManual s = setHtr false { s with thm.manualEnd := none, thm.manualHtr := false, thm.coolFaultAt := s.now } := if_pos hfault

theorem endManual_sound {s : State} (hsound : s.thm.coolFault = false) :
    endManual s = bumpless { s with thm.manualEnd := none, thm.manualHtr := false } (s.thm.tHi.getD 0) :=
  if_neg (Bool.eq_false_iff.mp hsound)

/-- A request of a demanded length that is refused for a field. -/
theorem serve_length_refused {s : State} {m cmd n t : Nat} {p : List Byte} {h : List Byte → State → Answer × State} {rep : Reply}
    (hp : Pend s m cmd p) (hlen : p.length = n) (hrep : (rep.status == .done || rep.status == .execFault) = false)
    (hh : h p (startCommand m (clocked t s)) = refuse rep (startCommand m (clocked t s))) :
    timed t (serve m cmd (withLength n h)) s = .next (turnedAway t m rep s) := by
  refine serve_turned hp fun r hr _ => ?_
  rw [withLength_met (hr ▸ hlen), hr, hh]
  exact if_neg (Bool.eq_false_iff.mp hrep)

section ThermalCommands

variable {t m : Nat} {b : List Byte} {s : State}

theorem thermStatus_reads (hp : Pend s m Cmd.thermStatus []) : exec (.thermStatus t m) s = .next (read t m thermStatus s) := by
  rw [exec_thermStatus]
  exact serve_length_read hp rfl rfl

theorem thermManual_takes (hp : Pend s m Cmd.thermManual b) (hlen : b.length = 7) (hhtr : leAt b 0 1 ≤ 1) (hpmp : leAt b 1 2 ≤ 32767)
    (hvlv : leAt b 3 2 ≤ 32767) (hsome : leAt b 5 2 ≠ 0) (hmost : leAt b 5 2 ≤ 600) :
    exec (.thermManual t m) s = .next (ended t m doneReply (fun s =>
      let u := { s with
        thm.manualEnd := some (s.now + sec (leAt b 5 2)), thm.manualHtr := leAt b 0 1 == 1,
        thm.manualPmp := (leAt b 1 2 : Int), thm.manualVlv := (leAt b 3 2 : Int) }
      if loopRuns u && !u.thm.stoodStill then manualOutputs u else u) s) := by
  have htime : ¬(leAt b 5 2 = 0 ∨ 600 < leAt b 5 2) := by omega
  rw [exec_thermManual]
  refine serve_length_done hp hlen ?_
  rw [if_neg (Nat.not_lt.mpr hhtr), if_neg (Nat.not_lt.mpr hpmp), if_neg (Nat.not_lt.mpr hvlv), if_neg htime]

theorem thermManual_badHtr (hp : Pend s m Cmd.thermManual b) (hlen : b.length = 7) (hhtr : 1 < leAt b 0 1) :
    exec (.thermManual t m) s = .next (turnedAway t m (argReply Cmd.thermManual 0) s) := by
  rw [exec_thermManual]
  exact serve_length_refused hp hlen rfl (if_pos hhtr)

theorem thermManual_badPmp (hp : Pend s m Cmd.thermManual b) (hlen : b.length = 7) (hhtr : leAt b 0 1 ≤ 1)
    (hpmp : 32767 < leAt b 1 2) :
    exec (.thermManual t m) s = .next (turnedAway t m (argReply Cmd.thermManual 1) s) := by
  rw [exec_thermManual]
  refine serve_length_refused hp hlen rfl ?_
  rw [if_neg (Nat.not_lt.mpr hhtr), if_pos hpmp]

theorem thermManual_badVlv (hp : Pend s m Cmd.thermManual b) (hlen : b.length = 7) (hhtr : leAt b 0 1 ≤ 1)
    (hpmp : leAt b 1 2 ≤ 32767) (hvlv : 32767 < leAt b 3 2) :
    exec (.thermManual t m) s = .next (turnedAway t m (argReply Cmd.thermManual 3) s) := by
  rw [exec_thermManual]
  refine serve_length_refused hp hlen rfl ?_
  rw [if_neg (Nat.not_lt.mpr hhtr), if_neg (Nat.not_lt.mpr hpmp), if_pos hvlv]

theorem thermManual_badTime (hp : Pend s m Cmd.thermManual b) (hlen : b.length = 7) (hhtr : leAt b 0 1 ≤ 1)
    (hpmp : leAt b 1 2 ≤ 32767) (hvlv : leAt b 3 2 ≤ 32767) (htime : leAt b 5 2 = 0 ∨ 600 < leAt b 5 2) :
    exec (.thermManual t m) s = .next (turnedAway t m (argReply Cmd.thermManual 5) s) := by
  rw [exec_thermManual]
  refine serve_length_refused hp hlen rfl ?_
  rw [if_neg (Nat.not_lt.mpr hhtr), if_neg (Nat.not_lt.mpr hpmp), if_neg (Nat.not_lt.mpr hvlv), if_pos htime]

theorem thermManualEnd_ends {a : Nat} (hend : s.thm.manualEnd = some a) (hover : a ≤ max s.now t) :
    exec (.thermManualEnd t) s = .next (after t endManual s) := by
  have hended : manualNow (clocked t s) = false := by
    unfold manualNow
    simp only [clocked_thm, hend]
    exact decide_eq_false (Nat.not_lt.mpr hover)
  rw [exec_thermManualEnd]
  exact timed_next (if_pos (by simp [hend, hended]))

theorem thermAuto_ends (hp : Pend s m Cmd.thermAuto []) :
    exec (.thermAuto t m) s = .next (ended t m doneReply (fun s => if s.thm.manualEnd.isSome then endManual s else s) s) := by
  rw [exec_thermAuto]
  exact serve_length_done hp rfl rfl

end ThermalCommands

/-- Settles O51: one lemma for each outcome of a row of the loop, and one for each answer of a command. -/
theorem containerLoopAndThermalCommands : Obligations.ContainerLoopAndThermalCommands := by
  unfold Obligations.ContainerLoopAndThermalCommands
  exact ⟨fun t tc s => containerLoop_runs tc, fun t tc s => containerLoop_waits tc, fun t s => loopFallback_applies,
    fun t s => loopFallback_nothing, fun t s => loopWatchdog_applies, fun t s => loopWatchdog_nothing,
    fun t u h s => vlvOpen_clears h, fun t u h s => vlvOpen_records, fun t u h s => vlvOpen_nothing,
    fun t m s => thermStatus_reads, fun t m b s => thermManual_takes, fun s => manualOutputs_valveKnown,
    fun s => manualOutputs_valveOpen, fun t m b s => thermManual_badHtr, fun t m b s => thermManual_badPmp,
    fun t m b s => thermManual_badVlv, fun t m b s => thermManual_badTime, fun t a s => thermManualEnd_ends,
    fun t m s => thermAuto_ends, fun s => endManual_faulty, fun s => endManual_sound⟩

end Sys2Proof.Machine

namespace Sys2Proof.Machine

/-! ## Shelf and boot (12 R351 to R353) -/

section ShelfAndBoot

variable {t : Nat} {s : State}

theorem shelfWake_byAux {a ha : Nat} (st hs : Nat) (hmode : s.core.mode = .shelf) (hidle : s.core.booting = false)
    (hretry : s.core.bootRetryAt ≤ max s.now t) (harmed : s.core.wakeArmed = true) (hhigh : 16000 < a) (hlong : ms 100 ≤ ha) :
    exec (.shelfWake t a st ha hs) s = .next (after t (fun s =>
      { s with core.booting := true, core.power := .auxiliary, core.auxOk := true, core.auxLost := false,
               core.powerCycles := (s.core.powerCycles + 1) % 2 ^ 24, core.bootAt := s.now }) s) := by
  have hby : ((clocked t s).core.wakeArmed && decide (16000 < a) && decide (ms 100 ≤ ha)) = true := by simp [harmed, hhigh, hlong]
  rw [exec_shelfWake]
  apply timed_next
  simp only [hby]
  exact if_neg (by simp [hmode, hidle, -lt_sup_iff, Nat.not_lt.mpr hretry])

theorem shelfWake_byString {a ha st hs : Nat} (hmode : s.core.mode = .shelf) (hidle : s.core.booting = false)
    (hretry : s.core.bootRetryAt ≤ max s.now t) (hunarmed : s.core.wakeArmed = false) (hfail : s.core.shelfPowerFail = true)
    (hhigh : 150000 ≤ st) (hlong : ms 100 ≤ hs) :
    exec (.shelfWake t a st ha hs) s = .next (after t (fun s =>
      { s with core.booting := true, core.power := .harvest, core.auxOk := false, core.auxLost := true,
               core.powerCycles := (s.core.powerCycles + 1) % 2 ^ 24, core.bootAt := s.now }) s) := by
  have hnot : ((clocked t s).core.wakeArmed && decide (16000 < a) && decide (ms 100 ≤ ha)) = false := by simp [hunarmed]
  rw [exec_shelfWake]
  apply timed_next
  simp only [hnot]
  exact if_neg (by simp [hmode, hidle, Nat.not_lt.mpr hretry, hfail, hhigh, hlong])

theorem shelfWake_nothing {ha hs : Nat} (a st : Nat) (hnot : s.core.mode ≠ .shelf ∨ (ha < ms 100 ∧ hs < ms 100)) :
    exec (.shelfWake t a st ha hs) s = .next (after t (fun s => s) s) := by
  rw [exec_shelfWake]
  refine timed_next (if_pos ?_)
  rcases hnot with hmode | ⟨ha, hs⟩
  · simp [hmode]
  · simp [Nat.not_le.mpr ha, Nat.not_le.mpr hs]

theorem wakeComparatorArm_arms {mv h : Nat} (hmode : s.core.mode = .shelf) (hlow : mv < 16000) (hlong : sec 1 ≤ h) :
    exec (.wakeComparatorArm t mv h) s = .next (after t (fun s => { s with core.wakeArmed := true }) s) := by
  rw [exec_wakeComparatorArm]
  exact timed_next (if_pos (by simp [hmode, hlow, hlong]))

theorem bootFail_counts (hboot : s.core.booting = true) (hmode : s.core.mode = .shelf) :
    exec (.bootFail t) s = .next (after t (fun s =>
      { s with core.booting := false, core.bootFails := s.core.bootFails + 1, core.bootRetryAt := s.now + sec 10,
               core.power := .absent, core.auxOk := false, core.auxLost := false }) s) := by
  rw [exec_bootFail]
  exact timed_next (if_pos (by simp [hboot, hmode]))

theorem boot_boots (o : BootObs) (hboot : s.core.booting = true) (hheld : s.thm.held = false) :
    exec (.boot t o) s = .next (after t (boot o) s) := by
  rw [exec_boot]
  exact timed_next (if_pos (by simp [hboot, hheld]))

theorem boot_nothing (o : BootObs) (hidle : s.core.booting = false) :
    exec (.boot t o) s = .next (after t (fun s => s) s) := by
  rw [exec_boot]
  exact timed_next (if_neg (by simp [hidle]))

/-- A boot ends in Watch or in Tripped (12 R351). -/
theorem boot_mode (o : BootObs) (s : State) : (boot o s).core.mode = .watch ∨ (boot o s).core.mode = .tripped := by
  simp only [boot]
  exact bootEnd_mode ..

end ShelfAndBoot

/-! ## Loss of supply (12 R358, R359, R368) -/

section LossOfSupply

variable {t mv h st : Nat} {s : State}

/-- PWR-AUX below 15 V for 2 ms outside Shelf is a loss (12 R358). -/
theorem pwrAuxLoss_judged (hmode : s.core.mode ≠ .shelf) (haux : s.core.auxOk = true) (hlow : mv < 15000) (hlong : ms 2 ≤ h) :
    ¬((clocked t s).core.mode == .shelf || !(clocked t s).core.auxOk || decide (15000 ≤ mv) || decide (h < ms 2)) = true := by
  simp [hmode, haux, Nat.not_le.mpr hlow, Nat.not_lt.mpr hlong]

theorem pwrAuxLoss_toCistern (hmode : s.core.mode ≠ .shelf) (haux : s.core.auxOk = true) (hlow : mv < 15000) (hlong : ms 2 ≤ h)
    (hstr : st < 150000) :
    exec (.pwrAuxLoss t mv h st) s = .next (after t (fun s => { s with core.auxOk := false, core.power := .cistern }) s) := by
  rw [exec_pwrAuxLoss]
  apply timed_next
  rw [if_neg (pwrAuxLoss_judged hmode haux hlow hlong), if_pos hstr]

/-- Where HVS-STR carries the module harvest takes over, with AUX_LOST recorded (12 R358). -/
def auxLostState (s : State) : State :=
  record Ev.auxLost 3 [] { s with core.auxOk := false, core.power := .harvest, core.auxLost := true }

@[simp] theorem auxLostState_mode (s : State) : (auxLostState s).core.mode = s.core.mode := record_core_mode ..

/-- After a loss with HVS-STR up a connect fails, a module in Run or Hold opens, and any other goes on (12 R358). -/
theorem pwrAuxLoss_toHarvest {f : State → State} (hmode : s.core.mode ≠ .shelf) (haux : s.core.auxOk = true) (hlow : mv < 15000)
    (hlong : ms 2 ≤ h) (hstr : 150000 ≤ st) (hheld : s.thm.held = false)
    (hf : (let u := auxLostState (clocked t s)
      if u.core.mode == .connect then connFail Ev.auxLost [] u
      else if inMode u [.run, .hold] && u.con.opening.isNone then beginOpening none Ev.auxLost (endJobs Ev.auxLost u)
      else u) = f (clocked t s)) :
    exec (.pwrAuxLoss t mv h st) s = .next (after t f s) := by
  rw [exec_pwrAuxLoss]
  apply timed_next
  rw [if_neg (pwrAuxLoss_judged hmode haux hlow hlong), if_neg (Nat.not_lt.mpr hstr)]
  exact (if_neg (Bool.eq_false_iff.mp hheld)).trans hf

theorem pwrAuxLoss_open (hmode : s.core.mode ≠ .shelf) (haux : s.core.auxOk = true) (hlow : mv < 15000) (hlong : ms 2 ≤ h)
    (hstr : 150000 ≤ st) (hheld : s.thm.held = false)
    (hopen : s.core.mode = .watch ∨ s.core.mode = .dormant ∨ s.core.mode = .service ∨ s.core.mode = .tripped) :
    exec (.pwrAuxLoss t mv h st) s = .next (after t (fun s =>
      record Ev.auxLost 3 [] { s with core.auxOk := false, core.power := .harvest, core.auxLost := true }) s) := by
  refine pwrAuxLoss_toHarvest hmode haux hlow hlong hstr hheld ?_
  have hnotConnect : ¬((auxLostState (clocked t s)).core.mode == .connect) = true := by
    rcases hopen with h | h | h | h <;> simp [h]
  have hnotClosed : inMode (auxLostState (clocked t s)) [.run, .hold] = false := by
    unfold inMode
    rcases hopen with h | h | h | h <;> simp [h]
  dsimp only
  rw [if_neg hnotConnect, hnotClosed]
  rfl

theorem pwrAuxLoss_closed (hmode : s.core.mode ≠ .shelf) (haux : s.core.auxOk = true) (hlow : mv < 15000) (hlong : ms 2 ≤ h)
    (hstr : 150000 ≤ st) (hheld : s.thm.held = false) (hclosed : s.core.mode = .run ∨ s.core.mode = .hold)
    (hidle : (record Ev.auxLost 3 [] { (clocked t s) with core.auxOk := false, core.power := .harvest, core.auxLost := true }).con.opening = none) :
    exec (.pwrAuxLoss t mv h st) s = .next (after t (fun s =>
      let u := record Ev.auxLost 3 [] { s with core.auxOk := false, core.power := .harvest, core.auxLost := true }
      beginOpening none Ev.auxLost (endJobs Ev.auxLost u)) s) := by
  refine pwrAuxLoss_toHarvest hmode haux hlow hlong hstr hheld ?_
  have hnotConnect : ¬((auxLostState (clocked t s)).core.mode == .connect) = true := by
    rcases hclosed with h | h <;> simp [h]
  have hrunOrHold : inMode (auxLostState (clocked t s)) [.run, .hold] = true := by
    unfold inMode
    rcases hclosed with h | h <;> simp [h]
  have hidle : (auxLostState (clocked t s)).con.opening = none := by
    unfold auxLostState
    exact hidle
  dsimp only
  rw [if_neg hnotConnect, hrunOrHold, hidle]
  rfl

theorem pwrAuxReturn_returns (hmode : s.core.mode ≠ .shelf) (haux : s.core.auxOk = false) (hpower : s.core.power ≠ .cistern)
    (hhigh : 16000 < mv) (hlong : ms 100 ≤ h) :
    exec (.pwrAuxReturn t mv h) s = .next (after t (fun s =>
      { s with core.auxOk := true, core.auxLost := false, core.power := .auxiliary }) s) := by
  rw [exec_pwrAuxReturn]
  exact timed_next (if_neg (by simp [hmode, haux, hpower, Nat.not_le.mpr hhigh, Nat.not_lt.mpr hlong]))

theorem pwrAuxReturn_nothing (hnot : mv ≤ 16000 ∨ s.core.power = .cistern) :
    exec (.pwrAuxReturn t mv h) s = .next (after t (fun s => s) s) := by
  rw [exec_pwrAuxReturn]
  refine timed_next (if_pos ?_)
  rcases hnot with hlow | hpower
  · simp [hlow]
  · simp [hpower]

/-- The Cistern sequence: jobs end, the coils open, the state is saved, the records are written last and power goes (12 R359). -/
theorem cisternSequence_saves (x : Option Int) (hmode : s.core.mode ≠ .shelf) (haux : s.core.auxOk = false)
    (hsupply : s.core.power = .cistern ∨ st < 150000) (hheld : s.thm.held = false) :
    exec (.cisternSequence t st x) s = .next (after t (fun s =>
      let lost : Int := ((if s.core.power == .cistern then Power.auxiliary.code else s.core.power.code : Nat) : Int)
      let u := eachDo [0, 2, 3, 1] openCoil (endJobs Ev.powerFail (gatesOff Ev.powerFail
        { s with core.power := .cistern, core.shelfPowerFail := true }))
      let v := saveAll u
      let w := setMode .shelf Ev.powerFail (if v.thm.forbid then v else record Ev.powerFail 4 [lost, (u.well.buf.length : Int)] v)
      powerOff (if w.thm.forbid then { w with well.lostRecords := w.well.buf.length } else flushAll w)) s) := by
  have hfailed : ¬((clocked t s).core.mode == .shelf || (clocked t s).core.auxOk ||
      ((clocked t s).core.power != .cistern && decide (150000 ≤ st))) = true := by
    rcases hsupply with h | h
    · simp [hmode, haux, h]
    · simp [hmode, haux, Nat.not_le.mpr h]
  rw [exec_cisternSequence]
  apply timed_next
  rw [if_neg hfailed, if_neg (show ¬(clocked t s).thm.held = true from Bool.eq_false_iff.mp hheld)]

end LossOfSupply

/-- Without power the module is in Shelf with no buffered record; what NVM and the taps hold stays (12 R347, R359). -/
theorem powerOff_leaves (s : State) :
    (powerOff s).core.mode = .shelf ∧ (powerOff s).well.buf = [] ∧ (powerOff s).mbx.params = s.mbx.nvm ∧
      (powerOff s).saf.sets = s.saf.sets ∧ (powerOff s).pair.epoch = s.pair.epoch ∧ (powerOff s).well.store = s.well.store :=
  ⟨rfl, rfl, rfl, rfl, rfl, rfl⟩

/-- Settles O47: one lemma for each outcome of a wake, a boot, a loss and a return of supply, and what stays without power. -/
theorem powerAndBoot : Obligations.PowerAndBoot := by
  unfold Obligations.PowerAndBoot
  exact ⟨fun t a st ha hs s => shelfWake_byAux st hs, fun t a st ha hs s => shelfWake_byString,
    fun t a st ha hs s => shelfWake_nothing a st, fun t mv h s => wakeComparatorArm_arms, fun t s => bootFail_counts,
    fun t o s => boot_boots o, boot_mode, fun t o s => boot_nothing o, fun t mv h st s => pwrAuxLoss_toCistern,
    fun t mv h st s => pwrAuxLoss_open, fun t mv h st s => pwrAuxLoss_closed, fun t mv h s => pwrAuxReturn_returns,
    fun t mv h s => pwrAuxReturn_nothing, fun t st x s => cisternSequence_saves x, powerOff_leaves⟩

end Sys2Proof.Machine

namespace Sys2Proof.Machine

/-! ## What a started command reads of the state -/

@[simp] theorem stringConnected_started (m t : Nat) (s : State) :
    stringConnected (startCommand m (clocked t s)) = stringConnected s := rfl

@[simp] theorem stoppedFor_started (mode : Mode) (m t : Nat) (s : State) :
    stoppedFor mode (startCommand m (clocked t s)) = stoppedFor mode s := rfl

@[simp] theorem stopped_started (m t : Nat) (s : State) : stopped (startCommand m (clocked t s)) = stopped s := rfl

@[simp] theorem runBlock_started (m t : Nat) (s : State) : runBlock (startCommand m (clocked t s)) = runBlock s := rfl

@[simp] theorem pairMode_started (m t : Nat) (s : State) : pairMode (startCommand m (clocked t s)) = pairMode s := rfl

/-! ## Dormant and its wake events (12 R354 to R357) -/

section Dormant

variable {t : Nat} {s : State}
variable (rts : List (List (Option Nat × Option Nat))) (fr : List (Nat × Bool × List Byte)) (tc : List (Option Int)) (sh hl : Option Int)

theorem slowSweep_notDormant (hmode : s.core.mode ≠ .dormant) :
    exec (.slowSweep t rts fr tc sh hl) s = .next (after t (fun s => s) s) := by
  rw [exec_slowSweep]
  exact timed_next (if_pos (by simp [hmode]))

/-- A slow sweep of a Dormant module not held in reset (12 R357). -/
theorem slowSweep_dormant (hmode : s.core.mode = .dormant) (hheld : s.thm.held = false) :
    ¬((clocked t s).core.mode != .dormant || (clocked t s).thm.held) = true := by
  simp [hmode, hheld]

theorem slowSweep_pairStandby (hmode : s.core.mode = .dormant) (hheld : s.thm.held = false)
    (hprofile : s.core.pairStandbyProfile = true) (hruns : loopRuns s = true) :
    exec (.slowSweep t rts fr tc sh hl) s = .next (after t (containerLoop tc) s) := by
  rw [exec_slowSweep]
  apply timed_next
  rw [if_neg (slowSweep_dormant hmode hheld), if_pos (by simp [hprofile]), if_pos (by simp [hruns])]

theorem slowSweep_pairStandbyIdle (hmode : s.core.mode = .dormant) (hheld : s.thm.held = false)
    (hprofile : s.core.pairStandbyProfile = true) (hstands : loopRuns s = false) :
    exec (.slowSweep t rts fr tc sh hl) s = .next (after t (fun s => s) s) := by
  rw [exec_slowSweep]
  apply timed_next
  rw [if_neg (slowSweep_dormant hmode hheld), if_pos (by simp [hprofile]), if_neg (by simp [hstands])]

theorem slowSweep_noRing (hmode : s.core.mode = .dormant) (hheld : s.thm.held = false)
    (hprofile : s.core.pairStandbyProfile = false) (hnone : [0, 1].filter (ringServed (clocked t s)) = []) (hruns : loopRuns s = true) :
    exec (.slowSweep t rts fr tc sh hl) s = .next (after t (fun s =>
      let u := containerLoop tc s
      if nearLimits u || spreadWide u then wakeNow 0 u else u) s) := by
  rw [exec_slowSweep]
  apply timed_next
  rw [if_neg (slowSweep_dormant hmode hheld), if_neg (by simp [hprofile]), hnone]
  simp only [List.isEmpty_nil, eachDo, List.foldl_nil, Bool.not_true, Bool.and_false, Bool.false_eq_true, if_false, if_true,
    loopRuns_clocked, hruns]

theorem slowSweep_sweeps (hmode : s.core.mode = .dormant) (hheld : s.thm.held = false)
    (hprofile : s.core.pairStandbyProfile = false) (hsome : [0, 1].filter (ringServed (clocked t s)) ≠ []) :
    exec (.slowSweep t rts fr tc sh hl) s = .next (after t (fun s =>
      let T := nextGrid s (sec (prmN s Prm.dormantSweep))
      let u := sweepCheck (eachDo ([0, 1].filter (ringServed s)) (fun r v => slowRing T r (rts.getD r []) fr v) (beginSweep T (sh, hl) s))
      let u := if estRuns u then updatePeriod [] u else u
      let u := if loopRuns u then containerLoop tc u else u
      if nearLimits u || spreadWide u then wakeNow 0 u else u) s) := by
  have hserved : ([0, 1].filter (ringServed (clocked t s))).isEmpty = false := List.isEmpty_eq_false_iff.mpr hsome
  rw [exec_slowSweep]
  apply timed_next
  rw [if_neg (slowSweep_dormant hmode hheld), if_neg (by simp [hprofile])]
  simp only [hserved, Bool.false_eq_true, if_false, Bool.not_false, Bool.and_true]

theorem wakeAtReached_wakes {a : Nat} (hregistered : s.core.wakeAt = some a) (hcome : untilStamp (clocked t s) a ≤ 0) :
    exec (.wakeAtReached t) s = .next (after t (fun s => wakeNow 0 { s with core.wakeAt := none }) s) := by
  rw [exec_wakeAtReached]
  apply timed_next
  simp only [clocked_core, hregistered]
  exact if_pos hcome

/-- A Dormant module wakes into Watch (12 R355). -/
theorem wakeNow_mode (c : Nat) (hmode : s.core.mode = .dormant) : (wakeNow c s).core.mode = .watch := by
  unfold wakeNow
  rw [if_pos (by simp [hmode]), setMode_mode]

section QuietWatch

variable (hmode : s.core.mode = .watch) (hsingle : pairMode s = false) (hauto : prm s Prm.dormantAuto = 1) (hboot : s.core.booting = false)
  (hheld : s.thm.held = false)
include hmode hsingle hauto hboot hheld

/-- A Watch that may drop to Dormant by itself: of single mode, with DORMANT_AUTO set, booted and not held (12 R356). -/
theorem dormantAuto_judged :
    ¬((clocked t s).core.mode != .watch || pairMode (clocked t s) || decide (prm (clocked t s) Prm.dormantAuto ≠ 1) ||
      (clocked t s).core.booting || (clocked t s).thm.held) = true := by
  have hset : decide (prm (clocked t s) Prm.dormantAuto ≠ 1) = false := decide_eq_false (not_not.mpr hauto)
  rw [hset]
  simp [hmode, hsingle, hboot, hheld]

theorem dormantAuto_restarts (hbusy : quietNow (clocked t s) = false) :
    exec (.dormantAuto t) s = .next (after t (fun s => { s with core.quietSince := s.now }) s) := by
  rw [exec_dormantAuto]
  apply timed_next
  rw [if_neg (dormantAuto_judged hmode hsingle hauto hboot hheld), if_pos (by simp [hbusy])]

theorem dormantAuto_drops (hquiet : quietNow (clocked t s) = true)
    (hlong : s.core.quietSince + sec (prmN s Prm.dormantQuiet) ≤ max s.now t) (hfar : eventFar (clocked t s) = true) :
    exec (.dormantAuto t) s = .next (after t enterIsolated s) := by
  have hdue : heldFor (clocked t s) (clocked t s).core.quietSince (sec (prmN (clocked t s) Prm.dormantQuiet)) = true :=
    decide_eq_true hlong
  rw [exec_dormantAuto]
  apply timed_next
  rw [if_neg (dormantAuto_judged hmode hsingle hauto hboot hheld), if_neg (by simp [hquiet]), if_pos (by rw [hdue, hfar]; rfl)]

end QuietWatch

/-- The isolated profile is Dormant (12 R354). -/
theorem enterIsolated_mode (s : State) : (enterIsolated s).core.mode = .dormant := by
  unfold enterIsolated
  exact setMode_mode ..

end Dormant

/-! ## The mode commands (12 R349, R350, R355, R370) -/

section ModeCommands

variable {t m : Nat} {b : List Byte} {s : State}

theorem modeStatus_reads (hp : Pend s m Cmd.modeStatus []) : exec (.modeStatus t m) s = .next (read t m modeStatus s) := by
  rw [exec_modeStatus]
  exact serve_length_read hp rfl rfl

theorem enterService_enters (hp : Pend s m Cmd.enterService []) (hopen : stringConnected s = false)
    (hfree : stoppedFor .service s = none) :
    exec (.enterService t m) s = .next (ended t m doneReply (setMode .service 0) s) := by
  rw [exec_enterService]
  refine serve_length_done hp rfl ?_
  simp only [stringConnected_started, hopen, stoppedFor_started, hfree]
  rfl

theorem enterService_connected (hp : Pend s m Cmd.enterService []) (hclosed : stringConnected s = true) :
    exec (.enterService t m) s = .next (turnedAway t m (guardReply Ev.contactors) s) := by
  rw [exec_enterService]
  exact serve_length_guard hp rfl (if_pos (by simp [hclosed]))

theorem leaveService_toWatch (hp : Pend s m Cmd.leaveService []) (hnone : s.saf.latched = [])
    (hall : (List.range 21).find? (stopped s) = none) :
    exec (.leaveService t m) s = .next (ended t m doneReply (setMode .watch 0) s) := by
  rw [exec_leaveService]
  refine serve_length_done hp rfl ?_
  simp only [startCommand_saf, clocked_saf, hnone, stopped_started, hall]

theorem leaveService_stopped {f : Nat} (hp : Pend s m Cmd.leaveService []) (hnone : s.saf.latched = [])
    (hstopped : (List.range 21).find? (stopped s) = some f) :
    exec (.leaveService t m) s = .next (turnedAway t m { guardReply Ev.functionStopped with fn := f } s) := by
  rw [exec_leaveService]
  refine serve_length_refused hp rfl rfl ?_
  simp only [startCommand_saf, clocked_saf, hnone, stopped_started, hstopped]
  rfl

theorem leaveService_toTripped {c : Nat} {l : List Nat} (hp : Pend s m Cmd.leaveService []) (hlatched : s.saf.latched = c :: l)
    (hfree : stoppedFor .tripped s = none) :
    exec (.leaveService t m) s = .next (ended t m doneReply (setMode .tripped c) s) := by
  rw [exec_leaveService]
  refine serve_length_done hp rfl ?_
  simp only [startCommand_saf, clocked_saf, hlatched, stoppedFor_started, hfree]

theorem run_enters (hp : Pend s m Cmd.run []) (hfree : stoppedFor .run s = none) (hready : runBlock s = none) :
    exec (.run t m) s = .next (ended t m doneReply (fun s => setMode .run 0 (if s.conv.st == .off then s else gatesOff 0 s)) s) := by
  rw [exec_run]
  refine serve_length_done hp rfl ?_
  simp only [stoppedFor_started, hfree, runBlock_started, hready]

theorem run_refused {c : Nat} (hp : Pend s m Cmd.run []) (hfree : stoppedFor .run s = none) (hblock : runBlock s = some c) :
    exec (.run t m) s = .next (turnedAway t m (guardReply c) s) := by
  rw [exec_run]
  refine serve_length_guard hp rfl ?_
  simp only [stoppedFor_started, hfree, runBlock_started, hblock]

theorem hold_begins (hp : Pend s m Cmd.hold []) (hclosed : s.con.opening = none) (hidle : s.disp.ending = 0)
    (hfree : stoppedFor .hold s = none) :
    exec (.hold t m) s = .next (going t m (beginHold (some m)) s) := by
  rw [exec_hold]
  refine serve_length_going hp rfl ?_
  rw [if_neg (by simp [hclosed, hidle])]
  simp only [stoppedFor_started, hfree]

theorem hold_busy (hp : Pend s m Cmd.hold []) (hends : s.disp.ending ≠ 0) :
    exec (.hold t m) s = .next (turnedAway t m (guardReply Ev.functionBusy) s) := by
  rw [exec_hold]
  exact serve_length_guard hp rfl (if_pos (by simp [hends]))

theorem enterDormant_enters (hp : Pend s m Cmd.enterDormant []) (hsingle : pairMode s = false) (hopen : stringConnected s = false)
    (hnone : s.saf.latched = []) (hfree : stoppedFor .dormant s = none) :
    exec (.enterDormant t m) s = .next (ended t m doneReply enterIsolated s) := by
  rw [exec_enterDormant]
  refine serve_length_done hp rfl ?_
  rw [if_neg (by simp [hsingle]), if_neg (by simp [hopen])]
  simp only [startCommand_saf, clocked_saf, hnone, stoppedFor_started, hfree]

theorem enterDormant_pair (hp : Pend s m Cmd.enterDormant []) (hpair : pairMode s = true) :
    exec (.enterDormant t m) s = .next (turnedAway t m (guardReply Ev.pairRole) s) := by
  rw [exec_enterDormant]
  exact serve_length_guard hp rfl (if_pos (by simp [hpair]))

theorem enterDormant_connected (hp : Pend s m Cmd.enterDormant []) (hsingle : pairMode s = false) (hclosed : stringConnected s = true) :
    exec (.enterDormant t m) s = .next (turnedAway t m (guardReply Ev.contactors) s) := by
  rw [exec_enterDormant]
  refine serve_length_guard hp rfl ?_
  rw [if_neg (by simp [hsingle]), if_pos (by simp [hclosed])]

theorem enterDormant_latched {c : Nat} {l : List Nat} (hp : Pend s m Cmd.enterDormant []) (hsingle : pairMode s = false)
    (hopen : stringConnected s = false) (hlatched : s.saf.latched = c :: l) :
    exec (.enterDormant t m) s = .next (turnedAway t m (guardReply c) s) := by
  rw [exec_enterDormant]
  refine serve_length_guard hp rfl ?_
  rw [if_neg (by simp [hsingle]), if_neg (by simp [hopen])]
  simp only [startCommand_saf, clocked_saf, hlatched]

theorem wake_wakes (hp : Pend s m Cmd.wake []) (hprofile : s.core.pairStandbyProfile = false) :
    exec (.wake t m) s = .next (ended t m doneReply (wakeNow 0) s) := by
  rw [exec_wake]
  exact serve_length_done hp rfl (if_neg (by simp [hprofile]))

theorem wake_pairStandby (hp : Pend s m Cmd.wake []) (hprofile : s.core.pairStandbyProfile = true) :
    exec (.wake t m) s = .next (turnedAway t m (guardReply Ev.pairRole) s) := by
  rw [exec_wake]
  exact serve_length_guard hp rfl (if_pos (by simp [hprofile]))

theorem wakeAt_cancels (hp : Pend s m Cmd.wakeAt b) (hlen : b.length = 8) (hzero : leAt b 0 8 = 0) :
    exec (.wakeAt t m) s = .next (ended t m doneReply (fun s => { s with core.wakeAt := none }) s) := by
  rw [exec_wakeAt]
  exact serve_length_done hp hlen (if_pos hzero)

theorem wakeAt_registers (hp : Pend s m Cmd.wakeAt b) (hlen : b.length = 8) (hsome : leAt b 0 8 ≠ 0)
    (hnear : untilStamp (clocked t s) (leAt b 0 8) ≤ ((2592000 * 2 ^ 32 : Nat) : Int)) :
    exec (.wakeAt t m) s = .next (ended t m doneReply (fun s => { s with core.wakeAt := some (leAt b 0 8) }) s) := by
  rw [exec_wakeAt]
  exact serve_length_done hp hlen ((if_neg hsome).trans (if_neg (not_lt.mpr hnear)))

theorem enterShelf_enters (hp : Pend s m Cmd.enterShelf []) (hopen : stringConnected s = false) (hmay : s.thm.forbid = false) :
    exec (.enterShelf t m) s = .next (going t m (fun s =>
      let u := withdrawFor false (formResponse m doneReply (record Ev.commandDone 1 [(m : Int), Cmd.enterShelf, 0] s))
      { powerOff (saveAll (setMode .shelf 0 u)) with core.wakeArmed := false, core.shelfPowerFail := false }) s) := by
  rw [exec_enterShelf]
  refine serve_length_going hp rfl ?_
  rw [if_neg (by simp [hopen]), if_neg (by simp [hmay])]

theorem enterShelf_connected (hp : Pend s m Cmd.enterShelf []) (hclosed : stringConnected s = true) :
    exec (.enterShelf t m) s = .next (turnedAway t m (guardReply Ev.contactors) s) := by
  rw [exec_enterShelf]
  exact serve_length_guard hp rfl (if_pos (by simp [hclosed]))

theorem enterShelf_forbidden (hp : Pend s m Cmd.enterShelf []) (hopen : stringConnected s = false) (hforbid : s.thm.forbid = true) :
    exec (.enterShelf t m) s = .next (turnedAway t m (guardReply Ev.nvmTemp) s) := by
  rw [exec_enterShelf]
  refine serve_length_guard hp rfl ?_
  rw [if_neg (by simp [hopen]), if_pos (by simp [hforbid])]

end ModeCommands

/-- Settles O48: one lemma for each outcome of a slow sweep, of a wake event and of a quiet Watch, and for each answer of a command. -/
theorem dormantAndModeCommands : Obligations.DormantAndModeCommands := by
  unfold Obligations.DormantAndModeCommands
  exact ⟨fun t rts fr tc sh hl s => slowSweep_notDormant rts fr tc sh hl, fun t rts fr tc sh hl s => slowSweep_pairStandby rts fr tc sh hl,
    fun t rts fr tc sh hl s => slowSweep_noRing rts fr tc sh hl, fun t rts fr tc sh hl s => slowSweep_sweeps rts fr tc sh hl,
    fun t rts fr tc sh hl s => slowSweep_pairStandbyIdle rts fr tc sh hl, fun t a s => wakeAtReached_wakes, fun c s => wakeNow_mode c,
    fun t s => dormantAuto_restarts, fun t s => dormantAuto_drops, enterIsolated_mode, fun t m s => modeStatus_reads,
    fun t m s => enterService_enters, fun t m s => enterService_connected, fun t m s => leaveService_toWatch,
    fun t m f s => leaveService_stopped, fun t m c l s => leaveService_toTripped, fun t m s => run_enters, fun t m c s => run_refused,
    fun t m s => hold_begins, fun t m s => hold_busy, fun t m s => enterDormant_enters, fun t m s => enterDormant_pair,
    fun t m s => enterDormant_connected, fun t m c l s => enterDormant_latched, fun t m s => wake_wakes,
    fun t m s => wake_pairStandby, fun t m b s => wakeAt_cancels, fun t m b s => wakeAt_registers, fun t m s => enterShelf_enters,
    fun t m s => enterShelf_connected, fun t m s => enterShelf_forbidden⟩

end Sys2Proof.Machine

namespace Sys2Proof.Machine

/-! ## Bytes of the rest of a list (00 R5) -/

theorem byteAt_drop (l : List Byte) (k i : Nat) : byteAt (l.drop k) i = byteAt l (k + i) := by
  unfold byteAt
  rw [List.getD_eq_getElem?_getD, List.getElem?_drop, ← List.getD_eq_getElem?_getD]

theorem leAt_drop (l : List Byte) (k i n : Nat) : leAt (l.drop k) i n = leAt l (k + i) n := by
  induction n generalizing i with
  | zero => rfl
  | succ n ih => rw [leAt, leAt, byteAt_drop, ih, Nat.add_assoc]

/-! ## One mailbox after a change (13 R371, R373) -/

/-- What a change of a mailbox leaves alone reads as before, for a mailbox that the state does not hold too. -/
theorem mbxOf_setMbx_unchanged {α : Type} (field : Mailbox → α) {g : Mailbox → Mailbox} (hg : ∀ b, field (g b) = field b)
    (m : Nat) (s : State) : field (mbxOf (setMbx m g s) m) = field (mbxOf s m) := by
  unfold mbxOf setMbx
  rw [List.getD_eq_getElem?_getD, List.getD_eq_getElem?_getD, List.getElem?_modify_eq]
  cases s.mbx.mbx[m]? with
  | none => rfl
  | some b => exact hg b

@[simp] theorem mbxOf_clocked (t : Nat) (s : State) (m : Nat) : mbxOf (clocked t s) m = mbxOf s m := rfl

@[simp] theorem fixedAddr_clocked (t : Nat) (s : State) (m : Nat) : fixedAddr (clocked t s) m = fixedAddr s m := rfl

@[simp] theorem fnOf_clocked (t : Nat) (s : State) (f : Nat) : fnOf (clocked t s) f = fnOf s f := rfl

/-! ## Envelopes (13 R371, R372) -/

/-- The state that notes whether an envelope named the string (15 R441). -/
def viaNoted (src : Source) (dst : Nat) (s : State) : State := { s with mbx.viaStr := viaString s src dst }

section Envelopes

variable {op dst : Nat} {src : Source} {env : List Byte} {f : Nat → List Byte → State → State} {s : State}

theorem withEnvelope_notAddressed (hfar : reaches s src dst = false) :
    withEnvelope op src dst env f s = { s with mbx.viaStr := viaString s src dst } := by
  have hfar : reaches (viaNoted src dst s) src dst = false := hfar
  unfold withEnvelope
  exact if_pos (congrArg (! ·) hfar)

theorem withEnvelope_notServed (hunserved : mbxServed s (countedOn src (byteAt env 1)) = false) :
    withEnvelope op src dst env f s = { s with mbx.viaStr := viaString s src dst } := by
  have hunserved : mbxServed (viaNoted src dst s) (countedOn src (byteAt env 1)) = false := hunserved
  unfold withEnvelope
  dsimp only
  split
  case isTrue => rfl
  case isFalse => exact if_pos (congrArg (! ·) hunserved)

/-- An addressed envelope for a served mailbox is discarded or handled, by its path and its operation. -/
theorem withEnvelope_judged (hreach : reaches s src dst = true) (hserved : mbxServed s (countedOn src (byteAt env 1)) = true) :
    withEnvelope op src dst env f s =
      if !pathServes src (byteAt env 1) || env.length < 2 || byteAt env 0 ≠ op then
        discardEnvelope (countedOn src (byteAt env 1)) { s with mbx.viaStr := viaString s src dst }
      else f (byteAt env 1) (env.drop 2) { s with mbx.viaStr := viaString s src dst } := by
  have hreach : reaches (viaNoted src dst s) src dst = true := hreach
  have hserved : mbxServed (viaNoted src dst s) (countedOn src (byteAt env 1)) = true := hserved
  unfold withEnvelope
  exact (if_neg (Bool.eq_false_iff.mp (congrArg (! ·) hreach))).trans (if_neg (Bool.eq_false_iff.mp (congrArg (! ·) hserved)))

theorem withEnvelope_mismatch (hreach : reaches s src dst = true) (hserved : mbxServed s (countedOn src (byteAt env 1)) = true)
    (hwrong : pathServes src (byteAt env 1) = false ∨ env.length < 2 ∨ byteAt env 0 ≠ op) :
    withEnvelope op src dst env f s =
      discardEnvelope (countedOn src (byteAt env 1)) { s with mbx.viaStr := viaString s src dst } := by
  rw [withEnvelope_judged hreach hserved]
  refine if_pos ?_
  rw [Bool.or_eq_true, Bool.or_eq_true, Bool.not_eq_true', decide_eq_true_eq, decide_eq_true_eq, or_assoc]
  exact hwrong

theorem withEnvelope_handled (hreach : reaches s src dst = true) (hserved : mbxServed s (countedOn src (byteAt env 1)) = true)
    (hpath : pathServes src (byteAt env 1) = true) (hlen : 2 ≤ env.length) (hop : byteAt env 0 = op) :
    withEnvelope op src dst env f s = f (byteAt env 1) (env.drop 2) { s with mbx.viaStr := viaString s src dst } := by
  rw [withEnvelope_judged hreach hserved]
  exact if_neg (by simp [hpath, Nat.not_lt.mpr hlen, hop])

end Envelopes

/-! ## Requests on a mailbox (13 R373, R377, R378, R382) -/

section Requests

variable {m : Nat} {src b : Source} {body : List Byte} {s : State}

/-- A mailbox that MBX_FIXED does not name is bound as it has been bound. -/
theorem boundSource_dynamic (hdynamic : fixedAddr s m = 0) : boundSource s m = (mbxOf s m).bound.map (·.1) :=
  if_neg (not_not.mpr hdynamic)

/-- Binding an unbound mailbox does not change its phase. -/
theorem bindTo_phase (hunbound : (mbxOf s m).bound = none) : (mbxOf (bindTo src m s) m).phase = (mbxOf s m).phase := by
  have hend : endBinding m s = s := by
    unfold endBinding
    simp only [hunbound]
  unfold bindTo
  dsimp only
  rw [hend, if_neg (by simp [hunbound])]
  exact mbxOf_setMbx_unchanged (g := fun b => { b with bound := some (src, s.mbx.nextBinding) }) Mailbox.phase (fun _ => rfl) m s

/-- A mailbox bound to a source stays bound to it. -/
theorem bindTo_bound (hbound : (mbxOf s m).bound.map (·.1) = some src) : bindTo src m s = s := by
  unfold bindTo
  exact if_pos (by simp [hbound])

theorem requestOn_free (hfree : (mbxOf s m).phase ≠ .pending) : requestOn m body s = (false, takeRequest m body s) :=
  if_neg (by simpa using hfree)

theorem requestOn_busy (hpending : (mbxOf s m).phase = .pending) : requestOn m body s = (true, s) :=
  if_pos (by simp [hpending])

/-- A request to an unbound mailbox binds it and is taken (13 R373, R377). -/
theorem handleRequest_unbound (hdynamic : fixedAddr s m = 0) (hunbound : (mbxOf s m).bound = none)
    (hfree : (mbxOf s m).phase ≠ .pending) :
    handleRequest m src body s = takeRequest m body (bindTo src m { s with core.quietSince := s.now }) := by
  have hnone : boundSource { s with core.quietSince := s.now } m = none :=
    (boundSource_dynamic (s := { s with core.quietSince := s.now }) hdynamic).trans (congrArg (Option.map (·.1)) hunbound)
  have hphase : (mbxOf (bindTo src m { s with core.quietSince := s.now }) m).phase ≠ .pending := fun hpending =>
    hfree ((bindTo_phase (s := { s with core.quietSince := s.now }) hunbound).symm.trans hpending)
  simp only [handleRequest, hnone]
  rw [requestOn_free hphase]

theorem handleRequest_foreign (hbound : boundSource s m = some b) (hforeign : b ≠ src) :
    handleRequest m src body s = foreignRequest m src body { s with core.quietSince := s.now } := by
  have hbound : boundSource { s with core.quietSince := s.now } m = some b := hbound
  simp only [handleRequest, hbound]
  exact if_pos hforeign

theorem handleRequest_busy (hown : (mbxOf s m).bound.map (·.1) = some src) (hbound : boundSource s m = some src)
    (hpending : (mbxOf s m).phase = .pending) (hnew : isRepeat (mbxOf s m) (parseRequest body) = false) :
    handleRequest m src body s = busyRequest m src (parseRequest body) { s with core.quietSince := s.now } := by
  have hbound : boundSource { s with core.quietSince := s.now } m = some src := hbound
  have hnew : isRepeat (mbxOf { s with core.quietSince := s.now } m) (parseRequest body) = false := hnew
  have hstays : bindTo src m { s with core.quietSince := s.now } = { s with core.quietSince := s.now } := bindTo_bound hown
  have hbusy : requestOn m body { s with core.quietSince := s.now } = (true, { s with core.quietSince := s.now }) :=
    requestOn_busy hpending
  simp only [handleRequest, hbound, hstays, hnew, hbusy]
  exact if_neg (not_not.mpr rfl)

/-- MAILBOX_BUSY is delivered once; a plain request has no block to consume (13 R377, R397). -/
theorem busyRequest_delivers {r : Request} (hm : m < 7) (hcmd : r.command ≠ Cmd.spSet) (hplain : r.flags = 0) :
    busyRequest m src r s =
      deliver m src { reply := { status := .mailboxBusy }, mode := s.core.mode, seq := r.seq, readCount := 1, str := s.mbx.viaStr } s := by
  have hkeeps : consumeChallenge m r s = s := if_neg (by simp [hplain])
  unfold busyRequest
  dsimp only
  rw [if_neg hcmd, hkeeps]
  exact if_pos hm

/-- The request that steps 1 to 5 of R382 judge is pending. -/
theorem takeRequest_pending (hgood : checkRequest s m body { parseRequest body with str := s.mbx.viaStr } = none) :
    takeRequest m body s =
      (let r := { parseRequest body with str := s.mbx.viaStr }
       setMbx m (fun b => { b with
         phase := .pending, req := some r, role := if r.flags = 1 then roleOfByte (byteAt r.auth 0) else .none, held := none,
         result := none, started := false,
         challenge := if r.flags % 2 = 1 ∧ r.auth.length = 44 then none else b.challenge }) s) := by
  simp only [takeRequest, hgood, Option.isNone_none, Bool.and_true, Bool.and_eq_true, decide_eq_true_eq]

/-- One that they refuse is answered at once. -/
theorem takeRequest_refused {x : Reply} (hbad : checkRequest s m body { parseRequest body with str := s.mbx.viaStr } = some x)
    (hcmd : (parseRequest body).command ≠ Cmd.spSet) :
    takeRequest m body s =
      (let r := { parseRequest body with str := s.mbx.viaStr }
       answerNow m x (setMbx m (fun b => { b with
         phase := .pending, req := some r, role := .none, held := none, result := none, started := false,
         challenge := if r.flags % 2 = 1 ∧ r.auth.length = 44 then none else b.challenge }) s)) := by
  simp only [takeRequest, hbad, Option.isNone_some, Bool.and_false, Bool.false_eq_true, if_false, hcmd, Bool.and_eq_true,
    decide_eq_true_eq]

/-- A READ of a held response delivers it with its count (13 R379). -/
theorem readAndSend_held {h : Response} (hholding : (mbxOf s m).phase = .holding) (hheld : (mbxOf s m).held = some h) :
    readAndSend m src s =
      (let h := { h with readCount := min 255 (h.readCount + 1) }
       deliver m src h (setMbx m (fun b => { b with held := some h }) s)) := by
  simp only [readAndSend, readMailbox, hholding, hheld]

/-- An ACK of the held response's sequence empties the mailbox (13 R380). -/
theorem ackMailbox_empties {h : Response} {seq : Nat} (hholding : (mbxOf s m).phase = .holding) (hheld : (mbxOf s m).held = some h)
    (hseq : h.seq = seq) :
    ackMailbox m seq s =
      setMbx m (fun b => { b with phase := .empty, held := none, req := none, emptySince := s.now }) s := by
  unfold ackMailbox
  exact if_pos (by simp [hholding, hheld, hseq])

/-- With no node address to change, a response is followed by the path that a COMMIT changed (13 R401). -/
theorem afterResponse_path {q : Request} (hcmd : q.command ≠ Cmd.mbxRelease) (hnode : s.fab.nextNode = none) :
    afterResponse m q s = if q.command = Cmd.commit then { s with mbx.svcPath := svcPathOf s } else s := by
  have hstays : (decide (q.command = Cmd.mbxRelease) && decide (byteAt q.payload 0 = m)) = false := by simp [hcmd]
  unfold afterResponse
  by_cases hcommit : q.command = Cmd.commit
  · simp only [hstays, Bool.false_eq_true, if_false, if_pos hcommit, hnode]
  · simp only [hstays, Bool.false_eq_true, if_false, if_neg hcommit, hnode]

/-- A READ from the source that the mailbox is bound to is served; one from another source is not (13 R373). -/
theorem bound_own {o : Option Source} (hown : o = some src) : ¬(o.isSome && decide (o ≠ some src)) = true := by
  subst hown
  simp

theorem bound_foreign {o : Option Source} (hbound : o = some b) (hforeign : b ≠ src) :
    (o.isSome && decide (o ≠ some src)) = true := by
  subst hbound
  simp [hforeign]

end Requests

/-! ## The rows of the mailboxes (13 R373 to R380, R383, R389) -/

section MailboxRows

variable {t dst : Nat} {src b : Source} {env : List Byte} {s : State}

theorem request_taken (hreach : reaches s src dst = true) (hserved : mbxServed s (countedOn src (byteAt env 1)) = true)
    (hpath : pathServes src (byteAt env 1) = true) (hlen : 2 ≤ env.length) (hop : byteAt env 0 = 1)
    (hdynamic : fixedAddr s (byteAt env 1) = 0) (hunbound : (mbxOf s (byteAt env 1)).bound = none)
    (hfree : (mbxOf s (byteAt env 1)).phase ≠ .pending) :
    exec (.request t src dst env) s = .next (after t (fun s =>
      let u := { s with mbx.viaStr := viaString s src dst }
      takeRequest (byteAt env 1) (env.drop 2) (bindTo src (byteAt env 1) { u with core.quietSince := u.now })) s) := by
  rw [exec_request]
  exact timed_next ((withEnvelope_handled (s := clocked t s) hreach hserved hpath hlen hop).trans
    (handleRequest_unbound (s := viaNoted src dst (clocked t s)) hdynamic hunbound hfree))

theorem request_foreign (hreach : reaches s src dst = true) (hserved : mbxServed s (countedOn src (byteAt env 1)) = true)
    (hpath : pathServes src (byteAt env 1) = true) (hlen : 2 ≤ env.length) (hop : byteAt env 0 = 1)
    (hbound : boundSource s (byteAt env 1) = some b) (hforeign : b ≠ src) :
    exec (.request t src dst env) s = .next (after t (fun s =>
      let u := { s with mbx.viaStr := viaString s src dst }
      foreignRequest (byteAt env 1) src (env.drop 2) { u with core.quietSince := u.now }) s) := by
  rw [exec_request]
  exact timed_next ((withEnvelope_handled (s := clocked t s) hreach hserved hpath hlen hop).trans
    (handleRequest_foreign (s := viaNoted src dst (clocked t s)) hbound hforeign))

theorem request_busy (hreach : reaches s src dst = true) (hserved : mbxServed s (countedOn src (byteAt env 1)) = true)
    (hpath : pathServes src (byteAt env 1) = true) (hlen : 2 ≤ env.length) (hop : byteAt env 0 = 1)
    (hown : (mbxOf s (byteAt env 1)).bound.map (·.1) = some src) (hbound : boundSource s (byteAt env 1) = some src)
    (hpending : (mbxOf s (byteAt env 1)).phase = .pending)
    (hnew : isRepeat (mbxOf s (byteAt env 1)) (parseRequest (env.drop 2)) = false) :
    exec (.request t src dst env) s = .next (after t (fun s =>
      let u := { s with mbx.viaStr := viaString s src dst }
      busyRequest (byteAt env 1) src (parseRequest (env.drop 2)) { u with core.quietSince := u.now }) s) := by
  rw [exec_request]
  exact timed_next ((withEnvelope_handled (s := clocked t s) hreach hserved hpath hlen hop).trans
    (handleRequest_busy (s := viaNoted src dst (clocked t s)) hown hbound hpending hnew))

theorem read_held {h : Response} (hreach : reaches s src dst = true) (hserved : mbxServed s (countedOn src (byteAt env 1)) = true)
    (hpath : pathServes src (byteAt env 1) = true) (hlen : 2 ≤ env.length) (hop : byteAt env 0 = 2)
    (hbound : boundSource s (byteAt env 1) = some src) (hholding : (mbxOf s (byteAt env 1)).phase = .holding)
    (hheld : (mbxOf s (byteAt env 1)).held = some h) :
    exec (.read t src dst env) s = .next (after t (fun s =>
      let h := { h with readCount := min 255 (h.readCount + 1) }
      deliver (byteAt env 1) src h (setMbx (byteAt env 1) (fun b => { b with held := some h })
        { s with mbx.viaStr := viaString s src dst })) s) := by
  have hbound : boundSource (viaNoted src dst (clocked t s)) (byteAt env 1) = some src := hbound
  rw [exec_read]
  refine timed_next ((withEnvelope_handled (s := clocked t s) hreach hserved hpath hlen hop).trans ?_)
  exact (if_neg (bound_own hbound)).trans
    (readAndSend_held (s := viaNoted src dst (clocked t s)) hholding hheld)

theorem read_foreign (hreach : reaches s src dst = true) (hserved : mbxServed s (countedOn src (byteAt env 1)) = true)
    (hpath : pathServes src (byteAt env 1) = true) (hlen : 2 ≤ env.length) (hop : byteAt env 0 = 2)
    (hbound : boundSource s (byteAt env 1) = some b) (hforeign : b ≠ src) :
    exec (.read t src dst env) s = .next (after t (fun s =>
      sendOnce (byteAt env 1) src 0 (causeReply .notAuthorised Ev.mailboxBound)
        (countRefused (byteAt env 1) { s with mbx.viaStr := viaString s src dst })) s) := by
  have hbound : boundSource (viaNoted src dst (clocked t s)) (byteAt env 1) = some b := hbound
  rw [exec_read]
  refine timed_next ((withEnvelope_handled (s := clocked t s) hreach hserved hpath hlen hop).trans ?_)
  exact if_pos (bound_foreign hbound hforeign)

theorem ack_empties {h : Response} (hreach : reaches s src dst = true) (hserved : mbxServed s (countedOn src (byteAt env 1)) = true)
    (hpath : pathServes src (byteAt env 1) = true) (hlen : 2 ≤ env.length) (hop : byteAt env 0 = 3)
    (hbound : boundSource s (byteAt env 1) = some src) (hholding : (mbxOf s (byteAt env 1)).phase = .holding)
    (hheld : (mbxOf s (byteAt env 1)).held = some h) (hseq : h.seq = leAt env 2 2) :
    exec (.ack t src dst env) s = .next (after t (fun s =>
      let u := { s with mbx.viaStr := viaString s src dst }
      setMbx (byteAt env 1) (fun b => { b with phase := .empty, held := none, req := none, emptySince := u.now }) u) s) := by
  have hbound : boundSource (viaNoted src dst (clocked t s)) (byteAt env 1) = some src := hbound
  rw [exec_ack]
  refine timed_next ((withEnvelope_handled (s := clocked t s) hreach hserved hpath hlen hop).trans ?_)
  exact (if_neg (not_not.mpr hbound)).trans
    (ackMailbox_empties (s := viaNoted src dst (clocked t s)) hholding hheld (hseq.trans (leAt_drop env 2 0 2).symm))

theorem commandDone_forms {m : Nat} {r : Reply} {q : Request} (hpending : (mbxOf s m).phase = .pending)
    (hresult : (mbxOf s m).result = some r) (hreq : (mbxOf s m).req = some q) (hspire : s.core.spireUp = true) :
    exec (.commandDone t m) s = .next (after t (fun s =>
      afterResponse m q (formResponse m r (record Ev.commandDone (doneClass r) [(m : Int), q.command, r.status.code] s))) s) := by
  rw [exec_commandDone]
  apply timed_next
  simp only [mbxOf_clocked, hpending, hresult, hreq]
  exact if_pos hspire

theorem mbxIdleRelease_ends {m : Nat} (hm : m < 7) (hdynamic : fixedAddr s m = 0) (hempty : (mbxOf s m).phase = .empty)
    (hbound : (mbxOf s m).bound.isSome = true) (hlong : (mbxOf s m).emptySince + sec (prmN s Prm.mbxIdleRelease) ≤ max s.now t) :
    exec (.mbxIdleRelease t m) s = .next (after t (endBinding m) s) := by
  rw [exec_mbxIdleRelease]
  exact timed_next (if_pos (by simp [hm, hdynamic, hempty, hbound, heldFor, hlong]))

theorem stageTimeout_drops {f : Nat} (howned : (fnOf s f).owner.isSome = true) (hlong : (fnOf s f).stagedAt + sec 600 ≤ max s.now t) :
    exec (.stageTimeout t f) s = .next (after t (setFn f dropStaged) s) := by
  rw [exec_stageTimeout]
  exact timed_next (if_pos (by simp [howned, heldFor, hlong]))

/-- A Spire restart drops staged sets and ends pending requests (13 R383, R389; 01 R18). -/
theorem spireRestart_ends (t : Nat) (s : State) :
    exec (.spireRestart t) s = .next (after t (fun s =>
      let u := record Ev.spireRestart 4 [] s
      let u := flushCrossings 1 { u with
        mbx.fns := u.mbx.fns.map dropStaged, upd.job := u.upd.job.map (fun (j : Install) => { j with mb := none }) }
      eachDo (List.range 8) (fun m s =>
        if (mbxOf s m).phase == .pending then formResponse m (causeReply .execFault Ev.spireRestart) s else s) u) s) := by
  rw [exec_spireRestart]
  exact timed_next rfl

end MailboxRows

/-- Settles O32: what an envelope comes to, what each operation does on a mailbox, and one lemma for each other row. -/
theorem mailboxEnvelopes : Obligations.MailboxEnvelopes := by
  unfold Obligations.MailboxEnvelopes
  exact ⟨fun t src dst env s h => timed_next (withEnvelope_notAddressed (s := clocked t s) h),
    fun t src dst env s h => timed_next (withEnvelope_notServed (s := clocked t s) h),
    fun t src dst env s h1 h2 h3 => timed_next (withEnvelope_mismatch (s := clocked t s) h1 h2 h3),
    fun t src dst env s h => timed_next (withEnvelope_notAddressed (s := clocked t s) h),
    fun t src dst env s h => timed_next (withEnvelope_notServed (s := clocked t s) h),
    fun t src dst env s h1 h2 h3 => timed_next (withEnvelope_mismatch (s := clocked t s) h1 h2 h3),
    fun t src dst env s h => timed_next (withEnvelope_notAddressed (s := clocked t s) h),
    fun t src dst env s h => timed_next (withEnvelope_notServed (s := clocked t s) h),
    fun t src dst env s h1 h2 h3 => timed_next (withEnvelope_mismatch (s := clocked t s) h1 h2 h3),
    fun t src dst env s => request_taken, fun t src b dst env s => request_foreign, fun t src dst env s => request_busy,
    fun m src r s => busyRequest_delivers, fun m body s => takeRequest_pending, fun m body x s => takeRequest_refused,
    fun t src dst env h s => read_held, fun t src b dst env s => read_foreign, fun t src dst env h s => ack_empties,
    fun t m r q s => commandDone_forms, fun m q s => afterResponse_path, fun t m s => mbxIdleRelease_ends,
    fun t f s => stageTimeout_drops, spireRestart_ends⟩

end Sys2Proof.Machine

namespace Sys2Proof.Machine

/-! ## What a started common operation reads of the state -/

@[simp] theorem running_started (m t : Nat) (s : State) (f : Nat) : running (startCommand m (clocked t s)) f = running s f := rfl

@[simp] theorem commonGuard_started (m t : Nat) (s : State) (f k : Nat) (owns : Bool) :
    commonGuard (startCommand m (clocked t s)) f k owns = commonGuard s f k owns := rfl

/-! ## Common operations of a demanded length (13 R382, R385) -/

section CommonLengths

variable {s : State} {m f op n t : Nat} {p : List Byte} {h : Nat → List Byte → State → Answer × State}

theorem common_length_done {k : State → State} (hp : Pend s m (256 * f + op) p) (ho : op < 256) (hlen : p.length = n)
    (hh : h f p (begun t m s) = ok (k (begun t m s))) :
    timed t (serveCommon m op (fun f => withLength n (h f))) s = .next (ended t m doneReply k s) := by
  refine common_ended hp ho fun r hr _ => ?_
  rw [withLength_met (hr ▸ hlen), hr]
  change giveAnswer m (h f p (begun t m s)).1 (h f p (begun t m s)).2 = _
  rw [hh]
  rfl

/-- One that answers with `a` after a change and goes on, or is answered, as the answer says. -/
theorem common_length_answers {a : Answer} {k : State → State} (hp : Pend s m (256 * f + op) p) (ho : op < 256) (hlen : p.length = n)
    (hh : h f p (begun t m s) = (a, k (begun t m s))) :
    timed t (serveCommon m op (fun f => withLength n (h f))) s = .next (going t m (fun s => giveAnswer m a (k s)) s) := by
  refine common_going hp ho fun r hr _ => ?_
  rw [withLength_met (hr ▸ hlen), hr]
  change giveAnswer m (h f p (begun t m s)).1 (h f p (begun t m s)).2 = _
  rw [hh]
  rfl

end CommonLengths

/-! ## Staging and reading (13 R386, R388, R389) -/

section Staging

variable {t m f : Nat} {p : List Byte} {e : Nat × Nat} {l : List (Nat × Nat)} {s : State}

theorem getStatus_reads (hp : Pend s m (256 * f + 0) []) :
    exec (.getStatus t m) s = .next (read t m (fun s => .bytes (statusBlock (fnOf s f))) s) := by
  rw [exec_getStatus]
  refine common_read hp (by decide) fun r hr _ => ?_
  unfold statusHandler
  rw [withLength_met (by rw [hr]; rfl)]
  rfl

/-- A STAGE of 1 to 64 entries, of a stopped function where it is the safety function, is judged by its entries (13 R389, 09 R290). -/
theorem stageHandler_judged {r : Request} (hlen : r.payload.length = 1 + 6 * byteAt r.payload 0) (hsafe : f ≠ 8 ∨ stopped s 8 = true)
    (hleast : 1 ≤ byteAt r.payload 0) (hmost : byteAt r.payload 0 ≤ 64) :
    stageHandler m f r s =
      match (stageEntries r.payload).find? (fun e => e.1 / 256 ≠ f || !inRange e.1 (valueOf e.1 e.2)) with
      | some e => refuse (paramReply .badArgument Ev.paramRange e.1) s
      | none => match commonGuard s f m true with
        | some g => refuse g s
        | none => answerWith (doneWith (.bytes (leBytes 1 (byteAt r.payload 0))))
            (setFn f (fun x => { x with
              staged := (stageEntries r.payload).foldl (fun l e => assocSet l e.1 (valueOf e.1 e.2)) (fnOf s f).staged,
              owner := some m, ownerBinding := (bindingOf s m).getD 0, stagedAt := s.now }) s) := by
  have hstopped : ¬(decide (f = 8) && !stopped s 8) = true := by
    rcases hsafe with h | h <;> simp [h]
  have hsize : ¬(decide (r.payload.length < 1) || decide (r.payload.length ≠ 1 + 6 * byteAt r.payload 0)) = true := by
    simp only [Bool.or_eq_true, decide_eq_true_eq]
    omega
  have hcount : ¬(decide (byteAt r.payload 0 = 0) || decide (64 < byteAt r.payload 0)) = true := by
    simp only [Bool.or_eq_true, decide_eq_true_eq]
    omega
  unfold stageHandler
  dsimp only
  rw [if_neg hstopped, if_neg hsize, if_neg hcount] <;> rfl

section StageFields

variable (hp : Pend s m (256 * f + 2) p) (hlen : p.length = 1 + 6 * byteAt p 0) (hsafe : f ≠ 8 ∨ stopped s 8 = true)
  (hleast : 1 ≤ byteAt p 0) (hmost : byteAt p 0 ≤ 64)
include hp hlen hsafe hleast hmost

theorem stage_stages (hrange : ∀ e ∈ stageEntries p, e.1 / 256 = f ∧ inRange e.1 (valueOf e.1 e.2) = true)
    (hfree : commonGuard s f m true = none) :
    exec (.stage t m) s = .next (ended t m (doneWith (.bytes (leBytes 1 (byteAt p 0)))) (fun s =>
      setFn f (fun x => { x with
        staged := (stageEntries p).foldl (fun l e => assocSet l e.1 (valueOf e.1 e.2)) (fnOf s f).staged,
        owner := some m, ownerBinding := (bindingOf s m).getD 0, stagedAt := s.now }) s) s) := by
  have hall : (stageEntries p).find? (fun e => e.1 / 256 ≠ f || !inRange e.1 (valueOf e.1 e.2)) = none := by
    rw [List.find?_eq_none]
    intro e he
    obtain ⟨hfn, hin⟩ := hrange e he
    simp [hfn, hin]
  rw [exec_stage]
  refine common_ended hp (by decide) fun r hr _ => ?_
  subst hr
  rw [stageHandler_judged (s := startCommand m (clocked t s)) hlen hsafe hleast hmost, hall, commonGuard_started, hfree]
  rfl

theorem stage_outOfRange (hentries : stageEntries p = e :: l)
    (hbad : e.1 / 256 ≠ f ∨ inRange e.1 (valueOf e.1 e.2) = false) :
    exec (.stage t m) s = .next (turnedAway t m (paramReply .badArgument Ev.paramRange e.1) s) := by
  have hfound : (stageEntries p).find? (fun e => e.1 / 256 ≠ f || !inRange e.1 (valueOf e.1 e.2)) = some e := by
    rw [hentries, List.find?_cons_of_pos]
    simpa using hbad
  rw [exec_stage]
  refine common_turned hp (by decide) fun r hr _ => ?_
  subst hr
  rw [stageHandler_judged (s := startCommand m (clocked t s)) hlen hsafe hleast hmost, hfound]
  rfl

end StageFields

theorem readParam_reads (hp : Pend s m (256 * f + 4) p) (hlen : p.length = 2 + 2 * byteAt p 1) (hbank : byteAt p 0 ≤ 1)
    (hleast : 1 ≤ byteAt p 1) (hmost : byteAt p 1 ≤ 64) :
    exec (.readParam t m) s = .next (read t m (fun s => .bytes (leBytes 1 (byteAt p 0) ++ leBytes 1 (byteAt p 1) ++
      (List.range (byteAt p 1)).flatMap (fun i => readEntry s f (byteAt p 0) (leAt p (2 + 2 * i) 2)))) s) := by
  have hsize : ¬(decide (p.length < 2) || decide (p.length ≠ 2 + 2 * byteAt p 1)) = true := by
    simp only [Bool.or_eq_true, decide_eq_true_eq]
    omega
  have hcount : ¬(decide (byteAt p 1 = 0) || decide (64 < byteAt p 1)) = true := by
    simp only [Bool.or_eq_true, decide_eq_true_eq]
    omega
  rw [exec_readParam]
  refine common_read hp (by decide) fun r hr _ => ?_
  subst hr
  unfold readParamHandler
  dsimp only
  rw [if_neg hsize, if_neg (Nat.not_lt.mpr hbank), if_neg hcount]
  rfl

theorem discardStaged_drops (hp : Pend s m (256 * f + 5) []) (hfree : commonGuard s f m true = none) :
    exec (.discardStaged t m) s = .next (ended t m doneReply (setFn f dropStaged) s) := by
  have hfree : commonGuard (begun t m s) f m true = none := hfree
  rw [exec_discardStaged]
  refine common_length_done hp (by decide) rfl ?_
  simp only [hfree]

theorem discardStaged_refused {g : Reply} (hp : Pend s m (256 * f + 5) []) (hguard : commonGuard s f m true = some g) :
    exec (.discardStaged t m) s = .next (going t m (giveAnswer m (.ends g)) s) := by
  have hguard : commonGuard (begun t m s) f m true = some g := hguard
  rw [exec_discardStaged]
  refine common_length_answers (k := fun s => s) hp (by decide) rfl ?_
  simp only [hguard]
  rfl

end Staging

/-! ## STOP, RESTART and COMMIT (13 R390 to R393) -/

section StopAndStart

variable {t m f id : Nat} {p : List Byte} {g : Reply} {s : State}

@[simp] theorem stopped_begun (t m : Nat) (s : State) (f : Nat) : stopped (begun t m s) f = stopped s f := rfl

@[simp] theorem running_begun (t m : Nat) (s : State) (f : Nat) : running (begun t m s) f = running s f := rfl

theorem stop_done (hp : Pend s m (256 * f + 1) []) (hstopped : stopped s f = true) :
    exec (.stop t m) s = .next (ended t m doneReply (fun s => s) s) := by
  rw [exec_stop]
  exact common_length_done hp (by decide) rfl (if_pos (by simp [hstopped]))

theorem stop_refused (hp : Pend s m (256 * f + 1) []) (hrun : stopped s f = false) (hguard : stopGuard (begun t m s) m f = some g) :
    exec (.stop t m) s = .next (going t m (giveAnswer m (.ends g)) s) := by
  rw [exec_stop]
  refine common_length_answers (k := fun s => s) hp (by decide) rfl ?_
  rw [if_neg (by simp [hrun])]
  simp only [hguard]
  rfl

/-- A function whose STOP waits for nothing stops at once (13 R390). -/
theorem stop_stops (hp : Pend s m (256 * f + 1) []) (hrun : stopped s f = false) (hfree : stopGuard (begun t m s) m f = none)
    (hbal : f ≠ 2) (hupd : f ≠ 0x14) (hcan1 : f ≠ 0x0F) (hcan2 : f ≠ 0x10) :
    exec (.stop t m) s = .next (ended t m doneReply (stopNow f) s) := by
  rw [exec_stop]
  refine common_length_done hp (by decide) rfl ?_
  rw [if_neg (by simp [hrun])]
  simp only [hfree]
  rw [if_neg (by simp [hbal]), if_neg hupd, if_neg (by simp [hcan1, hcan2])]

/-- A RESTART or COMMIT that is refused notes why (13 R386). -/
theorem refuseCommit_eq (f : Nat) (g : Reply) (s : State) : refuseCommit f g s = (.ends g, noteCommit f g s) := rfl

theorem restart_running (hp : Pend s m (256 * f + 3) []) (hrun : running s f = true) :
    exec (.restart t m) s = .next (going t m (fun s =>
      answerNow m { status := .functionRunning } (noteCommit f { status := .functionRunning } s)) s) := by
  rw [exec_restart]
  refine common_length_answers (a := .ends { status := .functionRunning }) (k := noteCommit f { status := .functionRunning }) hp (by decide) rfl ?_
  rw [if_pos (by simp [hrun]), refuseCommit_eq]

theorem restart_invalid (hp : Pend s m (256 * f + 3) []) (hstands : running s f = false) (hbad : validate f (begun t m s) = some g) :
    exec (.restart t m) s = .next (going t m (fun s => giveAnswer m (.ends g) (noteCommit f g s)) s) := by
  rw [exec_restart]
  refine common_length_answers (k := noteCommit f g) hp (by decide) rfl ?_
  rw [if_neg (by simp [hstands])]
  simp only [hbad, refuseCommit_eq]

/-- A valid set of a function that neither enumerates rings nor writes a safety set starts it at once (13 R391). -/
theorem restart_starts (hp : Pend s m (256 * f + 3) []) (hstands : running s f = false) (hgood : validate f (begun t m s) = none)
    (hfree : commonGuard (begun t m s) f m true = none) (hring : f ≠ 1) (hsafe : f ≠ 8) :
    exec (.restart t m) s = .next (ended t m doneReply (fun s =>
      resumeFunction f (setFn f (fun x => { x with state := .running }) (noteCommit f doneReply (applyStaged f m s)))) s) := by
  rw [exec_restart]
  refine common_length_done hp (by decide) rfl ?_
  rw [if_neg (by simp [hstands])]
  simp only [hgood, hfree]
  rw [if_neg (by simp [hsafe])]
  exact if_neg hring

section CommitFields

variable (hp : Pend s m Cmd.commit p) (hlen : p.length = 1) (hfn : byteAt p 0 = f) (hknown : f ≤ 0x14) (hrun : running s f = true)
include hp hlen hfn hknown hrun

theorem commit_applies (hsoft : stopNeeded (begun t m s) f = none) (hgood : validate f (begun t m s) = none)
    (hfree : commonGuard (begun t m s) f m true = none) :
    exec (.commit t m) s = .next (ended t m doneReply (fun s => noteCommit f doneReply (applyStaged f m s)) s) := by
  have happlies : commitFunction m f (begun t m s) = ok (noteCommit f doneReply (applyStaged f m (begun t m s))) := by
    unfold commitFunction
    simp only [running_begun, hrun, if_true, hsoft, hgood, hfree]
    rfl
  subst hfn
  rw [exec_commit]
  refine serve_ended hp fun r hr _ => ?_
  rw [withLength_met (hr ▸ hlen), hr, if_neg (Nat.not_lt.mpr hknown)]
  change giveAnswer m (commitFunction m (byteAt p 0) (begun t m s)).1 (commitFunction m (byteAt p 0) (begun t m s)).2 = _
  rw [happlies]
  rfl

theorem commit_stopNeeded (hstop : stopNeeded (begun t m s) f = some id) :
    exec (.commit t m) s = .next (going t m (fun s => answerNow m (paramReply .functionRunning Ev.stopNeeded id)
      (noteCommit f (paramReply .functionRunning Ev.stopNeeded id) s)) s) := by
  have hrefused : commitFunction m f (begun t m s) = refuseCommit f (paramReply .functionRunning Ev.stopNeeded id) (begun t m s) := by
    unfold commitFunction
    simp only [running_begun, hrun, if_true, hstop]
  subst hfn
  rw [exec_commit]
  refine serve_going hp fun r hr _ => ?_
  rw [withLength_met (hr ▸ hlen), hr, if_neg (Nat.not_lt.mpr hknown)]
  change giveAnswer m (commitFunction m (byteAt p 0) (begun t m s)).1 (commitFunction m (byteAt p 0) (begun t m s)).2 = _
  rw [hrefused]
  rfl

end CommitFields

end StopAndStart

/-- Settles O33: one lemma for each answer of a common operation and of COMMIT. -/
theorem stagingAndFunctions : Obligations.StagingAndFunctions := by
  unfold Obligations.StagingAndFunctions
  exact ⟨fun t m f s => getStatus_reads, fun t m f p s => stage_stages, fun t m f p e l s => stage_outOfRange,
    fun t m f p s => readParam_reads, fun t m f s => discardStaged_drops, fun t m f g s => discardStaged_refused,
    fun t m f s => stop_done, fun t m f g s => stop_refused, fun t m f s => stop_stops, fun t m f s => restart_starts,
    fun t m f s => restart_running, fun t m f g s => restart_invalid, fun t m f p s => commit_applies,
    fun t m f id p s => commit_stopNeeded⟩

/-! ## The core commands (13 R397 to R400) -/

section CoreCommands

variable {t m : Nat} {p : List Byte} {s : State}

theorem identify_reads (hp : Pend s m Cmd.identify []) :
    exec (.identify t m) s = .next (read t m (fun s => .bytes (identityBytes s)) s) := by
  rw [exec_identify]
  exact serve_length_read hp rfl rfl

theorem mbxStatus_reads (hp : Pend s m Cmd.mbxStatus []) :
    exec (.mbxStatus t m) s = .next (read t m (fun s => .fields ((List.range 8).map (mbxFields s))) s) := by
  rw [exec_mbxStatus]
  exact serve_length_read hp rfl rfl

theorem getChallenge_answers (hp : Pend s m Cmd.getChallenge []) (hopen : (mbxOf (begun t m s) m).lockedUntil ≤ max s.now t) :
    exec (.getChallenge t m) s = .next (going t m (fun s =>
      let c := (List.range 8).map (Config.randomByte s.core.draws)
      finish m (doneWith (.bytes c)) (setMbx m (fun b => { b with challenge := some (c, s.now) })
        { s with core.draws := s.core.draws + 1 })) s) := by
  have hopen : ¬(startCommand m (clocked t s)).now < (mbxOf (startCommand m (clocked t s)) m).lockedUntil := Nat.not_lt.mpr hopen
  rw [exec_getChallenge]
  refine serve_going hp fun r hr _ => ?_
  rw [withLength_met (by rw [hr]; rfl), if_neg hopen]
  rfl

/-- A release of a dynamic binding is done; the caller's own stands until its response (13 R399). -/
theorem mbxRelease_releases (hp : Pend s m Cmd.mbxRelease p) (hlen : p.length = 1) (hm : byteAt p 0 < 7)
    (hdynamic : fixedAddr s (byteAt p 0) = 0) :
    exec (.mbxRelease t m) s = .next (ended t m doneReply (fun s => if byteAt p 0 = m then s else endBinding (byteAt p 0) s) s) := by
  have hdynamic : fixedAddr (startCommand m (clocked t s)) (byteAt p 0) = 0 := hdynamic
  rw [exec_mbxRelease]
  refine serve_ended hp fun r hr _ => ?_
  rw [withLength_met (hr ▸ hlen), hr]
  dsimp only
  rw [if_neg (by simp [Nat.not_le.mpr hm, hdynamic])]
  rfl

/-- A new key is stored plain while no owner key stands, and its generation counted (13 R398). -/
theorem keySet_stores (hp : Pend s m Cmd.keySet p) (hlen : p.length = 33) (hleast : 1 ≤ byteAt p 0) (hmost : byteAt p 0 ≤ 3)
    (hplain : s.core.keyOwner.key = none) (hsome : ((p.drop 1).take 32).all (· == 0) = false) (hmay : s.thm.forbid = false) :
    exec (.keySet t m) s = .next (ended t m doneReply (fun s =>
      record Ev.keySet 6 [(byteAt p 0 : Int)] (storeKey (byteAt p 0) (some ((p.drop 1).take 32)) s)) s) := by
  rw [exec_keySet]
  refine serve_ended hp fun r hr _ => ?_
  subst hr
  have hkey : newKey (startCommand m (clocked t s)) r = (r.payload.drop 1).take 32 := by
    unfold newKey
    simp only [startCommand_core, clocked_core, hplain]
  have hrole : ¬(decide (byteAt r.payload 0 = 0) || decide (3 < byteAt r.payload 0)) = true := by
    simp only [Bool.or_eq_true, decide_eq_true_eq]
    omega
  unfold keySetHandler
  dsimp only
  rw [if_neg (not_not.mpr hlen), if_neg hrole, hkey, hsome, if_neg (by simp), if_neg (by simp [hmay])]
  rfl

theorem ownerLock_sets (hp : Pend s m Cmd.ownerLock p) (hlen : p.length = 1) (hval : byteAt p 0 ≤ 1) (hmay : s.thm.forbid = false) :
    exec (.ownerLock t m) s = .next (ended t m doneReply (fun s => { s with core.ownerLock := byteAt p 0 = 1 }) s) := by
  rw [exec_ownerLock]
  refine serve_ended hp fun r hr _ => ?_
  rw [withLength_met (hr ▸ hlen), hr, if_neg (Nat.not_lt.mpr hval), if_neg (by simp [hmay])]
  rfl

theorem ownerLock_forbidden (hp : Pend s m Cmd.ownerLock p) (hlen : p.length = 1) (hval : byteAt p 0 ≤ 1) (hforbid : s.thm.forbid = true) :
    exec (.ownerLock t m) s = .next (turnedAway t m (guardReply Ev.nvmTemp) s) := by
  rw [exec_ownerLock]
  refine serve_turned hp fun r hr _ => ?_
  rw [withLength_met (hr ▸ hlen), hr, if_neg (Nat.not_lt.mpr hval), if_pos (by simp [hforbid])]
  rfl

end CoreCommands

/-- Settles O34: one lemma for each answer of a core command; both kinds of release are one, by whose binding it is. -/
theorem coreCommands : Obligations.CoreCommands := by
  unfold Obligations.CoreCommands
  refine ⟨fun t m s => identify_reads, fun t m s => mbxStatus_reads, fun t m s => getChallenge_answers, ?another, ?own,
    fun t m p s => keySet_stores, fun t m p s => ownerLock_sets, fun t m p s => ownerLock_forbidden⟩
  case another =>
    intro t m p s hp hlen hm hdynamic hother
    simpa only [if_neg hother] using mbxRelease_releases hp hlen hm hdynamic
  case own =>
    intro t m p s hp hlen hm hdynamic hown
    simpa only [if_pos hown] using mbxRelease_releases hp hlen hm hdynamic

end Sys2Proof.Machine

namespace Sys2Proof.Machine

/-! ## What the clock leaves of the time unit -/

@[simp] theorem domOf_clocked (t : Nat) (s : State) (d : Nat) : domOf (clocked t s) d = domOf s d := rfl

@[simp] theorem ppsOf_clocked (t : Nat) (s : State) (n : Nat) : ppsOf (clocked t s) n = ppsOf s n := rfl

@[simp] theorem timeRuns_clocked (t : Nat) (s : State) : timeRuns (clocked t s) = timeRuns s := rfl

/-! ## PTP messages (16 R469 to R475) -/

section PtpMessages

variable {t d num seq : Nat} {s : State}

/-- What a message of this module's domain does, none other doing anything. -/
theorem ptp_heard {f g : State → State} (hfor : ptpFor (clocked t s) d num = true) (h : f (clocked t s) = g (clocked t s)) :
    timed t (fun s => if !ptpFor s d num then s else f s) s = .next (after t g s) :=
  timed_next ((if_neg (by simp [hfor])).trans h)

variable (hfor : ptpFor (clocked t s) d num = true)
include hfor

theorem announce_first (gm : Nat) (data : List Nat) (utc : Int) (hfirst : (domOf s d).announceAt = none) :
    exec (.announce t d num gm data utc) s =
      .next (after t (fun s => pinRoute d (setDom d (fun x =>
        { x with gm := gm, best := data.take 5 ++ [gm] ++ data.drop 5, announceAt := some s.now, utc := utc }) s)) s) := by
  rw [exec_announce]
  exact ptp_heard hfor (if_neg (by simp [hfirst]))

theorem announce_worse {gm a : Nat} {data : List Nat} (utc : Int) (hheard : (domOf s d).announceAt = some a)
    (hlive : max s.now t ≤ a + sec 3) (hother : (domOf s d).gm ≠ gm)
    (hworse : listLess (data.take 5 ++ [gm] ++ data.drop 5) (domOf s d).best = false) :
    exec (.announce t d num gm data utc) s = .next (after t (fun s => s) s) := by
  have hworse : listLess (data.take 5 ++ gm :: data.drop 5) (domOf s d).best = false := by simpa using hworse
  rw [exec_announce]
  refine ptp_heard hfor (if_pos ?_)
  simpa [hheard, hother, hworse] using hlive

theorem sync_waits (origin rx corr : Int) (trace : Nat) (hfollows : leads (clocked t s) d = false) :
    exec (.sync t d num seq origin rx corr true trace) s =
      .next (after t (fun s => setDom d (fun x => { x with sync := some (seq, rx, corr, trace) })
        (judgeTraces d (setPlane d (fun p => { p with traces := (some trace, p.traces.2) }) s))) s) := by
  rw [exec_sync]
  refine timed_next ((if_neg ?_).trans (if_pos rfl))
  simp [hfor, hfollows]

theorem followUp_completes {tr : Nat} (origin corr : Int) {rx c : Int} (hsync : (domOf s d).sync = some (seq, rx, c, tr)) :
    exec (.followUp t d num seq origin corr) s = .next (after t (completeSync d (origin + ofNs (c + corr)) rx) s) := by
  rw [exec_followUp]
  refine ptp_heard hfor ?_
  simp only [domOf_clocked, hsync]
  exact if_pos trivial

theorem delayReq_own (src : Nat) (corr : Int) :
    exec (.delayReq t d num seq true src corr) s =
      .next (after t (fun s => emit (.ptp num "Delay_Req" [("seq", [(seq : Int)])])
        (setDom d (fun x => { x with req := some (seq, counterAt s s.now) }) s)) s) := by
  rw [exec_delayReq]
  exact ptp_heard hfor (if_pos rfl)

theorem delayReq_answered (src : Nat) (corr : Int) (hleads : leads (clocked t s) d = true) :
    exec (.delayReq t d num seq false src corr) s =
      .next (after t (fun s => emit (.ptp num "Delay_Resp" [("seq", [(seq : Int)]), ("to", [(src : Int)]),
        ("receive", [counterAt s s.now]), ("correction", [corr])]) s) s) := by
  rw [exec_delayReq]
  exact ptp_heard hfor ((if_neg Bool.false_ne_true).trans (if_pos hleads))

theorem delayResp_measures (trace : Nat) (rx corr : Int) {t3 : Int} (hreq : (domOf s d).req = some (seq, t3)) :
    exec (.delayResp t d num seq rx corr trace) s =
      .next (after t (fun s =>
        let u := judgeTraces d (setPlane d (fun p => { p with traces := (p.traces.1, some trace) }) s)
        judgeTime (setDom d (fun x => { x with
          respAt := some u.now, req := none,
          paths := ((x.t12.map (fun p => [((p.2 - p.1) + (rx - ofNs corr - t3)) / 2])).getD [] ++ x.paths).take 16 }) u)) s) := by
  rw [exec_delayResp]
  refine ptp_heard hfor ?_
  simp only [domOf_clocked, hreq]
  exact if_neg (not_not.mpr rfl)

end PtpMessages

/-! ## Rules of the domains (16 R472, R475) -/

theorem domainLoss_judges {t d : Nat} {s : State} (hd : d < 2) : exec (.domainLoss t d) s = .next (after t judgeTime s) := by
  rw [exec_domainLoss]
  exact timed_next (if_pos hd)

theorem domainDegradedEnd_recovers {t d e : Nat} {s : State} (hend : (domOf s d).degraded = some e) (hpast : e ≤ max s.now t)
    (hsame : (planeOf s d).asym = false) :
    exec (.domainDegradedEnd t d) s = .next (after t (fun s => judgeTime (setDom d (fun x => { x with degraded := none }) s)) s) := by
  have hpast : decide (e ≤ (clocked t s).now) = true := decide_eq_true hpast
  rw [exec_domainDegradedEnd]
  apply timed_next
  simp only [domOf_clocked, planeOf_clocked, hend, hpast, hsame]
  rfl

theorem timePrefReturn_judges (t : Nat) (s : State) : exec (.timePrefReturn t) s = .next (after t judgeTime s) := rfl

/-- Settles O9: one lemma for each message and rule. -/
theorem timeFromPtpDomains : Obligations.TimeFromPtpDomains := by
  unfold Obligations.TimeFromPtpDomains
  exact ⟨fun t d num gm data utc s hfor => announce_first hfor gm data utc,
    fun t d num gm a data utc s hfor => announce_worse hfor utc,
    fun t d num seq origin rx corr trace s hfor => sync_waits hfor origin rx corr trace,
    fun t d num seq tr origin corr rx c s hfor => followUp_completes hfor origin corr,
    fun t d num seq src corr s hfor => delayReq_own hfor src corr,
    fun t d num seq src corr s hfor => delayReq_answered hfor src corr,
    fun t d num seq trace rx corr t3 s hfor => delayResp_measures hfor trace rx corr,
    fun t d s => domainLoss_judges, fun t d e s => domainDegradedEnd_recovers, timePrefReturn_judges⟩

end Sys2Proof.Machine

namespace Sys2Proof.Machine

/-! ## What an edge and the trace limit leave of the time unit (16 R467, R481) -/

/-- A captured edge changes the edge buffer and nothing else. -/
theorem captureEdge_only (src : Nat) (rising : Bool) (stamp : Nat) (s : State) :
    ∃ edges seq mark last lost, captureEdge src rising stamp s =
      { s with tim.edges := edges, tim.edgeSeq := seq, tim.lostMark := mark, tim.lastEdge := last, tim.lost := lost } := by
  unfold captureEdge
  split
  · exact ⟨_, _, _, _, _, rfl⟩
  · split
    · exact ⟨_, _, _, _, _, rfl⟩
    · exact ⟨_, _, _, _, _, rfl⟩

theorem counterAt_captureEdge (src : Nat) (rising : Bool) (stamp : Nat) (s : State) (t : Nat) :
    counterAt (captureEdge src rising stamp s) t = counterAt s t := by
  obtain ⟨_, _, _, _, _, h⟩ := captureEdge_only src rising stamp s
  rw [h]
  rfl

theorem ppsOf_captureEdge (src : Nat) (rising : Bool) (stamp : Nat) (s : State) (n : Nat) :
    ppsOf (captureEdge src rising stamp s) n = ppsOf s n := by
  obtain ⟨_, _, _, _, _, h⟩ := captureEdge_only src rising stamp s
  rw [h]
  rfl

theorem timeRuns_captureEdge (src : Nat) (rising : Bool) (stamp : Nat) (s : State) :
    timeRuns (captureEdge src rising stamp s) = timeRuns s := by
  obtain ⟨_, _, _, _, _, h⟩ := captureEdge_only src rising stamp s
  rw [h]
  rfl

theorem prm_captureEdge (src : Nat) (rising : Bool) (stamp : Nat) (s : State) (id : Nat) :
    prm (captureEdge src rising stamp s) id = prm s id := by
  obtain ⟨_, _, _, _, _, h⟩ := captureEdge_only src rising stamp s
  rw [h]
  rfl

theorem now_captureEdge (src : Nat) (rising : Bool) (stamp : Nat) (s : State) :
    (captureEdge src rising stamp s).now = s.now := by
  obtain ⟨_, _, _, _, _, h⟩ := captureEdge_only src rising stamp s
  rw [h]

theorem timeRuns_setPps (n : Nat) (g : Pps → Pps) (s : State) : timeRuns (setPps n g s) = timeRuns s := rfl

/-- Judging the trace limit makes at most a record and changes TIME_UNTRACEABLE. -/
theorem judgeTrace_cases (s : State) :
    (∃ b, judgeTrace s = { s with tim.untraceable := b }) ∨
      judgeTrace s = record Ev.timeUntraceable 3 [] { s with tim.untraceable := true } := by
  unfold judgeTrace
  dsimp only
  split
  · exact Or.inr rfl
  · exact Or.inl ⟨_, rfl⟩

theorem onGrid_judgeTrace (s : State) (g : Trigger) : onGrid (judgeTrace s) g = onGrid s g := by
  rcases judgeTrace_cases s with ⟨b, h⟩ | h
  · rw [h]
    rfl
  · simp only [h, onGrid, counterAt, record_now, record_tim]
    rfl

theorem mode_judgeTrace (s : State) : (judgeTrace s).core.mode = s.core.mode := by
  rcases judgeTrace_cases s with ⟨b, h⟩ | h <;> simp [h]

theorem prm_judgeTrace (s : State) (id : Nat) : prm (judgeTrace s) id = prm s id := by
  rcases judgeTrace_cases s with ⟨b, h⟩ | h
  · rw [h]
    rfl
  · exact prm_of_eq (by rw [h, record_mbx]) (by rw [h, record_saf]) id

/-! ## PPS and triggers (16 R476, R477, R482) -/

section PpsAndTriggers

variable {t n : Nat} {s : State}

theorem ppsEdge_first (hn : n < 2) (hmode : s.core.mode ≠ .shelf) (hservo : s.tim.servo = false) (hfirst : (ppsOf s n).at_ = none) :
    exec (.ppsEdge t n) s =
      .next (after t (fun s => setPps n (fun p => { p with
          good := 1, at_ := some s.now,
          offset := some (toNs (signedOf 32 ((counterAt s s.now - ofNs (prm s (Prm.ppsADelay + n))) % 4294967296).toNat)) })
        (captureEdge (0x0F + n) true (stampNow s) s)) s) := by
  have hstands : timeRuns (clocked t s) = false := by simp [timeRuns, hservo]
  rw [exec_ppsEdge]
  apply timed_next
  rw [if_neg (by simp [Nat.not_le.mpr hn, hmode])]
  simp only [ppsOf_captureEdge, counterAt_captureEdge, prm_captureEdge, now_captureEdge, timeRuns_setPps, timeRuns_captureEdge,
    ppsOf_clocked, hfirst, hstands]
  simp

theorem ppsInvalid_invalidates {a : Nat} (hedge : (ppsOf s n).at_ = some a) (hlong : a + 1500000000 ≤ max s.now t) :
    exec (.ppsInvalid t n) s =
      .next (after t (fun s => judgeTime (setPps n (fun p => { p with valid := false, good := 0 }) s)) s) := by
  have hlong : decide (a + ms 1500 ≤ (clocked t s).now) = true := decide_eq_true hlong
  rw [exec_ppsInvalid]
  apply timed_next
  simp only [ppsOf_clocked, hedge, Option.map_some, Option.getD_some, hlong, if_true]

theorem ppsOut_drives (hmode : s.core.mode ≠ .shelf) (hopen : prm s Prm.ppsOutGate = 0)
    (hsecond : onGrid (clocked t s) { period := sec 1 } = true) :
    exec (.ppsOut t) s =
      .next (after t (fun s => emit (.pulse "PPS-OUT" 100000000) { judgeTrace s with tim.ppsOut := true }) s) := by
  rw [exec_ppsOut]
  apply timed_next
  simp only [onGrid_judgeTrace, hsecond, ppsGated, prm_judgeTrace, mode_judgeTrace, prm_clocked, hopen, clocked_core]
  simp [hmode]
  rfl

/-- A due one-shot trigger fires and is spent (16 R482). -/
theorem triggerFire_oneShot (hn : n < 32) (hmode : s.core.mode ≠ .shelf) (hon : (s.tim.trig.getD n {}).on = true)
    (honce : (s.tim.trig.getD n {}).period = 0)
    (hdue : diff48 (s.tim.trig.getD n {}).time (stampNow (clocked t s)) ≤ 0) :
    exec (.triggerFire t n) s =
      .next (after t (fun s => ptpSend n (emit (.strobe (s.tim.trig.getD n {}).island n) { s with
        tim.trig := s.tim.trig.modify n (fun g => { g with fired := (g.fired + 1) % 2 ^ 32, on := g.period ≠ 0 }) })) s) := by
  have hready : triggerDue (clocked t s) (s.tim.trig.getD n {}) = true := (if_pos honce).trans (decide_eq_true hdue)
  rw [exec_triggerFire]
  apply timed_next
  simp only [clocked_tim, clocked_core, hready, hon, honce, if_true]
  rw [if_pos (by simp [hn, hmode])]

theorem ptpSend_other (hother : n < 16 ∨ 17 < n) : ptpSend n s = s := if_pos (by simp; tauto)

/-- The trigger of a domain whose master this module is sends the two-step Sync; between whole seconds nothing more (16 R469). -/
theorem ptpSend_master (hn : n = 16 ∨ n = 17) (hruns : ptpRuns s = true) (hleads : leads s (n - 16) = true)
    (hbetween : onGrid s { period := sec 1 } = false) :
    ptpSend n s = emit (.ptp (domNumber s (n - 16)) "Follow_Up"
        [("seq", [(((s.tim.trig.getD n {}).fired % 65536 : Nat) : Int)]), ("origin", [counterAt s s.now])])
      (emit (.ptp (domNumber s (n - 16)) "Sync"
        [("seq", [(((s.tim.trig.getD n {}).fired % 65536 : Nat) : Int)]), ("twoStep", [1])]) s) := by
  unfold ptpSend
  dsimp only
  rw [if_neg (by simp [hruns]; omega), if_pos hleads]
  refine if_neg fun hsends => ?_
  have hwhole : onGrid s { period := sec 1 } = true := (Bool.and_eq_true_iff.mp hsends).2
  rw [hbetween] at hwhole
  exact Bool.false_ne_true hwhole

end PpsAndTriggers

/-! ## The time commands (16 R478, R486) -/

section TimeCommands

variable {t m : Nat} {p : List Byte} {s : State}

@[simp] theorem stepBlock_started (m t : Nat) (s : State) : stepBlock (startCommand m (clocked t s)) = stepBlock s := rfl

theorem stepBlock_energised (hheld : anyEnergised s = true) : stepBlock s = some Ev.contactors := if_pos hheld

theorem stepBlock_free (hopen : anyEnergised s = false) (hsingle : pairMode s = false) : stepBlock s = none := by
  simp [stepBlock, hopen, hsingle]

theorem timeStatus_reads (hp : Pend s m Cmd.timeStatus []) : exec (.timeStatus t m) s = .next (read t m timeStatus s) := by
  rw [exec_timeStatus]
  exact serve_length_read hp rfl rfl

theorem timeEdges_reads (hp : Pend s m Cmd.timeEdges p) (hlen : p.length = 5) (hleast : 1 ≤ byteAt p 4) (hmost : byteAt p 4 ≤ 64) :
    exec (.timeEdges t m) s = .next (read t m (fun s => .bytes (((s.tim.edges.filter
      (fun e => (e.seq + 2 ^ 32 - leAt p 0 4) % 2 ^ 32 < 2 ^ 31)).take (byteAt p 4)).flatMap edgeBytes)) s) := by
  have hcount : ¬(decide (byteAt p 4 = 0) || decide (64 < byteAt p 4)) = true := by
    simp only [Bool.or_eq_true, decide_eq_true_eq]
    omega
  rw [exec_timeEdges]
  refine serve_read hp fun r hr _ => ?_
  subst hr
  rw [withLength_met hlen, if_neg hcount]
  rfl

theorem timeResync_steps {o : Int} (hp : Pend s m Cmd.timeResync []) (hopen : anyEnergised s = false) (hsingle : pairMode s = false)
    (hsrc : s.tim.src < 2) (hoff : (domOf s s.tim.src).offset = some o) :
    exec (.timeResync t m) s = .next (ended t m doneReply (fun s =>
      setDom s.tim.src (fun x => { x with offset := some 0, t12 := none }) (stepCounter (counterAt s s.now - ofNs o) s)) s) := by
  have hsource : sourceOffset (startCommand m (clocked t s)) = some o := (if_pos hsrc).trans hoff
  have hdomain : (startCommand m (clocked t s)).tim.src < 2 := hsrc
  rw [exec_timeResync]
  refine serve_length_done hp rfl ?_
  simp only [stepBlock_started, stepBlock_free hopen hsingle, hsource]
  rw [if_pos hdomain]

theorem timeSet_steps (hp : Pend s m Cmd.timeSet p) (hlen : p.length = 8) (hopen : anyEnergised s = false)
    (hsingle : pairMode s = false) (hnone : ∀ d < 2, (domOf s d).usableSince = none ∧ ppsGood s d = false) :
    exec (.timeSet t m) s = .next (ended t m doneReply (stepCounter (leAt p 0 8)) s) := by
  have hunusable : (List.range 2).any (fun d => (domOf (startCommand m (clocked t s)) d).usableSince.isSome ||
      ppsGood (startCommand m (clocked t s)) d) = false := by
    refine List.any_eq_false.mpr fun d hd => ?_
    obtain ⟨hdomain, hpps⟩ := hnone d (List.mem_range.mp hd)
    change ¬((domOf s d).usableSince.isSome || ppsGood s d) = true
    simp [hdomain, hpps]
  rw [exec_timeSet]
  refine serve_length_done hp hlen ?_
  simp only [stepBlock_started, stepBlock_free hopen hsingle]
  exact if_neg (Bool.eq_false_iff.mp hunusable)

theorem timeResync_refused (hp : Pend s m Cmd.timeResync []) (hheld : anyEnergised s = true) :
    exec (.timeResync t m) s = .next (turnedAway t m (guardReply Ev.contactors) s) := by
  rw [exec_timeResync]
  refine serve_length_guard hp rfl ?_
  simp only [stepBlock_started, stepBlock_energised hheld]

theorem timeSet_refused (hp : Pend s m Cmd.timeSet p) (hlen : p.length = 8) (hheld : anyEnergised s = true) :
    exec (.timeSet t m) s = .next (turnedAway t m (guardReply Ev.contactors) s) := by
  rw [exec_timeSet]
  refine serve_length_guard hp hlen ?_
  simp only [stepBlock_started, stepBlock_energised hheld]

end TimeCommands

/-- Settles O10: one lemma for each edge, trigger and answer. -/
theorem timePpsTriggersAndCommands : Obligations.TimePpsTriggersAndCommands := by
  unfold Obligations.TimePpsTriggersAndCommands
  exact ⟨fun t n s => ppsEdge_first, fun t n a s => ppsInvalid_invalidates, fun t s => ppsOut_drives,
    fun t n s _ => triggerFire_oneShot, fun n s => ptpSend_other, fun n s => ptpSend_master, fun t m s => timeStatus_reads,
    fun t m p s => timeEdges_reads, fun t m o s => timeResync_steps, fun t m p s => timeSet_steps,
    fun t m s => timeResync_refused, fun t m p s => timeSet_refused⟩

end Sys2Proof.Machine

namespace Sys2Proof.Machine

/-! ## What the clock leaves of the pair -/

@[simp] theorem pairRuns_clocked (t : Nat) (s : State) : pairRuns (clocked t s) = pairRuns s := rfl

@[simp] theorem pushes_clocked (t : Nat) (s : State) : pushes (clocked t s) = pushes s := rfl

@[simp] theorem partnerNode_clocked (t : Nat) (s : State) : partnerNode (clocked t s) = partnerNode s := rfl

/-! ## Heartbeats (14 R403 to R408) -/

section Heartbeats

variable {t path src : Nat} {mism : List Nat} {b : List Byte} {s : State}

/-- A waiting swap step is repeated behind the heartbeat (14 R407). -/
theorem heartbeatSend_sends (hpair : pairMode s = true) (hmode : s.core.mode ≠ .shelf) (hheld : s.thm.held = false)
    (hdue : dueAfter (clocked t s) s.pair.hbAt (ms 5) = true) :
    exec (.heartbeatSend t) s = .next (after t (fun s =>
      let u := sendPair 0 (heartbeatBytes s) s
      let u := { u with pair.hbSeq := (u.pair.hbSeq + 1) % 65536, pair.hbAt := some u.now }
      u.pair.swap.elim u (fun w => if w.ramping then u else sendSwap w.step 0 w u)) s) := by
  rw [exec_heartbeatSend]
  refine timed_next ((if_neg (by simp [hpair, hmode, hheld, hdue])).trans ?_)
  dsimp only
  cases (sendPair 0 (heartbeatBytes (clocked t s)) (clocked t s)).pair.swap <;> rfl

theorem heartbeatSend_waits
    (hnot : pairMode s = false ∨ s.core.mode = .shelf ∨ dueAfter (clocked t s) s.pair.hbAt (ms 5) = false) :
    exec (.heartbeatSend t) s = .next (after t (fun s => s) s) := by
  rw [exec_heartbeatSend]
  refine timed_next (if_pos ?_)
  rcases hnot with h | h | h <;> simp [h]

theorem heartbeat_foreign (id : Bool) (mism : List Nat)
    (hnot : pairMode s = false ∨ b.length ≠ 32 ∨ byteAt b 0 ≠ 1 ∨ (path ≠ 0 ∧ src ≠ partnerNode s)) :
    exec (.heartbeat t path src id mism b) s = .next (after t (fun s => s) s) := by
  rw [exec_heartbeat]
  refine timed_next (if_pos ?_)
  rcases hnot with h | h | h | h <;> simp [h]

section WellFormed

variable (hpair : pairMode s = true) (hmode : s.core.mode ≠ .shelf) (hheld : s.thm.held = false) (hlen : b.length = 32)
  (hform : byteAt b 0 = 1) (hsrc : path = 0 ∨ src = partnerNode s)
include hpair hmode hheld hlen hform hsrc

/-- A well-formed heartbeat of the partner's address passes the test of its form. -/
theorem heartbeat_wellFormed :
    ¬(!pairMode (clocked t s) || (clocked t s).core.mode == .shelf || (clocked t s).thm.held || decide (b.length ≠ 32) ||
      decide (byteAt b 0 ≠ 1) || (decide (path ≠ 0) && decide (src ≠ partnerNode (clocked t s)))) = true := by
  rcases hsrc with h | h <;> simp [hpair, hmode, hheld, hlen, hform, h]

theorem heartbeat_foreignProduct (mism : List Nat) (hnew : s.pair.incompatible = false) :
    exec (.heartbeat t path src false mism b) s =
      .next (after t (fun s => record Ev.pairIncompatible 3 [] { s with pair.incompatible := true }) s) := by
  rw [exec_heartbeat]
  refine timed_next ((if_neg (heartbeat_wellFormed hpair hmode hheld hlen hform hsrc)).trans ?_)
  exact if_neg (Bool.eq_false_iff.mp hnew)

theorem heartbeat_notes (mism : List Nat) :
    exec (.heartbeat t path src true mism b) s = .next (after t (fun s =>
      let u := judgePosition (noteHeartbeat path b mism { s with pair.incompatible := false })
      let u := if pathsHealthy u then { u with pair.degraded := false } else u
      let u := if bitOf (byteAt b 1) 1 then
          (if u.pair.stopped then u else record Ev.partnerStopped 3 [] { u with pair.stopped := true })
        else { u with pair.stopped := false }
      if bitOf (byteAt b 1) 0 && !bitOf (byteAt b 1) 1 && running u 0x0B then failPartner u else u) s) := by
  rw [exec_heartbeat]
  exact timed_next (if_neg (heartbeat_wellFormed hpair hmode hheld hlen hform hsrc))

end WellFormed

section Silence

variable (hruns : pairRuns s = true) (hcompatible : s.pair.incompatible = false)
include hruns hcompatible

theorem heartbeatTimeout_fails (hpath : pairSilent (clocked t s) = true) (hfab : fabSilent (clocked t s) = true)
    (hnew : s.pair.failed = false) :
    exec (.heartbeatTimeout t) s = .next (after t failPartner s) := by
  rw [exec_heartbeatTimeout]
  apply timed_next
  rw [if_neg (by simp [hruns, hcompatible]), if_pos (by simp [hpath, hfab])]
  exact if_neg (Bool.eq_false_iff.mp hnew)

theorem heartbeatTimeout_degrades (hpath : pairSilent (clocked t s) = true) (hfab : fabSilent (clocked t s) = false)
    (hnew : s.pair.degraded = false) :
    exec (.heartbeatTimeout t) s =
      .next (after t (fun s => record Ev.pairDegraded 3 [1] { s with pair.degraded := true }) s) := by
  rw [exec_heartbeatTimeout]
  apply timed_next
  rw [if_neg (by simp [hruns, hcompatible]), if_neg (by simp [hfab]), if_pos (by simp [hpath, hnew]), hpath]
  rfl

theorem heartbeatTimeout_nothing (hpath : pairSilent (clocked t s) = false) (hfab : fabSilent (clocked t s) = false) :
    exec (.heartbeatTimeout t) s = .next (after t (fun s => s) s) := by
  rw [exec_heartbeatTimeout]
  apply timed_next
  rw [if_neg (by simp [hruns, hcompatible]), if_neg (by simp [hpath]), if_neg (by simp [hpath, hfab])]

end Silence

end Heartbeats

/-! ## Checkpoints (14 R407, R419) -/

section Checkpoints

variable {t : Nat} {b : List Byte} {s : State}

theorem checkpointPush_pushes (hactive : pushes s = true) (hdue : dueAfter (clocked t s) s.pair.ckptAt (sec 1) = true) :
    exec (.checkpointPush t) s = .next (after t pushCheckpoint s) := by
  rw [exec_checkpointPush]
  exact timed_next (if_pos (by simp [hactive, hdue]))

theorem checkpointPush_waits (hearly : dueAfter (clocked t s) s.pair.ckptAt (sec 1) = false) :
    exec (.checkpointPush t) s = .next (after t (fun s => s) s) := by
  rw [exec_checkpointPush]
  exact timed_next (if_neg (by simp [hearly]))

theorem checkpointBlock_collects (hruns : pairRuns s = true) (hstandby : s.pair.standby = true)
    (hcompatible : s.pair.incompatible = false) :
    exec (.checkpointBlock t b) s = .next (after t (collectBlock b) s) := by
  rw [exec_checkpointBlock]
  exact timed_next (if_pos (by simp [hruns, hstandby, hcompatible]))

theorem collectBlock_bad (hbad : blockGood b = false) : collectBlock b s = { s with pair.partialCkpt := none } :=
  if_pos (by simp [hbad])

/-- A good block neither first nor last that follows on what was collected is appended. -/
theorem collectBlock_next {l : List Byte} (hgood : blockGood b = true) (hfirst : bitOf (byteAt b 1) 0 = false)
    (hlast : bitOf (byteAt b 1) 1 = false) (hpart : s.pair.partialCkpt = some (leAt b 4 4, l)) (hnext : l.length = leAt b 8 4) :
    collectBlock b s = { s with pair.partialCkpt := some (leAt b 4 4, l ++ b.drop 24) } := by
  simp [collectBlock, hgood, hpart, hfirst, hlast, hnext]

theorem takeCheckpoint_badCrc (q : Nat) (hbad : crc32 (b.take 116240) ≠ leAt b 116240 4) : takeCheckpoint q b s = s := if_pos hbad

end Checkpoints

/-- Settles O35: one lemma for each message, silence and block. -/
theorem pairHeartbeatsAndCheckpoints : Obligations.PairHeartbeatsAndCheckpoints := by
  unfold Obligations.PairHeartbeatsAndCheckpoints
  exact ⟨fun t s => heartbeatSend_sends, fun t s => heartbeatSend_waits, fun t path src id mism b s => heartbeat_foreign id mism,
    fun t path src mism b s hpair hmode hheld hlen hform hsrc => heartbeat_foreignProduct hpair hmode hheld hlen hform hsrc mism,
    fun t path src mism b s hpair hmode hheld hlen hform hsrc => heartbeat_notes hpair hmode hheld hlen hform hsrc mism,
    fun t s => heartbeatTimeout_fails, fun t s => heartbeatTimeout_degrades, fun t s => heartbeatTimeout_nothing,
    fun t s => checkpointPush_pushes, fun t s => checkpointPush_waits, fun t b s => checkpointBlock_collects,
    fun b s => collectBlock_bad, fun b l s => collectBlock_next, fun q b s => takeCheckpoint_badCrc q⟩

end Sys2Proof.Machine

namespace Sys2Proof.Machine

/-! ## The steps of a planned hand-over (14 R407, R424) -/

@[simp] theorem following_clocked (t : Nat) (s : State) : following (clocked t s) = following s := rfl

section SwapSteps

variable {t a : Nat} {b d : List Byte} {w : Swap} {s : State}

theorem swapPrepare_wakes (hform : swapStep 1 b = true) (hruns : pairRuns s = true) (hfollows : following s = true)
    (hfree : s.pair.swap = none) (hidle : s.pair.takeover = none) :
    exec (.swapPrepare t b) s = .next (after t (fun s =>
      let w : Swap := ⟨false, leAt b 2 2, leAt b 4 2, 2, s.now, false, 0, leAt b 24 4, none, s.disp.target⟩
      let u := setMode .watch 0 { s with pair.swap := some w, pair.swapReady := true, core.pairStandbyProfile := false }
      sendSwap 2 0 w (eachDo (fittedLanes u) trainLane (openPorts 1 (openPorts 0 u)))) s) := by
  rw [exec_swapPrepare]
  exact timed_next (if_neg (by simp [hform, hruns, hfollows, hfree, hidle]))

section Waiting

variable (hswap : s.pair.swap = some w)
include hswap

theorem swapReady_ramps (hform : swapStep 2 b = true) (hactive : w.active = true) (hstep : w.step = 1) (hid : leAt b 2 2 = w.id) :
    exec (.swapReady t b) s = .next (after t (fun s =>
      let u := rampToZero { s with
        pair.swap := some { w with step := 2, since := s.now, ramping := true }, disp.ending := 3, disp.endAt := s.now }
      let u := { u with disp.target := { u.disp.target with rate := some (prmN u Prm.swapRamp) } }
      if !switching u && currentBelow u then orderlyOff u else u) s) := by
  rw [exec_swapReady]
  apply timed_next
  simp only [clocked_pair, hswap]
  exact if_neg (by simp [hform, hactive, hstep, hid])

/-- A HAND for this standby is judged by the checkpoint that it holds. -/
theorem swapHand_loads (hform : swapStep 3 b = true) (hactive : w.active = false) (hstep : w.step = 2)
    (hid : leAt b 2 2 = w.id) (hheld : s.pair.held = some (leAt b 24 4, a, d)) :
    exec (.swapHand t b) s = .next (after t (fun s =>
      loadCheckpoint a d { s with pair.swap := some { w with step := 3, since := s.now, mark := leAt b 8 8 } }) s) := by
  rw [exec_swapHand]
  apply timed_next
  simp only [clocked_pair, hswap, hheld]
  rw [if_neg (by simp [hform, hactive, hstep, hid]), if_true]

theorem swapHand_fails (hform : swapStep 3 b = true) (hactive : w.active = false) (hstep : w.step = 2) (hid : leAt b 2 2 = w.id)
    (hheld : s.pair.held = none) :
    exec (.swapHand t b) s = .next (after t (fun s => failSwap (sendSwap 5 Ev.ckptStale w s)) s) := by
  rw [exec_swapHand]
  apply timed_next
  simp only [clocked_pair, hswap, hheld]
  exact if_neg (by simp [hform, hactive, hstep, hid])

theorem swapTaken_ends (hform : swapStep 4 b = true) (hactive : w.active = true) (hstep : w.step = 3) (hid : leAt b 2 2 = w.id) :
    exec (.swapTaken t b) s = .next (after t (fun s =>
      becomeStandby (finishJob w.mb Cmd.pairSwap doneReply { s with pair.swap := none, disp.ending := 0 })) s) := by
  rw [exec_swapTaken]
  apply timed_next
  simp only [clocked_pair, hswap]
  exact if_neg (by simp [hform, hactive, hstep, hid])

theorem swapAbort_fails (hform : swapStep 5 b = true) (hid : leAt b 2 2 = w.id) :
    exec (.swapAbort t b) s = .next (after t failSwap s) := by
  rw [exec_swapAbort]
  apply timed_next
  simp only [clocked_pair, hswap]
  exact if_pos (by simp [hform, hid])

theorem swapStepTimeout_fails (hstill : w.ramping = false) (hlate : w.since + swapLimit (clocked t s) w ≤ max s.now t) :
    exec (.swapStepTimeout t) s = .next (after t (fun s => failSwap (sendSwap 5 Ev.swapFailed w s)) s) := by
  have hpast : decide ((clocked t s).now < w.since + swapLimit (clocked t s) w) = false := decide_eq_false (Nat.not_lt.mpr hlate)
  rw [exec_swapStepTimeout]
  apply timed_next
  simp only [clocked_pair, hswap, hstill, hpast]
  exact if_neg Bool.false_ne_true

theorem failSwap_standby (hactive : w.active = false) :
    failSwap s = becomeStandby (record Ev.swapFailed 3 [(w.step : Int)] { s with pair.swap := none, pair.swapReady := false }) := by
  unfold failSwap
  simp only [hswap]
  exact if_neg (Bool.eq_false_iff.mp hactive)

end Waiting

end SwapSteps

/-! ## PAIR_SWAP (14 R424) -/

section PairSwap

variable {t m c : Nat} {s : State} (hp : Pend s m Cmd.pairSwap [])
include hp

theorem pairSwap_prepares (hfree : swapBlock (begun t m s) = none) :
    exec (.pairSwap t m) s = .next (going t m (fun s =>
      let u := pushCheckpoint s
      let id := (u.pair.swapId + 1) % 65536
      let w : Swap := ⟨true, id, u.pair.highest + 1, 1, u.now, false, 0, u.pair.ckptSeq, some m, u.disp.target⟩
      sendSwap 1 0 w { u with pair.swap := some w, pair.swapId := id }) s) := by
  have hfree : swapBlock (startCommand m (clocked t s)) = none := hfree
  rw [exec_pairSwap]
  refine serve_length_going hp rfl ?_
  simp only [hfree]

theorem pairSwap_refused (hblock : swapBlock (begun t m s) = some c) :
    exec (.pairSwap t m) s = .next (turnedAway t m (guardReply c) s) := by
  have hblock : swapBlock (startCommand m (clocked t s)) = some c := hblock
  rw [exec_pairSwap]
  refine serve_length_guard hp rfl ?_
  simp only [hblock]

end PairSwap

/-- Settles O36: one lemma for each step, with its failures. -/
theorem pairSwapSteps : Obligations.PairSwapSteps := by
  unfold Obligations.PairSwapSteps
  exact ⟨fun t b s => swapPrepare_wakes, fun t b w s => swapReady_ramps, fun t b d w a s => swapHand_loads,
    fun t b w s => swapHand_fails, fun t b w s => swapTaken_ends, fun t b w s => swapAbort_fails,
    fun t w s => swapStepTimeout_fails, fun s w => failSwap_standby, fun t m s => pairSwap_prepares,
    fun t m c s => pairSwap_refused⟩

end Sys2Proof.Machine

namespace Sys2Proof.Machine

/-! ## Claim rounds (14 R409 to R416) -/

@[simp] theorem takesPart_clocked (t : Nat) (s : State) : takesPart (clocked t s) = takesPart s := rfl

@[simp] theorem claimCode_clocked (t : Nat) (s : State) : claimCode (clocked t s) = claimCode s := rfl

@[simp] theorem anyEnergised_clocked (t : Nat) (s : State) : anyEnergised (clocked t s) = anyEnergised s := rfl

theorem passMark_noSwap {s : State} (hfree : s.pair.swap = none) : passMark s = s := by
  simp only [passMark, hfree]

theorem dropRole_keepsRole {s : State} (hrole : s.pair.role ≠ 8 ∨ inMode s [.watch, .connect, .run, .hold] = true) :
    dropRole s = s :=
  if_neg (by rcases hrole with h | h <;> simp [h])

section ClaimRounds

variable {t o fld : Nat} {lo fr fol : Bool} {s : State}

theorem claimRound_none (hnot : pairMode s = false ∨ s.core.mode = .shelf ∨ roundStarts (clocked t s) o = false) :
    exec (.claimRound t o lo fr fld fol) s = .next (after t (fun s => s) s) := by
  rw [exec_claimRound]
  refine timed_next (if_pos ?_)
  rcases hnot with h | h | h <;> simp [h]

/-- A round that a module without a hand-over takes part in: it drives its code and its field, and judges the line. -/
theorem claimRound_driven (hpair : pairMode s = true) (hmode : s.core.mode ≠ .shelf) (hheld : s.thm.held = false)
    (hfree : s.pair.swap = none) (hpart : takesPart s = true) (hstarts : roundStarts (clocked t s) o = true)
    (hrole : s.pair.role ≠ 8 ∨ inMode s [.watch, .connect, .run, .hold] = true) :
    exec (.claimRound t o lo fr fld fol) s = .next (after t (fun s =>
      let u := emit (.claim (claimCode s) (ownField s)) s
      if roundFaulted lo fr fld then
        let v := if s.pair.role == 8 then { u with pair.losingSince := some (u.pair.losingSince.getD u.now) } else u
        if v.pair.lineFault then v else record Ev.claimLineFault 3 [] { v with pair.lineFault := true }
      else afterRound true (decide (o < claimCode s)) (max (claimCode s) o) fld (fol || following s) u) s) := by
  have hsame : dropRole (passMark (clocked t s)) = clocked t s := by
    rw [passMark_noSwap (s := clocked t s) hfree]
    exact dropRole_keepsRole hrole
  have hpart : takesPart (clocked t s) = true := hpart
  rw [exec_claimRound]
  apply timed_next
  rw [if_neg (by simp [hpair, hmode, hheld, hstarts]), hsame]
  simp only [hpart, if_true]
  rfl

theorem claimRound_valid (hpair : pairMode s = true) (hmode : s.core.mode ≠ .shelf) (hheld : s.thm.held = false)
    (hfree : s.pair.swap = none) (hpart : takesPart s = true) (hsound : roundFaulted lo fr fld = false)
    (hstarts : roundStarts (clocked t s) o = true)
    (hrole : s.pair.role ≠ 8 ∨ inMode s [.watch, .connect, .run, .hold] = true) :
    exec (.claimRound t o lo fr fld fol) s = .next (after t (fun s =>
      afterRound true (decide (o < claimCode s)) (max (claimCode s) o) fld (fol || following s)
        (emit (.claim (claimCode s) (ownField s)) s)) s) := by
  rw [claimRound_driven hpair hmode hheld hfree hpart hstarts hrole]
  simp only [hsound, Bool.false_eq_true, if_false]

theorem claimRound_faulted (hpair : pairMode s = true) (hmode : s.core.mode ≠ .shelf) (hheld : s.thm.held = false)
    (hfree : s.pair.swap = none) (hpart : takesPart s = true) (hrole : s.pair.role ≠ 8) (hfault : roundFaulted lo fr fld = true)
    (hnew : s.pair.lineFault = false) (hstarts : roundStarts (clocked t s) o = true) :
    exec (.claimRound t o lo fr fld fol) s = .next (after t (fun s =>
      let u := emit (.claim (claimCode s) (ownField s)) s
      record Ev.claimLineFault 3 [] { u with pair.lineFault := true }) s) := by
  have hrole8 : ¬((clocked t s).pair.role == 8) = true := by simpa using hrole
  have hfirst : ¬(emit (.claim (claimCode (clocked t s)) (ownField (clocked t s))) (clocked t s)).pair.lineFault = true := by simp [hnew]
  rw [claimRound_driven hpair hmode hheld hfree hpart hstarts (Or.inl hrole)]
  simp only [after, hfault, if_true, if_neg hrole8]
  rw [if_neg hfirst]

end ClaimRounds

/-! ## Followed outputs, start-up and the standby self-test (14 R416, R418, R421) -/

section Alone

variable {t a n : Nat} {s : State}

theorem holdFollowExpiry_opens (hpair : pairMode s = true) (htoken : s.pair.token = false) (hlast : s.pair.holderAt = some a)
    (hlong : a + sec 2 ≤ max s.now t) (hheld : anyEnergised s = true) (hidle : s.pair.takeover = none) :
    exec (.holdFollowExpiry t) s = .next (after t (fun s =>
      { eachDo (List.range 4) openCoil s with pair.follow := List.replicate 4 false }) s) := by
  have hsilent : heldOpt (clocked t s) s.pair.holderAt (sec 2) = true := heldOpt_some hlast hlong
  have hcalm : ¬((clocked t s).pair.takeover == some .claiming && (clocked t s).pair.lineFault && !(clocked t s).pair.blocked) = true := by
    simp [hidle]
  rw [exec_holdFollowExpiry]
  apply timed_next
  refine (if_neg ?_).trans ?_
  · simp [hpair, htoken, hsilent, hheld]
  · simp only [if_neg hcalm]

theorem pairStartup_standby (hruns : pairRuns s = true) (hmode : s.core.mode = .watch) (hidle : s.pair.takeover = none)
    (hlistens : s.pair.listening = some n) (hlong : 100 ≤ n) (hheard : s.pair.heard8 = true) :
    exec (.pairStartup t) s = .next (after t becomeStandby s) := by
  rw [exec_pairStartup]
  apply timed_next
  simp only [clocked_pair, hlistens]
  refine (if_neg ?_).trans (if_pos hheard)
  simp [hruns, hmode, hidle, Nat.not_lt.mpr hlong]

theorem pairStartup_claims (hruns : pairRuns s = true) (hmode : s.core.mode = .watch) (hidle : s.pair.takeover = none)
    (hlistens : s.pair.listening = some n) (hlong : 100 ≤ n) (hunheard : s.pair.heard8 = false) (hlonger : 150 ≤ n) :
    exec (.pairStartup t) s =
      .next (after t (fun s => { s with pair.role := 8, pair.listening := none, pair.losingSince := none }) s) := by
  rw [exec_pairStartup]
  apply timed_next
  simp only [clocked_pair, hlistens]
  refine (if_neg ?_).trans ((if_neg (by simp [hunheard])).trans (if_neg ?_))
  · simp [hruns, hmode, hidle, Nat.not_lt.mpr hlong]
  · simp [Nat.not_lt.mpr hlonger]

theorem pairStartFault_records (hruns : pairRuns s = true) (hlosing : s.pair.losingSince = some a) (hlong : a + sec 2 ≤ max s.now t)
    (hactive : s.pair.standby = false) (hunheard : s.pair.heard8 = false) (hnew : s.pair.startFault = false) :
    exec (.pairStartFault t) s =
      .next (after t (fun s => record Ev.pairStartFault 3 [] { s with pair.startFault := true }) s) := by
  have hsince : heldOpt (clocked t s) s.pair.losingSince (sec 2) = true := heldOpt_some hlosing hlong
  rw [exec_pairStartFault]
  exact timed_next (if_pos (by simp [hruns, hsince, hactive, hunheard, hnew]))

theorem standbySelfTest_waits (ce ee : List Bool) (rb : Bool) (hearly : dueAfter (clocked t s) s.pair.selfTestAt (sec 60) = false) :
    exec (.standbySelfTest t ce ee rb) s = .next (after t (fun s => s) s) := by
  rw [exec_standbySelfTest]
  exact timed_next (if_pos (by simp [hearly]))

theorem standbySelfTest_judges (ce ee : List Bool) (rb : Bool) (hruns : pairRuns s = true) (hstandby : s.pair.standby = true)
    (hidle : s.pair.takeover = none) (hmode : s.core.mode = .dormant)
    (hdue : dueAfter (clocked t s) s.pair.selfTestAt (sec 60) = true) :
    exec (.standbySelfTest t ce ee rb) s = .next (after t (fun s =>
      (let it := bit (ce.all id && ee.all id) 0 + bit (ckptFit s) 1 + bit rb 2 +
          bit ((s.pair.probedAt.map (fun a => decide (s.now ≤ a + sec 60))).getD false) 3
        let u := judgeCapacity { s with
          ctrl.eng := s.ctrl.eng.mapIdx (fun i (e : Engine) =>
            if ce.getD i true then { e with test := some (ce.getD i true) }
            else { e with test := some (ce.getD i true), role := .out }),
          est.engines := min s.est.engines ((ee.filter id).length + (4 - ee.length)),
          pair.testItems := it, pair.testOk := it = 15, pair.selfTestAt := some s.now }
        if it = 15 then { u with pair.unfit := false }
        else if u.pair.unfit then u
        else record Ev.standbyUnfit 3 [(15 : Int) - it] { u with pair.unfit := true })) s) := by
  rw [exec_standbySelfTest]
  exact timed_next (if_neg (by simp [hruns, hstandby, hidle, hmode, hdue]))

end Alone

/-! ## The override and the pair commands (14 R425 to R429) -/

section PairCommands

variable {t m e : Nat} {b : List Byte} {s : State}

theorem pairOverrideEnd_ends (hover : s.pair.override = some e) (hpast : e ≤ max s.now t) :
    exec (.pairOverrideEnd t) s = .next (after t endOverride s) := by
  rw [exec_pairOverrideEnd]
  apply timed_next
  simp only [clocked_pair, hover]
  exact if_pos hpast

theorem pairOverrideEnd_nothing (hnone : s.pair.override = none) :
    exec (.pairOverrideEnd t) s = .next (after t (fun s => s) s) := by
  rw [exec_pairOverrideEnd]
  apply timed_next
  simp only [clocked_pair, hnone]

section Override

variable (hp : Pend s m Cmd.pairOverride b) (hlen : b.length = 2)
include hp hlen

theorem pairOverride_off (hzero : leAt b 0 2 = 0) :
    exec (.pairOverride t m) s =
      .next (ended t m doneReply (fun s => if s.pair.override.isSome then endOverride s else s) s) := by
  rw [exec_pairOverride]
  refine serve_ended hp fun r hr _ => ?_
  subst hr
  rw [withLength_met hlen, if_neg (by simp [hzero]), if_pos hzero]
  rfl

theorem pairOverride_on (hsome : leAt b 0 2 ≠ 0) (hmost : leAt b 0 2 ≤ 600) (hopen : contactorsClosed s = false)
    (hpair : pairMode s = true) (halone : s.pair.role8At = none) :
    exec (.pairOverride t m) s = .next (ended t m doneReply (fun s =>
      { s with pair.role := 15, pair.override := some (s.now + sec (leAt b 0 2)), pair.listening := none }) s) := by
  have hopen : ¬contactorsClosed (startCommand m (clocked t s)) = true := Bool.eq_false_iff.mp hopen
  rw [exec_pairOverride]
  refine serve_ended hp fun r hr _ => ?_
  subst hr
  rw [withLength_met hlen, if_neg (Nat.not_lt.mpr hmost), if_neg hsome, if_neg hopen, if_neg (by simp [hpair, halone])]
  rfl

theorem pairOverride_refused (hsome : leAt b 0 2 ≠ 0) (hmost : leAt b 0 2 ≤ 600) (hclosed : contactorsClosed s = true) :
    exec (.pairOverride t m) s = .next (turnedAway t m (guardReply Ev.contactors) s) := by
  have hclosed : contactorsClosed (startCommand m (clocked t s)) = true := hclosed
  rw [exec_pairOverride]
  refine serve_turned hp fun r hr _ => ?_
  subst hr
  rw [withLength_met hlen, if_neg (Nat.not_lt.mpr hmost), if_neg hsome, if_pos hclosed]
  rfl

end Override

theorem healthReport_goesOut (sfp : List (List Nat)) (hmode : s.core.mode ≠ .shelf) (hheld : s.thm.held = false)
    (hdue : dueAfter (clocked t s) s.pair.healthAt (sec 10) = true) :
    exec (.healthReport t sfp) s = .next (after t (fun s =>
      let u := eachDo (allPorts.zip sfp) (fun e s => setPort e.1.1 e.1.2 (fun x => { x with sfp := e.2 }) s) s
      let b := healthBytes u
      let u := { u with pair.health := some b, pair.healthAt := some u.now }
      if prmN u Prm.healthDest = 0 then u else sendFlow 7 4 false (prmN u Prm.healthDest) b u) s) := by
  rw [exec_healthReport]
  exact timed_next (if_neg (by simp [hmode, hheld, hdue]))

theorem pairStatus_reads (hp : Pend s m Cmd.pairStatus []) : exec (.pairStatus t m) s = .next (read t m pairStatus s) := by
  rw [exec_pairStatus]
  exact serve_length_read hp rfl rfl

theorem healthRead_reads (hp : Pend s m Cmd.healthRead []) :
    exec (.healthRead t m) s = .next (read t m (fun s => .bytes (fixLen 128 (s.pair.health.getD []))) s) := by
  rw [exec_healthRead]
  exact serve_length_read hp rfl rfl

theorem pairCkptNow_pushes (hp : Pend s m Cmd.pairCkptNow []) (hactive : pushes s = true) :
    exec (.pairCkptNow t m) s = .next (ended t m doneReply pushCheckpoint s) := by
  have hactive : pushes (startCommand m (clocked t s)) = true := hactive
  rw [exec_pairCkptNow]
  exact serve_length_done hp rfl (if_pos hactive)

theorem pairCkptNow_refused (hp : Pend s m Cmd.pairCkptNow []) (hnot : pushes s = false) :
    exec (.pairCkptNow t m) s = .next (turnedAway t m (guardReply Ev.pairRole) s) := by
  have hnot : ¬pushes (startCommand m (clocked t s)) = true := Bool.eq_false_iff.mp hnot
  rw [exec_pairCkptNow]
  exact serve_length_guard hp rfl (if_neg hnot)

end PairCommands

/-- Settles O37: one lemma for each round, row and answer. -/
theorem pairClaimAndCommands : Obligations.PairClaimAndCommands := by
  unfold Obligations.PairClaimAndCommands
  exact ⟨fun t o lo fr fld fol s => claimRound_none, fun t o lo fr fld fol s => claimRound_valid,
    fun t o lo fr fld fol s => claimRound_faulted, fun t a s => holdFollowExpiry_opens, fun t n s => pairStartup_standby,
    fun t n s => pairStartup_claims, fun t a s => pairStartFault_records, fun t ce ee rb s => standbySelfTest_judges ce ee rb,
    fun t ce ee rb s => standbySelfTest_waits ce ee rb, fun t e s => pairOverrideEnd_ends, fun t s => pairOverrideEnd_nothing,
    fun t m b s => pairOverride_off, fun t m b s => pairOverride_on, fun t m b s => pairOverride_refused,
    fun t sfp s => healthReport_goesOut sfp, fun t m s => pairStatus_reads, fun t m s => healthRead_reads,
    fun t m s => pairCkptNow_pushes, fun t m s => pairCkptNow_refused⟩

end Sys2Proof.Machine

namespace Sys2Proof.Machine

/-! ## What the clock and a changed plane leave of the fabric -/

@[simp] theorem portOn_clocked (t : Nat) (s : State) (p k : Nat) : portOn (clocked t s) p k = portOn s p k := rfl

@[simp] theorem portOf_clocked (t : Nat) (s : State) (p k : Nat) : portOf (clocked t s) p k = portOf s p k := rfl

@[simp] theorem planeOn_clocked (t : Nat) (s : State) (p : Nat) : planeOn (clocked t s) p = planeOn s p := rfl

@[simp] theorem judgePlane_mode (p : Nat) (s : State) : (judgePlane p s).core.mode = s.core.mode := rfl

theorem planeOf_setPlane {s : State} {p : Nat} (g : Plane → Plane) (hp : p < s.fab.plane.length) :
    planeOf (setPlane p g s) p = g (planeOf s p) := by
  simp [planeOf, setPlane, hp]

/-! ## Hellos and adjacencies (15 R440 to R443) -/

section Hellos

variable {t p k a : Nat} {h : List Byte} {s : State}

theorem helloSend_sends (t p k : Nat) (s : State) : exec (.helloSend t p k) s = .next (after t (fun s => sendHello p k false s) s) := rfl

theorem hello_nothing
    (hnot : portOn s p k = false ∨ helloFormed p h = false ∨ (leAt h 0 2 = s.fab.node ∧ leAt h 4 8 = s.core.serial)) :
    exec (.hello t p k h) s = .next (after t (fun s => s) s) := by
  rw [exec_hello]
  apply timed_next
  rcases hnot with hoff | hform | ⟨-, hserial⟩
  · exact if_pos (by simp [hoff])
  · exact if_pos (by simp [hform])
  · split
    case isTrue => rfl
    case isFalse => rw [if_neg (by simp [hserial]), if_pos (by simp [hserial])]

section Taken

variable (hon : portOn s p k = true) (hform : helloFormed p h = true)
include hon hform

theorem hello_duplicate (hnode : leAt h 0 2 = s.fab.node) (hserial : leAt h 4 8 ≠ s.core.serial) :
    exec (.hello t p k h) s = .next (after t (duplicateAddress p (leAt h 4 8)) s) := by
  rw [exec_hello]
  refine timed_next ((if_neg ?_).trans (if_pos ?_))
  · simp [hon, hform]
  · simp [hnode, hserial]

theorem hello_taken (hnode : leAt h 0 2 ≠ s.fab.node) (hserial : leAt h 4 8 ≠ s.core.serial) :
    exec (.hello t p k h) s = .next (after t (takeHello p k h) s) := by
  rw [exec_hello]
  refine timed_next ((if_neg ?_).trans ((if_neg ?_).trans (if_neg hserial)))
  · simp [hon, hform]
  · simp [hnode]

end Taken

theorem helloDead_drops (hport : isPort p k = true) (hlast : (portOf s p k).helloAt = some a)
    (hlong : a + ms 100 * prmN s (Prm.helloDead + 256 * p) ≤ max s.now t) :
    exec (.helloDead t p k) s = .next (after t (fun s =>
      dropAdj p k (setPort p k (fun x => { x with nbr := none, rcvd := [], delays := [], halfOut := none }) s)) s) := by
  have hdead : heldOpt (clocked t s) (portOf s p k).helloAt (ms 100 * prmN s (Prm.helloDead + 256 * p)) = true :=
    heldOpt_some hlast hlong
  rw [exec_helloDead]
  exact timed_next (if_pos (Bool.and_eq_true_iff.mpr ⟨hport, hdead⟩))

theorem pcsSyncLoss_drops (hport : isPort p k = true) :
    exec (.pcsSyncLoss t p k) s = .next (after t (fun s =>
      dropAdj p k (setPort p k (fun x => { x with link := false, nbr := none, rcvd := [], delays := [], halfOut := none }) s)) s) := by
  rw [exec_pcsSyncLoss]
  exact timed_next (if_pos hport)

theorem judgeAdj_adjacent (hnew : (portOf s p k).adj = false) (hthree : 3 ≤ (portOf s p k).good)
    (hsingle : (portOf s p k).multi = false) :
    judgeAdj p k s = judgePlane p (planeChanged p (setPort p k (fun x => { x with adj := true }) s)) :=
  if_pos (by simp [hnew, hthree, hsingle])

theorem judgeAdj_few (hfew : (portOf s p k).good < 3) : judgeAdj p k s = s := if_neg (by simp [Nat.not_le.mpr hfew])

end Hellos

/-! ## Advertisements (15 R445) -/

section Advertisements

variable {t p k c : Nat} {a b : Lsa} {s : State}

theorem lsaSend_floods (hp : p < 2) (hon : planeOn s p = true) (hdue : floodDue (clocked t s) p = true) :
    exec (.lsaSend t p) s = .next (after t (fun s =>
      let n := ((planeOf s p).lsaSeq + 1) % 2 ^ 32
      let a := ownLsa s p n
      flood p 0 a (storeLsa p a (setPlane p (fun x => { x with lsaSeq := n, floodAt := some s.now, changed := false }) s))) s) := by
  rw [exec_lsaSend]
  exact timed_next (if_pos (by simp [hp, hon, hdue]))

theorem lsaSend_waits (hearly : floodDue (clocked t s) p = false) :
    exec (.lsaSend t p) s = .next (after t (fun s => s) s) := by
  rw [exec_lsaSend]
  exact timed_next (if_neg (by simp [hearly]))

theorem lsa_unheard (hnot : portOn s p k = false ∨ (portOf s p k).adj = false) :
    exec (.lsa t p k a) s = .next (after t (fun s => s) s) := by
  rw [exec_lsa]
  exact timed_next (if_pos (by rcases hnot with h | h <;> simp [h]))

section Heard

variable (hon : portOn s p k = true) (hadj : (portOf s p k).adj = true)
include hon hadj

/-- An old copy of this node's own advertisement makes it send anew. -/
theorem lsa_own (hnode : a.origin = s.fab.node) (hserial : a.serial = s.core.serial)
    (hnewer : newerSeq a.seq (planeOf s p).lsaSeq = true) :
    exec (.lsa t p k a) s = .next (after t (setPlane p (fun x => { x with lsaSeq := a.seq, changed := true })) s) := by
  rw [exec_lsa]
  refine timed_next ((if_neg ?_).trans ((if_pos hnode).trans ((if_neg (not_not.mpr hserial)).trans (if_pos hnewer))))
  simp [hon, hadj]

theorem lsa_first (hnode : a.origin ≠ s.fab.node) (hempty : (planeOf s p).lsdb = []) :
    exec (.lsa t p k a) s = .next (after t (fun s => flood p k a (storeLsa p a (judgeString p a.origin s))) s) := by
  rw [exec_lsa]
  refine timed_next ((if_neg ?_).trans ((if_neg hnode).trans ?_))
  · simp [hon, hadj]
  · simp only [planeOf_clocked, hempty, List.find?_nil, if_true]

theorem lsa_older (hnode : a.origin ≠ s.fab.node) (hheld : (planeOf s p).lsdb = [(b, c)]) (horigin : b.origin = a.origin)
    (holder : newerSeq a.seq b.seq = false) :
    exec (.lsa t p k a) s = .next (after t (fun s => s) s) := by
  have hfound : [(b, c)].find? (fun e => e.1.origin = a.origin) = some (b, c) := by simp [horigin]
  rw [exec_lsa]
  refine timed_next ((if_neg ?_).trans ((if_neg hnode).trans ?_))
  · simp [hon, hadj]
  · simp only [planeOf_clocked, hheld, hfound, holder]
    exact if_neg Bool.false_ne_true

end Heard

theorem lsaAgeOut_removes (t p o : Nat) (s : State) :
    exec (.lsaAgeOut t p o) s = .next (after t (fun s =>
      setPlane p (fun x => { x with lsdb := x.lsdb.filter (fun e => e.1.origin ≠ o || s.now < e.2 + ms 3500) }) s) s) := rfl

end Advertisements

/-! ## Routes, flows and planes (15 R446, R450, R455) -/

section Planes

variable {t p a c b : Nat} {f : Flow} {s : State}

theorem routeCompute_routes (hp : p < 2) (hrun : running s (0x0C + p) = true) :
    exec (.routeCompute t p) s = .next (after t (fun s =>
      pinRoute p (moveFlows (judgePlane p (setPlane p (fun x => { x with routes := routesOf s p }) s)))) s) := by
  rw [exec_routeCompute]
  exact timed_next (if_pos (by simp [hp, hrun]))

theorem flowReturn_returns (hflow : s.fab.flows = [f]) (haddr : f.addr = a) (hcls : f.cls = c) (hback : f.backSince = some b)
    (hlong : b + sec 1 ≤ max s.now t) (hroute : (routeTo s (prmN s Prm.fabricPref) a).isSome = true) :
    exec (.flowReturn t a c) s = .next (after t (fun s =>
      { s with fab.flows := [{ f with plane := prmN s Prm.fabricPref, backSince := none }] }) s) := by
  have hheld : heldOpt (clocked t s) f.backSince (sec 1) = true := heldOpt_some hback hlong
  have hroute : (routeTo (clocked t s) (prmN (clocked t s) Prm.fabricPref) a).isSome = true := hroute
  rw [exec_flowReturn]
  apply timed_next
  simp only [clocked_fab, hflow, List.map_cons, List.map_nil]
  rw [if_pos (by simp only [haddr, hcls, hheld, hroute, decide_true, Bool.and_true])]

theorem planeFailed_records (hp : p < 2) (hmode : s.core.mode ≠ .shelf) (hcond : (planeOf (judgePlane p (clocked t s)) p).cond.1 = true)
    (hup : (planeOf (judgePlane p (clocked t s)) p).failed = false)
    (hlong : heldFor (judgePlane p (clocked t s)) (planeOf (judgePlane p (clocked t s)) p).cond.2 (ms 100) = true) :
    exec (.planeFailed t p) s = .next (after t (fun s => record (Ev.planeFailed + 256 * p) 3 []
      (setPlane p (fun x => { x with failed := true, declaredAt := s.now }) (judgePlane p s))) s) := by
  rw [exec_planeFailed]
  apply timed_next
  simp only [if_pos hp]
  rw [if_pos (by simp [hp, hmode, hcond, hup, hlong])]
  rfl

theorem planeFailed_once (hp : p < 2) (hdown : (planeOf (judgePlane p (clocked t s)) p).failed = true) :
    exec (.planeFailed t p) s = .next (after t (judgePlane p) s) := by
  rw [exec_planeFailed]
  apply timed_next
  simp only [if_pos hp]
  exact if_neg (by simp [hdown])

theorem planeUp_recovers (hp : p < 2) (hcond : (planeOf (judgePlane p (clocked t s)) p).cond.1 = false)
    (hdown : (planeOf (judgePlane p (clocked t s)) p).failed = true)
    (hlong : heldFor (judgePlane p (clocked t s)) (planeOf (judgePlane p (clocked t s)) p).cond.2 (ms 100) = true) :
    exec (.planeUp t p) s = .next (after t (fun s =>
      setPlane p (fun x => { x with failed := false, declaredAt := s.now }) (judgePlane p s)) s) := by
  rw [exec_planeUp]
  apply timed_next
  simp only [if_pos hp]
  rw [if_pos (by simp [hp, hcond, hdown, hlong])]
  rfl

theorem judgePlane_cond (hchange : (planeOf s p).cond.1 ≠ planeFailing s p) (hp : p < s.fab.plane.length) :
    (planeOf (judgePlane p s) p).cond = (planeFailing s p, s.now) := by
  unfold judgePlane
  rw [planeOf_setPlane _ hp, if_neg hchange]

end Planes

/-- Settles O38: one lemma for each message, row and rule of the fabric. -/
theorem fabricAdjacencyAndAdvertisements : Obligations.FabricAdjacencyAndAdvertisements := by
  unfold Obligations.FabricAdjacencyAndAdvertisements
  exact ⟨helloSend_sends, fun t p k h s => hello_nothing, fun t p k h s => hello_duplicate, fun t p k h s => hello_taken,
    fun t p k a s => helloDead_drops, fun t p k s => pcsSyncLoss_drops, fun t p s => lsaSend_floods, fun t p s => lsaSend_waits,
    fun t p k a s => lsa_unheard, fun t p k a s => lsa_own, fun t p k a s => lsa_first, fun t p k a b c s => lsa_older,
    lsaAgeOut_removes, fun t p s => routeCompute_routes, fun t a c b f s => flowReturn_returns, fun t p s => planeFailed_records,
    fun t p s => planeFailed_once, fun t p s => planeUp_recovers, fun s p => judgePlane_cond, fun p k s => judgeAdj_adjacent,
    fun p k s => judgeAdj_few⟩

end Sys2Proof.Machine

namespace Sys2Proof.Machine

/-! ## Received frames (15 R432 to R437, R447) -/

@[simp] theorem forThisNode_clocked (t : Nat) (s : State) (dst : Nat) : forThisNode (clocked t s) dst = forThisNode s dst := rfl

/-- Using a flow leaves the node address. -/
theorem useFlow_node (a c : Nat) (g : Flow → Flow) (s : State) : (useFlow a c g s).2.fab.node = s.fab.node := by
  unfold useFlow
  dsimp only
  split
  · rfl
  · split
    · rfl
    · split <;> rfl

theorem receiveFrame_node (b : List Byte) (s : State) : (receiveFrame b s).fab.node = s.fab.node := by
  have hcount : (countPtp b s).fab = s.fab := by
    unfold countPtp
    dsimp only
    split <;> rfl
  unfold receiveFrame
  rw [useFlow_node, hcount]

section Received

variable {t p k : Nat} {f : FabFrame} {s : State}

theorem fabricFrame_closed (hoff : portOn s p k = false) :
    exec (.fabricFrameReceive t p k f) s = .next (after t (fun s => s) s) := by
  rw [exec_fabricFrameReceive]
  exact timed_next (if_pos (by simp [hoff]))

section Open

variable (hon : portOn s p k = true)
include hon

theorem fabricFrame_damaged (hbad : f.fcsOk = false ∨ f.body.length + 18 < 64 ∨ 1266 < f.body.length + 18) :
    exec (.fabricFrameReceive t p k f) s =
      .next (after t (setPort p k (fun x => { x with crcErrors := x.crcErrors + 1 })) s) := by
  rw [exec_fabricFrameReceive]
  refine timed_next ((if_neg (by simp [hon])).trans (if_pos ?_))
  rcases hbad with h | h | h <;> simp only [h, decide_true, Bool.not_false, Bool.or_true, Bool.true_or]

section Whole

variable (hfcs : f.fcsOk = true) (hleast : 64 ≤ f.body.length + 18) (hmost : f.body.length + 18 ≤ 1266)
include hfcs hleast hmost

/-- A frame with the right FCS and a length of the range passes the first two tests. -/
theorem fabricFrame_whole {g : State → State} (h :
    (if f.tagged then setPort p k (fun x => { x with tagged := x.tagged + 1 }) (clocked t s)
      else if !f.addressed || f.ethertype ≠ prmN (clocked t s) Prm.fabricEthertype then
        setPort p k (fun x => { x with foreign := x.foreign + 1 }) (clocked t s)
      else if !headerGood f.body then
        setPort p k (fun x => { x with badHeader := x.badHeader.modify (min 4 (byteAt f.body 1 % 8)) (· + 1) }) (clocked t s)
      else if (portOf (clocked t s) p k).multi && byteAt f.body 3 ≠ 1 then clocked t s
      else
        let u := if forThisNode (clocked t s) (leAt f.body 4 2) then receiveFrame f.body (clocked t s) else clocked t s
        if forThisNode u (leAt f.body 4 2) && leAt f.body 4 2 ≠ 0xFFFF then u else forwardFrame p k f.residence f.body u) =
      g (clocked t s)) :
    exec (.fabricFrameReceive t p k f) s = .next (after t g s) := by
  rw [exec_fabricFrameReceive]
  refine timed_next ((if_neg (by simp [hon])).trans ((if_neg ?_).trans h))
  simp [hfcs, Nat.not_lt.mpr hleast, Nat.not_lt.mpr hmost]

theorem fabricFrame_tagged (htag : f.tagged = true) :
    exec (.fabricFrameReceive t p k f) s = .next (after t (setPort p k (fun x => { x with tagged := x.tagged + 1 })) s) :=
  fabricFrame_whole hon hfcs hleast hmost (if_pos htag)

section Untagged

variable (htag : f.tagged = false)
include htag

theorem fabricFrame_foreign (hforeign : f.addressed = false ∨ f.ethertype ≠ prmN s Prm.fabricEthertype) :
    exec (.fabricFrameReceive t p k f) s = .next (after t (setPort p k (fun x => { x with foreign := x.foreign + 1 })) s) :=
  fabricFrame_whole hon hfcs hleast hmost
    ((if_neg (by simp [htag])).trans (if_pos (by rcases hforeign with h | h <;> simp [h])))

variable (haddr : f.addressed = true) (htype : f.ethertype = prmN s Prm.fabricEthertype)
include haddr htype

theorem fabricFrame_badHeader (hbad : headerGood f.body = false) :
    exec (.fabricFrameReceive t p k f) s = .next (after t (setPort p k (fun x =>
      { x with badHeader := x.badHeader.modify (min 4 (byteAt f.body 1 % 8)) (· + 1) })) s) :=
  fabricFrame_whole hon hfcs hleast hmost
    ((if_neg (by simp [htag])).trans ((if_neg (by simp [haddr, htype])).trans (if_pos (by simp [hbad]))))

section Good

variable (hgood : headerGood f.body = true) (hsingle : (portOf s p k).multi = false)
include hgood hsingle

/-- A frame with a good header, of a port with one neighbour, is delivered or passed on. -/
theorem fabricFrame_good {g : State → State} (h :
    (let u := if forThisNode (clocked t s) (leAt f.body 4 2) then receiveFrame f.body (clocked t s) else clocked t s
      if forThisNode u (leAt f.body 4 2) && leAt f.body 4 2 ≠ 0xFFFF then u else forwardFrame p k f.residence f.body u) =
      g (clocked t s)) :
    exec (.fabricFrameReceive t p k f) s = .next (after t g s) :=
  fabricFrame_whole hon hfcs hleast hmost ((if_neg (by simp [htag])).trans ((if_neg (by simp [haddr, htype])).trans
    ((if_neg (by simp [hgood])).trans ((if_neg (by simp [hsingle])).trans h))))

theorem fabricFrame_delivered (hdst : leAt f.body 4 2 = s.fab.node) (hnode : s.fab.node ≠ 0xFFFF) :
    exec (.fabricFrameReceive t p k f) s = .next (after t (receiveFrame f.body) s) := by
  have hown : forThisNode (clocked t s) (leAt f.body 4 2) = true := by simp [forThisNode, hdst]
  have hstill : forThisNode (receiveFrame f.body (clocked t s)) (leAt f.body 4 2) = true := by
    simp [forThisNode, receiveFrame_node, hdst]
  refine fabricFrame_good hon hfcs hleast hmost htag haddr htype hgood hsingle ?_
  rw [if_pos hown]
  exact if_pos (Bool.and_eq_true_iff.mpr ⟨hstill, decide_eq_true (hdst ▸ hnode)⟩)

theorem fabricFrame_passedOn (hdst : forThisNode s (leAt f.body 4 2) = false) :
    exec (.fabricFrameReceive t p k f) s = .next (after t (forwardFrame p k f.residence f.body) s) := by
  have hother : ¬forThisNode (clocked t s) (leAt f.body 4 2) = true := Bool.eq_false_iff.mp hdst
  refine fabricFrame_good hon hfcs hleast hmost htag haddr htype hgood hsingle ?_
  rw [if_neg hother]
  exact if_neg (by simp [hdst])

end Good

end Untagged

end Whole

end Open

end Received

/-! ## Frames in transit (15 R437, R447) -/

section Transit

variable {p k n : Nat} {b : List Byte} {r : Route} {s : State}

theorem forwardFrame_dormant (hmode : s.core.mode = .dormant) : forwardFrame p k n b s = s :=
  if_pos (by simp [carriesTransit, hmode])

section Unicast

variable (hcarries : carriesTransit s = true) (hhello : byteAt b 3 ≠ 1) (hlsa : byteAt b 3 ≠ 2) (hone : leAt b 4 2 ≠ 0xFFFF)
include hcarries hhello hlsa hone

theorem forwardFrame_expired (hhops : byteAt b 2 = 0) :
    forwardFrame p k n b s = setPort p k (fun x => { x with hopExpired := x.hopExpired + 1 }) s :=
  (if_neg (by simp [hcarries, hhello, hlsa])).trans ((if_neg hone).trans (if_pos hhops))

variable (hhops : byteAt b 2 ≠ 0)
include hhops

theorem forwardFrame_routed (hroute : routeTo s p (leAt b 4 2) = some r) :
    forwardFrame p k n b s = transitOn p r.port k n b s := by
  refine (if_neg (by simp [hcarries, hhello, hlsa])).trans ((if_neg hone).trans ((if_neg hhops).trans ?_))
  simp only [hroute]

theorem forwardFrame_dropped (hroute : routeTo s p (leAt b 4 2) = none) :
    forwardFrame p k n b s = setPort p k (fun x => { x with drops := x.drops.modify (byteAt b 1 % 8) (· + 1) }) s := by
  refine (if_neg (by simp [hcarries, hhello, hlsa])).trans ((if_neg hone).trans ((if_neg hhops).trans ?_))
  simp only [hroute]

end Unicast

end Transit

/-! ## The fabric commands (15 R462) -/

section FabricCommands

variable {t m q : Nat} {b : List Byte} {e : Lsa × Nat} {s : State}

theorem fabStatus_reads (hp : Pend s m (0x0C00 + 16 + 256 * q) []) (hq : q < 2) :
    exec (.fabStatus t m) s = .next (read t m (fun s => .fields ([("node", [(s.fab.node : Int), flag s.fab.provisional]),
      ("plane", [flag (planeOf s q).failed])] ++ [1, 2, 3].map (portFields s q))) s) := by
  rw [exec_fabStatus]
  refine plane_read hp hq fun r hr _ => ?_
  unfold statusHandler
  rw [withLength_met (by rw [hr]; rfl)]
  rfl

theorem fabRoutes_reads (hp : Pend s m (0x0C00 + 0x11 + 256 * q) b) (hq : q < 2) (hlen : b.length = 3) (hleast : byteAt b 2 ≠ 0)
    (hmost : byteAt b 2 ≤ 64) :
    exec (.fabRoutes t m) s = .next (read t m (fun s => .fields ((List.range (byteAt b 2)).filterMap
      (fun i => routeFields s q (leAt b 0 2 + i)))) s) := by
  rw [exec_fabRoutes]
  refine plane_read hp hq fun r hr _ => ?_
  subst hr
  rw [withLength_met hlen, if_neg (by simp [hleast, Nat.not_lt.mpr hmost])]
  rfl

theorem fabLsdb_reads (hp : Pend s m (0x0C00 + 0x12 + 256 * q) b) (hq : q < 2) (hlen : b.length = 2)
    (hheld : (planeOf s q).lsdb.find? (fun e => e.1.origin = leAt b 0 2) = some e) :
    exec (.fabLsdb t m) s = .next (read t m (fun s => .fields [("age", [((s.now - e.2 : Nat) : Int)]),
      ("lsa", (lsaBytes e.1).map (fun x => (x.toNat : Int)))]) s) := by
  have hheld : (planeOf (startCommand m (clocked t s)) q).lsdb.find? (fun e => e.1.origin = leAt b 0 2) = some e := hheld
  rw [exec_fabLsdb]
  refine plane_read hp hq fun r hr _ => ?_
  subst hr
  rw [withLength_met hlen]
  simp only [hheld]
  rfl

theorem fabFlows_reads (hp : Pend s m (0x0C00 + 19 + 256 * q) []) (hq : q < 2) :
    exec (.fabFlows t m) s =
      .next (read t m (fun s => .fields (("full", [(s.fab.full : Int)]) :: s.fab.flows.map flowFields)) s) := by
  rw [exec_fabFlows]
  refine plane_read hp hq fun r hr _ => ?_
  unfold statusHandler
  rw [withLength_met (by rw [hr]; rfl)]
  rfl

theorem fabClearCounters_clears (hp : Pend s m (0x0C00 + 20 + 256 * q) []) (hq : q < 2) :
    exec (.fabClearCounters t m) s =
      .next (ended t m doneReply (fun s => setPlane q (fun x => { x with port := x.port.map clearPort }) s) s) := by
  rw [exec_fabClearCounters]
  refine plane_ended hp hq fun r hr _ => ?_
  rw [withLength_met (by rw [hr]; rfl)]
  rfl

end FabricCommands

/-- Settles O39: one lemma for each end of a frame and for each command. -/
theorem fabricFramesFlowsAndCommands : Obligations.FabricFramesFlowsAndCommands := by
  unfold Obligations.FabricFramesFlowsAndCommands
  exact ⟨fun t p k f s => fabricFrame_closed, fun t p k f s => fabricFrame_damaged, fun t p k f s => fabricFrame_tagged,
    fun t p k f s => fabricFrame_foreign, fun t p k f s => fabricFrame_badHeader, fun t p k f s => fabricFrame_delivered,
    fun t p k f s => fabricFrame_passedOn, fun p k n b s => forwardFrame_expired, fun p k n b r s => forwardFrame_routed,
    fun p k n b s => forwardFrame_dropped, fun p k n b s => forwardFrame_dormant, fun t m q s => fabStatus_reads,
    fun t m q b s => fabRoutes_reads, fun t m q b e s => fabLsdb_reads, fun t m q s => fabFlows_reads,
    fun t m q s => fabClearCounters_clears⟩

end Sys2Proof.Machine

namespace Sys2Proof.Machine

/-! ## The CAN controllers as the operations leave them -/

@[simp] theorem canOf_clocked (t : Nat) (s : State) (c : Nat) : canOf (clocked t s) c = canOf s c := rfl

@[simp] theorem canHears_clocked (t : Nat) (s : State) (c : Nat) : canHears (clocked t s) c = canHears s c := rfl

@[simp] theorem canSends_clocked (t : Nat) (s : State) (c : Nat) : canSends (clocked t s) c = canSends s c := rfl

theorem canOf_setCan {s : State} {c : Nat} (g : Can → Can) (hc : c < s.bus.can.length) : canOf (setCan c g s) c = g (canOf s c) := by
  simp [canOf, setCan, hc]

/-- The receive error counter after a frame heard (17 R488). -/
def hearFrame (x : Can) : Can := confine { x with rec_ := if 127 < x.rec_ then 127 else x.rec_ - 1 }

/-- Fault confinement changes the bus state only. -/
theorem confine_only (x : Can) : ∃ b, confine x = { x with bus := b } := by
  unfold confine
  split <;> exact ⟨_, rfl⟩

theorem hearFrame_rx (x : Can) : (hearFrame x).rx = x.rx := by
  obtain ⟨b, h⟩ := confine_only { x with rec_ := if 127 < x.rec_ then 127 else x.rec_ - 1 }
  rw [hearFrame, h]

theorem hearFrame_gapped (x : Can) : (hearFrame x).gapped = x.gapped := by
  obtain ⟨b, h⟩ := confine_only { x with rec_ := if 127 < x.rec_ then 127 else x.rec_ - 1 }
  rw [hearFrame, h]

theorem hearFrame_overrun (x : Can) : (hearFrame x).overrun = x.overrun := by
  obtain ⟨b, h⟩ := confine_only { x with rec_ := if 127 < x.rec_ then 127 else x.rec_ - 1 }
  rw [hearFrame, h]

theorem storeFrame_full {f : CanFrame} {n : Nat} {c : Can} (hfull : 64 ≤ c.rx.length) :
    storeFrame f n c = { c with overrun := (c.overrun + 1) % 2 ^ 32, gapped := true } := if_pos hfull

theorem storeFrame_room {f : CanFrame} {n : Nat} {c : Can} (hroom : c.rx.length < 64) :
    storeFrame f n c = { c with rx := c.rx ++ [⟨c.seq, c.gapped, n, f⟩], seq := (c.seq + 1) % 65536, gapped := false } :=
  if_neg (Nat.not_le.mpr hroom)

/-- The filters follow from the mailbox and safety state. -/
theorem accepted_of_eq {s u : State} (hm : u.mbx = s.mbx) (hs : u.saf = s.saf) (c : Nat) (f : CanFrame) :
    accepted u c f = accepted s c f := by
  have hprm : ∀ i, prmN u i = prmN s i := prmN_of_eq hm hs
  simp only [accepted, filters, canPrm, hprm]

/-! ## Reception (17 R494 to R496) -/

section Reception

variable {t c : Nat} {f : CanFrame} {s : State}

theorem canFrameReceive_deaf (hnot : 2 ≤ c ∨ canHears s c = false) :
    exec (.canFrameReceive t c f) s = .next (after t (fun s => s) s) := by
  rw [exec_canFrameReceive]
  exact timed_next (if_pos (by rcases hnot with h | h <;> simp [h]))

/-- A frame that a hearing controller receives: `w` is the state after the wake that its identifier may give. -/
theorem canFrameReceive_heard {g w : State → State} (hc : c < 2) (hhears : canHears s c = true)
    (hwake : (if c = 0 && !f.ide && f.id = prmN (clocked t s) Prm.wakeCanId then wakeNow 0 (clocked t s) else clocked t s) =
      w (clocked t s))
    (h : (if c = 0 && mapMode (setCan c hearFrame (w (clocked t s))) then setCan c hearFrame (w (clocked t s))
        else if accepted (setCan c hearFrame (w (clocked t s))) c f then
          setCan c (storeFrame f (stampNow (setCan c hearFrame (w (clocked t s))))) (setCan c hearFrame (w (clocked t s)))
        else setCan c hearFrame (w (clocked t s))) = g (clocked t s)) :
    exec (.canFrameReceive t c f) s = .next (after t g s) := by
  rw [exec_canFrameReceive]
  refine timed_next ((if_neg (by simp [Nat.not_le.mpr hc, hhears])).trans ?_)
  rw [hwake]
  exact h

theorem canFrameReceive_stored (hc : c < 2) (hhears : canHears s c = true) (hid : f.id ≠ prmN s Prm.wakeCanId)
    (hmap : c = 1 ∨ mapMode s = false) (haccepted : accepted s c f = true) :
    exec (.canFrameReceive t c f) s = .next (after t (fun s => setCan c (storeFrame f (stampNow s))
      (setCan c (fun x => confine { x with rec_ := if 127 < x.rec_ then 127 else x.rec_ - 1 }) s)) s) := by
  have hopen : ¬(decide (c = 0) && mapMode (setCan c hearFrame (clocked t s))) = true := by
    rcases hmap with h | h
    · simp [h]
    · have h : mapMode (setCan c hearFrame (clocked t s)) = false := h
      simp [h]
  exact canFrameReceive_heard (w := fun s => s) hc hhears (if_neg (by simp [hid])) ((if_neg hopen).trans (if_pos haccepted))

theorem canFrameReceive_mapped (hc : c = 0) (hhears : canHears s c = true) (hid : f.id ≠ prmN s Prm.wakeCanId)
    (hmap : mapMode s = true) :
    exec (.canFrameReceive t c f) s = .next (after t (setCan c (fun x =>
      confine { x with rec_ := if 127 < x.rec_ then 127 else x.rec_ - 1 })) s) := by
  have hmap : mapMode (setCan c hearFrame (clocked t s)) = true := hmap
  exact canFrameReceive_heard (w := fun s => s) (by omega) hhears (if_neg (by simp [hid])) (if_pos (by simp [hc ▸ hmap, hc]))

theorem canFrameReceive_wakes (hc : c = 0) (hhears : canHears s c = true) (hide : f.ide = false)
    (hid : f.id = prmN s Prm.wakeCanId) (hmap : mapMode (wakeNow 0 (clocked t s)) = true) :
    exec (.canFrameReceive t c f) s = .next (after t (fun s => setCan c (fun x =>
      confine { x with rec_ := if 127 < x.rec_ then 127 else x.rec_ - 1 }) (wakeNow 0 s)) s) := by
  have hmap : mapMode (setCan c hearFrame (wakeNow 0 (clocked t s))) = true := hmap
  exact canFrameReceive_heard (w := wakeNow 0) (by omega) hhears (if_pos (by simp [hc, hide, hid])) (if_pos (by simp [hc ▸ hmap, hc]))

/-- What a reception leaves of the controller without a map on its port, whether or not the frame wakes the module. -/
theorem canFrameReceive_can (hc : c < 2) (hhears : canHears (clocked t s) c = true) (hmap : c = 0 → mapMode s = false)
    (hlen : s.bus.can.length = 2) :
    ∃ u n, exec (.canFrameReceive t c f) s = .next u ∧
      canOf u c = if accepted s c f then storeFrame f n (hearFrame (canOf s c)) else hearFrame (canOf s c) := by
  obtain ⟨w, hwake, hcan, hmbx, hsaf, hseals⟩ : ∃ w : State,
      (if c = 0 && !f.ide && f.id = prmN (clocked t s) Prm.wakeCanId then wakeNow 0 (clocked t s) else clocked t s) = w ∧
        CanSame w (clocked t s) := by
    split
    · exact ⟨_, rfl, wakeNow_can 0 _⟩
    · exact ⟨_, rfl, rfl, rfl, rfl, rfl⟩
  have hopen : ¬(decide (c = 0) && mapMode (setCan c hearFrame w)) = true := by
    have hsame : mapMode (setCan c hearFrame w) = mapMode s := congrArg (·.getLsbD 7) hseals
    rw [hsame]
    simpa using hmap
  have hw : c < w.bus.can.length := by rw [hcan]; exact hlen ▸ hc
  have hheard : canOf (setCan c hearFrame w) c = hearFrame (canOf s c) := by
    rw [canOf_setCan _ hw, canOf, hcan]
    rfl
  have hlen' : c < (setCan c hearFrame w).bus.can.length := by simpa [setCan] using hw
  refine ⟨_, stampNow (setCan c hearFrame w), canFrameReceive_heard (w := fun _ => w) (g := fun _ =>
    if accepted s c f then setCan c (storeFrame f (stampNow (setCan c hearFrame w))) (setCan c hearFrame w) else setCan c hearFrame w)
    hc hhears hwake ((if_neg hopen).trans ?_), ?_⟩
  · rw [accepted_of_eq (u := setCan c hearFrame w) hmbx hsaf]
    rfl
  · change canOf (if accepted s c f then setCan c (storeFrame f (stampNow (setCan c hearFrame w))) (setCan c hearFrame w)
      else setCan c hearFrame w) c = _
    split
    · rw [canOf_setCan _ hlen', hheard]
    · exact hheard

end Reception

/-! ## Attempts and bus-off (17 R490 to R492) -/

section Attempts

variable {t c h m : Nat} {e : CanTxEntry} {x : Bool} {l : List CanTxEntry} {s : State}

theorem nextEntry_express {y : Can} (hexpress : y.express = some e) : nextEntry y = some (e, true) := by
  simp only [nextEntry, hexpress]

theorem nextEntry_queued {y : Can} (hnone : y.express = none) (htx : y.tx = e :: l) : nextEntry y = some (e, false) := by
  simp only [nextEntry, hnone, htx]

theorem canTxAttempt_commits (hc : c < 2) (hsends : canSends s c = true) (hfree : (canOf s c).onBus = none)
    (hnext : nextEntry (canOf s c) = some (e, x)) :
    exec (.canTxAttempt t c) s = .next (after t (setCan c (fun y => { y with onBus := some (e.handle, x) })) s) := by
  rw [exec_canTxAttempt]
  refine timed_next ((if_neg (by simp [Nat.not_le.mpr hc, hsends, hfree])).trans ?_)
  simp only [canOf_clocked, hnext]

/-- A controller of a running function leaves nothing behind it when it leaves the bus. -/
theorem leaveBus_running (hrun : (fnOf s (0x0F + c)).state = .running) : leaveBus c s = s := if_neg (by simp [hrun])

theorem attemptLost_free (hfree : (canOf s c).cancel = none) :
    attemptLost c h s = setCan c (fun x => { x with onBus := none, cancel := none }) s := if_neg (by simp [hfree])

theorem attemptLost_cancelled (hcancel : (canOf s c).cancel = some m) :
    attemptLost c h s = finishJob (some m) (Cmd.canTxCancel + 256 * c) doneReply
      (setCan c (settle h none) (setCan c (fun x => { x with onBus := none, cancel := none }) s)) := by
  unfold attemptLost
  rw [hcancel]
  rfl

section Ends

variable (hc : c < 2) (hbus : (canOf s c).onBus = some (h, x))
include hc hbus

theorem canTxEnd_sent (hqueued : queuedEntry (canOf s c) h = some e) (hfree : (canOf s c).cancel = none)
    (hrun : (fnOf s (0x0F + c)).state = .running) :
    exec (.canTxEnd t c 0) s = .next (after t (fun s => setCan c (fun x =>
      confine { settle h (some (stampNow s)) x with onBus := none, cancel := none, tec := x.tec - 1 })
        (emit (.can (c + 1) e.frame) s)) s) := by
  rw [exec_canTxEnd]
  apply timed_next
  simp only [canOf_clocked, hbus, hqueued, hfree]
  rw [if_neg (by simp [Nat.not_le.mpr hc]), if_pos trivial]
  exact leaveBus_running hrun

theorem canTxEnd_lost : exec (.canTxEnd t c 1) s = .next (after t (fun s => leaveBus c (attemptLost c h s)) s) := by
  rw [exec_canTxEnd]
  apply timed_next
  simp only [canOf_clocked, hbus]
  rw [if_neg (by simp [Nat.not_le.mpr hc]), if_neg (by decide), if_neg (by decide)]

theorem canTxEnd_error :
    exec (.canTxEnd t c 2) s = .next (after t (fun s =>
      leaveBus c (setCan c (fun x => confine { x with tec := min 255 (x.tec + 8) }) (attemptLost c h s))) s) := by
  rw [exec_canTxEnd]
  apply timed_next
  simp only [canOf_clocked, hbus]
  rw [if_neg (by simp [Nat.not_le.mpr hc]), if_neg (by decide), if_pos trivial]

end Ends

theorem busOff_freezes (hc : c < 2) (hsends : canSends s c = true) (hfree : (canOf s c).onBus = none) :
    exec (.busOff t c) s = .next (after t (fun s =>
      let u := record (Ev.busOff + 256 * c) 3 [] s
      leaveBus c (setCan c (fun x => { x with
        tec := 256, recoverAt := u.now, bus := if canPrm u c Prm.canAutoRecover = 1 then .recovering else .off }) u)) s) := by
  rw [exec_busOff]
  refine timed_next ((if_neg (by simp [Nat.not_le.mpr hc, hsends])).trans ?_)
  simp only [canOf_clocked, hfree]
  rfl

theorem busOffRecovered_active (hc : c < 2) (hbus : (canOf s c).bus = .recovering)
    (hlong : (canOf s c).recoverAt + recoverTime s c ≤ max s.now t) :
    exec (.busOffRecovered t c) s =
      .next (after t (setCan c (fun x => { x with bus := .active, tec := 0, rec_ := 0 })) s) := by
  have hpast : decide ((canOf s c).recoverAt + recoverTime (clocked t s) c ≤ (clocked t s).now) = true := decide_eq_true hlong
  rw [exec_busOffRecovered]
  refine timed_next (if_pos ?_)
  rw [canOf_clocked, hpast]
  simp [hbus, hc]

end Attempts

/-- Settles O40: one lemma for each frame, attempt and state of the bus. -/
theorem canFramesAndBusOff : Obligations.CanFramesAndBusOff := by
  unfold Obligations.CanFramesAndBusOff
  exact ⟨fun t c f s => canFrameReceive_deaf, fun t c f s => canFrameReceive_stored, fun t c f s => canFrameReceive_mapped,
    fun t c f s hc _ => canFrameReceive_wakes hc, fun f n c => storeFrame_full, fun f n c => storeFrame_room,
    fun t c e x s => canTxAttempt_commits, fun c e => nextEntry_express, fun c e l => nextEntry_queued,
    fun t c h x e s => canTxEnd_sent, fun t c h x s => canTxEnd_lost, fun t c h x s => canTxEnd_error,
    fun c h s => attemptLost_free, fun c h m s => attemptLost_cancelled, fun t c s => busOff_freezes,
    fun t c s => busOffRecovered_active⟩

/-! ## Filters and the full FIFO (17 R494, R496) -/

section Filters

variable {t c i : Nat} {f : CanFrame} {s : State}

theorem mem_filters (hi : i < 4) (hon : bitOf (canPrm s c (Prm.canFiltId0 + i)) 31 = true) :
    (canPrm s c (Prm.canFiltId0 + i), canPrm s c (Prm.canFiltMask0 + i)) ∈ filters s c :=
  List.mem_filter.mpr ⟨List.mem_map.mpr ⟨i, List.mem_range.mpr hi, rfl⟩, hon⟩

theorem filterMatches_iff (a b : Nat) :
    filterMatches f (a, b) = true ↔ Nat.land (Nat.xor f.id (a % 2 ^ 29)) (b % 2 ^ 29) = 0 ∧ bitOf a 29 = f.ide := by
  unfold filterMatches
  rw [Bool.and_eq_true, beq_iff_eq, beq_iff_eq, and_comm]

theorem accepted_of_match (hi : i < 4) (hon : bitOf (canPrm s c (Prm.canFiltId0 + i)) 31 = true)
    (hmatch : Nat.land (Nat.xor f.id (canPrm s c (Prm.canFiltId0 + i) % 2 ^ 29)) (canPrm s c (Prm.canFiltMask0 + i) % 2 ^ 29) = 0 ∧
      bitOf (canPrm s c (Prm.canFiltId0 + i)) 29 = f.ide) :
    accepted s c f = true :=
  Bool.or_eq_true_iff.mpr (Or.inr (List.any_eq_true.mpr ⟨_, mem_filters hi hon, (filterMatches_iff ..).mpr hmatch⟩))

theorem accepted_of_noFilter (hoff : ∀ i < 4, bitOf (canPrm s c (Prm.canFiltId0 + i)) 31 = false) : accepted s c f = true := by
  have hnone : filters s c = [] := by
    refine List.filter_eq_nil_iff.mpr fun p hp => ?_
    obtain ⟨i, hi, rfl⟩ := List.mem_map.mp hp
    exact Bool.eq_false_iff.mp (hoff i (List.mem_range.mp hi))
  rw [accepted, hnone]
  rfl

theorem not_accepted (hsome : ∃ i < 4, bitOf (canPrm s c (Prm.canFiltId0 + i)) 31 = true)
    (hnone : ∀ i < 4, bitOf (canPrm s c (Prm.canFiltId0 + i)) 31 = true →
      ¬(Nat.land (Nat.xor f.id (canPrm s c (Prm.canFiltId0 + i) % 2 ^ 29)) (canPrm s c (Prm.canFiltMask0 + i) % 2 ^ 29) = 0 ∧
        bitOf (canPrm s c (Prm.canFiltId0 + i)) 29 = f.ide)) :
    accepted s c f = false := by
  obtain ⟨j, hj, hon⟩ := hsome
  refine Bool.or_eq_false_iff.mpr ⟨?_, List.any_eq_false.mpr fun p hp => ?_⟩
  · exact List.isEmpty_eq_false_iff.mpr (List.ne_nil_of_mem (mem_filters hj hon))
  · obtain ⟨hp, henabled⟩ := List.mem_filter.mp hp
    obtain ⟨i, hi, rfl⟩ := List.mem_map.mp hp
    exact mt (filterMatches_iff ..).mp (hnone i (List.mem_range.mp hi) henabled)

variable (hc : c < 2) (hhears : canHears (clocked t s) c = true) (hmap : c = 0 → mapMode s = false) (hlen : s.bus.can.length = 2)
include hc hhears hmap hlen

/-- An accepted frame with room is stored behind the entries held. -/
theorem canFrameReceive_room (haccepted : accepted s c f = true) (hroom : (canOf s c).rx.length < 64) :
    ∃ u e, exec (.canFrameReceive t c f) s = .next u ∧ (canOf u c).rx = (canOf s c).rx ++ [e] ∧ e.frame = f ∧
      e.overrun = (canOf s c).gapped ∧ (canOf u c).gapped = false := by
  obtain ⟨u, n, hexec, hcan⟩ := canFrameReceive_can (f := f) hc hhears hmap hlen
  rw [if_pos haccepted, storeFrame_room ((hearFrame_rx _).symm ▸ hroom)] at hcan
  exact ⟨u, ⟨(hearFrame (canOf s c)).seq, (hearFrame (canOf s c)).gapped, n, f⟩, hexec, by rw [hcan, hearFrame_rx], rfl,
    hearFrame_gapped _, by rw [hcan]⟩

theorem canFrameReceive_full (haccepted : accepted s c f = true) (hfull : (canOf s c).rx.length = 64) :
    ∃ u, exec (.canFrameReceive t c f) s = .next u ∧ (canOf u c).rx = (canOf s c).rx ∧
      (canOf u c).overrun = ((canOf s c).overrun + 1) % 2 ^ 32 ∧ (canOf u c).gapped = true := by
  obtain ⟨u, n, hexec, hcan⟩ := canFrameReceive_can (f := f) hc hhears hmap hlen
  rw [if_pos haccepted, storeFrame_full (by rw [hearFrame_rx, hfull])] at hcan
  exact ⟨u, hexec, by rw [hcan, hearFrame_rx], by rw [hcan, hearFrame_overrun], by rw [hcan]⟩

theorem canFrameReceive_refused (hnot : accepted s c f = false) :
    ∃ u, exec (.canFrameReceive t c f) s = .next u ∧ (canOf u c).rx = (canOf s c).rx := by
  obtain ⟨u, n, hexec, hcan⟩ := canFrameReceive_can (f := f) hc hhears hmap hlen
  rw [if_neg (Bool.eq_false_iff.mp hnot)] at hcan
  exact ⟨u, hexec, by rw [hcan, hearFrame_rx]⟩

end Filters

/-- Settles O54: what the filters accept, and what a reception does with it. -/
theorem acceptanceFilters : Obligations.AcceptanceFilters := by
  unfold Obligations.AcceptanceFilters
  refine ⟨?oneMatch, ?noFilter, fun t c f s hc hhears hmap hlen hsome hnone =>
    canFrameReceive_refused hc hhears hmap hlen (not_accepted hsome hnone)⟩
  case oneMatch =>
    intro t c i f s hc hhears hmap hlen hroom hi hon hmatch
    obtain ⟨u, e, hexec, hrx, hframe, -, -⟩ :=
      canFrameReceive_room hc hhears hmap hlen (accepted_of_match (f := f) hi hon hmatch) hroom
    exact ⟨u, e, hexec, hrx, hframe⟩
  case noFilter =>
    intro t c f s hc hhears hmap hlen hroom hoff
    obtain ⟨u, e, hexec, hrx, hframe, -, -⟩ :=
      canFrameReceive_room hc hhears hmap hlen (accepted_of_noFilter (f := f) hoff) hroom
    exact ⟨u, e, hexec, hrx, hframe⟩

/-- Settles O55: the two ends of an accepted frame, by the room in the FIFO. -/
theorem fullFifoDropsAndMarks : Obligations.FullFifoDropsAndMarks := by
  unfold Obligations.FullFifoDropsAndMarks
  exact ⟨fun t c f s => canFrameReceive_full, fun t c f s => canFrameReceive_room⟩

end Sys2Proof.Machine

namespace Sys2Proof.Machine

/-! ## The CAN commands (17 R490 to R495, R513) -/

section CanRequests

variable {t m q n a : Nat} {b : List Byte} {x : Reply} {l : List CanRxEntry} {s : State}

@[simp] theorem canOf_started (m t : Nat) (s : State) (c : Nat) : canOf (startCommand m (clocked t s)) c = canOf s c := rfl

/-- A well-formed transmit request of a running function is judged by its place in the controller. -/
theorem canTxHandler_judged {r : Request} (hlen : b.length = 80)
    (hgood : txBadField (begun t m s) q (0x0F11 + 256 * q) b = none) (hrun : canStopped s q = false)
    (hmap : q = 1 ∨ mapMode s = false) (hr : r.payload = b) (hcmd : r.command = 0x0F00 + 0x11 + 256 * q) :
    canTxHandler q r (startCommand m (clocked t s)) =
      if bitOf (byteAt b 2) 6 && (canOf s q).express.isSome then
        refuse (guardReply (canEv q Ev.expressBusy)) (startCommand m (clocked t s))
      else if !bitOf (byteAt b 2) 6 && 32 ≤ (canOf s q).tx.length then
        refuse (guardReply (canEv q Ev.txFull)) (startCommand m (clocked t s))
      else
        answerWith (doneWith (.bytes (leBytes 2 (freshHandle (canOf s q)))))
          (setCan q (fun y => { y with
            next := (freshHandle (canOf s q) + 1) % 65536, settled := y.settled.filter (·.1 ≠ freshHandle (canOf s q)),
            express := if bitOf (byteAt b 2) 6 then some ⟨freshHandle (canOf s q), frameOf b⟩ else y.express,
            tx := if bitOf (byteAt b 2) 6 then y.tx else y.tx ++ [⟨freshHandle (canOf s q), frameOf b⟩] })
            (startCommand m (clocked t s))) := by
  have hgood : txBadField (startCommand m (clocked t s)) q r.command b = none := by rw [hcmd]; exact hgood
  have hrun : ¬canStopped (startCommand m (clocked t s)) q = true := Bool.eq_false_iff.mp hrun
  have hopen : ¬(decide (q = 0) && mapMode (startCommand m (clocked t s))) = true := by
    rcases hmap with h | h
    · simp [h]
    · have h : mapMode (startCommand m (clocked t s)) = false := h
      simp [h]
  unfold canTxHandler
  rw [withLength_met (hr ▸ hlen), hr]
  simp only [hgood]
  exact (if_neg hrun).trans (if_neg hopen)

section Transmit

variable (hp : Pend s m (0x0F00 + 0x11 + 256 * q) b) (hq : q < 2) (hlen : b.length = 80)
include hp hq hlen

theorem canTx_badField (hbad : txBadField (begun t m s) q (0x0F11 + 256 * q) b = some x) (hstatus : x.status = .badArgument) :
    exec (.canTx t m) s = .next (turnedAway t m x s) := by
  rw [exec_canTx]
  refine can_turned hp hq fun r hr hcmd => ?_
  have hbad : txBadField (startCommand m (clocked t s)) q r.command b = some x := by rw [hcmd]; exact hbad
  unfold canTxHandler
  rw [withLength_met (hr ▸ hlen), hr]
  simp only [hbad]
  exact if_neg (by simp [hstatus])

variable (hgood : txBadField (begun t m s) q (0x0F11 + 256 * q) b = none) (hrun : canStopped s q = false)
  (hmap : q = 1 ∨ mapMode s = false)
include hgood hrun hmap

theorem canTx_queues (hplain : bitOf (byteAt b 2) 6 = false) (hroom : (canOf s q).tx.length < 32)
    (hfresh : freshHandle (canOf s q) = n) :
    exec (.canTx t m) s = .next (ended t m (doneWith (.bytes (leBytes 2 n))) (fun s => setCan q (fun y =>
      { y with next := (n + 1) % 65536, settled := y.settled.filter (·.1 ≠ n), tx := y.tx ++ [⟨n, frameOf b⟩] }) s) s) := by
  subst hfresh
  rw [exec_canTx]
  refine can_ended hp hq fun r hr hcmd => ?_
  rw [canTxHandler_judged hlen hgood hrun hmap hr hcmd, if_neg (by simp [hplain]), if_neg (by simp [Nat.not_le.mpr hroom]), hplain]
  rfl

theorem canTx_express (hexpress : bitOf (byteAt b 2) 6 = true) (hfree : (canOf s q).express = none)
    (hfresh : freshHandle (canOf s q) = n) :
    exec (.canTx t m) s = .next (ended t m (doneWith (.bytes (leBytes 2 n))) (fun s => setCan q (fun y =>
      { y with next := (n + 1) % 65536, settled := y.settled.filter (·.1 ≠ n), express := some ⟨n, frameOf b⟩ }) s) s) := by
  subst hfresh
  rw [exec_canTx]
  refine can_ended hp hq fun r hr hcmd => ?_
  rw [canTxHandler_judged hlen hgood hrun hmap hr hcmd, if_neg (by simp [hfree]), if_neg (by simp [hexpress]), hexpress]
  rfl

theorem canTx_expressBusy (hexpress : bitOf (byteAt b 2) 6 = true) (hbusy : (canOf s q).express.isSome = true) :
    exec (.canTx t m) s = .next (turnedAway t m (guardReply (Ev.expressBusy + 256 * q)) s) := by
  rw [exec_canTx]
  refine can_turned hp hq fun r hr hcmd => ?_
  rw [canTxHandler_judged hlen hgood hrun hmap hr hcmd, if_pos (by simp [hexpress, hbusy])]
  rfl

theorem canTx_full (hplain : bitOf (byteAt b 2) 6 = false) (hfull : 32 ≤ (canOf s q).tx.length) :
    exec (.canTx t m) s = .next (turnedAway t m (guardReply (Ev.txFull + 256 * q)) s) := by
  rw [exec_canTx]
  refine can_turned hp hq fun r hr hcmd => ?_
  rw [canTxHandler_judged hlen hgood hrun hmap hr hcmd, if_neg (by simp [hplain]), if_pos (by simp [hplain, hfull])]
  rfl

end Transmit

section Cancel

variable (hp : Pend s m (0x0F00 + 0x12 + 256 * q) b) (hq : q < 2) (hlen : b.length = 2)
include hp hq hlen

theorem canTxCancel_waits (hbus : (canOf s q).onBus.map (·.1) = some (leAt b 0 2)) (hfree : (canOf s q).cancel = none) :
    exec (.canTxCancel t m) s = .next (going t m (fun s => setCan q (fun y => { y with cancel := some m }) s) s) := by
  rw [exec_canTxCancel]
  refine can_going hp hq (fun _ => rfl) fun r hr _ => ?_
  unfold canCancelHandler
  rw [withLength_met (hr ▸ hlen), hr]
  dsimp only
  rw [canOf_started, if_pos (by simp [hbus]), if_neg (by simp [hfree])]
  rfl

variable (hoff : (canOf s q).onBus = none)
include hoff

theorem canTxCancel_removes (hqueued : (queuedEntry (canOf s q) (leAt b 0 2)).isSome = true) :
    exec (.canTxCancel t m) s = .next (ended t m doneReply (fun s => setCan q (settle (leAt b 0 2) none) s) s) := by
  rw [exec_canTxCancel]
  refine can_ended hp hq fun r hr _ => ?_
  unfold canCancelHandler
  rw [withLength_met (hr ▸ hlen), hr]
  dsimp only
  rw [canOf_started, if_neg (by simp [hoff]), if_pos hqueued]
  rfl

theorem canTxCancel_tooLate (hnone : queuedEntry (canOf s q) (leAt b 0 2) = none)
    (hsent : (canOf s q).settled.find? (·.1 = (leAt b 0 2)) = some ((leAt b 0 2), some a)) :
    exec (.canTxCancel t m) s = .next (turnedAway t m { status := .tooLate } s) := by
  rw [exec_canTxCancel]
  refine can_turned hp hq fun r hr _ => ?_
  unfold canCancelHandler
  rw [withLength_met (hr ▸ hlen), hr]
  dsimp only
  rw [canOf_started, if_neg (by simp [hoff]), if_neg (by simp [hnone])]
  simp only [hsent]
  rfl

end Cancel

theorem canTxQuery_reads (hp : Pend s m (0x0F00 + 0x13 + 256 * q) b) (hq : q < 2) (hlen : b.length = 2) :
    exec (.canTxQuery t m) s = .next (read t m (fun s => txState (canOf s q) (leAt b 0 2)) s) := by
  rw [exec_canTxQuery]
  refine can_read hp hq fun r hr _ => ?_
  rw [withLength_met (hr ▸ hlen), hr]
  rfl

theorem canRxRead_reads (hp : Pend s m (0x0F00 + 0x14 + 256 * q) b) (hq : q < 2) (hlen : b.length = 1) (hleast : byteAt b 0 ≠ 0)
    (hmost : byteAt b 0 ≤ 14) :
    exec (.canRxRead t m) s = .next (read t m (fun s => .bytes (((canOf s q).rx.take (byteAt b 0)).flatMap rxBytes)) s) := by
  rw [exec_canRxRead]
  refine can_read hp hq fun r hr _ => ?_
  rw [withLength_met (hr ▸ hlen), hr, if_neg (by simp [hleast, Nat.not_lt.mpr hmost])]
  rfl

section Release

variable (hp : Pend s m (0x0F00 + 0x15 + 256 * q) b) (hq : q < 2) (hlen : b.length = 2)
include hp hq hlen

theorem canRxRelease_releases (hheld : releaseTo (leAt b 0 2) (canOf s q).rx = some l) :
    exec (.canRxRelease t m) s = .next (ended t m doneReply (fun s => setCan q (fun x => { x with rx := l }) s) s) := by
  rw [exec_canRxRelease]
  refine can_ended hp hq fun r hr _ => ?_
  rw [withLength_met (hr ▸ hlen), hr]
  simp only [canOf_started, hheld]
  rfl

theorem canRxRelease_unknown (hnone : releaseTo (leAt b 0 2) (canOf s q).rx = none) :
    exec (.canRxRelease t m) s = .next (turnedAway t m (argReply (0x0F15 + 256 * q) 0) s) := by
  rw [exec_canRxRelease]
  refine can_turned hp hq fun r hr hcmd => ?_
  rw [withLength_met (hr ▸ hlen), hr, hcmd]
  simp only [canOf_started, hnone]
  rfl

end Release

section Recover

variable (hp : Pend s m (0x0F00 + 0x16 + 256 * q) []) (hq : q < 2)
include hp hq

theorem canRecover_starts (hoff : (canOf s q).bus = .off) :
    exec (.canRecover t m) s = .next (ended t m doneReply (fun s =>
      setCan q (fun x => { x with bus := .recovering, recoverAt := s.now }) s) s) := by
  rw [exec_canRecover]
  refine can_ended hp hq fun r hr _ => ?_
  rw [withLength_met (by rw [hr]; rfl), canOf_started, if_pos (by simp [hoff])]
  rfl

theorem canRecover_refused (hon : (canOf s q).bus ≠ .off) :
    exec (.canRecover t m) s = .next (turnedAway t m (causeReply .refusedGuard 0) s) := by
  rw [exec_canRecover]
  refine can_turned hp hq fun r hr _ => ?_
  rw [withLength_met (by rw [hr]; rfl), canOf_started, if_neg (by simp [hon])]
  rfl

end Recover

theorem canStatus_reads (hp : Pend s m (0x0F00 + 0x10 + 256 * q) []) (hq : q < 2) :
    exec (.canStatus t m) s = .next (read t m (canStatus q) s) := by
  rw [exec_canStatus]
  refine can_read hp hq fun r hr _ => ?_
  unfold statusHandler
  rw [withLength_met (by rw [hr]; rfl)]
  rfl

end CanRequests

/-- Settles O41: one lemma for each answer of a CAN command. -/
theorem canCommands : Obligations.CanCommands := by
  unfold Obligations.CanCommands
  exact ⟨fun t m q n b s => canTx_queues, fun t m q n b s => canTx_express, fun t m q b s => canTx_expressBusy,
    fun t m q b s => canTx_full, fun t m q b x s => canTx_badField, fun t m q b s => canTxCancel_waits,
    fun t m q b s => canTxCancel_removes, fun t m q a b s => canTxCancel_tooLate, fun t m q b s => canTxQuery_reads,
    fun t m q b s => canRxRead_reads, fun t m q b l s => canRxRelease_releases, fun t m q b s => canRxRelease_unknown,
    fun t m q s => canRecover_starts, fun t m q s => canRecover_refused, fun t m q s => canStatus_reads⟩

end Sys2Proof.Machine

namespace Sys2Proof.Machine

/-! ## The forerunner map (17 R497 to R499) -/

@[simp] theorem mapMode_clocked (t : Nat) (s : State) : mapMode (clocked t s) = mapMode s := rfl

@[simp] theorem claimsActive_clocked (t : Nat) (s : State) : claimsActive (clocked t s) = claimsActive s := rfl

@[simp] theorem svcAlive_clocked (t : Nat) (s : State) : svcAlive (clocked t s) = svcAlive s := rfl

@[simp] theorem attnDue_clocked (t : Nat) (s : State) : attnDue (clocked t s) = attnDue s := rfl

section ForerunnerMap

variable {t k c : Nat} {v : Option Int} {vs vl : Int} {d p : List Byte} {s : State}

theorem frMapSend_sends (hmap : mapMode s = true) (hactive : claimsActive s = true) (hsends : canSends s 0 = true) (hk : k < 5)
    (hdue : dueAfter (clocked t s) ((canOf s 0).mapAt.getD k none) (mapPeriod k) = true) :
    exec (.frMapSend t k v) s = .next (after t (fun s =>
      let u := emit (.can 1 (mapFrame (prmN s Prm.frBaseId + k) (mapBytes s k v))) s
      setCan 0 (fun x => { x with
        mapTx := (x.mapTx + 1) % 2 ^ 32, mapAt := x.mapAt.set k (some u.now),
        page := if k = 4 then (x.page + 1) % 171 else x.page }) u) s) := by
  have hdue : dueAfter (clocked t s) ((canOf (clocked t s) 0).mapAt.getD k none) (mapPeriod k) = true := hdue
  rw [exec_frMapSend]
  refine timed_next ((if_pos ?_).trans rfl)
  rw [hdue]
  simp [hmap, hactive, hsends, hk]

theorem frSetpointFrame_off (hoff : mapMode s = false) : exec (.frSetpointFrame t d) s = .next (after t (fun s => s) s) := by
  rw [exec_frSetpointFrame]
  exact timed_next (if_pos (by simp [hoff]))

theorem countMap_acts : countMap s true = setCan 0 (fun x => { x with mapRx := (x.mapRx + 1) % 2 ^ 32 }) s := if_pos rfl

theorem countMap_ignores (hactive : claimsActive s = true) :
    countMap s false = setCan 0 (fun x => { x with mapIgnored := (x.mapIgnored + 1) % 2 ^ 32 }) s :=
  (if_neg Bool.false_ne_true).trans (if_pos hactive)

section Heard

variable (hmap : mapMode s = true) (hhears : canHears s 0 = true)
include hmap hhears

theorem frSetpointFrame_acts (hacts : mapActs s (canOf s 0).ctr10 (byteAt d 4) = true) :
    exec (.frSetpointFrame t d) s = .next (after t (fun s =>
      let u := setCan 0 (fun x => { x with mapRx := (x.mapRx + 1) % 2 ^ 32 }) (setCan 0 (fun x => { x with ctr10 := some (byteAt d 4) }) s)
      setCan 0 (fun x => { x with mapStatus := (mapSetPoint d u).1, mapCmd := Cmd.spSet }) (mapSetPoint d u).2) s) := by
  have hacts : mapActs (clocked t s) (canOf (clocked t s) 0).ctr10 (byteAt d 4) = true := hacts
  rw [exec_frSetpointFrame]
  refine timed_next ((if_neg (by simp [hmap, hhears])).trans ?_)
  simp only [hacts, countMap_acts, if_true]

theorem frSetpointFrame_repeats (hactive : claimsActive s = true) (hsame : (canOf s 0).ctr10 = some (byteAt d 4)) :
    exec (.frSetpointFrame t d) s = .next (after t (fun s =>
      setCan 0 (fun x => { x with mapIgnored := (x.mapIgnored + 1) % 2 ^ 32 })
        (setCan 0 (fun x => { x with ctr10 := some (byteAt d 4) }) s)) s) := by
  have hrest : mapActs (clocked t s) (canOf (clocked t s) 0).ctr10 (byteAt d 4) = false := by simp [mapActs, hsame]
  rw [exec_frSetpointFrame]
  refine timed_next ((if_neg (by simp [hmap, hhears])).trans ?_)
  simp only [hrest]
  exact countMap_ignores (s := setCan 0 (fun x => { x with ctr10 := some (byteAt d 4) }) (clocked t s)) hactive

theorem frCommandFrame_acts (hacts : mapActs s (canOf s 0).ctr11 (byteAt d 1) = true) :
    exec (.frCommandFrame t d vs vl) s = .next (after t (fun s => mapExec d vs vl
      (setCan 0 (fun x => { x with mapRx := (x.mapRx + 1) % 2 ^ 32 }) (setCan 0 (fun x => { x with ctr11 := some (byteAt d 1) }) s))) s) := by
  have hacts : mapActs (clocked t s) (canOf (clocked t s) 0).ctr11 (byteAt d 1) = true := hacts
  rw [exec_frCommandFrame]
  refine timed_next ((if_neg (by simp [hmap, hhears])).trans ?_)
  simp only [hacts, countMap_acts, if_true]

end Heard

theorem mapExec_disabled (hcmd : mapCommand (byteAt d 0) = some (c, p)) (hoff : prm s Prm.frCmdEnable ≠ 1) :
    mapExec d vs vl s = noteMap c .refusedGuard (record Ev.frMap 3 [(c : Int), Status.refusedGuard.code] s) := by
  unfold mapExec
  simp only [hcmd]
  exact if_pos hoff

end ForerunnerMap

/-! ## The window of TW-SVC (17 R500 to R505) -/

section Window

variable {t a n : Nat} {r : Option Nat} {v : Byte} {b : List Byte} {s : State}

section Alive

variable (halive : svcAlive s = true)
include halive

theorem twAddressMatch_other (r : Option Nat) (hother : a ≠ s.bus.svc.addr) :
    exec (.twAddressMatch t a r) s = .next (after t (setSvc (fun x => { x with selected := false, refuse := false })) s) := by
  rw [exec_twAddressMatch]
  exact timed_next ((if_neg (by simp [halive])).trans (if_pos hother))

theorem twAddressMatch_writes (hown : s.bus.svc.addr = a) :
    exec (.twAddressMatch t a none) s = .next (after t (fun s =>
      setSvc (fun x => { x with selected := true, ptrNext := true, refuse := false })
        (setIsland 10 (fun i => { i with sleep := .awake, wakeAt := none }) s)) s) := by
  rw [exec_twAddressMatch]
  exact timed_next ((if_neg (by simp [halive])).trans (if_neg (not_not.mpr hown.symm)))

theorem twAddressMatch_reads (hown : s.bus.svc.addr = a) :
    exec (.twAddressMatch t a (some n)) s = .next (after t (fun s =>
      let u := setIsland 10 (fun i => { i with sleep := .awake, wakeAt := none }) s
      setSvc (fun x => { x with selected := true, ptrNext := false, refuse := false, ptr := (u.bus.svc.ptr + n) % 256 })
        (emit (.window ((List.range n).map (fun i => windowByte u ((u.bus.svc.ptr + i) % 256)))) u)) s) := by
  rw [exec_twAddressMatch]
  exact timed_next ((if_neg (by simp [halive])).trans (if_neg (not_not.mpr hown.symm)))

theorem twWindowWrite_writes : exec (.twWindowWrite t b) s = .next (after t (fun s => b.foldl writeByte s) s) := by
  rw [exec_twWindowWrite]
  exact timed_next (if_pos halive)

end Alive

theorem writeByte_unselected (hoff : s.bus.svc.selected = false) : writeByte s v = s := if_pos (by simp [hoff])

section Selected

variable (hselected : s.bus.svc.selected = true)
include hselected

theorem writeByte_refused (hrefuse : s.bus.svc.refuse = true) :
    writeByte s v = setSvc (fun x => { x with refuse := false, selected := false }) s :=
  (if_neg (by simp [hselected])).trans (if_pos hrefuse)

variable (htaken : s.bus.svc.refuse = false)
include htaken

theorem writeByte_pointer (hfirst : s.bus.svc.ptrNext = true) :
    writeByte s v = setSvc (fun x => { x with ptr := v.toNat, ptrNext := false }) s :=
  (if_neg (by simp [hselected])).trans ((if_neg (by simp [htaken])).trans (if_pos hfirst))

theorem writeByte_data (hlater : s.bus.svc.ptrNext = false) :
    writeByte s v = writeAt s.bus.svc.ptr v (setSvc (fun x => { x with ptr := (x.ptr + 1) % 256 }) s) :=
  (if_neg (by simp [hselected])).trans ((if_neg (by simp [htaken])).trans (if_neg (by simp [hlater])))

/-- A byte written at the doorbell's place is its OP (17 R503). -/
theorem ringBell_rings (halive : svcAlive s = true) (hlater : s.bus.svc.ptrNext = false) (hptr : s.bus.svc.ptr = 12) :
    ringBell v s = doorbell v.toNat (setSvc (fun x => { x with ptr := 13 }) s) := by
  have hnext : setSvc (fun x => { x with ptr := (x.ptr + 1) % 256 }) s = setSvc (fun x => { x with ptr := 13 }) s := by
    simp [setSvc, hptr]
  unfold ringBell
  dsimp only
  rw [if_pos (by simp [halive, hselected, hlater, hptr]), writeByte_data hselected htaken hlater, hptr, hnext]
  rfl

end Selected

theorem doorbell_request (hserved : mbxServed s 7 = true) : doorbell 1 s = bellRequest s := if_neg (by simp [hserved])

theorem doorbell_read (hserved : mbxServed s 7 = true) : doorbell 2 s = bellRead s := if_neg (by simp [hserved])

theorem doorbell_ack (hserved : mbxServed s 7 = true) : doorbell 3 s = bellAck s := if_neg (by simp [hserved])

section Doorbell

variable (halive : svcAlive s = true) (hselected : s.bus.svc.selected = true) (htaken : s.bus.svc.refuse = false)
  (hlater : s.bus.svc.ptrNext = false) (hptr : s.bus.svc.ptr = 12) (hserved : mbxServed s 7 = true)
include halive hselected htaken hlater hptr hserved

theorem twDoorbellRequest_rings :
    exec (.twDoorbellRequest t) s = .next (after t (fun s => bellRequest (setSvc (fun x => { x with ptr := 13 }) s)) s) := by
  rw [exec_twDoorbellRequest]
  apply timed_next
  rw [ringBell_rings (s := clocked t s) hselected htaken halive hlater hptr]
  exact doorbell_request hserved

theorem twDoorbellRead_rings :
    exec (.twDoorbellRead t) s = .next (after t (fun s => bellRead (setSvc (fun x => { x with ptr := 13 }) s)) s) := by
  rw [exec_twDoorbellRead]
  apply timed_next
  rw [ringBell_rings (s := clocked t s) hselected htaken halive hlater hptr]
  exact doorbell_read hserved

theorem twDoorbellAck_rings :
    exec (.twDoorbellAck t) s = .next (after t (fun s => bellAck (setSvc (fun x => { x with ptr := 13 }) s)) s) := by
  rw [exec_twDoorbellAck]
  apply timed_next
  rw [ringBell_rings (s := clocked t s) hselected htaken halive hlater hptr]
  exact doorbell_ack hserved

end Doorbell

theorem bellRequest_badLength (hbad : s.bus.svc.reqLen < 8 ∨ 1204 < s.bus.svc.reqLen) :
    bellRequest s = discardEnvelope 7 (setSvc (fun x => { x with bell := 1 }) s) :=
  if_pos (by simpa using hbad)

theorem bellRequest_busy (hleast : 8 ≤ s.bus.svc.reqLen) (hmost : s.bus.svc.reqLen ≤ 1204)
    (hpending : (mbxOf s 7).phase = .pending) :
    bellRequest s = setSvc (fun x => { x with bell := 2 }) s :=
  (if_neg (by simp [Nat.not_lt.mpr hleast, Nat.not_lt.mpr hmost])).trans (if_pos (by simp [hpending]))

theorem twTransferAbort_ends (t : Nat) (s : State) :
    exec (.twTransferAbort t) s = .next (after t (setSvc (fun x => { x with selected := false, refuse := false })) s) := rfl

section Late

variable (halive : svcAlive s = true) (hselected : s.bus.svc.selected = true)
include halive hselected

theorem twLate_write :
    exec (.twLate t false) s = .next (after t (fun s => setSvc (fun x => { x with refuse := true })
      (setSvc (fun x => { x with late := (x.late + 1) % 2 ^ 32 }) s)) s) := by
  rw [exec_twLate]
  exact timed_next ((if_neg (by simp [halive, hselected])).trans rfl)

theorem twLate_read :
    exec (.twLate t true) s = .next (after t (fun s => emit (.window [0xFF])
      (setSvc (fun x => { x with late := (x.late + 1) % 2 ^ 32 }) s)) s) := by
  rw [exec_twLate]
  exact timed_next ((if_neg (by simp [halive, hselected])).trans rfl)

end Late

/-- Settles O56: an abort ends the selection, without which no byte written has an effect. -/
theorem abortedTransferStands : Obligations.AbortedTransferStands := by
  unfold Obligations.AbortedTransferStands
  refine ⟨fun t s => rfl, ?unaddressed, fun t a s halive => twAddressMatch_writes (s := s) halive⟩
  case unaddressed =>
    intro t b s hoff
    have hsame : b.foldl writeByte (clocked t s) = clocked t s := by
      induction b with
      | nil => rfl
      | cons v b ih => rw [List.foldl_cons, writeByte_unselected (s := clocked t s) hoff, ih]
    rw [exec_twWindowWrite]
    exact (timed_next (g := fun s => s) (by rw [hsame, ite_self])).trans rfl

end Window

/-! ## The attention message (17 R506, R507) -/

section Attention

variable {t a : Nat} {s : State} (hdue : attnDue s = true)
include hdue

theorem twAttention_attempts (o : Nat) (hfree : s.bus.svc.attnAt = none) :
    exec (.twAttention t o) s = .next (after t (attempt o) s) := by
  rw [exec_twAttention]
  exact timed_next (if_pos (by simp [hdue, hfree]))

theorem twAttnRetry_attempts (o : Nat) (hwaits : s.bus.svc.attnAt = some a) (hlong : a ≤ max s.now t) :
    exec (.twAttnRetry t o) s = .next (after t (attempt o) s) := by
  have hheld : heldOpt (clocked t s) s.bus.svc.attnAt 0 = true := heldOpt_some hwaits hlong
  rw [exec_twAttnRetry]
  exact timed_next (if_pos (Bool.and_eq_true_iff.mpr ⟨hdue, hheld⟩))

end Attention

/-! ## The commands of the two-wire buses (17 R508, R509, R513) -/

section TwoWireCommands

variable {t m k st n : Nat} {na : Option Nat} {rd b : List Byte} {s : State}

theorem twSvcStatus_reads (hp : Pend s m Cmd.twSvcStatus []) :
    exec (.twSvcStatus t m) s = .next (read t m (fun s => .fields [("address", [(s.bus.svc.addr : Int)]),
      ("attention", [(s.bus.svc.attn : Int), s.bus.svc.retries]), ("TW_LATE", [(s.bus.svc.late : Int)]),
      ("TW_RO_WRITE", [(s.bus.svc.roWrite : Int)])]) s) := by
  rw [exec_twSvcStatus]
  exact serve_length_read hp rfl rfl

theorem twAccStatus_reads (hp : Pend s m Cmd.twAccStatus []) :
    exec (.twAccStatus t m) s = .next (read t m (fun s => .fields [("BUS_STUCK", [flag s.bus.acc.stuck]),
      ("clears", [(s.bus.acc.clears : Int)]), ("faults", [(s.bus.acc.nacks : Int), s.bus.acc.timeouts])]) s) := by
  rw [exec_twAccStatus]
  exact serve_length_read hp rfl rfl

section Clear

variable (hstuck : s.bus.acc.stuck = false) (hdue : s.bus.acc.clearDue = true) (hmode : s.core.mode ≠ .shelf)
  (hboot : s.core.booting = false) (hheld : s.thm.held = false) (hrun : running s 0x11 = true)
include hstuck hdue hmode hboot hheld hrun

theorem twBusClear_frees (hk : k ≤ 9) :
    exec (.twBusClear t (some k)) s = .next (after t (fun s =>
      setAcc (fun x => { x with stuck := false, clearDue := false, clearAt := s.now, clears := (x.clears + 1) % 2 ^ 32 })
        (emit (.pulse "TW-ACC SCL" (k * us 100)) s)) s) := by
  rw [exec_twBusClear]
  refine timed_next ((if_neg (by simp [hstuck, hdue, hmode, hboot, hheld, hrun])).trans ?_)
  simp [Option.filter, hk]

theorem twBusClear_sticks :
    exec (.twBusClear t none) s = .next (after t (fun s =>
      let u := record Ev.busStuck 3 [] (emit (.pulse "TW-ACC SCL" (9 * us 100)) s)
      setAcc (fun x => { x with stuck := true, clearDue := true, clearAt := u.now, clears := (x.clears + 1) % 2 ^ 32 }) u) s) := by
  have hfirst : ¬(false || (clocked t s).bus.acc.stuck) = true := by simp [hstuck]
  rw [exec_twBusClear]
  refine timed_next ((if_neg (by simp [hstuck, hdue, hmode, hboot, hheld, hrun])).trans ?_)
  dsimp only [Option.filter_none, Option.map_none, Option.getD_none]
  rw [if_neg hfirst]
  rfl

end Clear

section Transfer

variable (hp : Pend s m Cmd.twAccXfer b) (hleast : 3 ≤ b.length) (hlen : b.length = 3 + byteAt b 1) (haddr : byteAt b 0 ≤ 127)
  (hw : byteAt b 1 ≤ 64) (hr : byteAt b 2 ≤ 64) (hrun : stopped s 0x11 = false)

section Formed

include hleast hlen haddr hw hr hrun

/-- A well-formed transfer of a running function passes the tests of its fields. -/
theorem xfer_wellFormed {r : Request} {u : State} {x0 x1 x2 x3 x4 rest : Answer × State} (hpay : r.payload = b)
    (hsame : stopped u 0x11 = stopped s 0x11) :
    (if r.payload.length < 3 || r.payload.length ≠ 3 + byteAt r.payload 1 then x0
      else if 127 < byteAt r.payload 0 then x1
      else if 64 < byteAt r.payload 1 then x2
      else if 64 < byteAt r.payload 2 then x3
      else if stopped u 0x11 then x4
      else rest) = rest := by
  subst hpay
  rw [if_neg (by simp [Nat.not_lt.mpr hleast, hlen.symm]), if_neg (Nat.not_lt.mpr haddr), if_neg (Nat.not_lt.mpr hw),
    if_neg (Nat.not_lt.mpr hr), if_neg (by rw [hsame, hrun]; exact Bool.false_ne_true)]

end Formed

include hp hleast hlen haddr hw hr hrun

theorem twAccXfer_stuck (hstuck : s.bus.acc.stuck = true) :
    exec (.twAccXfer t m na st rd) s = .next (turnedAway t m (guardReply Ev.busStuck) s) := by
  rw [exec_twAccXfer]
  refine serve_turned hp fun r hpay _ => ?_
  have hrefused : xferHandler na st rd r (startCommand m (clocked t s)) = refuse (guardReply Ev.busStuck) (startCommand m (clocked t s)) :=
    (xfer_wellFormed hleast hlen haddr hw hr hrun hpay rfl).trans (if_pos hstuck)
  rw [hrefused]
  rfl

variable (hfree : s.bus.acc.stuck = false)
include hfree

theorem twAccXfer_reads (hshort : st ≤ ms (prmN s Prm.twAccStretchMax)) :
    exec (.twAccXfer t m none st rd) s = .next (ended t m (doneWith (.bytes (fixLen (byteAt b 2) rd))) (fun s =>
      setAcc (fun x => { x with clearDue := false }) (emit (.twoWire 1 (byteAt b 0) (b.drop 3)) s)) s) := by
  rw [exec_twAccXfer]
  refine serve_ended hp fun r hpay _ => ?_
  have hdone : xferHandler none st rd r (startCommand m (clocked t s)) =
      answerWith (doneWith (.bytes (fixLen (byteAt b 2) rd))) (setAcc (fun x => { x with clearDue := false })
        (emit (.twoWire 1 (byteAt b 0) (b.drop 3)) (startCommand m (clocked t s)))) := by
    refine (xfer_wellFormed hleast hlen haddr hw hr hrun hpay rfl).trans ((if_neg (Bool.eq_false_iff.mp hfree)).trans ?_)
    rw [hpay]
    exact if_neg (Nat.not_lt.mpr hshort)
  rw [hdone]
  rfl

theorem twAccXfer_nacked (hshort : st ≤ ms (prmN s Prm.twAccStretchMax)) :
    exec (.twAccXfer t m (some n) st rd) s =
      .next (ended t m { causeReply .execFault Ev.twNack with payload := .fields [("byte count", [(n : Int)])] } (fun s =>
        setAcc (fun x => { x with nacks := (x.nacks + 1) % 2 ^ 32, clearDue := false })
          (emit (.twoWire 1 (byteAt b 0) ((b.drop 3).take n)) s)) s) := by
  rw [exec_twAccXfer]
  refine serve_ended hp fun r hpay _ => ?_
  have hfails : xferHandler (some n) st rd r (startCommand m (clocked t s)) =
      answerWith { causeReply .execFault Ev.twNack with payload := .fields [("byte count", [(n : Int)])] }
        (setAcc (fun x => { x with nacks := (x.nacks + 1) % 2 ^ 32, clearDue := false })
          (emit (.twoWire 1 (byteAt b 0) ((b.drop 3).take n)) (startCommand m (clocked t s)))) := by
    refine (xfer_wellFormed hleast hlen haddr hw hr hrun hpay rfl).trans ((if_neg (Bool.eq_false_iff.mp hfree)).trans ?_)
    rw [hpay]
    exact if_neg (Nat.not_lt.mpr hshort)
  rw [hfails]
  rfl

theorem twAccXfer_timesOut (hlong : ms (prmN s Prm.twAccStretchMax) < st) :
    exec (.twAccXfer t m na st rd) s = .next (ended t m (causeReply .execFault Ev.twTimeout) (fun s =>
      setAcc (fun x => { x with timeouts := (x.timeouts + 1) % 2 ^ 32, clearDue := true })
        (emit (.twoWire 1 (byteAt b 0) (na.elim (b.drop 3) (b.drop 3).take)) s)) s) := by
  rw [exec_twAccXfer]
  refine serve_ended hp fun r hpay _ => ?_
  have hfails : xferHandler na st rd r (startCommand m (clocked t s)) =
      answerWith (causeReply .execFault Ev.twTimeout)
        (setAcc (fun x => { x with timeouts := (x.timeouts + 1) % 2 ^ 32, clearDue := true })
          (emit (.twoWire 1 (byteAt b 0) (na.elim (b.drop 3) (b.drop 3).take)) (startCommand m (clocked t s)))) := by
    refine (xfer_wellFormed hleast hlen haddr hw hr hrun hpay rfl).trans ((if_neg (Bool.eq_false_iff.mp hfree)).trans ?_)
    rw [hpay]
    cases na with
    | none => exact if_pos hlong
    | some n => exact if_pos hlong
  rw [hfails]
  rfl

end Transfer

end TwoWireCommands

/-- Settles O42: one lemma for each frame, byte, message and transfer. -/
theorem forerunnerMapAndTwoWire : Obligations.ForerunnerMapAndTwoWire := by
  unfold Obligations.ForerunnerMapAndTwoWire
  refine ⟨fun t k v s => frMapSend_sends, fun t d s => frSetpointFrame_off, fun t d s => frSetpointFrame_acts,
    fun t d s => frSetpointFrame_repeats, fun t d vs vl s => frCommandFrame_acts, fun d vs vl c p s => mapExec_disabled,
    fun t a r s halive => twAddressMatch_other halive r, fun t a s => twAddressMatch_writes, fun t a n s => twAddressMatch_reads,
    fun t b s => twWindowWrite_writes, fun v s => writeByte_pointer, fun v s => writeByte_data, fun v s => writeByte_refused,
    fun t s => twDoorbellRequest_rings, fun t s => twDoorbellRead_rings, fun t s => twDoorbellAck_rings,
    fun s => bellRequest_badLength, fun s => bellRequest_busy, twTransferAbort_ends, fun t s => twLate_write,
    fun t s => twLate_read, fun t s hdue => twAttention_attempts hdue 0, fun t s hdue => twAttention_attempts hdue 1,
    fun t s hdue => twAttention_attempts hdue 2, fun t a o s hdue => twAttnRetry_attempts hdue o, fun t m s => twSvcStatus_reads,
    fun t m s => twAccStatus_reads, fun t k s => twBusClear_frees, fun t s => twBusClear_sticks, fun t m st rd b s => twAccXfer_reads,
    fun t m st n rd b s => twAccXfer_nacked, ?timesOut, fun t m st na rd b s => twAccXfer_stuck⟩
  case timesOut =>
    intro t m st na rd b s
    cases na with
    | none => exact twAccXfer_timesOut
    | some n => exact twAccXfer_timesOut

end Sys2Proof.Machine

namespace Sys2Proof.Machine

/-! ## Pages and the store (18 R516 to R521) -/

@[simp] theorem flushAllowed_clocked (t : Nat) (s : State) : flushAllowed (clocked t s) = flushAllowed s := rfl

@[simp] theorem cursorOf_clocked (t : Nat) (s : State) (c : Nat) : cursorOf (clocked t s) c = cursorOf s c := rfl

@[simp] theorem cursorOf_started (m t : Nat) (s : State) (c : Nat) : cursorOf (startCommand m (clocked t s)) c = cursorOf s c := rfl

section Pages

variable {t : Nat} {s : State}

theorem recFlushPeriod_begins (hlong : s.well.lastFlush + sec (prmN s Prm.recFlushPeriod) ≤ max s.now t) (hmode : s.core.mode ≠ .shelf) :
    exec (.recFlushPeriod t) s = .next (after t beginFlush s) := by
  have hheld : heldFor (clocked t s) (clocked t s).well.lastFlush (sec (prmN (clocked t s) Prm.recFlushPeriod)) = true :=
    decide_eq_true hlong
  rw [exec_recFlushPeriod]
  exact timed_next (if_pos (Bool.and_eq_true_iff.mpr ⟨hheld, by simp [hmode]⟩))

theorem recFlushPeriod_waits (hearly : max s.now t < s.well.lastFlush + sec (prmN s Prm.recFlushPeriod)) :
    exec (.recFlushPeriod t) s = .next (after t (fun s => s) s) := by
  have hnot : heldFor (clocked t s) (clocked t s).well.lastFlush (sec (prmN (clocked t s) Prm.recFlushPeriod)) = false :=
    decide_eq_false (Nat.not_le.mpr hearly)
  rw [exec_recFlushPeriod]
  exact timed_next (if_neg (by rw [hnot]; exact Bool.false_ne_true))

theorem beginFlush_allowed (hmay : flushAllowed s = true) : beginFlush s = { startFlush s with tim.edges := [] } := if_pos hmay

theorem recordFlush_startsPage (hflush : s.well.flushing = true) (hpage : s.well.page = none) (hmay : flushAllowed s = true)
    (hopen : s.thm.shutdown = none) (hclear : s.well.clear = none) (hsome : s.well.buf ≠ []) :
    exec (.recordFlush t) s = .next (after t (fun s => { s with well.page := some (nextPage s.well) }) s) := by
  rw [exec_recordFlush]
  exact timed_next (if_pos (by simp [hflush, hpage, hmay, hopen, hclear, hsome]))

theorem recordFlush_forbidden (hnot : flushAllowed s = false) : exec (.recordFlush t) s = .next (after t (fun s => s) s) := by
  rw [exec_recordFlush]
  exact timed_next (if_neg (by simp [hnot]))

theorem nvmPageCommit_commits (rt : Bool) {p : List Nat} (hpage : s.well.page = some p) :
    exec (.nvmPageCommit t rt) s = .next (after t (fun s =>
      let u := wrapStore (if rt then retireBlock s else s)
      let w := commitPage p u.well
      { u with well := { w with flushing := w.flushing && !w.buf.isEmpty } }) s) := by
  rw [exec_nvmPageCommit]
  apply timed_next
  simp only [clocked_well, hpage]

theorem wrapStore_room (hroom : s.well.store.length + 64 ≤ 2097152) : wrapStore s = s := if_pos hroom

theorem retireBlock_plenty (hmany : 9 < s.well.spare) : retireBlock s = { s with well.spare := s.well.spare - 1 } :=
  if_neg (by omega)

theorem retireBlock_low (hfew : s.well.spare ≤ 9) :
    retireBlock s = record Ev.recSpareLow 4 [((s.well.spare - 1 : Nat) : Int)] { s with well.spare := s.well.spare - 1 } :=
  if_pos (by omega)

end Pages

/-! ## Cursors (18 R522, R523) -/

section Cursors

variable {t m c n k : Nat} {b : List Byte} {l : List EventRec} {s : State}

theorem cursorExpiry_frees (howned : (cursorOf s c).owner.isSome = true) (hlong : (cursorOf s c).usedAt + sec 600 ≤ max s.now t) :
    exec (.cursorExpiry t c) s = .next (after t (setCursor c (fun _ => {})) s) := by
  have hheld : heldFor (clocked t s) (cursorOf (clocked t s) c).usedAt (sec 600) = true := decide_eq_true hlong
  rw [exec_cursorExpiry]
  exact timed_next (if_pos (Bool.and_eq_true_iff.mpr ⟨howned, hheld⟩))

section Seek

variable (hp : Pend s m Cmd.recSeek b) (hlen : b.length = 11) (hcur : byteAt b 0 ≤ 3) (hsev : byteAt b 1 ≤ 6) (hkind : byteAt b 2 ≤ 3)
  (hval : byteAt b 2 ≠ 0 ∨ leAt b 3 8 < 2 ^ 32)

section SeekFields

include hlen hcur hsev hkind hval

/-- A REC_SEEK with its fields in range is judged by the cursor's owner. -/
theorem recSeekHandler_judged {r : Request} {u : State} (hr : r.payload = b) :
    recSeekHandler m r u =
      if cursorTaken u (byteAt b 0) m then refuse (guardReply Ev.cursorOwned) u
      else ok (setCursor (byteAt b 0) (fun _ =>
        { owner := bindingOf u m, mb := m, pos := seekPosition u (byteAt b 2) (leAt b 3 8), minSev := byteAt b 1, usedAt := u.now }) u) := by
  have hrange : ¬(decide (byteAt b 2 = 0) && decide (2 ^ 32 ≤ leAt b 3 8)) = true := by
    simp only [Bool.and_eq_true, decide_eq_true_eq]
    omega
  unfold recSeekHandler
  rw [withLength_met (hr ▸ hlen), hr]
  dsimp only
  rw [if_neg (Nat.not_lt.mpr hcur), if_neg (Nat.not_lt.mpr hsev), if_neg (Nat.not_lt.mpr hkind), if_neg hrange]

end SeekFields

include hp hlen hcur hsev hkind hval

theorem recSeek_places (hfree : cursorTaken (begun t m s) (byteAt b 0) m = false) :
    exec (.recSeek t m) s = .next (ended t m doneReply (fun s => setCursor (byteAt b 0) (fun _ =>
      { owner := bindingOf s m, mb := m, pos := seekPosition s (byteAt b 2) (leAt b 3 8), minSev := byteAt b 1, usedAt := s.now }) s) s) := by
  have hfree : ¬cursorTaken (startCommand m (clocked t s)) (byteAt b 0) m = true := Bool.eq_false_iff.mp hfree
  rw [exec_recSeek]
  refine serve_ended hp fun r hr _ => ?_
  rw [recSeekHandler_judged hlen hcur hsev hkind hval hr, if_neg hfree]
  rfl

theorem recSeek_refused (htaken : cursorTaken (begun t m s) (byteAt b 0) m = true) :
    exec (.recSeek t m) s = .next (turnedAway t m (guardReply Ev.cursorOwned) s) := by
  have htaken : cursorTaken (startCommand m (clocked t s)) (byteAt b 0) m = true := htaken
  rw [exec_recSeek]
  refine serve_turned hp fun r hr _ => ?_
  rw [recSeekHandler_judged hlen hcur hsev hkind hval hr, if_pos htaken]
  rfl

end Seek

section Read

variable (hp : Pend s m Cmd.recRead b) (hlen : b.length = 2) (hcur : byteAt b 0 ≤ 3) (hleast : byteAt b 1 ≠ 0) (hmost : byteAt b 1 ≤ 16)
include hp hlen hcur hleast hmost

theorem recRead_unowned (hfree : (cursorOf s (byteAt b 0)).owner = none) :
    exec (.recRead t m) s = .next (turnedAway t m (guardReply Ev.cursorFree) s) := by
  rw [exec_recRead]
  refine serve_turned hp fun r hr _ => ?_
  unfold recReadHandler
  rw [withLength_met (hr ▸ hlen), hr]
  dsimp only
  rw [if_neg (Nat.not_lt.mpr hcur), if_neg (by simp [hleast, Nat.not_lt.mpr hmost]), if_pos (by simp [hfree])]
  rfl

variable (howned : (cursorOf s (byteAt b 0)).owner.isSome = true)
include howned

theorem recRead_refused (htaken : cursorTaken (begun t m s) (byteAt b 0) m = true) :
    exec (.recRead t m) s = .next (turnedAway t m (guardReply Ev.cursorOwned) s) := by
  have hsome : ¬(cursorOf (startCommand m (clocked t s)) (byteAt b 0)).owner.isNone = true := by simp [Option.isSome_iff_ne_none.mp howned]
  have htaken : cursorTaken (startCommand m (clocked t s)) (byteAt b 0) m = true := htaken
  rw [exec_recRead]
  refine serve_turned hp fun r hr _ => ?_
  unfold recReadHandler
  rw [withLength_met (hr ▸ hlen), hr]
  dsimp only
  rw [if_neg (Nat.not_lt.mpr hcur), if_neg (by simp [hleast, Nat.not_lt.mpr hmost]), if_neg hsome, if_pos htaken]
  rfl

/-- With no record from the cursor on, the answer says so, with NEXT where the cursor stands. -/
theorem recRead_nothing (hfree : cursorTaken (begun t m s) (byteAt b 0) m = false) (hall : heldRecords s.well = l)
    (hpos : (cursorOf s (byteAt b 0)).pos = n) (hwhole : (cursorOf s (byteAt b 0)).gap = false)
    (hnone : l.filter (fun r => seqAtMost n r.seq && (cursorOf s (byteAt b 0)).minSev ≤ r.sev) = [])
    (hnext : s.well.nextSeq = k) :
    exec (.recRead t m) s = .next (ended t m (doneWith (.bytes (leBytes 1 (byteAt b 0) ++ leBytes 1 0 ++ leBytes 2 2 ++ leBytes 4 n ++
      leBytes 4 ((l.head?.map (·.seq)).getD k)))) (fun s =>
        setCursor (byteAt b 0) (fun x => { x with pos := n, usedAt := s.now, gap := false }) s) s) := by
  have hsome : ¬(cursorOf (startCommand m (clocked t s)) (byteAt b 0)).owner.isNone = true := by simp [Option.isSome_iff_ne_none.mp howned]
  have hfree : ¬cursorTaken (startCommand m (clocked t s)) (byteAt b 0) m = true := Bool.eq_false_iff.mp hfree
  subst hall hpos hnext
  have hnone : (heldRecords (startCommand m (clocked t s)).well).filter (fun r =>
      seqAtMost (cursorOf (startCommand m (clocked t s)) (byteAt b 0)).pos r.seq &&
        (cursorOf (startCommand m (clocked t s)) (byteAt b 0)).minSev ≤ r.sev) = [] := hnone
  have hwhole : (cursorOf (startCommand m (clocked t s)) (byteAt b 0)).gap = false := hwhole
  rw [exec_recRead]
  refine serve_ended hp fun r hr _ => ?_
  unfold recReadHandler
  rw [withLength_met (hr ▸ hlen), hr]
  dsimp only
  rw [if_neg (Nat.not_lt.mpr hcur), if_neg (by simp [hleast, Nat.not_lt.mpr hmost]), if_neg hsome, if_neg hfree]
  simp only [hnone, hwhole, List.take_nil, List.flatMap_nil, List.append_nil]
  rfl

end Read

theorem recRelease_frees (hp : Pend s m Cmd.recRelease b) (hlen : b.length = 1) (hcur : byteAt b 0 ≤ 3)
    (howned : (cursorOf s (byteAt b 0)).owner.isSome = true) (hfree : cursorTaken (begun t m s) (byteAt b 0) m = false) :
    exec (.recRelease t m) s = .next (ended t m doneReply (setCursor (byteAt b 0) (fun _ => {})) s) := by
  have hsome : ¬(cursorOf (startCommand m (clocked t s)) (byteAt b 0)).owner.isNone = true := by simp [Option.isSome_iff_ne_none.mp howned]
  have hfree : ¬cursorTaken (startCommand m (clocked t s)) (byteAt b 0) m = true := Bool.eq_false_iff.mp hfree
  rw [exec_recRelease]
  refine serve_ended hp fun r hr _ => ?_
  rw [withLength_met (hr ▸ hlen), hr]
  dsimp only
  rw [if_neg (Nat.not_lt.mpr hcur), if_neg hsome, if_neg hfree]
  rfl

theorem recFlush_begins (hp : Pend s m Cmd.recFlush []) (hmay : s.thm.forbid = false) :
    exec (.recFlush t m) s = .next (ended t m doneReply beginFlush s) := by
  rw [exec_recFlush]
  exact serve_length_done hp rfl (if_neg (by simp [hmay]))

theorem recFlush_forbidden (hp : Pend s m Cmd.recFlush []) (hforbid : s.thm.forbid = true) :
    exec (.recFlush t m) s = .next (turnedAway t m (guardReply Ev.nvmTemp) s) := by
  rw [exec_recFlush]
  exact serve_length_guard hp rfl (if_pos (by simp [hforbid]))

theorem recStatus_reads (hp : Pend s m Cmd.recStatus []) : exec (.recStatus t m) s = .next (read t m recStatus s) := by
  rw [exec_recStatus]
  exact serve_length_read hp rfl rfl

theorem recCodes_reads (hp : Pend s m Cmd.recCodes b) (hlen : b.length = 2) :
    exec (.recCodes t m) s = .next (read t m (fun _ =>
      .fields (((codeTable.filter (fun e => leAt b 0 2 ≤ e.1)).take 16).map codeEntry)) s) := by
  rw [exec_recCodes]
  exact serve_length_read hp hlen rfl

end Cursors

/-- Settles O43: one lemma for each row and answer of the recorder. -/
theorem recorderFlushAndCursors : Obligations.RecorderFlushAndCursors := by
  unfold Obligations.RecorderFlushAndCursors
  exact ⟨fun t s => recFlushPeriod_begins, fun t s => recFlushPeriod_waits, fun s => beginFlush_allowed,
    fun t s => recordFlush_startsPage, fun t s => recordFlush_forbidden, fun t rt p s => nvmPageCommit_commits rt,
    fun s => wrapStore_room, fun s => retireBlock_plenty, fun s => retireBlock_low, fun t c s => cursorExpiry_frees,
    fun t m b s => recSeek_places, fun t m b s => recSeek_refused, fun t m b s => recRead_unowned, fun t m b s => recRead_refused,
    fun t m n k b l s => recRead_nothing, fun t m b s => recRelease_frees, fun t m s => recFlush_begins,
    fun t m s => recFlush_forbidden, fun t m s => recStatus_reads, fun t m b s => recCodes_reads⟩

end Sys2Proof.Machine

namespace Sys2Proof.Machine

/-! ## Clearing the recorder (18 R524, R525) -/

/-- A served request of its own, with the caller that it carries. -/
theorem serve_request {s : State} {m cmd t : Nat} {q : Request} {h : Request → State → Answer × State} {g : State → State}
    (hq : requestOf s m cmd = some q)
    (hg : giveAnswer m (h q (startCommand m (clocked t s))).1 (h q (startCommand m (clocked t s))).2 = g (startCommand m (clocked t s))) :
    timed t (serve m cmd h) s = .next (after t (fun s => g (startCommand m s)) s) := by
  refine timed_next ?_
  unfold serve
  rw [show requestOf (clocked t s) m cmd = requestOf s m cmd from rfl, hq]
  exact hg

/-- The state with a clear begun: the buffered records up to its bound go, the cursors inside move past it (18 R524). -/
def beginClear (m bound : Nat) (q : Request) (u : State) : State :=
  checkClear { u with
    well.clear := some (noteCleared (u.well.buf.filter (clearable bound))
      ⟨bound, none, bound, 0, m, byteAt q.auth 0, byteAt q.auth 1, (((heldRecords u.well).head?).map (·.seq)).getD u.well.nextSeq⟩),
    well.buf := u.well.buf.filter (fun r => !clearable bound r),
    well.cursors := u.well.cursors.map (fun c =>
      if c.owner.isSome && seqAtMost c.pos bound then { c with pos := (bound + 1) % 2 ^ 32, gap := true } else c) }

section RecClear

variable {t m : Nat} {b : List Byte} {s : State}

theorem noClear_started (hidle : s.well.clear = none) : ¬(startCommand m (clocked t s)).well.clear.isSome = true := by
  rw [show (startCommand m (clocked t s)).well = s.well from rfl, hidle]
  exact Bool.false_ne_true

section Refused

variable (hp : Pend s m Cmd.recClear b) (hlen : b.length = 4)
include hp hlen

theorem recClear_disabled (hoff : prm s Prm.recClearMode = 0) :
    exec (.recClear t m) s = .next (turnedAway t m (guardReply Ev.clearDisabled) s) := by
  have hoff : prm (startCommand m (clocked t s)) Prm.recClearMode = 0 := hoff
  rw [exec_recClear]
  refine serve_turned hp fun r hr _ => ?_
  unfold recClearHandler
  rw [withLength_met (hr ▸ hlen)]
  dsimp only
  rw [if_pos hoff]
  rfl

variable (hon : prm s Prm.recClearMode ≠ 0)
include hon

theorem recClear_busy (hbusy : s.well.clear.isSome = true) :
    exec (.recClear t m) s = .next (turnedAway t m (guardReply Ev.functionBusy) s) := by
  have hon : ¬prm (startCommand m (clocked t s)) Prm.recClearMode = 0 := hon
  have hbusy : (startCommand m (clocked t s)).well.clear.isSome = true := hbusy
  rw [exec_recClear]
  refine serve_turned hp fun r hr _ => ?_
  unfold recClearHandler
  rw [withLength_met (hr ▸ hlen)]
  dsimp only
  rw [if_neg hon, if_pos hbusy]
  rfl

theorem recClear_forbidden (hidle : s.well.clear = none) (hforbid : s.thm.forbid = true) :
    exec (.recClear t m) s = .next (turnedAway t m (guardReply Ev.nvmTemp) s) := by
  have hon : ¬prm (startCommand m (clocked t s)) Prm.recClearMode = 0 := hon
  rw [exec_recClear]
  refine serve_turned hp fun r hr _ => ?_
  unfold recClearHandler
  rw [withLength_met (hr ▸ hlen)]
  dsimp only
  rw [if_neg hon, if_neg (noClear_started hidle), if_pos (by simp [hforbid])]
  rfl

end Refused

theorem recClear_clears {bound : Nat} {q : Request} (hq : requestOf s m Cmd.recClear = some q) (hlen : q.payload.length = 4)
    (hon : prm s Prm.recClearMode ≠ 0) (hidle : s.well.clear = none) (hmay : s.thm.forbid = false)
    (hbound : (let last := (s.well.nextSeq + 2 ^ 32 - 1) % 2 ^ 32
      if leAt q.payload 0 4 = 0xFFFFFFFF || seqBefore last (leAt q.payload 0 4) then last else leAt q.payload 0 4) = bound) :
    exec (.recClear t m) s = .next (after t (fun s => beginClear m bound q (startCommand m s)) s) := by
  have hon : ¬prm (startCommand m (clocked t s)) Prm.recClearMode = 0 := hon
  rw [exec_recClear]
  refine serve_request hq ?_
  subst hbound
  unfold recClearHandler
  rw [withLength_met hlen]
  dsimp only
  rw [if_neg hon, if_neg (noClear_started hidle), if_neg (by simp [hmay])]
  rfl

end RecClear

section ClearBlocks

variable {t : Nat} {j : ClearJob} {s : State}

theorem recClearBlock_idle (rt : Bool) (hidle : s.well.clear = none) :
    exec (.recClearBlock t rt) s = .next (after t (fun s => s) s) := by
  rw [exec_recClearBlock]
  apply timed_next
  simp only [clocked_well, hidle]

theorem recClearBlock_forbidden (rt : Bool) (hjob : s.well.clear = some j) (hforbid : s.thm.forbid = true) :
    exec (.recClearBlock t rt) s = .next (after t (fun s => s) s) := by
  rw [exec_recClearBlock]
  apply timed_next
  simp only [clocked_well, hjob]
  exact if_pos hforbid

theorem recClearBlock_clears (rt : Bool) (hjob : s.well.clear = some j) (hmay : s.thm.forbid = false) :
    exec (.recClearBlock t rt) s = .next (after t (fun s =>
      let block := (s.well.store.filter (clearable j.bound)).take 1024
      let u := if rt then retireBlock s else s
      checkClear { u with
        well.clear := some (noteCleared block j), well.store := u.well.store.filter (fun r => !block.contains r),
        well.erases := if block.length = 1024 then u.well.erases + 1 else u.well.erases }) s) := by
  rw [exec_recClearBlock]
  apply timed_next
  simp only [clocked_well, hjob]
  exact if_neg (Bool.eq_false_iff.mp hmay)

theorem checkClear_waits (hjob : s.well.clear = some j) (hrest : s.well.store.any (clearable j.bound) = true) : checkClear s = s := by
  simp only [checkClear, hjob]
  exact if_pos hrest

theorem checkClear_ends (hjob : s.well.clear = some j) (hdone : s.well.store.any (clearable j.bound) = false) :
    checkClear s = finishClear j s := by
  simp only [checkClear, hjob]
  exact if_neg (Bool.eq_false_iff.mp hdone)

end ClearBlocks

/-- Settles O44: one lemma for each answer of REC_CLEAR and each block. -/
theorem recorderClearing : Obligations.RecorderClearing := by
  unfold Obligations.RecorderClearing
  exact ⟨fun t m b s => recClear_disabled, fun t m b s => recClear_busy, fun t m b s => recClear_forbidden,
    fun t m bound q s => recClear_clears, fun t rt s => recClearBlock_idle rt, fun t rt j s => recClearBlock_forbidden rt,
    fun t rt j s => recClearBlock_clears rt, fun s j => checkClear_waits, fun s j => checkClear_ends⟩

end Sys2Proof.Machine

namespace Sys2Proof.Machine

/-! ## Image slots (19 R529, R534, R535) -/

@[simp] theorem imgOf_started (m t : Nat) (s : State) (i : Nat) : imgOf (startCommand m (clocked t s)) i = imgOf s i := rfl

@[simp] theorem imgOf_clocked (t : Nat) (s : State) (i : Nat) : imgOf (clocked t s) i = imgOf s i := rfl

@[simp] theorem slotBusy_started (m t : Nat) (s : State) (i : Nat) : slotBusy (startCommand m (clocked t s)) i = slotBusy s i := rfl

section Images

variable {t m c i : Nat} {x b : List Byte} {slot : ImgSlot} {pn : Option Nat} {s : State}

section Open

variable (hp : Pend s m Cmd.imgOpen b) (hlen : b.length = 5) (himage : isImage (byteAt b 0) = true) (hleast : leAt b 1 4 ≠ 0)
  (hmost : leAt b 1 4 ≤ largestImage (byteAt b 0) + 256)

section OpenFields

include hlen himage hleast hmost

/-- An IMG_OPEN with its fields in range is judged by the guards of the slot. -/
theorem imgOpenHandler_judged {r : Request} {u : State} (hr : r.payload = b) :
    imgOpenHandler m r u = (slotGuard m (byteAt b 0) true u).elim
      (if slotBusy u (byteAt b 0) then refuse (guardReply Ev.installBusy) u
        else ok (setImg (byteAt b 0) (fun (i : ImgSlot) => { erased i with
          st := .writing, len := leAt b 1 4, owner := (bindingOf u m).map (fun n => (n, m)), usedAt := u.now }) u))
      (fun c => refuse (guardReply c) u) := by
  unfold imgOpenHandler
  rw [withLength_met (hr ▸ hlen), hr]
  dsimp only
  rw [if_neg (by simp [himage]), if_neg (by simp [hleast, Nat.not_lt.mpr hmost])]
  cases slotGuard m (byteAt b 0) true u <;> rfl

end OpenFields

include hp hlen himage hleast hmost

theorem imgOpen_opens (hfree : slotGuard m (byteAt b 0) true (begun t m s) = none) (hidle : slotBusy s (byteAt b 0) = false) :
    exec (.imgOpen t m) s = .next (ended t m doneReply (fun s => setImg (byteAt b 0) (fun (i : ImgSlot) => { erased i with
      st := .writing, len := leAt b 1 4, owner := (bindingOf s m).map (fun n => (n, m)), usedAt := s.now }) s) s) := by
  have hfree : slotGuard m (byteAt b 0) true (startCommand m (clocked t s)) = none := hfree
  rw [exec_imgOpen]
  refine serve_ended hp fun r hr _ => ?_
  rw [imgOpenHandler_judged hlen himage hleast hmost hr, hfree, Option.elim_none, if_neg (by simp [hidle])]
  rfl

theorem imgOpen_guarded (hguard : slotGuard m (byteAt b 0) true (begun t m s) = some c) :
    exec (.imgOpen t m) s = .next (turnedAway t m (guardReply c) s) := by
  have hguard : slotGuard m (byteAt b 0) true (startCommand m (clocked t s)) = some c := hguard
  rw [exec_imgOpen]
  refine serve_turned hp fun r hr _ => ?_
  rw [imgOpenHandler_judged hlen himage hleast hmost hr, hguard, Option.elim_some]
  rfl

theorem imgOpen_busy (hfree : slotGuard m (byteAt b 0) true (begun t m s) = none) (hbusy : slotBusy s (byteAt b 0) = true) :
    exec (.imgOpen t m) s = .next (turnedAway t m (guardReply Ev.installBusy) s) := by
  have hfree : slotGuard m (byteAt b 0) true (startCommand m (clocked t s)) = none := hfree
  rw [exec_imgOpen]
  refine serve_turned hp fun r hr _ => ?_
  rw [imgOpenHandler_judged hlen himage hleast hmost hr, hfree, Option.elim_none, if_pos (by simp [hbusy])]
  rfl

end Open

section Block

variable (hp : Pend s m Cmd.imgBlock b) (hleast : 9 ≤ b.length) (hmost : b.length ≤ 1032) (hzero : leAt b 1 3 = 0)
  (hformed : blockBad (begun t m s) b = none)

section BlockFields

include hleast hmost hzero hformed

/-- A well-formed block is judged by what the slot holds in its place, then by the guards of the slot. -/
theorem imgBlockHandler_judged {r : Request} (hr : r.payload = b) :
    imgBlockHandler m r (startCommand m (clocked t s)) =
      if (((imgOf s (byteAt b 0)).blocks.find? (fun x => x.1 = leAt b 4 4)).map (·.2)).isSome &&
          ((imgOf s (byteAt b 0)).blocks.find? (fun x => x.1 = leAt b 4 4)).map (·.2) != some (b.drop 8) then
        refuse (causeReply .badArgument Ev.blockConflict) (startCommand m (clocked t s))
      else (slotGuard m (byteAt b 0) true (startCommand m (clocked t s))).elim
        (if (((imgOf s (byteAt b 0)).blocks.find? (fun x => x.1 = leAt b 4 4)).map (·.2)).isSome then
          ok (setImg (byteAt b 0) (fun (i : ImgSlot) => { i with usedAt := max s.now t }) (startCommand m (clocked t s)))
        else ok (setImg (byteAt b 0) (fun (i : ImgSlot) => { i with
          blocks := insertBlock (leAt b 4 4) (b.drop 8) (imgOf s (byteAt b 0)).blocks,
          st := if 1024 * (insertBlock (leAt b 4 4) (b.drop 8) (imgOf s (byteAt b 0)).blocks).length ≥ (imgOf s (byteAt b 0)).len then .complete
            else i.st,
          usedAt := max s.now t }) (startCommand m (clocked t s))))
        (fun c => refuse (guardReply c) (startCommand m (clocked t s))) := by
  have hformed : blockBad (startCommand m (clocked t s)) b = none := hformed
  subst hr
  unfold imgBlockHandler
  dsimp only
  rw [if_neg (by simp [Nat.not_lt.mpr hleast, Nat.not_lt.mpr hmost]), if_neg (not_not.mpr hzero)]
  simp only [hformed]
  rw [imgOf_started]
  cases slotGuard m (byteAt r.payload 0) true (startCommand m (clocked t s)) <;> rfl

end BlockFields

include hp hleast hmost hzero hformed

theorem imgBlock_stores (hslot : imgOf s (byteAt b 0) = slot) (hnew : slot.blocks.find? (fun x => x.1 = leAt b 4 4) = none)
    (hfree : slotGuard m (byteAt b 0) true (begun t m s) = none) :
    exec (.imgBlock t m) s = .next (ended t m doneReply (fun s =>
      let l := insertBlock (leAt b 4 4) (b.drop 8) slot.blocks
      setImg (byteAt b 0) (fun (i : ImgSlot) => { i with
        blocks := l, st := if 1024 * l.length ≥ (imgOf s (byteAt b 0)).len then .complete else i.st, usedAt := s.now }) s) s) := by
  have hfree : slotGuard m (byteAt b 0) true (startCommand m (clocked t s)) = none := hfree
  subst hslot
  rw [exec_imgBlock]
  refine serve_ended hp fun r hr _ => ?_
  rw [imgBlockHandler_judged hleast hmost hzero hformed hr, hnew, hfree]
  rfl

theorem imgBlock_repeats (hheld : ((imgOf s (byteAt b 0)).blocks.find? (fun x => x.1 = leAt b 4 4)).map (·.2) = some (b.drop 8))
    (hfree : slotGuard m (byteAt b 0) true (begun t m s) = none) :
    exec (.imgBlock t m) s = .next (ended t m doneReply (fun s =>
      setImg (byteAt b 0) (fun (i : ImgSlot) => { i with usedAt := s.now }) s) s) := by
  have hfree : slotGuard m (byteAt b 0) true (startCommand m (clocked t s)) = none := hfree
  rw [exec_imgBlock]
  refine serve_ended hp fun r hr _ => ?_
  rw [imgBlockHandler_judged hleast hmost hzero hformed hr, hheld, if_neg (by simp), hfree]
  rfl

theorem imgBlock_conflicts (hheld : ((imgOf s (byteAt b 0)).blocks.find? (fun x => x.1 = leAt b 4 4)).map (·.2) = some x)
    (hother : x ≠ b.drop 8) :
    exec (.imgBlock t m) s = .next (turnedAway t m (causeReply .badArgument Ev.blockConflict) s) := by
  rw [exec_imgBlock]
  refine serve_turned hp fun r hr _ => ?_
  rw [imgBlockHandler_judged hleast hmost hzero hformed hr, hheld, if_pos (by simp [hother])]
  rfl

theorem imgBlock_guarded (hnew : ((imgOf s (byteAt b 0)).blocks.find? (fun x => x.1 = leAt b 4 4)).map (·.2) = none)
    (hguard : slotGuard m (byteAt b 0) true (begun t m s) = some c) :
    exec (.imgBlock t m) s = .next (turnedAway t m (guardReply c) s) := by
  have hguard : slotGuard m (byteAt b 0) true (startCommand m (clocked t s)) = some c := hguard
  rw [exec_imgBlock]
  refine serve_turned hp fun r hr _ => ?_
  rw [imgBlockHandler_judged hleast hmost hzero hformed hr, hnew, if_neg (by simp), hguard]
  rfl

end Block

section Check

variable (hp : Pend s m Cmd.imgCheck b) (hlen : b.length = 1) (himage : isImage (byteAt b 0) = true)
  (hstate : (imgOf s (byteAt b 0)).st = .complete ∨ (imgOf s (byteAt b 0)).st = .checked)

section CheckFields

include himage hstate

/-- A slot with all its blocks can be checked. -/
theorem imgCheck_checkable :
    ¬(!isImage (byteAt b 0) || !((imgOf (startCommand m (clocked t s)) (byteAt b 0)).st == .complete ||
      (imgOf (startCommand m (clocked t s)) (byteAt b 0)).st == .checked)) = true := by
  rcases hstate with h | h <;> simp [himage, h]

end CheckFields

include hp hlen himage hstate

theorem imgCheck_checks (hfree : slotGuard m (byteAt b 0) false (begun t m s) = none) (hidle : slotBusy s (byteAt b 0) = false) :
    exec (.imgCheck t m pn) s = .next (going t m (fun s => (checkImage (byteAt b 0) pn s).elim
      (finish m doneReply (setImg (byteAt b 0) (fun (i : ImgSlot) => { i with st := .checked }) s))
      (fun a => giveAnswer m (.ends a) (setImg (byteAt b 0) erased s))) s) := by
  have hfree : slotGuard m (byteAt b 0) false (startCommand m (clocked t s)) = none := hfree
  rw [exec_imgCheck]
  refine serve_going hp fun r hr _ => ?_
  subst hr
  unfold imgCheckHandler
  rw [withLength_met hlen]
  dsimp only
  rw [if_neg (imgCheck_checkable himage hstate)]
  simp only [hfree]
  rw [if_neg (by simp [hidle])]
  cases checkImage (byteAt r.payload 0) pn (startCommand m (clocked t s)) <;> rfl

theorem imgCheck_guarded (hguard : slotGuard m (byteAt b 0) false (begun t m s) = some c) :
    exec (.imgCheck t m pn) s = .next (turnedAway t m (guardReply c) s) := by
  have hguard : slotGuard m (byteAt b 0) false (startCommand m (clocked t s)) = some c := hguard
  rw [exec_imgCheck]
  refine serve_turned hp fun r hr _ => ?_
  subst hr
  unfold imgCheckHandler
  rw [withLength_met hlen]
  dsimp only
  rw [if_neg (imgCheck_checkable himage hstate)]
  simp only [hguard]
  rfl

end Check

theorem checkImage_badHeader (pn : Option Nat) (hbad : headerOk i (imgOf s i).len (stagedHeader s i) = false) :
    checkImage i pn s = some (causeReply .badArgument Ev.imgHeader) := if_pos (by simp [hbad])

section Abort

variable (hp : Pend s m Cmd.imgAbort b) (hlen : b.length = 1) (himage : isImage (byteAt b 0) = true)
  (hfree : slotGuard m (byteAt b 0) false (begun t m s) = none)

section AbortFields

include hlen himage hfree

/-- An IMG_ABORT that no guard refuses is judged by whether its install runs. -/
theorem imgAbortHandler_judged {r : Request} (hr : r.payload = b) :
    imgAbortHandler m r (startCommand m (clocked t s)) =
      if slotBusy s (byteAt b 0) then refuse (guardReply Ev.installBusy) (startCommand m (clocked t s))
      else ok (setImg (byteAt b 0) erased (startCommand m (clocked t s))) := by
  have hfree : slotGuard m (byteAt b 0) false (startCommand m (clocked t s)) = none := hfree
  subst hr
  unfold imgAbortHandler
  rw [withLength_met hlen]
  dsimp only
  rw [if_neg (by simp [himage])]
  simp only [hfree]
  rfl

end AbortFields

include hp hlen himage hfree

theorem imgAbort_erases (hidle : slotBusy s (byteAt b 0) = false) :
    exec (.imgAbort t m) s = .next (ended t m doneReply (setImg (byteAt b 0) erased) s) := by
  rw [exec_imgAbort]
  refine serve_ended hp fun r hr _ => ?_
  rw [imgAbortHandler_judged hlen himage hfree hr, if_neg (by simp [hidle])]
  rfl

theorem imgAbort_busy (hbusy : slotBusy s (byteAt b 0) = true) :
    exec (.imgAbort t m) s = .next (turnedAway t m (guardReply Ev.installBusy) s) := by
  rw [exec_imgAbort]
  refine serve_turned hp fun r hr _ => ?_
  rw [imgAbortHandler_judged hlen himage hfree hr, if_pos hbusy]
  rfl

end Abort

theorem imgOwnerTimeout_frees (howned : (imgOf s i).owner.isSome = true) (hlong : (imgOf s i).usedAt + sec 3600 ≤ max s.now t) :
    exec (.imgOwnerTimeout t i) s = .next (after t (setImg i (fun (i : ImgSlot) => { i with owner := none })) s) := by
  have hheld : heldFor (clocked t s) (imgOf (clocked t s) i).usedAt (sec 3600) = true := decide_eq_true hlong
  rw [exec_imgOwnerTimeout]
  exact timed_next (if_pos (Bool.and_eq_true_iff.mpr ⟨howned, hheld⟩))

theorem imgOwnerTimeout_waits (hearly : max s.now t < (imgOf s i).usedAt + sec 3600) :
    exec (.imgOwnerTimeout t i) s = .next (after t (fun s => s) s) := by
  have hnot : heldFor (clocked t s) (imgOf (clocked t s) i).usedAt (sec 3600) = false := decide_eq_false (Nat.not_le.mpr hearly)
  rw [exec_imgOwnerTimeout]
  exact timed_next (if_neg (by rw [hnot, Bool.and_false]; exact Bool.false_ne_true))

theorem imgStatus_reads (hp : Pend s m Cmd.imgStatus []) : exec (.imgStatus t m) s = .next (read t m imgStatus s) := by
  rw [exec_imgStatus]
  exact serve_length_read hp rfl rfl

end Images

/-- Settles O45: one lemma for each answer of an image command and for the owner's time. -/
theorem imageTransferAndCheck : Obligations.ImageTransferAndCheck := by
  unfold Obligations.ImageTransferAndCheck
  exact ⟨fun t m b s => imgOpen_opens, fun t m c b s => imgOpen_guarded, fun t m b s => imgOpen_busy,
    fun t m b i s => imgBlock_stores, fun t m b s => imgBlock_repeats, fun t m b c s => imgBlock_conflicts,
    fun t m c b s => imgBlock_guarded, fun t m pn b s => imgCheck_checks, fun t m c pn b s => imgCheck_guarded,
    fun i p s => checkImage_badHeader p, fun t m b s => imgAbort_erases, fun t m b s => imgAbort_busy,
    fun t i s => imgOwnerTimeout_frees, fun t i s => imgOwnerTimeout_waits, fun t m s => imgStatus_reads⟩

end Sys2Proof.Machine

namespace Sys2Proof.Machine

/-! ## The start of an install (19 R533, R536, R537, R544) -/

section Start

variable {t m : Nat} {pn : Option Nat} {b : List Byte} {l : List Nat} {a : Reply} {s : State}

section ImgInstall

variable (hp : Pend s m Cmd.imgInstall b) (hlen : b.length = 1) (hleast : byteAt b 0 ≠ 0) (hmost : byteAt b 0 ≤ 8)
  (hchecked : (imgOf s (byteAt b 0)).st = .checked)

section ImgInstallFields

include hlen hleast hmost hchecked

/-- An install of a CHECKED slot is judged by the refusals at its start. -/
theorem imgInstallHandler_judged {r : Request} (hr : r.payload = b) :
    imgInstallHandler m pn r (startCommand m (clocked t s)) =
      (startRefusal (byteAt b 0) pn (startCommand m (clocked t s))).elim
        (.goesOn, beginStep { setImg (byteAt b 0) (fun (i : ImgSlot) => { i with marker := true }) (startCommand m (clocked t s)) with
          upd.job := some (newJob (byteAt b 0) m (enginesOf (byteAt b 0) (startCommand m (clocked t s))) (startCommand m (clocked t s))) })
        (fun a => refuse a (startCommand m (clocked t s))) := by
  subst hr
  unfold imgInstallHandler
  rw [withLength_met hlen]
  dsimp only
  rw [if_neg (by simp [hleast, Nat.not_lt.mpr hmost, hchecked])]
  cases startRefusal (byteAt r.payload 0) pn (startCommand m (clocked t s)) <;> rfl

end ImgInstallFields

include hp hlen hleast hmost hchecked

theorem imgInstall_begins (hfree : startRefusal (byteAt b 0) pn (begun t m s) = none) :
    exec (.imgInstall t m pn) s = .next (going t m (fun s =>
      beginStep { setImg (byteAt b 0) (fun (i : ImgSlot) => { i with marker := true }) s with
        upd.job := some (newJob (byteAt b 0) m (enginesOf (byteAt b 0) s) s) }) s) := by
  have hfree : startRefusal (byteAt b 0) pn (startCommand m (clocked t s)) = none := hfree
  rw [exec_imgInstall]
  refine serve_going hp fun r hr _ => ?_
  rw [imgInstallHandler_judged hlen hleast hmost hchecked hr, hfree]
  rfl

theorem imgInstall_refused (hblock : startRefusal (byteAt b 0) pn (begun t m s) = some a)
    (hstatus : a.status = .refusedGuard ∨ a.status = .incompatible) :
    exec (.imgInstall t m pn) s = .next (turnedAway t m a s) := by
  have hblock : startRefusal (byteAt b 0) pn (startCommand m (clocked t s)) = some a := hblock
  rw [exec_imgInstall]
  refine serve_turned hp fun r hr _ => ?_
  rw [imgInstallHandler_judged hlen hleast hmost hchecked hr, hblock]
  exact if_neg (by rcases hstatus with h | h <;> simp [h])

end ImgInstall

section TapInstall

variable (hp : Pend s m Cmd.tapInstall b) (hlen : b.length = 2) (hring : byteAt b 0 ≤ 2) (hchecked : (imgOf s 9).st = .checked)
  (hpos : byteAt b 1 ≤ 16) (hsome : (tapTargets s (byteAt b 0) (byteAt b 1)).isEmpty = false)
  (htaps : tapTargets s (byteAt b 0) (byteAt b 1) = l) (hfree : startRefusal 9 none (begun t m s) = none)

section TapInstallFields

include hlen hring hchecked hpos hsome htaps hfree

/-- A TAP_INSTALL of named taps that nothing refuses is judged by the revisions of the taps. -/
theorem tapInstallHandler_judged {r : Request} (hr : r.payload = b) :
    tapInstallHandler m r (startCommand m (clocked t s)) =
      if !l.all (tapFits (stagedHeader (startCommand m (clocked t s)) 9) (startCommand m (clocked t s))) then
        refuse { causeReply .incompatible Ev.imgCompat 9 with fn := 0x14 } (startCommand m (clocked t s))
      else (.goesOn, { startCommand m (clocked t s) with
        upd.job := some (newJob 9 m l (startCommand m (clocked t s))), upd.tapFail := false }) := by
  have hfree : startRefusal 9 none (startCommand m (clocked t s)) = none := hfree
  have hsame : tapTargets (startCommand m (clocked t s)) (byteAt b 0) (byteAt b 1) = l := htaps
  rw [htaps] at hsome
  subst hr
  unfold tapInstallHandler
  rw [withLength_met hlen]
  dsimp only
  rw [hsame, if_neg (by simp [Nat.not_lt.mpr hring, hchecked]), if_neg (by simp [Nat.not_lt.mpr hpos, hsome])]
  simp only [hfree]

end TapInstallFields

include hp hlen hring hchecked hpos hsome htaps hfree

theorem tapInstall_begins (hfits : l.all (tapFits (stagedHeader (begun t m s) 9) (begun t m s)) = true) :
    exec (.tapInstall t m) s =
      .next (going t m (fun s => { s with upd.job := some (newJob 9 m l s), upd.tapFail := false }) s) := by
  have hfits : l.all (tapFits (stagedHeader (startCommand m (clocked t s)) 9) (startCommand m (clocked t s))) = true := hfits
  rw [exec_tapInstall]
  refine serve_going hp fun r hr _ => ?_
  rw [tapInstallHandler_judged hlen hring hchecked hpos hsome htaps hfree hr, hfits]
  rfl

theorem tapInstall_unfit (hfits : l.all (tapFits (stagedHeader (begun t m s) 9) (begun t m s)) = false) :
    exec (.tapInstall t m) s = .next (turnedAway t m { causeReply .incompatible Ev.imgCompat 9 with fn := 0x14 } s) := by
  have hfits : l.all (tapFits (stagedHeader (startCommand m (clocked t s)) 9) (startCommand m (clocked t s))) = false := hfits
  rw [exec_tapInstall]
  refine serve_turned hp fun r hr _ => ?_
  rw [tapInstallHandler_judged hlen hring hchecked hpos hsome htaps hfree hr, hfits]
  rfl

end TapInstall

end Start

/-! ## The steps of an install (19 R536, R538 to R540, R546) -/

section Steps

variable {t e c a : Nat} {l : List Nat} {ok ps : Bool} {j : Install} {s : State}

theorem installStepDone_idle (hidle : s.upd.job = none) :
    exec (.installStepDone t ok ps) s = .next (after t (fun s => s) s) := by
  rw [exec_installStepDone]
  apply timed_next
  simp only [clocked_upd, hidle]

section Running

variable (hjob : s.upd.job = some j)
include hjob

section Copied

variable (htodo : j.todo = e :: l) (hbusy : j.busy = true) (hid : j.id ≠ 9)
include htodo hbusy hid

theorem installStepDone_again (hfirst : j.failed = 0) :
    exec (.installStepDone t false ps) s = .next (after t (setJob (fun j => { j with failed := 1 })) s) := by
  rw [exec_installStepDone]
  apply timed_next
  simp only [clocked_upd, hjob, htodo]
  exact (if_neg (by simp [hbusy, hid])).trans (if_pos (by simp [hfirst]))

theorem installStepDone_fails (hsecond : j.failed ≠ 0) :
    exec (.installStepDone t false ps) s = .next (after t (fun s =>
      (fun (u : State) => if u.pair.failed && u.pair.standby && !((u.upd.job.map (·.busy)).getD false) then startTakeover u else u)
        (verifyFail j e s)) s) := by
  rw [exec_installStepDone]
  apply timed_next
  simp only [clocked_upd, hjob, htodo]
  exact (if_neg (by simp [hbusy, hid])).trans ((if_neg (by simp [hsecond])).trans rfl)

theorem installStepDone_goesOn :
    exec (.installStepDone t true ps) s = .next (after t (fun s =>
      (fun (u : State) => if u.pair.failed && u.pair.standby && !((u.upd.job.map (·.busy)).getD false) then startTakeover u else u)
        (stepEnded (
          let u := engineBack j.id e ps (setJob (fun j => { j with busy := false, todo := l }) s)
          if (fnOf u 0x14).state == .stopping && !l.isEmpty then stepEnded u else nextEngine u))) s) := by
  rw [exec_installStepDone]
  apply timed_next
  simp only [clocked_upd, hjob, htodo]
  exact (if_neg (by simp [hbusy, hid])).trans ((if_neg (by simp)).trans rfl)

end Copied

theorem nextEngine_ends (hdone : j.todo = []) : nextEngine s = endInstall doneReply (installed j.id s) := by
  simp only [nextEngine, hjob]
  exact if_pos (by simp [hdone])

section Next

variable (htodo : j.todo = e :: l) (hid : j.id ≠ 4)
include htodo hid

theorem nextEngine_pauses (hblock : installBlock j s = some c) : nextEngine s = pauseJob c s := by
  simp only [nextEngine, hjob, hblock]
  exact (if_neg (by simp [htodo])).trans (if_neg hid)

theorem nextEngine_begins (hfree : installBlock j s = none) : nextEngine s = beginStep s := by
  simp only [nextEngine, hjob, hfree]
  exact (if_neg (by simp [htodo])).trans (if_neg hid)

end Next

theorem installResume_goesOn (hpaused : j.paused.isSome = true) (hfree : installBlock j (clocked t s) = none) (hlong : sec 1 ≤ c)
    (hid : j.id ≠ 9) :
    exec (.installResume t c) s =
      .next (after t (fun s => nextEngine (setJob (fun j => { j with paused := none, hold := false }) s)) s) := by
  rw [exec_installResume]
  apply timed_next
  simp only [clocked_upd, hjob]
  exact (if_pos (by simp [hpaused, hfree, hlong])).trans (if_neg hid)

theorem installResume_waits (hshort : c < sec 1) : exec (.installResume t c) s = .next (after t (fun s => s) s) := by
  rw [exec_installResume]
  apply timed_next
  simp only [clocked_upd, hjob]
  exact if_neg (by simp [Nat.not_le.mpr hshort])

section Paused

variable (hpaused : j.paused = some (c, a))
include hpaused

theorem installPauseTimeout_ends (hlong : a + sec 600 ≤ max s.now t) (hid : j.id ≠ 9) :
    exec (.installPauseTimeout t) s = .next (after t (fun s =>
      endInstall (guardReply c) (setImg j.id (fun (i : ImgSlot) => { i with marker := false }) s)) s) := by
  rw [exec_installPauseTimeout]
  apply timed_next
  simp only [clocked_upd, hjob, hpaused, if_neg hid]
  exact if_pos hlong

theorem installPauseTimeout_waits (hshort : max s.now t < a + sec 600) :
    exec (.installPauseTimeout t) s = .next (after t (fun s => s) s) := by
  rw [exec_installPauseTimeout]
  apply timed_next
  simp only [clocked_upd, hjob, hpaused]
  exact if_neg (Nat.not_le.mpr hshort)

end Paused

end Running

theorem nextEngine_idle (hidle : s.upd.job = none) : nextEngine s = s := by
  simp only [nextEngine, hidle]

end Steps

/-- Settles O46: one lemma for each start, step and pause. -/
theorem installSteps : Obligations.InstallSteps := by
  unfold Obligations.InstallSteps
  exact ⟨fun t m pn b s => imgInstall_begins, fun t m pn b a s => imgInstall_refused, fun t m b l s => tapInstall_begins,
    fun t m b l s => tapInstall_unfit, fun t ok ps s => installStepDone_idle, fun t e l ps j s => installStepDone_again,
    fun t e l ps j s => installStepDone_fails, fun t e l ps j s => installStepDone_goesOn, fun s => nextEngine_idle,
    fun s j => nextEngine_ends, fun s j e c l => nextEngine_pauses, fun s j e l => nextEngine_begins,
    fun t c j s => installResume_goesOn, fun t c j s => installResume_waits, fun t c a j s => installPauseTimeout_ends,
    fun t c a j s => installPauseTimeout_waits⟩

end Sys2Proof.Machine
